-- ==== Sys2Proof/Word.lean ====
section
/-! DEFINITION. The word types of the model: a byte and a 32-bit register word (R5, R38). -/

namespace Sys2Proof

/-- One byte of a frame, a packet or the shared store. -/
abbrev Byte := BitVec 8

/-- One 32-bit register of register space (Table 1.7). -/
abbrev Word := BitVec 32

end Sys2Proof
end

