-- ==== Sys2Proof/Syntax.lean ====
section
/-! DEFINITION. The commands of the block: one constructor per row of spec/opcode_table.json, with the operands a row
needs (which unit, which bytes arrive, what the world outside shows at a pin). The rows of the table give no fields;
the operands are read from the rules the rows name. -/

namespace Sys2Proof

/-- Who issues an access (Table 2.2): a local initiator, or a peer hub over a ring port with its initiator code. -/
inductive Who where
  | xspi
  | usb
  | rom
  | lmac (p : Fin 4)
  | ring (node : BitVec 8) (init : BitVec 4)
  deriving DecidableEq, Repr

/-- The four transports of Table 4.1. -/
inductive Transport where
  | xspi | usb | fabric | boot
  deriving DecidableEq, Repr

/-- Names one command: its tag space (R103) and its tag. `node` and `init` are 0 except on the fabric transport. -/
structure CmdKey where
  transport : Transport
  node      : Nat
  init      : Nat
  tag       : Nat
  deriving DecidableEq, Repr

/-- A fabric frame that arrives at a port (R49): 0 Cope, 1 Drag, 2 to 5 LMAC0 to LMAC3. `mac` is the source MAC address,
`bytes` everything between EtherType and FCS: the fabric header, the payload and any padding. -/
structure FabRx where
  port  : Fin 6
  mac   : BitVec 48
  bytes : List Byte
  deriving DecidableEq, Repr

/-- A fabric frame of this hub that comes back round the ring unconsumed, and the node in its destination address (R42, R56). -/
structure FabReturn where
  frame : FabRx
  dst   : BitVec 8
  deriving DecidableEq, Repr

/-- A frame or mPacket that ends at a MAC (R161, R168): its bytes from destination address to the last byte before the
check value, the start delimiter, the fragment-count byte of a continuation, and the check value found: 0 the FCS, 1 the
mCRC, 2 a stomped FCS, anything else none of these. -/
structure MacRx where
  bytes : List Byte
  smd   : Nat
  frag  : Nat
  check : Nat
  deriving DecidableEq, Repr

/-- A network-time message as it arrives (R218): its PTP bytes and the ingress stamp in nanoseconds of ring time. -/
structure PtpRx where
  bytes   : List Byte
  ingress : Nat
  deriving DecidableEq, Repr

/-- One xSPI transaction (Table 10.2): the address and length as sent, the bytes that follow, and how many data bytes
the host clocked before CS# rose (negative: CS# rose before the status byte). -/
structure XspiTx where
  opcodeOk : Bool
  addr     : BitVec 48
  len      : BitVec 16
  data     : List Byte
  swap     : List Byte
  clocked  : Int
  deriving DecidableEq, Repr

/-- A CAN frame as received at its frame-valid point (R313): identifier, frame format (0 classical, 1 FD, 2 XL), the
bits and XL fields of Table 11.5, the data bytes, and the age of its start-of-frame in ns. -/
structure CanRx where
  id   : BitVec 29
  ide  : Bool
  fmt  : Fin 3
  rtr  : Bool
  brs  : Bool
  esi  : Bool
  dlc  : Fin 16
  data : List Byte
  sdt  : Byte
  vcid : Byte
  sec  : Bool
  af   : Word
  age  : Nat
  deriving DecidableEq, Repr

/-- A bus error (R308): 0 bit, 1 stuff, 2 form, 3 acknowledge, 4 CRC; how many further steps of 8 the counting rules of
ISO 11898-1 bring for dominant bits after the error flag; and whether one of its exceptions leaves TEC unchanged. -/
structure CanErr where
  kind   : Fin 5
  plus8  : Nat
  exempt : Bool
  deriving DecidableEq, Repr

/-- The three feed voltages of one 10 µs sample, in mV (R377). -/
structure FeedMv where
  a   : BitVec 16
  b   : BitVec 16
  bat : BitVec 16
  deriving DecidableEq, Repr

/-- One 10 µs sample of a channel (R396): current in mA, signed, output voltage in mV. -/
structure ChSample where
  ma : BitVec 32
  mv : BitVec 32
  deriving DecidableEq, Repr

/-- What an engine cycle meets from outside the engine: whether the fetched Pattern word has bad parity (R344), and the
levels the outside puts on the Flask's pins (R337). -/
structure FlaskIn where
  flipped : Bool
  pins    : BitVec 16
  deriving DecidableEq, Repr

/-- A split transaction for a Transaction Translator (R407): periodic or not, the device endpoint it names (address,
endpoint number and direction as one number), its data length, and, at a complete-split, what the downstream bus has
brought: nothing yet, or the data (empty for a handshake). -/
structure SplitTx where
  periodic : Bool
  ep       : BitVec 12
  len      : BitVec 11
  result   : Option (List Byte)
  deriving DecidableEq, Repr

/-- A SETUP packet on EP0 (R428): to the hub or to the management device, its five fields, and whether its control
transfer runs to its end before the next SETUP. -/
structure UsbSetup where
  hub   : Bool
  rt    : Byte
  rq    : Byte
  val   : BitVec 16
  idx   : BitVec 16
  len   : BitVec 16
  whole : Bool
  deriving DecidableEq, Repr

/-- A Type-C attach (R439): whether the hub's port becomes Source, and whether CC2 carries the channel. -/
structure TypecAttach where
  source : Bool
  cc2    : Bool
  deriving DecidableEq, Repr

/-- A USB PD message received (R434): its data objects, or the VDM header and objects of a structured VDM. -/
structure PdRx where
  objs : List Word
  deriving DecidableEq, Repr

/-- A word a Crucible lane writes towards q32 (R458): its bytes and its end mark. -/
structure LaneWord where
  bytes : List Byte
  eop   : Bool
  deriving DecidableEq, Repr

/-- What the three lanes produce in one cycle (R458): a word, or none. -/
structure LaneWords where
  w0 : Option LaneWord
  w1 : Option LaneWord
  w2 : Option LaneWord
  deriving DecidableEq, Repr

/-- What a boot or a warm reset meets (R504, R509): whether it follows a loss of every supply, VAON included (R495, R503),
the fence units that fail their self-test, each as its SYS_FENCE bit with its test code of Table 18.10 (a Crucible lane
with 0x0100 + c), and whether VBUS is present on UPC0 (R515). -/
structure BootEnv where
  cold  : Bool
  fails : List (Nat × Nat)
  vbus  : Bool
  deriving DecidableEq, Repr

/-- The commands of the block: one constructor per row of spec/opcode_table.json. -/
inductive Instr where
  /-- REGISTER_WRITE (R6): A write to a register field that has no behaviour row of its own sets the field according to its access code. -/
  | registerWrite (who : Who) (addr : BitVec 32) (value : Word)
  /-- REFCLK_LOST (R13): The AON island finds the reference clock absent or off frequency for 10 µs and raises a Fatal-class fault. -/
  | refclkLost (offFreq : Bool) (ppm : BitVec 32)
  /-- TIME_REPLICA_ALIGN (R14): Every 1.024 µs each island's ring-time replica is checked against the master counter and, on failure, reloaded at the next alignment. -/
  | timeReplicaAlign (isl : Fin 23) (err : BitVec 32)
  /-- LINK_FRAME_SEND (R16): At least every 1 µs the main die sends a link frame with channel commands, safe states and a short stamp to each power-edge die. -/
  | linkFrameSend (die : Fin 2) (received : Bool)
  /-- PEDIE_LINK_TIMEOUT (R16): A power-edge die that receives no valid link frame for 8 µs sets its safe-state latch and drives every channel to its safe state. -/
  | pedieLinkTimeout (die : Fin 2)
  /-- PEDIE_LINK_LOST_EXPIRE (R17): A link that stays lost for 1 ms fences the power-edge die with a Degrade-class fault. -/
  | pedieLinkLostExpire (die : Fin 2)
  /-- PEDIE_LINK_RESTORE (R398): The first valid link frame after a gap ends the gap; a gap shorter than 1 ms is recorded. -/
  | pedieLinkRestore (die : Fin 2)
  /-- SAFE_STATE_RELEASE (R398): Once the link has been valid for 10 ms and no function requires the safe state, the Crucible sends the voted release of the die's safe-state latch. -/
  | safeStateRelease (die : Fin 2)
  /-- SPRUE_WORD_WRITE (R76): A producer places a read-side word into a Sprue queue chain, using one Peck and packing narrow words. -/
  | sprueWordWrite (q : Fin 44) (bytes : List Byte) (eop : Bool) (poison : Bool)
  /-- SPRUE_WORD_READ (R77): The consumer reads a word from the front of a Sprue queue, checks its parity and updates level, packet count and watermark latches. -/
  | sprueWordRead (q : Fin 44) (upset : Option (Fin 512))
  /-- SPRUE_PECK_RETURN (R77): The Gray-coded read count reaches the write side and the returned Peck becomes usable. -/
  | spruePeckReturn (q : Fin 44)
  /-- SPRUE_INJ_PAR (R89): Writing SPRUE_CTRL.INJ_PAR makes the next read-side word carry inverted parity. -/
  | sprueInjPar (q : Fin 44)
  /-- SPRUE_MAX_RST (R89): Writing SPRUE_CTRL.MAX_RST sets SPRUE_MAXLVL.MAX to the current level. -/
  | sprueMaxRst (q : Fin 44)
  /-- FABRIC_WRITE_RX (R54): A fabric WRITE frame for this hub is taken, sequenced and applied, or refused and counted. -/
  | fabricWriteRx (f : FabRx)
  /-- FABRIC_READ_RX (R55): A fabric READ frame for this hub is served by the target side and answered with RESP within 50 µs. -/
  | fabricReadRx (f : FabRx) (upsets : List (Nat × Bool))
  /-- FABRIC_CAS_RX (R55): A fabric CAS frame is executed as one indivisible read-compare-write and answered with the old value. -/
  | fabricCasRx (f : FabRx) (upsets : List (Nat × Bool))
  /-- FABRIC_RESP_RX (R60): A RESP is matched against an outstanding transaction slot and delivered to its initiator, or discarded as stale. -/
  | fabricRespRx (f : FabRx)
  /-- FABRIC_MESSAGE_RX (R57): A MESSAGE frame is placed in the 128-entry message queue for the ROM, or discarded when the queue is full. -/
  | fabricMessageRx (f : FabRx)
  /-- FAB_UNDELIVERED_RETURN (R56): A unicast frame that comes back unconsumed is removed by its sender, counted once and recorded as FAB_NO_DEST. -/
  | fabUndeliveredReturn (r : FabReturn)
  /-- FAB_SLOT_GRANT (R58): A READ or CAS waiting for a transaction slot receives one when a slot frees and is sent. -/
  | fabSlotGrant
  /-- FAB_READ_TIMEOUT (R59): A READ or CAS with no RESP within the read timeout ends with TIMEOUT, and its slot's generation is retired and quarantined. -/
  | fabReadTimeout (slot : Fin 256)
  /-- SLOT_QUARANTINE_END (R59): After 4 ms a quarantined transaction slot returns to use. -/
  | slotQuarantineEnd (slot : Fin 256)
  /-- FAB_REORDER_EXPIRE (R64): When the oldest held frame has waited the reorder hold, or a 65th frame needs room, missing SEQ values are declared lost and held frames delivered. -/
  | fabReorderExpire
  /-- CMD_DOORBELL (R91): A write of CMD_DOORBELL.LEN submits the packet in CMD_REQ_WIN to the acceptance checks. -/
  | cmdDoorbell (len : BitVec 13)
  /-- CMD_RPL_POP (R92): Writing CMD_RPL_POP removes the front xSPI reply, delivers it and frees its tag. -/
  | cmdRplPop
  /-- COMMAND_START (R111): An accepted command starts executing once no earlier command on an overlapping unit or ORDERED barrier still holds it back. -/
  | commandStart (k : CmdKey)
  /-- EXECUTION_BOUND_EXPIRE (R120): A command that reaches its execution bound without a reply is ended with TIMEOUT. -/
  | executionBoundExpire (k : CmdKey)
  /-- REMOTE_TIMEOUT (R108): A remote command with no reply within CMD_REMOTE_TMO is answered locally with TIMEOUT and its tag held busy. -/
  | remoteTimeout (k : CmdKey)
  /-- REMOTE_TAG_HOLD_END (R108): The 64 s hold on a timed-out remote tag ends and frees the tag. -/
  | remoteTagHoldEnd (k : CmdKey)
  /-- BROADCAST_WINDOW_CLOSE (R109): At the end of the broadcast window the hub delivers one closing reply aggregating the replies received. -/
  | broadcastWindowClose (k : CmdKey)
  /-- SYS_NOP (R122): Command that does nothing and returns DONE. -/
  | sysNop (k : CmdKey)
  /-- SYS_IDENTIFY (R122): Command returning the identity, fence state, node ID, serial and image version. -/
  | sysIdentify (k : CmdKey)
  /-- SYS_ABORT (R114): Command that aborts the command holding a target tag, deciding in one step against its completion. -/
  | sysAbort (k : CmdKey)
  /-- CMD_LOG_READ (R122): Command returning records of the command log. -/
  | cmdLogRead (k : CmdKey)
  /-- SYS_UNFENCE (R34): Command that runs a fenced unit's self-test and unfences it when it passes. -/
  | sysUnfence (k : CmdKey) (code : BitVec 16)
  /-- SYS_WARM_RESET (R122): Command that replies and starts a warm reset 1 ms later. -/
  | sysWarmReset (k : CmdKey)
  /-- SYS_POWER_STATE (R516): Command that changes the power state to Full, Economy or Standby. -/
  | sysPowerState (k : CmdKey)
  /-- SYS_REG_WRITE_LIST (R123): Command that writes a list of registers in order with no other command's write between. -/
  | sysRegWriteList (k : CmdKey)
  /-- SYS_REG_READ_LIST (R123): Command that reads a list of register offsets. -/
  | sysRegReadList (k : CmdKey)
  /-- STORE_PART_READ (R122): Command returning the 16 partition registers. -/
  | storePartRead (k : CmdKey)
  /-- STORE_PART_DEFAULT (R124): Command that restores the default store partitions. -/
  | storePartDefault (k : CmdKey)
  /-- STORE_PARTITION (R124): Command that sets one store partition's first Ingot and count, clearing added Ingots. -/
  | storePartition (k : CmdKey)
  /-- PORT_BLOCK_LOCK (R127): A ring port gains block lock and FEC alignment in its mode and starts exchanging hellos. -/
  | portBlockLock (p : Fin 2)
  /-- LINK_TIMEOUT (R127): A ring port without lock at the end of the link timeout counts it and, with FALLBACK, tries the other rate. -/
  | linkTimeout (p : Fin 2)
  /-- RATE_CHANGE_APPLY (R129): At the announced ring time both ends of a segment change rate, drop link and seek again. -/
  | rateChangeApply (p : Fin 2)
  /-- HELLO_SEND (R140): Each UP or HOLD port sends a hello frame once per hello interval. -/
  | helloSend (p : Fin 2)
  /-- HELLO_RX (R140): A valid hello frame from the neighbour updates the port's neighbour state and may move the port to HOLD. -/
  | helloRx (p : Fin 2) (hello : List Byte)
  /-- HELLO_MISS (R140): A hello interval passes without a valid hello and is counted; MISS in a row declare a break. -/
  | helloMiss (p : Fin 2)
  /-- HEAL_HOLD_END (R155): After the heal hold without a missed hello the port enters UP and sends a HEAL notice. -/
  | healHoldEnd (p : Fin 2)
  /-- RING_BREAK_DECLARE (R151): A port that loses lock, sees Remote Fault or misses hellos declares a break and sends a BREAK notice. -/
  | ringBreakDeclare (p : Fin 2) (cause : Fin 4)
  /-- SEGMENT_NOTICE_APPLY (R152): At a notice's APPLY_AT every hub records the segment broken or healed and recomputes Split paths. -/
  | segmentNoticeApply
  /-- SPLIT_PATH_HOLD_END (R155): A Split stream moved to a shorter path may send on it once the path-delay difference has passed. -/
  | splitPathHoldEnd (c : Fin 1024)
  /-- RING_FRAME_RX (R134): The first 64 bytes of a tagged ring frame arrive and the hub removes, forwards, delivers or discards it. -/
  | ringFrameRx (p : Fin 2) (frame : List Byte) (fcs : Fin 3)
  /-- DD_FORGET (R137): A duplicate-table entry not refreshed for the forget time is removed. -/
  | ddForget (n : Nat)
  /-- SEQ_COUNTER_FREE (R132): A transmit sequence counter unused for 2 s is freed. -/
  | seqCounterFree (n : Nat)
  /-- FOREIGN_CLEAR (R147): RING_STAT.FOREIGN clears after 3 s with no frame from a foreign node. -/
  | foreignClear
  /-- ENUMERATION_FRAME_RX (R142): An enumeration frame received on Drag gives the hub an ID where it should take one and is passed on, or ends the run at its origin. -/
  | enumerationFrameRx (frame : List Byte)
  /-- ENUMERATION_BOUND_EXPIRE (R142): A ring enumeration whose frame has not returned by the command's bound ends with RING_NOT_CLOSED. -/
  | enumerationBoundExpire
  /-- NODE_CFG_FIXED_WRITE (R141): Writing RING_NODE_CFG with FIXED = 1 makes the hub take FIXED_ID at once and send a supervision frame. -/
  | nodeCfgFixedWrite (id : BitVec 8)
  /-- SUPERVISION_SEND (R145): Every 1 ms a hub with an ID sends a Twin supervision frame on both ports. -/
  | supervisionSend
  /-- SUPERVISION_RX (R146): A supervision frame fills the ring-map entry of its sender and is forwarded; a new node is a join. -/
  | supervisionRx (p : Fin 2) (frame : List Byte)
  /-- RING_MAP_EXPIRE (R146): A node with no supervision frame for 3 ms leaves the ring map. -/
  | ringMapExpire (node : Fin 256)
  /-- RING_STATUS (R156): Command returning ring state and the ring map. -/
  | ringStatus (k : CmdKey)
  /-- RING_ENUMERATE (R142): Command that hands out node IDs in ring order along Cope. -/
  | ringEnumerate (k : CmdKey)
  /-- RING_PORT_CONFIG (R156): Command that sets a ring port's enable, rate, FEC and fallback. -/
  | ringPortConfig (k : CmdKey)
  /-- RING_LOOP_TEST (R156): Command that runs an internal or external loop test on a ring port and reports the results. -/
  | ringLoopTest (k : CmdKey) (intact : BitVec 32) (errors : BitVec 32) (lo : BitVec 32) (hi : BitVec 32)
  /-- RING_PORT_SET (R156): Command that writes ring port or ring-wide register images as one list. -/
  | ringPortSet (k : CmdKey)
  /-- MAC_FRAME_RX (R161): A frame or mPacket ends at a MAC and is judged by length and FCS, reassembled and accepted or discarded. -/
  | macFrameRx (p : Fin 6) (mf : MacRx)
  /-- EGRESS_FRAME_START (R199): An egress port picks the next eligible frame by class, gate and fair arbitration and starts it. -/
  | egressFrameStart (p : Fin 6)
  /-- EGRESS_FRAME_END (R192): A frame finishes on the wire, its queue head advances and the egress becomes free. -/
  | egressFrameEnd (p : Fin 6)
  /-- MPACKET_PREEMPT (R169): A preemptable frame on the line is ended at its first permitted point with an mCRC for an express frame, hold or PAUSE. -/
  | mpacketPreempt (p : Fin 6)
  /-- VERIFY_RX (R172): A verify mPacket received on a port with preemption enabled is answered with a respond mPacket. -/
  | verifyRx (p : Fin 6)
  /-- RESPOND_RX (R172): A respond mPacket moves a verifying port to SUCCEEDED and sets ACTIVE. -/
  | respondRx (p : Fin 6)
  /-- VERIFY_TIMEOUT (R172): A verify attempt without a respond within VERIFY_MS is sent again or, when attempts run out, fails. -/
  | verifyTimeout (p : Fin 6)
  /-- PAUSE_RX (R176): A PAUSE frame received on a local port loads, reloads or ends the pause timer. -/
  | pauseRx (l : Fin 4) (quanta : BitVec 16)
  /-- PAUSE_TIMER_EXPIRE (R176): The pause timer reaches zero and the port resumes sending. -/
  | pauseTimerExpire (l : Fin 4)
  /-- PAUSE_XOFF (R178): Received frames waiting in the store reach XOFF and the port sends a PAUSE. -/
  | pauseXoff (l : Fin 4)
  /-- PAUSE_REFRESH (R178): While the level stays at XON or above, the port resends PAUSE each half pause time. -/
  | pauseRefresh (l : Fin 4)
  /-- PAUSE_XON (R178): The level falls below XON and the port sends a PAUSE with quanta 0. -/
  | pauseXon (l : Fin 4)
  /-- LMAC_LINK_CHANGE (R179): A USXGMII control word changes a local port's link, speed or duplex. -/
  | lmacLinkChange (l : Fin 4) (control : BitVec 16)
  /-- LMAC_CONFIG (R182): Command that sets a port's MAC enables, preemption and PAUSE settings. -/
  | lmacConfig (k : CmdKey)
  /-- STATS_READ (R182): Command returning a port's or a stream context's counters. -/
  | statsRead (k : CmdKey)
  /-- TXD_PUSH (R190): Writing SCHED_TXD_CMD pushes a frame descriptor for a stream context. -/
  | txdPush (who : Who) (c : Fin 1024) (cmd : Word)
  /-- DESCRIPTOR_JUDGE (R191): A context judges a pushed descriptor by the enqueue checks and meter, copies and queues the frame, and advances ENQ_SEQ. -/
  | descriptorJudge (c : Fin 1024)
  /-- CTX_CLOSE_WRITE (R193): Writing CTX_CTRL.EN = 0 closes a context and flushes its queued frames. -/
  | ctxCloseWrite (c : Fin 1024)
  /-- GATE_EDGE (R203): The gate control list moves to its next entry and the gate vector changes. -/
  | gateEdge (p : Fin 6)
  /-- GATE_HOLD_ASSERT (R205): HOLD_ADV before a closing gate edge the hold preempts the preemptable frame on the line. -/
  | gateHoldAssert (p : Fin 6)
  /-- FRAME_WINDOW_EXPIRE (R206): A frame at the head of its class for a whole operating cycle without starting is discarded. -/
  | frameWindowExpire (p : Fin 6) (tc : Fin 8)
  /-- SCHED_CONFIG_CHANGE (R207): Writing SCHED_PCTRL.CONFIG_CHANGE requests a gate list swap. -/
  | schedConfigChange (p : Fin 6)
  /-- SWAP_LATCH (R208): Ten microseconds before a swap the admin list is latched and protected. -/
  | swapLatch (p : Fin 6)
  /-- GCL_SWAP (R207): At the swap time the admin list becomes the oper list. -/
  | gclSwap (p : Fin 6)
  /-- STREAM_OPEN (R210): Command that configures and enables a stream context. -/
  | streamOpen (k : CmdKey)
  /-- STREAM_CLOSE (R210): Command that closes a stream context. -/
  | streamClose (k : CmdKey)
  /-- GCL_LOAD (R210): Command that writes an admin gate list and requests a swap. -/
  | gclLoad (k : CmdKey)
  /-- STREAM_SET (R210): Command that writes a context's register images. -/
  | streamSet (k : CmdKey)
  /-- METER_SET (R210): Command that sets a context's meter. -/
  | meterSet (k : CmdKey)
  /-- SYNC_RX (R226): A Sync from the selected master updates offset, servo and time state, and is relayed on the other ring port. -/
  | syncRx (p : Fin 6) (m : PtpRx)
  /-- FOLLOW_UP_RX (R221): A Follow_Up is taken by the time engine and relayed with corrected correctionField. -/
  | followUpRx (p : Fin 6) (m : PtpRx)
  /-- ANNOUNCE_RX (R223): An Announce is compared by best master selection and relayed. -/
  | announceRx (p : Fin 6) (m : PtpRx)
  /-- PDELAY_REQ_RX (R219): A Pdelay_Req is answered within 100 µs. -/
  | pdelayReqRx (p : Fin 6) (m : PtpRx)
  /-- PDELAY_RESP_RX (R219): A Pdelay_Resp or its Follow_Up completes a peer delay exchange and updates link delay and AS_CAPABLE. -/
  | pdelayRespRx (p : Fin 6) (m : PtpRx)
  /-- PDELAY_SEND (R219): At each peer delay interval a port starts an exchange; a previous one unanswered counts as lost. -/
  | pdelaySend (p : Fin 6)
  /-- SYNC_SEND (R223): As grandmaster or local master the hub sends Sync and Follow_Up at each sync interval. -/
  | syncSend (p : Fin 6)
  /-- ANNOUNCE_SEND (R223): As grandmaster the hub sends Announce at each announce interval. -/
  | announceSend (p : Fin 6)
  /-- ANNOUNCE_TIMEOUT (R223): No better Announce for ANN_TMO intervals makes a capable hub grandmaster. -/
  | announceTimeout
  /-- SYNC_TIMEOUT (R226): No Sync for SYNC_TMO intervals switches the Sync port or enters HOLDOVER or FREERUN. -/
  | syncTimeout
  /-- HOLDOVER_END (R228): At the holdover bound the hub enters FREERUN. -/
  | holdoverEnd
  /-- SLEW_DONE (R215): A slew consumes its offset and the slew term stops. -/
  | slewDone
  /-- TIME_ACCEPT_JUMP (R230): Writing TIME_CTRL.ACCEPT_JUMP lets the next refused Sync step at once. -/
  | timeAcceptJump
  /-- TSQ_POP (R234): A read covering a transmit-timestamp queue's pop word pops its front entry. -/
  | tsqPop (p : Fin 6) (who : Who)
  /-- ACTION_FIRE (R235): A scheduled action reaches its firing time and applies its register writes. -/
  | actionFire (id : BitVec 16)
  /-- TIME_STATUS (R238): Command returning time state. -/
  | timeStatus (k : CmdKey)
  /-- TIME_ROLE (R238): Command that sets role, mode, priorities, class, slave port, domain and jump acceptance. -/
  | timeRole (k : CmdKey)
  /-- TIME_SCHEDULE (R238): Command that places a scheduled action. -/
  | timeSchedule (k : CmdKey)
  /-- TIME_CANCEL (R237): Command that cancels a scheduled action. -/
  | timeCancel (k : CmdKey)
  /-- TIME_SET (R238): Command that sets, steps or slews the time or sets TIME_INC. -/
  | timeSet (k : CmdKey)
  /-- WATERMARK_FRAME_SEND (R247): With no ledger frame sent for WM_INT_US, an Ordered context sends a watermark-only frame. -/
  | watermarkFrameSend (c : Fin 1024)
  /-- LEDGER_FRAME_RX (R250): A ledger frame for a subscription is taken, its records held and its watermarks applied. -/
  | ledgerFrameRx (frame : List Byte)
  /-- LEDGER_RELEASE (R251): A held record is released to the ordered circle when every watermark passed it or the horizon expired. -/
  | ledgerRelease
  /-- SSEQ_GAP_EXPIRE (R255): A gap in SSEQ not closed after the horizon is declared lost with a QUEUE_OVF marker. -/
  | sseqGapExpire (sub : Fin 256)
  /-- PIMG_PUBLISH (R265): At each multiple of PERIOD_US a context publishes its slots in image frames. -/
  | pimgPublish (c : Fin 1024)
  /-- IMAGE_FRAME_RX (R265): An image frame updates the mirror slots that name its node and slot. -/
  | imageFrameRx (frame : List Byte)
  /-- SLOT_STALE (R266): A slot with no write for STALE_MS sets STALE. -/
  | slotStale (slot : Fin 16384)
  /-- PIMG_MAP_SELECT (R262): Writing PIMG_MAP_SEL loads the staged words with a slot's entry. -/
  | pimgMapSelect (slot : BitVec 14)
  /-- PIMG_MAP_COMMIT (R262): Writing PIMG_MAP_W3 commits the staged entry to the slot and clears it, or discards an invalid entry. -/
  | pimgMapCommit (w3 : Word)
  /-- SUBSCRIBE (R248): Command that subscribes the ledger to a node's source. -/
  | subscribe (k : CmdKey)
  /-- UNSUBSCRIBE (R248): Command that ends a subscription. -/
  | unsubscribe (k : CmdKey)
  /-- LEDGER_CONFIG (R268): Command that sets ledger parameters, publication, enable or a trigger. -/
  | ledgerConfig (k : CmdKey)
  /-- PIMG_MAP (R268): Command that sets, reads or clears a slot map entry. -/
  | pimgMap (k : CmdKey)
  /-- LEDGER_SET (R268): Command that writes ledger register images. -/
  | ledgerSet (k : CmdKey)
  /-- XSPI_READ (R278): An xSPI READ transaction is matched to a Ladle, starts a fetch or collects data, and returns a status byte. -/
  | xspiRead (t : XspiTx)
  /-- XSPI_WRITE (R273): An xSPI WRITE transaction enters the posted-write queue. -/
  | xspiWrite (t : XspiTx)
  /-- XSPI_CAS (R278): An xSPI CAS transaction is served through a Ladle like a read. -/
  | xspiCas (t : XspiTx)
  /-- XSPI_STATUS (R274): An xSPI STATUS transaction returns queue, Ladle, Salvage and interrupt state. -/
  | xspiStatus
  /-- POSTED_WRITE_ISSUE (R273): A write leaves the posted-write queue to its target in issue order. -/
  | postedWriteIssue
  /-- LADLE_FETCH_DONE (R278): A Ladle's fetch returns and the Ladle becomes READY with its data and CODE. -/
  | ladleFetchDone (l : Fin 32)
  /-- LADLE_DISCARD (R280): A READY Ladle's discard timer expires and its data is dropped or moved to its Salvage slot. -/
  | ladleDiscard (l : Fin 32)
  /-- BRIDGE_STATUS (R294): Command returning bridge state, Ladles and Salvage slots. -/
  | bridgeStatus (k : CmdKey)
  /-- BRIDGE_WINDOW (R294): Command that sets a user window, straight wire or interrupt route. -/
  | bridgeWindow (k : CmdKey)
  /-- SALVAGE_READ (R294): Command returning and optionally freeing a Salvage slot. -/
  | salvageRead (k : CmdKey)
  /-- BRIDGE_SET (R294): Command that writes bridge register images. -/
  | bridgeSet (k : CmdKey)
  /-- CAN_FRAME_RX (R313): At the frame-valid point a received CAN frame is filtered, queued, recorded and mapped. -/
  | canFrameRx (c : Fin 64) (f : CanRx)
  /-- CAN_TX_COMPLETE (R321): A buffer's frame completes on the bus and the buffer ends TX_DONE. -/
  | canTxComplete (c : Fin 64)
  /-- CAN_ARB_LOST (R321): A frame loses arbitration and returns to PENDING, or a one-shot buffer ends LOST. -/
  | canArbLost (c : Fin 64)
  /-- CAN_ERROR (R308): A bus error moves the error counters and state, and a frame in progress returns to PENDING. -/
  | canError (c : Fin 64) (e : CanErr)
  /-- CAN_RECOVERY_DONE (R308): After 128 occurrences of 11 recessive bits the controller leaves bus-off. -/
  | canRecoveryDone (c : Fin 64)
  /-- CAN_INTEGRATION_DONE (R304): After 11 recessive bits an opened controller takes part in bus traffic. -/
  | canIntegrationDone (c : Fin 64)
  /-- CAN_CLOSE_DONE (R305): Once the frame in progress ends, a closing controller cancels buffers and asserts standby. -/
  | canCloseDone (c : Fin 64)
  /-- CAN_TT_INSTANT (R320): A WAITING time-triggered buffer reaches its instant and becomes PENDING. -/
  | canTtInstant (c : Fin 64) (b : Fin 32)
  /-- CAN_SETTLE_END (R306): SETTLE_MS after its paired channel enters ON, a HELD controller is released. -/
  | canSettleEnd (c : Fin 64)
  /-- CAN_LAG_FALL (R317): A fall in a CAN source's lag takes effect once the old lag has passed. -/
  | canLagFall (c : Fin 64)
  /-- TREF_INSTANT (R324): At each multiple of the reference period a time reference message becomes due and an unstarted one is dropped. -/
  | trefInstant (c : Fin 64)
  /-- CAN_TXMAP_PERIOD (R327): At each multiple of a periodic transmit map's period the slot value is taken and the buffer submitted. -/
  | canTxmapPeriod (c : Fin 64) (m : Fin 16)
  /-- CAN_EN_OPEN (R304): Writing CAN_CTRL.EN = 1 opens a controller. -/
  | canEnOpen (c : Fin 64)
  /-- CAN_EN_CLOSE (R305): Writing CAN_CTRL.EN = 0 closes a controller. -/
  | canEnClose (c : Fin 64)
  /-- CAN_RECOVER (R308): Writing CAN_CTRL.RECOVER starts bus-off recovery. -/
  | canRecover (c : Fin 64)
  /-- CAN_TXB_SUBMIT (R318): Writing CAN_TXB_CMD.SUBMIT copies and checks a buffer's data and submits it. -/
  | canTxbSubmit (c : Fin 64) (b : Fin 32)
  /-- CAN_TXB_CANCEL (R322): Writing CAN_TXB_CMD.CANCEL cancels a buffer against its start-of-frame. -/
  | canTxbCancel (c : Fin 64) (b : Fin 32)
  /-- CAN_FLT_COPY (R312): Writing CAN_FLT_CMD.GO copies filter elements from the host partition into a set. -/
  | canFltCopy (c : Fin 64) (cmd : Word)
  /-- CAN_TREF_ENABLE (R324): Writing CAN_TREF_CTRL.EN = 1 makes the controller a time master when ring time is valid. -/
  | canTrefEnable (c : Fin 64)
  /-- CAN_RXQ_POP (R315): A read covering CAN_RXQ_POP pops the receive entry and frees its slot. -/
  | canRxqPop (c : Fin 64) (who : Who)
  /-- CAN_TXEQ_POP (R323): A read of CAN_TXEQ_POP pops one transmit event entry. -/
  | canTxeqPop (c : Fin 64) (who : Who)
  /-- CAN_OPEN (R329): Command that derives timing and opens a controller. -/
  | canOpen (k : CmdKey)
  /-- CAN_CLOSE (R305): Command that closes a controller. -/
  | canClose (k : CmdKey)
  /-- CAN_TX (R318): Command that loads and submits a transmit buffer, optionally waiting for its end. -/
  | canTx (k : CmdKey)
  /-- CAN_CANCEL (R322): Command that cancels a transmit buffer. -/
  | canCancel (k : CmdKey)
  /-- CAN_FILTER_LOAD (R312): Command that loads a filter set. -/
  | canFilterLoad (k : CmdKey)
  /-- CAN_TIME_MASTER (R325): Command that starts or stops time reference messages. -/
  | canTimeMaster (k : CmdKey)
  /-- CAN_STATUS (R329): Command returning controller state and counters. -/
  | canStatus (k : CmdKey)
  /-- CAN_PAIR (R307): Command that changes a controller's paired channel, swapping pairings. -/
  | canPair (k : CmdKey)
  /-- CAN_SET_TIMING (R329): Command that writes the bit-timing registers. -/
  | canSetTiming (k : CmdKey)
  /-- CAN_SET_STORE (R309): Command that sets the message store layout. -/
  | canSetStore (k : CmdKey)
  /-- GO (R336): Flask instruction jumping to an address. -/
  | flaskGo (f : Fin 8) (e : Fin 8) (x : FlaskIn)
  /-- IF (R336): Flask instruction branching on a condition. -/
  | flaskIf (f : Fin 8) (e : Fin 8) (x : FlaskIn)
  /-- LOOP (R336): Flask instruction counting a loop register down and branching. -/
  | flaskLoop (f : Fin 8) (e : Fin 8) (x : FlaskIn)
  /-- SETK (R336): Flask instruction setting a loop count. -/
  | flaskSetk (f : Fin 8) (e : Fin 8) (x : FlaskIn)
  /-- HOLD (R336): Flask instruction stalling until a lane reaches a level. -/
  | flaskHold (f : Fin 8) (e : Fin 8) (x : FlaskIn)
  /-- DRIVE (R336): Flask instruction setting lane latches or directions. -/
  | flaskDrive (f : Fin 8) (e : Fin 8) (x : FlaskIn)
  /-- SEND (R339): Flask instruction sending TX stream bits to lane latches. -/
  | flaskSend (f : Fin 8) (e : Fin 8) (x : FlaskIn)
  /-- TAKE (R339): Flask instruction appending lane levels to the RX stream. -/
  | flaskTake (f : Fin 8) (e : Fin 8) (x : FlaskIn)
  /-- DRAW (R339): Flask instruction moving TX stream bits into a work register. -/
  | flaskDraw (f : Fin 8) (e : Fin 8) (x : FlaskIn)
  /-- FEED (R339): Flask instruction appending register bits to the RX stream. -/
  | flaskFeed (f : Fin 8) (e : Fin 8) (x : FlaskIn)
  /-- SEAL (R336): Flask instruction closing the assembly word early. -/
  | flaskSeal (f : Fin 8) (e : Fin 8) (x : FlaskIn)
  /-- DROP (R336): Flask instruction discarding the rest of the draw word. -/
  | flaskDrop (f : Fin 8) (e : Fin 8) (x : FlaskIn)
  /-- LOAD (R336): Flask instruction loading an immediate into a work register. -/
  | flaskLoadImm (f : Fin 8) (e : Fin 8) (x : FlaskIn)
  /-- ALU (R336): Flask instruction performing an arithmetic or logic operation. -/
  | flaskAlu (f : Fin 8) (e : Fin 8) (x : FlaskIn)
  /-- PINS (R336): Flask instruction reading the Flask's 16 pin levels. -/
  | flaskPins (f : Fin 8) (e : Fin 8) (x : FlaskIn)
  /-- STAMP (R341): Flask instruction taking a short stamp into a register or the RX queue. -/
  | flaskStamp (f : Fin 8) (e : Fin 8) (x : FlaskIn)
  /-- AT (R342): Flask instruction waiting for a ring time. -/
  | flaskAt (f : Fin 8) (e : Fin 8) (x : FlaskIn)
  /-- TALLY (R343): Flask instruction posting, claiming or clearing a tally. -/
  | flaskTally (f : Fin 8) (e : Fin 8) (x : FlaskIn)
  /-- GOI (R336): Flask instruction jumping to an address held in a register. -/
  | flaskGoi (f : Fin 8) (e : Fin 8) (x : FlaskIn)
  /-- ENGINE_ARMED_START (R348): Armed engines begin at the first island cycle at or after their start time. -/
  | engineArmedStart (f : Fin 8)
  /-- ENGINE_STOP_TAKEN (R349): A stop takes effect at the next engine-cycle boundary, halting the engine on its instruction. -/
  | engineStopTaken (f : Fin 8) (e : Fin 8)
  /-- FLASK_GO_START (R348): Writing FLASK_GO.START starts the named engines. -/
  | flaskGoStart (f : Fin 8) (mask : BitVec 8)
  /-- FLASK_GO_STOP (R349): Writing FLASK_GO.STOP requests a stop of the named engines. -/
  | flaskGoStop (f : Fin 8) (mask : BitVec 8)
  /-- FLASK_TXQ_PUSH (R340): Writing FLASK_TXQ_PUSH appends a word to an engine's TX queue. -/
  | flaskTxqPush (f : Fin 8) (e : Fin 8) (value : Word)
  /-- FLASK_RXQ_POP (R340): Reading FLASK_RXQ_POP pops an engine's front RX word. -/
  | flaskRxqPop (f : Fin 8) (e : Fin 8) (who : Who)
  /-- FLASK_TALLY_POST (R343): Writing FLASK_TALLY_CMD.POST posts to tallies. -/
  | flaskTallyPost (f : Fin 8) (mask : BitVec 8)
  /-- FLASK_TALLY_CLR (R343): Writing FLASK_TALLY_CMD.CLR clears tallies. -/
  | flaskTallyClr (f : Fin 8) (mask : BitVec 8)
  /-- FLASK_PLOAD (R346): Writing FLASK_PLOAD_CMD.GO loads a Pattern. -/
  | flaskPload (f : Fin 8) (cmd : Word)
  /-- PATTERN_LOAD_COMMIT (R347): A Pattern load commits in one Flask cycle after its copy, or is refused if an engine started. -/
  | patternLoadCommit (f : Fin 8)
  /-- FLASK_LOAD (R346): Command that loads a Pattern into Pattern memory. -/
  | flaskLoad (k : CmdKey)
  /-- FLASK_START (R348): Command that starts or arms engines. -/
  | flaskStart (k : CmdKey)
  /-- FLASK_STOP (R349): Command that stops engines. -/
  | flaskStop (k : CmdKey)
  /-- FLASK_STATUS (R352): Command returning Flask and engine state. -/
  | flaskStatus (k : CmdKey)
  /-- FLASK_ENGINE_SET (R352): Command that writes an engine's configuration registers. -/
  | flaskEngineSet (k : CmdKey)
  /-- DIO_CROSSING (R357): A line's input crosses its threshold, beginning a transition that the filter will judge. -/
  | dioCrossing (j : Fin 192) (level : Bool)
  /-- DIO_FILTER_DECIDE (R357): The filter accepts or rejects a transition, and an accepted one forms its events. -/
  | dioFilterDecide (j : Fin 192)
  /-- DIO_LAG_FALL (R359): A fall in a bank's longest filter time takes effect on its lag once the old time has passed. -/
  | dioLagFall (b : Fin 3)
  /-- DIO_OUT_SET (R363): Writing DIO_OUT_SET sets output latches. -/
  | dioOutSet (b : Fin 3) (half : Bool) (mask : Word)
  /-- DIO_OUT_CLR (R363): Writing DIO_OUT_CLR clears output latches. -/
  | dioOutClr (b : Fin 3) (half : Bool) (mask : Word)
  /-- DIO_OUT_TGL (R363): Writing DIO_OUT_TGL inverts output latches. -/
  | dioOutTgl (b : Fin 3) (half : Bool) (mask : Word)
  /-- DIO_OUT_WRITE (R363): Writing DIO_OUT sets the output latches. -/
  | dioOutWrite (b : Fin 3) (half : Bool) (value : Word)
  /-- DIO_READBACK_MISMATCH (R364): A pad level differing from the driven level for 1 µs is counted and recorded. -/
  | dioReadbackMismatch (j : Fin 192)
  /-- DIO_SCHED_FIRE (R365): A scheduled output entry reaches its time and sets the line's latch. -/
  | dioSchedFire (b : Fin 3)
  /-- DIO_SCHED_GO (R365): Writing DIO_SCHED_CMD.GO makes a scheduled output entry. -/
  | dioSchedGo (b : Fin 3) (cmd : Word)
  /-- PWM_PERIOD_START (R367): A PWM generator starts a period, applying committed values. -/
  | pwmPeriodStart (b : Fin 3) (g : Fin 16)
  /-- PWM_ON_END (R367): The on-time of a PWM period ends and the output falls. -/
  | pwmOnEnd (b : Fin 3) (g : Fin 16)
  /-- DIO_PWM_CTRL_WRITE (R367): Writing DIO_PWM_CTRL commits staged values and starts or stops a generator. -/
  | dioPwmCtrlWrite (b : Fin 3) (g : Fin 16) (value : Word)
  /-- DIO_EVQ_POP (R362): A read covering DIO_EVQ_POP pops the bank's front event. -/
  | dioEvqPop (b : Fin 3) (who : Who)
  /-- DIO_CONFIG (R370): Command that configures a line. -/
  | dioConfig (k : CmdKey)
  /-- DIO_OUTPUT (R370): Command that sets a line's output immediately. -/
  | dioOutput (k : CmdKey)
  /-- DIO_SCHEDULE (R370): Command that adds or cancels a scheduled output entry. -/
  | dioSchedule (k : CmdKey)
  /-- DIO_PWM (R370): Command that sets a PWM generator and attaches or detaches a line. -/
  | dioPwm (k : CmdKey)
  /-- DIO_STATUS (R370): Command returning a bank's levels and counters. -/
  | dioStatus (k : CmdKey)
  /-- DIO_SET (R370): Command that writes a line's register images. -/
  | dioSet (k : CmdKey)
  /-- FEED_SAMPLE (R377): Every 10 µs each feed is sensed and judged for qualification, and the selector acts on changes. -/
  | feedSample (mv : FeedMv)
  /-- FEED_BREAK_CONFIRM (R378): The broken switch's gate falls below 1 V and the dead time starts. -/
  | feedBreakConfirm
  /-- FEED_DEAD_TIME_END (R378): The dead time ends and the new feed switch is turned on. -/
  | feedDeadTimeEnd
  /-- FEED_BREAK_TIMEOUT (R380): A switch not off within 100 µs is turned on again and the change refused. -/
  | feedBreakTimeout (vgs : Word)
  /-- FEED_PIMG_PERIOD (R382): Every 100 ms each feed writes its process-image slot. -/
  | feedPimgPeriod
  /-- FEED_PRIO_WRITE (R378): Writing FEED_PRIO changes the priority order, applied after any change in progress. -/
  | feedPrioWrite (value : Word)
  /-- PRESENCE_CHANGE (R385): The presence probe's reading holds for 10 ms and the channel's load presence changes. -/
  | presenceChange (c : Fin 64) (present : Bool)
  /-- INSERT_DELAY_END (R386): Presence has held for the insertion delay with a feed selected, and the channel enters RAMP. -/
  | insertDelayEnd (c : Fin 64)
  /-- RAMP_END (R387): The output reaches within 1 V of the feed and the gate is driven fully. -/
  | rampEnd (c : Fin 64) (m : ChSample)
  /-- RAMP_TIMEOUT (R387): A ramp not ended after RAMP_MAX_MS turns the gate off as a START_TIMEOUT trip. -/
  | rampTimeout (c : Fin 64) (m : ChSample)
  /-- GATE_ON (R388): The gate reaches 7 V above source and the channel enters ON. -/
  | gateOn (c : Fin 64) (m : ChSample)
  /-- GATE_RISE_TIMEOUT (R388): The gate not fully on within the gate-rise limit latches the channel. -/
  | gateRiseTimeout (c : Fin 64) (vgs : Word)
  /-- FAST_TRIP (R389): The current crosses FAST_MA and the analog comparator discharges the gate. -/
  | fastTrip (c : Fin 64) (m : ChSample)
  /-- SLOW_OVERCURRENT (R390): Current above SLOW_MA for SLOW_MS in ON turns the gate off. -/
  | slowOvercurrent (c : Fin 64) (m : ChSample)
  /-- FET_STRESS_LIMIT (R391): The stress estimate exceeds its limit and the channel latches. -/
  | fetStressLimit (c : Fin 64) (m : ChSample)
  /-- FET_SHORT_DETECT (R392): With the gate off, an output above 12 V for 1 ms sets FET_SHORT. -/
  | fetShortDetect (c : Fin 64) (m : ChSample)
  /-- FET_SHORT_CLEAR (R392): An output below 12 V for 1 ms clears FET_SHORT. -/
  | fetShortClear (c : Fin 64) (m : ChSample)
  /-- RETRY_TIME_END (R393): The retry time ends and the channel follows its commanded state. -/
  | retryTimeEnd (c : Fin 64)
  /-- RETRY_COUNT_CLEAR (R393): After 60 s in ON without a break, RETRY_CNT returns to 0. -/
  | retryCountClear (c : Fin 64)
  /-- MEASUREMENT_UPDATE (R396): Every 1 ms channel current, voltage and feed means are updated. -/
  | measurementUpdate (c : Fin 64) (ms : List ChSample)
  /-- PCH_PIMG_PERIOD (R397): Every PIMG_MS each channel writes its process-image slot. -/
  | pchPimgPeriod (c : Fin 64)
  /-- PCH_EN_WRITE (R384): Writing PCH_CTRL.EN sets a channel's commanded state, or is kept while an emergency state holds. -/
  | pchEnWrite (who : Who) (c : Fin 64) (en : Bool)
  /-- PCH_ON (R399): Command that turns a channel on, optionally waiting for ON. -/
  | pchOn (k : CmdKey)
  /-- PCH_OFF (R399): Command that turns a channel off. -/
  | pchOff (k : CmdKey)
  /-- PCH_CONFIG (R399): Command that sets a channel's protection and sequencing. -/
  | pchConfig (k : CmdKey)
  /-- PCH_STATUS (R399): Command returning a channel's state and counters. -/
  | pchStatus (k : CmdKey)
  /-- PCH_RETRY_RESET (R393): Command that clears RETRY_CNT and releases a waiting or latched channel. -/
  | pchRetryReset (k : CmdKey)
  /-- FEED_CONFIG (R399): Command that sets a feed's window, enable, priority and dead time. -/
  | feedConfig (k : CmdKey)
  /-- FEED_STATUS (R399): Command returning feed state. -/
  | feedStatus (k : CmdKey)
  /-- PCH_SET (R399): Command that writes a channel's register images. -/
  | pchSet (k : CmdKey)
  /-- USB_VBUS_CHANGE (R403): USB_VBUS_DET changes and the upstream pull-up connects or disconnects. -/
  | usbVbusChange (up : Bool)
  /-- SET_PORT_RESET (R405): SetPortFeature(PORT_RESET) starts a downstream port reset. -/
  | setPortReset (p : Fin 8)
  /-- PORT_RESET_DONE (R405): After 15 ms of SE0 and the speed handshake the port is enabled. -/
  | portResetDone (p : Fin 8) (hs : Bool)
  /-- SET_PORT_POWER (R409): SetPortFeature(PORT_POWER) records the request and powers the port unless locked. -/
  | setPortPower (p : Fin 9)
  /-- CLEAR_PORT_POWER (R409): ClearPortFeature(PORT_POWER) powers a downstream port off. -/
  | clearPortPower (p : Fin 9)
  /-- PORT_POWER_GOOD (R409): The power-good time after power-on ends and connections are reported. -/
  | portPowerGood (p : Fin 8)
  /-- PORT_OC_FILTER_EXPIRE (R410): USBn_OC_N low for OC_FILT_MS is an over-current that powers the port off. -/
  | portOcFilterExpire (p : Fin 8) (low : Bool)
  /-- SET_PORT_SUSPEND (R412): SetPortFeature(PORT_SUSPEND) suspends a downstream port. -/
  | setPortSuspend (p : Fin 9)
  /-- CLEAR_PORT_SUSPEND (R413): ClearPortFeature(PORT_SUSPEND) starts a 20 ms resume of the port. -/
  | clearPortSuspend (p : Fin 9)
  /-- PORT_RESUME_DONE (R413): A 20 ms port resume ends with an EOP, enabling the port and setting C_PORT_SUSPEND. -/
  | portResumeDone (p : Fin 9)
  /-- HUB_SUSPEND (R412): After 3 ms of upstream idle the hub and everything below suspend. -/
  | hubSuspend
  /-- DEVICE_WAKE (R413): Resume signalling or a connection change from a downstream device wakes its port or the hub. -/
  | deviceWake (p : Fin 9)
  /-- HOST_RESUME (R413): The host resumes the suspended hub and the hub repeats it downstream. -/
  | hostResume
  /-- MGMT_REMOTE_WAKE (R414): A masked source becoming pending wakes a suspended management device by K on port 9. -/
  | mgmtRemoteWake
  /-- SET_PORT_TEST (R416): SetPortFeature(PORT_TEST) puts a downstream port in a test mode. -/
  | setPortTest (p : Fin 8) (mode : BitVec 8)
  /-- SET_TEST_MODE (R416): SetFeature(TEST_MODE) puts the upstream port in test mode. -/
  | setTestMode (mode : BitVec 8)
  /-- SPLIT_START (R407): A start-split is taken by a Transaction Translator or refused. -/
  | splitStart (p : Fin 8) (x : SplitTx)
  /-- COMPLETE_SPLIT (R407): A complete-split returns a TT transaction's result and frees its buffer. -/
  | completeSplit (p : Fin 8) (x : SplitTx)
  /-- TT_AGE_OUT (R407): A periodic transaction not finished within its frame is aged out. -/
  | ttAgeOut (p : Fin 8) (ep : BitVec 12)
  /-- CLEAR_TT_BUFFER (R407): Clear_TT_Buffer frees a non-periodic TT buffer. -/
  | clearTtBuffer (p : Fin 8) (x : SplitTx)
  /-- RESET_TT (R408): Reset_TT empties every buffer of a TT. -/
  | resetTt (p : Fin 8)
  /-- GET_TT_STATE (R404): Get_TT_State or Stop_TT receives a STALL. -/
  | getTtState (p : Fin 8)
  /-- SETUP_PACKET (R428): A SETUP on EP0 starts a control transfer, abandoning one in progress. -/
  | setupPacket (u : UsbSetup)
  /-- SET_CONFIGURATION (R426): SET_CONFIGURATION configures the device and resets toggles. -/
  | setConfiguration (u : UsbSetup)
  /-- SET_INTERFACE (R426): SET_INTERFACE selects an alternate and resets that interface's toggles. -/
  | setInterface (u : UsbSetup)
  /-- SET_ENDPOINT_HALT (R427): SetFeature(ENDPOINT_HALT) makes an endpoint answer STALL. -/
  | setEndpointHalt (u : UsbSetup)
  /-- CLEAR_ENDPOINT_HALT (R427): ClearFeature(ENDPOINT_HALT) ends a halt, resets the toggle and restarts the partial transfer. -/
  | clearEndpointHalt (u : UsbSetup)
  /-- BUS_RESET (R429): A reset of port 9 or the upstream port resets the management device. -/
  | busReset (upstream : Bool) (hs : Bool)
  /-- USB_MGMT_CONNECT (R417): Writing USB_MGMT.CONNECT = 1 reports a connect on port 9. -/
  | usbMgmtConnect
  /-- USB_MGMT_DISCONNECT (R417): Writing USB_MGMT.CONNECT = 0 reports a disconnect on port 9. -/
  | usbMgmtDisconnect
  /-- EP1_OUT_TRANSFER (R419): A bulk OUT transfer on EP1 delivers one command packet. -/
  | ep1OutTransfer (toggle : Bool) (bytes : List Byte)
  /-- EP1_IN_TRANSFER (R419): A reply is sent on EP1 IN and counts delivered on the host's acknowledgement. -/
  | ep1InTransfer (acked : Bool)
  /-- EP2_OUT_TRANSFER (R421): A bulk OUT transfer on EP2 delivers one fabric request. -/
  | ep2OutTransfer (toggle : Bool) (bytes : List Byte)
  /-- EP2_IN_TRANSFER (R420): A fabric response is sent on EP2 IN. -/
  | ep2InTransfer (acked : Bool)
  /-- EP3_IN_TRANSFER (R423): An event report is sent on EP3 IN. -/
  | ep3InTransfer (acked : Bool)
  /-- EVENT_REPORT_QUEUE (R423): A masked source becoming pending queues or merges an event report. -/
  | eventReportQueue
  /-- EP4_IN_TRANSFER (R425): An isochronous IN sends due process-image slots. -/
  | ep4InTransfer
  /-- USB_STATUS (R431): Command returning USB state and counters. -/
  | usbStatus (k : CmdKey)
  /-- USB_PORT_POWER (R411): Command that locks a port's power off or releases the lock. -/
  | usbPortPower (k : CmdKey)
  /-- USB_TEST_MODE (R416): Command that sets or ends a port test mode. -/
  | usbTestMode (k : CmdKey)
  /-- USB_SET (R431): Command that writes USB register images. -/
  | usbSet (k : CmdKey)
  /-- TYPEC_ATTACH (R439): A Type-C partner is attached and the port takes its role. -/
  | typecAttach (p : Fin 3) (a : TypecAttach)
  /-- DRP_TOGGLE (R439): A DRP port toggles between Source and Sink on its 75 ms period. -/
  | drpToggle (p : Fin 3)
  /-- TYPEC_DETACH (R440): The partner's Rd is absent for 10 ms or VBUS falls, and the port detaches. -/
  | typecDetach (p : Fin 3) (mv : BitVec 16)
  /-- VBUS_DISCHARGE_DONE (R440): VBUS reaches vSafe0V and the port returns to the unattached states. -/
  | vbusDischargeDone (p : Fin 3)
  /-- TRANSITION_START (R437): 30 ms after the GoodCRC of an Accept the source transition begins. -/
  | transitionStart (p : Fin 3)
  /-- VSET_TRIM (R437): Every 100 µs the VSET duty is trimmed; reaching the window sends PS_RDY. -/
  | vsetTrim (p : Fin 3) (mv : BitVec 16)
  /-- TRANSITION_TIMEOUT (R437): A transition not in window within TRANS_MS, or PG low for 1 ms, is a converter fault. -/
  | transitionTimeout (p : Fin 3) (pg : Bool) (mv : BitVec 16)
  /-- ISNS_SAMPLE (R438): Every 100 µs a source port checks its current for over-current or current limit. -/
  | isnsSample (p : Fin 3) (ma : BitVec 16) (mv : BitVec 16)
  /-- SOURCE_CAPABILITIES_RX (R443): Source_Capabilities received by the sink lead to a Request by its policy. -/
  | sourceCapabilitiesRx (p : Fin 3) (m : PdRx)
  /-- REQUEST_RX (R442): A Request received by a source port is accepted against its offer or rejected. -/
  | requestRx (p : Fin 3) (m : PdRx)
  /-- EPR_MODE_RX (R442): EPR_Mode (Enter) is accepted when the cable allows or answered Enter Failed. -/
  | eprModeRx (p : Fin 3) (m : PdRx)
  /-- EPR_KEEPALIVE_RX (R444): EPR_KeepAlive received keeps an EPR contract alive. -/
  | eprKeepaliveRx (p : Fin 3)
  /-- PPS_REQUEST_SEND (R444): As PPS sink the port sends a Request every 8 s. -/
  | ppsRequestSend (p : Fin 3)
  /-- EPR_KEEPALIVE_SEND (R444): As EPR sink the port sends EPR_KeepAlive every 400 ms. -/
  | eprKeepaliveSend (p : Fin 3)
  /-- KEEPALIVE_TIMEOUT (R444): A source with no PPS Request for 15 s or no EPR_KeepAlive for 1 s sends Hard Reset. -/
  | keepaliveTimeout (p : Fin 3)
  /-- HARD_RESET_RX (R444): A Hard Reset received abandons swaps and transitions and is counted. -/
  | hardResetRx (p : Fin 3)
  /-- SOFT_RESET_RX (R444): A Soft Reset received restarts negotiation and is counted. -/
  | softResetRx (p : Fin 3)
  /-- PR_SWAP_RX (R446): A PR_Swap from the partner is evaluated by policy, collisions resolved by present role. -/
  | prSwapRx (p : Fin 3)
  /-- DR_SWAP_RX (R446): A DR_Swap from the partner is accepted or rejected under the data-role rules. -/
  | drSwapRx (p : Fin 3)
  /-- VCONN_SWAP_RX (R446): A VCONN_Swap from the partner is evaluated by policy. -/
  | vconnSwapRx (p : Fin 3)
  /-- FRS_SIGNAL_RX (R447): An FRS signal on CC makes the sink hub take the Source role. -/
  | frsSignalRx (p : Fin 3)
  /-- FRS_SOURCE_LOSS (R447): UPC0_PG falls while sourcing and the hub signals FRS and becomes Sink. -/
  | frsSourceLoss
  /-- DISCOVER_IDENTITY_RX (R435): A Discover Identity answer from the cable sets its current and EPR rating. -/
  | discoverIdentityRx (p : Fin 3) (m : PdRx)
  /-- POLICY_WDOG_EXPIRE (R449): An unserviced policy watchdog puts the core on the fallback policy. -/
  | policyWdogExpire
  /-- PD_STATUS (R453): Command returning PD port state. -/
  | pdStatus (k : CmdKey)
  /-- PD_REQUEST (R443): Command that makes an explicit sink request. -/
  | pdRequest (k : CmdKey)
  /-- PD_SWAP (R446): Command that starts a PR, DR or VCONN swap. -/
  | pdSwap (k : CmdKey)
  /-- PD_POLICY_LOAD (R453): Command that checks and loads a policy image. -/
  | pdPolicyLoad (k : CmdKey)
  /-- PD_SET (R453): Command that writes PD port register images. -/
  | pdSet (k : CmdKey)
  /-- SAFETY_INPUT (R457): A safety input reaches q33 and the safety task acts on it within 100 µs. -/
  | safetyInput
  /-- SAFETY_TICK (R457): Every 1 ms the Crucible evaluates time-based conditions such as ring loss and heartbeat. -/
  | safetyTick
  /-- SAFE_CONFIRM (R467): Dies and DIO islands confirm the commanded states and SAFE is set. -/
  | safeConfirm (sf : Fin 3)
  /-- OUTPUT_TRANSACTION (R458): The lanes produce an output transaction and the voter compares and issues it. -/
  | outputTransaction (t : LaneWords)
  /-- VOTE_HOLD_END (R459): After removing a lane, the voter issues held transactions in order. -/
  | voteHoldEnd
  /-- ASSAY_SLICE (R461): A background Assay slice runs within the safety task. -/
  | assaySlice (l : Fin 3) (cls : Fin 7) (last : Bool)
  /-- DUAL_ASSAY_DONE (R462): The foreground Assays after a Dual-compare disagreement end and decide the outcome. -/
  | dualAssayDone (c0 : Fin 7) (c1 : Fin 7) (c2 : Fin 7)
  /-- LANE_RESYNC_DONE (R464): A rejoining lane's state is loaded and it joins the vote. -/
  | laneResyncDone (l : Fin 3)
  /-- INPUT_TEST_PULSE (R469): At each test period the Crucible drives the test line to TRIG_LEVEL. -/
  | inputTestPulse
  /-- INPUT_TEST_CHECK (R469): At pulse end the input's pad level is read and a failure triggers SF-A. -/
  | inputTestCheck
  /-- TRIP_TEST (R470): Every 8 ms the die tests a channel's idle fast-trip comparator. -/
  | tripTest (c : Fin 64) (cmp : Fin 2) (fail : Bool)
  /-- SAFETY_RESUME (R473): After a warm reset the Crucible writes back line copies and resumes the functions. -/
  | safetyResume
  /-- SAFE_STATUS (R479): Command returning Crucible and function state. -/
  | safeStatus (k : CmdKey)
  /-- SAFE_ARM (R466): Command that checks and arms a safety function. -/
  | safeArm (k : CmdKey)
  /-- SAFE_DISARM (R479): Command that disarms a safety function. -/
  | safeDisarm (k : CmdKey)
  /-- SAFE_EMERGENCY (R471): Command that triggers or releases a safety function. -/
  | safeEmergency (k : CmdKey)
  /-- LANE_REJOIN (R464): Command that Assays a fenced lane and rejoins it. -/
  | laneRejoin (k : CmdKey) (cls : Fin 7)
  /-- ASSAY_RUN (R479): Command that runs or reports a lane's Assay. -/
  | assayRun (k : CmdKey) (cls : Fin 7)
  /-- SAFE_SET (R479): Command that writes a function's register images. -/
  | safeSet (k : CmdKey)
  /-- FAULT_COLLECT (R485): The collector stamps, numbers and logs a raised fault and queues its notice. -/
  | faultCollect
  /-- FAULT_POP (R488): A read covering FAULT_POP pops the front fault notice. -/
  | faultPop (who : Who)
  /-- FAULT_FORCE_KEY (R496): Writing 0xA5 to FAULT_FORCE_KEY allows one FAULT_FORCE write. -/
  | faultForceKey (key : BitVec 8)
  /-- FAULT_FORCE (R496): Writing FAULT_FORCE.GO injects a fault at its detection point. -/
  | faultForce (value : Word)
  /-- ISLAND_WATCHDOG (R491): A USB, Policy or Host island watchdog expires and the island is reset or given up. -/
  | islandWatchdog (isl : Fin 3) (cause : Fin 3)
  /-- ISLAND_RESTART (R491): After 1 ms in reset the island is started again. -/
  | islandRestart (isl : Fin 3)
  /-- FAULT_READ (R498): Command returning fault log records. -/
  | faultRead (k : CmdKey)
  /-- FAULT_ACK (R497): Command that acknowledges fault records. -/
  | faultAck (k : CmdKey)
  /-- FAULT_INJECT (R496): Command that injects a fault. -/
  | faultInject (k : CmdKey)
  /-- FAULT_SET (R498): Command that writes FAULT_CTRL and FAULT_IE. -/
  | faultSet (k : CmdKey)
  /-- POWER_ON (R504): PWRON_N rising with supplies and REFCLK present starts the boot steps. -/
  | powerOn (e : BootEnv)
  /-- BOOT_SCRIPT_PACKET (R507): The next boot script packet is taken and executed as a command. -/
  | bootScriptPacket
  /-- READY_SET (R504): When the boot script ends, READY sets and RSTOUT_N is released. -/
  | readySet
  /-- BROWNOUT (R503): VDD_CORE below its threshold for 10 µs holds the main die in power-on reset. -/
  | brownout
  /-- WARM_RESET (R509): WRST_N low for 1 µs, or a SYS_WARM_RESET, resets the main-die islands and reruns boot steps 3 to 8. -/
  | warmReset (e : BootEnv)
  /-- ISLAND_GATE (R511): In Economy an island whose condition has held for 1 ms is clock-gated. -/
  | islandGate (isl : Fin 23)
  /-- ISLAND_WAKE (R511): A gated island wakes on an access within 10 µs. -/
  | islandWake (isl : Fin 23)
  /-- STANDBY_ENTRY (R512): 10 ms after a Standby request the hub rechecks and enters Standby or cancels. -/
  | standbyEntry
  /-- STANDBY_WAKE (R513): An enabled wake source fires and the AON island restores main power. -/
  | standbyWake (src : Fin 8)
  /-- WAKE_SUPPLY_READY (R513): Supplies in range for 1 ms after a wake start the boot. -/
  | wakeSupplyReady (e : BootEnv)
  /-- AON_TIME_WRITE (R514): While ring time is valid, ring time is written into AON time every second. -/
  | aonTimeWrite
  /-- UPD_RESERVE_WRITE_DONE (R524): The background write of a verified image into the reserve region completes. -/
  | updReserveWriteDone
  /-- UPD_ACTIVATION (R526): At the activation instant the ROM rechecks, writes the journal and starts a warm reset. -/
  | updActivation
  /-- COPY_BLOCK (R528): The resident loader copies one 64 KiB block of the reserve image over the running image. -/
  | copyBlock
  /-- CALIB_MTP_WRITE_DONE (R534): A calibration MTP write completes and the units use the new values. -/
  | calibMtpWriteDone
  /-- UPD_STAGE (R522): Command that writes image bytes into the staging partition. -/
  | updStage (k : CmdKey)
  /-- UPD_VERIFY (R524): Command that checks the staged image and writes it to the reserve region. -/
  | updVerify (k : CmdKey)
  /-- UPD_ACTIVATE_AT (R526): Command that sets or cancels an activation instant. -/
  | updActivateAt (k : CmdKey)
  /-- UPD_STATUS (R536): Command returning update state. -/
  | updStatus (k : CmdKey)
  /-- BUNDLE_STAGE (R522): Command that writes bundle bytes into the staging partition. -/
  | bundleStage (k : CmdKey)
  /-- CALIB_READ (R536): Command returning bytes of the calibration set. -/
  | calibRead (k : CmdKey)
  /-- CALIB_WRITE (R534): Command that rewrites the calibration set. -/
  | calibWrite (k : CmdKey)
  /-- OWNER_LOCK (R532): Command that programs the owner key or sets or clears LOCK and BUNDLE_SIG. -/
  | ownerLock (k : CmdKey)
  /-- TAP_BYPASS (R561): TAP instruction BYPASS. -/
  | tapBypass (tdi : BitVec 1)
  /-- TAP_IDCODE (R561): TAP instruction IDCODE. -/
  | tapIdcode
  /-- TAP_SAMPLE_PRELOAD (R561): TAP instruction SAMPLE/PRELOAD. -/
  | tapSamplePreload (v : List Bool)
  /-- TAP_EXTEST (R562): TAP instruction EXTEST, effective only while PWRON_N is low. -/
  | tapExtest
  /-- TAP_CLAMP (R562): TAP instruction CLAMP, effective only while PWRON_N is low. -/
  | tapClamp
  /-- TAP_HIGHZ (R562): TAP instruction HIGHZ, effective only while PWRON_N is low. -/
  | tapHighz
  /-- CAN_START_OF_FRAME (R319): A PENDING buffer (or due reference message) that wins the local choice sends its start-of-frame and becomes ACTIVE. -/
  | canStartOfFrame (c : Fin 64)
  /-- PORT_CONNECT_CHANGE (R408): A device connects to or disconnects from a downstream USB port while the hub is awake, setting C_PORT_CONNECTION and emptying the port's TT on disconnect. -/
  | portConnectChange (p : Fin 9) (connected : Bool) (low : Bool)
  /-- SUBSCRIPTION_LAGGING (R252): A subscription's watermark falls below now minus H, or no first watermark arrives by START plus H, and it becomes LAGGING. -/
  | subscriptionLagging (sub : Fin 256)
  /-- ACCEPT_RX (R446): An Accept, Reject or Wait from the PD partner answers the hub's own Request or swap request. -/
  | acceptRx (p : Fin 3) (ans : Fin 3)
  /-- PS_RDY_RX (R437): A PS_RDY from the source partner completes the sink's contract transition or a swap. -/
  | psRdyRx (p : Fin 3)
  /-- GOODCRC_TIMEOUT (R444): A PD message sent without GoodCRC in time is retried, and after three retries is discarded and counted in PD_MSG_DISCARD. -/
  | goodcrcTimeout (p : Fin 3)
  /-- PEDIE_SUPPLY_RISE (R501): VDD_PE0 or VDD_PE1 comes into range from the feeds and the power-edge die starts, die 0 starting its feed selector from FEED block reset values. -/
  | pedieSupplyRise (die : Fin 2)
  /-- TEMPERATURE_READING (R545): Every 1 ms the die temperatures in SYS_TEMP0 and SYS_TEMP1 are updated and MAIN_MAX is tracked. -/
  | temperatureReading (t0 : Word) (t1 : Word)
  deriving DecidableEq, Repr

end Sys2Proof
end

