-- ==== Sys2Proof/Machine/Bits.lean ====
section
/-! DEFINITION. Fields of a 32-bit register word (R6), the access codes of Table 0.5, the shape of a register set, and
the little-endian byte strings of R5. -/

namespace Sys2Proof.Machine

/-- A register field: word offset from the base of its register set, lowest bit and width. -/
structure Fld where
  off   : Nat
  lo    : Nat
  width : Nat
  deriving DecidableEq, Repr

/-- The access codes of Table 0.5. -/
inductive Acc where
  | ro | rw | w1c | w1s | wo | rws | rwl
  deriving DecidableEq, Repr

/-- How a register table takes a written value that lies outside its field's range. -/
inductive Clamp where
  /-- Every value of the field is taken as written. -/
  | any
  /-- Values outside `lo` to `hi` are taken as the nearest limit. -/
  | range (lo hi : Nat)
  /-- The same for a signed field, in two's complement over the field's width. -/
  | signed (lo hi : Int)
  /-- Values outside `lo` to `hi` are taken as `dflt`. -/
  | other (lo hi dflt : Nat)
  /-- Values `lo` to `hi` are taken as `dflt`. -/
  | holes (lo hi dflt : Nat)
  /-- Nearest multiple of 4 from `lo` to `hi`. DESIGN CHOICE (log entry 134): of two as near, the upper one. -/
  | step4 (lo hi : Nat)
  /-- Nearest limit, then rounded down to a multiple of 4. -/
  | down4 (lo hi : Nat)
  deriving DecidableEq, Repr

/-- One field of a register table: the field, its access code, its reset value and its range. -/
structure FieldSpec where
  fld   : Fld
  acc   : Acc
  reset : Nat
  clamp : Clamp

/-- A family of equal register sets: set `(i, j)` begins at `base + i * s1 + o2 + j * s2` and holds `size` bytes.
`resetAt i j off` is added to the fields' reset values where a table makes the reset depend on the set. -/
structure RegGroup where
  base    : Nat
  s1      : Nat
  n1      : Nat
  o2      : Nat
  s2      : Nat
  n2      : Nat
  size    : Nat
  fields  : List FieldSpec
  resetAt : Nat → Nat → Nat → Nat

/-- The set `(i, j)` of group `g` that holds address `a`, and the offset of `a`'s word in it. -/
def RegGroup.locate (g : RegGroup) (a : Nat) : Option (Nat × Nat × Nat) :=
  if a < g.base + g.o2 then none
  else
    let d := a - g.base
    let i := d / g.s1
    let r := d % g.s1
    if i < g.n1 ∧ g.o2 ≤ r then
      let j := (r - g.o2) / g.s2
      let q := (r - g.o2) % g.s2
      if j < g.n2 ∧ q < g.size then some (i, j, q - q % 4) else none
    else none

/-- Bits `[lo + width - 1 : lo]` of a register word, as a number. -/
def bitsOf (w : Word) (lo width : Nat) : Nat := (w.extractLsb' lo width).toNat

/-- The word with bits `[lo + width - 1 : lo]` replaced by the low `width` bits of `v`. -/
def putBits (w : Word) (lo width v : Nat) : Word :=
  (w &&& ~~~((BitVec.allOnes width).setWidth 32 <<< lo)) ||| ((BitVec.ofNat width v).setWidth 32 <<< lo)

/-- A signed number of `n` bits held in the natural `v`. -/
def toSigned (n v : Nat) : Int := (BitVec.ofNat n v).toInt

/-- The two's complement of `x` in `n` bits. -/
def ofSigned (n : Nat) (x : Int) : Nat := (BitVec.ofInt n x).toNat

/-- The value a table takes for a written value `v` of a field of `width` bits. -/
def Clamp.apply (c : Clamp) (width v : Nat) : Nat :=
  match c with
  | .any => v
  | .range lo hi => if v < lo then lo else if hi < v then hi else v
  | .signed lo hi =>
    let x := toSigned width v
    if x < lo then ofSigned width lo else if hi < x then ofSigned width hi else v
  | .other lo hi d => if v < lo ∨ hi < v then d else v
  | .holes lo hi d => if lo ≤ v ∧ v ≤ hi then d else v
  | .step4 lo hi => if v < lo then lo else if hi < v then hi else (v + 2) / 4 * 4
  | .down4 lo hi => (if v < lo then lo else if hi < v then hi else v) / 4 * 4

/-- The little-endian number spelled by a list of bytes (R5). -/
def leNat : List Byte → Nat
  | [] => 0
  | b :: bs => b.toNat + 256 * leNat bs

/-- `n` bytes of `v`, least significant first (R5). -/
def leBytes : Nat → Nat → List Byte
  | 0, _ => []
  | n + 1, v => BitVec.ofNat 8 v :: leBytes n (v / 256)

/-- The number of `n` bytes at offset `k` of a byte string; bytes beyond its end read as zero. -/
def leAt (bs : List Byte) (k n : Nat) : Nat := leNat ((bs.drop k).take n)

/-- Bit `i` of a number. -/
def bitAt (v i : Nat) : Bool := v.testBit i

/-- 1 for true, 0 for false. -/
def b2n (b : Bool) : Nat := if b then 1 else 0

/-- The numbers below `n` whose bit is set in `v`, lowest first. -/
def setBitsOf (v n : Nat) : List Nat := (List.range n).filter fun i => bitAt v i

/-- The value with bit `i` made `b`. -/
def setBit (v i : Nat) (b : Bool) : Nat :=
  if b then v ||| 2 ^ i else if bitAt v i then v - 2 ^ i else v

/-- One step of the reflected CRC-32C over the bits of a byte already folded in (R95). -/
def crcShift : Nat → Nat → Nat
  | 0, c => c
  | n + 1, c => crcShift n (if c % 2 = 1 then (c / 2) ^^^ 0x82F63B78 else c / 2)

/-- CRC-32C over a byte string, from a running value. -/
def crcRun : List Byte → Nat → Nat
  | [], c => c
  | b :: bs, c => crcRun bs (crcShift 8 (c ^^^ b.toNat))

/-- CRC-32C (Castagnoli): reflected polynomial 0x82F6_3B78, initial value and final XOR 0xFFFF_FFFF (R95). -/
def crc32c (bs : List Byte) : Nat := crcRun bs 0xFFFFFFFF ^^^ 0xFFFFFFFF

/-- The remainder of the Ethernet check sequence after one bit: the reflected polynomial 0xEDB8_8320. -/
def fcsBit (c : Nat) : Nat := if c % 2 = 1 then (c / 2) ^^^ 0xEDB88320 else c / 2

/-- The CRC of a frame as IEEE 802.3 forms it for the FCS (R163, R168). PRESUMED (log entry 136). -/
def crcEth (bs : List Byte) : Nat :=
  bs.foldl (fun c b => (List.range 8).foldl (fun c _ => fcsBit c) (c ^^^ b.toNat)) 0xFFFFFFFF ^^^ 0xFFFFFFFF

/-- The four bytes of a check value over `bs`: the CRC XORed with `x`, which is 0 for an FCS, 0x0000_FFFF for an mCRC and
0xFFFF_FFFF for a stomped FCS (R136, R168). -/
def checkBytes (x : Nat) (bs : List Byte) : List Byte := leBytes 4 (crcEth bs ^^^ x)

/-- The byte string with bytes `k` to `k + n - 1` made zero. -/
def zeroAt (bs : List Byte) (k n : Nat) : List Byte :=
  bs.take k ++ List.replicate (min n (bs.length - k)) 0#8 ++ bs.drop (k + n)

/-- Replace the element at place `i` of a list, if there is one. -/
def setAt {α : Type} : List α → Nat → α → List α
  | [], _, _ => []
  | _ :: xs, 0, y => y :: xs
  | x :: xs, n + 1, y => x :: setAt xs n y

/-- `x` cut to the range `lo` to `hi`. -/
def clampNat (lo hi x : Nat) : Nat := if x < lo then lo else if hi < x then hi else x

/-- Signed saturation to the range of an `n`-bit two's complement field. -/
def satSigned (n : Nat) (x : Int) : Int :=
  if x < -(2 ^ (n - 1) : Int) then -(2 ^ (n - 1) : Int)
  else if (2 ^ (n - 1) : Int) - 1 < x then (2 ^ (n - 1) : Int) - 1 else x

end Sys2Proof.Machine
end

