-- ==== Sys2Proof/Machine/Crypto.lean ====
section
/-! DEFINITION. SHA-256 and the check of an ECDSA P-256 signature, which R450, R519, R520, R529 and R532 name without
describing: FIPS 180-4 and FIPS 186-4 (PRESUMED). -/

namespace Sys2Proof.Machine

/-! ### SHA-256 -/

/-- The largest number of at most `bits` further bits above `r` whose `k`th power is at most `n`. -/
def rootOf (k n : Nat) : Nat → Nat → Nat
  | 0, r => r
  | bits + 1, r => rootOf k n bits (if (r + 2 ^ bits) ^ k ≤ n then r + 2 ^ bits else r)

/-- The first 32 bits of the fraction of the `k`th root of `p`. -/
def rootFrac (k p : Nat) : Nat := rootOf k (p * 2 ^ (32 * k)) 37 0 % 2 ^ 32

/-- The 64 primes below 312: the numbers that no prime up to 17 divides but itself. -/
def shaPrimes : List Nat :=
  (List.range' 2 310).filter fun n => [2, 3, 5, 7, 11, 13, 17].all fun d => n % d != 0 || n == d

/-- The constants of the rounds come from cube roots, the first hash value from square roots. -/
def shaCubes : List Nat := shaPrimes.map (rootFrac 3)
/-- The hash value before the first block. -/
def shaSquares : List Nat := (shaPrimes.take 8).map (rootFrac 2)

/-- A 32-bit word turned right by `n` places. -/
def turn (x n : Nat) : Nat := x / 2 ^ n + x % 2 ^ n * 2 ^ (32 - n)
/-- The sum without carries of a word's turns. -/
def turns (x : Nat) (ns : List Nat) : Nat := (ns.map (turn x)).foldl Nat.xor 0

/-- The big-endian number of a byte string. -/
def beNat (bs : List Byte) : Nat := bs.foldl (fun n b => 256 * n + b.toNat) 0

/-- The word of the message schedule that follows the sixteen words `w`. -/
def shaNext (w : List Nat) : Nat :=
  let at_ (i : Nat) := w.getD i 0
  let early := turns (at_ 1) [7, 18] ^^^ (at_ 1 / 8)
  let late := turns (at_ 14) [17, 19] ^^^ (at_ 14 / 1024)
  (at_ 0 + early + at_ 9 + late) % 2 ^ 32

/-- What a round adds to both ends of the working variables `v`, given the sum of its constant and its word. -/
def shaAdd (v : List Nat) (kw : Nat) : Nat :=
  let at_ (i : Nat) := v.getD i 0
  let choice := at_ 6 ^^^ (at_ 4 &&& (at_ 5 ^^^ at_ 6))
  at_ 7 + turns (at_ 4) [6, 11, 25] + choice + kw

/-- What a round adds to the first working variable alone. -/
def shaTop (v : List Nat) : Nat :=
  let at_ (i : Nat) := v.getD i 0
  turns (at_ 0) [2, 13, 22] + ((at_ 0 &&& (at_ 1 ||| at_ 2)) ||| (at_ 1 &&& at_ 2))

/-- The rounds of the constants `ks` over sixteen schedule words that slide along and the working variables. -/
def shaRounds : List Nat → List Nat → List Nat → List Nat
  | [], _, v => v
  | k :: ks, w, v =>
    let n := shaAdd v (k + w.headD 0)
    shaRounds ks (w.tail ++ [shaNext w])
      ((n + shaTop v) % 2 ^ 32 :: (v.take 3 ++ (v.getD 3 0 + n) % 2 ^ 32 :: (v.drop 4).take 3))

/-- The hash value after `n` more blocks of `bs`. -/
def shaRun : Nat → List Nat → List Byte → List Nat
  | 0, h, _ => h
  | n + 1, h, bs =>
    let words := (List.range 16).map fun i => beNat ((bs.drop (4 * i)).take 4)
    shaRun n (List.zipWith (fun a b => (a + b) % 2 ^ 32) h (shaRounds shaCubes words h)) (bs.drop 64)

/-- A message with its padding. -/
def shaPad (bs : List Byte) : List Byte :=
  let z := (119 - bs.length % 64) % 64
  bs ++ 0x80#8 :: List.replicate z 0#8 ++ (leBytes 8 (8 * bs.length)).reverse

/-- SHA-256 of a byte string, as a number. -/
def sha256 (bs : List Byte) : Nat :=
  let p := shaPad bs
  (shaRun (p.length / 64) shaSquares p).foldl (fun n w => 2 ^ 32 * n + w) 0

/-! ### P-256 -/

/-- The field of P-256. -/
def p256 : Nat := 2 ^ 256 - 2 ^ 224 + 2 ^ 192 + 2 ^ 96 - 1
/-- The order of its base point. -/
def n256 : Nat := 0xFFFFFFFF00000000FFFFFFFFFFFFFFFFBCE6FAADA7179E84F3B9CAC2FC632551
/-- The constant term of its equation. -/
def b256 : Nat := 0x5AC635D8AA3A93E7B3EBBD55769886BC651D06B0CC53B0F63BCE3C3E27D2604B
/-- Its base point. -/
def g256 : Nat × Nat :=
  (0x6B17D1F2E12C4247F8BCE6E563A440F277037D812DEB33A0F4A13945D898C296,
   0x4FE342E2FE1A7F9B8EE7EB4A7C0F9E162BCE33576B315ECECBB6406837BF51F5)

/-- `x` to the power `e`, of at most `fuel` bits, modulo `m`. -/
def powMod (m : Nat) : Nat → Nat → Nat → Nat
  | 0, _, _ => 1
  | fuel + 1, x, e =>
    let r := powMod m fuel (x * x % m) (e / 2)
    if e % 2 = 1 then x * r % m else r

/-- The inverse modulo a prime. -/
def invMod (m x : Nat) : Nat := powMod m 256 (x % m) (m - 2)

/-- The point on the line of slope `l` through two points. -/
def lineThird (l x1 y1 x2 : Nat) : Nat × Nat :=
  let x := (l * l + 2 * p256 - x1 - x2) % p256
  (x, (l * (x1 + p256 - x) + p256 - y1) % p256)

/-- The sum of two points; `none` is the point at infinity. -/
def addPoint : Option (Nat × Nat) → Option (Nat × Nat) → Option (Nat × Nat)
  | none, q => q
  | p, none => p
  | some (x1, y1), some (x2, y2) =>
    if x1 = x2 then
      if (y1 + y2) % p256 = 0 then none
      else some (lineThird ((3 * x1 * x1 + p256 - 3) * invMod p256 (2 * y1) % p256) x1 y1 x2)
    else some (lineThird ((y2 + p256 - y1) * invMod p256 (x2 + p256 - x1) % p256) x1 y1 x2)

/-- `k` times a point, `k` of at most `fuel` bits. -/
def mulPoint : Nat → Nat → Option (Nat × Nat) → Option (Nat × Nat)
  | 0, _, _ => none
  | fuel + 1, k, p =>
    let r := mulPoint fuel (k / 2) (addPoint p p)
    if k % 2 = 1 then addPoint p r else r

/-- Whether a point lies on the curve. -/
def onCurve (x y : Nat) : Bool :=
  decide (x < p256) && decide (y < p256) && (y * y % p256 == (x * x * x + (p256 - 3) * x + b256) % p256)

/-- Whether `(r, s)` is a signature of hash `z` under the public key `(x, y)`. -/
def ecdsaOk (x y r s z : Nat) : Bool :=
  if !onCurve x y ∨ r = 0 ∨ n256 ≤ r ∨ s = 0 ∨ n256 ≤ s then false
  else
    let w := invMod n256 s
    match addPoint (mulPoint 256 (z * w % n256) (some g256)) (mulPoint 256 (r * w % n256) (some (x, y))) with
    | none => false
    | some (px, _) => px % n256 == r

/-- Whether the 64 bytes `sig` (r then s) sign the message under the 64 bytes `key` (x then y), each number
little-endian (R5). -/
def sigOk (key sig msg : List Byte) : Bool :=
  ecdsaOk (leAt key 0 32) (leAt key 32 32) (leAt sig 0 32) (leAt sig 32 32) (sha256 msg)

end Sys2Proof.Machine
end

