-- ==== Sys2Proof/Config.lean ====
section
/-! DEFINITION. What the spec leaves open: opaque constants that stand for values the spec does not state. Nothing can
be proved about the value of any of them. -/

namespace Sys2Proof

/-- The value of TIME_INC (an 8.32 number) that the servo sets after a Sync; its algorithm is stated nowhere, only that
the ROM owns TIME_INC and clamps it (R214, R226). Applied to a fresh number each time. -/
opaque Config.servoInc : Nat → Nat

/-- The first 8 bytes of the part's die serial (SERIAL_LO of Table 5.7), as a little-endian number: fixed when the part is
made, stated nowhere. -/
opaque Config.serialLo : BitVec 64

/-- The last 8 bytes of the part's die serial. -/
opaque Config.serialHi : BitVec 64

/-- The context number a WINDOW_DROP record carries for a frame that belongs to no context: Table 18.3 gives the field
and states no value for a transit frame. -/
opaque Config.noContext : BitVec 16

/-- What REC falls to, above 119, when a frame is received with REC above 127: ISO 11898-1 (R308) gives only the range
119 to 127. Applied to a fresh number each time. -/
opaque Config.canRecBack : Nat → Fin 9

/-- Whether a DIO bank is supplied at 3.3 V (DIO_BSTAT.VSEL): set by the board, stated nowhere. -/
opaque Config.dioVsel : Nat → Bool

/-- Bytes of the USB descriptors that Tables 15.1 and 15.3 do not give (string indexes, power drawn, subclass codes),
numbered by descriptor and place. -/
opaque Config.usbOpen : Nat → BitVec 8

/-- The VSET duty after a trim step, and the duty that holds the current of a PPS contract in current limit: the control law
is stated nowhere (R437, R438). Applied to a fresh number each time. -/
opaque Config.pdTrim : Nat → BitVec 12

/-- What a policy image decides about a partner's swap (R446): the image is code of the board's owner. Applied to a fresh
number each time. -/
opaque Config.pdPolicy : Nat → Bool

/-- Bytes of the boot flash, 0 when it has no parameter table (R518, R554): the board's choice. -/
opaque Config.flashSize : Nat

/-- The Siydom factory key held in the ROM (R520): 64 bytes, stated nowhere. -/
opaque Config.factoryKey : BitVec 512

/-- UPD_NONCE, random at power-on and after each clearing (R532). Applied to a fresh number each time. -/
opaque Config.nonce : Nat → BitVec 64

/-- AON_RST_CAUSE after the warm reset of an activation: R526 starts it neither by WRST_N nor by SYS_WARM_RESET, and
Table 19.9 states no code for it. -/
opaque Config.activationCause : BitVec 4

/-- How long BUSY stands after a doorbell: R91 gives only the bound of 2 µs. Applied to a fresh number each time. -/
opaque Config.busyTime : Nat → BitVec 11

/-- What the boundary register shows for a pad: its order and the pads' levels are stated nowhere (R561). Applied to a
fresh number and a place. -/
opaque Config.padLevel : Nat → Nat → Bool

/-- How many errors of a ring line's code a moment brings: the spec counts them (R158) and states no rate. Applied to a fresh
number and to the kind of error. -/
opaque Config.lineErrors : Nat → Nat → Nat

end Sys2Proof
end

