-- ==== Sys2Proof/Machine/RegNames.lean ====
section
/-! DEFINITION. Names of the register fields: each `Fld` is the word offset of its register from the base of the
register set it belongs to, the field's lowest bit and its width, as the register tables of the spec give them. -/

namespace Sys2Proof.Machine


/-! SYS block (Tables 0.1, 1.6, 4.12, 19.9, 21.5) -/

/-- SYS block (Tables 0.1, 1.6, 4.12, 19.9, 21.5): the field the table calls SYS_ID. -/
def SYS_ID : Fld := ⟨0x0, 0, 32⟩
/-- SYS block (Tables 0.1, 1.6, 4.12, 19.9, 21.5): the field the table calls SYS_REV. -/
def SYS_REV : Fld := ⟨0x4, 0, 32⟩
/-- SYS block (Tables 0.1, 1.6, 4.12, 19.9, 21.5): the field the table calls SYS_ROM_VER. -/
def SYS_ROM_VER : Fld := ⟨0x8, 0, 32⟩
/-- SYS block (Tables 0.1, 1.6, 4.12, 19.9, 21.5): the field the table calls SYS_FENCE_CAN_ISL. -/
def SYS_FENCE_CAN_ISL : Fld := ⟨0x40, 0, 4⟩
/-- SYS block (Tables 0.1, 1.6, 4.12, 19.9, 21.5): the field the table calls SYS_FENCE_FLASK. -/
def SYS_FENCE_FLASK : Fld := ⟨0x40, 4, 8⟩
/-- SYS block (Tables 0.1, 1.6, 4.12, 19.9, 21.5): the field the table calls SYS_FENCE_DIO_BANK. -/
def SYS_FENCE_DIO_BANK : Fld := ⟨0x40, 12, 3⟩
/-- SYS block (Tables 0.1, 1.6, 4.12, 19.9, 21.5): the field the table calls SYS_FENCE_CRUC_LANE. -/
def SYS_FENCE_CRUC_LANE : Fld := ⟨0x40, 16, 3⟩
/-- SYS block (Tables 0.1, 1.6, 4.12, 19.9, 21.5): the field the table calls SYS_FENCE_COPE. -/
def SYS_FENCE_COPE : Fld := ⟨0x40, 20, 1⟩
/-- SYS block (Tables 0.1, 1.6, 4.12, 19.9, 21.5): the field the table calls SYS_FENCE_DRAG. -/
def SYS_FENCE_DRAG : Fld := ⟨0x40, 21, 1⟩
/-- SYS block (Tables 0.1, 1.6, 4.12, 19.9, 21.5): the field the table calls SYS_FENCE_PEDIE. -/
def SYS_FENCE_PEDIE : Fld := ⟨0x40, 22, 2⟩
/-- SYS block (Tables 0.1, 1.6, 4.12, 19.9, 21.5): the field the table calls SYS_FENCE_WDROP. -/
def SYS_FENCE_WDROP : Fld := ⟨0x44, 0, 32⟩
/-- SYS block (Tables 0.1, 1.6, 4.12, 19.9, 21.5): the field the table calls SYS_BOOT_STAT_STEP. -/
def SYS_BOOT_STAT_STEP : Fld := ⟨0x200, 0, 4⟩
/-- SYS block (Tables 0.1, 1.6, 4.12, 19.9, 21.5): the field the table calls SYS_BOOT_STAT_BUNDLE. -/
def SYS_BOOT_STAT_BUNDLE : Fld := ⟨0x200, 4, 2⟩
/-- SYS block (Tables 0.1, 1.6, 4.12, 19.9, 21.5): the field the table calls SYS_BOOT_STAT_CALIB_DEFAULT. -/
def SYS_BOOT_STAT_CALIB_DEFAULT : Fld := ⟨0x200, 6, 1⟩
/-- SYS block (Tables 0.1, 1.6, 4.12, 19.9, 21.5): the field the table calls SYS_BOOT_STAT_SCRIPT. -/
def SYS_BOOT_STAT_SCRIPT : Fld := ⟨0x200, 7, 2⟩
/-- SYS block (Tables 0.1, 1.6, 4.12, 19.9, 21.5): the field the table calls SYS_BOOT_STAT_DEADBATT. -/
def SYS_BOOT_STAT_DEADBATT : Fld := ⟨0x200, 9, 1⟩
/-- SYS block (Tables 0.1, 1.6, 4.12, 19.9, 21.5): the field the table calls SYS_BOOT_STAT_BOOT_MS. -/
def SYS_BOOT_STAT_BOOT_MS : Fld := ⟨0x200, 16, 16⟩
/-- SYS block (Tables 0.1, 1.6, 4.12, 19.9, 21.5): the field the table calls SYS_PWR_STATE. -/
def SYS_PWR_STATE : Fld := ⟨0x204, 0, 2⟩
/-- SYS block (Tables 0.1, 1.6, 4.12, 19.9, 21.5): the field the table calls SYS_PWR_GATED. -/
def SYS_PWR_GATED : Fld := ⟨0x204, 8, 8⟩
/-- SYS block (Tables 0.1, 1.6, 4.12, 19.9, 21.5): the field the table calls SYS_PWR_STBY_CANCELLED. -/
def SYS_PWR_STBY_CANCELLED : Fld := ⟨0x204, 2, 1⟩
/-- SYS block (Tables 0.1, 1.6, 4.12, 19.9, 21.5): the field the table calls SYS_TEMP0_MAIN. -/
def SYS_TEMP0_MAIN : Fld := ⟨0x210, 0, 16⟩
/-- SYS block (Tables 0.1, 1.6, 4.12, 19.9, 21.5): the field the table calls SYS_TEMP0_MAIN_MAX. -/
def SYS_TEMP0_MAIN_MAX : Fld := ⟨0x210, 16, 16⟩
/-- SYS block (Tables 0.1, 1.6, 4.12, 19.9, 21.5): the field the table calls SYS_TEMP1_PE0. -/
def SYS_TEMP1_PE0 : Fld := ⟨0x214, 0, 16⟩
/-- SYS block (Tables 0.1, 1.6, 4.12, 19.9, 21.5): the field the table calls SYS_TEMP1_PE1. -/
def SYS_TEMP1_PE1 : Fld := ⟨0x214, 16, 16⟩
/-- SYS block (Tables 0.1, 1.6, 4.12, 19.9, 21.5): the field the table calls CMD_CTRL_FAB_EN. -/
def CMD_CTRL_FAB_EN : Fld := ⟨0x1000, 0, 1⟩
/-- SYS block (Tables 0.1, 1.6, 4.12, 19.9, 21.5): the field the table calls CMD_REQ_STAT_BUSY. -/
def CMD_REQ_STAT_BUSY : Fld := ⟨0x1004, 0, 1⟩
/-- SYS block (Tables 0.1, 1.6, 4.12, 19.9, 21.5): the field the table calls CMD_REQ_STAT_READY. -/
def CMD_REQ_STAT_READY : Fld := ⟨0x1004, 1, 1⟩
/-- SYS block (Tables 0.1, 1.6, 4.12, 19.9, 21.5): the field the table calls CMD_REQ_STAT_RPL_FULL. -/
def CMD_REQ_STAT_RPL_FULL : Fld := ⟨0x1004, 2, 1⟩
/-- SYS block (Tables 0.1, 1.6, 4.12, 19.9, 21.5): the field the table calls CMD_DOORBELL_LEN. -/
def CMD_DOORBELL_LEN : Fld := ⟨0x1008, 0, 13⟩
/-- SYS block (Tables 0.1, 1.6, 4.12, 19.9, 21.5): the field the table calls CMD_RPL_STAT_COUNT. -/
def CMD_RPL_STAT_COUNT : Fld := ⟨0x100c, 0, 7⟩
/-- SYS block (Tables 0.1, 1.6, 4.12, 19.9, 21.5): the field the table calls CMD_RPL_STAT_LEN. -/
def CMD_RPL_STAT_LEN : Fld := ⟨0x100c, 8, 13⟩
/-- SYS block (Tables 0.1, 1.6, 4.12, 19.9, 21.5): the field the table calls CMD_RPL_STAT_SRC_NODE. -/
def CMD_RPL_STAT_SRC_NODE : Fld := ⟨0x100c, 24, 8⟩
/-- SYS block (Tables 0.1, 1.6, 4.12, 19.9, 21.5): the field the table calls CMD_RPL_POP_POP. -/
def CMD_RPL_POP_POP : Fld := ⟨0x1010, 0, 1⟩
/-- SYS block (Tables 0.1, 1.6, 4.12, 19.9, 21.5): the field the table calls CMD_OUTSTAND_XSPI. -/
def CMD_OUTSTAND_XSPI : Fld := ⟨0x1014, 0, 7⟩
/-- SYS block (Tables 0.1, 1.6, 4.12, 19.9, 21.5): the field the table calls CMD_OUTSTAND_USB. -/
def CMD_OUTSTAND_USB : Fld := ⟨0x1014, 8, 7⟩
/-- SYS block (Tables 0.1, 1.6, 4.12, 19.9, 21.5): the field the table calls CMD_OUTSTAND_FAB. -/
def CMD_OUTSTAND_FAB : Fld := ⟨0x1014, 16, 7⟩
/-- SYS block (Tables 0.1, 1.6, 4.12, 19.9, 21.5): the field the table calls CMD_OUTSTAND_REMOTE. -/
def CMD_OUTSTAND_REMOTE : Fld := ⟨0x1014, 24, 7⟩
/-- SYS block (Tables 0.1, 1.6, 4.12, 19.9, 21.5): the field the table calls CMD_BCAST_WIN_MS. -/
def CMD_BCAST_WIN_MS : Fld := ⟨0x1018, 0, 10⟩
/-- SYS block (Tables 0.1, 1.6, 4.12, 19.9, 21.5): the field the table calls CMD_REMOTE_TMO_TICKS. -/
def CMD_REMOTE_TMO_TICKS : Fld := ⟨0x101c, 0, 13⟩
/-- SYS block (Tables 0.1, 1.6, 4.12, 19.9, 21.5): the field the table calls CMD_ACCEPTED. -/
def CMD_ACCEPTED : Fld := ⟨0x1040, 0, 32⟩
/-- SYS block (Tables 0.1, 1.6, 4.12, 19.9, 21.5): the field the table calls CMD_REFUSED. -/
def CMD_REFUSED : Fld := ⟨0x1044, 0, 32⟩
/-- SYS block (Tables 0.1, 1.6, 4.12, 19.9, 21.5): the field the table calls CMD_BAD_CRC. -/
def CMD_BAD_CRC : Fld := ⟨0x1048, 0, 32⟩
/-- SYS block (Tables 0.1, 1.6, 4.12, 19.9, 21.5): the field the table calls CMD_DOORBELL_LOST. -/
def CMD_DOORBELL_LOST : Fld := ⟨0x104c, 0, 32⟩
/-- SYS block (Tables 0.1, 1.6, 4.12, 19.9, 21.5): the field the table calls CMD_WIN_WDROP. -/
def CMD_WIN_WDROP : Fld := ⟨0x1050, 0, 32⟩
/-- SYS block (Tables 0.1, 1.6, 4.12, 19.9, 21.5): the field the table calls CMD_LATE_REPLY. -/
def CMD_LATE_REPLY : Fld := ⟨0x1054, 0, 32⟩
/-- SYS block (Tables 0.1, 1.6, 4.12, 19.9, 21.5): the field the table calls CMD_BCAST_LATE. -/
def CMD_BCAST_LATE : Fld := ⟨0x1058, 0, 32⟩
/-- SYS block (Tables 0.1, 1.6, 4.12, 19.9, 21.5): the field the table calls CMD_RPL_DISCARD. -/
def CMD_RPL_DISCARD : Fld := ⟨0x105c, 0, 32⟩
/-- SYS block (Tables 0.1, 1.6, 4.12, 19.9, 21.5): the field the table calls CMD_LOG_HEAD_INDEX. -/
def CMD_LOG_HEAD_INDEX : Fld := ⟨0x1060, 0, 32⟩
/-- SYS block (Tables 0.1, 1.6, 4.12, 19.9, 21.5): the field the table calls CMD_LOG_OVWR. -/
def CMD_LOG_OVWR : Fld := ⟨0x1064, 0, 32⟩

/-! SYS_PARTn (Table 2.9) -/

/-- SYS_PARTn (Table 2.9): the field the table calls SYS_PART_FIRST. -/
def SYS_PART_FIRST : Fld := ⟨0x0, 0, 10⟩
/-- SYS_PARTn (Table 2.9): the field the table calls SYS_PART_COUNT. -/
def SYS_PART_COUNT : Fld := ⟨0x0, 10, 11⟩

/-! TIME block (Table 8.9) -/

/-- TIME block (Table 8.9): the field the table calls TIME_CTRL_ROLE. -/
def TIME_CTRL_ROLE : Fld := ⟨0x0, 0, 1⟩
/-- TIME block (Table 8.9): the field the table calls TIME_CTRL_MODE. -/
def TIME_CTRL_MODE : Fld := ⟨0x0, 1, 1⟩
/-- TIME block (Table 8.9): the field the table calls TIME_CTRL_ACCEPT_JUMP. -/
def TIME_CTRL_ACCEPT_JUMP : Fld := ⟨0x0, 2, 1⟩
/-- TIME block (Table 8.9): the field the table calls TIME_CTRL_LMAC_SLAVE. -/
def TIME_CTRL_LMAC_SLAVE : Fld := ⟨0x0, 4, 3⟩
/-- TIME block (Table 8.9): the field the table calls TIME_CTRL_DOMAIN. -/
def TIME_CTRL_DOMAIN : Fld := ⟨0x0, 8, 7⟩
/-- TIME block (Table 8.9): the field the table calls TIME_CTRL_PRIORITY1. -/
def TIME_CTRL_PRIORITY1 : Fld := ⟨0x0, 16, 8⟩
/-- TIME block (Table 8.9): the field the table calls TIME_CTRL_PRIORITY2. -/
def TIME_CTRL_PRIORITY2 : Fld := ⟨0x0, 24, 8⟩
/-- TIME block (Table 8.9): the field the table calls TIME_CLOCKQ_CLOCK_CLASS. -/
def TIME_CLOCKQ_CLOCK_CLASS : Fld := ⟨0x4, 0, 8⟩
/-- TIME block (Table 8.9): the field the table calls TIME_CLOCKQ_ACCURACY. -/
def TIME_CLOCKQ_ACCURACY : Fld := ⟨0x4, 8, 8⟩
/-- TIME block (Table 8.9): the field the table calls TIME_CLOCKQ_VARIANCE. -/
def TIME_CLOCKQ_VARIANCE : Fld := ⟨0x4, 16, 16⟩
/-- TIME block (Table 8.9): the field the table calls TIME_STAT_STATE. -/
def TIME_STAT_STATE : Fld := ⟨0x8, 0, 3⟩
/-- TIME block (Table 8.9): the field the table calls TIME_STAT_VALID. -/
def TIME_STAT_VALID : Fld := ⟨0x8, 3, 1⟩
/-- TIME block (Table 8.9): the field the table calls TIME_STAT_JUMP_REFUSED. -/
def TIME_STAT_JUMP_REFUSED : Fld := ⟨0x8, 4, 1⟩
/-- TIME block (Table 8.9): the field the table calls TIME_STAT_FOREIGN_PATH. -/
def TIME_STAT_FOREIGN_PATH : Fld := ⟨0x8, 5, 1⟩
/-- TIME block (Table 8.9): the field the table calls TIME_STAT_SYNC_PORT. -/
def TIME_STAT_SYNC_PORT : Fld := ⟨0x8, 6, 2⟩
/-- TIME block (Table 8.9): the field the table calls TIME_STAT_STEPS. -/
def TIME_STAT_STEPS : Fld := ⟨0x8, 8, 8⟩
/-- TIME block (Table 8.9): the field the table calls TIME_EVT. -/
def TIME_EVT : Fld := ⟨0xc, 0, 10⟩
/-- TIME block (Table 8.9): the field the table calls TIME_IE. -/
def TIME_IE : Fld := ⟨0x10, 0, 10⟩
/-- TIME block (Table 8.9): the field the table calls TIME_NOW_NS_NS. -/
def TIME_NOW_NS_NS : Fld := ⟨0x20, 0, 30⟩
/-- TIME block (Table 8.9): the field the table calls TIME_NOW_SL_SEC_LO. -/
def TIME_NOW_SL_SEC_LO : Fld := ⟨0x24, 0, 32⟩
/-- TIME block (Table 8.9): the field the table calls TIME_NOW_SH_SEC_HI. -/
def TIME_NOW_SH_SEC_HI : Fld := ⟨0x28, 0, 16⟩
/-- TIME block (Table 8.9): the field the table calls TIME_NOW_FRAC_FRAC. -/
def TIME_NOW_FRAC_FRAC : Fld := ⟨0x2c, 0, 32⟩
/-- TIME block (Table 8.9): the field the table calls TIME_INC_FRAC_FRAC. -/
def TIME_INC_FRAC_FRAC : Fld := ⟨0x30, 0, 32⟩
/-- TIME block (Table 8.9): the field the table calls TIME_INC_INT_INT. -/
def TIME_INC_INT_INT : Fld := ⟨0x34, 0, 8⟩
/-- TIME block (Table 8.9): the field the table calls TIME_OFFSET_NS. -/
def TIME_OFFSET_NS : Fld := ⟨0x38, 0, 32⟩
/-- TIME block (Table 8.9): the field the table calls TIME_MSG_INT_LOG_SYNC. -/
def TIME_MSG_INT_LOG_SYNC : Fld := ⟨0x40, 0, 8⟩
/-- TIME block (Table 8.9): the field the table calls TIME_MSG_INT_LOG_ANNOUNCE. -/
def TIME_MSG_INT_LOG_ANNOUNCE : Fld := ⟨0x40, 8, 8⟩
/-- TIME block (Table 8.9): the field the table calls TIME_MSG_INT_LOG_PDELAY. -/
def TIME_MSG_INT_LOG_PDELAY : Fld := ⟨0x40, 16, 8⟩
/-- TIME block (Table 8.9): the field the table calls TIME_MSG_INT_SYNC_TMO. -/
def TIME_MSG_INT_SYNC_TMO : Fld := ⟨0x40, 24, 4⟩
/-- TIME block (Table 8.9): the field the table calls TIME_MSG_INT_ANN_TMO. -/
def TIME_MSG_INT_ANN_TMO : Fld := ⟨0x40, 28, 4⟩
/-- TIME block (Table 8.9): the field the table calls TIME_STEP_THR_NS. -/
def TIME_STEP_THR_NS : Fld := ⟨0x44, 0, 30⟩
/-- TIME block (Table 8.9): the field the table calls TIME_LOCK_LOCK_NS. -/
def TIME_LOCK_LOCK_NS : Fld := ⟨0x48, 0, 10⟩
/-- TIME block (Table 8.9): the field the table calls TIME_LOCK_CONFIRM. -/
def TIME_LOCK_CONFIRM : Fld := ⟨0x48, 16, 4⟩
/-- TIME block (Table 8.9): the field the table calls TIME_LOCK_LOCK_COUNT. -/
def TIME_LOCK_LOCK_COUNT : Fld := ⟨0x48, 24, 4⟩
/-- TIME block (Table 8.9): the field the table calls TIME_HOLD_MS. -/
def TIME_HOLD_MS : Fld := ⟨0x4c, 0, 16⟩
/-- TIME block (Table 8.9): the field the table calls TIME_SLEW_PPM. -/
def TIME_SLEW_PPM : Fld := ⟨0x50, 0, 9⟩
/-- TIME block (Table 8.9): the field the table calls TIME_NBR_THR_NS. -/
def TIME_NBR_THR_NS : Fld := ⟨0x54, 0, 20⟩
/-- TIME block (Table 8.9): the field the table calls TIME_UTC_OFS_OFS. -/
def TIME_UTC_OFS_OFS : Fld := ⟨0x58, 0, 16⟩
/-- TIME block (Table 8.9): the field the table calls TIME_UTC_OFS_VALID. -/
def TIME_UTC_OFS_VALID : Fld := ⟨0x58, 16, 1⟩
/-- TIME block (Table 8.9): the field the table calls TIME_GM_ID_LO_ID. -/
def TIME_GM_ID_LO_ID : Fld := ⟨0x60, 0, 32⟩
/-- TIME block (Table 8.9): the field the table calls TIME_GM_ID_HI_ID. -/
def TIME_GM_ID_HI_ID : Fld := ⟨0x64, 0, 32⟩
/-- TIME block (Table 8.9): the field the table calls TIME_STEPS. -/
def TIME_STEPS : Fld := ⟨0x80, 0, 32⟩
/-- TIME block (Table 8.9): the field the table calls TIME_JUMPS_REFUSED. -/
def TIME_JUMPS_REFUSED : Fld := ⟨0x84, 0, 32⟩
/-- TIME block (Table 8.9): the field the table calls TIME_SYNC_TMO. -/
def TIME_SYNC_TMO : Fld := ⟨0x88, 0, 32⟩
/-- TIME block (Table 8.9): the field the table calls TIME_PATH_SWITCH. -/
def TIME_PATH_SWITCH : Fld := ⟨0x8c, 0, 32⟩
/-- TIME block (Table 8.9): the field the table calls TIME_GM_CHANGES. -/
def TIME_GM_CHANGES : Fld := ⟨0x90, 0, 32⟩
/-- TIME block (Table 8.9): the field the table calls TIME_ACT_LATE. -/
def TIME_ACT_LATE : Fld := ⟨0x94, 0, 32⟩
/-- TIME block (Table 8.9): the field the table calls TIME_ACT_SKIPPED. -/
def TIME_ACT_SKIPPED : Fld := ⟨0x98, 0, 32⟩
/-- TIME block (Table 8.9): the field the table calls TIME_PTP_DISCARD. -/
def TIME_PTP_DISCARD : Fld := ⟨0x9c, 0, 32⟩
/-- TIME block (Table 8.9): the field the table calls TIME_ACT_USED0. -/
def TIME_ACT_USED0 : Fld := ⟨0x900, 0, 32⟩
/-- TIME block (Table 8.9): the field the table calls TIME_ACT_USED1. -/
def TIME_ACT_USED1 : Fld := ⟨0x904, 0, 32⟩

/-! TIME per-port sets (Table 8.9) -/

/-- TIME per-port sets (Table 8.9): the field the table calls TIME_PORT_CFG_PTP_EN. -/
def TIME_PORT_CFG_PTP_EN : Fld := ⟨0x0, 0, 1⟩
/-- TIME per-port sets (Table 8.9): the field the table calls TIME_PORT_CFG_MASTER. -/
def TIME_PORT_CFG_MASTER : Fld := ⟨0x0, 1, 1⟩
/-- TIME per-port sets (Table 8.9): the field the table calls TIME_PORT_CFG_AS_CAPABLE. -/
def TIME_PORT_CFG_AS_CAPABLE : Fld := ⟨0x0, 2, 1⟩
/-- TIME per-port sets (Table 8.9): the field the table calls TIME_PORT_ASYM_NS. -/
def TIME_PORT_ASYM_NS : Fld := ⟨0x4, 0, 16⟩
/-- TIME per-port sets (Table 8.9): the field the table calls TIME_PORT_RX_LAT_NS. -/
def TIME_PORT_RX_LAT_NS : Fld := ⟨0x8, 0, 16⟩
/-- TIME per-port sets (Table 8.9): the field the table calls TIME_PORT_TX_LAT_NS. -/
def TIME_PORT_TX_LAT_NS : Fld := ⟨0xc, 0, 16⟩
/-- TIME per-port sets (Table 8.9): the field the table calls TIME_PORT_PDELAY_DELAY. -/
def TIME_PORT_PDELAY_DELAY : Fld := ⟨0x10, 0, 32⟩
/-- TIME per-port sets (Table 8.9): the field the table calls TIME_PORT_NBR_RATE_RATE. -/
def TIME_PORT_NBR_RATE_RATE : Fld := ⟨0x14, 0, 32⟩
/-- TIME per-port sets (Table 8.9): the field the table calls TIME_PORT_TSQ_LVL_LEVEL. -/
def TIME_PORT_TSQ_LVL_LEVEL : Fld := ⟨0x18, 0, 5⟩
/-- TIME per-port sets (Table 8.9): the field the table calls TIME_PORT_TS_OVF. -/
def TIME_PORT_TS_OVF : Fld := ⟨0x20, 0, 32⟩
/-- TIME per-port sets (Table 8.9): the field the table calls TIME_PORT_PDELAY_LOST. -/
def TIME_PORT_PDELAY_LOST : Fld := ⟨0x24, 0, 32⟩

/-! TIME_TXTS_EN k (Table 8.9) -/

/-- TIME_TXTS_EN k (Table 8.9): the field the table calls TIME_TXTS_EN_EN. -/
def TIME_TXTS_EN_EN : Fld := ⟨0x0, 0, 32⟩

/-! RING_COPE and RING_DRAG port registers (Table 5.12) -/

/-- RING_COPE and RING_DRAG port registers (Table 5.12): the field the table calls RING_PCTRL_EN. -/
def RING_PCTRL_EN : Fld := ⟨0x0, 0, 1⟩
/-- RING_COPE and RING_DRAG port registers (Table 5.12): the field the table calls RING_PCTRL_RATE. -/
def RING_PCTRL_RATE : Fld := ⟨0x0, 1, 1⟩
/-- RING_COPE and RING_DRAG port registers (Table 5.12): the field the table calls RING_PCTRL_FEC. -/
def RING_PCTRL_FEC : Fld := ⟨0x0, 2, 1⟩
/-- RING_COPE and RING_DRAG port registers (Table 5.12): the field the table calls RING_PCTRL_FALLBACK. -/
def RING_PCTRL_FALLBACK : Fld := ⟨0x0, 3, 1⟩
/-- RING_COPE and RING_DRAG port registers (Table 5.12): the field the table calls RING_PCTRL_LOOP. -/
def RING_PCTRL_LOOP : Fld := ⟨0x0, 4, 2⟩
/-- RING_COPE and RING_DRAG port registers (Table 5.12): the field the table calls RING_PSTAT_STATE. -/
def RING_PSTAT_STATE : Fld := ⟨0x4, 0, 3⟩
/-- RING_COPE and RING_DRAG port registers (Table 5.12): the field the table calls RING_PSTAT_RATE_NOW. -/
def RING_PSTAT_RATE_NOW : Fld := ⟨0x4, 3, 1⟩
/-- RING_COPE and RING_DRAG port registers (Table 5.12): the field the table calls RING_PSTAT_FEC_NOW. -/
def RING_PSTAT_FEC_NOW : Fld := ⟨0x4, 4, 1⟩
/-- RING_COPE and RING_DRAG port registers (Table 5.12): the field the table calls RING_PSTAT_BLOCK_LOCK. -/
def RING_PSTAT_BLOCK_LOCK : Fld := ⟨0x4, 5, 1⟩
/-- RING_COPE and RING_DRAG port registers (Table 5.12): the field the table calls RING_PSTAT_FEC_ALIGN. -/
def RING_PSTAT_FEC_ALIGN : Fld := ⟨0x4, 6, 1⟩
/-- RING_COPE and RING_DRAG port registers (Table 5.12): the field the table calls RING_PSTAT_HELLO_OK. -/
def RING_PSTAT_HELLO_OK : Fld := ⟨0x4, 7, 1⟩
/-- RING_COPE and RING_DRAG port registers (Table 5.12): the field the table calls RING_PSTAT_NEIGHBOUR. -/
def RING_PSTAT_NEIGHBOUR : Fld := ⟨0x4, 8, 8⟩
/-- RING_COPE and RING_DRAG port registers (Table 5.12): the field the table calls RING_PSTAT_NB_EPOCH. -/
def RING_PSTAT_NB_EPOCH : Fld := ⟨0x4, 16, 8⟩
/-- RING_COPE and RING_DRAG port registers (Table 5.12): the field the table calls RING_PEVT. -/
def RING_PEVT : Fld := ⟨0x8, 0, 6⟩
/-- RING_COPE and RING_DRAG port registers (Table 5.12): the field the table calls RING_PIE. -/
def RING_PIE : Fld := ⟨0xc, 0, 6⟩
/-- RING_COPE and RING_DRAG port registers (Table 5.12): the field the table calls RING_LINK_TMO_TICKS. -/
def RING_LINK_TMO_TICKS : Fld := ⟨0x10, 0, 10⟩
/-- RING_COPE and RING_DRAG port registers (Table 5.12): the field the table calls RING_MAXFRM_BYTES. -/
def RING_MAXFRM_BYTES : Fld := ⟨0x14, 0, 14⟩
/-- RING_COPE and RING_DRAG port registers (Table 5.12): the field the table calls RING_TXEQ_PRE. -/
def RING_TXEQ_PRE : Fld := ⟨0x18, 0, 6⟩
/-- RING_COPE and RING_DRAG port registers (Table 5.12): the field the table calls RING_TXEQ_MAIN. -/
def RING_TXEQ_MAIN : Fld := ⟨0x18, 8, 6⟩
/-- RING_COPE and RING_DRAG port registers (Table 5.12): the field the table calls RING_TXEQ_POST. -/
def RING_TXEQ_POST : Fld := ⟨0x18, 16, 6⟩
/-- RING_COPE and RING_DRAG port registers (Table 5.12): the field the table calls RING_TX_FRAMES. -/
def RING_TX_FRAMES : Fld := ⟨0x40, 0, 32⟩
/-- RING_COPE and RING_DRAG port registers (Table 5.12): the field the table calls RING_RX_FRAMES. -/
def RING_RX_FRAMES : Fld := ⟨0x44, 0, 32⟩
/-- RING_COPE and RING_DRAG port registers (Table 5.12): the field the table calls RING_CT_FWD. -/
def RING_CT_FWD : Fld := ⟨0x48, 0, 32⟩
/-- RING_COPE and RING_DRAG port registers (Table 5.12): the field the table calls RING_SF_FWD. -/
def RING_SF_FWD : Fld := ⟨0x4c, 0, 32⟩
/-- RING_COPE and RING_DRAG port registers (Table 5.12): the field the table calls RING_DELIVERED. -/
def RING_DELIVERED : Fld := ⟨0x50, 0, 32⟩
/-- RING_COPE and RING_DRAG port registers (Table 5.12): the field the table calls RING_DD_DUP. -/
def RING_DD_DUP : Fld := ⟨0x54, 0, 32⟩
/-- RING_COPE and RING_DRAG port registers (Table 5.12): the field the table calls RING_DD_OLD. -/
def RING_DD_OLD : Fld := ⟨0x58, 0, 32⟩
/-- RING_COPE and RING_DRAG port registers (Table 5.12): the field the table calls RING_SELF_REMOVED. -/
def RING_SELF_REMOVED : Fld := ⟨0x5c, 0, 32⟩
/-- RING_COPE and RING_DRAG port registers (Table 5.12): the field the table calls RING_ORPHAN. -/
def RING_ORPHAN : Fld := ⟨0x60, 0, 32⟩
/-- RING_COPE and RING_DRAG port registers (Table 5.12): the field the table calls RING_UNTAGGED. -/
def RING_UNTAGGED : Fld := ⟨0x64, 0, 32⟩
/-- RING_COPE and RING_DRAG port registers (Table 5.12): the field the table calls RING_LSDU_ERR. -/
def RING_LSDU_ERR : Fld := ⟨0x68, 0, 32⟩
/-- RING_COPE and RING_DRAG port registers (Table 5.12): the field the table calls RING_STOMP_TX. -/
def RING_STOMP_TX : Fld := ⟨0x6c, 0, 32⟩
/-- RING_COPE and RING_DRAG port registers (Table 5.12): the field the table calls RING_STOMP_RX. -/
def RING_STOMP_RX : Fld := ⟨0x70, 0, 32⟩
/-- RING_COPE and RING_DRAG port registers (Table 5.12): the field the table calls RING_BREAK_DROP. -/
def RING_BREAK_DROP : Fld := ⟨0x74, 0, 32⟩
/-- RING_COPE and RING_DRAG port registers (Table 5.12): the field the table calls RING_HELLO_MISS. -/
def RING_HELLO_MISS : Fld := ⟨0x78, 0, 32⟩
/-- RING_COPE and RING_DRAG port registers (Table 5.12): the field the table calls RING_LINK_DOWNS. -/
def RING_LINK_DOWNS : Fld := ⟨0x7c, 0, 32⟩
/-- RING_COPE and RING_DRAG port registers (Table 5.12): the field the table calls RING_FEC_CORR. -/
def RING_FEC_CORR : Fld := ⟨0x80, 0, 32⟩
/-- RING_COPE and RING_DRAG port registers (Table 5.12): the field the table calls RING_FEC_UNCORR. -/
def RING_FEC_UNCORR : Fld := ⟨0x84, 0, 32⟩
/-- RING_COPE and RING_DRAG port registers (Table 5.12): the field the table calls RING_BLOCK_ERR. -/
def RING_BLOCK_ERR : Fld := ⟨0x88, 0, 32⟩
/-- RING_COPE and RING_DRAG port registers (Table 5.12): the field the table calls RING_LINK_TMO_CNT. -/
def RING_LINK_TMO_CNT : Fld := ⟨0x8c, 0, 32⟩

/-! Ring-wide registers (Table 5.12) -/

/-- Ring-wide registers (Table 5.12): the field the table calls RING_NODE_CFG_FIXED_ID. -/
def RING_NODE_CFG_FIXED_ID : Fld := ⟨0x0, 0, 8⟩
/-- Ring-wide registers (Table 5.12): the field the table calls RING_NODE_CFG_FIXED. -/
def RING_NODE_CFG_FIXED : Fld := ⟨0x0, 8, 1⟩
/-- Ring-wide registers (Table 5.12): the field the table calls RING_NODE_CFG_LAST_ID. -/
def RING_NODE_CFG_LAST_ID : Fld := ⟨0x0, 16, 8⟩
/-- Ring-wide registers (Table 5.12): the field the table calls RING_NODE_CFG_LAST_VALID. -/
def RING_NODE_CFG_LAST_VALID : Fld := ⟨0x0, 24, 1⟩
/-- Ring-wide registers (Table 5.12): the field the table calls RING_HELLO_INT_US. -/
def RING_HELLO_INT_US : Fld := ⟨0x4, 0, 10⟩
/-- Ring-wide registers (Table 5.12): the field the table calls RING_HELLO_MISSMAX. -/
def RING_HELLO_MISSMAX : Fld := ⟨0x4, 12, 4⟩
/-- Ring-wide registers (Table 5.12): the field the table calls RING_HEAL_HOLD_MS. -/
def RING_HEAL_HOLD_MS : Fld := ⟨0x8, 0, 14⟩
/-- Ring-wide registers (Table 5.12): the field the table calls RING_SUP_DA_LAST. -/
def RING_SUP_DA_LAST : Fld := ⟨0xc, 0, 8⟩
/-- Ring-wide registers (Table 5.12): the field the table calls RING_DD_FORGET_MS. -/
def RING_DD_FORGET_MS : Fld := ⟨0x10, 0, 10⟩
/-- Ring-wide registers (Table 5.12): the field the table calls RING_DD_ENTRIES. -/
def RING_DD_ENTRIES : Fld := ⟨0x10, 16, 14⟩
/-- Ring-wide registers (Table 5.12): the field the table calls RING_STAT_CLOSED. -/
def RING_STAT_CLOSED : Fld := ⟨0x14, 0, 1⟩
/-- Ring-wide registers (Table 5.12): the field the table calls RING_STAT_FOREIGN. -/
def RING_STAT_FOREIGN : Fld := ⟨0x14, 1, 1⟩
/-- Ring-wide registers (Table 5.12): the field the table calls RING_STAT_SPLIT_AS_TWIN. -/
def RING_STAT_SPLIT_AS_TWIN : Fld := ⟨0x14, 2, 1⟩
/-- Ring-wide registers (Table 5.12): the field the table calls RING_STAT_DUP_ID. -/
def RING_STAT_DUP_ID : Fld := ⟨0x14, 3, 1⟩
/-- Ring-wide registers (Table 5.12): the field the table calls RING_STAT_NODES. -/
def RING_STAT_NODES : Fld := ⟨0x14, 8, 8⟩
/-- Ring-wide registers (Table 5.12): the field the table calls RING_STAT_EPOCH. -/
def RING_STAT_EPOCH : Fld := ⟨0x14, 16, 8⟩
/-- Ring-wide registers (Table 5.12): the field the table calls RING_STAT_BREAKS. -/
def RING_STAT_BREAKS : Fld := ⟨0x14, 24, 8⟩
/-- Ring-wide registers (Table 5.12): the field the table calls RING_EVT. -/
def RING_EVT : Fld := ⟨0x18, 0, 5⟩
/-- Ring-wide registers (Table 5.12): the field the table calls RING_IE. -/
def RING_IE : Fld := ⟨0x1c, 0, 5⟩
/-- Ring-wide registers (Table 5.12): the field the table calls RING_DD_EVICT. -/
def RING_DD_EVICT : Fld := ⟨0x40, 0, 32⟩
/-- Ring-wide registers (Table 5.12): the field the table calls RING_LATE_NOTICE. -/
def RING_LATE_NOTICE : Fld := ⟨0x44, 0, 32⟩
/-- Ring-wide registers (Table 5.12): the field the table calls RING_UNREACH. -/
def RING_UNREACH : Fld := ⟨0x48, 0, 32⟩
/-- Ring-wide registers (Table 5.12): the field the table calls RING_SEQ_EVICT. -/
def RING_SEQ_EVICT : Fld := ⟨0x4c, 0, 32⟩

/-! RING_MAP (Tables 5.12, 5.13) -/

/-- RING_MAP (Tables 5.12, 5.13): the field the table calls RING_MAP0_FLAGS. -/
def RING_MAP0_FLAGS : Fld := ⟨0x0, 0, 8⟩
/-- RING_MAP (Tables 5.12, 5.13): the field the table calls RING_MAP0_EPOCH. -/
def RING_MAP0_EPOCH : Fld := ⟨0x0, 8, 8⟩
/-- RING_MAP (Tables 5.12, 5.13): the field the table calls RING_MAP0_HOPS_COPE. -/
def RING_MAP0_HOPS_COPE : Fld := ⟨0x0, 16, 8⟩
/-- RING_MAP (Tables 5.12, 5.13): the field the table calls RING_MAP0_HOPS_DRAG. -/
def RING_MAP0_HOPS_DRAG : Fld := ⟨0x0, 24, 8⟩
/-- RING_MAP (Tables 5.12, 5.13): the field the table calls RING_MAP1_DELAY_COPE. -/
def RING_MAP1_DELAY_COPE : Fld := ⟨0x4, 0, 16⟩
/-- RING_MAP (Tables 5.12, 5.13): the field the table calls RING_MAP1_DELAY_DRAG. -/
def RING_MAP1_DELAY_DRAG : Fld := ⟨0x4, 16, 16⟩

/-! MAC sets of Cope and Drag (Table 6.7) -/

/-- MAC sets of Cope and Drag (Table 6.7): the field the table calls MAC_MCTRL_TX_EN. -/
def MAC_MCTRL_TX_EN : Fld := ⟨0x0, 0, 1⟩
/-- MAC sets of Cope and Drag (Table 6.7): the field the table calls MAC_MCTRL_RX_EN. -/
def MAC_MCTRL_RX_EN : Fld := ⟨0x0, 1, 1⟩
/-- MAC sets of Cope and Drag (Table 6.7): the field the table calls MAC_MSTAT_LINK. -/
def MAC_MSTAT_LINK : Fld := ⟨0x4, 0, 1⟩
/-- MAC sets of Cope and Drag (Table 6.7): the field the table calls MAC_MSTAT_SPEED. -/
def MAC_MSTAT_SPEED : Fld := ⟨0x4, 1, 3⟩
/-- MAC sets of Cope and Drag (Table 6.7): the field the table calls MAC_MSTAT_PAUSED. -/
def MAC_MSTAT_PAUSED : Fld := ⟨0x4, 4, 1⟩
/-- MAC sets of Cope and Drag (Table 6.7): the field the table calls MAC_MSTAT_REASM_OPEN. -/
def MAC_MSTAT_REASM_OPEN : Fld := ⟨0x4, 5, 1⟩
/-- MAC sets of Cope and Drag (Table 6.7): the field the table calls MAC_PREEMPT_EN. -/
def MAC_PREEMPT_EN : Fld := ⟨0x8, 0, 1⟩
/-- MAC sets of Cope and Drag (Table 6.7): the field the table calls MAC_PREEMPT_VERIFY_DIS. -/
def MAC_PREEMPT_VERIFY_DIS : Fld := ⟨0x8, 1, 1⟩
/-- MAC sets of Cope and Drag (Table 6.7): the field the table calls MAC_PREEMPT_ADD_FRAG. -/
def MAC_PREEMPT_ADD_FRAG : Fld := ⟨0x8, 2, 2⟩
/-- MAC sets of Cope and Drag (Table 6.7): the field the table calls MAC_PREEMPT_EXPRESS_TC. -/
def MAC_PREEMPT_EXPRESS_TC : Fld := ⟨0x8, 8, 8⟩
/-- MAC sets of Cope and Drag (Table 6.7): the field the table calls MAC_PREEMPT_VERIFY_MS. -/
def MAC_PREEMPT_VERIFY_MS : Fld := ⟨0x8, 16, 8⟩
/-- MAC sets of Cope and Drag (Table 6.7): the field the table calls MAC_PREEMPT_VERIFY_LIMIT. -/
def MAC_PREEMPT_VERIFY_LIMIT : Fld := ⟨0x8, 24, 4⟩
/-- MAC sets of Cope and Drag (Table 6.7): the field the table calls MAC_PSTAT_VERIFY_STATE. -/
def MAC_PSTAT_VERIFY_STATE : Fld := ⟨0xc, 0, 3⟩
/-- MAC sets of Cope and Drag (Table 6.7): the field the table calls MAC_PSTAT_ACTIVE. -/
def MAC_PSTAT_ACTIVE : Fld := ⟨0xc, 3, 1⟩
/-- MAC sets of Cope and Drag (Table 6.7): the field the table calls MAC_PAUSE_RX_EN. -/
def MAC_PAUSE_RX_EN : Fld := ⟨0x10, 0, 1⟩
/-- MAC sets of Cope and Drag (Table 6.7): the field the table calls MAC_PAUSE_TX_EN. -/
def MAC_PAUSE_TX_EN : Fld := ⟨0x10, 1, 1⟩
/-- MAC sets of Cope and Drag (Table 6.7): the field the table calls MAC_PAUSE_TX_QUANTA. -/
def MAC_PAUSE_TX_QUANTA : Fld := ⟨0x10, 16, 16⟩
/-- MAC sets of Cope and Drag (Table 6.7): the field the table calls MAC_PAUSE_MARK_XOFF_KIB. -/
def MAC_PAUSE_MARK_XOFF_KIB : Fld := ⟨0x14, 0, 16⟩
/-- MAC sets of Cope and Drag (Table 6.7): the field the table calls MAC_PAUSE_MARK_XON_KIB. -/
def MAC_PAUSE_MARK_XON_KIB : Fld := ⟨0x14, 16, 16⟩
/-- MAC sets of Cope and Drag (Table 6.7): the field the table calls MAC_PAUSE_TMR_REMAIN. -/
def MAC_PAUSE_TMR_REMAIN : Fld := ⟨0x18, 0, 16⟩
/-- MAC sets of Cope and Drag (Table 6.7): the field the table calls MAC_CEVT_HALF. -/
def MAC_CEVT_HALF : Fld := ⟨0x1c, 0, 22⟩
/-- MAC sets of Cope and Drag (Table 6.7): the field the table calls MAC_CIE. -/
def MAC_CIE : Fld := ⟨0x20, 0, 22⟩
/-- MAC sets of Cope and Drag (Table 6.7): the field the table calls MAC_RX_GOOD. -/
def MAC_RX_GOOD : Fld := ⟨0x40, 0, 32⟩
/-- MAC sets of Cope and Drag (Table 6.7): the field the table calls MAC_RX_OCTETS. -/
def MAC_RX_OCTETS : Fld := ⟨0x44, 0, 32⟩
/-- MAC sets of Cope and Drag (Table 6.7): the field the table calls MAC_TX_GOOD. -/
def MAC_TX_GOOD : Fld := ⟨0x48, 0, 32⟩
/-- MAC sets of Cope and Drag (Table 6.7): the field the table calls MAC_TX_OCTETS. -/
def MAC_TX_OCTETS : Fld := ⟨0x4c, 0, 32⟩
/-- MAC sets of Cope and Drag (Table 6.7): the field the table calls MAC_RUNT. -/
def MAC_RUNT : Fld := ⟨0x50, 0, 32⟩
/-- MAC sets of Cope and Drag (Table 6.7): the field the table calls MAC_OVERSIZE. -/
def MAC_OVERSIZE : Fld := ⟨0x54, 0, 32⟩
/-- MAC sets of Cope and Drag (Table 6.7): the field the table calls MAC_FCS_ERR. -/
def MAC_FCS_ERR : Fld := ⟨0x58, 0, 32⟩
/-- MAC sets of Cope and Drag (Table 6.7): the field the table calls MAC_RX_NOBUF. -/
def MAC_RX_NOBUF : Fld := ⟨0x5c, 0, 32⟩
/-- MAC sets of Cope and Drag (Table 6.7): the field the table calls MAC_PAUSE_RX. -/
def MAC_PAUSE_RX : Fld := ⟨0x60, 0, 32⟩
/-- MAC sets of Cope and Drag (Table 6.7): the field the table calls MAC_PAUSE_IGNORED. -/
def MAC_PAUSE_IGNORED : Fld := ⟨0x64, 0, 32⟩
/-- MAC sets of Cope and Drag (Table 6.7): the field the table calls MAC_PAUSE_TX. -/
def MAC_PAUSE_TX : Fld := ⟨0x68, 0, 32⟩
/-- MAC sets of Cope and Drag (Table 6.7): the field the table calls MAC_CTRL_UNSUP. -/
def MAC_CTRL_UNSUP : Fld := ⟨0x6c, 0, 32⟩
/-- MAC sets of Cope and Drag (Table 6.7): the field the table calls MAC_TX_PADDED. -/
def MAC_TX_PADDED : Fld := ⟨0x70, 0, 32⟩
/-- MAC sets of Cope and Drag (Table 6.7): the field the table calls MAC_TX_REFUSED. -/
def MAC_TX_REFUSED : Fld := ⟨0x74, 0, 32⟩
/-- MAC sets of Cope and Drag (Table 6.7): the field the table calls MAC_FRAG_TX. -/
def MAC_FRAG_TX : Fld := ⟨0x78, 0, 32⟩
/-- MAC sets of Cope and Drag (Table 6.7): the field the table calls MAC_FRAG_RX. -/
def MAC_FRAG_RX : Fld := ⟨0x7c, 0, 32⟩
/-- MAC sets of Cope and Drag (Table 6.7): the field the table calls MAC_ASM_OK. -/
def MAC_ASM_OK : Fld := ⟨0x80, 0, 32⟩
/-- MAC sets of Cope and Drag (Table 6.7): the field the table calls MAC_ASM_ERR. -/
def MAC_ASM_ERR : Fld := ⟨0x84, 0, 32⟩
/-- MAC sets of Cope and Drag (Table 6.7): the field the table calls MAC_SMD_ERR. -/
def MAC_SMD_ERR : Fld := ⟨0x88, 0, 32⟩
/-- MAC sets of Cope and Drag (Table 6.7): the field the table calls MAC_VERIFY_TX. -/
def MAC_VERIFY_TX : Fld := ⟨0x8c, 0, 32⟩
/-- MAC sets of Cope and Drag (Table 6.7): the field the table calls MAC_RESPOND_TX. -/
def MAC_RESPOND_TX : Fld := ⟨0x90, 0, 32⟩
/-- MAC sets of Cope and Drag (Table 6.7): the field the table calls MAC_TX_LINKDOWN. -/
def MAC_TX_LINKDOWN : Fld := ⟨0x94, 0, 32⟩

/-! MAC sets of LMAC0 to LMAC3 (Table 6.7) -/

/-- MAC sets of LMAC0 to LMAC3 (Table 6.7): the field the table calls LMAC_MAXFRM_BYTES. -/
def LMAC_MAXFRM_BYTES : Fld := ⟨0x24, 0, 14⟩
/-- MAC sets of LMAC0 to LMAC3 (Table 6.7): the field the table calls LMAC_USX_LINK. -/
def LMAC_USX_LINK : Fld := ⟨0x28, 0, 1⟩
/-- MAC sets of LMAC0 to LMAC3 (Table 6.7): the field the table calls LMAC_USX_SPEED. -/
def LMAC_USX_SPEED : Fld := ⟨0x28, 1, 3⟩
/-- MAC sets of LMAC0 to LMAC3 (Table 6.7): the field the table calls LMAC_USX_DUPLEX_FULL. -/
def LMAC_USX_DUPLEX_FULL : Fld := ⟨0x28, 4, 1⟩
/-- MAC sets of LMAC0 to LMAC3 (Table 6.7): the field the table calls LMAC_USX_AN_DONE. -/
def LMAC_USX_AN_DONE : Fld := ⟨0x28, 5, 1⟩
/-- MAC sets of LMAC0 to LMAC3 (Table 6.7): the field the table calls LMAC_USX_AN_EN. -/
def LMAC_USX_AN_EN : Fld := ⟨0x28, 8, 1⟩
/-- MAC sets of LMAC0 to LMAC3 (Table 6.7): the field the table calls LMAC_USX_FORCE_SPEED. -/
def LMAC_USX_FORCE_SPEED : Fld := ⟨0x28, 9, 3⟩

/-! SCHED global registers (Table 7.7) -/

/-- SCHED global registers (Table 7.7): the field the table calls SCHED_PCP_MAP_MAP. -/
def SCHED_PCP_MAP_MAP : Fld := ⟨0x0, 0, 24⟩
/-- SCHED global registers (Table 7.7): the field the table calls SCHED_TC_PCP_MAP. -/
def SCHED_TC_PCP_MAP : Fld := ⟨0x4, 0, 24⟩
/-- SCHED global registers (Table 7.7): the field the table calls SCHED_CLASSIFY_FAB_TC. -/
def SCHED_CLASSIFY_FAB_TC : Fld := ⟨0x8, 0, 3⟩
/-- SCHED global registers (Table 7.7): the field the table calls SCHED_CLASSIFY_UNTAG_TC. -/
def SCHED_CLASSIFY_UNTAG_TC : Fld := ⟨0x8, 4, 3⟩
/-- SCHED global registers (Table 7.7): the field the table calls SCHED_LMAC_DEF0_LMAC0. -/
def SCHED_LMAC_DEF0_LMAC0 : Fld := ⟨0xc, 0, 10⟩
/-- SCHED global registers (Table 7.7): the field the table calls SCHED_LMAC_DEF0_LMAC1. -/
def SCHED_LMAC_DEF0_LMAC1 : Fld := ⟨0xc, 16, 10⟩
/-- SCHED global registers (Table 7.7): the field the table calls SCHED_LMAC_DEF1_LMAC2. -/
def SCHED_LMAC_DEF1_LMAC2 : Fld := ⟨0x10, 0, 10⟩
/-- SCHED global registers (Table 7.7): the field the table calls SCHED_LMAC_DEF1_LMAC3. -/
def SCHED_LMAC_DEF1_LMAC3 : Fld := ⟨0x10, 16, 10⟩
/-- SCHED global registers (Table 7.7): the field the table calls SCHED_NOBUF. -/
def SCHED_NOBUF : Fld := ⟨0x40, 0, 32⟩

/-! SCHED_CTX_HALF k (Table 7.7) -/

/-- SCHED_CTX_HALF k (Table 7.7): the field the table calls SCHED_CTX_HALF_HALF. -/
def SCHED_CTX_HALF_HALF : Fld := ⟨0x0, 0, 32⟩

/-! Per-port scheduler registers (Table 7.8) -/

/-- Per-port scheduler registers (Table 7.8): the field the table calls SCHED_PCTRL_GATE_EN. -/
def SCHED_PCTRL_GATE_EN : Fld := ⟨0x0, 0, 1⟩
/-- Per-port scheduler registers (Table 7.8): the field the table calls SCHED_PCTRL_PER_LEVEL. -/
def SCHED_PCTRL_PER_LEVEL : Fld := ⟨0x0, 1, 1⟩
/-- Per-port scheduler registers (Table 7.8): the field the table calls SCHED_PCTRL_CONFIG_PENDING. -/
def SCHED_PCTRL_CONFIG_PENDING : Fld := ⟨0x0, 2, 1⟩
/-- Per-port scheduler registers (Table 7.8): the field the table calls SCHED_PCTRL_SWAP_LATCHED. -/
def SCHED_PCTRL_SWAP_LATCHED : Fld := ⟨0x0, 3, 1⟩
/-- Per-port scheduler registers (Table 7.8): the field the table calls SCHED_PCTRL_CONFIG_CHANGE. -/
def SCHED_PCTRL_CONFIG_CHANGE : Fld := ⟨0x0, 4, 1⟩
/-- Per-port scheduler registers (Table 7.8): the field the table calls SCHED_HOLD_ADV_NS. -/
def SCHED_HOLD_ADV_NS : Fld := ⟨0x4, 0, 18⟩
/-- Per-port scheduler registers (Table 7.8): the field the table calls SCHED_ADMIN_BASE_NS_NS. -/
def SCHED_ADMIN_BASE_NS_NS : Fld := ⟨0x8, 0, 30⟩
/-- Per-port scheduler registers (Table 7.8): the field the table calls SCHED_ADMIN_BASE_SL_SEC_LO. -/
def SCHED_ADMIN_BASE_SL_SEC_LO : Fld := ⟨0xc, 0, 32⟩
/-- Per-port scheduler registers (Table 7.8): the field the table calls SCHED_ADMIN_BASE_SH_SEC_HI. -/
def SCHED_ADMIN_BASE_SH_SEC_HI : Fld := ⟨0x10, 0, 16⟩
/-- Per-port scheduler registers (Table 7.8): the field the table calls SCHED_ADMIN_CYCLE_NS. -/
def SCHED_ADMIN_CYCLE_NS : Fld := ⟨0x14, 0, 30⟩
/-- Per-port scheduler registers (Table 7.8): the field the table calls SCHED_ADMIN_EXT_NS. -/
def SCHED_ADMIN_EXT_NS : Fld := ⟨0x18, 0, 20⟩
/-- Per-port scheduler registers (Table 7.8): the field the table calls SCHED_ADMIN_LEN. -/
def SCHED_ADMIN_LEN : Fld := ⟨0x1c, 0, 9⟩
/-- Per-port scheduler registers (Table 7.8): the field the table calls SCHED_OPER_CYCLE_NS. -/
def SCHED_OPER_CYCLE_NS : Fld := ⟨0x20, 0, 30⟩
/-- Per-port scheduler registers (Table 7.8): the field the table calls SCHED_OPER_EXT_NS. -/
def SCHED_OPER_EXT_NS : Fld := ⟨0x24, 0, 20⟩
/-- Per-port scheduler registers (Table 7.8): the field the table calls SCHED_OPER_LEN. -/
def SCHED_OPER_LEN : Fld := ⟨0x28, 0, 9⟩
/-- Per-port scheduler registers (Table 7.8): the field the table calls SCHED_SWAP_NS_NS. -/
def SCHED_SWAP_NS_NS : Fld := ⟨0x2c, 0, 30⟩
/-- Per-port scheduler registers (Table 7.8): the field the table calls SCHED_SWAP_SL_SEC_LO. -/
def SCHED_SWAP_SL_SEC_LO : Fld := ⟨0x30, 0, 32⟩
/-- Per-port scheduler registers (Table 7.8): the field the table calls SCHED_SWAP_SH_SEC_HI. -/
def SCHED_SWAP_SH_SEC_HI : Fld := ⟨0x34, 0, 16⟩
/-- Per-port scheduler registers (Table 7.8): the field the table calls SCHED_PCEVT. -/
def SCHED_PCEVT : Fld := ⟨0x38, 0, 3⟩
/-- Per-port scheduler registers (Table 7.8): the field the table calls SCHED_PCIE. -/
def SCHED_PCIE : Fld := ⟨0x3c, 0, 3⟩
/-- Per-port scheduler registers (Table 7.8): the field the table calls TX_WINDOW_DROP. -/
def TX_WINDOW_DROP : Fld := ⟨0x40, 0, 32⟩
/-- Per-port scheduler registers (Table 7.8): the field the table calls SCHED_SWAPS. -/
def SCHED_SWAPS : Fld := ⟨0x44, 0, 32⟩
/-- Per-port scheduler registers (Table 7.8): the field the table calls SCHED_GCL_WDROP. -/
def SCHED_GCL_WDROP : Fld := ⟨0x48, 0, 32⟩
/-- Per-port scheduler registers (Table 7.8): the field the table calls SCHED_HOLDS. -/
def SCHED_HOLDS : Fld := ⟨0x4c, 0, 32⟩

/-! Admin gate lists (Table 7.8) -/

/-- Admin gate lists (Table 7.8): the field the table calls GCL_GATES_GATES. -/
def GCL_GATES_GATES : Fld := ⟨0x0, 0, 8⟩
/-- Admin gate lists (Table 7.8): the field the table calls GCL_INTERVAL_INTERVAL. -/
def GCL_INTERVAL_INTERVAL : Fld := ⟨0x4, 0, 30⟩

/-! SCHED_TXD n (Table 7.8) -/

/-- SCHED_TXD n (Table 7.8): the field the table calls SCHED_TXD_ADDR_OFFSET. -/
def SCHED_TXD_ADDR_OFFSET : Fld := ⟨0x0, 0, 32⟩
/-- SCHED_TXD n (Table 7.8): the field the table calls SCHED_TXD_CMD_LEN. -/
def SCHED_TXD_CMD_LEN : Fld := ⟨0x4, 0, 14⟩
/-- SCHED_TXD n (Table 7.8): the field the table calls SCHED_TXD_CMD_PRE_YELLOW. -/
def SCHED_TXD_CMD_PRE_YELLOW : Fld := ⟨0x4, 14, 1⟩

/-! Stream context records (Table 7.9) -/

/-- Stream context records (Table 7.9): the field the table calls CTX_CTRL_EN. -/
def CTX_CTRL_EN : Fld := ⟨0x0, 0, 1⟩
/-- Stream context records (Table 7.9): the field the table calls CTX_CTRL_SPLIT. -/
def CTX_CTRL_SPLIT : Fld := ⟨0x0, 1, 1⟩
/-- Stream context records (Table 7.9): the field the table calls CTX_CTRL_FAST. -/
def CTX_CTRL_FAST : Fld := ⟨0x0, 2, 1⟩
/-- Stream context records (Table 7.9): the field the table calls CTX_CTRL_DIR_DRAG. -/
def CTX_CTRL_DIR_DRAG : Fld := ⟨0x0, 3, 1⟩
/-- Stream context records (Table 7.9): the field the table calls CTX_CTRL_TC. -/
def CTX_CTRL_TC : Fld := ⟨0x0, 4, 3⟩
/-- Stream context records (Table 7.9): the field the table calls CTX_CTRL_TAG. -/
def CTX_CTRL_TAG : Fld := ⟨0x0, 7, 1⟩
/-- Stream context records (Table 7.9): the field the table calls CTX_CTRL_PORTS. -/
def CTX_CTRL_PORTS : Fld := ⟨0x0, 8, 5⟩
/-- Stream context records (Table 7.9): the field the table calls CTX_CTRL_FILTER. -/
def CTX_CTRL_FILTER : Fld := ⟨0x0, 13, 1⟩
/-- Stream context records (Table 7.9): the field the table calls CTX_CTRL_WEIGHT. -/
def CTX_CTRL_WEIGHT : Fld := ⟨0x0, 16, 8⟩
/-- Stream context records (Table 7.9): the field the table calls CTX_VLAN_VID. -/
def CTX_VLAN_VID : Fld := ⟨0x4, 0, 12⟩
/-- Stream context records (Table 7.9): the field the table calls CTX_QCFG_QDEPTH. -/
def CTX_QCFG_QDEPTH : Fld := ⟨0x8, 0, 9⟩
/-- Stream context records (Table 7.9): the field the table calls CTX_CIR_KBPS. -/
def CTX_CIR_KBPS : Fld := ⟨0xc, 0, 32⟩
/-- Stream context records (Table 7.9): the field the table calls CTX_PIR_KBPS. -/
def CTX_PIR_KBPS : Fld := ⟨0x10, 0, 32⟩
/-- Stream context records (Table 7.9): the field the table calls CTX_BURST_CBS. -/
def CTX_BURST_CBS : Fld := ⟨0x14, 0, 16⟩
/-- Stream context records (Table 7.9): the field the table calls CTX_BURST_PBS. -/
def CTX_BURST_PBS : Fld := ⟨0x14, 16, 16⟩
/-- Stream context records (Table 7.9): the field the table calls CTX_MCFG_METER_EN. -/
def CTX_MCFG_METER_EN : Fld := ⟨0x18, 0, 1⟩
/-- Stream context records (Table 7.9): the field the table calls CTX_MCFG_COLOUR_AWARE. -/
def CTX_MCFG_COLOUR_AWARE : Fld := ⟨0x18, 1, 1⟩
/-- Stream context records (Table 7.9): the field the table calls CTX_MCFG_YELLOW_ACT. -/
def CTX_MCFG_YELLOW_ACT : Fld := ⟨0x18, 2, 2⟩
/-- Stream context records (Table 7.9): the field the table calls CTX_MCFG_RED_BLOCK. -/
def CTX_MCFG_RED_BLOCK : Fld := ⟨0x18, 4, 1⟩
/-- Stream context records (Table 7.9): the field the table calls CTX_MCFG_BLOCKED. -/
def CTX_MCFG_BLOCKED : Fld := ⟨0x18, 5, 1⟩
/-- Stream context records (Table 7.9): the field the table calls CTX_STAT_QLEVEL. -/
def CTX_STAT_QLEVEL : Fld := ⟨0x1c, 0, 9⟩
/-- Stream context records (Table 7.9): the field the table calls CTX_STAT_LAST_ENQ. -/
def CTX_STAT_LAST_ENQ : Fld := ⟨0x1c, 16, 8⟩
/-- Stream context records (Table 7.9): the field the table calls CTX_SEQ_ENQ_SEQ. -/
def CTX_SEQ_ENQ_SEQ : Fld := ⟨0x20, 0, 16⟩
/-- Stream context records (Table 7.9): the field the table calls CTX_SEQ_HSR_SEQ. -/
def CTX_SEQ_HSR_SEQ : Fld := ⟨0x20, 16, 16⟩
/-- Stream context records (Table 7.9): the field the table calls CTX_TX_FRAMES. -/
def CTX_TX_FRAMES : Fld := ⟨0x24, 0, 32⟩
/-- Stream context records (Table 7.9): the field the table calls CTX_TX_OCTETS. -/
def CTX_TX_OCTETS : Fld := ⟨0x28, 0, 32⟩
/-- Stream context records (Table 7.9): the field the table calls CTX_ENQ_REFUSED. -/
def CTX_ENQ_REFUSED : Fld := ⟨0x2c, 0, 32⟩
/-- Stream context records (Table 7.9): the field the table calls CTX_YELLOW. -/
def CTX_YELLOW : Fld := ⟨0x30, 0, 32⟩
/-- Stream context records (Table 7.9): the field the table calls CTX_RED. -/
def CTX_RED : Fld := ⟨0x34, 0, 32⟩
/-- Stream context records (Table 7.9): the field the table calls CTX_WINDOW_DROP. -/
def CTX_WINDOW_DROP : Fld := ⟨0x38, 0, 32⟩
/-- Stream context records (Table 7.9): the field the table calls CTX_FLUSHED. -/
def CTX_FLUSHED : Fld := ⟨0x3c, 0, 32⟩

/-! LEDGER block (Table 9.13) -/

/-- LEDGER block (Table 9.13): the field the table calls LEDGER_CTRL_EN. -/
def LEDGER_CTRL_EN : Fld := ⟨0x0, 0, 1⟩
/-- LEDGER block (Table 9.13): the field the table calls LEDGER_CFG_HORIZON_US. -/
def LEDGER_CFG_HORIZON_US : Fld := ⟨0x4, 0, 14⟩
/-- LEDGER block (Table 9.13): the field the table calls LEDGER_CFG_WM_INT_US. -/
def LEDGER_CFG_WM_INT_US : Fld := ⟨0x4, 16, 4⟩
/-- LEDGER block (Table 9.13): the field the table calls LEDGER_FAST_INGOTS. -/
def LEDGER_FAST_INGOTS : Fld := ⟨0x8, 0, 10⟩
/-- LEDGER block (Table 9.13): the field the table calls LEDGER_ETYPE_ETYPE. -/
def LEDGER_ETYPE_ETYPE : Fld := ⟨0xc, 0, 16⟩
/-- LEDGER block (Table 9.13): the field the table calls LEDGER_STAT_HOLD_LVL. -/
def LEDGER_STAT_HOLD_LVL : Fld := ⟨0x10, 0, 14⟩
/-- LEDGER block (Table 9.13): the field the table calls LEDGER_STAT_ANY_LAGGING. -/
def LEDGER_STAT_ANY_LAGGING : Fld := ⟨0x10, 16, 1⟩
/-- LEDGER block (Table 9.13): the field the table calls LEDGER_EVT. -/
def LEDGER_EVT : Fld := ⟨0x14, 0, 7⟩
/-- LEDGER block (Table 9.13): the field the table calls LEDGER_IE. -/
def LEDGER_IE : Fld := ⟨0x18, 0, 7⟩
/-- LEDGER block (Table 9.13): the field the table calls LEDGER_ORD_POS_LO. -/
def LEDGER_ORD_POS_LO : Fld := ⟨0x20, 0, 32⟩
/-- LEDGER block (Table 9.13): the field the table calls LEDGER_ORD_POS_HI. -/
def LEDGER_ORD_POS_HI : Fld := ⟨0x24, 0, 32⟩
/-- LEDGER block (Table 9.13): the field the table calls LEDGER_FAST_POS_LO. -/
def LEDGER_FAST_POS_LO : Fld := ⟨0x28, 0, 32⟩
/-- LEDGER block (Table 9.13): the field the table calls LEDGER_FAST_POS_HI. -/
def LEDGER_FAST_POS_HI : Fld := ⟨0x2c, 0, 32⟩
/-- LEDGER block (Table 9.13): the field the table calls LEDGER_ORD_CAP_RECORDS. -/
def LEDGER_ORD_CAP_RECORDS : Fld := ⟨0x30, 0, 20⟩
/-- LEDGER block (Table 9.13): the field the table calls LEDGER_FAST_CAP_RECORDS. -/
def LEDGER_FAST_CAP_RECORDS : Fld := ⟨0x34, 0, 20⟩
/-- LEDGER block (Table 9.13): the field the table calls LEDGER_FRONTIER_NS_NS. -/
def LEDGER_FRONTIER_NS_NS : Fld := ⟨0x38, 0, 30⟩
/-- LEDGER block (Table 9.13): the field the table calls LEDGER_FRONTIER_SL_SEC_LO. -/
def LEDGER_FRONTIER_SL_SEC_LO : Fld := ⟨0x3c, 0, 32⟩
/-- LEDGER block (Table 9.13): the field the table calls LEDGER_FRONTIER_SH_SEC_HI. -/
def LEDGER_FRONTIER_SH_SEC_HI : Fld := ⟨0x40, 0, 16⟩
/-- LEDGER block (Table 9.13): the field the table calls LEDGER_RELEASED. -/
def LEDGER_RELEASED : Fld := ⟨0x80, 0, 32⟩
/-- LEDGER block (Table 9.13): the field the table calls LEDGER_FAST_RX. -/
def LEDGER_FAST_RX : Fld := ⟨0x84, 0, 32⟩
/-- LEDGER block (Table 9.13): the field the table calls LEDGER_LATE. -/
def LEDGER_LATE : Fld := ⟨0x88, 0, 32⟩
/-- LEDGER block (Table 9.13): the field the table calls LEDGER_FORCED. -/
def LEDGER_FORCED : Fld := ⟨0x8c, 0, 32⟩
/-- LEDGER block (Table 9.13): the field the table calls LEDGER_HOLD_FULL. -/
def LEDGER_HOLD_FULL : Fld := ⟨0x90, 0, 32⟩
/-- LEDGER block (Table 9.13): the field the table calls LEDGER_GAP. -/
def LEDGER_GAP : Fld := ⟨0x94, 0, 32⟩
/-- LEDGER block (Table 9.13): the field the table calls LEDGER_DUP. -/
def LEDGER_DUP : Fld := ⟨0x98, 0, 32⟩
/-- LEDGER block (Table 9.13): the field the table calls LEDGER_BEFORE_START. -/
def LEDGER_BEFORE_START : Fld := ⟨0x9c, 0, 32⟩
/-- LEDGER block (Table 9.13): the field the table calls LEDGER_BAD_FRAME. -/
def LEDGER_BAD_FRAME : Fld := ⟨0xa0, 0, 32⟩
/-- LEDGER block (Table 9.13): the field the table calls LEDGER_FLUSHED. -/
def LEDGER_FLUSHED : Fld := ⟨0xa4, 0, 32⟩
/-- LEDGER block (Table 9.13): the field the table calls LEDGER_TRIG_FIRED. -/
def LEDGER_TRIG_FIRED : Fld := ⟨0xa8, 0, 32⟩
/-- LEDGER block (Table 9.13): the field the table calls LEDGER_TRIG_LATE. -/
def LEDGER_TRIG_LATE : Fld := ⟨0xac, 0, 32⟩
/-- LEDGER block (Table 9.13): the field the table calls LEDGER_TRIG_MISS. -/
def LEDGER_TRIG_MISS : Fld := ⟨0xb0, 0, 32⟩

/-! LEDGER_PUB c (Table 9.13) -/

/-- LEDGER_PUB c (Table 9.13): the field the table calls LEDGER_PUB_PUB_CTX. -/
def LEDGER_PUB_PUB_CTX : Fld := ⟨0x0, 0, 10⟩
/-- LEDGER_PUB c (Table 9.13): the field the table calls LEDGER_PUB_LOCAL_FAST. -/
def LEDGER_PUB_LOCAL_FAST : Fld := ⟨0x0, 12, 1⟩

/-! LEDGER_LAG c (Table 9.13) -/

/-- LEDGER_LAG c (Table 9.13): the field the table calls LEDGER_LAG_LAG_NS. -/
def LEDGER_LAG_LAG_NS : Fld := ⟨0x0, 0, 32⟩

/-! Subscription registers (Table 9.13) -/

/-- Subscription registers (Table 9.13): the field the table calls SUB_CFG_NODE. -/
def SUB_CFG_NODE : Fld := ⟨0x0, 0, 8⟩
/-- Subscription registers (Table 9.13): the field the table calls SUB_CFG_SOURCE. -/
def SUB_CFG_SOURCE : Fld := ⟨0x0, 8, 8⟩
/-- Subscription registers (Table 9.13): the field the table calls SUB_CFG_IN_USE. -/
def SUB_CFG_IN_USE : Fld := ⟨0x0, 16, 1⟩
/-- Subscription registers (Table 9.13): the field the table calls SUB_CFG_ACTIVE. -/
def SUB_CFG_ACTIVE : Fld := ⟨0x0, 17, 1⟩
/-- Subscription registers (Table 9.13): the field the table calls SUB_CFG_LAGGING. -/
def SUB_CFG_LAGGING : Fld := ⟨0x0, 18, 1⟩
/-- Subscription registers (Table 9.13): the field the table calls SUB_CFG_FAST. -/
def SUB_CFG_FAST : Fld := ⟨0x0, 19, 1⟩
/-- Subscription registers (Table 9.13): the field the table calls SUB_START_NS_NS. -/
def SUB_START_NS_NS : Fld := ⟨0x4, 0, 30⟩
/-- Subscription registers (Table 9.13): the field the table calls SUB_START_SL_SEC_LO. -/
def SUB_START_SL_SEC_LO : Fld := ⟨0x8, 0, 32⟩
/-- Subscription registers (Table 9.13): the field the table calls SUB_START_SH_SEC_HI. -/
def SUB_START_SH_SEC_HI : Fld := ⟨0xc, 0, 16⟩
/-- Subscription registers (Table 9.13): the field the table calls SUB_END_NS_NS. -/
def SUB_END_NS_NS : Fld := ⟨0x10, 0, 30⟩
/-- Subscription registers (Table 9.13): the field the table calls SUB_END_SL_SEC_LO. -/
def SUB_END_SL_SEC_LO : Fld := ⟨0x14, 0, 32⟩
/-- Subscription registers (Table 9.13): the field the table calls SUB_END_SH_SEC_HI. -/
def SUB_END_SH_SEC_HI : Fld := ⟨0x18, 0, 16⟩
/-- Subscription registers (Table 9.13): the field the table calls SUB_WM_WM. -/
def SUB_WM_WM : Fld := ⟨0x1c, 0, 32⟩

/-! Trigger registers (Table 9.13) -/

/-- Trigger registers (Table 9.13): the field the table calls TRIG_MATCH0_NODE. -/
def TRIG_MATCH0_NODE : Fld := ⟨0x0, 0, 8⟩
/-- Trigger registers (Table 9.13): the field the table calls TRIG_MATCH0_TYPE. -/
def TRIG_MATCH0_TYPE : Fld := ⟨0x0, 8, 8⟩
/-- Trigger registers (Table 9.13): the field the table calls TRIG_MATCH0_UNIT. -/
def TRIG_MATCH0_UNIT : Fld := ⟨0x0, 16, 16⟩
/-- Trigger registers (Table 9.13): the field the table calls TRIG_MATCH1_BYTE. -/
def TRIG_MATCH1_BYTE : Fld := ⟨0x4, 0, 4⟩
/-- Trigger registers (Table 9.13): the field the table calls TRIG_MATCH1_MASK. -/
def TRIG_MATCH1_MASK : Fld := ⟨0x4, 8, 8⟩
/-- Trigger registers (Table 9.13): the field the table calls TRIG_MATCH1_VALUE. -/
def TRIG_MATCH1_VALUE : Fld := ⟨0x4, 16, 8⟩
/-- Trigger registers (Table 9.13): the field the table calls TRIG_MATCH1_EN. -/
def TRIG_MATCH1_EN : Fld := ⟨0x4, 31, 1⟩
/-- Trigger registers (Table 9.13): the field the table calls TRIG_DELAY_NS. -/
def TRIG_DELAY_NS : Fld := ⟨0x8, 0, 32⟩
/-- Trigger registers (Table 9.13): the field the table calls TRIG_N_N. -/
def TRIG_N_N : Fld := ⟨0xc, 0, 4⟩

/-! TRIG_WR t k (Table 9.13) -/

/-- TRIG_WR t k (Table 9.13): the field the table calls TRIG_WR_OFFSET_OFFSET. -/
def TRIG_WR_OFFSET_OFFSET : Fld := ⟨0x0, 0, 32⟩
/-- TRIG_WR t k (Table 9.13): the field the table calls TRIG_WR_VALUE. -/
def TRIG_WR_VALUE : Fld := ⟨0x4, 0, 32⟩

/-! PIMG block (Table 9.14) -/

/-- PIMG block (Table 9.14): the field the table calls PIMG_CTRL_EN. -/
def PIMG_CTRL_EN : Fld := ⟨0x0, 0, 1⟩
/-- PIMG block (Table 9.14): the field the table calls PIMG_CFG_SLOTS. -/
def PIMG_CFG_SLOTS : Fld := ⟨0x4, 0, 15⟩
/-- PIMG block (Table 9.14): the field the table calls PIMG_MAP_SEL_SLOT. -/
def PIMG_MAP_SEL_SLOT : Fld := ⟨0x8, 0, 14⟩
/-- PIMG block (Table 9.14): the field the table calls PIMG_MAP_W0. -/
def PIMG_MAP_W0 : Fld := ⟨0x10, 0, 32⟩
/-- PIMG block (Table 9.14): the field the table calls PIMG_MAP_W1. -/
def PIMG_MAP_W1 : Fld := ⟨0x14, 0, 32⟩
/-- PIMG block (Table 9.14): the field the table calls PIMG_MAP_W2. -/
def PIMG_MAP_W2 : Fld := ⟨0x18, 0, 32⟩
/-- PIMG block (Table 9.14): the field the table calls PIMG_MAP_W3. -/
def PIMG_MAP_W3 : Fld := ⟨0x1c, 0, 32⟩
/-- PIMG block (Table 9.14): the field the table calls PIMG_EVT. -/
def PIMG_EVT : Fld := ⟨0x20, 0, 3⟩
/-- PIMG block (Table 9.14): the field the table calls PIMG_IE. -/
def PIMG_IE : Fld := ⟨0x24, 0, 3⟩
/-- PIMG block (Table 9.14): the field the table calls PIMG_WRITES. -/
def PIMG_WRITES : Fld := ⟨0x40, 0, 32⟩
/-- PIMG block (Table 9.14): the field the table calls PIMG_OVERWRITES. -/
def PIMG_OVERWRITES : Fld := ⟨0x44, 0, 32⟩
/-- PIMG block (Table 9.14): the field the table calls PIMG_PUB_TX. -/
def PIMG_PUB_TX : Fld := ⟨0x48, 0, 32⟩
/-- PIMG block (Table 9.14): the field the table calls PIMG_PUB_REFUSED. -/
def PIMG_PUB_REFUSED : Fld := ⟨0x4c, 0, 32⟩
/-- PIMG block (Table 9.14): the field the table calls PIMG_MIRROR_RX. -/
def PIMG_MIRROR_RX : Fld := ⟨0x50, 0, 32⟩
/-- PIMG block (Table 9.14): the field the table calls PIMG_MIRROR_OLD. -/
def PIMG_MIRROR_OLD : Fld := ⟨0x54, 0, 32⟩
/-- PIMG block (Table 9.14): the field the table calls PIMG_STALE. -/
def PIMG_STALE : Fld := ⟨0x58, 0, 32⟩

/-! CAN controller registers (Table 11.11) -/

/-- CAN controller registers (Table 11.11): the field the table calls CAN_CTRL_EN. -/
def CAN_CTRL_EN : Fld := ⟨0x0, 0, 1⟩
/-- CAN controller registers (Table 11.11): the field the table calls CAN_CTRL_FMT. -/
def CAN_CTRL_FMT : Fld := ⟨0x0, 1, 3⟩
/-- CAN controller registers (Table 11.11): the field the table calls CAN_CTRL_MODE. -/
def CAN_CTRL_MODE : Fld := ⟨0x0, 4, 2⟩
/-- CAN controller registers (Table 11.11): the field the table calls CAN_CTRL_STAMP_AT. -/
def CAN_CTRL_STAMP_AT : Fld := ⟨0x0, 6, 1⟩
/-- CAN controller registers (Table 11.11): the field the table calls CAN_CTRL_BUSOFF_MANUAL. -/
def CAN_CTRL_BUSOFF_MANUAL : Fld := ⟨0x0, 7, 1⟩
/-- CAN controller registers (Table 11.11): the field the table calls CAN_CTRL_RECOVER. -/
def CAN_CTRL_RECOVER : Fld := ⟨0x0, 8, 1⟩
/-- CAN controller registers (Table 11.11): the field the table calls CAN_CTRL_PAIR_HOLD. -/
def CAN_CTRL_PAIR_HOLD : Fld := ⟨0x0, 9, 1⟩
/-- CAN controller registers (Table 11.11): the field the table calls CAN_CTRL_FSET. -/
def CAN_CTRL_FSET : Fld := ⟨0x0, 10, 3⟩
/-- CAN controller registers (Table 11.11): the field the table calls CAN_CTRL_DEF_ACCEPT. -/
def CAN_CTRL_DEF_ACCEPT : Fld := ⟨0x0, 13, 1⟩
/-- CAN controller registers (Table 11.11): the field the table calls CAN_CTRL_DEF_LEDGER. -/
def CAN_CTRL_DEF_LEDGER : Fld := ⟨0x0, 14, 1⟩
/-- CAN controller registers (Table 11.11): the field the table calls CAN_CTRL_TX_LEDGER. -/
def CAN_CTRL_TX_LEDGER : Fld := ⟨0x0, 15, 1⟩
/-- CAN controller registers (Table 11.11): the field the table calls CAN_STAT_ESTATE. -/
def CAN_STAT_ESTATE : Fld := ⟨0x4, 0, 2⟩
/-- CAN controller registers (Table 11.11): the field the table calls CAN_STAT_INTEGRATING. -/
def CAN_STAT_INTEGRATING : Fld := ⟨0x4, 2, 1⟩
/-- CAN controller registers (Table 11.11): the field the table calls CAN_STAT_HELD. -/
def CAN_STAT_HELD : Fld := ⟨0x4, 3, 1⟩
/-- CAN controller registers (Table 11.11): the field the table calls CAN_STAT_RECOVERING. -/
def CAN_STAT_RECOVERING : Fld := ⟨0x4, 4, 1⟩
/-- CAN controller registers (Table 11.11): the field the table calls CAN_STAT_TX_ACTIVE. -/
def CAN_STAT_TX_ACTIVE : Fld := ⟨0x4, 5, 1⟩
/-- CAN controller registers (Table 11.11): the field the table calls CAN_STAT_RX_ACTIVE. -/
def CAN_STAT_RX_ACTIVE : Fld := ⟨0x4, 6, 1⟩
/-- CAN controller registers (Table 11.11): the field the table calls CAN_ECNT_TEC. -/
def CAN_ECNT_TEC : Fld := ⟨0x8, 0, 9⟩
/-- CAN controller registers (Table 11.11): the field the table calls CAN_ECNT_REC. -/
def CAN_ECNT_REC : Fld := ⟨0x8, 16, 8⟩
/-- CAN controller registers (Table 11.11): the field the table calls CAN_BTIM_NOM_BRP. -/
def CAN_BTIM_NOM_BRP : Fld := ⟨0x10, 0, 8⟩
/-- CAN controller registers (Table 11.11): the field the table calls CAN_BTIM_NOM_TSEG1. -/
def CAN_BTIM_NOM_TSEG1 : Fld := ⟨0x10, 8, 8⟩
/-- CAN controller registers (Table 11.11): the field the table calls CAN_BTIM_NOM_TSEG2. -/
def CAN_BTIM_NOM_TSEG2 : Fld := ⟨0x10, 16, 7⟩
/-- CAN controller registers (Table 11.11): the field the table calls CAN_BTIM_NOM_SJW. -/
def CAN_BTIM_NOM_SJW : Fld := ⟨0x10, 24, 7⟩
/-- CAN controller registers (Table 11.11): the field the table calls CAN_BTIM_DATA_BRP. -/
def CAN_BTIM_DATA_BRP : Fld := ⟨0x14, 0, 5⟩
/-- CAN controller registers (Table 11.11): the field the table calls CAN_BTIM_DATA_TSEG1. -/
def CAN_BTIM_DATA_TSEG1 : Fld := ⟨0x14, 8, 5⟩
/-- CAN controller registers (Table 11.11): the field the table calls CAN_BTIM_DATA_TSEG2. -/
def CAN_BTIM_DATA_TSEG2 : Fld := ⟨0x14, 16, 4⟩
/-- CAN controller registers (Table 11.11): the field the table calls CAN_BTIM_DATA_SJW. -/
def CAN_BTIM_DATA_SJW : Fld := ⟨0x14, 24, 4⟩
/-- CAN controller registers (Table 11.11): the field the table calls CAN_BTIM_XL_BRP. -/
def CAN_BTIM_XL_BRP : Fld := ⟨0x18, 0, 5⟩
/-- CAN controller registers (Table 11.11): the field the table calls CAN_BTIM_XL_TSEG1. -/
def CAN_BTIM_XL_TSEG1 : Fld := ⟨0x18, 8, 5⟩
/-- CAN controller registers (Table 11.11): the field the table calls CAN_BTIM_XL_TSEG2. -/
def CAN_BTIM_XL_TSEG2 : Fld := ⟨0x18, 16, 4⟩
/-- CAN controller registers (Table 11.11): the field the table calls CAN_BTIM_XL_SJW. -/
def CAN_BTIM_XL_SJW : Fld := ⟨0x18, 24, 4⟩
/-- CAN controller registers (Table 11.11): the field the table calls CAN_TDC_EN. -/
def CAN_TDC_EN : Fld := ⟨0x1c, 0, 1⟩
/-- CAN controller registers (Table 11.11): the field the table calls CAN_TDC_TDCO. -/
def CAN_TDC_TDCO : Fld := ⟨0x1c, 8, 7⟩
/-- CAN controller registers (Table 11.11): the field the table calls CAN_TDC_TDCF. -/
def CAN_TDC_TDCF : Fld := ⟨0x1c, 16, 7⟩
/-- CAN controller registers (Table 11.11): the field the table calls CAN_TDC_TDCV. -/
def CAN_TDC_TDCV : Fld := ⟨0x1c, 24, 7⟩
/-- CAN controller registers (Table 11.11): the field the table calls CAN_XLCFG_PWMS. -/
def CAN_XLCFG_PWMS : Fld := ⟨0x20, 0, 6⟩
/-- CAN controller registers (Table 11.11): the field the table calls CAN_XLCFG_FAST. -/
def CAN_XLCFG_FAST : Fld := ⟨0x20, 7, 1⟩
/-- CAN controller registers (Table 11.11): the field the table calls CAN_XLCFG_PWML. -/
def CAN_XLCFG_PWML : Fld := ⟨0x20, 8, 6⟩
/-- CAN controller registers (Table 11.11): the field the table calls CAN_XLCFG_PWMO. -/
def CAN_XLCFG_PWMO : Fld := ⟨0x20, 16, 6⟩
/-- CAN controller registers (Table 11.11): the field the table calls CAN_XLCFG_TDCO_XL. -/
def CAN_XLCFG_TDCO_XL : Fld := ⟨0x20, 24, 7⟩
/-- CAN controller registers (Table 11.11): the field the table calls CAN_STORE_SLOT. -/
def CAN_STORE_SLOT : Fld := ⟨0x24, 0, 3⟩
/-- CAN controller registers (Table 11.11): the field the table calls CAN_STORE_TXN. -/
def CAN_STORE_TXN : Fld := ⟨0x24, 8, 6⟩
/-- CAN controller registers (Table 11.11): the field the table calls CAN_STORE_RXN. -/
def CAN_STORE_RXN : Fld := ⟨0x24, 16, 9⟩
/-- CAN controller registers (Table 11.11): the field the table calls CAN_REGION_OFFSET. -/
def CAN_REGION_OFFSET : Fld := ⟨0x28, 0, 32⟩
/-- CAN controller registers (Table 11.11): the field the table calls CAN_PAIRCFG_PCH. -/
def CAN_PAIRCFG_PCH : Fld := ⟨0x2c, 0, 8⟩
/-- CAN controller registers (Table 11.11): the field the table calls CAN_PAIRCFG_SETTLE_MS. -/
def CAN_PAIRCFG_SETTLE_MS : Fld := ⟨0x2c, 16, 10⟩
/-- CAN controller registers (Table 11.11): the field the table calls CAN_TREF_CTRL_EN. -/
def CAN_TREF_CTRL_EN : Fld := ⟨0x30, 0, 1⟩
/-- CAN controller registers (Table 11.11): the field the table calls CAN_TREF_CTRL_FORMAT. -/
def CAN_TREF_CTRL_FORMAT : Fld := ⟨0x30, 1, 1⟩
/-- CAN controller registers (Table 11.11): the field the table calls CAN_TREF_ID_ID. -/
def CAN_TREF_ID_ID : Fld := ⟨0x34, 0, 29⟩
/-- CAN controller registers (Table 11.11): the field the table calls CAN_TREF_ID_IDE. -/
def CAN_TREF_ID_IDE : Fld := ⟨0x34, 29, 1⟩
/-- CAN controller registers (Table 11.11): the field the table calls CAN_TREF_PERIOD_US. -/
def CAN_TREF_PERIOD_US : Fld := ⟨0x38, 0, 20⟩
/-- CAN controller registers (Table 11.11): the field the table calls CAN_TREF_CYCLE_CYCLE. -/
def CAN_TREF_CYCLE_CYCLE : Fld := ⟨0x3c, 0, 16⟩
/-- CAN controller registers (Table 11.11): the field the table calls CAN_EVT. -/
def CAN_EVT : Fld := ⟨0x40, 0, 9⟩
/-- CAN controller registers (Table 11.11): the field the table calls CAN_IE. -/
def CAN_IE : Fld := ⟨0x44, 0, 9⟩
/-- CAN controller registers (Table 11.11): the field the table calls CAN_QSTAT_RXQ_LVL. -/
def CAN_QSTAT_RXQ_LVL : Fld := ⟨0x48, 0, 9⟩
/-- CAN controller registers (Table 11.11): the field the table calls CAN_QSTAT_TXEQ_LVL. -/
def CAN_QSTAT_TXEQ_LVL : Fld := ⟨0x48, 16, 7⟩
/-- CAN controller registers (Table 11.11): the field the table calls CAN_TXPEND_PEND. -/
def CAN_TXPEND_PEND : Fld := ⟨0x4c, 0, 32⟩
/-- CAN controller registers (Table 11.11): the field the table calls CAN_FLT_SRC_OFFSET. -/
def CAN_FLT_SRC_OFFSET : Fld := ⟨0x50, 0, 32⟩
/-- CAN controller registers (Table 11.11): the field the table calls CAN_FLT_CMD_SET. -/
def CAN_FLT_CMD_SET : Fld := ⟨0x54, 0, 3⟩
/-- CAN controller registers (Table 11.11): the field the table calls CAN_FLT_CMD_COUNT. -/
def CAN_FLT_CMD_COUNT : Fld := ⟨0x54, 8, 7⟩
/-- CAN controller registers (Table 11.11): the field the table calls CAN_FLT_CMD_GO. -/
def CAN_FLT_CMD_GO : Fld := ⟨0x54, 16, 1⟩
/-- CAN controller registers (Table 11.11): the field the table calls CAN_RX_FRAMES. -/
def CAN_RX_FRAMES : Fld := ⟨0x80, 0, 32⟩
/-- CAN controller registers (Table 11.11): the field the table calls CAN_TX_FRAMES. -/
def CAN_TX_FRAMES : Fld := ⟨0x84, 0, 32⟩
/-- CAN controller registers (Table 11.11): the field the table calls CAN_REJECTED. -/
def CAN_REJECTED : Fld := ⟨0x88, 0, 32⟩
/-- CAN controller registers (Table 11.11): the field the table calls CAN_RXQ_OVF. -/
def CAN_RXQ_OVF : Fld := ⟨0x8c, 0, 32⟩
/-- CAN controller registers (Table 11.11): the field the table calls CAN_RX_TOOLONG. -/
def CAN_RX_TOOLONG : Fld := ⟨0x90, 0, 32⟩
/-- CAN controller registers (Table 11.11): the field the table calls CAN_TXEQ_OVF. -/
def CAN_TXEQ_OVF : Fld := ⟨0x94, 0, 32⟩
/-- CAN controller registers (Table 11.11): the field the table calls CAN_TX_REFUSED. -/
def CAN_TX_REFUSED : Fld := ⟨0x98, 0, 32⟩
/-- CAN controller registers (Table 11.11): the field the table calls CAN_ARB_LOST. -/
def CAN_ARB_LOST : Fld := ⟨0x9c, 0, 32⟩
/-- CAN controller registers (Table 11.11): the field the table calls CAN_ERR_BIT. -/
def CAN_ERR_BIT : Fld := ⟨0xa0, 0, 32⟩
/-- CAN controller registers (Table 11.11): the field the table calls CAN_ERR_STUFF. -/
def CAN_ERR_STUFF : Fld := ⟨0xa4, 0, 32⟩
/-- CAN controller registers (Table 11.11): the field the table calls CAN_ERR_FORM. -/
def CAN_ERR_FORM : Fld := ⟨0xa8, 0, 32⟩
/-- CAN controller registers (Table 11.11): the field the table calls CAN_ERR_ACK. -/
def CAN_ERR_ACK : Fld := ⟨0xac, 0, 32⟩
/-- CAN controller registers (Table 11.11): the field the table calls CAN_ERR_CRC. -/
def CAN_ERR_CRC : Fld := ⟨0xb0, 0, 32⟩
/-- CAN controller registers (Table 11.11): the field the table calls CAN_BUSOFF. -/
def CAN_BUSOFF : Fld := ⟨0xb4, 0, 32⟩
/-- CAN controller registers (Table 11.11): the field the table calls CAN_TREF_MISS. -/
def CAN_TREF_MISS : Fld := ⟨0xb8, 0, 32⟩
/-- CAN controller registers (Table 11.11): the field the table calls CAN_RXQ_FLUSHED. -/
def CAN_RXQ_FLUSHED : Fld := ⟨0xbc, 0, 32⟩
/-- CAN controller registers (Table 11.11): the field the table calls CAN_TXEQ_POP. -/
def CAN_TXEQ_POP : Fld := ⟨0xf4, 0, 32⟩
/-- CAN controller registers (Table 11.11): the field the table calls CAN_ISUM_SUM. -/
def CAN_ISUM_SUM : Fld := ⟨0xf00, 0, 16⟩

/-! CAN transmit buffer registers (Table 11.11) -/

/-- CAN transmit buffer registers (Table 11.11): the field the table calls CAN_TXB_ID_ID. -/
def CAN_TXB_ID_ID : Fld := ⟨0x0, 0, 29⟩
/-- CAN transmit buffer registers (Table 11.11): the field the table calls CAN_TXB_ID_IDE. -/
def CAN_TXB_ID_IDE : Fld := ⟨0x0, 29, 1⟩
/-- CAN transmit buffer registers (Table 11.11): the field the table calls CAN_TXB_ID_RTR. -/
def CAN_TXB_ID_RTR : Fld := ⟨0x0, 30, 1⟩
/-- CAN transmit buffer registers (Table 11.11): the field the table calls CAN_TXB_FMT_FORMAT. -/
def CAN_TXB_FMT_FORMAT : Fld := ⟨0x4, 0, 2⟩
/-- CAN transmit buffer registers (Table 11.11): the field the table calls CAN_TXB_FMT_BRS. -/
def CAN_TXB_FMT_BRS : Fld := ⟨0x4, 2, 1⟩
/-- CAN transmit buffer registers (Table 11.11): the field the table calls CAN_TXB_FMT_ONE_SHOT. -/
def CAN_TXB_FMT_ONE_SHOT : Fld := ⟨0x4, 3, 1⟩
/-- CAN transmit buffer registers (Table 11.11): the field the table calls CAN_TXB_FMT_TT. -/
def CAN_TXB_FMT_TT : Fld := ⟨0x4, 4, 1⟩
/-- CAN transmit buffer registers (Table 11.11): the field the table calls CAN_TXB_FMT_SEC. -/
def CAN_TXB_FMT_SEC : Fld := ⟨0x4, 5, 1⟩
/-- CAN transmit buffer registers (Table 11.11): the field the table calls CAN_TXB_FMT_SDT. -/
def CAN_TXB_FMT_SDT : Fld := ⟨0x4, 8, 8⟩
/-- CAN transmit buffer registers (Table 11.11): the field the table calls CAN_TXB_FMT_VCID. -/
def CAN_TXB_FMT_VCID : Fld := ⟨0x4, 16, 8⟩
/-- CAN transmit buffer registers (Table 11.11): the field the table calls CAN_TXB_LEN_LEN. -/
def CAN_TXB_LEN_LEN : Fld := ⟨0x8, 0, 12⟩
/-- CAN transmit buffer registers (Table 11.11): the field the table calls CAN_TXB_AF_AF. -/
def CAN_TXB_AF_AF : Fld := ⟨0xc, 0, 32⟩
/-- CAN transmit buffer registers (Table 11.11): the field the table calls CAN_TXB_AT_NS_NS. -/
def CAN_TXB_AT_NS_NS : Fld := ⟨0x10, 0, 30⟩
/-- CAN transmit buffer registers (Table 11.11): the field the table calls CAN_TXB_AT_SL_SEC_LO. -/
def CAN_TXB_AT_SL_SEC_LO : Fld := ⟨0x14, 0, 32⟩
/-- CAN transmit buffer registers (Table 11.11): the field the table calls CAN_TXB_AT_SH_SEC_HI. -/
def CAN_TXB_AT_SH_SEC_HI : Fld := ⟨0x18, 0, 16⟩
/-- CAN transmit buffer registers (Table 11.11): the field the table calls CAN_TXB_SRC_OFFSET. -/
def CAN_TXB_SRC_OFFSET : Fld := ⟨0x1c, 0, 32⟩
/-- CAN transmit buffer registers (Table 11.11): the field the table calls CAN_TXB_CMD_SUBMIT. -/
def CAN_TXB_CMD_SUBMIT : Fld := ⟨0x20, 0, 1⟩
/-- CAN transmit buffer registers (Table 11.11): the field the table calls CAN_TXB_CMD_CANCEL. -/
def CAN_TXB_CMD_CANCEL : Fld := ⟨0x20, 1, 1⟩
/-- CAN transmit buffer registers (Table 11.11): the field the table calls CAN_TXB_STAT_STATE. -/
def CAN_TXB_STAT_STATE : Fld := ⟨0x24, 0, 3⟩
/-- CAN transmit buffer registers (Table 11.11): the field the table calls CAN_TXB_STAT_RESULT. -/
def CAN_TXB_STAT_RESULT : Fld := ⟨0x24, 4, 4⟩
/-- CAN transmit buffer registers (Table 11.11): the field the table calls CAN_TXB_STAT_CANCEL_LATE. -/
def CAN_TXB_STAT_CANCEL_LATE : Fld := ⟨0x24, 8, 1⟩
/-- CAN transmit buffer registers (Table 11.11): the field the table calls CAN_TXB_STAT_TT_LATE. -/
def CAN_TXB_STAT_TT_LATE : Fld := ⟨0x24, 9, 1⟩
/-- CAN transmit buffer registers (Table 11.11): the field the table calls CAN_TXB_STAT_FENCED. -/
def CAN_TXB_STAT_FENCED : Fld := ⟨0x24, 10, 1⟩
/-- CAN transmit buffer registers (Table 11.11): the field the table calls CAN_TXB_STAT_SUBMITS. -/
def CAN_TXB_STAT_SUBMITS : Fld := ⟨0x24, 16, 16⟩
/-- CAN transmit buffer registers (Table 11.11): the field the table calls CAN_TXB_STAMP_STAMP. -/
def CAN_TXB_STAMP_STAMP : Fld := ⟨0x28, 0, 32⟩

/-! CAN_RXMAP m (Table 11.11) -/

/-- CAN_RXMAP m (Table 11.11): the field the table calls CAN_RXMAP0_ELEM. -/
def CAN_RXMAP0_ELEM : Fld := ⟨0x0, 0, 6⟩
/-- CAN_RXMAP m (Table 11.11): the field the table calls CAN_RXMAP0_SET. -/
def CAN_RXMAP0_SET : Fld := ⟨0x0, 8, 3⟩
/-- CAN_RXMAP m (Table 11.11): the field the table calls CAN_RXMAP0_EN. -/
def CAN_RXMAP0_EN : Fld := ⟨0x0, 15, 1⟩
/-- CAN_RXMAP m (Table 11.11): the field the table calls CAN_RXMAP0_OFS. -/
def CAN_RXMAP0_OFS : Fld := ⟨0x0, 16, 11⟩
/-- CAN_RXMAP m (Table 11.11): the field the table calls CAN_RXMAP1_LEN. -/
def CAN_RXMAP1_LEN : Fld := ⟨0x4, 0, 6⟩

/-! CAN_TXMAP t (Table 11.11) -/

/-- CAN_TXMAP t (Table 11.11): the field the table calls CAN_TXMAP0_BUF. -/
def CAN_TXMAP0_BUF : Fld := ⟨0x0, 0, 5⟩
/-- CAN_TXMAP t (Table 11.11): the field the table calls CAN_TXMAP0_EN. -/
def CAN_TXMAP0_EN : Fld := ⟨0x0, 15, 1⟩
/-- CAN_TXMAP t (Table 11.11): the field the table calls CAN_TXMAP0_OFS. -/
def CAN_TXMAP0_OFS : Fld := ⟨0x0, 16, 11⟩
/-- CAN_TXMAP t (Table 11.11): the field the table calls CAN_TXMAP1_LEN. -/
def CAN_TXMAP1_LEN : Fld := ⟨0x4, 0, 6⟩
/-- CAN_TXMAP t (Table 11.11): the field the table calls CAN_TXMAP1_MODE. -/
def CAN_TXMAP1_MODE : Fld := ⟨0x4, 8, 1⟩
/-- CAN_TXMAP t (Table 11.11): the field the table calls CAN_TXMAP2_PERIOD_US. -/
def CAN_TXMAP2_PERIOD_US : Fld := ⟨0x8, 0, 24⟩

/-! Flask registers (Table 12.10) -/

/-- Flask registers (Table 12.10): the field the table calls FLASK_RUN_RUNNING. -/
def FLASK_RUN_RUNNING : Fld := ⟨0x0, 0, 8⟩
/-- Flask registers (Table 12.10): the field the table calls FLASK_RUN_STALLED. -/
def FLASK_RUN_STALLED : Fld := ⟨0x0, 8, 8⟩
/-- Flask registers (Table 12.10): the field the table calls FLASK_RUN_ARMED. -/
def FLASK_RUN_ARMED : Fld := ⟨0x0, 16, 8⟩
/-- Flask registers (Table 12.10): the field the table calls FLASK_GO_START. -/
def FLASK_GO_START : Fld := ⟨0x4, 0, 8⟩
/-- Flask registers (Table 12.10): the field the table calls FLASK_GO_STOP. -/
def FLASK_GO_STOP : Fld := ⟨0x4, 8, 8⟩
/-- Flask registers (Table 12.10): the field the table calls FLASK_GO_SAFE. -/
def FLASK_GO_SAFE : Fld := ⟨0x4, 16, 1⟩
/-- Flask registers (Table 12.10): the field the table calls FLASK_GO_RESTART. -/
def FLASK_GO_RESTART : Fld := ⟨0x4, 17, 1⟩
/-- Flask registers (Table 12.10): the field the table calls FLASK_TALLY_T0. -/
def FLASK_TALLY_T0 : Fld := ⟨0x8, 0, 4⟩
/-- Flask registers (Table 12.10): the field the table calls FLASK_TALLY_T1. -/
def FLASK_TALLY_T1 : Fld := ⟨0x8, 4, 4⟩
/-- Flask registers (Table 12.10): the field the table calls FLASK_TALLY_T2. -/
def FLASK_TALLY_T2 : Fld := ⟨0x8, 8, 4⟩
/-- Flask registers (Table 12.10): the field the table calls FLASK_TALLY_T3. -/
def FLASK_TALLY_T3 : Fld := ⟨0x8, 12, 4⟩
/-- Flask registers (Table 12.10): the field the table calls FLASK_TALLY_T4. -/
def FLASK_TALLY_T4 : Fld := ⟨0x8, 16, 4⟩
/-- Flask registers (Table 12.10): the field the table calls FLASK_TALLY_T5. -/
def FLASK_TALLY_T5 : Fld := ⟨0x8, 20, 4⟩
/-- Flask registers (Table 12.10): the field the table calls FLASK_TALLY_T6. -/
def FLASK_TALLY_T6 : Fld := ⟨0x8, 24, 4⟩
/-- Flask registers (Table 12.10): the field the table calls FLASK_TALLY_T7. -/
def FLASK_TALLY_T7 : Fld := ⟨0x8, 28, 4⟩
/-- Flask registers (Table 12.10): the field the table calls FLASK_EVT. -/
def FLASK_EVT : Fld := ⟨0xc, 0, 24⟩
/-- Flask registers (Table 12.10): the field the table calls FLASK_IE. -/
def FLASK_IE : Fld := ⟨0x10, 0, 24⟩
/-- Flask registers (Table 12.10): the field the table calls FLASK_PMEM_ADDR_ADDR. -/
def FLASK_PMEM_ADDR_ADDR : Fld := ⟨0x14, 0, 10⟩
/-- Flask registers (Table 12.10): the field the table calls FLASK_PMEM_DATA. -/
def FLASK_PMEM_DATA : Fld := ⟨0x18, 0, 32⟩
/-- Flask registers (Table 12.10): the field the table calls FLASK_TALLY_CMD_POST. -/
def FLASK_TALLY_CMD_POST : Fld := ⟨0x1c, 0, 8⟩
/-- Flask registers (Table 12.10): the field the table calls FLASK_TALLY_CMD_CLR. -/
def FLASK_TALLY_CMD_CLR : Fld := ⟨0x1c, 8, 8⟩
/-- Flask registers (Table 12.10): the field the table calls FLASK_PLOAD_SRC_OFFSET. -/
def FLASK_PLOAD_SRC_OFFSET : Fld := ⟨0x20, 0, 32⟩
/-- Flask registers (Table 12.10): the field the table calls FLASK_PLOAD_CMD_DEST. -/
def FLASK_PLOAD_CMD_DEST : Fld := ⟨0x24, 0, 10⟩
/-- Flask registers (Table 12.10): the field the table calls FLASK_PLOAD_CMD_MASK. -/
def FLASK_PLOAD_CMD_MASK : Fld := ⟨0x24, 16, 8⟩
/-- Flask registers (Table 12.10): the field the table calls FLASK_PLOAD_CMD_SRC_KIND. -/
def FLASK_PLOAD_CMD_SRC_KIND : Fld := ⟨0x24, 24, 1⟩
/-- Flask registers (Table 12.10): the field the table calls FLASK_PLOAD_CMD_FLUSH_Q. -/
def FLASK_PLOAD_CMD_FLUSH_Q : Fld := ⟨0x24, 25, 1⟩
/-- Flask registers (Table 12.10): the field the table calls FLASK_PLOAD_CMD_CONFIGURE. -/
def FLASK_PLOAD_CMD_CONFIGURE : Fld := ⟨0x24, 26, 1⟩
/-- Flask registers (Table 12.10): the field the table calls FLASK_PLOAD_CMD_GO. -/
def FLASK_PLOAD_CMD_GO : Fld := ⟨0x24, 31, 1⟩
/-- Flask registers (Table 12.10): the field the table calls FLASK_PLOAD_STAT_RESULT. -/
def FLASK_PLOAD_STAT_RESULT : Fld := ⟨0x28, 0, 3⟩
/-- Flask registers (Table 12.10): the field the table calls FLASK_PLOAD_STAT_BUSY. -/
def FLASK_PLOAD_STAT_BUSY : Fld := ⟨0x28, 3, 1⟩
/-- Flask registers (Table 12.10): the field the table calls FLASK_PIN_CLASH. -/
def FLASK_PIN_CLASH : Fld := ⟨0x80, 0, 32⟩
/-- Flask registers (Table 12.10): the field the table calls FLASK_LOADS. -/
def FLASK_LOADS : Fld := ⟨0x84, 0, 32⟩
/-- Flask registers (Table 12.10): the field the table calls FLASK_TALLY_SAT. -/
def FLASK_TALLY_SAT : Fld := ⟨0x88, 0, 32⟩
/-- Flask registers (Table 12.10): the field the table calls FLASK_ISUM_SUM. -/
def FLASK_ISUM_SUM : Fld := ⟨0xf00, 0, 8⟩

/-! FLASK_PIN p (Table 12.10) -/

/-- FLASK_PIN p (Table 12.10): the field the table calls FLASK_PIN_SAFE. -/
def FLASK_PIN_SAFE : Fld := ⟨0x0, 0, 2⟩
/-- FLASK_PIN p (Table 12.10): the field the table calls FLASK_PIN_DIR. -/
def FLASK_PIN_DIR : Fld := ⟨0x0, 4, 1⟩
/-- FLASK_PIN p (Table 12.10): the field the table calls FLASK_PIN_LEVEL. -/
def FLASK_PIN_LEVEL : Fld := ⟨0x0, 5, 1⟩
/-- FLASK_PIN p (Table 12.10): the field the table calls FLASK_PIN_OUT. -/
def FLASK_PIN_OUT : Fld := ⟨0x0, 6, 1⟩
/-- FLASK_PIN p (Table 12.10): the field the table calls FLASK_PIN_PULL. -/
def FLASK_PIN_PULL : Fld := ⟨0x0, 8, 2⟩

/-! FLASK_RXQ_POP e (Table 12.10) -/

/-- FLASK_RXQ_POP e (Table 12.10): the field the table calls FLASK_RXQ_POP. -/
def FLASK_RXQ_POP : Fld := ⟨0x0, 0, 32⟩

/-! FLASK_TXQ_PUSH e (Table 12.10) -/

/-- FLASK_TXQ_PUSH e (Table 12.10): the field the table calls FLASK_TXQ_PUSH. -/
def FLASK_TXQ_PUSH : Fld := ⟨0x0, 0, 32⟩

/-! Flask engine sets (Table 12.10) -/

/-- Flask engine sets (Table 12.10): the field the table calls EC_CLK_DIV. -/
def EC_CLK_DIV : Fld := ⟨0x0, 0, 16⟩
/-- Flask engine sets (Table 12.10): the field the table calls EC_PROG_ENTRY. -/
def EC_PROG_ENTRY : Fld := ⟨0x4, 0, 10⟩
/-- Flask engine sets (Table 12.10): the field the table calls EC_PROG_LOW. -/
def EC_PROG_LOW : Fld := ⟨0x4, 10, 10⟩
/-- Flask engine sets (Table 12.10): the field the table calls EC_PROG_HIGH. -/
def EC_PROG_HIGH : Fld := ⟨0x4, 20, 10⟩
/-- Flask engine sets (Table 12.10): the field the table calls EC_PROG_LOADED. -/
def EC_PROG_LOADED : Fld := ⟨0x4, 31, 1⟩
/-- Flask engine sets (Table 12.10): the field the table calls EC_STREAM_TX_LSB. -/
def EC_STREAM_TX_LSB : Fld := ⟨0x8, 0, 1⟩
/-- Flask engine sets (Table 12.10): the field the table calls EC_STREAM_RX_LSB. -/
def EC_STREAM_RX_LSB : Fld := ⟨0x8, 1, 1⟩
/-- Flask engine sets (Table 12.10): the field the table calls EC_STREAM_TXW. -/
def EC_STREAM_TXW : Fld := ⟨0x8, 2, 3⟩
/-- Flask engine sets (Table 12.10): the field the table calls EC_STREAM_TXSRC. -/
def EC_STREAM_TXSRC : Fld := ⟨0x8, 5, 1⟩
/-- Flask engine sets (Table 12.10): the field the table calls EC_STREAM_RX_DISCARD. -/
def EC_STREAM_RX_DISCARD : Fld := ⟨0x8, 6, 1⟩
/-- Flask engine sets (Table 12.10): the field the table calls EC_STREAM_RXDEST. -/
def EC_STREAM_RXDEST : Fld := ⟨0x8, 8, 3⟩
/-- Flask engine sets (Table 12.10): the field the table calls EC_LANES_PIN. -/
def EC_LANES_PIN : Fld := ⟨0xc, 0, 32⟩
/-- Flask engine sets (Table 12.10): the field the table calls EC_STAT_PC. -/
def EC_STAT_PC : Fld := ⟨0x10, 0, 10⟩
/-- Flask engine sets (Table 12.10): the field the table calls EC_STAT_STALL_KIND. -/
def EC_STAT_STALL_KIND : Fld := ⟨0x10, 12, 3⟩
/-- Flask engine sets (Table 12.10): the field the table calls EC_STAT_TDN. -/
def EC_STAT_TDN : Fld := ⟨0x10, 16, 6⟩
/-- Flask engine sets (Table 12.10): the field the table calls EC_STAT_RAN. -/
def EC_STAT_RAN : Fld := ⟨0x10, 24, 5⟩
/-- Flask engine sets (Table 12.10): the field the table calls EC_W0. -/
def EC_W0 : Fld := ⟨0x14, 0, 32⟩
/-- Flask engine sets (Table 12.10): the field the table calls EC_W1. -/
def EC_W1 : Fld := ⟨0x18, 0, 32⟩
/-- Flask engine sets (Table 12.10): the field the table calls EC_W2. -/
def EC_W2 : Fld := ⟨0x1c, 0, 32⟩
/-- Flask engine sets (Table 12.10): the field the table calls EC_W3. -/
def EC_W3 : Fld := ⟨0x20, 0, 32⟩
/-- Flask engine sets (Table 12.10): the field the table calls EC_K_K0. -/
def EC_K_K0 : Fld := ⟨0x24, 0, 16⟩
/-- Flask engine sets (Table 12.10): the field the table calls EC_K_K1. -/
def EC_K_K1 : Fld := ⟨0x24, 16, 16⟩
/-- Flask engine sets (Table 12.10): the field the table calls EC_TD. -/
def EC_TD : Fld := ⟨0x28, 0, 32⟩
/-- Flask engine sets (Table 12.10): the field the table calls EC_RA. -/
def EC_RA : Fld := ⟨0x2c, 0, 32⟩
/-- Flask engine sets (Table 12.10): the field the table calls EC_Q_TXQ_LVL. -/
def EC_Q_TXQ_LVL : Fld := ⟨0x30, 0, 5⟩
/-- Flask engine sets (Table 12.10): the field the table calls EC_Q_RXQ_LVL. -/
def EC_Q_RXQ_LVL : Fld := ⟨0x30, 8, 5⟩
/-- Flask engine sets (Table 12.10): the field the table calls EC_STOP_STOP_CAUSE. -/
def EC_STOP_STOP_CAUSE : Fld := ⟨0x34, 0, 4⟩
/-- Flask engine sets (Table 12.10): the field the table calls EC_STOP_STOP_PC. -/
def EC_STOP_STOP_PC : Fld := ⟨0x34, 16, 10⟩
/-- Flask engine sets (Table 12.10): the field the table calls EC_LSTATE_DIR. -/
def EC_LSTATE_DIR : Fld := ⟨0x38, 0, 8⟩
/-- Flask engine sets (Table 12.10): the field the table calls EC_LSTATE_LATCH. -/
def EC_LSTATE_LATCH : Fld := ⟨0x38, 8, 8⟩
/-- Flask engine sets (Table 12.10): the field the table calls EC_LSTATE_LEVEL. -/
def EC_LSTATE_LEVEL : Fld := ⟨0x38, 16, 8⟩

/-! Flask engine counters (Table 12.10) -/

/-- Flask engine counters (Table 12.10): the field the table calls EC_RXQ_DROP. -/
def EC_RXQ_DROP : Fld := ⟨0x0, 0, 32⟩
/-- Flask engine counters (Table 12.10): the field the table calls EC_TXQ_DROP. -/
def EC_TXQ_DROP : Fld := ⟨0x4, 0, 32⟩
/-- Flask engine counters (Table 12.10): the field the table calls EC_AT_LATE. -/
def EC_AT_LATE : Fld := ⟨0x8, 0, 32⟩
/-- Flask engine counters (Table 12.10): the field the table calls EC_WORDS. -/
def EC_WORDS : Fld := ⟨0xc, 0, 32⟩

/-! DIO bank registers (Table 13.8) -/

/-- DIO bank registers (Table 13.8): the field the table calls DIO_BSTAT_VSEL. -/
def DIO_BSTAT_VSEL : Fld := ⟨0x0, 0, 1⟩
/-- DIO bank registers (Table 13.8): the field the table calls DIO_IN0_LEVEL. -/
def DIO_IN0_LEVEL : Fld := ⟨0x10, 0, 32⟩
/-- DIO bank registers (Table 13.8): the field the table calls DIO_IN1_LEVEL. -/
def DIO_IN1_LEVEL : Fld := ⟨0x14, 0, 32⟩
/-- DIO bank registers (Table 13.8): the field the table calls DIO_RAW0_LEVEL. -/
def DIO_RAW0_LEVEL : Fld := ⟨0x18, 0, 32⟩
/-- DIO bank registers (Table 13.8): the field the table calls DIO_RAW1_LEVEL. -/
def DIO_RAW1_LEVEL : Fld := ⟨0x1c, 0, 32⟩
/-- DIO bank registers (Table 13.8): the field the table calls DIO_OUT0_LATCH. -/
def DIO_OUT0_LATCH : Fld := ⟨0x20, 0, 32⟩
/-- DIO bank registers (Table 13.8): the field the table calls DIO_OUT1_LATCH. -/
def DIO_OUT1_LATCH : Fld := ⟨0x24, 0, 32⟩
/-- DIO bank registers (Table 13.8): the field the table calls DIO_OUT_SET0_SET. -/
def DIO_OUT_SET0_SET : Fld := ⟨0x28, 0, 32⟩
/-- DIO bank registers (Table 13.8): the field the table calls DIO_OUT_SET1_SET. -/
def DIO_OUT_SET1_SET : Fld := ⟨0x2c, 0, 32⟩
/-- DIO bank registers (Table 13.8): the field the table calls DIO_OUT_CLR0_CLR. -/
def DIO_OUT_CLR0_CLR : Fld := ⟨0x30, 0, 32⟩
/-- DIO bank registers (Table 13.8): the field the table calls DIO_OUT_CLR1_CLR. -/
def DIO_OUT_CLR1_CLR : Fld := ⟨0x34, 0, 32⟩
/-- DIO bank registers (Table 13.8): the field the table calls DIO_OUT_TGL0_TGL. -/
def DIO_OUT_TGL0_TGL : Fld := ⟨0x38, 0, 32⟩
/-- DIO bank registers (Table 13.8): the field the table calls DIO_OUT_TGL1_TGL. -/
def DIO_OUT_TGL1_TGL : Fld := ⟨0x3c, 0, 32⟩
/-- DIO bank registers (Table 13.8): the field the table calls DIO_EVT. -/
def DIO_EVT : Fld := ⟨0x40, 0, 6⟩
/-- DIO bank registers (Table 13.8): the field the table calls DIO_IE. -/
def DIO_IE : Fld := ⟨0x44, 0, 6⟩
/-- DIO bank registers (Table 13.8): the field the table calls DIO_QSTAT_EVQ_LVL. -/
def DIO_QSTAT_EVQ_LVL : Fld := ⟨0x48, 0, 9⟩
/-- DIO bank registers (Table 13.8): the field the table calls DIO_QSTAT_SCHED_LVL. -/
def DIO_QSTAT_SCHED_LVL : Fld := ⟨0x48, 16, 7⟩
/-- DIO bank registers (Table 13.8): the field the table calls DIO_SCHED_AT_NS_NS. -/
def DIO_SCHED_AT_NS_NS : Fld := ⟨0x60, 0, 30⟩
/-- DIO bank registers (Table 13.8): the field the table calls DIO_SCHED_AT_SL_SEC_LO. -/
def DIO_SCHED_AT_SL_SEC_LO : Fld := ⟨0x64, 0, 32⟩
/-- DIO bank registers (Table 13.8): the field the table calls DIO_SCHED_AT_SH_SEC_HI. -/
def DIO_SCHED_AT_SH_SEC_HI : Fld := ⟨0x68, 0, 16⟩
/-- DIO bank registers (Table 13.8): the field the table calls DIO_SCHED_CMD_LINE. -/
def DIO_SCHED_CMD_LINE : Fld := ⟨0x6c, 0, 6⟩
/-- DIO bank registers (Table 13.8): the field the table calls DIO_SCHED_CMD_ACTION. -/
def DIO_SCHED_CMD_ACTION : Fld := ⟨0x6c, 8, 2⟩
/-- DIO bank registers (Table 13.8): the field the table calls DIO_SCHED_CMD_VALID_ONLY. -/
def DIO_SCHED_CMD_VALID_ONLY : Fld := ⟨0x6c, 12, 1⟩
/-- DIO bank registers (Table 13.8): the field the table calls DIO_SCHED_CMD_GO. -/
def DIO_SCHED_CMD_GO : Fld := ⟨0x6c, 31, 1⟩
/-- DIO bank registers (Table 13.8): the field the table calls DIO_SCHED_STAT_RESULT. -/
def DIO_SCHED_STAT_RESULT : Fld := ⟨0x70, 0, 2⟩
/-- DIO bank registers (Table 13.8): the field the table calls DIO_SCHED_STAT_ID. -/
def DIO_SCHED_STAT_ID : Fld := ⟨0x70, 16, 16⟩
/-- DIO bank registers (Table 13.8): the field the table calls DIO_EDGES. -/
def DIO_EDGES : Fld := ⟨0x80, 0, 32⟩
/-- DIO bank registers (Table 13.8): the field the table calls DIO_REJECTED. -/
def DIO_REJECTED : Fld := ⟨0x84, 0, 32⟩
/-- DIO bank registers (Table 13.8): the field the table calls DIO_EVQ_OVF. -/
def DIO_EVQ_OVF : Fld := ⟨0x88, 0, 32⟩
/-- DIO bank registers (Table 13.8): the field the table calls DIO_SCHED_FIRED. -/
def DIO_SCHED_FIRED : Fld := ⟨0x8c, 0, 32⟩
/-- DIO bank registers (Table 13.8): the field the table calls DIO_SCHED_LATE. -/
def DIO_SCHED_LATE : Fld := ⟨0x90, 0, 32⟩
/-- DIO bank registers (Table 13.8): the field the table calls DIO_SCHED_SKIPPED. -/
def DIO_SCHED_SKIPPED : Fld := ⟨0x94, 0, 32⟩
/-- DIO bank registers (Table 13.8): the field the table calls DIO_READBACK_ERR. -/
def DIO_READBACK_ERR : Fld := ⟨0x98, 0, 32⟩
/-- DIO bank registers (Table 13.8): the field the table calls DIO_SAFE_WDROP. -/
def DIO_SAFE_WDROP : Fld := ⟨0x9c, 0, 32⟩
/-- DIO bank registers (Table 13.8): the field the table calls DIO_ISUM_SUM. -/
def DIO_ISUM_SUM : Fld := ⟨0xf00, 0, 3⟩

/-! DIO line registers (Table 13.8) -/

/-- DIO line registers (Table 13.8): the field the table calls DIO_LCFG_MODE. -/
def DIO_LCFG_MODE : Fld := ⟨0x0, 0, 2⟩
/-- DIO line registers (Table 13.8): the field the table calls DIO_LCFG_PULL. -/
def DIO_LCFG_PULL : Fld := ⟨0x0, 2, 2⟩
/-- DIO line registers (Table 13.8): the field the table calls DIO_LCFG_EDGES. -/
def DIO_LCFG_EDGES : Fld := ⟨0x0, 4, 2⟩
/-- DIO line registers (Table 13.8): the field the table calls DIO_LCFG_DEST. -/
def DIO_LCFG_DEST : Fld := ⟨0x0, 6, 3⟩
/-- DIO line registers (Table 13.8): the field the table calls DIO_LCFG_CMP_SEL. -/
def DIO_LCFG_CMP_SEL : Fld := ⟨0x0, 9, 1⟩
/-- DIO line registers (Table 13.8): the field the table calls DIO_LCFG_SAFE. -/
def DIO_LCFG_SAFE : Fld := ⟨0x0, 10, 2⟩
/-- DIO line registers (Table 13.8): the field the table calls DIO_LCFG_PWM. -/
def DIO_LCFG_PWM : Fld := ⟨0x0, 12, 1⟩
/-- DIO line registers (Table 13.8): the field the table calls DIO_LCFG_INV. -/
def DIO_LCFG_INV : Fld := ⟨0x0, 13, 1⟩
/-- DIO line registers (Table 13.8): the field the table calls DIO_LCFG_PWM_GEN. -/
def DIO_LCFG_PWM_GEN : Fld := ⟨0x0, 16, 4⟩
/-- DIO line registers (Table 13.8): the field the table calls DIO_LCFG_SAFETY. -/
def DIO_LCFG_SAFETY : Fld := ⟨0x0, 24, 1⟩
/-- DIO line registers (Table 13.8): the field the table calls DIO_LCFG_WIRED. -/
def DIO_LCFG_WIRED : Fld := ⟨0x0, 25, 1⟩
/-- DIO line registers (Table 13.8): the field the table calls DIO_LFILT_KIND. -/
def DIO_LFILT_KIND : Fld := ⟨0x4, 0, 2⟩
/-- DIO line registers (Table 13.8): the field the table calls DIO_LFILT_TIME. -/
def DIO_LFILT_TIME : Fld := ⟨0x4, 8, 24⟩
/-- DIO line registers (Table 13.8): the field the table calls DIO_LCMP_RISE_MV. -/
def DIO_LCMP_RISE_MV : Fld := ⟨0x8, 0, 12⟩
/-- DIO line registers (Table 13.8): the field the table calls DIO_LCMP_FALL_MV. -/
def DIO_LCMP_FALL_MV : Fld := ⟨0x8, 16, 12⟩
/-- DIO line registers (Table 13.8): the field the table calls DIO_LEDGES. -/
def DIO_LEDGES : Fld := ⟨0xc, 0, 32⟩

/-! DIO PWM registers (Table 13.8) -/

/-- DIO PWM registers (Table 13.8): the field the table calls DIO_PWM_PERIOD_NS. -/
def DIO_PWM_PERIOD_NS : Fld := ⟨0x0, 0, 30⟩
/-- DIO PWM registers (Table 13.8): the field the table calls DIO_PWM_ON_NS. -/
def DIO_PWM_ON_NS : Fld := ⟨0x4, 0, 30⟩
/-- DIO PWM registers (Table 13.8): the field the table calls DIO_PWM_PHASE_NS. -/
def DIO_PWM_PHASE_NS : Fld := ⟨0x8, 0, 30⟩
/-- DIO PWM registers (Table 13.8): the field the table calls DIO_PWM_CTRL_EN. -/
def DIO_PWM_CTRL_EN : Fld := ⟨0xc, 0, 1⟩

/-! Channel registers (Table 14.10) -/

/-- Channel registers (Table 14.10): the field the table calls PCH_CTRL_EN. -/
def PCH_CTRL_EN : Fld := ⟨0x0, 0, 1⟩
/-- Channel registers (Table 14.10): the field the table calls PCH_CTRL_PRES_EN. -/
def PCH_CTRL_PRES_EN : Fld := ⟨0x0, 1, 1⟩
/-- Channel registers (Table 14.10): the field the table calls PCH_CTRL_SAFE_ON. -/
def PCH_CTRL_SAFE_ON : Fld := ⟨0x0, 2, 1⟩
/-- Channel registers (Table 14.10): the field the table calls PCH_STAT_STATE. -/
def PCH_STAT_STATE : Fld := ⟨0x4, 0, 3⟩
/-- Channel registers (Table 14.10): the field the table calls PCH_STAT_CAUSE. -/
def PCH_STAT_CAUSE : Fld := ⟨0x4, 8, 5⟩
/-- Channel registers (Table 14.10): the field the table calls PCH_STAT_PRESENT. -/
def PCH_STAT_PRESENT : Fld := ⟨0x4, 16, 1⟩
/-- Channel registers (Table 14.10): the field the table calls PCH_STAT_EMERG. -/
def PCH_STAT_EMERG : Fld := ⟨0x4, 17, 1⟩
/-- Channel registers (Table 14.10): the field the table calls PCH_STAT_LATCH. -/
def PCH_STAT_LATCH : Fld := ⟨0x4, 18, 1⟩
/-- Channel registers (Table 14.10): the field the table calls PCH_STAT_SAFETY. -/
def PCH_STAT_SAFETY : Fld := ⟨0x4, 19, 1⟩
/-- Channel registers (Table 14.10): the field the table calls PCH_STAT_FET_SHORT. -/
def PCH_STAT_FET_SHORT : Fld := ⟨0x4, 20, 1⟩
/-- Channel registers (Table 14.10): the field the table calls PCH_STAT_RETRY_CNT. -/
def PCH_STAT_RETRY_CNT : Fld := ⟨0x4, 24, 4⟩
/-- Channel registers (Table 14.10): the field the table calls PCH_EVT. -/
def PCH_EVT : Fld := ⟨0x8, 0, 6⟩
/-- Channel registers (Table 14.10): the field the table calls PCH_IE. -/
def PCH_IE : Fld := ⟨0xc, 0, 6⟩
/-- Channel registers (Table 14.10): the field the table calls PCH_MEAS_I_MA. -/
def PCH_MEAS_I_MA : Fld := ⟨0x10, 0, 32⟩
/-- Channel registers (Table 14.10): the field the table calls PCH_MEAS_V_MV. -/
def PCH_MEAS_V_MV : Fld := ⟨0x14, 0, 32⟩
/-- Channel registers (Table 14.10): the field the table calls PCH_MEAS_E_MJ. -/
def PCH_MEAS_E_MJ : Fld := ⟨0x18, 0, 16⟩
/-- Channel registers (Table 14.10): the field the table calls PCH_SHUNT_UOHM. -/
def PCH_SHUNT_UOHM : Fld := ⟨0x20, 0, 15⟩
/-- Channel registers (Table 14.10): the field the table calls PCH_LIMITS0_FAST_MA. -/
def PCH_LIMITS0_FAST_MA : Fld := ⟨0x24, 0, 20⟩
/-- Channel registers (Table 14.10): the field the table calls PCH_LIMITS1_SLOW_MA. -/
def PCH_LIMITS1_SLOW_MA : Fld := ⟨0x28, 0, 20⟩
/-- Channel registers (Table 14.10): the field the table calls PCH_LIMITS1_SLOW_MS. -/
def PCH_LIMITS1_SLOW_MS : Fld := ⟨0x28, 20, 10⟩
/-- Channel registers (Table 14.10): the field the table calls PCH_RAMP_RATE_VMS. -/
def PCH_RAMP_RATE_VMS : Fld := ⟨0x2c, 0, 8⟩
/-- Channel registers (Table 14.10): the field the table calls PCH_RAMP_MAX_MS. -/
def PCH_RAMP_MAX_MS : Fld := ⟨0x2c, 16, 10⟩
/-- Channel registers (Table 14.10): the field the table calls PCH_GATE_RISE_US. -/
def PCH_GATE_RISE_US : Fld := ⟨0x30, 0, 14⟩
/-- Channel registers (Table 14.10): the field the table calls PCH_INSERT_MS. -/
def PCH_INSERT_MS : Fld := ⟨0x34, 0, 14⟩
/-- Channel registers (Table 14.10): the field the table calls PCH_RETRY_MS. -/
def PCH_RETRY_MS : Fld := ⟨0x38, 0, 16⟩
/-- Channel registers (Table 14.10): the field the table calls PCH_RETRY_MAX. -/
def PCH_RETRY_MAX : Fld := ⟨0x38, 16, 4⟩
/-- Channel registers (Table 14.10): the field the table calls PCH_STRESS_LIMIT_MJ. -/
def PCH_STRESS_LIMIT_MJ : Fld := ⟨0x3c, 0, 15⟩
/-- Channel registers (Table 14.10): the field the table calls PCH_STRESS_TAU_MS. -/
def PCH_STRESS_TAU_MS : Fld := ⟨0x3c, 16, 14⟩
/-- Channel registers (Table 14.10): the field the table calls PCH_PIMG_MS. -/
def PCH_PIMG_MS : Fld := ⟨0x40, 0, 10⟩
/-- Channel registers (Table 14.10): the field the table calls PCH_LIMITS2_RAMP_MA. -/
def PCH_LIMITS2_RAMP_MA : Fld := ⟨0x44, 0, 20⟩
/-- Channel registers (Table 14.10): the field the table calls PCH_STARTS. -/
def PCH_STARTS : Fld := ⟨0x80, 0, 32⟩
/-- Channel registers (Table 14.10): the field the table calls PCH_FAST_TRIPS. -/
def PCH_FAST_TRIPS : Fld := ⟨0x84, 0, 32⟩
/-- Channel registers (Table 14.10): the field the table calls PCH_START_SHORTS. -/
def PCH_START_SHORTS : Fld := ⟨0x88, 0, 32⟩
/-- Channel registers (Table 14.10): the field the table calls PCH_OVERCURRENTS. -/
def PCH_OVERCURRENTS : Fld := ⟨0x8c, 0, 32⟩
/-- Channel registers (Table 14.10): the field the table calls PCH_START_TMO. -/
def PCH_START_TMO : Fld := ⟨0x90, 0, 32⟩
/-- Channel registers (Table 14.10): the field the table calls PCH_FET_OPENS. -/
def PCH_FET_OPENS : Fld := ⟨0x94, 0, 32⟩
/-- Channel registers (Table 14.10): the field the table calls PCH_LATCHES. -/
def PCH_LATCHES : Fld := ⟨0x98, 0, 32⟩
/-- Channel registers (Table 14.10): the field the table calls PCH_FET_SHORTS. -/
def PCH_FET_SHORTS : Fld := ⟨0x9c, 0, 32⟩
/-- Channel registers (Table 14.10): the field the table calls PCH_ON_SECONDS. -/
def PCH_ON_SECONDS : Fld := ⟨0xa0, 0, 32⟩

/-! FEED registers (Table 14.11) -/

/-- FEED registers (Table 14.11): the field the table calls FEED_PRIO_FIRST. -/
def FEED_PRIO_FIRST : Fld := ⟨0x0, 0, 2⟩
/-- FEED registers (Table 14.11): the field the table calls FEED_PRIO_SECOND. -/
def FEED_PRIO_SECOND : Fld := ⟨0x0, 4, 2⟩
/-- FEED registers (Table 14.11): the field the table calls FEED_PRIO_THIRD. -/
def FEED_PRIO_THIRD : Fld := ⟨0x0, 8, 2⟩
/-- FEED registers (Table 14.11): the field the table calls FEED_DEAD_US. -/
def FEED_DEAD_US : Fld := ⟨0x4, 0, 9⟩
/-- FEED registers (Table 14.11): the field the table calls FEED_STAT_SELECTED. -/
def FEED_STAT_SELECTED : Fld := ⟨0x8, 0, 2⟩
/-- FEED registers (Table 14.11): the field the table calls FEED_STAT_QUALIFIED. -/
def FEED_STAT_QUALIFIED : Fld := ⟨0x8, 4, 3⟩
/-- FEED registers (Table 14.11): the field the table calls FEED_STAT_SWITCHING. -/
def FEED_STAT_SWITCHING : Fld := ⟨0x8, 8, 1⟩
/-- FEED registers (Table 14.11): the field the table calls FEED_STAT_ON_BAT. -/
def FEED_STAT_ON_BAT : Fld := ⟨0x8, 9, 1⟩
/-- FEED registers (Table 14.11): the field the table calls FEED_STAT_UV_HOLD. -/
def FEED_STAT_UV_HOLD : Fld := ⟨0x8, 10, 1⟩
/-- FEED registers (Table 14.11): the field the table calls FEED_STAT_STUCK. -/
def FEED_STAT_STUCK : Fld := ⟨0x8, 11, 1⟩
/-- FEED registers (Table 14.11): the field the table calls FEED_STAT_FROZEN. -/
def FEED_STAT_FROZEN : Fld := ⟨0x8, 12, 1⟩
/-- FEED registers (Table 14.11): the field the table calls FEED_EVT. -/
def FEED_EVT : Fld := ⟨0xc, 0, 4⟩
/-- FEED registers (Table 14.11): the field the table calls FEED_IE. -/
def FEED_IE : Fld := ⟨0x10, 0, 4⟩
/-- FEED registers (Table 14.11): the field the table calls PWR_ISUM0_SUM. -/
def PWR_ISUM0_SUM : Fld := ⟨0x20, 0, 32⟩
/-- FEED registers (Table 14.11): the field the table calls PWR_ISUM1_SUM. -/
def PWR_ISUM1_SUM : Fld := ⟨0x24, 0, 32⟩
/-- FEED registers (Table 14.11): the field the table calls PWR_ISUM2_FEED. -/
def PWR_ISUM2_FEED : Fld := ⟨0x28, 0, 1⟩
/-- FEED registers (Table 14.11): the field the table calls FEED_CHANGES. -/
def FEED_CHANGES : Fld := ⟨0x40, 0, 32⟩
/-- FEED registers (Table 14.11): the field the table calls FEED_STUCK. -/
def FEED_STUCK : Fld := ⟨0x44, 0, 32⟩

/-! Per-feed registers (Table 14.11) -/

/-- Per-feed registers (Table 14.11): the field the table calls FEED_WIN_UV_MV. -/
def FEED_WIN_UV_MV : Fld := ⟨0x0, 0, 16⟩
/-- Per-feed registers (Table 14.11): the field the table calls FEED_WIN_OV_MV. -/
def FEED_WIN_OV_MV : Fld := ⟨0x0, 16, 16⟩
/-- Per-feed registers (Table 14.11): the field the table calls FEED_QUAL_QUAL_MS. -/
def FEED_QUAL_QUAL_MS : Fld := ⟨0x4, 0, 14⟩
/-- Per-feed registers (Table 14.11): the field the table calls FEED_QUAL_DISQ_US. -/
def FEED_QUAL_DISQ_US : Fld := ⟨0x4, 16, 10⟩
/-- Per-feed registers (Table 14.11): the field the table calls FEED_HYST_MV. -/
def FEED_HYST_MV : Fld := ⟨0x8, 0, 12⟩
/-- Per-feed registers (Table 14.11): the field the table calls FEED_CFG_EN. -/
def FEED_CFG_EN : Fld := ⟨0xc, 0, 1⟩
/-- Per-feed registers (Table 14.11): the field the table calls FEED_V_MV. -/
def FEED_V_MV : Fld := ⟨0x10, 0, 32⟩
/-- Per-feed registers (Table 14.11): the field the table calls FEED_DISQ. -/
def FEED_DISQ : Fld := ⟨0x14, 0, 32⟩

/-! USBH registers (Table 15.7) -/

/-- USBH registers (Table 15.7): the field the table calls USB_HUBCFG_EN. -/
def USB_HUBCFG_EN : Fld := ⟨0x0, 0, 1⟩
/-- USBH registers (Table 15.7): the field the table calls USB_HUBCFG_PWRGOOD_2MS. -/
def USB_HUBCFG_PWRGOOD_2MS : Fld := ⟨0x0, 8, 8⟩
/-- USBH registers (Table 15.7): the field the table calls USB_HUBCFG_OC_FILT_MS. -/
def USB_HUBCFG_OC_FILT_MS : Fld := ⟨0x0, 16, 5⟩
/-- USBH registers (Table 15.7): the field the table calls USB_IDCFG_VID. -/
def USB_IDCFG_VID : Fld := ⟨0x4, 0, 16⟩
/-- USBH registers (Table 15.7): the field the table calls USB_IDCFG_PID. -/
def USB_IDCFG_PID : Fld := ⟨0x4, 16, 16⟩
/-- USBH registers (Table 15.7): the field the table calls USB_IDCFG2_MGMT_PID. -/
def USB_IDCFG2_MGMT_PID : Fld := ⟨0x8, 0, 16⟩
/-- USBH registers (Table 15.7): the field the table calls USB_IDCFG2_BCD. -/
def USB_IDCFG2_BCD : Fld := ⟨0x8, 16, 16⟩
/-- USBH registers (Table 15.7): the field the table calls USB_STAT_UP_STATE. -/
def USB_STAT_UP_STATE : Fld := ⟨0x10, 0, 3⟩
/-- USBH registers (Table 15.7): the field the table calls USB_STAT_UP_HS. -/
def USB_STAT_UP_HS : Fld := ⟨0x10, 3, 1⟩
/-- USBH registers (Table 15.7): the field the table calls USB_STAT_VBUS. -/
def USB_STAT_VBUS : Fld := ⟨0x10, 4, 1⟩
/-- USBH registers (Table 15.7): the field the table calls USB_STAT_RWAKE_EN. -/
def USB_STAT_RWAKE_EN : Fld := ⟨0x10, 5, 1⟩
/-- USBH registers (Table 15.7): the field the table calls USB_STAT_MULTI_TT. -/
def USB_STAT_MULTI_TT : Fld := ⟨0x10, 6, 1⟩
/-- USBH registers (Table 15.7): the field the table calls USB_STAT_TEST. -/
def USB_STAT_TEST : Fld := ⟨0x10, 8, 3⟩
/-- USBH registers (Table 15.7): the field the table calls USB_MGMT_CONNECT. -/
def USB_MGMT_CONNECT : Fld := ⟨0x14, 0, 1⟩
/-- USBH registers (Table 15.7): the field the table calls USB_MGMT_WAKE_EN. -/
def USB_MGMT_WAKE_EN : Fld := ⟨0x14, 1, 1⟩
/-- USBH registers (Table 15.7): the field the table calls USB_MGMT_STATE. -/
def USB_MGMT_STATE : Fld := ⟨0x14, 2, 3⟩
/-- USBH registers (Table 15.7): the field the table calls USB_MGMT_MRWAKE. -/
def USB_MGMT_MRWAKE : Fld := ⟨0x14, 5, 1⟩
/-- USBH registers (Table 15.7): the field the table calls USB_MGMT_ISO_ALT. -/
def USB_MGMT_ISO_ALT : Fld := ⟨0x14, 6, 1⟩
/-- USBH registers (Table 15.7): the field the table calls USB_EP3_MASK_MASK. -/
def USB_EP3_MASK_MASK : Fld := ⟨0x18, 0, 31⟩
/-- USBH registers (Table 15.7): the field the table calls USB_STRM_EN_EN. -/
def USB_STRM_EN_EN : Fld := ⟨0x1c, 0, 16⟩
/-- USBH registers (Table 15.7): the field the table calls USB_EVT. -/
def USB_EVT : Fld := ⟨0x20, 0, 9⟩
/-- USBH registers (Table 15.7): the field the table calls USB_IE. -/
def USB_IE : Fld := ⟨0x24, 0, 9⟩
/-- USBH registers (Table 15.7): the field the table calls USB_UP_RESETS. -/
def USB_UP_RESETS : Fld := ⟨0x40, 0, 32⟩
/-- USBH registers (Table 15.7): the field the table calls USB_SUSPENDS. -/
def USB_SUSPENDS : Fld := ⟨0x44, 0, 32⟩
/-- USBH registers (Table 15.7): the field the table calls USB_RWAKE_SENT. -/
def USB_RWAKE_SENT : Fld := ⟨0x48, 0, 32⟩
/-- USBH registers (Table 15.7): the field the table calls USB_RWAKE_MERGED. -/
def USB_RWAKE_MERGED : Fld := ⟨0x4c, 0, 32⟩
/-- USBH registers (Table 15.7): the field the table calls USB_CTRL_ABANDON. -/
def USB_CTRL_ABANDON : Fld := ⟨0x50, 0, 32⟩
/-- USBH registers (Table 15.7): the field the table calls USB_FAB_REQ. -/
def USB_FAB_REQ : Fld := ⟨0x54, 0, 32⟩
/-- USBH registers (Table 15.7): the field the table calls USB_FAB_BAD. -/
def USB_FAB_BAD : Fld := ⟨0x58, 0, 32⟩
/-- USBH registers (Table 15.7): the field the table calls USB_FAB_REFETCH. -/
def USB_FAB_REFETCH : Fld := ⟨0x5c, 0, 32⟩
/-- USBH registers (Table 15.7): the field the table calls USB_ISO_PKTS. -/
def USB_ISO_PKTS : Fld := ⟨0x60, 0, 32⟩
/-- USBH registers (Table 15.7): the field the table calls USB_ISO_DEFER. -/
def USB_ISO_DEFER : Fld := ⟨0x64, 0, 32⟩
/-- USBH registers (Table 15.7): the field the table calls USB_EP3_OVF. -/
def USB_EP3_OVF : Fld := ⟨0x68, 0, 32⟩

/-! USBH port sets (Table 15.7) -/

/-- USBH port sets (Table 15.7): the field the table calls USB_PORT_STAT_STATUS. -/
def USB_PORT_STAT_STATUS : Fld := ⟨0x0, 0, 16⟩
/-- USBH port sets (Table 15.7): the field the table calls USB_PORT_STAT_CHANGE. -/
def USB_PORT_STAT_CHANGE : Fld := ⟨0x0, 16, 16⟩
/-- USBH port sets (Table 15.7): the field the table calls USB_PORT_CTRL_LOCK_OFF. -/
def USB_PORT_CTRL_LOCK_OFF : Fld := ⟨0x4, 0, 1⟩
/-- USBH port sets (Table 15.7): the field the table calls USB_PORT_CTRL_PWR_REQ. -/
def USB_PORT_CTRL_PWR_REQ : Fld := ⟨0x4, 1, 1⟩
/-- USBH port sets (Table 15.7): the field the table calls USB_PORT_OC. -/
def USB_PORT_OC : Fld := ⟨0x10, 0, 32⟩
/-- USBH port sets (Table 15.7): the field the table calls USB_PORT_RESUMES. -/
def USB_PORT_RESUMES : Fld := ⟨0x14, 0, 32⟩
/-- USBH port sets (Table 15.7): the field the table calls USB_TT_PER_OVF. -/
def USB_TT_PER_OVF : Fld := ⟨0x18, 0, 32⟩
/-- USBH port sets (Table 15.7): the field the table calls USB_TT_AGED. -/
def USB_TT_AGED : Fld := ⟨0x1c, 0, 32⟩

/-! PD registers (Table 16.9) -/

/-- PD registers (Table 16.9): the field the table calls PD_POL_CTRL_USE_IMAGE. -/
def PD_POL_CTRL_USE_IMAGE : Fld := ⟨0x0, 0, 1⟩
/-- PD registers (Table 16.9): the field the table calls PD_POL_CTRL_WDOG_MS. -/
def PD_POL_CTRL_WDOG_MS : Fld := ⟨0x0, 8, 8⟩
/-- PD registers (Table 16.9): the field the table calls PD_POL_STAT_RUNNING. -/
def PD_POL_STAT_RUNNING : Fld := ⟨0x4, 0, 2⟩
/-- PD registers (Table 16.9): the field the table calls PD_POL_STAT_FB_CAUSE. -/
def PD_POL_STAT_FB_CAUSE : Fld := ⟨0x4, 4, 4⟩
/-- PD registers (Table 16.9): the field the table calls PD_POL_STAT_IMG_VER. -/
def PD_POL_STAT_IMG_VER : Fld := ⟨0x4, 16, 16⟩
/-- PD registers (Table 16.9): the field the table calls PD_GEVT. -/
def PD_GEVT : Fld := ⟨0x8, 0, 3⟩
/-- PD registers (Table 16.9): the field the table calls PD_GIE. -/
def PD_GIE : Fld := ⟨0xc, 0, 3⟩
/-- PD registers (Table 16.9): the field the table calls PD_ISUM_SUM. -/
def PD_ISUM_SUM : Fld := ⟨0x10, 0, 4⟩
/-- PD registers (Table 16.9): the field the table calls PD_POL_RESTARTS. -/
def PD_POL_RESTARTS : Fld := ⟨0x40, 0, 32⟩

/-! PD port sets (Table 16.9) -/

/-- PD port sets (Table 16.9): the field the table calls PD_PCFG_EN. -/
def PD_PCFG_EN : Fld := ⟨0x0, 0, 1⟩
/-- PD port sets (Table 16.9): the field the table calls PD_PCFG_ROLES. -/
def PD_PCFG_ROLES : Fld := ⟨0x0, 1, 2⟩
/-- PD port sets (Table 16.9): the field the table calls PD_PCFG_TRY. -/
def PD_PCFG_TRY : Fld := ⟨0x0, 3, 2⟩
/-- PD port sets (Table 16.9): the field the table calls PD_PCFG_RP. -/
def PD_PCFG_RP : Fld := ⟨0x0, 5, 2⟩
/-- PD port sets (Table 16.9): the field the table calls PD_PCFG_FRS_EN. -/
def PD_PCFG_FRS_EN : Fld := ⟨0x0, 7, 1⟩
/-- PD port sets (Table 16.9): the field the table calls PD_PCFG_PPS_EN. -/
def PD_PCFG_PPS_EN : Fld := ⟨0x0, 8, 1⟩
/-- PD port sets (Table 16.9): the field the table calls PD_PCFG_EPR_EN. -/
def PD_PCFG_EPR_EN : Fld := ⟨0x0, 9, 1⟩
/-- PD port sets (Table 16.9): the field the table calls PD_PSTAT_TC_STATE. -/
def PD_PSTAT_TC_STATE : Fld := ⟨0x4, 0, 3⟩
/-- PD port sets (Table 16.9): the field the table calls PD_PSTAT_POLARITY. -/
def PD_PSTAT_POLARITY : Fld := ⟨0x4, 3, 1⟩
/-- PD port sets (Table 16.9): the field the table calls PD_PSTAT_PWR_SRC. -/
def PD_PSTAT_PWR_SRC : Fld := ⟨0x4, 4, 1⟩
/-- PD port sets (Table 16.9): the field the table calls PD_PSTAT_DFP. -/
def PD_PSTAT_DFP : Fld := ⟨0x4, 5, 1⟩
/-- PD port sets (Table 16.9): the field the table calls PD_PSTAT_VCONN_SRC. -/
def PD_PSTAT_VCONN_SRC : Fld := ⟨0x4, 6, 1⟩
/-- PD port sets (Table 16.9): the field the table calls PD_PSTAT_CONTRACT. -/
def PD_PSTAT_CONTRACT : Fld := ⟨0x4, 7, 1⟩
/-- PD port sets (Table 16.9): the field the table calls PD_PSTAT_EPR_MODE. -/
def PD_PSTAT_EPR_MODE : Fld := ⟨0x4, 8, 1⟩
/-- PD port sets (Table 16.9): the field the table calls PD_PSTAT_KIND. -/
def PD_PSTAT_KIND : Fld := ⟨0x4, 9, 2⟩
/-- PD port sets (Table 16.9): the field the table calls PD_PSTAT_IN_TRANSITION. -/
def PD_PSTAT_IN_TRANSITION : Fld := ⟨0x4, 11, 1⟩
/-- PD port sets (Table 16.9): the field the table calls PD_PSTAT_DEAD_BATT. -/
def PD_PSTAT_DEAD_BATT : Fld := ⟨0x4, 12, 1⟩
/-- PD port sets (Table 16.9): the field the table calls PD_PSTAT_CABLE_5A. -/
def PD_PSTAT_CABLE_5A : Fld := ⟨0x4, 13, 1⟩
/-- PD port sets (Table 16.9): the field the table calls PD_PSTAT_CABLE_EPR. -/
def PD_PSTAT_CABLE_EPR : Fld := ⟨0x4, 14, 1⟩
/-- PD port sets (Table 16.9): the field the table calls PD_PSTAT_CL. -/
def PD_PSTAT_CL : Fld := ⟨0x4, 15, 1⟩
/-- PD port sets (Table 16.9): the field the table calls PD_CONTRACT_MV. -/
def PD_CONTRACT_MV : Fld := ⟨0x8, 0, 16⟩
/-- PD port sets (Table 16.9): the field the table calls PD_CONTRACT_MA. -/
def PD_CONTRACT_MA : Fld := ⟨0x8, 16, 16⟩
/-- PD port sets (Table 16.9): the field the table calls PD_VBUS_MV. -/
def PD_VBUS_MV : Fld := ⟨0xc, 0, 16⟩
/-- PD port sets (Table 16.9): the field the table calls PD_VBUS_MA. -/
def PD_VBUS_MA : Fld := ⟨0xc, 16, 16⟩
/-- PD port sets (Table 16.9): the field the table calls PD_EVT. -/
def PD_EVT : Fld := ⟨0x10, 0, 10⟩
/-- PD port sets (Table 16.9): the field the table calls PD_IE. -/
def PD_IE : Fld := ⟨0x14, 0, 10⟩
/-- PD port sets (Table 16.9): the field the table calls PD_SNK_MAX_MV. -/
def PD_SNK_MAX_MV : Fld := ⟨0x18, 0, 16⟩
/-- PD port sets (Table 16.9): the field the table calls PD_SNK_MA. -/
def PD_SNK_MA : Fld := ⟨0x18, 16, 16⟩
/-- PD port sets (Table 16.9): the field the table calls PD_XCFG_TRANS_MS. -/
def PD_XCFG_TRANS_MS : Fld := ⟨0x1c, 0, 8⟩
/-- PD port sets (Table 16.9): the field the table calls PD_XCFG_SLEW_VMS. -/
def PD_XCFG_SLEW_VMS : Fld := ⟨0x1c, 8, 5⟩
/-- PD port sets (Table 16.9): the field the table calls PD_XCFG_OCP_MS. -/
def PD_XCFG_OCP_MS : Fld := ⟨0x1c, 16, 7⟩
/-- PD port sets (Table 16.9): the field the table calls PD_XCFG_OCP_PCT. -/
def PD_XCFG_OCP_PCT : Fld := ⟨0x1c, 24, 8⟩
/-- PD port sets (Table 16.9): the field the table calls PD_CONV_V0_MV. -/
def PD_CONV_V0_MV : Fld := ⟨0x20, 0, 16⟩
/-- PD port sets (Table 16.9): the field the table calls PD_CONV_V4095_MV. -/
def PD_CONV_V4095_MV : Fld := ⟨0x20, 16, 16⟩
/-- PD port sets (Table 16.9): the field the table calls PD_VSNS_DIV. -/
def PD_VSNS_DIV : Fld := ⟨0x24, 0, 16⟩
/-- PD port sets (Table 16.9): the field the table calls PD_ISNS_MA_PER_V. -/
def PD_ISNS_MA_PER_V : Fld := ⟨0x28, 0, 16⟩
/-- PD port sets (Table 16.9): the field the table calls PD_ATTACHES. -/
def PD_ATTACHES : Fld := ⟨0x80, 0, 32⟩
/-- PD port sets (Table 16.9): the field the table calls PD_CONTRACTS. -/
def PD_CONTRACTS : Fld := ⟨0x84, 0, 32⟩
/-- PD port sets (Table 16.9): the field the table calls PD_HARD_RESETS. -/
def PD_HARD_RESETS : Fld := ⟨0x88, 0, 32⟩
/-- PD port sets (Table 16.9): the field the table calls PD_SOFT_RESETS. -/
def PD_SOFT_RESETS : Fld := ⟨0x8c, 0, 32⟩
/-- PD port sets (Table 16.9): the field the table calls PD_SWAPS. -/
def PD_SWAPS : Fld := ⟨0x90, 0, 32⟩
/-- PD port sets (Table 16.9): the field the table calls PD_SWAP_YIELDS. -/
def PD_SWAP_YIELDS : Fld := ⟨0x94, 0, 32⟩
/-- PD port sets (Table 16.9): the field the table calls PD_FRS. -/
def PD_FRS : Fld := ⟨0x98, 0, 32⟩
/-- PD port sets (Table 16.9): the field the table calls PD_DETACH_XSN. -/
def PD_DETACH_XSN : Fld := ⟨0x9c, 0, 32⟩
/-- PD port sets (Table 16.9): the field the table calls PD_OCP. -/
def PD_OCP : Fld := ⟨0xa0, 0, 32⟩
/-- PD port sets (Table 16.9): the field the table calls PD_CONV_FAULTS. -/
def PD_CONV_FAULTS : Fld := ⟨0xa4, 0, 32⟩
/-- PD port sets (Table 16.9): the field the table calls PD_MSG_DISCARD. -/
def PD_MSG_DISCARD : Fld := ⟨0xa8, 0, 32⟩

/-! PD_SRC_OFFER e (Tables 16.9, 16.10) -/

/-- PD_SRC_OFFER e (Tables 16.9, 16.10): the field the table calls PD_SRC_OFFER_MA. -/
def PD_SRC_OFFER_MA : Fld := ⟨0x0, 0, 14⟩
/-- PD_SRC_OFFER e (Tables 16.9, 16.10): the field the table calls PD_SRC_OFFER_TYPE. -/
def PD_SRC_OFFER_TYPE : Fld := ⟨0x0, 14, 2⟩
/-- PD_SRC_OFFER e (Tables 16.9, 16.10): the field the table calls PD_SRC_OFFER_MV. -/
def PD_SRC_OFFER_MV : Fld := ⟨0x0, 16, 16⟩

/-! Fabric registers (Table 2.9) -/

/-- Fabric registers (Table 2.9): the field the table calls FAB_CTRL_EN. -/
def FAB_CTRL_EN : Fld := ⟨0x0, 0, 1⟩
/-- Fabric registers (Table 2.9): the field the table calls FAB_CTRL_SELF_RING. -/
def FAB_CTRL_SELF_RING : Fld := ⟨0x0, 1, 1⟩
/-- Fabric registers (Table 2.9): the field the table calls FAB_CTRL_BCAST_SELF. -/
def FAB_CTRL_BCAST_SELF : Fld := ⟨0x0, 2, 1⟩
/-- Fabric registers (Table 2.9): the field the table calls FAB_CTRL_LMAC_EN. -/
def FAB_CTRL_LMAC_EN : Fld := ⟨0x0, 4, 4⟩
/-- Fabric registers (Table 2.9): the field the table calls FAB_ETYPE_ETYPE. -/
def FAB_ETYPE_ETYPE : Fld := ⟨0x4, 0, 16⟩
/-- Fabric registers (Table 2.9): the field the table calls FAB_TIMEOUT_TICKS. -/
def FAB_TIMEOUT_TICKS : Fld := ⟨0x8, 0, 14⟩
/-- Fabric registers (Table 2.9): the field the table calls FAB_MAXPAY_BYTES. -/
def FAB_MAXPAY_BYTES : Fld := ⟨0xc, 0, 14⟩
/-- Fabric registers (Table 2.9): the field the table calls FAB_REORDER_HOLD. -/
def FAB_REORDER_HOLD : Fld := ⟨0x10, 0, 10⟩
/-- Fabric registers (Table 2.9): the field the table calls FAB_NODE_NODE_ID. -/
def FAB_NODE_NODE_ID : Fld := ⟨0x14, 0, 8⟩
/-- Fabric registers (Table 2.9): the field the table calls FAB_NODE_VALID. -/
def FAB_NODE_VALID : Fld := ⟨0x14, 8, 1⟩
/-- Fabric registers (Table 2.9): the field the table calls FAB_SLOTS_IN_USE. -/
def FAB_SLOTS_IN_USE : Fld := ⟨0x18, 0, 9⟩
/-- Fabric registers (Table 2.9): the field the table calls FAB_SLOTS_QUARANTINED. -/
def FAB_SLOTS_QUARANTINED : Fld := ⟨0x18, 16, 9⟩
/-- Fabric registers (Table 2.9): the field the table calls FAB_TX_FRAMES. -/
def FAB_TX_FRAMES : Fld := ⟨0x40, 0, 32⟩
/-- Fabric registers (Table 2.9): the field the table calls FAB_RX_FRAMES. -/
def FAB_RX_FRAMES : Fld := ⟨0x44, 0, 32⟩
/-- Fabric registers (Table 2.9): the field the table calls FAB_BAD_FRAME. -/
def FAB_BAD_FRAME : Fld := ⟨0x48, 0, 32⟩
/-- Fabric registers (Table 2.9): the field the table calls FAB_WR_REFUSED. -/
def FAB_WR_REFUSED : Fld := ⟨0x4c, 0, 32⟩
/-- Fabric registers (Table 2.9): the field the table calls FAB_TIMEOUTS. -/
def FAB_TIMEOUTS : Fld := ⟨0x50, 0, 32⟩
/-- Fabric registers (Table 2.9): the field the table calls FAB_STALE_RESP. -/
def FAB_STALE_RESP : Fld := ⟨0x54, 0, 32⟩
/-- Fabric registers (Table 2.9): the field the table calls FAB_SEQ_GAP. -/
def FAB_SEQ_GAP : Fld := ⟨0x58, 0, 32⟩
/-- Fabric registers (Table 2.9): the field the table calls FAB_SEQ_LATE. -/
def FAB_SEQ_LATE : Fld := ⟨0x5c, 0, 32⟩
/-- Fabric registers (Table 2.9): the field the table calls FAB_UNDELIVERED. -/
def FAB_UNDELIVERED : Fld := ⟨0x60, 0, 32⟩
/-- Fabric registers (Table 2.9): the field the table calls FAB_MSG_DROP. -/
def FAB_MSG_DROP : Fld := ⟨0x64, 0, 32⟩

/-! Bridge registers (Table 10.8) -/

/-- Bridge registers (Table 10.8): the field the table calls BRIDGE_CTRL_PREFETCH. -/
def BRIDGE_CTRL_PREFETCH : Fld := ⟨0x0, 0, 1⟩
/-- Bridge registers (Table 10.8): the field the table calls BRIDGE_CTRL_XSPI_LADLES. -/
def BRIDGE_CTRL_XSPI_LADLES : Fld := ⟨0x0, 8, 5⟩
/-- Bridge registers (Table 10.8): the field the table calls BRIDGE_DISCARD_US. -/
def BRIDGE_DISCARD_US : Fld := ⟨0x4, 0, 14⟩
/-- Bridge registers (Table 10.8): the field the table calls BRIDGE_XSPI_LAT_CYC. -/
def BRIDGE_XSPI_LAT_CYC : Fld := ⟨0x8, 0, 6⟩
/-- Bridge registers (Table 10.8): the field the table calls BRIDGE_HSTAT_WQ_FREE. -/
def BRIDGE_HSTAT_WQ_FREE : Fld := ⟨0xc, 0, 7⟩
/-- Bridge registers (Table 10.8): the field the table calls BRIDGE_HSTAT_LADLES_FREE. -/
def BRIDGE_HSTAT_LADLES_FREE : Fld := ⟨0xc, 8, 6⟩
/-- Bridge registers (Table 10.8): the field the table calls BRIDGE_HSTAT_SALVAGE_HELD. -/
def BRIDGE_HSTAT_SALVAGE_HELD : Fld := ⟨0xc, 16, 4⟩
/-- Bridge registers (Table 10.8): the field the table calls BRIDGE_HSTAT_SALVAGE_RSVD. -/
def BRIDGE_HSTAT_SALVAGE_RSVD : Fld := ⟨0xc, 20, 4⟩
/-- Bridge registers (Table 10.8): the field the table calls BRIDGE_EVT. -/
def BRIDGE_EVT : Fld := ⟨0x10, 0, 5⟩
/-- Bridge registers (Table 10.8): the field the table calls BRIDGE_IE. -/
def BRIDGE_IE : Fld := ⟨0x14, 0, 5⟩
/-- Bridge registers (Table 10.8): the field the table calls BRIDGE_HALF_HALF. -/
def BRIDGE_HALF_HALF : Fld := ⟨0x18, 0, 31⟩
/-- Bridge registers (Table 10.8): the field the table calls BRIDGE_IRQ_EN_EN. -/
def BRIDGE_IRQ_EN_EN : Fld := ⟨0x20, 0, 31⟩
/-- Bridge registers (Table 10.8): the field the table calls BRIDGE_IRQ_MAP0_PIN. -/
def BRIDGE_IRQ_MAP0_PIN : Fld := ⟨0x24, 0, 32⟩
/-- Bridge registers (Table 10.8): the field the table calls BRIDGE_IRQ_MAP1_PIN. -/
def BRIDGE_IRQ_MAP1_PIN : Fld := ⟨0x28, 0, 32⟩
/-- Bridge registers (Table 10.8): the field the table calls BRIDGE_IRQ_PEND_PEND. -/
def BRIDGE_IRQ_PEND_PEND : Fld := ⟨0x2c, 0, 31⟩
/-- Bridge registers (Table 10.8): the field the table calls BRIDGE_IRQ_CFG_POL. -/
def BRIDGE_IRQ_CFG_POL : Fld := ⟨0x30, 0, 4⟩
/-- Bridge registers (Table 10.8): the field the table calls BRIDGE_IRQ_CFG_OD. -/
def BRIDGE_IRQ_CFG_OD : Fld := ⟨0x30, 4, 4⟩
/-- Bridge registers (Table 10.8): the field the table calls BRIDGE_IRQ_CFG_LEVEL. -/
def BRIDGE_IRQ_CFG_LEVEL : Fld := ⟨0x30, 8, 4⟩
/-- Bridge registers (Table 10.8): the field the table calls BRIDGE_XSPI_RD. -/
def BRIDGE_XSPI_RD : Fld := ⟨0x40, 0, 32⟩
/-- Bridge registers (Table 10.8): the field the table calls BRIDGE_XSPI_WR. -/
def BRIDGE_XSPI_WR : Fld := ⟨0x44, 0, 32⟩
/-- Bridge registers (Table 10.8): the field the table calls BRIDGE_RETRY. -/
def BRIDGE_RETRY : Fld := ⟨0x48, 0, 32⟩
/-- Bridge registers (Table 10.8): the field the table calls BRIDGE_NO_LADLE. -/
def BRIDGE_NO_LADLE : Fld := ⟨0x4c, 0, 32⟩
/-- Bridge registers (Table 10.8): the field the table calls BRIDGE_SALVAGE_WAIT. -/
def BRIDGE_SALVAGE_WAIT : Fld := ⟨0x50, 0, 32⟩
/-- Bridge registers (Table 10.8): the field the table calls BRIDGE_DISCARDS. -/
def BRIDGE_DISCARDS : Fld := ⟨0x54, 0, 32⟩
/-- Bridge registers (Table 10.8): the field the table calls BRIDGE_SALVAGED. -/
def BRIDGE_SALVAGED : Fld := ⟨0x58, 0, 32⟩
/-- Bridge registers (Table 10.8): the field the table calls BRIDGE_WQ_DROP. -/
def BRIDGE_WQ_DROP : Fld := ⟨0x5c, 0, 32⟩
/-- Bridge registers (Table 10.8): the field the table calls BRIDGE_XSPI_BADCMD. -/
def BRIDGE_XSPI_BADCMD : Fld := ⟨0x60, 0, 32⟩
/-- Bridge registers (Table 10.8): the field the table calls BRIDGE_XSPI_SHORT. -/
def BRIDGE_XSPI_SHORT : Fld := ⟨0x64, 0, 32⟩
/-- Bridge registers (Table 10.8): the field the table calls BRIDGE_PREFETCH_HIT. -/
def BRIDGE_PREFETCH_HIT : Fld := ⟨0x68, 0, 32⟩

/-! Ladle registers (Table 10.8) -/

/-- Ladle registers (Table 10.8): the field the table calls LADLE_STAT_STATE. -/
def LADLE_STAT_STATE : Fld := ⟨0x0, 0, 2⟩
/-- Ladle registers (Table 10.8): the field the table calls LADLE_STAT_INIT. -/
def LADLE_STAT_INIT : Fld := ⟨0x0, 2, 1⟩
/-- Ladle registers (Table 10.8): the field the table calls LADLE_STAT_PREFETCHED. -/
def LADLE_STAT_PREFETCHED : Fld := ⟨0x0, 3, 1⟩
/-- Ladle registers (Table 10.8): the field the table calls LADLE_STAT_SENSITIVE. -/
def LADLE_STAT_SENSITIVE : Fld := ⟨0x0, 4, 1⟩
/-- Ladle registers (Table 10.8): the field the table calls LADLE_STAT_CODE. -/
def LADLE_STAT_CODE : Fld := ⟨0x0, 8, 4⟩
/-- Ladle registers (Table 10.8): the field the table calls LADLE_ADDR_LO_ADDR. -/
def LADLE_ADDR_LO_ADDR : Fld := ⟨0x4, 0, 32⟩
/-- Ladle registers (Table 10.8): the field the table calls LADLE_ADDR_HI_ADDR. -/
def LADLE_ADDR_HI_ADDR : Fld := ⟨0x8, 0, 16⟩
/-- Ladle registers (Table 10.8): the field the table calls LADLE_ADDR_HI_LEN. -/
def LADLE_ADDR_HI_LEN : Fld := ⟨0x8, 16, 9⟩

/-! Salvage registers (Table 10.8) -/

/-- Salvage registers (Table 10.8): the field the table calls SALVAGE_STAT_HELD. -/
def SALVAGE_STAT_HELD : Fld := ⟨0x0, 0, 1⟩
/-- Salvage registers (Table 10.8): the field the table calls SALVAGE_STAT_RESERVED. -/
def SALVAGE_STAT_RESERVED : Fld := ⟨0x0, 1, 1⟩
/-- Salvage registers (Table 10.8): the field the table calls SALVAGE_STAT_INIT. -/
def SALVAGE_STAT_INIT : Fld := ⟨0x0, 2, 1⟩
/-- Salvage registers (Table 10.8): the field the table calls SALVAGE_STAT_CODE. -/
def SALVAGE_STAT_CODE : Fld := ⟨0x0, 8, 4⟩
/-- Salvage registers (Table 10.8): the field the table calls SALVAGE_ADDR_LO_ADDR. -/
def SALVAGE_ADDR_LO_ADDR : Fld := ⟨0x4, 0, 32⟩
/-- Salvage registers (Table 10.8): the field the table calls SALVAGE_ADDR_HI_ADDR. -/
def SALVAGE_ADDR_HI_ADDR : Fld := ⟨0x8, 0, 16⟩
/-- Salvage registers (Table 10.8): the field the table calls SALVAGE_ADDR_HI_LEN. -/
def SALVAGE_ADDR_HI_LEN : Fld := ⟨0x8, 16, 9⟩

/-! User window registers (Table 10.8) -/

/-- User window registers (Table 10.8): the field the table calls BRIDGE_UWIN_CFG_SPACE. -/
def BRIDGE_UWIN_CFG_SPACE : Fld := ⟨0x0, 0, 2⟩
/-- User window registers (Table 10.8): the field the table calls BRIDGE_UWIN_CFG_EN. -/
def BRIDGE_UWIN_CFG_EN : Fld := ⟨0x0, 16, 1⟩
/-- User window registers (Table 10.8): the field the table calls BRIDGE_UWIN_OFS_OFFSET. -/
def BRIDGE_UWIN_OFS_OFFSET : Fld := ⟨0x4, 0, 32⟩
/-- User window registers (Table 10.8): the field the table calls BRIDGE_UWIN_SIZE_BYTES. -/
def BRIDGE_UWIN_SIZE_BYTES : Fld := ⟨0x8, 0, 17⟩

/-! Straight wire registers (Table 10.8) -/

/-- Straight wire registers (Table 10.8): the field the table calls WIRE_CFG_SRC. -/
def WIRE_CFG_SRC : Fld := ⟨0x0, 0, 8⟩
/-- Straight wire registers (Table 10.8): the field the table calls WIRE_CFG_INV. -/
def WIRE_CFG_INV : Fld := ⟨0x0, 8, 1⟩
/-- Straight wire registers (Table 10.8): the field the table calls WIRE_CFG_EN. -/
def WIRE_CFG_EN : Fld := ⟨0x0, 9, 1⟩
/-- Straight wire registers (Table 10.8): the field the table calls WIRE_CFG_DST_KIND. -/
def WIRE_CFG_DST_KIND : Fld := ⟨0x0, 12, 2⟩
/-- Straight wire registers (Table 10.8): the field the table calls WIRE_CFG_DST. -/
def WIRE_CFG_DST : Fld := ⟨0x0, 16, 8⟩
/-- Straight wire registers (Table 10.8): the field the table calls WIRE_STAT_ACTIVE. -/
def WIRE_STAT_ACTIVE : Fld := ⟨0x4, 0, 1⟩
/-- Straight wire registers (Table 10.8): the field the table calls WIRE_STAT_SRC_LEVEL. -/
def WIRE_STAT_SRC_LEVEL : Fld := ⟨0x4, 1, 1⟩
/-- Straight wire registers (Table 10.8): the field the table calls WIRE_STAT_REASON. -/
def WIRE_STAT_REASON : Fld := ⟨0x4, 4, 4⟩

/-! Sprue queue registers (Table 3.3) -/

/-- Sprue queue registers (Table 3.3): the field the table calls SPRUE_CFG_WR_LOG2. -/
def SPRUE_CFG_WR_LOG2 : Fld := ⟨0x0, 0, 4⟩
/-- Sprue queue registers (Table 3.3): the field the table calls SPRUE_CFG_RD_LOG2. -/
def SPRUE_CFG_RD_LOG2 : Fld := ⟨0x0, 4, 4⟩
/-- Sprue queue registers (Table 3.3): the field the table calls SPRUE_CFG_STAGES. -/
def SPRUE_CFG_STAGES : Fld := ⟨0x0, 8, 8⟩
/-- Sprue queue registers (Table 3.3): the field the table calls SPRUE_LEVEL_LEVEL. -/
def SPRUE_LEVEL_LEVEL : Fld := ⟨0x4, 0, 8⟩
/-- Sprue queue registers (Table 3.3): the field the table calls SPRUE_LEVEL_PECKS. -/
def SPRUE_LEVEL_PECKS : Fld := ⟨0x4, 8, 8⟩
/-- Sprue queue registers (Table 3.3): the field the table calls SPRUE_LEVEL_PKTS. -/
def SPRUE_LEVEL_PKTS : Fld := ⟨0x4, 16, 8⟩
/-- Sprue queue registers (Table 3.3): the field the table calls SPRUE_WM_MARK. -/
def SPRUE_WM_MARK : Fld := ⟨0x8, 0, 8⟩
/-- Sprue queue registers (Table 3.3): the field the table calls SPRUE_WM_ABOVE. -/
def SPRUE_WM_ABOVE : Fld := ⟨0x8, 8, 1⟩
/-- Sprue queue registers (Table 3.3): the field the table calls SPRUE_WM_WM_UP. -/
def SPRUE_WM_WM_UP : Fld := ⟨0x8, 9, 1⟩
/-- Sprue queue registers (Table 3.3): the field the table calls SPRUE_WM_WM_DOWN. -/
def SPRUE_WM_WM_DOWN : Fld := ⟨0x8, 10, 1⟩
/-- Sprue queue registers (Table 3.3): the field the table calls SPRUE_WM_UP_IE. -/
def SPRUE_WM_UP_IE : Fld := ⟨0x8, 11, 1⟩
/-- Sprue queue registers (Table 3.3): the field the table calls SPRUE_WM_DOWN_IE. -/
def SPRUE_WM_DOWN_IE : Fld := ⟨0x8, 12, 1⟩
/-- Sprue queue registers (Table 3.3): the field the table calls SPRUE_MAXLVL_MAX. -/
def SPRUE_MAXLVL_MAX : Fld := ⟨0xc, 0, 8⟩
/-- Sprue queue registers (Table 3.3): the field the table calls SPRUE_CTRL_INJ_PAR. -/
def SPRUE_CTRL_INJ_PAR : Fld := ⟨0x10, 0, 1⟩
/-- Sprue queue registers (Table 3.3): the field the table calls SPRUE_CTRL_MAX_RST. -/
def SPRUE_CTRL_MAX_RST : Fld := ⟨0x10, 1, 1⟩
/-- Sprue queue registers (Table 3.3): the field the table calls SPRUE_WORDS. -/
def SPRUE_WORDS : Fld := ⟨0x20, 0, 32⟩
/-- Sprue queue registers (Table 3.3): the field the table calls SPRUE_PAR_ERR. -/
def SPRUE_PAR_ERR : Fld := ⟨0x24, 0, 32⟩
/-- Sprue queue registers (Table 3.3): the field the table calls SPRUE_POISON_IN. -/
def SPRUE_POISON_IN : Fld := ⟨0x28, 0, 32⟩
/-- Sprue queue registers (Table 3.3): the field the table calls SPRUE_OVERRUN. -/
def SPRUE_OVERRUN : Fld := ⟨0x2c, 0, 32⟩
/-- Sprue queue registers (Table 3.3): the field the table calls SPRUE_FLUSHED. -/
def SPRUE_FLUSHED : Fld := ⟨0x30, 0, 32⟩

/-! Sprue notice summary (Table 3.3) -/

/-- Sprue notice summary (Table 3.3): the field the table calls SPRUE_NOTICE_SUM0_Q0_31. -/
def SPRUE_NOTICE_SUM0_Q0_31 : Fld := ⟨0x0, 0, 32⟩
/-- Sprue notice summary (Table 3.3): the field the table calls SPRUE_NOTICE_SUM1_Q32_43. -/
def SPRUE_NOTICE_SUM1_Q32_43 : Fld := ⟨0x4, 0, 12⟩

/-! FAULT registers (Table 18.8) -/

/-- FAULT registers (Table 18.8): the field the table calls FAULT_STAT_Q_LVL. -/
def FAULT_STAT_Q_LVL : Fld := ⟨0x20, 0, 8⟩
/-- FAULT registers (Table 18.8): the field the table calls FAULT_STAT_UNACK_DEGRADE. -/
def FAULT_STAT_UNACK_DEGRADE : Fld := ⟨0x20, 8, 8⟩
/-- FAULT registers (Table 18.8): the field the table calls FAULT_STAT_UNACK_SAFETY. -/
def FAULT_STAT_UNACK_SAFETY : Fld := ⟨0x20, 16, 8⟩
/-- FAULT registers (Table 18.8): the field the table calls FAULT_STAT_HELD. -/
def FAULT_STAT_HELD : Fld := ⟨0x20, 24, 1⟩
/-- FAULT registers (Table 18.8): the field the table calls FAULT_EVT. -/
def FAULT_EVT : Fld := ⟨0x24, 0, 7⟩
/-- FAULT registers (Table 18.8): the field the table calls FAULT_IE. -/
def FAULT_IE : Fld := ⟨0x28, 0, 7⟩
/-- FAULT registers (Table 18.8): the field the table calls FAULT_CTRL_NOTE_Q. -/
def FAULT_CTRL_NOTE_Q : Fld := ⟨0x2c, 0, 1⟩
/-- FAULT registers (Table 18.8): the field the table calls FAULT_CTRL_FATAL_INJ_EN. -/
def FAULT_CTRL_FATAL_INJ_EN : Fld := ⟨0x2c, 1, 1⟩
/-- FAULT registers (Table 18.8): the field the table calls FAULT_LOG_POS_INDEX. -/
def FAULT_LOG_POS_INDEX : Fld := ⟨0x30, 0, 32⟩
/-- FAULT registers (Table 18.8): the field the table calls FAULT_SEQ_NEXT. -/
def FAULT_SEQ_NEXT : Fld := ⟨0x34, 0, 16⟩
/-- FAULT registers (Table 18.8): the field the table calls FAULT_NOTES. -/
def FAULT_NOTES : Fld := ⟨0x40, 0, 32⟩
/-- FAULT registers (Table 18.8): the field the table calls FAULT_DEGRADES. -/
def FAULT_DEGRADES : Fld := ⟨0x44, 0, 32⟩
/-- FAULT registers (Table 18.8): the field the table calls FAULT_SAFETY. -/
def FAULT_SAFETY : Fld := ⟨0x48, 0, 32⟩
/-- FAULT registers (Table 18.8): the field the table calls FAULT_QOVF. -/
def FAULT_QOVF : Fld := ⟨0x4c, 0, 32⟩
/-- FAULT registers (Table 18.8): the field the table calls FAULT_INTAKE_LOST. -/
def FAULT_INTAKE_LOST : Fld := ⟨0x50, 0, 32⟩
/-- FAULT registers (Table 18.8): the field the table calls FAULT_LOG_OVWR. -/
def FAULT_LOG_OVWR : Fld := ⟨0x54, 0, 32⟩
/-- FAULT registers (Table 18.8): the field the table calls FAULT_FORCED. -/
def FAULT_FORCED : Fld := ⟨0x58, 0, 32⟩
/-- FAULT registers (Table 18.8): the field the table calls FAULT_ISLAND_RESETS. -/
def FAULT_ISLAND_RESETS : Fld := ⟨0x5c, 0, 32⟩
/-- FAULT registers (Table 18.8): the field the table calls FAULT_STORE_CE. -/
def FAULT_STORE_CE : Fld := ⟨0x60, 0, 32⟩
/-- FAULT registers (Table 18.8): the field the table calls FAULT_FATAL_MORE. -/
def FAULT_FATAL_MORE : Fld := ⟨0x64, 0, 32⟩
/-- FAULT registers (Table 18.8): the field the table calls FAULT_FORCE_KEY_KEY. -/
def FAULT_FORCE_KEY_KEY : Fld := ⟨0x100, 0, 8⟩
/-- FAULT registers (Table 18.8): the field the table calls FAULT_FORCE_KIND. -/
def FAULT_FORCE_KIND : Fld := ⟨0x104, 0, 8⟩
/-- FAULT registers (Table 18.8): the field the table calls FAULT_FORCE_SOURCE. -/
def FAULT_FORCE_SOURCE : Fld := ⟨0x104, 8, 12⟩
/-- FAULT registers (Table 18.8): the field the table calls FAULT_FORCE_GO. -/
def FAULT_FORCE_GO : Fld := ⟨0x104, 31, 1⟩

/-! CRUC registers (Table 17.12) -/

/-- CRUC registers (Table 17.12): the field the table calls CRUC_STAT_MODE. -/
def CRUC_STAT_MODE : Fld := ⟨0x0, 0, 2⟩
/-- CRUC registers (Table 17.12): the field the table calls CRUC_STAT_LANES. -/
def CRUC_STAT_LANES : Fld := ⟨0x0, 4, 3⟩
/-- CRUC registers (Table 17.12): the field the table calls CRUC_STAT_ASSAY_HOLD. -/
def CRUC_STAT_ASSAY_HOLD : Fld := ⟨0x0, 8, 1⟩
/-- CRUC registers (Table 17.12): the field the table calls CRUC_STAT_RESYNC. -/
def CRUC_STAT_RESYNC : Fld := ⟨0x0, 9, 1⟩
/-- CRUC registers (Table 17.12): the field the table calls CRUC_STAT_LAST_DISSENT. -/
def CRUC_STAT_LAST_DISSENT : Fld := ⟨0x0, 12, 2⟩
/-- CRUC registers (Table 17.12): the field the table calls CRUC_STAT_ARMED. -/
def CRUC_STAT_ARMED : Fld := ⟨0x0, 16, 3⟩
/-- CRUC registers (Table 17.12): the field the table calls CRUC_STAT_TRIGGERED. -/
def CRUC_STAT_TRIGGERED : Fld := ⟨0x0, 20, 2⟩
/-- CRUC registers (Table 17.12): the field the table calls CRUC_EVT. -/
def CRUC_EVT : Fld := ⟨0x4, 0, 8⟩
/-- CRUC registers (Table 17.12): the field the table calls CRUC_IE. -/
def CRUC_IE : Fld := ⟨0x8, 0, 8⟩
/-- CRUC registers (Table 17.12): the field the table calls CRUC_HOLD_LAST_CYCLES. -/
def CRUC_HOLD_LAST_CYCLES : Fld := ⟨0x20, 0, 7⟩
/-- CRUC registers (Table 17.12): the field the table calls CRUC_DISSENTS. -/
def CRUC_DISSENTS : Fld := ⟨0x40, 0, 32⟩
/-- CRUC registers (Table 17.12): the field the table calls CRUC_ASSAY_FAILS. -/
def CRUC_ASSAY_FAILS : Fld := ⟨0x44, 0, 32⟩
/-- CRUC registers (Table 17.12): the field the table calls CRUC_DUAL_ENTRIES. -/
def CRUC_DUAL_ENTRIES : Fld := ⟨0x48, 0, 32⟩
/-- CRUC registers (Table 17.12): the field the table calls CRUC_DUAL_ASSAYS. -/
def CRUC_DUAL_ASSAYS : Fld := ⟨0x4c, 0, 32⟩
/-- CRUC registers (Table 17.12): the field the table calls CRUC_REJOINS. -/
def CRUC_REJOINS : Fld := ⟨0x50, 0, 32⟩
/-- CRUC registers (Table 17.12): the field the table calls CRUC_SF_WDROP. -/
def CRUC_SF_WDROP : Fld := ⟨0x54, 0, 32⟩
/-- CRUC registers (Table 17.12): the field the table calls SF_TRIGGERS_E. -/
def SF_TRIGGERS_E : Fld := ⟨0x58, 0, 32⟩
/-- CRUC registers (Table 17.12): the field the table calls SF_TRIGGERS_A. -/
def SF_TRIGGERS_A : Fld := ⟨0x5c, 0, 32⟩
/-- CRUC registers (Table 17.12): the field the table calls SF_TEST_FAILS. -/
def SF_TEST_FAILS : Fld := ⟨0x60, 0, 32⟩
/-- CRUC registers (Table 17.12): the field the table calls SF_BACKUP_OPENS. -/
def SF_BACKUP_OPENS : Fld := ⟨0x64, 0, 32⟩

/-! CRUC_ASSAY l (Table 17.12) -/

/-- CRUC_ASSAY l (Table 17.12): the field the table calls CRUC_ASSAY_PASS. -/
def CRUC_ASSAY_PASS : Fld := ⟨0x0, 0, 1⟩
/-- CRUC_ASSAY l (Table 17.12): the field the table calls CRUC_ASSAY_VALID. -/
def CRUC_ASSAY_VALID : Fld := ⟨0x0, 1, 1⟩
/-- CRUC_ASSAY l (Table 17.12): the field the table calls CRUC_ASSAY_FAIL_CLASS. -/
def CRUC_ASSAY_FAIL_CLASS : Fld := ⟨0x0, 4, 4⟩
/-- CRUC_ASSAY l (Table 17.12): the field the table calls CRUC_ASSAY_CYCLES. -/
def CRUC_ASSAY_CYCLES : Fld := ⟨0x0, 16, 16⟩

/-! Function sets (Table 17.12) -/

/-- Function sets (Table 17.12): the field the table calls SF_CTRL_ARMED. -/
def SF_CTRL_ARMED : Fld := ⟨0x0, 0, 1⟩
/-- Function sets (Table 17.12): the field the table calls SF_CTRL_TRIGGERED. -/
def SF_CTRL_TRIGGERED : Fld := ⟨0x0, 1, 1⟩
/-- Function sets (Table 17.12): the field the table calls SF_CTRL_SAFE. -/
def SF_CTRL_SAFE : Fld := ⟨0x0, 2, 1⟩
/-- Function sets (Table 17.12): the field the table calls SF_CTRL_CAUSE. -/
def SF_CTRL_CAUSE : Fld := ⟨0x0, 4, 4⟩
/-- Function sets (Table 17.12): the field the table calls SF_CHAN_LO. -/
def SF_CHAN_LO : Fld := ⟨0x4, 0, 32⟩
/-- Function sets (Table 17.12): the field the table calls SF_CHAN_HI. -/
def SF_CHAN_HI : Fld := ⟨0x8, 0, 32⟩
/-- Function sets (Table 17.12): the field the table calls SF_PARAM0_LOW. -/
def SF_PARAM0_LOW : Fld := ⟨0xc, 0, 14⟩
/-- Function sets (Table 17.12): the field the table calls SF_PARAM0_HIGH. -/
def SF_PARAM0_HIGH : Fld := ⟨0xc, 16, 9⟩
/-- Function sets (Table 17.12): the field the table calls SF_PARAM1_HB_SLOT. -/
def SF_PARAM1_HB_SLOT : Fld := ⟨0x10, 0, 14⟩
/-- Function sets (Table 17.12): the field the table calls SF_PARAM1_HB_EN. -/
def SF_PARAM1_HB_EN : Fld := ⟨0x10, 15, 1⟩
/-- Function sets (Table 17.12): the field the table calls SF_PARAM1_HB_MS. -/
def SF_PARAM1_HB_MS : Fld := ⟨0x10, 16, 16⟩

/-! SF_OUT s k (Table 17.12) -/

/-- SF_OUT s k (Table 17.12): the field the table calls SF_OUT_LINE. -/
def SF_OUT_LINE : Fld := ⟨0x0, 0, 8⟩
/-- SF_OUT s k (Table 17.12): the field the table calls SF_OUT_EN. -/
def SF_OUT_EN : Fld := ⟨0x0, 8, 1⟩

/-! SF_IN s k (Table 17.12) -/

/-- SF_IN s k (Table 17.12): the field the table calls SF_IN_LINE. -/
def SF_IN_LINE : Fld := ⟨0x0, 0, 8⟩
/-- SF_IN s k (Table 17.12): the field the table calls SF_IN_EN. -/
def SF_IN_EN : Fld := ⟨0x0, 8, 1⟩
/-- SF_IN s k (Table 17.12): the field the table calls SF_IN_TRIG_LEVEL. -/
def SF_IN_TRIG_LEVEL : Fld := ⟨0x0, 9, 1⟩
/-- SF_IN s k (Table 17.12): the field the table calls SF_IN_TEST. -/
def SF_IN_TEST : Fld := ⟨0x0, 10, 1⟩
/-- SF_IN s k (Table 17.12): the field the table calls SF_IN_TEST_LINE. -/
def SF_IN_TEST_LINE : Fld := ⟨0x0, 16, 8⟩

/-! SF_BACKUP c (Table 17.12) -/

/-- SF_BACKUP c (Table 17.12): the field the table calls SF_BACKUP_LINE. -/
def SF_BACKUP_LINE : Fld := ⟨0x0, 0, 8⟩
/-- SF_BACKUP c (Table 17.12): the field the table calls SF_BACKUP_EN. -/
def SF_BACKUP_EN : Fld := ⟨0x0, 8, 1⟩

/-! CALIB registers (Table 20.11) -/

/-- CALIB registers (Table 20.11): the field the table calls CALIB_STAT_DEFAULT. -/
def CALIB_STAT_DEFAULT : Fld := ⟨0x0, 0, 1⟩
/-- CALIB registers (Table 20.11): the field the table calls CALIB_STAT_ORIGIN. -/
def CALIB_STAT_ORIGIN : Fld := ⟨0x0, 1, 1⟩
/-- CALIB registers (Table 20.11): the field the table calls CALIB_STAT_BUSY. -/
def CALIB_STAT_BUSY : Fld := ⟨0x0, 2, 1⟩
/-- CALIB registers (Table 20.11): the field the table calls CALIB_WRITES. -/
def CALIB_WRITES : Fld := ⟨0x4, 0, 32⟩
/-- CALIB registers (Table 20.11): the field the table calls CALIB_CRC_STORED. -/
def CALIB_CRC_STORED : Fld := ⟨0x8, 0, 32⟩
/-- CALIB registers (Table 20.11): the field the table calls CALIB_CRC_CALC. -/
def CALIB_CRC_CALC : Fld := ⟨0xc, 0, 32⟩

/-! UPD registers (Table 20.11) -/

/-- UPD registers (Table 20.11): the field the table calls UPD_STAT_STATE. -/
def UPD_STAT_STATE : Fld := ⟨0x0, 0, 3⟩
/-- UPD registers (Table 20.11): the field the table calls UPD_STAT_IMG_WRITE. -/
def UPD_STAT_IMG_WRITE : Fld := ⟨0x0, 3, 1⟩
/-- UPD registers (Table 20.11): the field the table calls UPD_STAT_IMAGE. -/
def UPD_STAT_IMAGE : Fld := ⟨0x0, 4, 2⟩
/-- UPD registers (Table 20.11): the field the table calls UPD_STAT_BUNDLE_STAGED. -/
def UPD_STAT_BUNDLE_STAGED : Fld := ⟨0x0, 6, 1⟩
/-- UPD registers (Table 20.11): the field the table calls UPD_VER_RUN. -/
def UPD_VER_RUN : Fld := ⟨0x4, 0, 32⟩
/-- UPD registers (Table 20.11): the field the table calls UPD_VER_STAGED. -/
def UPD_VER_STAGED : Fld := ⟨0x8, 0, 32⟩
/-- UPD registers (Table 20.11): the field the table calls UPD_ROLLBACK_COUNT. -/
def UPD_ROLLBACK_COUNT : Fld := ⟨0xc, 0, 6⟩
/-- UPD registers (Table 20.11): the field the table calls UPD_ROLLBACK_SEC_RUN. -/
def UPD_ROLLBACK_SEC_RUN : Fld := ⟨0xc, 8, 6⟩
/-- UPD registers (Table 20.11): the field the table calls UPD_OWNER_KEY_SET. -/
def UPD_OWNER_KEY_SET : Fld := ⟨0x10, 0, 1⟩
/-- UPD registers (Table 20.11): the field the table calls UPD_OWNER_LOCK. -/
def UPD_OWNER_LOCK : Fld := ⟨0x10, 1, 1⟩
/-- UPD registers (Table 20.11): the field the table calls UPD_OWNER_BUNDLE_SIG. -/
def UPD_OWNER_BUNDLE_SIG : Fld := ⟨0x10, 2, 1⟩
/-- UPD registers (Table 20.11): the field the table calls UPD_NONCE_LO. -/
def UPD_NONCE_LO : Fld := ⟨0x14, 0, 32⟩
/-- UPD registers (Table 20.11): the field the table calls UPD_NONCE_HI. -/
def UPD_NONCE_HI : Fld := ⟨0x18, 0, 32⟩
/-- UPD registers (Table 20.11): the field the table calls UPD_ACT_AT_NS_NS. -/
def UPD_ACT_AT_NS_NS : Fld := ⟨0x20, 0, 30⟩
/-- UPD registers (Table 20.11): the field the table calls UPD_ACT_AT_SL_SEC_LO. -/
def UPD_ACT_AT_SL_SEC_LO : Fld := ⟨0x24, 0, 32⟩
/-- UPD registers (Table 20.11): the field the table calls UPD_ACT_AT_SH_SEC_HI. -/
def UPD_ACT_AT_SH_SEC_HI : Fld := ⟨0x28, 0, 16⟩
/-- UPD registers (Table 20.11): the field the table calls UPD_ACT_FLAGS_IMAGE. -/
def UPD_ACT_FLAGS_IMAGE : Fld := ⟨0x2c, 0, 1⟩
/-- UPD registers (Table 20.11): the field the table calls UPD_ACT_FLAGS_BUNDLE. -/
def UPD_ACT_FLAGS_BUNDLE : Fld := ⟨0x2c, 1, 1⟩
/-- UPD registers (Table 20.11): the field the table calls UPD_COPY_DONE. -/
def UPD_COPY_DONE : Fld := ⟨0x30, 0, 16⟩
/-- UPD registers (Table 20.11): the field the table calls UPD_COPY_TOTAL. -/
def UPD_COPY_TOTAL : Fld := ⟨0x30, 16, 16⟩
/-- UPD registers (Table 20.11): the field the table calls UPD_BUNDLE_SLOT. -/
def UPD_BUNDLE_SLOT : Fld := ⟨0x34, 0, 1⟩
/-- UPD registers (Table 20.11): the field the table calls UPD_BUNDLE_FORMAT. -/
def UPD_BUNDLE_FORMAT : Fld := ⟨0x34, 8, 8⟩
/-- UPD registers (Table 20.11): the field the table calls UPD_BUNDLE_VER. -/
def UPD_BUNDLE_VER : Fld := ⟨0x38, 0, 32⟩
/-- UPD registers (Table 20.11): the field the table calls UPD_EVT. -/
def UPD_EVT : Fld := ⟨0x40, 0, 7⟩
/-- UPD registers (Table 20.11): the field the table calls UPD_IE. -/
def UPD_IE : Fld := ⟨0x44, 0, 7⟩
/-- UPD registers (Table 20.11): the field the table calls UPD_VERIFY_FAILS. -/
def UPD_VERIFY_FAILS : Fld := ⟨0x80, 0, 32⟩
/-- UPD registers (Table 20.11): the field the table calls UPD_REFUSED. -/
def UPD_REFUSED : Fld := ⟨0x84, 0, 32⟩
/-- UPD registers (Table 20.11): the field the table calls UPD_ACTIVATIONS. -/
def UPD_ACTIVATIONS : Fld := ⟨0x88, 0, 32⟩
/-- UPD registers (Table 20.11): the field the table calls UPD_RECOVERIES. -/
def UPD_RECOVERIES : Fld := ⟨0x8c, 0, 32⟩
/-- UPD registers (Table 20.11): the field the table calls UPD_MIGRATIONS. -/
def UPD_MIGRATIONS : Fld := ⟨0x90, 0, 32⟩

/-! AON registers (Table 19.9) -/

/-- AON registers (Table 19.9): the field the table calls AON_STAT_HELD. -/
def AON_STAT_HELD : Fld := ⟨0x0, 0, 1⟩
/-- AON registers (Table 19.9): the field the table calls AON_STAT_TIME_VALID. -/
def AON_STAT_TIME_VALID : Fld := ⟨0x0, 1, 1⟩
/-- AON registers (Table 19.9): the field the table calls AON_STAT_REFCLK_OK. -/
def AON_STAT_REFCLK_OK : Fld := ⟨0x0, 2, 1⟩
/-- AON registers (Table 19.9): the field the table calls AON_STAT_XTAL_OK. -/
def AON_STAT_XTAL_OK : Fld := ⟨0x0, 3, 1⟩
/-- AON registers (Table 19.9): the field the table calls AON_STAT_COUNTER_HALF. -/
def AON_STAT_COUNTER_HALF : Fld := ⟨0x0, 8, 1⟩
/-- AON registers (Table 19.9): the field the table calls AON_RST_CAUSE_CAUSE. -/
def AON_RST_CAUSE_CAUSE : Fld := ⟨0x4, 0, 4⟩
/-- AON registers (Table 19.9): the field the table calls AON_EPOCH_EPOCH. -/
def AON_EPOCH_EPOCH : Fld := ⟨0x8, 0, 8⟩
/-- AON registers (Table 19.9): the field the table calls AON_TIME_SUB_SUB. -/
def AON_TIME_SUB_SUB : Fld := ⟨0x10, 0, 15⟩
/-- AON registers (Table 19.9): the field the table calls AON_TIME_SL_SEC_LO. -/
def AON_TIME_SL_SEC_LO : Fld := ⟨0x14, 0, 32⟩
/-- AON registers (Table 19.9): the field the table calls AON_TIME_SH_SEC_HI. -/
def AON_TIME_SH_SEC_HI : Fld := ⟨0x18, 0, 16⟩
/-- AON registers (Table 19.9): the field the table calls AON_TRIM_PPM_X10. -/
def AON_TRIM_PPM_X10 : Fld := ⟨0x1c, 0, 16⟩
/-- AON registers (Table 19.9): the field the table calls AON_WAKE_EN_EN. -/
def AON_WAKE_EN_EN : Fld := ⟨0x20, 0, 8⟩
/-- AON registers (Table 19.9): the field the table calls AON_WAKE_CFG_LEVEL. -/
def AON_WAKE_CFG_LEVEL : Fld := ⟨0x24, 0, 2⟩
/-- AON registers (Table 19.9): the field the table calls AON_ALARM_SL_SEC. -/
def AON_ALARM_SL_SEC : Fld := ⟨0x30, 0, 32⟩
/-- AON registers (Table 19.9): the field the table calls AON_ALARM_SH_SEC. -/
def AON_ALARM_SH_SEC : Fld := ⟨0x34, 0, 32⟩
/-- AON registers (Table 19.9): the field the table calls AON_WAKE_SRC_SRC. -/
def AON_WAKE_SRC_SRC : Fld := ⟨0x38, 0, 8⟩
/-- AON registers (Table 19.9): the field the table calls AON_BOR_CNT. -/
def AON_BOR_CNT : Fld := ⟨0x40, 0, 32⟩
/-- AON registers (Table 19.9): the field the table calls AON_WAKES. -/
def AON_WAKES : Fld := ⟨0x44, 0, 32⟩

/-! AON_WCMP k (Table 19.9) -/

/-- AON_WCMP k (Table 19.9): the field the table calls AON_WCMP_MV. -/
def AON_WCMP_MV : Fld := ⟨0x0, 0, 10⟩
/-- AON_WCMP k (Table 19.9): the field the table calls AON_WCMP_FALLING. -/
def AON_WCMP_FALLING : Fld := ⟨0x0, 16, 1⟩

end Sys2Proof.Machine
end

