-- ==== Sys2Proof/Machine/RegTable.lean ====
section
/-! DEFINITION. The register tables of the spec, one `RegGroup` per table or per repeated set: where its sets lie in
register space (Table 1.7 and the tables' captions) and, field by field, the access code (Table 0.5), the reset value
and the range a written value is taken into. -/

namespace Sys2Proof.Machine

/-- Table 2.8: first Ingot and count of partition `n`, as the word SYS_PARTn (Table 2.9). -/
def partReset (n : Nat) : Nat :=
  match n with
  | 0 => 0 + 16 * 1024 | 1 => 16 + 1 * 1024 | 2 => 17 + 256 * 1024 | 3 => 273 + 128 * 1024
  | 4 => 401 + 128 * 1024 | 5 => 529 + 16 * 1024 | 6 => 545 + 8 * 1024 | 7 => 553 + 8 * 1024
  | 8 => 561 + 8 * 1024 | 9 => 569 + 4 * 1024 | 10 => 573 + 256 * 1024 | 15 => 829 + 195 * 1024
  | _ => 0

/-- Table 7.8: reset of gate list entry `e`: entry 0 opens every class for 1 ms, the others hold zero. -/
def gclReset (e q : Nat) : Nat :=
  if e = 0 then (if q = 0 then 0xFF else 1000000) else 0

/-- Table 7.9: the reset values of a stream context record that depend on the context's number `n`. -/
def ctxReset (n q : Nat) : Nat :=
  if q = 0x00 then (if n ≤ 4 then 0x105 else 0) + (if n = 0 then 0x50 else 0)
  else if q = 0x08 then (if n = 0 then 64 else 32)
  else 0

/-- Table 9.1: the lag of ledger source `c` at reset. A CAN controller's follows from the reset values of its registers (R317), a
DIO bank's is 0 while no line feeds the ledger (R21). -/
def lagReset (c : Nat) : Nat :=
  if 0x10 ≤ c ∧ c < 0x50 then 1510000
  else if 0x50 ≤ c ∧ c < 0x60 then 2000
  else if 0x60 ≤ c ∧ c < 0x70 then 5000
  else if c = 0x70 then 2000
  else 0

/-- Table 16.10: default source offer, entry `e`. -/
def offerReset (e : Nat) : Nat :=
  match e with
  | 0 => 0x13884BB8 | 1 => 0x23284BB8 | 2 => 0x3A984BB8 | 3 => 0x4E204BB8 | 4 => 0x52088BB8 | _ => 0

/-- Table 3.1: write width (bytes), read width (bytes) and stages of Sprue queue `q`. -/
def sprueShape (q : Nat) : Nat × Nat × Nat :=
  if q < 3 then (8, 16, 32) else if q < 6 then (16, 16, 16) else if q < 10 then (4, 16, 64)
  else if q < 14 then (16, 16, 64) else if q < 22 then (4, 16, 32) else if q < 30 then (16, 16, 32)
  else if q = 30 then (32, 64, 64) else if q = 31 then (64, 64, 64) else if q < 34 then (16, 16, 32)
  else if q = 34 then (4, 16, 32) else if q = 35 then (16, 16, 32) else if q = 36 then (4, 16, 16)
  else if q = 37 then (16, 16, 16) else if q = 38 then (4, 16, 32) else if q = 39 then (16, 16, 32)
  else if q < 42 then (16, 16, 16) else if q = 42 then (4, 16, 8) else (16, 16, 8)

/-- Tables 3.1 and 3.3: reset of SPRUE_CFG, of SPRUE_LEVEL.PECKS and of SPRUE_WM.MARK of queue `q`. -/
def sprueReset (q off : Nat) : Nat :=
  let (wr, rd, st) := sprueShape q
  if off = 0x00 then wr.log2 + 16 * rd.log2 + 256 * st
  else if off = 0x04 then 256 * st
  else if off = 0x08 then st / 2
  else 0

/-- Table 17.12: reset of SF_PARAM0 in sets 0 (ring-loss time) and 1 (test period and pulse), and of SF_PARAM1 in
sets 1 and 2, where the register reads 0. -/
def sfReset (s q : Nat) : Nat :=
  if q = 0x0C then (if s = 0 then 1000 else if s = 1 then 5000 + 100 * 65536 else 0)
  else if q = 0x10 ∧ s = 0 then 1000 * 65536
  else 0

/-- Fields of the SYS block (Tables 0.1, 1.6, 4.12, 19.9, 21.5). -/
def sysRegsFields0 : List FieldSpec := [
  ⟨SYS_ID, .ro, 0, .any⟩,
  ⟨SYS_REV, .ro, 177, .any⟩,
  ⟨SYS_ROM_VER, .ro, 196610, .any⟩,
  ⟨SYS_FENCE_CAN_ISL, .ro, 0, .any⟩,
  ⟨SYS_FENCE_FLASK, .ro, 0, .any⟩,
  ⟨SYS_FENCE_DIO_BANK, .ro, 0, .any⟩,
  ⟨SYS_FENCE_CRUC_LANE, .ro, 0, .any⟩,
  ⟨SYS_FENCE_COPE, .ro, 0, .any⟩,
  ⟨SYS_FENCE_DRAG, .ro, 0, .any⟩,
  ⟨SYS_FENCE_PEDIE, .ro, 0, .any⟩,
  ⟨SYS_FENCE_WDROP, .ro, 0, .any⟩,
  ⟨SYS_BOOT_STAT_STEP, .ro, 1, .any⟩,
  ⟨SYS_BOOT_STAT_BUNDLE, .ro, 0, .any⟩,
  ⟨SYS_BOOT_STAT_CALIB_DEFAULT, .ro, 0, .any⟩,
  ⟨SYS_BOOT_STAT_SCRIPT, .ro, 0, .any⟩,
  ⟨SYS_BOOT_STAT_DEADBATT, .ro, 0, .any⟩,
  ⟨SYS_BOOT_STAT_BOOT_MS, .ro, 0, .any⟩,
  ⟨SYS_PWR_STATE, .ro, 0, .any⟩,
  ⟨SYS_PWR_GATED, .ro, 0, .any⟩,
  ⟨SYS_PWR_STBY_CANCELLED, .ro, 0, .any⟩,
  ⟨SYS_TEMP0_MAIN, .ro, 32768, .any⟩,
  ⟨SYS_TEMP0_MAIN_MAX, .ro, 32768, .any⟩,
  ⟨SYS_TEMP1_PE0, .ro, 32768, .any⟩,
  ⟨SYS_TEMP1_PE1, .ro, 32768, .any⟩,
  ⟨CMD_CTRL_FAB_EN, .rw, 1, .any⟩,
  ⟨CMD_REQ_STAT_BUSY, .ro, 0, .any⟩,
  ⟨CMD_REQ_STAT_READY, .ro, 0, .any⟩,
  ⟨CMD_REQ_STAT_RPL_FULL, .ro, 0, .any⟩,
  ⟨CMD_DOORBELL_LEN, .wo, 0, .any⟩,
  ⟨CMD_RPL_STAT_COUNT, .ro, 0, .any⟩,
  ⟨CMD_RPL_STAT_LEN, .ro, 0, .any⟩,
  ⟨CMD_RPL_STAT_SRC_NODE, .ro, 0, .any⟩,
  ⟨CMD_RPL_POP_POP, .wo, 0, .any⟩,
  ⟨CMD_OUTSTAND_XSPI, .ro, 0, .any⟩,
  ⟨CMD_OUTSTAND_USB, .ro, 0, .any⟩,
  ⟨CMD_OUTSTAND_FAB, .ro, 0, .any⟩,
  ⟨CMD_OUTSTAND_REMOTE, .ro, 0, .any⟩,
  ⟨CMD_BCAST_WIN_MS, .rw, 10, .range 1 1023⟩,
  ⟨CMD_REMOTE_TMO_TICKS, .rw, 100, .range 1 8191⟩,
  ⟨CMD_ACCEPTED, .ro, 0, .any⟩]

/-- Fields of the SYS block (Tables 0.1, 1.6, 4.12, 19.9, 21.5). -/
def sysRegsFields1 : List FieldSpec := [
  ⟨CMD_REFUSED, .ro, 0, .any⟩,
  ⟨CMD_BAD_CRC, .ro, 0, .any⟩,
  ⟨CMD_DOORBELL_LOST, .ro, 0, .any⟩,
  ⟨CMD_WIN_WDROP, .ro, 0, .any⟩,
  ⟨CMD_LATE_REPLY, .ro, 0, .any⟩,
  ⟨CMD_BCAST_LATE, .ro, 0, .any⟩,
  ⟨CMD_RPL_DISCARD, .ro, 0, .any⟩,
  ⟨CMD_LOG_HEAD_INDEX, .ro, 0, .any⟩,
  ⟨CMD_LOG_OVWR, .ro, 0, .any⟩]

/-- SYS block (Tables 0.1, 1.6, 4.12, 19.9, 21.5). -/
def sysRegs : RegGroup :=
  ⟨0x0, 0x1000000, 1, 0x0, 0x10000, 1, 0x10000, sysRegsFields0 ++ sysRegsFields1,
    fun _ _ _ => 0⟩

/-- Fields of the SYS_PARTn (Table 2.9). -/
def partRegsFields : List FieldSpec := [
  ⟨SYS_PART_FIRST, .ro, 0, .any⟩,
  ⟨SYS_PART_COUNT, .ro, 0, .any⟩]

/-- SYS_PARTn (Table 2.9). -/
def partRegs : RegGroup :=
  ⟨0x100, 0x1000000, 1, 0x0, 0x4, 16, 0x4, partRegsFields,
    fun _ j _ => partReset j⟩

/-- Fields of the TIME block (Table 8.9). -/
def timeRegsFields0 : List FieldSpec := [
  ⟨TIME_CTRL_ROLE, .rw, 0, .any⟩,
  ⟨TIME_CTRL_MODE, .rw, 0, .any⟩,
  ⟨TIME_CTRL_ACCEPT_JUMP, .wo, 0, .any⟩,
  ⟨TIME_CTRL_LMAC_SLAVE, .rw, 0, .other 0 4 0⟩,
  ⟨TIME_CTRL_DOMAIN, .rw, 0, .any⟩,
  ⟨TIME_CTRL_PRIORITY1, .rw, 248, .any⟩,
  ⟨TIME_CTRL_PRIORITY2, .rw, 248, .any⟩,
  ⟨TIME_CLOCKQ_CLOCK_CLASS, .rw, 248, .any⟩,
  ⟨TIME_CLOCKQ_ACCURACY, .rw, 254, .any⟩,
  ⟨TIME_CLOCKQ_VARIANCE, .rw, 65535, .any⟩,
  ⟨TIME_STAT_STATE, .ro, 0, .any⟩,
  ⟨TIME_STAT_VALID, .ro, 0, .any⟩,
  ⟨TIME_STAT_JUMP_REFUSED, .ro, 0, .any⟩,
  ⟨TIME_STAT_FOREIGN_PATH, .ro, 0, .any⟩,
  ⟨TIME_STAT_SYNC_PORT, .ro, 3, .any⟩,
  ⟨TIME_STAT_STEPS, .ro, 0, .any⟩,
  ⟨TIME_EVT, .w1c, 0, .any⟩,
  ⟨TIME_IE, .rw, 0, .any⟩,
  ⟨TIME_NOW_NS_NS, .ro, 0, .any⟩,
  ⟨TIME_NOW_SL_SEC_LO, .ro, 0, .any⟩,
  ⟨TIME_NOW_SH_SEC_HI, .ro, 0, .any⟩,
  ⟨TIME_NOW_FRAC_FRAC, .ro, 0, .any⟩,
  ⟨TIME_INC_FRAC_FRAC, .ro, 0, .any⟩,
  ⟨TIME_INC_INT_INT, .ro, 2, .any⟩,
  ⟨TIME_OFFSET_NS, .ro, 0, .any⟩,
  ⟨TIME_MSG_INT_LOG_SYNC, .rw, 251, .signed (-7) 0⟩,
  ⟨TIME_MSG_INT_LOG_ANNOUNCE, .rw, 254, .signed (-3) 1⟩,
  ⟨TIME_MSG_INT_LOG_PDELAY, .rw, 253, .signed (-5) 3⟩,
  ⟨TIME_MSG_INT_SYNC_TMO, .rw, 3, .range 2 15⟩,
  ⟨TIME_MSG_INT_ANN_TMO, .rw, 3, .range 2 15⟩,
  ⟨TIME_STEP_THR_NS, .rw, 1000, .range 100 1000000000⟩,
  ⟨TIME_LOCK_LOCK_NS, .rw, 20, .range 2 1000⟩,
  ⟨TIME_LOCK_CONFIRM, .rw, 3, .range 1 15⟩,
  ⟨TIME_LOCK_LOCK_COUNT, .rw, 8, .range 1 15⟩,
  ⟨TIME_HOLD_MS, .rw, 2000, .range 0 60000⟩,
  ⟨TIME_SLEW_PPM, .rw, 100, .range 1 500⟩,
  ⟨TIME_NBR_THR_NS, .rw, 10000, .range 100 1000000⟩,
  ⟨TIME_UTC_OFS_OFS, .rw, 37, .any⟩,
  ⟨TIME_UTC_OFS_VALID, .rw, 0, .any⟩,
  ⟨TIME_GM_ID_LO_ID, .ro, 0, .any⟩]

/-- Fields of the TIME block (Table 8.9). -/
def timeRegsFields1 : List FieldSpec := [
  ⟨TIME_GM_ID_HI_ID, .ro, 0, .any⟩,
  ⟨TIME_STEPS, .ro, 0, .any⟩,
  ⟨TIME_JUMPS_REFUSED, .ro, 0, .any⟩,
  ⟨TIME_SYNC_TMO, .ro, 0, .any⟩,
  ⟨TIME_PATH_SWITCH, .ro, 0, .any⟩,
  ⟨TIME_GM_CHANGES, .ro, 0, .any⟩,
  ⟨TIME_ACT_LATE, .ro, 0, .any⟩,
  ⟨TIME_ACT_SKIPPED, .ro, 0, .any⟩,
  ⟨TIME_PTP_DISCARD, .ro, 0, .any⟩,
  ⟨TIME_ACT_USED0, .ro, 0, .any⟩,
  ⟨TIME_ACT_USED1, .ro, 0, .any⟩]

/-- TIME block (Table 8.9). -/
def timeRegs : RegGroup :=
  ⟨0x10000, 0x1000000, 1, 0x0, 0x10000, 1, 0x10000, timeRegsFields0 ++ timeRegsFields1,
    fun _ _ _ => 0⟩

/-- Fields of the TIME per-port sets (Table 8.9). -/
def timePortRegsFields : List FieldSpec := [
  ⟨TIME_PORT_CFG_PTP_EN, .rw, 0, .any⟩,
  ⟨TIME_PORT_CFG_MASTER, .rw, 0, .any⟩,
  ⟨TIME_PORT_CFG_AS_CAPABLE, .ro, 0, .any⟩,
  ⟨TIME_PORT_ASYM_NS, .rw, 0, .any⟩,
  ⟨TIME_PORT_RX_LAT_NS, .rw, 0, .any⟩,
  ⟨TIME_PORT_TX_LAT_NS, .rw, 0, .any⟩,
  ⟨TIME_PORT_PDELAY_DELAY, .ro, 0, .any⟩,
  ⟨TIME_PORT_NBR_RATE_RATE, .ro, 0, .any⟩,
  ⟨TIME_PORT_TSQ_LVL_LEVEL, .ro, 0, .any⟩,
  ⟨TIME_PORT_TS_OVF, .ro, 0, .any⟩,
  ⟨TIME_PORT_PDELAY_LOST, .ro, 0, .any⟩]

/-- TIME per-port sets (Table 8.9). -/
def timePortRegs : RegGroup :=
  ⟨0x10000, 0x1000000, 1, 0x400, 0x40, 6, 0x40, timePortRegsFields,
    fun _ j q => if q = 0 ∧ j < 2 then 1 else 0⟩

/-- Fields of the TIME_TXTS_EN k (Table 8.9). -/
def txtsRegsFields : List FieldSpec := [
  ⟨TIME_TXTS_EN_EN, .rw, 0, .any⟩]

/-- TIME_TXTS_EN k (Table 8.9). -/
def txtsRegs : RegGroup :=
  ⟨0x10800, 0x1000000, 1, 0x0, 0x4, 32, 0x4, txtsRegsFields,
    fun _ _ _ => 0⟩

/-- Fields of the RING_COPE and RING_DRAG port registers (Table 5.12). -/
def ringPortRegsFields : List FieldSpec := [
  ⟨RING_PCTRL_EN, .rw, 1, .any⟩,
  ⟨RING_PCTRL_RATE, .rw, 0, .any⟩,
  ⟨RING_PCTRL_FEC, .rw, 0, .any⟩,
  ⟨RING_PCTRL_FALLBACK, .rw, 1, .any⟩,
  ⟨RING_PCTRL_LOOP, .ro, 0, .any⟩,
  ⟨RING_PSTAT_STATE, .ro, 1, .any⟩,
  ⟨RING_PSTAT_RATE_NOW, .ro, 0, .any⟩,
  ⟨RING_PSTAT_FEC_NOW, .ro, 0, .any⟩,
  ⟨RING_PSTAT_BLOCK_LOCK, .ro, 0, .any⟩,
  ⟨RING_PSTAT_FEC_ALIGN, .ro, 0, .any⟩,
  ⟨RING_PSTAT_HELLO_OK, .ro, 0, .any⟩,
  ⟨RING_PSTAT_NEIGHBOUR, .ro, 0, .any⟩,
  ⟨RING_PSTAT_NB_EPOCH, .ro, 0, .any⟩,
  ⟨RING_PEVT, .w1c, 0, .any⟩,
  ⟨RING_PIE, .rw, 0, .any⟩,
  ⟨RING_LINK_TMO_TICKS, .rw, 50, .range 1 1023⟩,
  ⟨RING_MAXFRM_BYTES, .rw, 9216, .range 1518 9216⟩,
  ⟨RING_TXEQ_PRE, .rwl, 4, .any⟩,
  ⟨RING_TXEQ_MAIN, .rwl, 40, .any⟩,
  ⟨RING_TXEQ_POST, .rwl, 8, .any⟩,
  ⟨RING_TX_FRAMES, .ro, 0, .any⟩,
  ⟨RING_RX_FRAMES, .ro, 0, .any⟩,
  ⟨RING_CT_FWD, .ro, 0, .any⟩,
  ⟨RING_SF_FWD, .ro, 0, .any⟩,
  ⟨RING_DELIVERED, .ro, 0, .any⟩,
  ⟨RING_DD_DUP, .ro, 0, .any⟩,
  ⟨RING_DD_OLD, .ro, 0, .any⟩,
  ⟨RING_SELF_REMOVED, .ro, 0, .any⟩,
  ⟨RING_ORPHAN, .ro, 0, .any⟩,
  ⟨RING_UNTAGGED, .ro, 0, .any⟩,
  ⟨RING_LSDU_ERR, .ro, 0, .any⟩,
  ⟨RING_STOMP_TX, .ro, 0, .any⟩,
  ⟨RING_STOMP_RX, .ro, 0, .any⟩,
  ⟨RING_BREAK_DROP, .ro, 0, .any⟩,
  ⟨RING_HELLO_MISS, .ro, 0, .any⟩,
  ⟨RING_LINK_DOWNS, .ro, 0, .any⟩,
  ⟨RING_FEC_CORR, .ro, 0, .any⟩,
  ⟨RING_FEC_UNCORR, .ro, 0, .any⟩,
  ⟨RING_BLOCK_ERR, .ro, 0, .any⟩,
  ⟨RING_LINK_TMO_CNT, .ro, 0, .any⟩]

/-- RING_COPE and RING_DRAG port registers (Table 5.12). -/
def ringPortRegs : RegGroup :=
  ⟨0x20000, 0x10000, 2, 0x0, 0x1000, 1, 0x1000, ringPortRegsFields,
    fun _ _ _ => 0⟩

/-- Fields of the Ring-wide registers (Table 5.12). -/
def ringWideRegsFields : List FieldSpec := [
  ⟨RING_NODE_CFG_FIXED_ID, .rws, 0, .any⟩,
  ⟨RING_NODE_CFG_FIXED, .rws, 0, .any⟩,
  ⟨RING_NODE_CFG_LAST_ID, .rws, 0, .any⟩,
  ⟨RING_NODE_CFG_LAST_VALID, .rws, 0, .any⟩,
  ⟨RING_HELLO_INT_US, .rw, 250, .range 50 1000⟩,
  ⟨RING_HELLO_MISSMAX, .rw, 3, .range 1 15⟩,
  ⟨RING_HEAL_HOLD_MS, .rw, 100, .range 0 10000⟩,
  ⟨RING_SUP_DA_LAST, .rw, 0, .any⟩,
  ⟨RING_DD_FORGET_MS, .rw, 400, .range 10 1000⟩,
  ⟨RING_DD_ENTRIES, .ro, 0, .any⟩,
  ⟨RING_STAT_CLOSED, .ro, 0, .any⟩,
  ⟨RING_STAT_FOREIGN, .ro, 0, .any⟩,
  ⟨RING_STAT_SPLIT_AS_TWIN, .ro, 0, .any⟩,
  ⟨RING_STAT_DUP_ID, .ro, 0, .any⟩,
  ⟨RING_STAT_NODES, .ro, 0, .any⟩,
  ⟨RING_STAT_EPOCH, .ro, 0, .any⟩,
  ⟨RING_STAT_BREAKS, .ro, 0, .any⟩,
  ⟨RING_EVT, .w1c, 0, .any⟩,
  ⟨RING_IE, .rw, 0, .any⟩,
  ⟨RING_DD_EVICT, .ro, 0, .any⟩,
  ⟨RING_LATE_NOTICE, .ro, 0, .any⟩,
  ⟨RING_UNREACH, .ro, 0, .any⟩,
  ⟨RING_SEQ_EVICT, .ro, 0, .any⟩]

/-- Ring-wide registers (Table 5.12). -/
def ringWideRegs : RegGroup :=
  ⟨0x2f000, 0x1000000, 1, 0x0, 0x800, 1, 0x800, ringWideRegsFields,
    fun _ _ _ => 0⟩

/-- Fields of the RING_MAP (Tables 5.12, 5.13). -/
def ringMapRegsFields : List FieldSpec := [
  ⟨RING_MAP0_FLAGS, .ro, 0, .any⟩,
  ⟨RING_MAP0_EPOCH, .ro, 0, .any⟩,
  ⟨RING_MAP0_HOPS_COPE, .ro, 0, .any⟩,
  ⟨RING_MAP0_HOPS_DRAG, .ro, 0, .any⟩,
  ⟨RING_MAP1_DELAY_COPE, .ro, 65535, .any⟩,
  ⟨RING_MAP1_DELAY_DRAG, .ro, 65535, .any⟩]

/-- RING_MAP (Tables 5.12, 5.13). -/
def ringMapRegs : RegGroup :=
  ⟨0x2f800, 0x1000000, 1, 0x0, 0x8, 254, 0x8, ringMapRegsFields,
    fun _ _ _ => 0⟩

/-- Fields of the MAC sets of Cope and Drag (Table 6.7). -/
def ringMacRegsFields0 : List FieldSpec := [
  ⟨MAC_MCTRL_TX_EN, .rw, 1, .any⟩,
  ⟨MAC_MCTRL_RX_EN, .rw, 1, .any⟩,
  ⟨MAC_MSTAT_LINK, .ro, 0, .any⟩,
  ⟨MAC_MSTAT_SPEED, .ro, 0, .any⟩,
  ⟨MAC_MSTAT_PAUSED, .ro, 0, .any⟩,
  ⟨MAC_MSTAT_REASM_OPEN, .ro, 0, .any⟩,
  ⟨MAC_PREEMPT_EN, .rw, 0, .any⟩,
  ⟨MAC_PREEMPT_VERIFY_DIS, .rw, 0, .any⟩,
  ⟨MAC_PREEMPT_ADD_FRAG, .rw, 0, .any⟩,
  ⟨MAC_PREEMPT_EXPRESS_TC, .rw, 192, .any⟩,
  ⟨MAC_PREEMPT_VERIFY_MS, .rw, 10, .range 1 128⟩,
  ⟨MAC_PREEMPT_VERIFY_LIMIT, .rw, 3, .range 1 15⟩,
  ⟨MAC_PSTAT_VERIFY_STATE, .ro, 0, .any⟩,
  ⟨MAC_PSTAT_ACTIVE, .ro, 0, .any⟩,
  ⟨MAC_PAUSE_RX_EN, .ro, 0, .any⟩,
  ⟨MAC_PAUSE_TX_EN, .ro, 0, .any⟩,
  ⟨MAC_PAUSE_TX_QUANTA, .rw, 65535, .range 1 65535⟩,
  ⟨MAC_PAUSE_MARK_XOFF_KIB, .rw, 48, .any⟩,
  ⟨MAC_PAUSE_MARK_XON_KIB, .rw, 24, .any⟩,
  ⟨MAC_PAUSE_TMR_REMAIN, .ro, 0, .any⟩,
  ⟨MAC_CEVT_HALF, .w1c, 0, .any⟩,
  ⟨MAC_CIE, .rw, 0, .any⟩,
  ⟨MAC_RX_GOOD, .ro, 0, .any⟩,
  ⟨MAC_RX_OCTETS, .ro, 0, .any⟩,
  ⟨MAC_TX_GOOD, .ro, 0, .any⟩,
  ⟨MAC_TX_OCTETS, .ro, 0, .any⟩,
  ⟨MAC_RUNT, .ro, 0, .any⟩,
  ⟨MAC_OVERSIZE, .ro, 0, .any⟩,
  ⟨MAC_FCS_ERR, .ro, 0, .any⟩,
  ⟨MAC_RX_NOBUF, .ro, 0, .any⟩,
  ⟨MAC_PAUSE_RX, .ro, 0, .any⟩,
  ⟨MAC_PAUSE_IGNORED, .ro, 0, .any⟩,
  ⟨MAC_PAUSE_TX, .ro, 0, .any⟩,
  ⟨MAC_CTRL_UNSUP, .ro, 0, .any⟩,
  ⟨MAC_TX_PADDED, .ro, 0, .any⟩,
  ⟨MAC_TX_REFUSED, .ro, 0, .any⟩,
  ⟨MAC_FRAG_TX, .ro, 0, .any⟩,
  ⟨MAC_FRAG_RX, .ro, 0, .any⟩,
  ⟨MAC_ASM_OK, .ro, 0, .any⟩,
  ⟨MAC_ASM_ERR, .ro, 0, .any⟩]

/-- Fields of the MAC sets of Cope and Drag (Table 6.7). -/
def ringMacRegsFields1 : List FieldSpec := [
  ⟨MAC_SMD_ERR, .ro, 0, .any⟩,
  ⟨MAC_VERIFY_TX, .ro, 0, .any⟩,
  ⟨MAC_RESPOND_TX, .ro, 0, .any⟩,
  ⟨MAC_TX_LINKDOWN, .ro, 0, .any⟩]

/-- MAC sets of Cope and Drag (Table 6.7). -/
def ringMacRegs : RegGroup :=
  ⟨0x21000, 0x10000, 2, 0x0, 0x1000, 1, 0x1000, ringMacRegsFields0 ++ ringMacRegsFields1,
    fun _ _ q => if q = 0x08 then 1 else 0⟩

/-- Fields of the MAC sets of LMAC0 to LMAC3 (Table 6.7). -/
def lmacRegsFields0 : List FieldSpec := [
  ⟨MAC_MCTRL_TX_EN, .rw, 1, .any⟩,
  ⟨MAC_MCTRL_RX_EN, .rw, 1, .any⟩,
  ⟨MAC_MSTAT_LINK, .ro, 0, .any⟩,
  ⟨MAC_MSTAT_SPEED, .ro, 0, .any⟩,
  ⟨MAC_MSTAT_PAUSED, .ro, 0, .any⟩,
  ⟨MAC_MSTAT_REASM_OPEN, .ro, 0, .any⟩,
  ⟨MAC_PREEMPT_EN, .rw, 0, .any⟩,
  ⟨MAC_PREEMPT_VERIFY_DIS, .rw, 0, .any⟩,
  ⟨MAC_PREEMPT_ADD_FRAG, .rw, 0, .any⟩,
  ⟨MAC_PREEMPT_EXPRESS_TC, .rw, 192, .any⟩,
  ⟨MAC_PREEMPT_VERIFY_MS, .rw, 10, .range 1 128⟩,
  ⟨MAC_PREEMPT_VERIFY_LIMIT, .rw, 3, .range 1 15⟩,
  ⟨MAC_PSTAT_VERIFY_STATE, .ro, 0, .any⟩,
  ⟨MAC_PSTAT_ACTIVE, .ro, 0, .any⟩,
  ⟨MAC_PAUSE_RX_EN, .rw, 0, .any⟩,
  ⟨MAC_PAUSE_TX_EN, .rw, 0, .any⟩,
  ⟨MAC_PAUSE_TX_QUANTA, .rw, 65535, .range 1 65535⟩,
  ⟨MAC_PAUSE_MARK_XOFF_KIB, .rw, 48, .any⟩,
  ⟨MAC_PAUSE_MARK_XON_KIB, .rw, 24, .any⟩,
  ⟨MAC_PAUSE_TMR_REMAIN, .ro, 0, .any⟩,
  ⟨MAC_CEVT_HALF, .w1c, 0, .any⟩,
  ⟨MAC_CIE, .rw, 0, .any⟩,
  ⟨LMAC_MAXFRM_BYTES, .rw, 1518, .range 1518 9216⟩,
  ⟨LMAC_USX_LINK, .ro, 0, .any⟩,
  ⟨LMAC_USX_SPEED, .ro, 0, .any⟩,
  ⟨LMAC_USX_DUPLEX_FULL, .ro, 0, .any⟩,
  ⟨LMAC_USX_AN_DONE, .ro, 0, .any⟩,
  ⟨LMAC_USX_AN_EN, .rw, 1, .any⟩,
  ⟨LMAC_USX_FORCE_SPEED, .rw, 5, .other 0 5 5⟩,
  ⟨MAC_RX_GOOD, .ro, 0, .any⟩,
  ⟨MAC_RX_OCTETS, .ro, 0, .any⟩,
  ⟨MAC_TX_GOOD, .ro, 0, .any⟩,
  ⟨MAC_TX_OCTETS, .ro, 0, .any⟩,
  ⟨MAC_RUNT, .ro, 0, .any⟩,
  ⟨MAC_OVERSIZE, .ro, 0, .any⟩,
  ⟨MAC_FCS_ERR, .ro, 0, .any⟩,
  ⟨MAC_RX_NOBUF, .ro, 0, .any⟩,
  ⟨MAC_PAUSE_RX, .ro, 0, .any⟩,
  ⟨MAC_PAUSE_IGNORED, .ro, 0, .any⟩,
  ⟨MAC_PAUSE_TX, .ro, 0, .any⟩]

/-- Fields of the MAC sets of LMAC0 to LMAC3 (Table 6.7). -/
def lmacRegsFields1 : List FieldSpec := [
  ⟨MAC_CTRL_UNSUP, .ro, 0, .any⟩,
  ⟨MAC_TX_PADDED, .ro, 0, .any⟩,
  ⟨MAC_TX_REFUSED, .ro, 0, .any⟩,
  ⟨MAC_FRAG_TX, .ro, 0, .any⟩,
  ⟨MAC_FRAG_RX, .ro, 0, .any⟩,
  ⟨MAC_ASM_OK, .ro, 0, .any⟩,
  ⟨MAC_ASM_ERR, .ro, 0, .any⟩,
  ⟨MAC_SMD_ERR, .ro, 0, .any⟩,
  ⟨MAC_VERIFY_TX, .ro, 0, .any⟩,
  ⟨MAC_RESPOND_TX, .ro, 0, .any⟩,
  ⟨MAC_TX_LINKDOWN, .ro, 0, .any⟩]

/-- MAC sets of LMAC0 to LMAC3 (Table 6.7). -/
def lmacRegs : RegGroup :=
  ⟨0x40000, 0x4000, 4, 0x0, 0x4000, 1, 0x4000, lmacRegsFields0 ++ lmacRegsFields1,
    fun _ _ q => if q = 0x10 then 1 else 0⟩

/-- Fields of the SCHED global registers (Table 7.7). -/
def schedRegsFields : List FieldSpec := [
  ⟨SCHED_PCP_MAP_MAP, .rw, 16434817, .any⟩,
  ⟨SCHED_TC_PCP_MAP, .rw, 16434817, .any⟩,
  ⟨SCHED_CLASSIFY_FAB_TC, .rw, 5, .any⟩,
  ⟨SCHED_CLASSIFY_UNTAG_TC, .rw, 0, .any⟩,
  ⟨SCHED_LMAC_DEF0_LMAC0, .rw, 1, .any⟩,
  ⟨SCHED_LMAC_DEF0_LMAC1, .rw, 2, .any⟩,
  ⟨SCHED_LMAC_DEF1_LMAC2, .rw, 3, .any⟩,
  ⟨SCHED_LMAC_DEF1_LMAC3, .rw, 4, .any⟩,
  ⟨SCHED_NOBUF, .ro, 0, .any⟩]

/-- SCHED global registers (Table 7.7). -/
def schedRegs : RegGroup :=
  ⟨0x80000, 0x1000000, 1, 0x0, 0x100, 1, 0x100, schedRegsFields,
    fun _ _ _ => 0⟩

/-- Fields of the SCHED_CTX_HALF k (Table 7.7). -/
def ctxHalfRegsFields : List FieldSpec := [
  ⟨SCHED_CTX_HALF_HALF, .w1c, 0, .any⟩]

/-- SCHED_CTX_HALF k (Table 7.7). -/
def ctxHalfRegs : RegGroup :=
  ⟨0x80800, 0x1000000, 1, 0x0, 0x4, 32, 0x4, ctxHalfRegsFields,
    fun _ _ _ => 0⟩

/-- Fields of the Per-port scheduler registers (Table 7.8). -/
def schedPortRegsFields : List FieldSpec := [
  ⟨SCHED_PCTRL_GATE_EN, .rw, 0, .any⟩,
  ⟨SCHED_PCTRL_PER_LEVEL, .rw, 0, .any⟩,
  ⟨SCHED_PCTRL_CONFIG_PENDING, .ro, 0, .any⟩,
  ⟨SCHED_PCTRL_SWAP_LATCHED, .ro, 0, .any⟩,
  ⟨SCHED_PCTRL_CONFIG_CHANGE, .wo, 0, .any⟩,
  ⟨SCHED_HOLD_ADV_NS, .rw, 0, .range 0 200000⟩,
  ⟨SCHED_ADMIN_BASE_NS_NS, .rw, 0, .range 0 999999999⟩,
  ⟨SCHED_ADMIN_BASE_SL_SEC_LO, .rw, 0, .any⟩,
  ⟨SCHED_ADMIN_BASE_SH_SEC_HI, .rw, 0, .any⟩,
  ⟨SCHED_ADMIN_CYCLE_NS, .rw, 1000000, .range 1000 1000000000⟩,
  ⟨SCHED_ADMIN_EXT_NS, .rw, 0, .range 0 1000000⟩,
  ⟨SCHED_ADMIN_LEN, .rw, 1, .range 1 256⟩,
  ⟨SCHED_OPER_CYCLE_NS, .ro, 1000000, .any⟩,
  ⟨SCHED_OPER_EXT_NS, .ro, 0, .any⟩,
  ⟨SCHED_OPER_LEN, .ro, 1, .any⟩,
  ⟨SCHED_SWAP_NS_NS, .ro, 0, .any⟩,
  ⟨SCHED_SWAP_SL_SEC_LO, .ro, 0, .any⟩,
  ⟨SCHED_SWAP_SH_SEC_HI, .ro, 0, .any⟩,
  ⟨SCHED_PCEVT, .w1c, 0, .any⟩,
  ⟨SCHED_PCIE, .rw, 0, .any⟩,
  ⟨TX_WINDOW_DROP, .ro, 0, .any⟩,
  ⟨SCHED_SWAPS, .ro, 0, .any⟩,
  ⟨SCHED_GCL_WDROP, .ro, 0, .any⟩,
  ⟨SCHED_HOLDS, .ro, 0, .any⟩]

/-- Per-port scheduler registers (Table 7.8). -/
def schedPortRegs : RegGroup :=
  ⟨0x80100, 0x1000000, 1, 0x0, 0x80, 6, 0x80, schedPortRegsFields,
    fun _ _ _ => 0⟩

/-- Fields of the Admin gate lists (Table 7.8). -/
def gclAdminRegsFields : List FieldSpec := [
  ⟨GCL_GATES_GATES, .rw, 0, .any⟩,
  ⟨GCL_INTERVAL_INTERVAL, .rw, 0, .range 10 1000000000⟩]

/-- Admin gate lists (Table 7.8). -/
def gclAdminRegs : RegGroup :=
  ⟨0x81000, 0x1000, 6, 0x0, 0x8, 256, 0x8, gclAdminRegsFields,
    fun _ j q => gclReset j q⟩

/-- Fields of the Oper gate lists (Table 7.8). -/
def gclOperRegsFields : List FieldSpec := [
  ⟨GCL_GATES_GATES, .ro, 0, .any⟩,
  ⟨GCL_INTERVAL_INTERVAL, .ro, 0, .range 10 1000000000⟩]

/-- Oper gate lists (Table 7.8). -/
def gclOperRegs : RegGroup :=
  ⟨0x81000, 0x1000, 6, 0x800, 0x8, 256, 0x8, gclOperRegsFields,
    fun _ j q => gclReset j q⟩

/-- Fields of the SCHED_TXD n (Table 7.8). -/
def txdRegsFields : List FieldSpec := [
  ⟨SCHED_TXD_ADDR_OFFSET, .rw, 0, .any⟩,
  ⟨SCHED_TXD_CMD_LEN, .wo, 0, .any⟩,
  ⟨SCHED_TXD_CMD_PRE_YELLOW, .wo, 0, .any⟩]

/-- SCHED_TXD n (Table 7.8). -/
def txdRegs : RegGroup :=
  ⟨0x88000, 0x1000000, 1, 0x0, 0x8, 1024, 0x8, txdRegsFields,
    fun _ _ _ => 0⟩

/-- Fields of the Stream context records (Table 7.9). -/
def ctxRegsFields : List FieldSpec := [
  ⟨CTX_CTRL_EN, .rw, 0, .any⟩,
  ⟨CTX_CTRL_SPLIT, .rwl, 0, .any⟩,
  ⟨CTX_CTRL_FAST, .rwl, 0, .any⟩,
  ⟨CTX_CTRL_DIR_DRAG, .rwl, 0, .any⟩,
  ⟨CTX_CTRL_TC, .rwl, 0, .any⟩,
  ⟨CTX_CTRL_TAG, .rwl, 0, .any⟩,
  ⟨CTX_CTRL_PORTS, .rwl, 0, .any⟩,
  ⟨CTX_CTRL_FILTER, .rwl, 0, .any⟩,
  ⟨CTX_CTRL_WEIGHT, .rw, 1, .range 1 255⟩,
  ⟨CTX_VLAN_VID, .rwl, 0, .any⟩,
  ⟨CTX_QCFG_QDEPTH, .rw, 0, .range 1 256⟩,
  ⟨CTX_CIR_KBPS, .rw, 0, .any⟩,
  ⟨CTX_PIR_KBPS, .rw, 0, .any⟩,
  ⟨CTX_BURST_CBS, .rw, 0, .any⟩,
  ⟨CTX_BURST_PBS, .rw, 0, .any⟩,
  ⟨CTX_MCFG_METER_EN, .rw, 0, .any⟩,
  ⟨CTX_MCFG_COLOUR_AWARE, .rw, 0, .any⟩,
  ⟨CTX_MCFG_YELLOW_ACT, .rw, 0, .any⟩,
  ⟨CTX_MCFG_RED_BLOCK, .rw, 0, .any⟩,
  ⟨CTX_MCFG_BLOCKED, .w1c, 0, .any⟩,
  ⟨CTX_STAT_QLEVEL, .ro, 0, .any⟩,
  ⟨CTX_STAT_LAST_ENQ, .ro, 0, .any⟩,
  ⟨CTX_SEQ_ENQ_SEQ, .ro, 0, .any⟩,
  ⟨CTX_SEQ_HSR_SEQ, .ro, 0, .any⟩,
  ⟨CTX_TX_FRAMES, .ro, 0, .any⟩,
  ⟨CTX_TX_OCTETS, .ro, 0, .any⟩,
  ⟨CTX_ENQ_REFUSED, .ro, 0, .any⟩,
  ⟨CTX_YELLOW, .ro, 0, .any⟩,
  ⟨CTX_RED, .ro, 0, .any⟩,
  ⟨CTX_WINDOW_DROP, .ro, 0, .any⟩,
  ⟨CTX_FLUSHED, .ro, 0, .any⟩]

/-- Stream context records (Table 7.9). -/
def ctxRegs : RegGroup :=
  ⟨0x90000, 0x1000000, 1, 0x0, 0x40, 1024, 0x40, ctxRegsFields,
    fun _ j q => ctxReset j q⟩

/-- Fields of the LEDGER block (Table 9.13). -/
def ledgerRegsFields : List FieldSpec := [
  ⟨LEDGER_CTRL_EN, .rw, 1, .any⟩,
  ⟨LEDGER_CFG_HORIZON_US, .rw, 20, .range 2 10000⟩,
  ⟨LEDGER_CFG_WM_INT_US, .rw, 10, .range 1 10⟩,
  ⟨LEDGER_FAST_INGOTS, .rwl, 16, .any⟩,
  ⟨LEDGER_ETYPE_ETYPE, .rwl, 34998, .any⟩,
  ⟨LEDGER_STAT_HOLD_LVL, .ro, 0, .any⟩,
  ⟨LEDGER_STAT_ANY_LAGGING, .ro, 0, .any⟩,
  ⟨LEDGER_EVT, .w1c, 0, .any⟩,
  ⟨LEDGER_IE, .rw, 0, .any⟩,
  ⟨LEDGER_ORD_POS_LO, .ro, 0, .any⟩,
  ⟨LEDGER_ORD_POS_HI, .ro, 0, .any⟩,
  ⟨LEDGER_FAST_POS_LO, .ro, 0, .any⟩,
  ⟨LEDGER_FAST_POS_HI, .ro, 0, .any⟩,
  ⟨LEDGER_ORD_CAP_RECORDS, .ro, 229376, .any⟩,
  ⟨LEDGER_FAST_CAP_RECORDS, .ro, 32768, .any⟩,
  ⟨LEDGER_FRONTIER_NS_NS, .ro, 0, .any⟩,
  ⟨LEDGER_FRONTIER_SL_SEC_LO, .ro, 0, .any⟩,
  ⟨LEDGER_FRONTIER_SH_SEC_HI, .ro, 0, .any⟩,
  ⟨LEDGER_RELEASED, .ro, 0, .any⟩,
  ⟨LEDGER_FAST_RX, .ro, 0, .any⟩,
  ⟨LEDGER_LATE, .ro, 0, .any⟩,
  ⟨LEDGER_FORCED, .ro, 0, .any⟩,
  ⟨LEDGER_HOLD_FULL, .ro, 0, .any⟩,
  ⟨LEDGER_GAP, .ro, 0, .any⟩,
  ⟨LEDGER_DUP, .ro, 0, .any⟩,
  ⟨LEDGER_BEFORE_START, .ro, 0, .any⟩,
  ⟨LEDGER_BAD_FRAME, .ro, 0, .any⟩,
  ⟨LEDGER_FLUSHED, .ro, 0, .any⟩,
  ⟨LEDGER_TRIG_FIRED, .ro, 0, .any⟩,
  ⟨LEDGER_TRIG_LATE, .ro, 0, .any⟩,
  ⟨LEDGER_TRIG_MISS, .ro, 0, .any⟩]

/-- LEDGER block (Table 9.13). -/
def ledgerRegs : RegGroup :=
  ⟨0xa0000, 0x1000000, 1, 0x0, 0x400, 1, 0x400, ledgerRegsFields,
    fun _ _ _ => 0⟩

/-- Fields of the LEDGER_PUB c (Table 9.13). -/
def ledgerPubRegsFields : List FieldSpec := [
  ⟨LEDGER_PUB_PUB_CTX, .rw, 0, .holes 1 4 0⟩,
  ⟨LEDGER_PUB_LOCAL_FAST, .rw, 0, .any⟩]

/-- LEDGER_PUB c (Table 9.13). -/
def ledgerPubRegs : RegGroup :=
  ⟨0xa0400, 0x1000000, 1, 0x0, 0x4, 256, 0x4, ledgerPubRegsFields,
    fun _ _ _ => 0⟩

/-- Fields of the LEDGER_LAG c (Table 9.13). -/
def ledgerLagRegsFields : List FieldSpec := [
  ⟨LEDGER_LAG_LAG_NS, .ro, 0, .any⟩]

/-- LEDGER_LAG c (Table 9.13). -/
def ledgerLagRegs : RegGroup :=
  ⟨0xa0800, 0x1000000, 1, 0x0, 0x4, 256, 0x4, ledgerLagRegsFields,
    fun _ c _ => lagReset c⟩

/-- Fields of the Subscription registers (Table 9.13). -/
def subRegsFields : List FieldSpec := [
  ⟨SUB_CFG_NODE, .ro, 0, .any⟩,
  ⟨SUB_CFG_SOURCE, .ro, 0, .any⟩,
  ⟨SUB_CFG_IN_USE, .ro, 0, .any⟩,
  ⟨SUB_CFG_ACTIVE, .ro, 0, .any⟩,
  ⟨SUB_CFG_LAGGING, .ro, 0, .any⟩,
  ⟨SUB_CFG_FAST, .ro, 0, .any⟩,
  ⟨SUB_START_NS_NS, .ro, 0, .any⟩,
  ⟨SUB_START_SL_SEC_LO, .ro, 0, .any⟩,
  ⟨SUB_START_SH_SEC_HI, .ro, 0, .any⟩,
  ⟨SUB_END_NS_NS, .ro, 0, .any⟩,
  ⟨SUB_END_SL_SEC_LO, .ro, 0, .any⟩,
  ⟨SUB_END_SH_SEC_HI, .ro, 0, .any⟩,
  ⟨SUB_WM_WM, .ro, 0, .any⟩]

/-- Subscription registers (Table 9.13). -/
def subRegs : RegGroup :=
  ⟨0xa0000, 0x1000000, 1, 0x1000, 0x20, 256, 0x20, subRegsFields,
    fun _ _ _ => 0⟩

/-- Fields of the Trigger registers (Table 9.13). -/
def trigRegsFields : List FieldSpec := [
  ⟨TRIG_MATCH0_NODE, .rwl, 0, .any⟩,
  ⟨TRIG_MATCH0_TYPE, .rwl, 0, .any⟩,
  ⟨TRIG_MATCH0_UNIT, .rwl, 65535, .any⟩,
  ⟨TRIG_MATCH1_BYTE, .rwl, 0, .range 0 11⟩,
  ⟨TRIG_MATCH1_MASK, .rwl, 0, .any⟩,
  ⟨TRIG_MATCH1_VALUE, .rwl, 0, .any⟩,
  ⟨TRIG_MATCH1_EN, .rw, 0, .any⟩,
  ⟨TRIG_DELAY_NS, .rwl, 10000, .range 10000 4294967295⟩,
  ⟨TRIG_N_N, .rwl, 1, .range 1 8⟩]

/-- Trigger registers (Table 9.13). -/
def trigRegs : RegGroup :=
  ⟨0xa0000, 0x1000000, 1, 0x3000, 0x80, 32, 0x10, trigRegsFields,
    fun _ _ _ => 0⟩

/-- Fields of the TRIG_WR t k (Table 9.13). -/
def trigWrRegsFields : List FieldSpec := [
  ⟨TRIG_WR_OFFSET_OFFSET, .rwl, 0, .any⟩,
  ⟨TRIG_WR_VALUE, .rwl, 0, .any⟩]

/-- TRIG_WR t k (Table 9.13). -/
def trigWrRegs : RegGroup :=
  ⟨0xa3010, 0x80, 32, 0x0, 0x8, 8, 0x8, trigWrRegsFields,
    fun _ _ _ => 0⟩

/-- Fields of the PIMG block (Table 9.14). -/
def pimgRegsFields : List FieldSpec := [
  ⟨PIMG_CTRL_EN, .rw, 1, .any⟩,
  ⟨PIMG_CFG_SLOTS, .ro, 16384, .any⟩,
  ⟨PIMG_MAP_SEL_SLOT, .rw, 0, .any⟩,
  ⟨PIMG_MAP_W0, .rw, 0, .any⟩,
  ⟨PIMG_MAP_W1, .rw, 0, .any⟩,
  ⟨PIMG_MAP_W2, .rw, 0, .any⟩,
  ⟨PIMG_MAP_W3, .rw, 0, .any⟩,
  ⟨PIMG_EVT, .w1c, 0, .any⟩,
  ⟨PIMG_IE, .rw, 0, .any⟩,
  ⟨PIMG_WRITES, .ro, 0, .any⟩,
  ⟨PIMG_OVERWRITES, .ro, 0, .any⟩,
  ⟨PIMG_PUB_TX, .ro, 0, .any⟩,
  ⟨PIMG_PUB_REFUSED, .ro, 0, .any⟩,
  ⟨PIMG_MIRROR_RX, .ro, 0, .any⟩,
  ⟨PIMG_MIRROR_OLD, .ro, 0, .any⟩,
  ⟨PIMG_STALE, .ro, 0, .any⟩]

/-- PIMG block (Table 9.14). -/
def pimgRegs : RegGroup :=
  ⟨0xb0000, 0x1000000, 1, 0x0, 0x10000, 1, 0x10000, pimgRegsFields,
    fun _ _ _ => 0⟩

/-- Fields of the CAN controller registers (Table 11.11). -/
def canRegsFields0 : List FieldSpec := [
  ⟨CAN_CTRL_EN, .rw, 0, .any⟩,
  ⟨CAN_CTRL_FMT, .rwl, 3, .any⟩,
  ⟨CAN_CTRL_MODE, .rwl, 0, .any⟩,
  ⟨CAN_CTRL_STAMP_AT, .rwl, 0, .any⟩,
  ⟨CAN_CTRL_BUSOFF_MANUAL, .rw, 0, .any⟩,
  ⟨CAN_CTRL_RECOVER, .w1s, 0, .any⟩,
  ⟨CAN_CTRL_PAIR_HOLD, .rw, 1, .any⟩,
  ⟨CAN_CTRL_FSET, .rw, 0, .any⟩,
  ⟨CAN_CTRL_DEF_ACCEPT, .rw, 1, .any⟩,
  ⟨CAN_CTRL_DEF_LEDGER, .rw, 0, .any⟩,
  ⟨CAN_CTRL_TX_LEDGER, .rw, 0, .any⟩,
  ⟨CAN_STAT_ESTATE, .ro, 0, .any⟩,
  ⟨CAN_STAT_INTEGRATING, .ro, 0, .any⟩,
  ⟨CAN_STAT_HELD, .ro, 0, .any⟩,
  ⟨CAN_STAT_RECOVERING, .ro, 0, .any⟩,
  ⟨CAN_STAT_TX_ACTIVE, .ro, 0, .any⟩,
  ⟨CAN_STAT_RX_ACTIVE, .ro, 0, .any⟩,
  ⟨CAN_ECNT_TEC, .ro, 0, .any⟩,
  ⟨CAN_ECNT_REC, .ro, 0, .any⟩,
  ⟨CAN_BTIM_NOM_BRP, .rwl, 0, .any⟩,
  ⟨CAN_BTIM_NOM_TSEG1, .rwl, 126, .any⟩,
  ⟨CAN_BTIM_NOM_TSEG2, .rwl, 31, .any⟩,
  ⟨CAN_BTIM_NOM_SJW, .rwl, 31, .any⟩,
  ⟨CAN_BTIM_DATA_BRP, .rwl, 0, .any⟩,
  ⟨CAN_BTIM_DATA_TSEG1, .rwl, 28, .any⟩,
  ⟨CAN_BTIM_DATA_TSEG2, .rwl, 9, .any⟩,
  ⟨CAN_BTIM_DATA_SJW, .rwl, 9, .any⟩,
  ⟨CAN_BTIM_XL_BRP, .rwl, 0, .any⟩,
  ⟨CAN_BTIM_XL_TSEG1, .rwl, 4, .any⟩,
  ⟨CAN_BTIM_XL_TSEG2, .rwl, 1, .any⟩,
  ⟨CAN_BTIM_XL_SJW, .rwl, 1, .any⟩,
  ⟨CAN_TDC_EN, .rwl, 1, .any⟩,
  ⟨CAN_TDC_TDCO, .rwl, 30, .any⟩,
  ⟨CAN_TDC_TDCF, .rwl, 0, .any⟩,
  ⟨CAN_TDC_TDCV, .ro, 0, .any⟩,
  ⟨CAN_XLCFG_PWMS, .rwl, 2, .any⟩,
  ⟨CAN_XLCFG_FAST, .rwl, 1, .any⟩,
  ⟨CAN_XLCFG_PWML, .rwl, 6, .any⟩,
  ⟨CAN_XLCFG_PWMO, .rwl, 0, .any⟩,
  ⟨CAN_XLCFG_TDCO_XL, .rwl, 6, .any⟩]

/-- Fields of the CAN controller registers (Table 11.11). -/
def canRegsFields1 : List FieldSpec := [
  ⟨CAN_STORE_SLOT, .rwl, 0, .any⟩,
  ⟨CAN_STORE_TXN, .rwl, 32, .any⟩,
  ⟨CAN_STORE_RXN, .rwl, 128, .any⟩,
  ⟨CAN_REGION_OFFSET, .ro, 0, .any⟩,
  ⟨CAN_PAIRCFG_PCH, .ro, 0, .any⟩,
  ⟨CAN_PAIRCFG_SETTLE_MS, .rw, 50, .range 0 1000⟩,
  ⟨CAN_TREF_CTRL_EN, .rw, 0, .any⟩,
  ⟨CAN_TREF_CTRL_FORMAT, .rw, 0, .any⟩,
  ⟨CAN_TREF_ID_ID, .rw, 0, .any⟩,
  ⟨CAN_TREF_ID_IDE, .rw, 0, .any⟩,
  ⟨CAN_TREF_PERIOD_US, .rw, 1000, .range 100 1000000⟩,
  ⟨CAN_TREF_CYCLE_CYCLE, .ro, 0, .any⟩,
  ⟨CAN_EVT, .w1c, 0, .any⟩,
  ⟨CAN_IE, .rw, 0, .any⟩,
  ⟨CAN_QSTAT_RXQ_LVL, .ro, 0, .any⟩,
  ⟨CAN_QSTAT_TXEQ_LVL, .ro, 0, .any⟩,
  ⟨CAN_TXPEND_PEND, .ro, 0, .any⟩,
  ⟨CAN_FLT_SRC_OFFSET, .rw, 0, .any⟩,
  ⟨CAN_FLT_CMD_SET, .wo, 0, .any⟩,
  ⟨CAN_FLT_CMD_COUNT, .wo, 0, .any⟩,
  ⟨CAN_FLT_CMD_GO, .wo, 0, .any⟩,
  ⟨CAN_RX_FRAMES, .ro, 0, .any⟩,
  ⟨CAN_TX_FRAMES, .ro, 0, .any⟩,
  ⟨CAN_REJECTED, .ro, 0, .any⟩,
  ⟨CAN_RXQ_OVF, .ro, 0, .any⟩,
  ⟨CAN_RX_TOOLONG, .ro, 0, .any⟩,
  ⟨CAN_TXEQ_OVF, .ro, 0, .any⟩,
  ⟨CAN_TX_REFUSED, .ro, 0, .any⟩,
  ⟨CAN_ARB_LOST, .ro, 0, .any⟩,
  ⟨CAN_ERR_BIT, .ro, 0, .any⟩,
  ⟨CAN_ERR_STUFF, .ro, 0, .any⟩,
  ⟨CAN_ERR_FORM, .ro, 0, .any⟩,
  ⟨CAN_ERR_ACK, .ro, 0, .any⟩,
  ⟨CAN_ERR_CRC, .ro, 0, .any⟩,
  ⟨CAN_BUSOFF, .ro, 0, .any⟩,
  ⟨CAN_TREF_MISS, .ro, 0, .any⟩,
  ⟨CAN_RXQ_FLUSHED, .ro, 0, .any⟩,
  ⟨CAN_TXEQ_POP, .ro, 0, .any⟩,
  ⟨CAN_ISUM_SUM, .ro, 0, .any⟩]

/-- CAN controller registers (Table 11.11). -/
def canRegs : RegGroup :=
  ⟨0x100000, 0x1000, 64, 0x0, 0x1000, 1, 0x1000, canRegsFields0 ++ canRegsFields1,
    fun i _ q => if q = 0x028 then 0x01110000 + 0x20000 * i else if q = 0x02C then i else 0⟩

/-- Fields of the CAN transmit buffer registers (Table 11.11). -/
def canTxbRegsFields : List FieldSpec := [
  ⟨CAN_TXB_ID_ID, .rw, 0, .any⟩,
  ⟨CAN_TXB_ID_IDE, .rw, 0, .any⟩,
  ⟨CAN_TXB_ID_RTR, .rw, 0, .any⟩,
  ⟨CAN_TXB_FMT_FORMAT, .rw, 0, .any⟩,
  ⟨CAN_TXB_FMT_BRS, .rw, 0, .any⟩,
  ⟨CAN_TXB_FMT_ONE_SHOT, .rw, 0, .any⟩,
  ⟨CAN_TXB_FMT_TT, .rw, 0, .any⟩,
  ⟨CAN_TXB_FMT_SEC, .rw, 0, .any⟩,
  ⟨CAN_TXB_FMT_SDT, .rw, 0, .any⟩,
  ⟨CAN_TXB_FMT_VCID, .rw, 0, .any⟩,
  ⟨CAN_TXB_LEN_LEN, .rw, 0, .any⟩,
  ⟨CAN_TXB_AF_AF, .rw, 0, .any⟩,
  ⟨CAN_TXB_AT_NS_NS, .rw, 0, .any⟩,
  ⟨CAN_TXB_AT_SL_SEC_LO, .rw, 0, .any⟩,
  ⟨CAN_TXB_AT_SH_SEC_HI, .rw, 0, .any⟩,
  ⟨CAN_TXB_SRC_OFFSET, .rw, 0, .any⟩,
  ⟨CAN_TXB_CMD_SUBMIT, .wo, 0, .any⟩,
  ⟨CAN_TXB_CMD_CANCEL, .wo, 0, .any⟩,
  ⟨CAN_TXB_STAT_STATE, .ro, 0, .any⟩,
  ⟨CAN_TXB_STAT_RESULT, .ro, 0, .any⟩,
  ⟨CAN_TXB_STAT_CANCEL_LATE, .ro, 0, .any⟩,
  ⟨CAN_TXB_STAT_TT_LATE, .ro, 0, .any⟩,
  ⟨CAN_TXB_STAT_FENCED, .ro, 0, .any⟩,
  ⟨CAN_TXB_STAT_SUBMITS, .ro, 0, .any⟩,
  ⟨CAN_TXB_STAMP_STAMP, .ro, 0, .any⟩]

/-- CAN transmit buffer registers (Table 11.11). -/
def canTxbRegs : RegGroup :=
  ⟨0x100000, 0x1000, 64, 0x100, 0x40, 32, 0x40, canTxbRegsFields,
    fun _ _ _ => 0⟩

/-- Fields of the CAN_RXMAP m (Table 11.11). -/
def canRxmapRegsFields : List FieldSpec := [
  ⟨CAN_RXMAP0_ELEM, .rw, 0, .any⟩,
  ⟨CAN_RXMAP0_SET, .rw, 0, .any⟩,
  ⟨CAN_RXMAP0_EN, .rw, 0, .any⟩,
  ⟨CAN_RXMAP0_OFS, .rw, 0, .any⟩,
  ⟨CAN_RXMAP1_LEN, .rw, 1, .range 1 48⟩]

/-- CAN_RXMAP m (Table 11.11). -/
def canRxmapRegs : RegGroup :=
  ⟨0x100000, 0x1000, 64, 0x900, 0x8, 32, 0x8, canRxmapRegsFields,
    fun _ _ _ => 0⟩

/-- Fields of the CAN_TXMAP t (Table 11.11). -/
def canTxmapRegsFields : List FieldSpec := [
  ⟨CAN_TXMAP0_BUF, .rw, 0, .any⟩,
  ⟨CAN_TXMAP0_EN, .rw, 0, .any⟩,
  ⟨CAN_TXMAP0_OFS, .rw, 0, .any⟩,
  ⟨CAN_TXMAP1_LEN, .rw, 1, .range 1 48⟩,
  ⟨CAN_TXMAP1_MODE, .rw, 0, .any⟩,
  ⟨CAN_TXMAP2_PERIOD_US, .rw, 1000, .range 100 1000000⟩]

/-- CAN_TXMAP t (Table 11.11). -/
def canTxmapRegs : RegGroup :=
  ⟨0x100000, 0x1000, 64, 0xa00, 0x10, 16, 0x10, canTxmapRegsFields,
    fun _ _ _ => 0⟩

/-- Fields of the Flask registers (Table 12.10). -/
def flaskRegsFields : List FieldSpec := [
  ⟨FLASK_RUN_RUNNING, .ro, 0, .any⟩,
  ⟨FLASK_RUN_STALLED, .ro, 0, .any⟩,
  ⟨FLASK_RUN_ARMED, .ro, 0, .any⟩,
  ⟨FLASK_GO_START, .wo, 0, .any⟩,
  ⟨FLASK_GO_STOP, .wo, 0, .any⟩,
  ⟨FLASK_GO_SAFE, .wo, 0, .any⟩,
  ⟨FLASK_GO_RESTART, .wo, 0, .any⟩,
  ⟨FLASK_TALLY_T0, .ro, 0, .any⟩,
  ⟨FLASK_TALLY_T1, .ro, 0, .any⟩,
  ⟨FLASK_TALLY_T2, .ro, 0, .any⟩,
  ⟨FLASK_TALLY_T3, .ro, 0, .any⟩,
  ⟨FLASK_TALLY_T4, .ro, 0, .any⟩,
  ⟨FLASK_TALLY_T5, .ro, 0, .any⟩,
  ⟨FLASK_TALLY_T6, .ro, 0, .any⟩,
  ⟨FLASK_TALLY_T7, .ro, 0, .any⟩,
  ⟨FLASK_EVT, .w1c, 0, .any⟩,
  ⟨FLASK_IE, .rw, 0, .any⟩,
  ⟨FLASK_PMEM_ADDR_ADDR, .rw, 0, .any⟩,
  ⟨FLASK_PMEM_DATA, .ro, 0, .any⟩,
  ⟨FLASK_TALLY_CMD_POST, .wo, 0, .any⟩,
  ⟨FLASK_TALLY_CMD_CLR, .wo, 0, .any⟩,
  ⟨FLASK_PLOAD_SRC_OFFSET, .rw, 0, .any⟩,
  ⟨FLASK_PLOAD_CMD_DEST, .wo, 0, .any⟩,
  ⟨FLASK_PLOAD_CMD_MASK, .wo, 0, .any⟩,
  ⟨FLASK_PLOAD_CMD_SRC_KIND, .wo, 0, .any⟩,
  ⟨FLASK_PLOAD_CMD_FLUSH_Q, .wo, 0, .any⟩,
  ⟨FLASK_PLOAD_CMD_CONFIGURE, .wo, 0, .any⟩,
  ⟨FLASK_PLOAD_CMD_GO, .wo, 0, .any⟩,
  ⟨FLASK_PLOAD_STAT_RESULT, .ro, 0, .any⟩,
  ⟨FLASK_PLOAD_STAT_BUSY, .ro, 0, .any⟩,
  ⟨FLASK_PIN_CLASH, .ro, 0, .any⟩,
  ⟨FLASK_LOADS, .ro, 0, .any⟩,
  ⟨FLASK_TALLY_SAT, .ro, 0, .any⟩,
  ⟨FLASK_ISUM_SUM, .ro, 0, .any⟩]

/-- Flask registers (Table 12.10). -/
def flaskRegs : RegGroup :=
  ⟨0x200000, 0x1000, 8, 0x0, 0x1000, 1, 0x1000, flaskRegsFields,
    fun _ _ _ => 0⟩

/-- Fields of the FLASK_PIN p (Table 12.10). -/
def flaskPinRegsFields : List FieldSpec := [
  ⟨FLASK_PIN_SAFE, .rw, 0, .any⟩,
  ⟨FLASK_PIN_DIR, .ro, 0, .any⟩,
  ⟨FLASK_PIN_LEVEL, .ro, 0, .any⟩,
  ⟨FLASK_PIN_OUT, .ro, 0, .any⟩,
  ⟨FLASK_PIN_PULL, .rw, 0, .any⟩]

/-- FLASK_PIN p (Table 12.10). -/
def flaskPinRegs : RegGroup :=
  ⟨0x200000, 0x1000, 8, 0x40, 0x4, 16, 0x4, flaskPinRegsFields,
    fun _ _ _ => 0⟩

/-- Fields of the FLASK_RXQ_POP e (Table 12.10). -/
def flaskRxqRegsFields : List FieldSpec := [
  ⟨FLASK_RXQ_POP, .ro, 0, .any⟩]

/-- FLASK_RXQ_POP e (Table 12.10). -/
def flaskRxqRegs : RegGroup :=
  ⟨0x200000, 0x1000, 8, 0x100, 0x4, 8, 0x4, flaskRxqRegsFields,
    fun _ _ _ => 0⟩

/-- Fields of the FLASK_TXQ_PUSH e (Table 12.10). -/
def flaskTxqRegsFields : List FieldSpec := [
  ⟨FLASK_TXQ_PUSH, .wo, 0, .any⟩]

/-- FLASK_TXQ_PUSH e (Table 12.10). -/
def flaskTxqRegs : RegGroup :=
  ⟨0x200000, 0x1000, 8, 0x120, 0x4, 8, 0x4, flaskTxqRegsFields,
    fun _ _ _ => 0⟩

/-- Fields of the Flask engine sets (Table 12.10). -/
def ecRegsFields : List FieldSpec := [
  ⟨EC_CLK_DIV, .rwl, 0, .any⟩,
  ⟨EC_PROG_ENTRY, .rwl, 0, .any⟩,
  ⟨EC_PROG_LOW, .rwl, 0, .any⟩,
  ⟨EC_PROG_HIGH, .rwl, 1023, .any⟩,
  ⟨EC_PROG_LOADED, .ro, 0, .any⟩,
  ⟨EC_STREAM_TX_LSB, .rwl, 1, .any⟩,
  ⟨EC_STREAM_RX_LSB, .rwl, 1, .any⟩,
  ⟨EC_STREAM_TXW, .rwl, 2, .any⟩,
  ⟨EC_STREAM_TXSRC, .rwl, 0, .any⟩,
  ⟨EC_STREAM_RX_DISCARD, .rwl, 0, .any⟩,
  ⟨EC_STREAM_RXDEST, .rwl, 1, .any⟩,
  ⟨EC_LANES_PIN, .rwl, 1985229328, .any⟩,
  ⟨EC_STAT_PC, .ro, 0, .any⟩,
  ⟨EC_STAT_STALL_KIND, .ro, 0, .any⟩,
  ⟨EC_STAT_TDN, .ro, 0, .any⟩,
  ⟨EC_STAT_RAN, .ro, 0, .any⟩,
  ⟨EC_W0, .ro, 0, .any⟩,
  ⟨EC_W1, .ro, 0, .any⟩,
  ⟨EC_W2, .ro, 0, .any⟩,
  ⟨EC_W3, .ro, 0, .any⟩,
  ⟨EC_K_K0, .ro, 0, .any⟩,
  ⟨EC_K_K1, .ro, 0, .any⟩,
  ⟨EC_TD, .ro, 0, .any⟩,
  ⟨EC_RA, .ro, 0, .any⟩,
  ⟨EC_Q_TXQ_LVL, .ro, 0, .any⟩,
  ⟨EC_Q_RXQ_LVL, .ro, 0, .any⟩,
  ⟨EC_STOP_STOP_CAUSE, .ro, 0, .any⟩,
  ⟨EC_STOP_STOP_PC, .ro, 0, .any⟩,
  ⟨EC_LSTATE_DIR, .ro, 0, .any⟩,
  ⟨EC_LSTATE_LATCH, .ro, 0, .any⟩,
  ⟨EC_LSTATE_LEVEL, .ro, 0, .any⟩]

/-- Flask engine sets (Table 12.10). -/
def ecRegs : RegGroup :=
  ⟨0x200000, 0x1000, 8, 0x200, 0x40, 8, 0x40, ecRegsFields,
    fun _ _ _ => 0⟩

/-- Fields of the Flask engine counters (Table 12.10). -/
def ecCntRegsFields : List FieldSpec := [
  ⟨EC_RXQ_DROP, .ro, 0, .any⟩,
  ⟨EC_TXQ_DROP, .ro, 0, .any⟩,
  ⟨EC_AT_LATE, .ro, 0, .any⟩,
  ⟨EC_WORDS, .ro, 0, .any⟩]

/-- Flask engine counters (Table 12.10). -/
def ecCntRegs : RegGroup :=
  ⟨0x200000, 0x1000, 8, 0x400, 0x10, 8, 0x10, ecCntRegsFields,
    fun _ _ _ => 0⟩

/-- Fields of the DIO bank registers (Table 13.8). -/
def dioRegsFields : List FieldSpec := [
  ⟨DIO_BSTAT_VSEL, .ro, 0, .any⟩,
  ⟨DIO_IN0_LEVEL, .ro, 0, .any⟩,
  ⟨DIO_IN1_LEVEL, .ro, 0, .any⟩,
  ⟨DIO_RAW0_LEVEL, .ro, 0, .any⟩,
  ⟨DIO_RAW1_LEVEL, .ro, 0, .any⟩,
  ⟨DIO_OUT0_LATCH, .rw, 0, .any⟩,
  ⟨DIO_OUT1_LATCH, .rw, 0, .any⟩,
  ⟨DIO_OUT_SET0_SET, .wo, 0, .any⟩,
  ⟨DIO_OUT_SET1_SET, .wo, 0, .any⟩,
  ⟨DIO_OUT_CLR0_CLR, .wo, 0, .any⟩,
  ⟨DIO_OUT_CLR1_CLR, .wo, 0, .any⟩,
  ⟨DIO_OUT_TGL0_TGL, .wo, 0, .any⟩,
  ⟨DIO_OUT_TGL1_TGL, .wo, 0, .any⟩,
  ⟨DIO_EVT, .w1c, 0, .any⟩,
  ⟨DIO_IE, .rw, 0, .any⟩,
  ⟨DIO_QSTAT_EVQ_LVL, .ro, 0, .any⟩,
  ⟨DIO_QSTAT_SCHED_LVL, .ro, 0, .any⟩,
  ⟨DIO_SCHED_AT_NS_NS, .rw, 0, .any⟩,
  ⟨DIO_SCHED_AT_SL_SEC_LO, .rw, 0, .any⟩,
  ⟨DIO_SCHED_AT_SH_SEC_HI, .rw, 0, .any⟩,
  ⟨DIO_SCHED_CMD_LINE, .wo, 0, .any⟩,
  ⟨DIO_SCHED_CMD_ACTION, .wo, 0, .any⟩,
  ⟨DIO_SCHED_CMD_VALID_ONLY, .wo, 0, .any⟩,
  ⟨DIO_SCHED_CMD_GO, .wo, 0, .any⟩,
  ⟨DIO_SCHED_STAT_RESULT, .ro, 0, .any⟩,
  ⟨DIO_SCHED_STAT_ID, .ro, 0, .any⟩,
  ⟨DIO_EDGES, .ro, 0, .any⟩,
  ⟨DIO_REJECTED, .ro, 0, .any⟩,
  ⟨DIO_EVQ_OVF, .ro, 0, .any⟩,
  ⟨DIO_SCHED_FIRED, .ro, 0, .any⟩,
  ⟨DIO_SCHED_LATE, .ro, 0, .any⟩,
  ⟨DIO_SCHED_SKIPPED, .ro, 0, .any⟩,
  ⟨DIO_READBACK_ERR, .ro, 0, .any⟩,
  ⟨DIO_SAFE_WDROP, .ro, 0, .any⟩,
  ⟨DIO_ISUM_SUM, .ro, 0, .any⟩]

/-- DIO bank registers (Table 13.8). -/
def dioRegs : RegGroup :=
  ⟨0x300000, 0x1000, 3, 0x0, 0x1000, 1, 0x1000, dioRegsFields,
    fun _ _ _ => 0⟩

/-- Fields of the DIO line registers (Table 13.8). -/
def dioLineRegsFields : List FieldSpec := [
  ⟨DIO_LCFG_MODE, .rw, 0, .any⟩,
  ⟨DIO_LCFG_PULL, .rw, 0, .any⟩,
  ⟨DIO_LCFG_EDGES, .rw, 0, .any⟩,
  ⟨DIO_LCFG_DEST, .rw, 0, .any⟩,
  ⟨DIO_LCFG_CMP_SEL, .rw, 0, .any⟩,
  ⟨DIO_LCFG_SAFE, .rw, 0, .any⟩,
  ⟨DIO_LCFG_PWM, .rw, 0, .any⟩,
  ⟨DIO_LCFG_INV, .rw, 0, .any⟩,
  ⟨DIO_LCFG_PWM_GEN, .rw, 0, .any⟩,
  ⟨DIO_LCFG_SAFETY, .ro, 0, .any⟩,
  ⟨DIO_LCFG_WIRED, .ro, 0, .any⟩,
  ⟨DIO_LFILT_KIND, .rw, 0, .any⟩,
  ⟨DIO_LFILT_TIME, .rw, 0, .range 0 10000000⟩,
  ⟨DIO_LCMP_RISE_MV, .rw, 0, .range 0 3300⟩,
  ⟨DIO_LCMP_FALL_MV, .rw, 0, .range 0 3299⟩,
  ⟨DIO_LEDGES, .ro, 0, .any⟩]

/-- DIO line registers (Table 13.8). -/
def dioLineRegs : RegGroup :=
  ⟨0x300000, 0x1000, 3, 0x100, 0x10, 64, 0x10, dioLineRegsFields,
    fun i j q => if q = 0x08 ∧ i = 0 ∧ j < 16 then 0x060E0672 else 0⟩

/-- Fields of the DIO PWM registers (Table 13.8). -/
def dioPwmRegsFields : List FieldSpec := [
  ⟨DIO_PWM_PERIOD_NS, .rw, 1000000, .range 1000 1000000000⟩,
  ⟨DIO_PWM_ON_NS, .rw, 0, .any⟩,
  ⟨DIO_PWM_PHASE_NS, .rw, 0, .any⟩,
  ⟨DIO_PWM_CTRL_EN, .rw, 0, .any⟩]

/-- DIO PWM registers (Table 13.8). -/
def dioPwmRegs : RegGroup :=
  ⟨0x300000, 0x1000, 3, 0x600, 0x10, 16, 0x10, dioPwmRegsFields,
    fun _ _ _ => 0⟩

/-- Fields of the Channel registers (Table 14.10). -/
def pchRegsFields : List FieldSpec := [
  ⟨PCH_CTRL_EN, .rw, 0, .any⟩,
  ⟨PCH_CTRL_PRES_EN, .rwl, 1, .any⟩,
  ⟨PCH_CTRL_SAFE_ON, .rwl, 0, .any⟩,
  ⟨PCH_STAT_STATE, .ro, 0, .any⟩,
  ⟨PCH_STAT_CAUSE, .ro, 0, .any⟩,
  ⟨PCH_STAT_PRESENT, .ro, 0, .any⟩,
  ⟨PCH_STAT_EMERG, .ro, 0, .any⟩,
  ⟨PCH_STAT_LATCH, .ro, 0, .any⟩,
  ⟨PCH_STAT_SAFETY, .ro, 0, .any⟩,
  ⟨PCH_STAT_FET_SHORT, .ro, 0, .any⟩,
  ⟨PCH_STAT_RETRY_CNT, .ro, 0, .any⟩,
  ⟨PCH_EVT, .w1c, 0, .any⟩,
  ⟨PCH_IE, .rw, 0, .any⟩,
  ⟨PCH_MEAS_I_MA, .ro, 0, .any⟩,
  ⟨PCH_MEAS_V_MV, .ro, 0, .any⟩,
  ⟨PCH_MEAS_E_MJ, .ro, 0, .any⟩,
  ⟨PCH_SHUNT_UOHM, .rwl, 2000, .range 500 20000⟩,
  ⟨PCH_LIMITS0_FAST_MA, .rwl, 40000, .any⟩,
  ⟨PCH_LIMITS1_SLOW_MA, .rwl, 16000, .any⟩,
  ⟨PCH_LIMITS1_SLOW_MS, .rwl, 20, .range 1 1000⟩,
  ⟨PCH_RAMP_RATE_VMS, .rwl, 24, .range 1 200⟩,
  ⟨PCH_RAMP_MAX_MS, .rwl, 100, .range 10 1000⟩,
  ⟨PCH_GATE_RISE_US, .rwl, 2000, .range 100 10000⟩,
  ⟨PCH_INSERT_MS, .rwl, 200, .range 0 10000⟩,
  ⟨PCH_RETRY_MS, .rwl, 1000, .range 100 60000⟩,
  ⟨PCH_RETRY_MAX, .rwl, 5, .any⟩,
  ⟨PCH_STRESS_LIMIT_MJ, .rwl, 2000, .range 50 20000⟩,
  ⟨PCH_STRESS_TAU_MS, .rwl, 1000, .range 10 10000⟩,
  ⟨PCH_PIMG_MS, .rw, 100, .range 1 1000⟩,
  ⟨PCH_LIMITS2_RAMP_MA, .rwl, 8000, .any⟩,
  ⟨PCH_STARTS, .ro, 0, .any⟩,
  ⟨PCH_FAST_TRIPS, .ro, 0, .any⟩,
  ⟨PCH_START_SHORTS, .ro, 0, .any⟩,
  ⟨PCH_OVERCURRENTS, .ro, 0, .any⟩,
  ⟨PCH_START_TMO, .ro, 0, .any⟩,
  ⟨PCH_FET_OPENS, .ro, 0, .any⟩,
  ⟨PCH_LATCHES, .ro, 0, .any⟩,
  ⟨PCH_FET_SHORTS, .ro, 0, .any⟩,
  ⟨PCH_ON_SECONDS, .ro, 0, .any⟩]

/-- Channel registers (Table 14.10). -/
def pchRegs : RegGroup :=
  ⟨0x400000, 0x100, 64, 0x0, 0x100, 1, 0x100, pchRegsFields,
    fun _ _ _ => 0⟩

/-- Fields of the FEED registers (Table 14.11). -/
def feedRegsFields : List FieldSpec := [
  ⟨FEED_PRIO_FIRST, .rw, 0, .any⟩,
  ⟨FEED_PRIO_SECOND, .rw, 1, .any⟩,
  ⟨FEED_PRIO_THIRD, .rw, 2, .any⟩,
  ⟨FEED_DEAD_US, .rw, 50, .range 20 500⟩,
  ⟨FEED_STAT_SELECTED, .ro, 3, .any⟩,
  ⟨FEED_STAT_QUALIFIED, .ro, 0, .any⟩,
  ⟨FEED_STAT_SWITCHING, .ro, 0, .any⟩,
  ⟨FEED_STAT_ON_BAT, .ro, 0, .any⟩,
  ⟨FEED_STAT_UV_HOLD, .ro, 0, .any⟩,
  ⟨FEED_STAT_STUCK, .ro, 0, .any⟩,
  ⟨FEED_STAT_FROZEN, .ro, 0, .any⟩,
  ⟨FEED_EVT, .w1c, 0, .any⟩,
  ⟨FEED_IE, .rw, 0, .any⟩,
  ⟨PWR_ISUM0_SUM, .ro, 0, .any⟩,
  ⟨PWR_ISUM1_SUM, .ro, 0, .any⟩,
  ⟨PWR_ISUM2_FEED, .ro, 0, .any⟩,
  ⟨FEED_CHANGES, .ro, 0, .any⟩,
  ⟨FEED_STUCK, .ro, 0, .any⟩]

/-- FEED registers (Table 14.11). -/
def feedRegs : RegGroup :=
  ⟨0x440000, 0x1000000, 1, 0x0, 0x10000, 1, 0x10000, feedRegsFields,
    fun _ _ _ => 0⟩

/-- Fields of the Per-feed registers (Table 14.11). -/
def feedSetRegsFields : List FieldSpec := [
  ⟨FEED_WIN_UV_MV, .rw, 40000, .range 18000 60000⟩,
  ⟨FEED_WIN_OV_MV, .rw, 57000, .range 18000 60000⟩,
  ⟨FEED_QUAL_QUAL_MS, .rw, 100, .range 1 10000⟩,
  ⟨FEED_QUAL_DISQ_US, .rw, 20, .range 1 1000⟩,
  ⟨FEED_HYST_MV, .rw, 500, .range 0 2000⟩,
  ⟨FEED_CFG_EN, .rw, 1, .any⟩,
  ⟨FEED_V_MV, .ro, 0, .any⟩,
  ⟨FEED_DISQ, .ro, 0, .any⟩]

/-- Per-feed registers (Table 14.11). -/
def feedSetRegs : RegGroup :=
  ⟨0x440000, 0x1000000, 1, 0x100, 0x20, 3, 0x20, feedSetRegsFields,
    fun _ _ _ => 0⟩

/-- Fields of the USBH registers (Table 15.7). -/
def usbRegsFields : List FieldSpec := [
  ⟨USB_HUBCFG_EN, .rw, 1, .any⟩,
  ⟨USB_HUBCFG_PWRGOOD_2MS, .rw, 50, .range 1 255⟩,
  ⟨USB_HUBCFG_OC_FILT_MS, .rw, 5, .any⟩,
  ⟨USB_IDCFG_VID, .rwl, 15004, .any⟩,
  ⟨USB_IDCFG_PID, .rwl, 0, .any⟩,
  ⟨USB_IDCFG2_MGMT_PID, .rwl, 0, .any⟩,
  ⟨USB_IDCFG2_BCD, .ro, 177, .any⟩,
  ⟨USB_STAT_UP_STATE, .ro, 0, .any⟩,
  ⟨USB_STAT_UP_HS, .ro, 0, .any⟩,
  ⟨USB_STAT_VBUS, .ro, 0, .any⟩,
  ⟨USB_STAT_RWAKE_EN, .ro, 0, .any⟩,
  ⟨USB_STAT_MULTI_TT, .ro, 0, .any⟩,
  ⟨USB_STAT_TEST, .ro, 0, .any⟩,
  ⟨USB_MGMT_CONNECT, .rw, 1, .any⟩,
  ⟨USB_MGMT_WAKE_EN, .rw, 1, .any⟩,
  ⟨USB_MGMT_STATE, .ro, 0, .any⟩,
  ⟨USB_MGMT_MRWAKE, .ro, 0, .any⟩,
  ⟨USB_MGMT_ISO_ALT, .ro, 0, .any⟩,
  ⟨USB_EP3_MASK_MASK, .rw, 1, .any⟩,
  ⟨USB_STRM_EN_EN, .rw, 0, .any⟩,
  ⟨USB_EVT, .w1c, 0, .any⟩,
  ⟨USB_IE, .rw, 0, .any⟩,
  ⟨USB_UP_RESETS, .ro, 0, .any⟩,
  ⟨USB_SUSPENDS, .ro, 0, .any⟩,
  ⟨USB_RWAKE_SENT, .ro, 0, .any⟩,
  ⟨USB_RWAKE_MERGED, .ro, 0, .any⟩,
  ⟨USB_CTRL_ABANDON, .ro, 0, .any⟩,
  ⟨USB_FAB_REQ, .ro, 0, .any⟩,
  ⟨USB_FAB_BAD, .ro, 0, .any⟩,
  ⟨USB_FAB_REFETCH, .ro, 0, .any⟩,
  ⟨USB_ISO_PKTS, .ro, 0, .any⟩,
  ⟨USB_ISO_DEFER, .ro, 0, .any⟩,
  ⟨USB_EP3_OVF, .ro, 0, .any⟩]

/-- USBH registers (Table 15.7). -/
def usbRegs : RegGroup :=
  ⟨0x500000, 0x1000000, 1, 0x0, 0x100, 1, 0x100, usbRegsFields,
    fun _ _ _ => 0⟩

/-- Fields of the USBH port sets (Table 15.7). -/
def usbPortRegsFields : List FieldSpec := [
  ⟨USB_PORT_STAT_STATUS, .ro, 0, .any⟩,
  ⟨USB_PORT_STAT_CHANGE, .ro, 0, .any⟩,
  ⟨USB_PORT_CTRL_LOCK_OFF, .rw, 0, .any⟩,
  ⟨USB_PORT_CTRL_PWR_REQ, .ro, 0, .any⟩,
  ⟨USB_PORT_OC, .ro, 0, .any⟩,
  ⟨USB_PORT_RESUMES, .ro, 0, .any⟩,
  ⟨USB_TT_PER_OVF, .ro, 0, .any⟩,
  ⟨USB_TT_AGED, .ro, 0, .any⟩]

/-- USBH port sets (Table 15.7). -/
def usbPortRegs : RegGroup :=
  ⟨0x500000, 0x1000000, 1, 0x100, 0x20, 9, 0x20, usbPortRegsFields,
    fun _ _ _ => 0⟩

/-- Fields of the PD registers (Table 16.9). -/
def pdRegsFields : List FieldSpec := [
  ⟨PD_POL_CTRL_USE_IMAGE, .rw, 1, .any⟩,
  ⟨PD_POL_CTRL_WDOG_MS, .rw, 100, .range 10 255⟩,
  ⟨PD_POL_STAT_RUNNING, .ro, 1, .any⟩,
  ⟨PD_POL_STAT_FB_CAUSE, .ro, 1, .any⟩,
  ⟨PD_POL_STAT_IMG_VER, .ro, 0, .any⟩,
  ⟨PD_GEVT, .w1c, 0, .any⟩,
  ⟨PD_GIE, .rw, 0, .any⟩,
  ⟨PD_ISUM_SUM, .ro, 0, .any⟩,
  ⟨PD_POL_RESTARTS, .ro, 0, .any⟩]

/-- PD registers (Table 16.9). -/
def pdRegs : RegGroup :=
  ⟨0x540000, 0x1000000, 1, 0x0, 0x1000, 1, 0x1000, pdRegsFields,
    fun _ _ _ => 0⟩

/-- Fields of the PD port sets (Table 16.9). -/
def pdPortRegsFields0 : List FieldSpec := [
  ⟨PD_PCFG_EN, .rw, 1, .any⟩,
  ⟨PD_PCFG_ROLES, .rwl, 2, .any⟩,
  ⟨PD_PCFG_TRY, .rwl, 0, .any⟩,
  ⟨PD_PCFG_RP, .rwl, 2, .any⟩,
  ⟨PD_PCFG_FRS_EN, .rw, 0, .any⟩,
  ⟨PD_PCFG_PPS_EN, .rwl, 1, .any⟩,
  ⟨PD_PCFG_EPR_EN, .rwl, 0, .any⟩,
  ⟨PD_PSTAT_TC_STATE, .ro, 0, .any⟩,
  ⟨PD_PSTAT_POLARITY, .ro, 0, .any⟩,
  ⟨PD_PSTAT_PWR_SRC, .ro, 0, .any⟩,
  ⟨PD_PSTAT_DFP, .ro, 0, .any⟩,
  ⟨PD_PSTAT_VCONN_SRC, .ro, 0, .any⟩,
  ⟨PD_PSTAT_CONTRACT, .ro, 0, .any⟩,
  ⟨PD_PSTAT_EPR_MODE, .ro, 0, .any⟩,
  ⟨PD_PSTAT_KIND, .ro, 0, .any⟩,
  ⟨PD_PSTAT_IN_TRANSITION, .ro, 0, .any⟩,
  ⟨PD_PSTAT_DEAD_BATT, .ro, 0, .any⟩,
  ⟨PD_PSTAT_CABLE_5A, .ro, 0, .any⟩,
  ⟨PD_PSTAT_CABLE_EPR, .ro, 0, .any⟩,
  ⟨PD_PSTAT_CL, .ro, 0, .any⟩,
  ⟨PD_CONTRACT_MV, .ro, 0, .any⟩,
  ⟨PD_CONTRACT_MA, .ro, 0, .any⟩,
  ⟨PD_VBUS_MV, .ro, 0, .any⟩,
  ⟨PD_VBUS_MA, .ro, 0, .any⟩,
  ⟨PD_EVT, .w1c, 0, .any⟩,
  ⟨PD_IE, .rw, 0, .any⟩,
  ⟨PD_SNK_MAX_MV, .rw, 20000, .any⟩,
  ⟨PD_SNK_MA, .rw, 3000, .any⟩,
  ⟨PD_XCFG_TRANS_MS, .rw, 200, .range 20 255⟩,
  ⟨PD_XCFG_SLEW_VMS, .rw, 2, .range 1 30⟩,
  ⟨PD_XCFG_OCP_MS, .rw, 10, .range 1 100⟩,
  ⟨PD_XCFG_OCP_PCT, .rw, 110, .range 100 150⟩,
  ⟨PD_CONV_V0_MV, .rwl, 3000, .any⟩,
  ⟨PD_CONV_V4095_MV, .rwl, 50000, .any⟩,
  ⟨PD_VSNS_DIV, .rwl, 20000, .any⟩,
  ⟨PD_ISNS_MA_PER_V, .rwl, 2000, .any⟩,
  ⟨PD_ATTACHES, .ro, 0, .any⟩,
  ⟨PD_CONTRACTS, .ro, 0, .any⟩,
  ⟨PD_HARD_RESETS, .ro, 0, .any⟩,
  ⟨PD_SOFT_RESETS, .ro, 0, .any⟩]

/-- Fields of the PD port sets (Table 16.9). -/
def pdPortRegsFields1 : List FieldSpec := [
  ⟨PD_SWAPS, .ro, 0, .any⟩,
  ⟨PD_SWAP_YIELDS, .ro, 0, .any⟩,
  ⟨PD_FRS, .ro, 0, .any⟩,
  ⟨PD_DETACH_XSN, .ro, 0, .any⟩,
  ⟨PD_OCP, .ro, 0, .any⟩,
  ⟨PD_CONV_FAULTS, .ro, 0, .any⟩,
  ⟨PD_MSG_DISCARD, .ro, 0, .any⟩]

/-- PD port sets (Table 16.9). -/
def pdPortRegs : RegGroup :=
  ⟨0x540000, 0x1000000, 1, 0x1000, 0x400, 3, 0x400, pdPortRegsFields0 ++ pdPortRegsFields1,
    fun _ j q => if q = 0 then (if j = 0 then 0x80 else 0x08) else 0⟩

/-- Fields of the PD_SRC_OFFER e (Tables 16.9, 16.10). -/
def pdOfferRegsFields : List FieldSpec := [
  ⟨PD_SRC_OFFER_MA, .rwl, 0, .any⟩,
  ⟨PD_SRC_OFFER_TYPE, .rwl, 0, .any⟩,
  ⟨PD_SRC_OFFER_MV, .rwl, 0, .any⟩]

/-- PD_SRC_OFFER e (Tables 16.9, 16.10). -/
def pdOfferRegs : RegGroup :=
  ⟨0x541040, 0x400, 3, 0x0, 0x4, 11, 0x4, pdOfferRegsFields,
    fun _ j _ => offerReset j⟩

/-- Fields of the Fabric registers (Table 2.9). -/
def fabRegsFields : List FieldSpec := [
  ⟨FAB_CTRL_EN, .rw, 1, .any⟩,
  ⟨FAB_CTRL_SELF_RING, .rw, 0, .any⟩,
  ⟨FAB_CTRL_BCAST_SELF, .rw, 1, .any⟩,
  ⟨FAB_CTRL_LMAC_EN, .rw, 0, .any⟩,
  ⟨FAB_ETYPE_ETYPE, .rwl, 34997, .any⟩,
  ⟨FAB_TIMEOUT_TICKS, .rw, 100, .range 1 16383⟩,
  ⟨FAB_MAXPAY_BYTES, .rw, 1024, .step4 4 8192⟩,
  ⟨FAB_REORDER_HOLD, .rw, 50, .any⟩,
  ⟨FAB_NODE_NODE_ID, .ro, 0, .any⟩,
  ⟨FAB_NODE_VALID, .ro, 0, .any⟩,
  ⟨FAB_SLOTS_IN_USE, .ro, 0, .any⟩,
  ⟨FAB_SLOTS_QUARANTINED, .ro, 0, .any⟩,
  ⟨FAB_TX_FRAMES, .ro, 0, .any⟩,
  ⟨FAB_RX_FRAMES, .ro, 0, .any⟩,
  ⟨FAB_BAD_FRAME, .ro, 0, .any⟩,
  ⟨FAB_WR_REFUSED, .ro, 0, .any⟩,
  ⟨FAB_TIMEOUTS, .ro, 0, .any⟩,
  ⟨FAB_STALE_RESP, .ro, 0, .any⟩,
  ⟨FAB_SEQ_GAP, .ro, 0, .any⟩,
  ⟨FAB_SEQ_LATE, .ro, 0, .any⟩,
  ⟨FAB_UNDELIVERED, .ro, 0, .any⟩,
  ⟨FAB_MSG_DROP, .ro, 0, .any⟩]

/-- Fabric registers (Table 2.9). -/
def fabRegs : RegGroup :=
  ⟨0x600000, 0x1000000, 1, 0x0, 0x1000, 1, 0x1000, fabRegsFields,
    fun _ _ _ => 0⟩

/-- Fields of the Bridge registers (Table 10.8). -/
def bridgeRegsFields : List FieldSpec := [
  ⟨BRIDGE_CTRL_PREFETCH, .rw, 1, .any⟩,
  ⟨BRIDGE_CTRL_XSPI_LADLES, .rw, 24, .range 1 31⟩,
  ⟨BRIDGE_DISCARD_US, .rw, 100, .range 1 10000⟩,
  ⟨BRIDGE_XSPI_LAT_CYC, .rw, 20, .range 8 63⟩,
  ⟨BRIDGE_HSTAT_WQ_FREE, .ro, 64, .any⟩,
  ⟨BRIDGE_HSTAT_LADLES_FREE, .ro, 32, .any⟩,
  ⟨BRIDGE_HSTAT_SALVAGE_HELD, .ro, 0, .any⟩,
  ⟨BRIDGE_HSTAT_SALVAGE_RSVD, .ro, 0, .any⟩,
  ⟨BRIDGE_EVT, .w1c, 0, .any⟩,
  ⟨BRIDGE_IE, .rw, 0, .any⟩,
  ⟨BRIDGE_HALF_HALF, .w1c, 0, .any⟩,
  ⟨BRIDGE_IRQ_EN_EN, .rw, 134217729, .any⟩,
  ⟨BRIDGE_IRQ_MAP0_PIN, .rw, 0, .any⟩,
  ⟨BRIDGE_IRQ_MAP1_PIN, .rw, 4194304, .any⟩,
  ⟨BRIDGE_IRQ_PEND_PEND, .ro, 0, .any⟩,
  ⟨BRIDGE_IRQ_CFG_POL, .rw, 0, .any⟩,
  ⟨BRIDGE_IRQ_CFG_OD, .rw, 0, .any⟩,
  ⟨BRIDGE_IRQ_CFG_LEVEL, .ro, 0, .any⟩,
  ⟨BRIDGE_XSPI_RD, .ro, 0, .any⟩,
  ⟨BRIDGE_XSPI_WR, .ro, 0, .any⟩,
  ⟨BRIDGE_RETRY, .ro, 0, .any⟩,
  ⟨BRIDGE_NO_LADLE, .ro, 0, .any⟩,
  ⟨BRIDGE_SALVAGE_WAIT, .ro, 0, .any⟩,
  ⟨BRIDGE_DISCARDS, .ro, 0, .any⟩,
  ⟨BRIDGE_SALVAGED, .ro, 0, .any⟩,
  ⟨BRIDGE_WQ_DROP, .ro, 0, .any⟩,
  ⟨BRIDGE_XSPI_BADCMD, .ro, 0, .any⟩,
  ⟨BRIDGE_XSPI_SHORT, .ro, 0, .any⟩,
  ⟨BRIDGE_PREFETCH_HIT, .ro, 0, .any⟩]

/-- Bridge registers (Table 10.8). -/
def bridgeRegs : RegGroup :=
  ⟨0x601000, 0x1000000, 1, 0x0, 0x100, 1, 0x100, bridgeRegsFields,
    fun _ _ _ => 0⟩

/-- Fields of the Ladle registers (Table 10.8). -/
def ladleRegsFields : List FieldSpec := [
  ⟨LADLE_STAT_STATE, .ro, 0, .any⟩,
  ⟨LADLE_STAT_INIT, .ro, 0, .any⟩,
  ⟨LADLE_STAT_PREFETCHED, .ro, 0, .any⟩,
  ⟨LADLE_STAT_SENSITIVE, .ro, 0, .any⟩,
  ⟨LADLE_STAT_CODE, .ro, 0, .any⟩,
  ⟨LADLE_ADDR_LO_ADDR, .ro, 0, .any⟩,
  ⟨LADLE_ADDR_HI_ADDR, .ro, 0, .any⟩,
  ⟨LADLE_ADDR_HI_LEN, .ro, 0, .any⟩]

/-- Ladle registers (Table 10.8). -/
def ladleRegs : RegGroup :=
  ⟨0x601100, 0x1000000, 1, 0x0, 0x10, 32, 0x10, ladleRegsFields,
    fun _ _ _ => 0⟩

/-- Fields of the Salvage registers (Table 10.8). -/
def salvageRegsFields : List FieldSpec := [
  ⟨SALVAGE_STAT_HELD, .ro, 0, .any⟩,
  ⟨SALVAGE_STAT_RESERVED, .ro, 0, .any⟩,
  ⟨SALVAGE_STAT_INIT, .ro, 0, .any⟩,
  ⟨SALVAGE_STAT_CODE, .ro, 0, .any⟩,
  ⟨SALVAGE_ADDR_LO_ADDR, .ro, 0, .any⟩,
  ⟨SALVAGE_ADDR_HI_ADDR, .ro, 0, .any⟩,
  ⟨SALVAGE_ADDR_HI_LEN, .ro, 0, .any⟩]

/-- Salvage registers (Table 10.8). -/
def salvageRegs : RegGroup :=
  ⟨0x601400, 0x1000000, 1, 0x0, 0x10, 8, 0x10, salvageRegsFields,
    fun _ _ _ => 0⟩

/-- Fields of the User window registers (Table 10.8). -/
def uwinRegsFields : List FieldSpec := [
  ⟨BRIDGE_UWIN_CFG_SPACE, .rwl, 0, .any⟩,
  ⟨BRIDGE_UWIN_CFG_EN, .rw, 0, .any⟩,
  ⟨BRIDGE_UWIN_OFS_OFFSET, .rwl, 0, .any⟩,
  ⟨BRIDGE_UWIN_SIZE_BYTES, .rwl, 4, .down4 4 65536⟩]

/-- User window registers (Table 10.8). -/
def uwinRegs : RegGroup :=
  ⟨0x601500, 0x1000000, 1, 0x0, 0x10, 8, 0x10, uwinRegsFields,
    fun _ _ _ => 0⟩

/-- Fields of the Straight wire registers (Table 10.8). -/
def wireRegsFields : List FieldSpec := [
  ⟨WIRE_CFG_SRC, .rw, 0, .any⟩,
  ⟨WIRE_CFG_INV, .rw, 0, .any⟩,
  ⟨WIRE_CFG_EN, .rw, 0, .any⟩,
  ⟨WIRE_CFG_DST_KIND, .rw, 0, .any⟩,
  ⟨WIRE_CFG_DST, .rw, 0, .any⟩,
  ⟨WIRE_STAT_ACTIVE, .ro, 0, .any⟩,
  ⟨WIRE_STAT_SRC_LEVEL, .ro, 0, .any⟩,
  ⟨WIRE_STAT_REASON, .ro, 0, .any⟩]

/-- Straight wire registers (Table 10.8). -/
def wireRegs : RegGroup :=
  ⟨0x601600, 0x1000000, 1, 0x0, 0x8, 8, 0x8, wireRegsFields,
    fun _ _ _ => 0⟩

/-- Fields of the Sprue queue registers (Table 3.3). -/
def sprueRegsFields : List FieldSpec := [
  ⟨SPRUE_CFG_WR_LOG2, .ro, 0, .any⟩,
  ⟨SPRUE_CFG_RD_LOG2, .ro, 0, .any⟩,
  ⟨SPRUE_CFG_STAGES, .ro, 0, .any⟩,
  ⟨SPRUE_LEVEL_LEVEL, .ro, 0, .any⟩,
  ⟨SPRUE_LEVEL_PECKS, .ro, 0, .any⟩,
  ⟨SPRUE_LEVEL_PKTS, .ro, 0, .any⟩,
  ⟨SPRUE_WM_MARK, .rw, 0, .any⟩,
  ⟨SPRUE_WM_ABOVE, .ro, 0, .any⟩,
  ⟨SPRUE_WM_WM_UP, .w1c, 0, .any⟩,
  ⟨SPRUE_WM_WM_DOWN, .w1c, 0, .any⟩,
  ⟨SPRUE_WM_UP_IE, .rw, 0, .any⟩,
  ⟨SPRUE_WM_DOWN_IE, .rw, 0, .any⟩,
  ⟨SPRUE_MAXLVL_MAX, .ro, 0, .any⟩,
  ⟨SPRUE_CTRL_INJ_PAR, .wo, 0, .any⟩,
  ⟨SPRUE_CTRL_MAX_RST, .wo, 0, .any⟩,
  ⟨SPRUE_WORDS, .ro, 0, .any⟩,
  ⟨SPRUE_PAR_ERR, .ro, 0, .any⟩,
  ⟨SPRUE_POISON_IN, .ro, 0, .any⟩,
  ⟨SPRUE_OVERRUN, .ro, 0, .any⟩,
  ⟨SPRUE_FLUSHED, .ro, 0, .any⟩]

/-- Sprue queue registers (Table 3.3). -/
def sprueRegs : RegGroup :=
  ⟨0x680000, 0x1000000, 1, 0x0, 0x40, 44, 0x40, sprueRegsFields,
    fun _ j q => sprueReset j q⟩

/-- Fields of the Sprue notice summary (Table 3.3). -/
def sprueSumRegsFields : List FieldSpec := [
  ⟨SPRUE_NOTICE_SUM0_Q0_31, .ro, 0, .any⟩,
  ⟨SPRUE_NOTICE_SUM1_Q32_43, .ro, 0, .any⟩]

/-- Sprue notice summary (Table 3.3). -/
def sprueSumRegs : RegGroup :=
  ⟨0x68f000, 0x1000000, 1, 0x0, 0x8, 1, 0x8, sprueSumRegsFields,
    fun _ _ _ => 0⟩

/-- Fields of the FAULT registers (Table 18.8). -/
def faultRegsFields : List FieldSpec := [
  ⟨FAULT_STAT_Q_LVL, .ro, 0, .any⟩,
  ⟨FAULT_STAT_UNACK_DEGRADE, .ro, 0, .any⟩,
  ⟨FAULT_STAT_UNACK_SAFETY, .ro, 0, .any⟩,
  ⟨FAULT_STAT_HELD, .ro, 0, .any⟩,
  ⟨FAULT_EVT, .w1c, 0, .any⟩,
  ⟨FAULT_IE, .rw, 7, .any⟩,
  ⟨FAULT_CTRL_NOTE_Q, .rw, 1, .any⟩,
  ⟨FAULT_CTRL_FATAL_INJ_EN, .rw, 0, .any⟩,
  ⟨FAULT_LOG_POS_INDEX, .ro, 0, .any⟩,
  ⟨FAULT_SEQ_NEXT, .ro, 0, .any⟩,
  ⟨FAULT_NOTES, .ro, 0, .any⟩,
  ⟨FAULT_DEGRADES, .ro, 0, .any⟩,
  ⟨FAULT_SAFETY, .ro, 0, .any⟩,
  ⟨FAULT_QOVF, .ro, 0, .any⟩,
  ⟨FAULT_INTAKE_LOST, .ro, 0, .any⟩,
  ⟨FAULT_LOG_OVWR, .ro, 0, .any⟩,
  ⟨FAULT_FORCED, .ro, 0, .any⟩,
  ⟨FAULT_ISLAND_RESETS, .ro, 0, .any⟩,
  ⟨FAULT_STORE_CE, .ro, 0, .any⟩,
  ⟨FAULT_FATAL_MORE, .ro, 0, .any⟩,
  ⟨FAULT_FORCE_KEY_KEY, .wo, 0, .any⟩,
  ⟨FAULT_FORCE_KIND, .wo, 0, .any⟩,
  ⟨FAULT_FORCE_SOURCE, .wo, 0, .any⟩,
  ⟨FAULT_FORCE_GO, .wo, 0, .any⟩]

/-- FAULT registers (Table 18.8). -/
def faultRegs : RegGroup :=
  ⟨0x700000, 0x1000000, 1, 0x0, 0x80000, 1, 0x80000, faultRegsFields,
    fun _ _ _ => 0⟩

/-- Fields of the CRUC registers (Table 17.12). -/
def crucRegsFields : List FieldSpec := [
  ⟨CRUC_STAT_MODE, .ro, 0, .any⟩,
  ⟨CRUC_STAT_LANES, .ro, 7, .any⟩,
  ⟨CRUC_STAT_ASSAY_HOLD, .ro, 0, .any⟩,
  ⟨CRUC_STAT_RESYNC, .ro, 0, .any⟩,
  ⟨CRUC_STAT_LAST_DISSENT, .ro, 3, .any⟩,
  ⟨CRUC_STAT_ARMED, .ro, 0, .any⟩,
  ⟨CRUC_STAT_TRIGGERED, .ro, 0, .any⟩,
  ⟨CRUC_EVT, .w1c, 0, .any⟩,
  ⟨CRUC_IE, .rw, 0, .any⟩,
  ⟨CRUC_HOLD_LAST_CYCLES, .ro, 0, .any⟩,
  ⟨CRUC_DISSENTS, .ro, 0, .any⟩,
  ⟨CRUC_ASSAY_FAILS, .ro, 0, .any⟩,
  ⟨CRUC_DUAL_ENTRIES, .ro, 0, .any⟩,
  ⟨CRUC_DUAL_ASSAYS, .ro, 0, .any⟩,
  ⟨CRUC_REJOINS, .ro, 0, .any⟩,
  ⟨CRUC_SF_WDROP, .ro, 0, .any⟩,
  ⟨SF_TRIGGERS_E, .ro, 0, .any⟩,
  ⟨SF_TRIGGERS_A, .ro, 0, .any⟩,
  ⟨SF_TEST_FAILS, .ro, 0, .any⟩,
  ⟨SF_BACKUP_OPENS, .ro, 0, .any⟩]

/-- CRUC registers (Table 17.12). -/
def crucRegs : RegGroup :=
  ⟨0x780000, 0x1000000, 1, 0x0, 0x100, 1, 0x100, crucRegsFields,
    fun _ _ _ => 0⟩

/-- Fields of the CRUC_ASSAY l (Table 17.12). -/
def assayRegsFields : List FieldSpec := [
  ⟨CRUC_ASSAY_PASS, .ro, 0, .any⟩,
  ⟨CRUC_ASSAY_VALID, .ro, 0, .any⟩,
  ⟨CRUC_ASSAY_FAIL_CLASS, .ro, 0, .any⟩,
  ⟨CRUC_ASSAY_CYCLES, .ro, 0, .any⟩]

/-- CRUC_ASSAY l (Table 17.12). -/
def assayRegs : RegGroup :=
  ⟨0x780010, 0x1000000, 1, 0x0, 0x4, 3, 0x4, assayRegsFields,
    fun _ _ _ => 0⟩

/-- Fields of the Function sets (Table 17.12). -/
def sfRegsFields : List FieldSpec := [
  ⟨SF_CTRL_ARMED, .ro, 0, .any⟩,
  ⟨SF_CTRL_TRIGGERED, .ro, 0, .any⟩,
  ⟨SF_CTRL_SAFE, .ro, 0, .any⟩,
  ⟨SF_CTRL_CAUSE, .ro, 0, .any⟩,
  ⟨SF_CHAN_LO, .rws, 0, .any⟩,
  ⟨SF_CHAN_HI, .rws, 0, .any⟩,
  ⟨SF_PARAM0_LOW, .rws, 0, .any⟩,
  ⟨SF_PARAM0_HIGH, .rws, 0, .any⟩,
  ⟨SF_PARAM1_HB_SLOT, .rws, 0, .any⟩,
  ⟨SF_PARAM1_HB_EN, .rws, 0, .any⟩,
  ⟨SF_PARAM1_HB_MS, .rws, 0, .range 10 60000⟩]

/-- Function sets (Table 17.12). -/
def sfRegs : RegGroup :=
  ⟨0x780000, 0x1000000, 1, 0x100, 0x80, 3, 0x20, sfRegsFields,
    fun _ j q => sfReset j q⟩

/-- Fields of the SF_OUT s k (Table 17.12). -/
def sfOutRegsFields : List FieldSpec := [
  ⟨SF_OUT_LINE, .rws, 0, .any⟩,
  ⟨SF_OUT_EN, .rws, 0, .any⟩]

/-- SF_OUT s k (Table 17.12). -/
def sfOutRegs : RegGroup :=
  ⟨0x780120, 0x80, 3, 0x0, 0x4, 8, 0x4, sfOutRegsFields,
    fun _ _ _ => 0⟩

/-- Fields of the SF_IN s k (Table 17.12). -/
def sfInRegsFields : List FieldSpec := [
  ⟨SF_IN_LINE, .rws, 0, .any⟩,
  ⟨SF_IN_EN, .rws, 0, .any⟩,
  ⟨SF_IN_TRIG_LEVEL, .rws, 0, .any⟩,
  ⟨SF_IN_TEST, .rws, 0, .any⟩,
  ⟨SF_IN_TEST_LINE, .rws, 0, .any⟩]

/-- SF_IN s k (Table 17.12): TRIG_LEVEL resets to 1 in set 1; the register reads 0 in sets 0 and 2. -/
def sfInRegs : RegGroup :=
  ⟨0x780140, 0x80, 3, 0x0, 0x4, 8, 0x4, sfInRegsFields,
    fun i _ _ => if i = 1 then 0x200 else 0⟩

/-- Fields of the SF_BACKUP c (Table 17.12). -/
def sfBackupRegsFields : List FieldSpec := [
  ⟨SF_BACKUP_LINE, .rws, 0, .any⟩,
  ⟨SF_BACKUP_EN, .rws, 0, .any⟩]

/-- SF_BACKUP c (Table 17.12). -/
def sfBackupRegs : RegGroup :=
  ⟨0x780400, 0x1000000, 1, 0x0, 0x4, 64, 0x4, sfBackupRegsFields,
    fun _ _ _ => 0⟩

/-- Fields of the CALIB registers (Table 20.11). -/
def calibRegsFields : List FieldSpec := [
  ⟨CALIB_STAT_DEFAULT, .ro, 0, .any⟩,
  ⟨CALIB_STAT_ORIGIN, .ro, 0, .any⟩,
  ⟨CALIB_STAT_BUSY, .ro, 0, .any⟩,
  ⟨CALIB_WRITES, .ro, 0, .any⟩,
  ⟨CALIB_CRC_STORED, .ro, 0, .any⟩,
  ⟨CALIB_CRC_CALC, .ro, 0, .any⟩]

/-- CALIB registers (Table 20.11). -/
def calibRegs : RegGroup :=
  ⟨0x7c0000, 0x1000000, 1, 0x0, 0x1000, 1, 0x1000, calibRegsFields,
    fun _ _ _ => 0⟩

/-- Fields of the UPD registers (Table 20.11). -/
def updRegsFields : List FieldSpec := [
  ⟨UPD_STAT_STATE, .ro, 0, .any⟩,
  ⟨UPD_STAT_IMG_WRITE, .ro, 0, .any⟩,
  ⟨UPD_STAT_IMAGE, .ro, 0, .any⟩,
  ⟨UPD_STAT_BUNDLE_STAGED, .ro, 0, .any⟩,
  ⟨UPD_VER_RUN, .ro, 0, .any⟩,
  ⟨UPD_VER_STAGED, .ro, 0, .any⟩,
  ⟨UPD_ROLLBACK_COUNT, .ro, 0, .any⟩,
  ⟨UPD_ROLLBACK_SEC_RUN, .ro, 0, .any⟩,
  ⟨UPD_OWNER_KEY_SET, .ro, 0, .any⟩,
  ⟨UPD_OWNER_LOCK, .ro, 0, .any⟩,
  ⟨UPD_OWNER_BUNDLE_SIG, .ro, 0, .any⟩,
  ⟨UPD_NONCE_LO, .ro, 0, .any⟩,
  ⟨UPD_NONCE_HI, .ro, 0, .any⟩,
  ⟨UPD_ACT_AT_NS_NS, .ro, 0, .any⟩,
  ⟨UPD_ACT_AT_SL_SEC_LO, .ro, 0, .any⟩,
  ⟨UPD_ACT_AT_SH_SEC_HI, .ro, 0, .any⟩,
  ⟨UPD_ACT_FLAGS_IMAGE, .ro, 0, .any⟩,
  ⟨UPD_ACT_FLAGS_BUNDLE, .ro, 0, .any⟩,
  ⟨UPD_COPY_DONE, .ro, 0, .any⟩,
  ⟨UPD_COPY_TOTAL, .ro, 0, .any⟩,
  ⟨UPD_BUNDLE_SLOT, .ro, 0, .any⟩,
  ⟨UPD_BUNDLE_FORMAT, .ro, 0, .any⟩,
  ⟨UPD_BUNDLE_VER, .ro, 0, .any⟩,
  ⟨UPD_EVT, .w1c, 0, .any⟩,
  ⟨UPD_IE, .rw, 0, .any⟩,
  ⟨UPD_VERIFY_FAILS, .ro, 0, .any⟩,
  ⟨UPD_REFUSED, .ro, 0, .any⟩,
  ⟨UPD_ACTIVATIONS, .ro, 0, .any⟩,
  ⟨UPD_RECOVERIES, .ro, 0, .any⟩,
  ⟨UPD_MIGRATIONS, .ro, 0, .any⟩]

/-- UPD registers (Table 20.11). -/
def updRegs : RegGroup :=
  ⟨0x7e0000, 0x1000000, 1, 0x0, 0x10000, 1, 0x10000, updRegsFields,
    fun _ _ _ => 0⟩

/-- Fields of the AON registers (Table 19.9). -/
def aonRegsFields : List FieldSpec := [
  ⟨AON_STAT_HELD, .ro, 0, .any⟩,
  ⟨AON_STAT_TIME_VALID, .ro, 0, .any⟩,
  ⟨AON_STAT_REFCLK_OK, .ro, 0, .any⟩,
  ⟨AON_STAT_XTAL_OK, .ro, 0, .any⟩,
  ⟨AON_STAT_COUNTER_HALF, .w1c, 0, .any⟩,
  ⟨AON_RST_CAUSE_CAUSE, .ro, 0, .any⟩,
  ⟨AON_EPOCH_EPOCH, .ro, 0, .any⟩,
  ⟨AON_TIME_SUB_SUB, .ro, 0, .any⟩,
  ⟨AON_TIME_SL_SEC_LO, .ro, 0, .any⟩,
  ⟨AON_TIME_SH_SEC_HI, .ro, 0, .any⟩,
  ⟨AON_TRIM_PPM_X10, .rw, 0, .signed (-2000) 2000⟩,
  ⟨AON_WAKE_EN_EN, .rw, 96, .any⟩,
  ⟨AON_WAKE_CFG_LEVEL, .rw, 0, .any⟩,
  ⟨AON_ALARM_SL_SEC, .rw, 0, .any⟩,
  ⟨AON_ALARM_SH_SEC, .rw, 0, .any⟩,
  ⟨AON_WAKE_SRC_SRC, .ro, 0, .any⟩,
  ⟨AON_BOR_CNT, .ro, 0, .any⟩,
  ⟨AON_WAKES, .ro, 0, .any⟩]

/-- AON registers (Table 19.9). -/
def aonRegs : RegGroup :=
  ⟨0x7f0000, 0x1000000, 1, 0x0, 0x10000, 1, 0x10000, aonRegsFields,
    fun _ _ _ => 0⟩

/-- Fields of the AON_WCMP k (Table 19.9). -/
def wcmpRegsFields : List FieldSpec := [
  ⟨AON_WCMP_MV, .rw, 500, .range 0 1000⟩,
  ⟨AON_WCMP_FALLING, .rw, 0, .any⟩]

/-- AON_WCMP k (Table 19.9). -/
def wcmpRegs : RegGroup :=
  ⟨0x7f0028, 0x1000000, 1, 0x0, 0x4, 2, 0x4, wcmpRegsFields,
    fun _ _ _ => 0⟩

/-- Every register group, in the order of Table 1.7. -/
def regGroups : List RegGroup := [
  sysRegs, partRegs, timeRegs, timePortRegs, txtsRegs, ringPortRegs,
  ringWideRegs, ringMapRegs, ringMacRegs, lmacRegs, schedRegs, ctxHalfRegs,
  schedPortRegs, gclAdminRegs, gclOperRegs, txdRegs, ctxRegs, ledgerRegs,
  ledgerPubRegs, ledgerLagRegs, subRegs, trigRegs, trigWrRegs, pimgRegs,
  canRegs, canTxbRegs, canRxmapRegs, canTxmapRegs, flaskRegs, flaskPinRegs,
  flaskRxqRegs, flaskTxqRegs, ecRegs, ecCntRegs, dioRegs, dioLineRegs,
  dioPwmRegs, pchRegs, feedRegs, feedSetRegs, usbRegs, usbPortRegs,
  pdRegs, pdPortRegs, pdOfferRegs, fabRegs, bridgeRegs, ladleRegs,
  salvageRegs, uwinRegs, wireRegs, sprueRegs, sprueSumRegs, faultRegs,
  crucRegs, assayRegs, sfRegs, sfOutRegs, sfInRegs, sfBackupRegs,
  calibRegs, updRegs, aonRegs, wcmpRegs]

end Sys2Proof.Machine
end

