-- ==== Sys2Proof/Machine/Map.lean ====
section
/-! DEFINITION. Sparse tables in one canonical form: a list of (key, value) pairs, keys strictly rising, no pair equal
to what an unlisted key reads as (the default function `d`). Registers, memory and every numbered unit of the hub are
held this way, so that equal contents are equal data. -/

namespace Sys2Proof.Machine

/-- A sparse table from numbers to `α`. -/
abbrev Tbl (α : Type) := List (Nat × α)

/-- What key `k` holds: the listed value, or the default. -/
def Tbl.get {α : Type} (d : Nat → α) : Tbl α → Nat → α
  | [], k => d k
  | (k', v) :: m, k => if k = k' then v else Tbl.get d m k

/-- The table with key `k` unlisted. -/
def Tbl.erase {α : Type} (m : Tbl α) (k : Nat) : Tbl α := m.filter fun p => !(p.1 == k)

/-- The table with `k` listed as `v`, in key order. -/
def Tbl.insert {α : Type} : Tbl α → Nat → α → Tbl α
  | [], k, v => [(k, v)]
  | (k', v') :: m, k, v =>
    if k < k' then (k, v) :: (k', v') :: m
    else if k = k' then (k, v) :: m
    else (k', v') :: Tbl.insert m k v

/-- The table in which `k` holds `v`: unlisted when `v` is the default. -/
def Tbl.put {α : Type} [DecidableEq α] (d : Nat → α) (m : Tbl α) (k : Nat) (v : α) : Tbl α :=
  if v = d k then m.erase k else m.insert k v

/-- Keys strictly rising. -/
def Tbl.sorted {α : Type} : Tbl α → Bool
  | [] => true
  | [_] => true
  | (k, _) :: (k', v) :: m => decide (k < k') && Tbl.sorted ((k', v) :: m)

/-- The canonical form: keys strictly rising, no pair equal to the default. -/
def Tbl.wf {α : Type} [DecidableEq α] (d : Nat → α) (m : Tbl α) : Bool :=
  Tbl.sorted m && m.all fun p => !(p.2 == d p.1)

/-- A table's contents in the canonical form: the first pair of a key counts. -/
def Tbl.tidy {α : Type} [DecidableEq α] (d : Nat → α) : Tbl α → Tbl α
  | [] => []
  | (k, v) :: m => (Tbl.tidy d m).put d k v

end Sys2Proof.Machine
end

