-- ==== Sys2Proof/Machine/Types.lean ====
section
/-! DEFINITION. Shared vocabulary of the state: the variants, fault classes and kinds (Table 18.3), fence units
(Table 1.5), and what the hub puts on its ports. -/

namespace Sys2Proof.Machine

/-- The two variants of the part (R1). -/
inductive Variant where
  | axh7264 | axh7232
  deriving DecidableEq, Repr

/-- The four fault classes (Table 18.1), with the code each carries in HEAD. -/
inductive FaultClass where
  | note | degrade | safety | fatal
  deriving DecidableEq, Repr

/-- CLASS as HEAD carries it (Table 18.1). -/
def FaultClass.code : FaultClass → Nat
  | .note => 0 | .degrade => 1 | .safety => 2 | .fatal => 3

/-- The fault kinds of Table 18.3 (R484). -/
inductive FaultKind where
  /-- RWL_REFUSED (0x01), Note; source: Hub. -/
  | rwlRefused
  /-- UNMAPPED_ACCESS (0x02), Note; source: Hub. -/
  | unmappedAccess
  /-- REFCLK_LOST (0x03), Fatal; source: Island 22. -/
  | refclkLost
  /-- SELFTEST_FAIL (0x04), Degrade; source: Fence unit (R566). -/
  | selftestFail
  /-- CORE_UNIT_LOST (0x05), Fatal; source: Island 0, 1 or 2. -/
  | coreUnitLost
  /-- ISLAND_HANG (0x06), Degrade; source: Island 19, 20 or 21. -/
  | islandHang
  /-- ISLAND_GIVEN_UP (0x07), Degrade; source: Island 19, 20 or 21. -/
  | islandGivenUp
  /-- TIME_REPLICA (0x0A), Note; source: Island 0, 1 or 3 to 22. -/
  | timeReplica
  /-- TIME_REPLICA_LOST (0x0B), Fatal; source: Island 0, 1, 3 or 19 to 22. -/
  | timeReplicaLost
  /-- TIME_REPLICA_FENCE (0x0C), Degrade; source: Island 4 to 18. -/
  | timeReplicaFence
  /-- FAB_WRITE_REFUSED (0x10), Note; source: Hub. -/
  | fabWriteRefused
  /-- FAB_NO_DEST (0x11), Note; source: Hub. -/
  | fabNoDest
  /-- FAB_MSG_DROP (0x12), Note; source: Hub. -/
  | fabMsgDrop
  /-- FAB_SEQ_GAP (0x13), Note; source: Hub. -/
  | fabSeqGap
  /-- STORE_UE (0x14), Note; source: Hub. -/
  | storeUe
  /-- STORE_CE (0x15), Note; source: Island 1. -/
  | storeCe
  /-- SPRUE_PARITY (0x20), Note; source: Sprue queue. -/
  | sprueParity
  /-- SPRUE_PARITY_BURST (0x21), Degrade; source: Sprue queue. -/
  | sprueParityBurst
  /-- SPRUE_OVERRUN (0x22), Degrade; source: Sprue queue. -/
  | sprueOverrun
  /-- SPRUE_CORE_LOST (0x23), Fatal; source: Sprue queue. -/
  | sprueCoreLost
  /-- CMD_DOORBELL_LOST (0x28), Note; source: Hub. -/
  | cmdDoorbellLost
  /-- CMD_OVERRUN (0x29), Note; source: Hub. -/
  | cmdOverrun
  /-- BOOT_SCRIPT_STOP (0x2A), Degrade; source: Hub. -/
  | bootScriptStop
  /-- RING_BREAK (0x30), Note; source: Port 0 or 1. -/
  | ringBreak
  /-- RING_DUP_ID (0x31), Note; source: Hub. -/
  | ringDupId
  /-- RING_UNREACH (0x32), Note; source: Hub. -/
  | ringUnreach
  /-- RING_SPLIT_AS_TWIN (0x33), Note; source: Hub. -/
  | ringSplitAsTwin
  /-- PREEMPT_VERIFY_FAIL (0x34), Note; source: Port. -/
  | preemptVerifyFail
  /-- LMAC_HALF_DUPLEX (0x35), Note; source: Port 2 to 5. -/
  | lmacHalfDuplex
  /-- WINDOW_DROP (0x36), Note; source: Port. -/
  | windowDrop
  /-- TIME_STEP (0x40), Note; source: Island 2. -/
  | timeStep
  /-- TIME_HOLDOVER_END (0x41), Note; source: Island 2. -/
  | timeHoldoverEnd
  /-- TIME_JUMP_REFUSED (0x42), Note; source: Island 2. -/
  | timeJumpRefused
  /-- TIME_ACT_SKIPPED (0x43), Note; source: Island 2. -/
  | timeActSkipped
  /-- LEDGER_HOLD_FULL (0x48), Note; source: Island 1. -/
  | ledgerHoldFull
  /-- LEDGER_TRIG_LATE (0x49), Note; source: Island 1. -/
  | ledgerTrigLate
  /-- LEDGER_TRIG_MISS (0x4A), Note; source: Island 1. -/
  | ledgerTrigMiss
  /-- PIMG_MAP_BAD (0x4B), Note; source: Island 1. -/
  | pimgMapBad
  /-- BRIDGE_WQ_DROP (0x50), Note; source: Island 21. -/
  | bridgeWqDrop
  /-- SALVAGE_HELD (0x51), Note; source: Island 21. -/
  | salvageHeld
  /-- CAN_BUS_OFF (0x58), Note; source: CAN controller. -/
  | canBusOff
  /-- CAN_RXQ_OVF (0x59), Note; source: CAN controller. -/
  | canRxqOvf
  /-- CAN_FLT_COPY_BAD (0x5A), Note; source: CAN controller. -/
  | canFltCopyBad
  /-- FLASK_BAD_JUMP (0x60), Note; source: Flask engine. -/
  | flaskBadJump
  /-- FLASK_PMEM_PARITY (0x61), Degrade; source: Flask island. -/
  | flaskPmemParity
  /-- DIO_EVQ_OVF (0x68), Note; source: DIO island. -/
  | dioEvqOvf
  /-- DIO_READBACK (0x69), Note or Safety; source: Discrete line. -/
  | dioReadback
  /-- DIO_SAFETY_WRITE (0x6A), Note; source: Discrete line. -/
  | dioSafetyWrite
  /-- FEED_LOST (0x70), Note; source: Feed. -/
  | feedLost
  /-- FEED_SWITCH_STUCK (0x71), Safety; source: Feed. -/
  | feedSwitchStuck
  /-- FEED_PRIO_BAD (0x72), Note; source: Hub. -/
  | feedPrioBad
  /-- PCH_SHORT (0x73), Note; source: Channel. -/
  | pchShort
  /-- PCH_START_SHORT (0x74), Note; source: Channel. -/
  | pchStartShort
  /-- PCH_OVERCURRENT (0x75), Note; source: Channel. -/
  | pchOvercurrent
  /-- PCH_FET_OPEN (0x76), Note; source: Channel. -/
  | pchFetOpen
  /-- PCH_FET_STRESS (0x77), Note; source: Channel. -/
  | pchFetStress
  /-- PCH_RETRY_EXHAUSTED (0x78), Note; source: Channel. -/
  | pchRetryExhausted
  /-- PCH_FET_SHORT (0x79), Safety; source: Channel. -/
  | pchFetShort
  /-- PCH_SAFETY_WRITE (0x7A), Note; source: Channel. -/
  | pchSafetyWrite
  /-- PEDIE_LINK_GAP (0x80), Note; source: Island 23 or 24. -/
  | pedieLinkGap
  /-- PEDIE_LINK_LOST (0x81), Degrade; source: Island 23 or 24. -/
  | pedieLinkLost
  /-- PEDIE_TRIP_TEST (0x82), Safety; source: Channel. -/
  | pedieTripTest
  /-- USB_PORT_OC (0x88), Note; source: USB port. -/
  | usbPortOc
  /-- PD_CONVERTER (0x90), Note; source: PD port. -/
  | pdConverter
  /-- PD_OCP (0x91), Note; source: PD port. -/
  | pdOcp
  /-- PD_DETACH_IN_TRANSITION (0x92), Note; source: PD port. -/
  | pdDetachInTransition
  /-- PD_POLICY_WDOG (0x93), Note; source: Island 20. -/
  | pdPolicyWdog
  /-- CRUC_LANE_DISSENT (0xA0), Degrade; source: Crucible lane. -/
  | crucLaneDissent
  /-- CRUC_ASSAY_FAIL (0xA1), Degrade; source: Crucible lane. -/
  | crucAssayFail
  /-- CRUC_SINGLE_LANE (0xA2), Safety; source: Crucible lane in control. -/
  | crucSingleLane
  /-- CRUC_NO_MAJORITY (0xA3), Fatal; source: Island 3. -/
  | crucNoMajority
  /-- CRUC_DUAL_UNRESOLVED (0xA4), Fatal; source: Island 3. -/
  | crucDualUnresolved
  /-- CRUC_NO_LANE (0xA5), Fatal; source: Island 3. -/
  | crucNoLane
  /-- SAFETY_CONFIG_WRITE (0xA6), Note; source: Safety function. -/
  | safetyConfigWrite
  /-- SF_INPUT_TEST (0xA7), Safety; source: Discrete line. -/
  | sfInputTest
  /-- CALIB_CRC (0xB0), Degrade; source: Hub. -/
  | calibCrc
  /-- UPD_RECOVERED (0xB1), Note; source: Hub. -/
  | updRecovered
  /-- UPD_ACTIVATE_MISSED (0xB2), Note; source: Hub. -/
  | updActivateMissed
  deriving DecidableEq, Repr

/-- KIND as HEAD carries it (Table 18.3). -/
def FaultKind.code : FaultKind → Nat
  | .rwlRefused => 0x01
  | .unmappedAccess => 0x02
  | .refclkLost => 0x03
  | .selftestFail => 0x04
  | .coreUnitLost => 0x05
  | .islandHang => 0x06
  | .islandGivenUp => 0x07
  | .timeReplica => 0x0A
  | .timeReplicaLost => 0x0B
  | .timeReplicaFence => 0x0C
  | .fabWriteRefused => 0x10
  | .fabNoDest => 0x11
  | .fabMsgDrop => 0x12
  | .fabSeqGap => 0x13
  | .storeUe => 0x14
  | .storeCe => 0x15
  | .sprueParity => 0x20
  | .sprueParityBurst => 0x21
  | .sprueOverrun => 0x22
  | .sprueCoreLost => 0x23
  | .cmdDoorbellLost => 0x28
  | .cmdOverrun => 0x29
  | .bootScriptStop => 0x2A
  | .ringBreak => 0x30
  | .ringDupId => 0x31
  | .ringUnreach => 0x32
  | .ringSplitAsTwin => 0x33
  | .preemptVerifyFail => 0x34
  | .lmacHalfDuplex => 0x35
  | .windowDrop => 0x36
  | .timeStep => 0x40
  | .timeHoldoverEnd => 0x41
  | .timeJumpRefused => 0x42
  | .timeActSkipped => 0x43
  | .ledgerHoldFull => 0x48
  | .ledgerTrigLate => 0x49
  | .ledgerTrigMiss => 0x4A
  | .pimgMapBad => 0x4B
  | .bridgeWqDrop => 0x50
  | .salvageHeld => 0x51
  | .canBusOff => 0x58
  | .canRxqOvf => 0x59
  | .canFltCopyBad => 0x5A
  | .flaskBadJump => 0x60
  | .flaskPmemParity => 0x61
  | .dioEvqOvf => 0x68
  | .dioReadback => 0x69
  | .dioSafetyWrite => 0x6A
  | .feedLost => 0x70
  | .feedSwitchStuck => 0x71
  | .feedPrioBad => 0x72
  | .pchShort => 0x73
  | .pchStartShort => 0x74
  | .pchOvercurrent => 0x75
  | .pchFetOpen => 0x76
  | .pchFetStress => 0x77
  | .pchRetryExhausted => 0x78
  | .pchFetShort => 0x79
  | .pchSafetyWrite => 0x7A
  | .pedieLinkGap => 0x80
  | .pedieLinkLost => 0x81
  | .pedieTripTest => 0x82
  | .usbPortOc => 0x88
  | .pdConverter => 0x90
  | .pdOcp => 0x91
  | .pdDetachInTransition => 0x92
  | .pdPolicyWdog => 0x93
  | .crucLaneDissent => 0xA0
  | .crucAssayFail => 0xA1
  | .crucSingleLane => 0xA2
  | .crucNoMajority => 0xA3
  | .crucDualUnresolved => 0xA4
  | .crucNoLane => 0xA5
  | .safetyConfigWrite => 0xA6
  | .sfInputTest => 0xA7
  | .calibCrc => 0xB0
  | .updRecovered => 0xB1
  | .updActivateMissed => 0xB2

/-- The class of a kind (Table 18.3); DIO_READBACK is Safety-class on a safety-designated line (R484) and is raised
there with its class named. -/
def FaultKind.cls : FaultKind → FaultClass
  | .rwlRefused => .note
  | .unmappedAccess => .note
  | .refclkLost => .fatal
  | .selftestFail => .degrade
  | .coreUnitLost => .fatal
  | .islandHang => .degrade
  | .islandGivenUp => .degrade
  | .timeReplica => .note
  | .timeReplicaLost => .fatal
  | .timeReplicaFence => .degrade
  | .fabWriteRefused => .note
  | .fabNoDest => .note
  | .fabMsgDrop => .note
  | .fabSeqGap => .note
  | .storeUe => .note
  | .storeCe => .note
  | .sprueParity => .note
  | .sprueParityBurst => .degrade
  | .sprueOverrun => .degrade
  | .sprueCoreLost => .fatal
  | .cmdDoorbellLost => .note
  | .cmdOverrun => .note
  | .bootScriptStop => .degrade
  | .ringBreak => .note
  | .ringDupId => .note
  | .ringUnreach => .note
  | .ringSplitAsTwin => .note
  | .preemptVerifyFail => .note
  | .lmacHalfDuplex => .note
  | .windowDrop => .note
  | .timeStep => .note
  | .timeHoldoverEnd => .note
  | .timeJumpRefused => .note
  | .timeActSkipped => .note
  | .ledgerHoldFull => .note
  | .ledgerTrigLate => .note
  | .ledgerTrigMiss => .note
  | .pimgMapBad => .note
  | .bridgeWqDrop => .note
  | .salvageHeld => .note
  | .canBusOff => .note
  | .canRxqOvf => .note
  | .canFltCopyBad => .note
  | .flaskBadJump => .note
  | .flaskPmemParity => .degrade
  | .dioEvqOvf => .note
  | .dioReadback => .note
  | .dioSafetyWrite => .note
  | .feedLost => .note
  | .feedSwitchStuck => .safety
  | .feedPrioBad => .note
  | .pchShort => .note
  | .pchStartShort => .note
  | .pchOvercurrent => .note
  | .pchFetOpen => .note
  | .pchFetStress => .note
  | .pchRetryExhausted => .note
  | .pchFetShort => .safety
  | .pchSafetyWrite => .note
  | .pedieLinkGap => .note
  | .pedieLinkLost => .degrade
  | .pedieTripTest => .safety
  | .usbPortOc => .note
  | .pdConverter => .note
  | .pdOcp => .note
  | .pdDetachInTransition => .note
  | .pdPolicyWdog => .note
  | .crucLaneDissent => .degrade
  | .crucAssayFail => .degrade
  | .crucSingleLane => .safety
  | .crucNoMajority => .fatal
  | .crucDualUnresolved => .fatal
  | .crucNoLane => .fatal
  | .safetyConfigWrite => .note
  | .sfInputTest => .safety
  | .calibCrc => .degrade
  | .updRecovered => .note
  | .updActivateMissed => .note

/-- Every kind, in the order of Table 18.3. -/
def FaultKind.all : List FaultKind :=
  [.rwlRefused, .unmappedAccess, .refclkLost, .selftestFail, .coreUnitLost, .islandHang,
   .islandGivenUp, .timeReplica, .timeReplicaLost, .timeReplicaFence, .fabWriteRefused, .fabNoDest,
   .fabMsgDrop, .fabSeqGap, .storeUe, .storeCe, .sprueParity, .sprueParityBurst,
   .sprueOverrun, .sprueCoreLost, .cmdDoorbellLost, .cmdOverrun, .bootScriptStop, .ringBreak,
   .ringDupId, .ringUnreach, .ringSplitAsTwin, .preemptVerifyFail, .lmacHalfDuplex, .windowDrop,
   .timeStep, .timeHoldoverEnd, .timeJumpRefused, .timeActSkipped, .ledgerHoldFull, .ledgerTrigLate,
   .ledgerTrigMiss, .pimgMapBad, .bridgeWqDrop, .salvageHeld, .canBusOff, .canRxqOvf,
   .canFltCopyBad, .flaskBadJump, .flaskPmemParity, .dioEvqOvf, .dioReadback, .dioSafetyWrite,
   .feedLost, .feedSwitchStuck, .feedPrioBad, .pchShort, .pchStartShort, .pchOvercurrent,
   .pchFetOpen, .pchFetStress, .pchRetryExhausted, .pchFetShort, .pchSafetyWrite, .pedieLinkGap,
   .pedieLinkLost, .pedieTripTest, .usbPortOc, .pdConverter, .pdOcp, .pdDetachInTransition,
   .pdPolicyWdog, .crucLaneDissent, .crucAssayFail, .crucSingleLane, .crucNoMajority, .crucDualUnresolved,
   .crucNoLane, .safetyConfigWrite, .sfInputTest, .calibCrc, .updRecovered, .updActivateMissed]

/-- The kind a code names. -/
def FaultKind.ofCode (n : Nat) : Option FaultKind := FaultKind.all.find? fun k => k.code == n

/-- The fence units of Table 1.5. -/
inductive FenceUnit where
  | canIsl (i : Nat)
  | flask (f : Nat)
  | dioBank (b : Nat)
  | lane (l : Nat)
  | ringPort (p : Nat)
  | pedie (d : Nat)
  deriving DecidableEq, Repr

/-- The unit's bit in SYS_FENCE (Table 1.6). -/
def FenceUnit.bit : FenceUnit → Nat
  | .canIsl i => i | .flask f => 4 + f | .dioBank b => 12 + b | .lane l => 16 + l | .ringPort p => 20 + p
  | .pedie d => 22 + d

/-- SOURCE of an island (Table 18.2). -/
def srcIsland (i : Nat) : Nat := 0x100 + i
/-- SOURCE of an Ethernet port (Table 18.2). -/
def srcPort (p : Nat) : Nat := 0x200 + p
/-- SOURCE of a CAN controller (Table 18.2). -/
def srcCan (n : Nat) : Nat := 0x300 + n
/-- SOURCE of a Flask engine (Table 18.2). -/
def srcEngine (f e : Nat) : Nat := 0x400 + 8 * f + e
/-- SOURCE of a discrete line (Table 18.2). -/
def srcLine (j : Nat) : Nat := 0x500 + j
/-- SOURCE of a string power channel (Table 18.2). -/
def srcPch (c : Nat) : Nat := 0x600 + c
/-- SOURCE of a feed (Table 18.2). -/
def srcFeed (f : Nat) : Nat := 0x700 + f
/-- SOURCE of a Crucible lane (Table 18.2). -/
def srcLane (l : Nat) : Nat := 0x800 + l
/-- SOURCE of a safety function (Table 18.2). -/
def srcSf (f : Nat) : Nat := 0x900 + f
/-- SOURCE of a Sprue queue (Table 18.2). -/
def srcQueue (q : Nat) : Nat := 0xA00 + q
/-- SOURCE of a USB port (Table 18.2). -/
def srcUsb (p : Nat) : Nat := 0xC00 + p
/-- SOURCE of a PD port (Table 18.2). -/
def srcPd (p : Nat) : Nat := 0xD00 + p
/-- SOURCE of the hub itself (Table 18.2). -/
def srcHub : Nat := 0

/-- The initiator code of Table 2.2; a peer's frame keeps the code its own hub gave it (R44). -/
def whoCode : Who → Nat
  | .xspi => 0 | .usb => 1 | .rom => 2 | .lmac p => 4 + p.val | .ring _ i => i.toNat

/-- The 48-bit fabric address of node, space and offset (R41). -/
def fabAddr (node space off : Nat) : Nat := node * 2 ^ 40 + space * 2 ^ 32 + off

/-- Nanoseconds in a second. -/
def nsPerSec : Nat := 1000000000

/-- The 10 bytes of a full stamp (R9) given as nanoseconds of ring time. -/
def stampBytes (t : Nat) : List Byte := leBytes 6 (t / nsPerSec) ++ leBytes 4 (t % nsPerSec)

/-- The nanoseconds of a stored full stamp (R9). -/
def stampOf (bs : List Byte) : Nat := leAt bs 0 6 * nsPerSec + leAt bs 6 4

/-- The short stamp (R9): the nanosecond count of ring time modulo 2^32. -/
def shortStamp (t : Nat) : Nat := t % 2 ^ 32

end Sys2Proof.Machine
end

