-- ==== Sys2Proof/Machine/CoreState.lean ====
section
/-! DEFINITION. State of the parts every unit leans on: what leaves the hub, island replicas, Sprue queues, the fabric
engine, commands, the bridge and the fault collector. Registers a table names are in the register file; here stands
what the rules name beside them. -/

namespace Sys2Proof.Machine

/-- What the hub has put on its ports and pins, newest first in `State.outs`. -/
inductive Out where
  /-- A fabric frame (R49): ports as a mask (bit 0 Cope, 1 Drag, 2 + p LMACp), destination MAC address, header and
  payload. -/
  | fabFrame (ports : Nat) (mac : Nat) (bytes : List Byte)
  /-- An Ethernet frame or mPacket as it left a port (R163, R168): the port, the start delimiter, the fragment count byte of
  a continuation, and the bytes from the next one on to the last byte of the check value: the FCS, the mCRC of an mPacket that
  is not the last (of verify and respond too), or the stomped FCS of a copy that failed (R136). -/
  | frame (port smd : Nat) (frag : Option Nat) (bytes : List Byte)
  /-- A ring port that has lost lock sends Remote Fault (R151). -/
  | remoteFault (port : Nat)
  /-- A reply delivered to the host on the xSPI mailbox (R92). -/
  | xspiReply (bytes : List Byte)
  /-- The answer of an xSPI transaction: status byte and data bytes (R276). -/
  | xspiData (status : Nat) (data : List Byte)
  /-- What a USB IN endpoint (or EP0) of the management device, or the hub, returns. -/
  | usbIn (ep : Nat) (bytes : List Byte)
  /-- A handshake of the USB hub or device: 0 ACK, 1 NAK, 2 STALL, 3 NYET, 4 ERR. -/
  | usbShake (ep : Nat) (code : Nat)
  /-- A link frame to a power-edge die (R16). -/
  | linkFrame (die : Nat) (bytes : List Byte)
  /-- A freeze order to power-edge die 0 (R19). -/
  | freeze
  /-- A frame put on a CAN bus at its start-of-frame: controller and the frame's fields in order. -/
  | canFrame (c : Nat) (bytes : List Byte)
  /-- A USB PD message on a port, header first; ports 16 to 18: the same ports towards the cable plug (SOP'); no bytes:
  Hard Reset; the byte 0xFF alone: a Fast Role Swap signal. -/
  | pdMsg (port : Nat) (bytes : List Byte)
  /-- The values a register read delivered to its initiator. -/
  | readData (status : Nat) (words : List Byte)
  /-- A word a Sprue queue delivers at its read side: queue, bytes, VB, end mark, poison (Table 3.2). -/
  | sprueWord (q : Nat) (bytes : List Byte) (vb : Nat) (eop poison : Bool)
  /-- Bits shifted out of the TAP. -/
  | tdo (bits : List Bool)
  deriving DecidableEq, Repr

/-- One island's replica of ring time (R14): error against the master counter in nanoseconds, failed checks in a row,
and whether its stamps carry TIME_SUSPECT until the reload. -/
structure Replica where
  err     : Int := 0
  fails   : Nat := 0
  suspect : Bool := false
  deriving DecidableEq, Repr

/-! Sprue queues -/

/-- A read-side word in a chain with its tags (Table 3.2), `par` a parity bit per 8 data bytes; `forced` the ADDR parameter
when an injection wrote its parity inverted (R496). -/
structure SprueWord where
  bytes  : List Byte
  vb     : Nat
  eop    : Bool
  poison : Bool
  par    : List Bool
  forced : Option Nat := none
  deriving DecidableEq, Repr

/-- A Sprue queue beside its registers: the chain in order, the packing register, whether a packet is open at the
write side, whether a closing word still waits for a Peck (R85), the reads whose Pecks are still crossing back, the armed parity injection and its ADDR parameter when FORCED, the moments of recent parity
failures, the last watermark sample, and which ends run. -/
structure SprueQ where
  chain     : List SprueWord := []
  packing   : List Byte := []
  packPois  : Bool := false
  openPkt   : Bool := false
  closing   : Bool := false
  crossing  : Nat := 0
  injNext   : Bool := false
  injForced : Option Nat := none
  fails     : List Nat := []
  wasAbove  : Bool := false
  writeRuns : Bool := true
  readRuns  : Bool := true
  deriving DecidableEq, Repr

/-! Fabric engine -/

/-- Who waits for the RESP of a transaction slot; a host on local port `p` with the TID of its own request. -/
inductive FabClient where
  | ladle (l : Nat)
  | lmac (p tid : Nat)
  | rom
  deriving DecidableEq, Repr

/-- One transaction slot (R58, R59); `sentAt` the uptime its request left the hub, none before. -/
structure FabSlot where
  inUse  : Bool := false
  gen    : Nat := 0
  node   : Nat := 0
  addr   : Nat := 0
  len    : Nat := 0
  init   : Nat := 0
  client : FabClient := .rom
  sentAt : Option Nat := none
  quarUntil : Option Nat := none
  deriving DecidableEq, Repr

/-- A READ or CAS of a local initiator on its way to another node (R58): `cas` holds compare and swap values. -/
structure FabReq where
  client : FabClient
  init   : Nat
  addr   : Nat
  len    : Nat
  cas    : List Byte
  deriving DecidableEq, Repr

/-- A frame held in the reorder buffer (R64). -/
structure HeldFrame where
  src    : Nat
  bcast  : Bool
  seq    : Nat
  heldAt : Nat
  rx     : FabRx
  deriving DecidableEq, Repr

/-- The fabric engine beside its registers: transaction slots, requests without a slot, SEQ counters
per destination (255: broadcast), next expected SEQ per source (256 + n: broadcasts of n; 65536 when none is known),
the reorder buffer, the frames already counted undelivered as (destination node, SEQ) until that SEQ is sent again, and the
MAC addresses learned from local hosts. -/
structure FabBlock where
  slots    : Tbl FabSlot := []
  waiting  : List FabReq := []
  txSeq    : Tbl Nat := []
  rxSeq    : Tbl Nat := []
  held     : List HeldFrame := []
  returned : List (Nat × Nat) := []
  hostMac  : Tbl Nat := []
  deriving DecidableEq, Repr

/-! Commands -/

/-- What a started command still waits for; the row that brings it about forms the reply. -/
inductive WaitKind where
  /-- A unit condition that another row brings about: `op` the opcode, `a` and `b` the units named. -/
  | unit (a b : Nat)
  /-- The moment of `uptime` at which the hub itself completes the command. -/
  | until (at_ : Nat)
  deriving DecidableEq, Repr

/-- Where a command stands between acceptance and delivery of its reply. -/
inductive CmdPhase where
  /-- Accepted, not yet started (R111). -/
  | accepted
  /-- Executing since `start` of the uptime; `wait` when another row ends it. -/
  | executing (start : Nat) (wait : Option WaitKind)
  /-- Its reply is formed and not yet delivered. -/
  | replied
  /-- Sent to another node (R107). -/
  | remote (node : Nat) (sentAt : Nat)
  /-- Answered TIMEOUT locally; the tag stays busy (R108). -/
  | held (until_ : Nat) (delivered : Bool)
  /-- Sent to every node (R109), with the replies so far as (node, status) and whether this hub runs it too. -/
  | broadcast (closeAt : Nat) (self : Bool) (replies : List (Nat × Nat))
  deriving DecidableEq, Repr

/-- A command from acceptance to delivery: arrival number, packet bytes, ring time and uptime of acceptance. -/
structure CmdEntry where
  key     : CmdKey
  order   : Nat
  packet  : List Byte
  stamp   : Nat
  since   : Nat
  phase   : CmdPhase
  /-- A local broadcast execution whose reply goes to this hub's own record (R109). -/
  ownBcast : Bool := false
  /-- A USB bus reset has discarded its reply (R105). -/
  mute     : Bool := false
  /-- Number of its record in the command log, once logged. -/
  logAt    : Nat := 0
  /-- The place in which the ROM took it from its transport (R111), none before. -/
  taken    : Option Nat := none
  deriving DecidableEq, Repr

/-- A reply waiting on a transport: `answers` when it answers an outstanding command (R92), `src` the node that formed
it, 0 for this hub. -/
structure Reply where
  key     : CmdKey
  answers : Bool
  src     : Nat
  bytes   : List Byte
  deriving DecidableEq, Repr

/-- A MESSAGE that went out for a local initiator (R107, R109): where to (255: to every node), whose it was, the opcode and
tag of its packet, and when. A reply MESSAGE is known by it. -/
structure SentMsg where
  node : Nat
  init : Nat
  op   : Nat
  tag  : Nat
  at_  : Nat
  deriving DecidableEq, Repr

/-- Commands beside their registers: the outstanding commands, the replies waiting on xSPI and USB in the order formed,
the request window's bytes, the uptime at which BUSY clears, the next arrival number and the next place in the order
taken, the MESSAGEs sent for local initiators in the last 64 s, whether the log's circle is full, and the boot script's
packets still to come with the offsets of the last taken and of the next and what became of the script. -/
structure CmdBlock where
  entries  : List CmdEntry := []
  xspi     : List Reply := []
  usb      : List Reply := []
  window   : Tbl Byte := []
  busyUntil : Nat := 0
  nextOrder : Nat := 0
  nextTake : Nat := 0
  sentMsgs : List SentMsg := []
  logFull  : Bool := false
  script   : List (List Byte) := []
  scriptAt : Nat := 0
  scriptNext : Nat := 0
  scriptRun : Bool := false
  warmResetAt : Option Nat := none
  deriving DecidableEq, Repr

/-! Bridge -/

/-- A posted write (R273). -/
structure PostedWrite where
  init : Nat
  addr : Nat
  data : List Byte
  deriving DecidableEq, Repr

/-- The states of a Ladle (R277). -/
inductive LadleState where
  | free | fetching | ready
  deriving DecidableEq, Repr

/-- A Ladle (R277): initiator (0 xSPI, 1 USB), key, data, CODE, and the marks of R282, R285 and R287. -/
structure Ladle where
  st         : LadleState := .free
  init       : Nat := 0
  addr       : Nat := 0
  len        : Nat := 0
  cas        : List Byte := []
  data       : List Byte := []
  code       : Nat := 0
  prefetched : Bool := false
  sensitive  : Bool := false
  slot       : Option Nat := none
  readyAt    : Nat := 0
  /-- Queued writes of its initiator to the same destination that its fetch waits for (R281). -/
  after      : Nat := 0
  /-- Its request to another node has left. -/
  sent       : Bool := false
  /-- Place of its request among those taken (R62). -/
  issue      : Nat := 0
  /-- Abandoned by a reset of its initiator or of the host island: its read-sensitive data goes to its Salvage slot. -/
  gone       : Bool := false
  deriving DecidableEq, Repr

/-- A Salvage slot (R286): held data or a reservation. -/
structure Salvage where
  held     : Bool := false
  reserved : Bool := false
  init     : Nat := 0
  addr     : Nat := 0
  len      : Nat := 0
  code     : Nat := 0
  stamp    : Nat := 0
  data     : List Byte := []
  order    : Nat := 0
  deriving DecidableEq, Repr

/-- The bridge beside its registers: `order` numbers the Salvage slots filled, `issues` the requests taken. -/
structure BridgeBlock where
  writes  : List PostedWrite := []
  ladles  : Tbl Ladle := []
  salvage : Tbl Salvage := []
  order   : Nat := 0
  issues  : Nat := 0
  deriving DecidableEq, Repr

/-! Fault collector -/

/-- A fault raised and not yet collected (R485). -/
structure Raised where
  cls     : FaultClass
  kind    : FaultKind
  source  : Nat
  addr    : Nat
  stamp   : Nat
  detail  : List Byte
  forced  : Bool
  suspect : Bool
  /-- Uptime of detection; faults of one 2.5 ns Crucible cycle are collected by class, SOURCE and KIND (R485). -/
  since   : Nat
  deriving DecidableEq, Repr

/-- A notice in the notice queue (Table 18.4). -/
structure Notice where
  head : Nat
  addr : Nat
  idx  : Nat
  seq  : Nat
  deriving DecidableEq, Repr

/-- The collector beside its registers: the 32-entry intake, the latches of Safety- and Fatal-class sources, a pending
LOSS mark, the notice queue, unacknowledged records as (index, SEQ, class code), the AON island's HELD latch and
record, the armed key of FAULT_FORCE, the injection under way (its ADDR parameter), and the last report of STORE_CE per
bank with the corrections since. `react` holds the faults whose reaction (Table 18.5) is still to be taken in this step;
`logFull` that every place of the fault log has been written. -/
structure FaultBlock where
  intake   : List Raised := []
  latches  : List Raised := []
  loss     : Bool := false
  notices  : List Notice := []
  unacked  : List (Nat × Nat × Nat) := []
  held     : Bool := false
  heldRec  : List Byte := []
  keyOpen  : Bool := false
  forcing  : Option Nat := none
  react    : List Raised := []
  ceLast   : Tbl Nat := []
  ceTimes  : Tbl (List Nat) := []
  logFull  : Bool := false
  deriving DecidableEq, Repr

/-- The USB, Policy or Host island under its watchdog (R491). -/
structure IslandReset where
  inReset : Bool := false
  since   : Nat := 0
  hangs   : List Nat := []
  givenUp : Bool := false
  deriving DecidableEq, Repr

end Sys2Proof.Machine
end

