-- ==== Sys2Proof/Machine/LedgerState.lean ====
section
/-! DEFINITION. State of the event ledger, the process image and the frame descriptors handed to stream contexts, beside
their registers (R241 to R267, R190). -/

namespace Sys2Proof.Machine

/-- A ledger record (Table 9.2); `stamp` in nanoseconds of ring time, `data` its 12 DATA bytes. -/
structure LRec where
  stamp  : Nat
  node   : Nat
  type   : Nat
  unit   : Nat
  source : Nat
  flags  : Nat
  sseq   : Nat
  data   : List Byte
  deriving DecidableEq, Repr

/-- What the merge keeps of a subscription beside SUB_CFG, SUB_START and SUB_END: the next SSEQ expected (0 while none
is known), the last watermark taken and whether one was taken, a watermark entry that waits for the records up to its
LAST_SSEQ, the publisher's EPOCH (256 while unknown), the records ahead of a gap as (SSEQ, uptime of arrival, stamp),
and the SSEQ values declared lost. -/
structure Sub where
  next    : Nat := 0
  wm      : Nat := 0
  wmTaken : Bool := false
  waitWm  : Option (Nat × Nat) := none
  epoch   : Nat := 256
  ahead   : List (Nat × Nat × Nat) := []
  lost    : List Nat := []
  deriving DecidableEq, Repr

/-- The ledger beside its registers: SSEQ last used per source, own lags in force per source (with the default in the
register), subscriptions, the hold buffer as (record, subscription, uptime of arrival), the last record released, the
uptime of the last full-buffer report, of the last late and the last missed trigger report, records released in this
step whose triggers are still to be judged, and when each context last sent a ledger frame. -/
structure LedgerBlock where
  sseq     : Tbl Nat := []
  subs     : Tbl Sub := []
  hold     : List (LRec × Nat × Nat) := []
  last     : Option LRec := none
  fullAt   : Option Nat := none
  lateAt   : Option Nat := none
  missAt   : Option Nat := none
  trigs    : List LRec := []
  sentAt   : Tbl Nat := []
  deriving DecidableEq, Repr

/-- A slot's map entry (Table 9.8) and what the store keeps of it: whether its consumer has taken the value, and the
uptime of the last write and that of setting the entry, each plus 1, 0 for none. -/
structure SlotMap where
  w0    : Nat := 0
  w1    : Nat := 0
  w2    : Nat := 0
  w3    : Nat := 0
  taken : Bool := true
  wrote : Nat := 0
  setAt : Nat := 0
  deriving DecidableEq, Repr

/-- The process image beside its registers and slots: map entries, and the slots written in this step whose consumers
are still to be told. -/
structure PimgBlock where
  maps  : Tbl SlotMap := []
  dirty : List Nat := []
  deriving DecidableEq, Repr

/-- A frame descriptor handed to a stream context (R190): a range of the store, or the bytes of a frame the hub itself
formed, whether it arrived already marked yellow, the local port it was received on (6: none), and the one local port it is
for when it is a fabric frame to a host. -/
structure Descr where
  bytes  : Option (List Byte)
  addr   : Nat
  len    : Nat
  yellow : Bool
  origin : Nat := 6
  port   : Option Nat := none
  deriving DecidableEq, Repr

end Sys2Proof.Machine
end

