-- ==== Sys2Proof/Machine/NetState.lean ====
section
/-! DEFINITION. State of the ring ports, the MACs and the egress ports beside their registers (R126 to R212). -/

namespace Sys2Proof.Machine

/-! Ring -/

/-- A ring port beside RING_PCTRL and RING_PSTAT: uptime its present seeking began, uptime of the last valid hello and
of the last hello it sent, hellos missed in a row, the neighbour's FALLBACK bit in its last hello (none before one), the
rate changes announced by this port and by the neighbour as (rate, ring time), uptime the heal hold last (re)started,
and RING_PSTAT as it stood when a loop test took the port. -/
structure RingPort where
  seekAt    : Nat := 0
  helloAt   : Nat := 0
  helloSent : Nat := 0
  missed    : Nat := 0
  nbFallback : Option Bool := none
  ownChange : Option (Nat × Nat) := none
  nbChange  : Option (Nat × Nat) := none
  holdAt    : Nat := 0
  loopFrom  : Option Nat := none
  deriving DecidableEq, Repr

/-- An entry of the duplicate table (R137): highest SEQ accepted, the window as bits (bit i: `high - i` was seen), and
the uptime of the last refresh. -/
structure DupEntry where
  high : Nat
  seen : Nat
  at_  : Nat
  deriving DecidableEq, Repr

/-- A notice of a broken or healed segment (R151, R152): the segment as 256 × the hub at its Cope end + the hub at its
Drag end. -/
structure SegNotice where
  seg     : Nat
  brk     : Bool
  applyAt : Nat
  txStamp : Nat
  deriving DecidableEq, Repr

/-- A break or heal of an own port, repeated in the next `left` supervision frames (R145). -/
structure OwnNotice where
  port    : Nat
  brk     : Bool
  peer    : Nat
  applyAt : Nat
  left    : Nat
  deriving DecidableEq, Repr

/-- What the ring map holds beside RING_MAP: uptime of the node's last supervision frame, and whether it reported both
ports UP. -/
structure MapNote where
  at_  : Nat := 0
  both : Bool := false
  deriving DecidableEq, Repr

/-- The Split path of a context to one node (R149, R155): the port its next frame takes, the uptime its last frame started, the
wait after the last frame on the old path in ns, and the uptime before which it may not send on its new path. -/
structure SplitPath where
  port  : Option Nat := none
  last  : Nat := 0
  wait  : Nat := 0
  hold  : Option Nat := none
  deriving DecidableEq, Repr

/-- An enumeration run this hub began (R142): RUN and the command's key. -/
structure EnumRun where
  run  : Nat
  key  : Sys2Proof.CmdKey
  deriving DecidableEq, Repr

/-- The ring island beside its registers: the two ports; transmit sequence counters by key 2^12 × destination + VLAN as
(next SEQ, uptime last used) (R132); the supervision counter; the duplicate table by key 2^60 × source + 2^12 ×
destination + VLAN; ring map notes; segments recorded as broken, notices that wait for their APPLY_AT, and the last one
applied per segment; own notices to repeat; the previous fabric address and until when it is removed (R141); foreign
sources seen and the uptime of the last (R147); uptime of the last RING_UNREACH fault per node; the enumeration under
way and the last RUN; uptime of the last supervision frame sent; Split paths by key 256 × context + node. -/
structure RingBlock where
  ports     : Tbl RingPort := []
  txSeq     : Tbl (Option (Nat × Nat)) := []
  supSeq    : Nat := 0
  dup       : Tbl (Option DupEntry) := []
  notes     : Tbl MapNote := []
  broken    : List Nat := []
  notices   : List SegNotice := []
  applied   : Tbl (Option SegNotice) := []
  own       : List OwnNotice := []
  prevId    : Option (Nat × Nat) := none
  foreign   : List Nat := []
  foreignAt : Nat := 0
  unreachAt : Tbl (Option Nat) := []
  enum      : Option EnumRun := none
  runNo     : Nat := 0
  supAt     : Nat := 0
  paths     : Tbl SplitPath := []
  deriving DecidableEq, Repr

/-! Egress -/

/-- A frame queued in a context (R190, R192): its bytes without FCS and HSR tag, the egress ports (bit mask, 0 Cope to 5
LMAC3) at which it has still to start, those at which it has still to end, whether it was sent whole by one, the port it came
in by (6: none), its HSR SEQ once given, whether both ring copies are Twin copies, the node a Split frame goes to (256: none),
ENQ_SEQ of its descriptor, and a number that names it. -/
structure QFrame where
  bytes  : List Byte
  todo   : Nat
  left   : Nat
  sent   : Bool
  origin : Nat
  seq    : Option Nat
  twin   : Bool
  node   : Nat := 256
  enqSeq : Nat
  uid    : Nat
  deriving DecidableEq, Repr

/-- A transit frame waiting at the other ring port (R188, R200): its bytes with HSR tag and without FCS, its class, its leaf
(the node of its source, 256 for a foreign source), and a number that names it. -/
structure TFrame where
  bytes : List Byte
  tc    : Nat
  leaf  : Nat
  uid   : Nat := 0
  deriving DecidableEq, Repr

/-- What the moment at which an own frame starts gives (R172, R219, R221): nothing; the wait of a verify attempt begins; t1 of
the Pdelay_Req with this sequenceId is known; t3 of a Pdelay_Resp, or the origin of an own Sync, goes into the message that
follows it; the send stamp of the relayed copy of the Sync received on a port is known. -/
inductive TxNote where
  | none
  | verify
  | pdelayReq (seq : Nat)
  | before (follow : List Byte)
  | relay (port seq : Nat)
  deriving DecidableEq, Repr

/-- An own control frame that waits at a port (R139, R145, R172, R178, R188): its start delimiter (0x07 and 0x19 for verify
and respond, SMD-E else), its bytes without check value, what its start gives, and a number that names it. -/
structure CtlFrame where
  smd   : Nat
  bytes : List Byte
  note  : TxNote
  uid   : Nat
  deriving DecidableEq, Repr

/-- Which queue the frame on the line came from: an own control frame with its start delimiter, a transit frame sent
store-and-forward or cut-through, or a context's. -/
inductive LineSrc where
  | ctl (smd : Nat) | transit | cut | ctx (n uid : Nat)
  deriving DecidableEq, Repr

/-- The frame on the line of an egress port, or the preempted frame that waits to go on: its bytes without FCS, class,
source, whether it is sent whole as an express frame, bytes sent in earlier mPackets, how many of those there were, uptime
the present one began, the ring time its first bit left, the number of its SMD-S (R168), and whether it is to end with a
stomped FCS (R136). -/
structure Line where
  bytes   : List Byte
  tc      : Nat
  src     : LineSrc
  express : Bool
  sent    : Nat
  frags   : Nat
  since   : Nat
  stamp   : Nat
  num     : Nat := 0
  bad     : Bool := false
  deriving DecidableEq, Repr

/-- An egress port beside its registers (R199 to R209): the frame on the line, the preempted frame, own control frames
and transit frames that wait, virtual time per key (class; 8 + class for the split of PER_LEVEL, 16 + class for its local side), start tags of the
backlogged leaves (key 2048 × class + leaf: contexts 0 to 1023, 1024 + node, 1280 foreign, 1281 and 1282 the transit and
local inputs of PER_LEVEL) as S + 1 with 0 for a leaf without backlog, per class the frame at its head as (its number + 1,
uptime since when), the SMD-S number the next preemptable frame takes, the gate list's present entry, the ring time it began
and its cycle began, the base time in force, the ring time until which the list stands still after a step (R209), whether a
hold is asserted, and the admin list latched for a swap. -/
structure EgressPort where
  line    : Option Line := none
  held    : Option Line := none
  ctl     : List CtlFrame := []
  transit : List TFrame := []
  vtime   : Tbl Nat := []
  tags    : Tbl Nat := []
  head    : Tbl (Nat × Nat) := []
  nextNum : Nat := 0
  entry   : Nat := 0
  entryAt : Nat := 0
  cycleAt : Nat := 0
  base    : Nat := 0
  still   : Option Nat := none
  hold    : Bool := false
  latched : Option (List (Nat × Nat) × Nat × Nat × Nat) := none
  swapAt  : Nat := 0
  deriving DecidableEq, Repr

/-- A meter's buckets (R195) in 1/1024 byte and the ring time of the last refill. -/
structure Meter where
  tc  : Nat := 0
  tp  : Nat := 0
  at_ : Nat := 0
  deriving DecidableEq, Repr

/-- A MAC beside its registers: the preemptable frame being reassembled as (SMD-S number + 4 × next fragment count, bytes),
whether a frame's failure was counted and its further mPackets are still to come, verify attempts made and uptime of the
last, whether verification restarts at the next frame boundary, the uptime a received pause ends, whether its own XOFF is in
force and the uptime of its last PAUSE sent (R171 to R178). -/
structure MacBlock where
  asm      : Option (Nat × List Byte) := none
  failed   : Bool := false
  tries    : Nat := 0
  verifyAt : Nat := 0
  again    : Bool := false
  pauseEnd : Nat := 0
  xoff     : Bool := false
  pauseAt  : Nat := 0
  deriving DecidableEq, Repr

/-- The scheduler beside its registers: egress ports, frames queued per context in order, meters, MACs, the number the
next queued frame takes. -/
structure SchedBlock where
  ports   : Tbl EgressPort := []
  queues  : Tbl (List QFrame) := []
  meters  : Tbl Meter := []
  macs    : Tbl MacBlock := []
  uid     : Nat := 0
  deriving DecidableEq, Repr

end Sys2Proof.Machine
end

