-- ==== Sys2Proof/Machine/SysState.lean ====
section
/-! DEFINITION. State of start-up, power states, the test access port, updates and calibration beside their registers
(chapters 19 to 21). -/

namespace Sys2Proof.Machine

/-- The calibration array as the model takes it from the factory (R533; the values are stated nowhere): MAGIC, VERSION 1,
ORIGIN 0, one write cycle used, every offset and gain 0, and the CRC of these bytes. -/
def factoryCalib : Tbl Byte :=
  [(0, 0x43#8), (1, 0x43#8), (2, 0x41#8), (3, 0x4C#8), (4, 1#8), (8, 1#8),
   (12, 0x56#8), (13, 0xFD#8), (14, 0x55#8), (15, 0x66#8)]

/-- Start-up and power beside SYS_BOOT_STAT, SYS_PWR and the AON block: whether the main die runs, the level of PWRON_N,
whether no boot has run since VAON came up, whether a brown-out holds the main die, whether a warm reset runs (until READY),
the uptime the boot began; the end of the 10 ms before a Standby entry with the state left and the channels whose EN = 1 is
kept without effect (R512), whether the hub stands by, the uptime main power was asked for again (R513); whether a
SYS_POWER_STATE has named a state during dead-battery commissioning (R515); the islands gated in Economy, those that wake,
since when each has met its condition (uptime + 1), and the writes that wait for a wake as (island, offset, value,
initiator) (R511); AON time in 1/32,768 s
at an uptime, and the second of ring time last written into it (R514); a Fatal-class injection still to come, as its uptime, KIND, SOURCE and ADDR (R498). -/
structure SysBlock where
  up      : Bool := false
  pwron   : Bool := false
  fresh   : Bool := true
  brown   : Bool := false
  warm    : Bool := false
  bootAt  : Nat := 0
  stby    : Option Nat := none
  stbyOld : Nat := 0
  stbyEn  : List Nat := []
  standby : Bool := false
  wokeAt  : Option Nat := none
  named   : Bool := false
  gated   : List Nat := []
  waking  : List Nat := []
  idle    : Tbl Nat := []
  waits   : List (Nat × Nat × Nat × Nat) := []
  aonBase : Nat := 0
  aonAt   : Nat := 0
  aonSec  : Option Nat := none
  fatal   : Option (Nat × Nat × Nat × Nat) := none
  deriving DecidableEq, Repr

/-- The test access port (R561, R562): instruction register, bypass bit, boundary register, and the instruction that has
the pads, if one has (0 EXTEST, 3 CLAMP, 4 HIGHZ). -/
structure TapBlock where
  ir       : Nat := 1
  bypass   : Bool := false
  boundary : List Bool := []
  force    : Option Nat := none
  deriving DecidableEq, Repr

/-- Updates and calibration beside their registers: 4 KiB blocks of the image and of the bundle written since FIRST; what
the boot flash holds: running image, reserve image, bundle slots A and B, the active slot, whether the journal says that
the reserve image is to be copied and the next block of the copy; the image whose reserve write runs; the STATE before a pending activation; whether an
activation was stepped over or met invalid ring time (R527), and whether one has just been made; owner key once
programmed, the LOCK and BUNDLE_SIG bits, the rollback fuses; the calibration array and the set in use (unlisted bytes
zero), and a set being written with the uptime its write ends. -/
structure UpdBlock where
  blocks   : List Nat := []
  bblocks  : List Nat := []
  running  : List Byte := []
  reserve  : List Byte := []
  slotA    : List Byte := []
  slotB    : List Byte := []
  slot     : Nat := 0
  copying  : Option Nat := none
  writing  : Option (List Byte) := none
  prior    : Nat := 0
  late     : Bool := false
  acting   : Bool := false
  ownerKey : Option (List Byte) := none
  lock     : Bool := false
  sigOnly  : Bool := false
  rollback : Nat := 0
  array    : Tbl Byte := factoryCalib
  calib    : Tbl Byte := []
  calWrite : Option (Tbl Byte × Nat) := none
  deriving DecidableEq, Repr

end Sys2Proof.Machine
end

