-- ==== Sys2Proof/Machine/TimeState.lean ====
section
/-! DEFINITION. State of the time island beside its registers (R213 to R237). -/

namespace Sys2Proof.Machine

/-- A grandmaster dataset in the order of R223, the clockIdentity of the hub or clock that sent the Announce, and whether its
timescale is PTP (Table 8.1). -/
structure PtpData where
  prio1 : Nat
  cls   : Nat
  acc   : Nat
  var   : Nat
  prio2 : Nat
  id    : Nat
  steps : Nat
  src   : Nat := 0
  ptp   : Bool := false
  deriving DecidableEq, Repr

/-- Peer delay on one port (R219, R220): the last samples in 1/256 ns (newest first, at most 8), successes in a row, whether
two in a row have succeeded since the port came up, the outstanding request (sequence, t1, uptime sent), its t2 and t4 once the response came, and the
last (t3, t4) for the neighbour's rate. -/
structure PeerDelay where
  samples : List Nat := []
  run     : Nat := 0
  proved  : Bool := false
  waiting : Option (Nat × Nat × Nat) := none
  resp    : Option (Nat × Nat) := none
  lastRt  : Option (Nat × Nat) := none
  sentAt  : Nat := 0
  deriving DecidableEq, Repr

/-- A Sync received on a port (R221): sequence, ingress stamp, the send stamp of its relayed copy once that has started,
and its Follow_Up once that has come. -/
structure SyncWait where
  seq     : Nat
  ingress : Nat
  egress  : Option Nat := none
  follow  : Option (List Byte) := none
  deriving DecidableEq, Repr

/-- A scheduled action (R235): ID, AT, period (0 one-shot), repeat count, firings done, VALID_ONLY, writes, and whether
its next firing's time was already past when it was placed or was stepped over (R236). -/
structure Action where
  id        : Nat
  at_       : Nat
  period    : Nat
  repeat_   : Nat
  fired     : Nat
  validOnly : Bool
  writes    : List (Nat × Nat)
  late      : Bool
  deriving DecidableEq, Repr

/-- The time island beside its registers: the offset a slew has still to consume in 2^-32 ns, whether the hub was ever
LOCKED since power-on and whether its time was ever set (Table 8.1), Syncs in a row within the lock band and beyond 4 × LOCK_NS, the offsets that count towards
CONFIRM, the armed ACCEPT_JUMP, the mode in force, the uptime of entry to HOLDOVER, per port the uptime, interval and
stepsRemoved of the last Sync stream, the selected master and the external grandmaster of an LMAC slave port, uptime and
interval of the last Announce taken from either, the domain, priority1, clockClass and priority2 that stay in force until
the next Announce is sent (R238), peer delay and waiting Syncs per port, the transmit-timestamp queues, the
scheduled-action slots, the next action ID, the SEQ and sequence counters of its own messages, and the ring time left by a
step of the counter whose consequences are still to be taken in this step. -/
structure TimeBlock where
  slew      : Int := 0
  slewing   : Bool := false
  everLocked : Bool := false
  everSet   : Bool := false
  lockRun   : Nat := 0
  badRun    : Nat := 0
  confirm   : List Int := []
  accept    : Bool := false
  mode      : Nat := 0
  holdAt    : Nat := 0
  syncAt    : Tbl Nat := []
  syncLog   : Tbl Int := []
  steps     : Tbl Nat := []
  master    : Option PtpData := none
  ext       : Option PtpData := none
  annAt     : Nat := 0
  annLog    : Option Int := none
  extAt     : Nat := 0
  extLog    : Option Int := none
  roleHeld  : Option (Nat × Nat × Nat × Nat) := none
  pd        : Tbl PeerDelay := []
  syncWait  : Tbl (Option SyncWait) := []
  tsq       : Tbl (List (List Byte)) := []
  actions   : Tbl (Option Action) := []
  nextId    : Nat := 1
  seq       : Nat := 0
  syncSent  : Tbl Nat := []
  annSent   : Tbl Nat := []
  stepFrom  : Option Nat := none
  deriving DecidableEq, Repr

end Sys2Proof.Machine
end

