-- ==== Sys2Proof/Machine/UnitState.lean ====
section
/-! DEFINITION. State of the CAN controllers, Flasks, discrete lines, power channels, feeds and the Crucible beside their
registers (chapters 11 to 14 and 17). -/

namespace Sys2Proof.Machine

/-! CAN -/

/-- A receive queue entry as the words of Table 11.5, and its data slot. -/
structure CanEntry where
  idw   : Nat
  stamp : Nat
  w2    : Nat
  w3    : Nat
  af    : Nat
  rxseq : Nat
  slot  : Nat
  deriving DecidableEq, Repr

/-- A time reference message (R324): its CYCLE, its instant in ns of ring time, FIRST. -/
structure TrefMsg where
  cycle : Nat
  at_   : Nat
  first : Bool
  deriving DecidableEq, Repr

/-- A controller beside its registers: receive queue, next RXSEQ, transmit event queue, the frame on the bus (a buffer,
32 the reference message) with its start-of-frame stamp, whether a close waits for the frame in progress, the
reference message due and the one on the bus, PREV_SOF and PREV_DELAYED, whether the next message is the first, the
number of the last reference instant and of the last instant of each periodic transmit map, the falls of the lag still
to come as (uptime, lag), and the report times of R314. -/
structure CanUnit where
  rxq      : List CanEntry := []
  rxSeq    : Nat := 0
  txeq     : List Nat := []
  active   : Option Nat := none
  sof      : Nat := 0
  closing  : Bool := false
  tref     : Option TrefMsg := none
  trefBus  : Option TrefMsg := none
  prevSof  : Nat := 0
  prevLate : Bool := false
  first    : Bool := true
  trefIdx  : Nat := 0
  mapIdx   : Tbl Nat := []
  lagFalls : List (Nat × Nat) := []
  ovfAt    : Option Nat := none
  ovfTimes : List Nat := []
  deriving DecidableEq, Repr

/-! Flasks -/

/-- An engine beside its registers: queues, the moment of ring time an armed start waits for, a stop requested (with
SAFE), and the running mark. -/
structure EngineUnit where
  txq     : List Nat := []
  rxq     : List Nat := []
  running : Bool := false
  armed   : Option Nat := none
  stopReq : Option Bool := none
  deriving DecidableEq, Repr

/-- A Pattern load in progress (R346, R347): the image's words and header, destination, engines, flags, and whether
a command brought it. -/
structure PLoad where
  image : List Byte
  dest  : Nat
  mask  : Nat
  flush : Bool
  conf  : Bool
  byCmd : Bool
  deriving DecidableEq, Repr

/-- A Flask beside its registers: Pattern memory, engines, what the outside puts on the pins, the drive of the pins by
moment of change as (uptime, pins driven, levels) newest first, the pins a stop with SAFE left at their SAFE level, the
uptime up to which clashes are counted, and the loads in progress. -/
structure FlaskUnit where
  pmem    : Tbl Nat := []
  engines : Tbl EngineUnit := []
  pads    : Nat := 0
  drives  : List (Nat × Nat × Nat) := []
  safe    : Nat := 0
  clashAt : Nat := 0
  loads   : List PLoad := []
  deriving DecidableEq, Repr

/-! Discrete lines -/

/-- A transition in progress (R357): stamp of its first crossing, its uptime, and the filter it began with. -/
structure Transition where
  stamp   : Nat
  suspect : Bool
  began   : Nat
  kind    : Nat
  time    : Nat
  level   : Bool
  deriving DecidableEq, Repr

/-- A line beside its registers: pad level (of the digital buffer or comparator), accepted level, transition in progress,
rejected count. -/
structure DioLine where
  pad      : Bool := false
  acc      : Bool := false
  trans    : Option Transition := none
  rejected : Nat := 0
  deriving DecidableEq, Repr

/-- An entry of a bank's event queue (Table 13.4). -/
structure DioEvent where
  stamp : Nat
  w1    : Nat
  evseq : Nat
  deriving DecidableEq, Repr

/-- A scheduled output entry (R365); `late` when its AT was past as it was placed or was stepped over. -/
structure DioEntry where
  id        : Nat
  line      : Nat
  action    : Nat
  at_       : Nat
  validOnly : Bool
  late      : Bool
  deriving DecidableEq, Repr

/-- A PWM generator beside its registers: committed period, on-time and phase, its output, the number of the last period
started, the ring time of that start, and a commit that waits for the next start with the uptime it was made. -/
structure PwmGen where
  period  : Nat := 1000000
  on      : Nat := 0
  phase   : Nat := 0
  out     : Bool := false
  last    : Nat := 0
  startAt : Nat := 0
  pend    : Option (Nat × Nat × Nat × Nat) := none
  deriving DecidableEq, Repr

/-- A bank beside its registers: event queue, number of entries queued, scheduled entries in the order made, next ID,
generators, falls of the lag still to come as (uptime, lag), report times of R362 and R364, and the lines last set by
an immediate write as (uptime, line). -/
structure DioBank where
  evq      : List DioEvent := []
  evseq    : Nat := 0
  sched    : List DioEntry := []
  nextId   : Nat := 1
  gens     : Tbl PwmGen := []
  lagFalls : List (Nat × Nat) := []
  ovfAt    : Option Nat := none
  ovfTimes : List Nat := []
  rbAt     : Option Nat := none
  written  : List (Nat × Nat) := []
  deriving DecidableEq, Repr

/-! Power -/

/-- What a channel was conducting in when a command turned it off (R395): when that was, the state, since when it was in it,
and since when its gate was rising. -/
structure WasOn where
  at_    : Nat
  state  : Nat
  since  : Nat
  rising : Option Nat
  deriving DecidableEq, Repr

/-- A channel beside its registers: uptime of entry into its state, since when its load has been detected, end of the
retry time, uptime of the last gate turn-off, what the last command to turn off found, uptime of the last retry reset, stress estimate in units of 1 mV × 1 mA × 10 µs, last 10 µs sample,
whether the ramp has ended and the gate is driven fully (with the uptime), uptime EN was last written 1, time in ON not
yet counted, uptime of the last image write, RETRY_CNT before the last trip with the uptime of it. -/
structure PchUnit where
  since    : Nat := 0
  load     : Option Nat := none
  retryEnd : Nat := 0
  offAt    : Nat := 0
  wasOn    : Option WasOn := none
  resetAt  : Option Nat := none
  stress   : Nat := 0
  lastI    : Int := 0
  lastV    : Nat := 0
  rising   : Option Nat := none
  enAt     : Nat := 0
  onFrac   : Nat := 0
  onMark   : Nat := 0
  imageAt  : Nat := 0
  trip     : Option (Nat × Nat) := none
  deriving DecidableEq, Repr

/-- A feed beside its registers: last sample, since when it has been within the band, since when outside its window, and
whether it was above it; sum and number of the samples since the last mean. -/
structure FeedUnit where
  mv       : Nat := 0
  inSince  : Option Nat := none
  outSince : Option Nat := none
  above    : Bool := false
  sum      : Nat := 0
  count    : Nat := 0
  imageAt  : Nat := 0
  deriving DecidableEq, Repr

/-- What the feed selector is doing (R378). -/
inductive FeedPhase where
  | idle
  /-- The old switch is being broken since an uptime. -/
  | breaking (since : Nat)
  /-- The dead time runs since an uptime. -/
  | dead (since : Nat)
  deriving DecidableEq, Repr

/-- The feed selector: phase, the feed to be made (3: none), cause and stamp of the change under way, cause of the last
change (Table 14.2), why the selected feed lost qualification, whether any feed has been selected since power-on, and
whether the order changed during the change under way. -/
structure FeedSel where
  phase : FeedPhase := .idle
  next  : Nat := 3
  cause : Nat := 0
  stamp : Nat := 0
  last  : Nat := 0
  why   : Nat := 2
  begun : Bool := false
  moved : Bool := false
  deriving DecidableEq, Repr

/-- A power-edge die and its link (R16, R17): safe-state latch, uptime of the last valid frame, whether a gap of 8 µs or
more runs, the stamp of the latch, since when the link is valid again, whether its supply is there,
and whether that came since the last boot. -/
structure DieUnit where
  latch   : Bool := false
  frameAt : Nat := 0
  gap     : Bool := false
  stamp   : Nat := 0
  backAt  : Nat := 0
  powered : Bool := false
  risen   : Bool := false
  deriving DecidableEq, Repr

/-- Power beside its registers. -/
structure PowerBlock where
  chans : Tbl PchUnit := []
  feeds : Tbl FeedUnit := []
  sel   : FeedSel := {}
  dies  : Tbl DieUnit := []
  deriving DecidableEq, Repr

/-! Crucible -/

/-- The kept copy of a named line (R466). -/
structure LineCopy where
  line  : Nat
  lcfg  : Word
  lfilt : Word
  lcmp  : Word
  latch : Bool
  deriving DecidableEq, Repr

/-- The Crucible beside its registers: the vote hold's beginning and the transactions held, the two words in
disagreement during a Dual-compare Assay hold, the lane that resynchronises, copies of named lines, channels under an
SF-P hold as (channel, cause, confirmed), when each function was armed, the last moment a ring port was UP, the last
supervision frame of the watched node, the heartbeat slot's GEN and the moment it last changed, the running input test
pulse, the lines whose last input test failed, the failing comparators as 2c + comparator, the functions whose SAFE is
still to come, whether the functions are stopped by a warm reset, safety inputs that wait in q33 as (line, stamp, level), and faults
of named channels that wait for the functions to resume, or for the outputs to be released, as (channel, cause), the word
of q 33 last presented to each lane (R75), and triggers found while outputs are held as (function, cause, stamp) (R459). -/
structure CrucBlock where
  holdAt   : Option Nat := none
  held     : List Sys2Proof.LaneWord := []
  dual     : Option (Nat × Option Sys2Proof.LaneWord × Nat × Option Sys2Proof.LaneWord) := none
  resync   : Option Nat := none
  copies   : List LineCopy := []
  holds    : List (Nat × Nat × Bool) := []
  armedAt  : Tbl Nat := []
  upAt     : Nat := 0
  supAt    : Nat := 0
  hbGen    : Nat := 0
  hbAt     : Nat := 0
  pulse    : Option Nat := none
  pulseAt  : Nat := 0
  failed   : List Nat := []
  tripBad  : List Nat := []
  confirm  : List Nat := []
  paused   : Bool := false
  inputs   : List (Nat × Nat × Bool) := []
  later    : List (Nat × Nat) := []
  laneIn   : Tbl (Option SprueWord) := []
  waits    : List (Nat × Nat × Nat) := []
  deriving DecidableEq, Repr

/-! USB -/

/-- A downstream port beside its registers: whether a device is plugged in and is a low-speed one, uptime its power
turned on, whether its power-good time is over, powered off by an over-current, start of its reset, its resume as (start,
by the host), uptime of its last over-current fault, and its test mode (0 none, 1 to 5 of R416). -/
structure UsbPort where
  there   : Bool := false
  low     : Bool := false
  pwrAt   : Nat := 0
  good    : Bool := false
  ocOff   : Bool := false
  resetAt : Option Nat := none
  resume  : Option (Nat × Bool) := none
  ocAt    : Option Nat := none
  test    : Nat := 0
  deriving DecidableEq, Repr

/-- A periodic transaction in a TT: its port, endpoint, bytes, the frame it was started in, and whether it aged out. -/
structure TtEntry where
  port  : Nat
  ep    : Nat
  len   : Nat
  frame : Nat
  aged  : Bool
  deriving DecidableEq, Repr

/-- A Transaction Translator: its periodic transactions, and its non-periodic buffers as (port, endpoint). -/
structure UsbTt where
  per : List TtEntry := []
  non : List (Nat × Nat) := []
  deriving DecidableEq, Repr

/-- A fabric request of the management device (Table 15.4): `cas` holds compare and swap values, `data` a write's bytes;
`ladle` the Ladle it has taken. -/
structure UsbReq where
  op    : Nat
  len   : Nat
  tag   : Nat
  addr  : Nat
  data  : List Byte
  ladle : Option Nat
  deriving DecidableEq, Repr

/-- A response waiting for EP2 IN, and the Salvage slot reserved for it until it is delivered (R422). -/
structure UsbResp where
  tag  : Nat
  addr : Nat
  len  : Nat
  code : Nat
  salvaged : Bool
  data : List Byte
  slot : Option Nat
  deriving DecidableEq, Repr

/-- The USB island beside its registers: ports and TTs; the states of hub and device before a suspension; their
addresses; whether each has a control transfer in progress; endpoints whose next packet is DATA1, and halted ones; packets
received on EP1; fabric requests not yet issued and those issued; a write that waits for the posted-write queue;
responses; event reports as (PEND, FLAGS, SEQ) and the next SEQ; the masked sources already reported; when the device was
suspended; the K driven upstream with the port that woke; the SEQ of EP4
and the (micro)frame at which each slot is due; uptime until which the pull-up stays removed. -/
structure UsbBlock where
  ports    : Tbl UsbPort := []
  tts      : Tbl UsbTt := []
  hubPrev  : Nat := 0
  mgmtPrev : Nat := 0
  hubAddr  : Nat := 0
  mgmtAddr : Nat := 0
  hubCtrl  : Bool := false
  mgmtCtrl : Bool := false
  toggles  : List Nat := []
  halted   : List Nat := []
  rx       : List (List Byte) := []
  reqs     : List UsbReq := []
  issued   : List UsbReq := []
  write    : Option (Nat × List Byte) := none
  resps    : List UsbResp := []
  reports  : List (Nat × Nat × Nat) := []
  repSeq   : Nat := 0
  lastPend : Nat := 0
  suspAt   : Nat := 0
  upK      : Option (Nat × Nat) := none
  isoSeq   : Nat := 0
  due      : Tbl (Option Nat) := []
  pullAt   : Nat := 0
  deriving DecidableEq, Repr

/-! USB Power Delivery -/

/-- A source transition (R437): target, current and contract kind, uptime of the Accept's GoodCRC, and of its start. -/
structure PdTrans where
  mv      : Nat
  ma      : Nat
  kind    : Nat
  at_     : Nat
  started : Option Nat
  deriving DecidableEq, Repr

/-- A Request this hub has sent as Sink: voltage, current, kind, whether Accept has come, and how often Wait. -/
structure PdAsk where
  mv    : Nat
  ma    : Nat
  kind  : Nat
  taken : Bool
  waits : Nat
  deriving DecidableEq, Repr

/-- A swap in progress (R446): 1 PR_Swap, 2 DR_Swap, 3 VCONN_Swap, 4 FR_Swap; whether the hub asked for it, whether it has
been accepted, how often Wait came, and whether the hub's own request gave way to it. -/
structure PdSwap where
  kind    : Nat
  own     : Bool
  taken   : Bool
  waits   : Nat
  yielded : Bool
  deriving DecidableEq, Repr

/-- A PD port beside its registers: what it drives (source and sink path, discharge, VSET duty, target voltage), whether
a source start waits for the discharge and whether the port leaves its attachment, the Rp share of a DRP port with the
uptime it changed, the transition, Request and swap in progress, the partner's Power Data Objects and its FRS support, the
explicit choice as (kind, mV, mA), uptimes of the last Request and of the last EPR_KeepAlive, since when the current has
stood too high, sums and number of samples since the last mean, the last message with its retries, the next MessageID,
and whether a change of policy waits for a swap or transition to end. -/
structure PdPort where
  srcEn    : Bool := false
  snkEn    : Bool := false
  disch    : Bool := false
  duty     : Nat := 0
  target   : Nat := 0
  starting : Bool := false
  leaving  : Bool := false
  rp       : Bool := false
  rpAt     : Nat := 0
  trans    : Option PdTrans := none
  ask      : Option PdAsk := none
  swap     : Option PdSwap := none
  pdos     : List Nat := []
  frs      : Bool := false
  choice   : Option (Nat × Nat × Nat) := none
  reqAt    : Nat := 0
  kaAt     : Nat := 0
  ocSince  : Option Nat := none
  sumMv    : Nat := 0
  sumMa    : Nat := 0
  samples  : Nat := 0
  msg      : Option (List Byte × Nat) := none
  msgId    : Nat := 0
  polPend  : Bool := false
  deriving DecidableEq, Repr

/-- PD beside its registers: the ports, whether the watchdog has barred the image, IMG_VER of the image that runs. -/
structure PdBlock where
  ports  : Tbl PdPort := []
  barred : Bool := false
  imgVer : Nat := 0
  deriving DecidableEq, Repr

end Sys2Proof.Machine
end

