-- ==== Sys2Proof/Machine/State.lean ====
section
/-! DEFINITION. The state of the hub as plain data, the reasons a command can stop, and the state right after reset. -/

namespace Sys2Proof.Machine

/-- Reasons a step can stop with a fault. No command of this block ends so: every fault the spec names is a record of
the fault collector (R482), which is part of the state. -/
inductive Fault where
  /-- Raised by nobody; kept so that the type is inhabited by a reason with a name. Safe: a stop proves nothing false. -/
  | none
  deriving DecidableEq, Repr

/-- Reasons a step is refused. -/
inductive Refusal where
  /-- Raised by `exec` for a command that has no meaning in the model yet. Safe: nothing follows from a refusal. -/
  | notModelled (mnemonic : String)
  deriving DecidableEq, Repr

/-- The hub. Registers are in one sparse file keyed by their offset in register space, an unlisted word holding its
reset value; the shared store is sparse, an unlisted byte reading zero; every numbered unit's hidden state is a sparse
table over a default. `uptime` counts nanoseconds since power-on, `ring` nanoseconds of ring time, `ringFrac` its
fraction in 2^-32 ns. -/
structure State where
  variant   : Variant
  pending   : List Instr
  regs      : Tbl Word
  mem       : Tbl Byte
  memErr    : Tbl Nat
  uptime    : Nat
  ring      : Nat
  ringFrac  : Nat
  outs      : List Out
  halfs     : List Nat
  freeCount : Nat
  replicas  : Tbl Replica
  sprue     : Tbl SprueQ
  fab       : FabBlock
  cmd       : CmdBlock
  bridge    : BridgeBlock
  fault     : FaultBlock
  islands   : Tbl IslandReset
  ledger    : LedgerBlock
  pimg      : PimgBlock
  inbox     : Tbl (List Descr)
  time      : TimeBlock
  ringNet   : RingBlock
  sched     : SchedBlock
  cans      : Tbl CanUnit
  flasks    : Tbl FlaskUnit
  lines     : Tbl DioLine
  banks     : Tbl DioBank
  power     : PowerBlock
  cruc      : CrucBlock
  usb       : UsbBlock
  pd        : PdBlock
  sys       : SysBlock
  tap       : TapBlock
  upd       : UpdBlock
  deriving DecidableEq, Repr

/-- The hub right after reset: every register at its reset value, nothing waiting, the store all zero. -/
def State.reset : State where
  variant   := .axh7264
  pending   := []
  regs      := []
  mem       := []
  memErr    := []
  uptime    := 0
  ring      := 0
  ringFrac  := 0
  outs      := []
  halfs     := []
  freeCount := 0
  replicas  := []
  sprue     := []
  fab       := {}
  cmd       := {}
  bridge    := {}
  fault     := {}
  islands   := []
  ledger    := {}
  pimg      := {}
  inbox     := []
  time      := {}
  ringNet   := {}
  sched     := {}
  cans      := []
  flasks    := []
  lines     := []
  banks     := []
  power     := {}
  cruc      := {}
  usb       := {}
  pd        := {}
  sys       := {}
  tap       := {}
  upd       := {}

end Sys2Proof.Machine
end

