-- ==== Sys2Proof/Machine/Ops.lean ====
section
/-! DEFINITION. The named operations over registers, counters, the store, time and the fault collector that every
unit's behaviour is written with. -/

namespace Sys2Proof.Machine

/-! ### Registers -/

/-- The fields the register tables give the word at offset `a`, with what the set adds to their reset values. -/
def regFields (a : Nat) : List FieldSpec :=
  regGroups.flatMap fun g =>
    match g.locate a with
    | some (_, _, off) => g.fields.filter fun f => f.fld.off == off
    | none => []

/-- The reset value of the register word at offset `a`: its fields' reset values in place, and what its set adds. -/
def regReset (a : Nat) : Word :=
  BitVec.ofNat 32 (regGroups.foldl (fun acc g =>
    match g.locate a with
    | some (i, j, off) =>
      (g.fields.filter fun f => f.fld.off == off).foldl (fun n f => n + f.reset * 2 ^ f.fld.lo) acc
        + g.resetAt i j off
    | none => acc) 0)

/-- The stored register word at offset `a`. -/
def State.rd (s : State) (a : Nat) : Word := Tbl.get regReset s.regs a

/-- The state with the register word at `a` holding `w`. -/
def State.wr (s : State) (a : Nat) (w : Word) : State := { s with regs := Tbl.put regReset s.regs a w }

/-- The value of a field of the register set at `base`. -/
def State.get (s : State) (base : Nat) (f : Fld) : Nat := bitsOf (s.rd (base + f.off)) f.lo f.width

/-- The state with a field of the register set at `base` holding `v`. -/
def State.set (s : State) (base : Nat) (f : Fld) (v : Nat) : State :=
  s.wr (base + f.off) (putBits (s.rd (base + f.off)) f.lo f.width v)

/-- Whether a one-bit field is 1. -/
def State.flag (s : State) (base : Nat) (f : Fld) : Bool := s.get base f == 1

/-- Where a counter reports that its bit 31 set: the event word and the bit in it (R73, R125, R181, R212, R296, R331,
R500 and their like). Counters of the ring and Sprue blocks raise an event that no register shows. -/
def halfBit (a : Nat) : Option (Nat × Nat) :=
  if a = 0x44 then some (0x601018, 30)
  else if 0x1040 ≤ a ∧ a ≤ 0x105C then some (0x601018, 21 + (a - 0x1040) / 4)
  else if a = 0x1064 then some (0x601018, 29)
  else if 0x10000 ≤ a ∧ a < 0x20000 then some (0x1000C, 9)
  else if (0x21040 ≤ a ∧ a < 0x210C0) ∨ (0x31040 ≤ a ∧ a < 0x310C0) then
    some (a / 0x1000 * 0x1000 + 0x1C, (a % 0x1000 - 0x40) / 4)
  else if 0x40000 ≤ a ∧ a < 0x50000 then some (a / 0x4000 * 0x4000 + 0x1C, (a % 0x4000 - 0x40) / 4)
  else if 0x80100 ≤ a ∧ a < 0x80400 then some ((a - 0x80100) / 0x80 * 0x80 + 0x80138, 2)
  else if 0x90000 ≤ a ∧ a < 0xA0000 then
    some (0x80800 + 4 * ((a - 0x90000) / 0x40 / 32), (a - 0x90000) / 0x40 % 32)
  else if 0xA0000 ≤ a ∧ a < 0xB0000 then some (0xA0014, 6)
  else if 0xB0000 ≤ a ∧ a < 0xC0000 then some (0xB0020, 2)
  else if 0x100000 ≤ a ∧ a < 0x140000 then some (a / 0x1000 * 0x1000 + 0x40, 8)
  else if 0x200000 ≤ a ∧ a < 0x208000 then some (a / 0x1000 * 0x1000 + 0x0C, 23)
  else if 0x300000 ≤ a ∧ a < 0x303000 then some (a / 0x1000 * 0x1000 + 0x40, 5)
  else if 0x400000 ≤ a ∧ a < 0x404000 then some (a / 0x100 * 0x100 + 0x08, 5)
  else if 0x440000 ≤ a ∧ a < 0x450000 then some (0x44000C, 3)
  else if 0x500000 ≤ a ∧ a < 0x540000 then some (0x500020, 8)
  else if 0x541000 ≤ a ∧ a < 0x541C00 then some (a / 0x400 * 0x400 + 0x10, 9)
  else if 0x540000 ≤ a ∧ a < 0x541000 then some (0x540008, 2)
  else if 0x600040 ≤ a ∧ a ≤ 0x600064 then some (0x601018, 11 + (a - 0x600040) / 4)
  else if 0x601040 ≤ a ∧ a ≤ 0x601068 then some (0x601018, (a - 0x601040) / 4)
  else if 0x700000 ≤ a ∧ a < 0x780000 then some (0x700024, 6)
  else if 0x780000 ≤ a ∧ a < 0x7C0000 then some (0x780004, 7)
  else if 0x7E0000 ≤ a ∧ a < 0x7F0000 then some (0x7E0040, 6)
  else if 0x7F0000 ≤ a ∧ a < 0x800000 then some (0x7F0000, 8)
  else none

/-- Set bit `b` of the event word at `a`. -/
def State.orBit (s : State) (a b : Nat) : State := s.wr a (s.rd a ||| BitVec.ofNat 32 (2 ^ b))

/-- Set bit `b` of an event field of the register set at `base`. -/
def State.evt (s : State) (base : Nat) (f : Fld) (b : Nat) : State := s.orBit (base + f.off) (f.lo + b)

/-- The counter at `a` rises by `n`: it wraps silently, and setting its bit 31 raises its event. -/
def State.bumpAt (s : State) (a n : Nat) : State :=
  let old := (s.rd a).toNat
  let t := s.wr a (BitVec.ofNat 32 (old + n))
  if n ≠ 0 ∧ old < 2 ^ 31 ∧ 2 ^ 31 ≤ old + n then
    match halfBit a with
    | some (e, b) => t.orBit e b
    | none => { t with halfs := a :: t.halfs }
  else t

/-- The counter `f` of the register set at `base` rises by 1. -/
def State.bump (s : State) (base : Nat) (f : Fld) : State := s.bumpAt (base + f.off) 1

/-- The counter `f` of the register set at `base` rises by `n`. -/
def State.bumpBy (s : State) (base : Nat) (f : Fld) (n : Nat) : State := s.bumpAt (base + f.off) n

/-! ### The outside, time and free values -/

/-- Put something on a port or pin. -/
def State.emit (s : State) (o : Out) : State := { s with outs := o :: s.outs }

/-- The replica of island `i` (Table 18.2's numbers). -/
def State.replica (s : State) (i : Nat) : Replica := Tbl.get (fun _ => {}) s.replicas i

/-- Ring time as island `i` stamps it: the master counter with the error of the island's replica (R14); the time island
stamps from the counter itself. -/
def State.nowAt (s : State) (i : Nat) : Nat :=
  if i = 2 then s.ring else ((s.ring : Int) + (s.replica i).err).toNat

/-- Whether stamps of island `i` carry TIME_SUSPECT (R14). -/
def State.suspectAt (s : State) (i : Nat) : Bool := i != 2 && (s.replica i).suspect

/-- The next free value's number, and the state in which it is used up. -/
def State.takeFree (s : State) : Nat × State := (s.freeCount, { s with freeCount := s.freeCount + 1 })

/-! ### Presence and fencing -/

/-- SYS_ID by variant (Table 0.1). -/
def State.sysId (s : State) : Nat := match s.variant with | .axh7264 => 0x41587264 | .axh7232 => 0x41587232

/-- CAN controllers, Flasks, discrete lines and channels the variant holds (Table 0.2). -/
def State.nCan (s : State) : Nat := match s.variant with | .axh7264 => 64 | .axh7232 => 32
/-- Flasks present (Table 0.2). -/
def State.nFlask (s : State) : Nat := match s.variant with | .axh7264 => 8 | .axh7232 => 4
/-- Discrete lines present (Table 0.2). -/
def State.nDio (s : State) : Nat := match s.variant with | .axh7264 => 192 | .axh7232 => 96
/-- String power channels present (Table 0.2). -/
def State.nPch (s : State) : Nat := match s.variant with | .axh7264 => 64 | .axh7232 => 32

/-- Whether a fence unit exists on this variant (R4, R37). -/
def State.unitPresent (s : State) (u : FenceUnit) : Bool :=
  match s.variant, u with
  | .axh7264, _ => true
  | _, .canIsl i => i < 2
  | _, .flask f => f < 4
  | _, .dioBank b => b < 2
  | _, .pedie d => d < 1
  | _, _ => true

/-- Whether the part has island `i` of Table 18.2 (R4). -/
def State.islandThere (s : State) (i : Nat) : Bool :=
  if 4 ≤ i ∧ i < 8 then s.unitPresent (.canIsl (i - 4))
  else if 8 ≤ i ∧ i < 16 then s.unitPresent (.flask (i - 8))
  else if 16 ≤ i ∧ i < 19 then s.unitPresent (.dioBank (i - 16))
  else true

/-- Whether a fence unit is fenced (Table 1.6). -/
def State.fenced (s : State) (u : FenceUnit) : Bool := (s.rd 0x40).getLsbD u.bit

/-- The fence bit of a unit made `b`. -/
def State.setFence (s : State) (u : FenceUnit) (b : Bool) : State :=
  s.wr 0x40 (putBits (s.rd 0x40) u.bit 1 (b2n b))

/-- Whether a ledger source code is one of Table 9.1 with its unit present (R4, R241). -/
def State.sourceOk (s : State) (c : Nat) : Bool :=
  (c < 3 && 64 * c < s.nDio) || (0x10 ≤ c && c < 0x10 + s.nCan) || (0x50 ≤ c && c < 0x50 + s.nFlask)
    || (0x60 ≤ c && 32 * (c - 0x60) < s.nPch && c < 0x62) || c == 0x70

/-- Whether Sprue queue `q` joins islands of this variant (R75). -/
def State.queuePresent (s : State) (q : Nat) : Bool :=
  match s.variant with
  | .axh7264 => true
  | .axh7232 => !(q == 2 || q == 5 || q == 8 || q == 9 || q == 12 || q == 13 || (18 ≤ q && q ≤ 21) || (26 ≤ q && q ≤ 29))

/-! ### The shared store -/

/-- A byte of the shared store. -/
def State.byteAt (s : State) (a : Nat) : Byte := Tbl.get (fun _ => 0#8) s.mem a

/-- `n` bytes of the store from `a` on. -/
def State.load (s : State) (a : Nat) : Nat → List Byte
  | 0 => []
  | n + 1 => s.byteAt a :: s.load (a + 1) n

/-- The bytes of a list written to a table of bytes from `a` on. -/
def memWrite (m : Tbl Byte) (a : Nat) : List Byte → Tbl Byte
  | [] => m
  | b :: bs => memWrite (Tbl.put (fun _ => 0#8) m a b) (a + 1) bs

/-- The error mark of an 8-byte store word: 0 sound, 1 a single-bit error, 2 uncorrectable (R70). -/
def State.wordErr (s : State) (w : Nat) : Nat := Tbl.get (fun _ => 0) s.memErr w

/-- Words from `w` on, `n` of them, made sound. -/
def clearErr (m : Tbl Nat) (w : Nat) : Nat → Tbl Nat
  | 0 => m
  | n + 1 => clearErr (Tbl.put (fun _ => 0) m w 0) (w + 1) n

/-- Store bytes at `a`: a word whose 8 bytes are all covered becomes sound, a word covered in part keeps its mark
(R70). -/
def State.store (s : State) (a : Nat) (bs : List Byte) : State :=
  let w0 := (a + 7) / 8
  let w1 := (a + bs.length) / 8
  { s with mem := memWrite s.mem a bs, memErr := clearErr s.memErr w0 (w1 - w0) }

/-- The first failing word (uncorrectable) among those that cover `n` bytes from `a`. -/
def State.firstUe (s : State) (a n : Nat) : Option Nat :=
  if n = 0 then none
  else ((s.memErr.filter fun p => p.2 == 2 && a / 8 ≤ p.1 && p.1 ≤ (a + n - 1) / 8).map (·.1)).head?

/-- First Ingot of partition `p` (Table 2.9). -/
def State.partFirst (s : State) (p : Nat) : Nat := bitsOf (s.rd (0x100 + 4 * p)) 0 10
/-- Ingots of partition `p`. -/
def State.partCount (s : State) (p : Nat) : Nat := bitsOf (s.rd (0x100 + 4 * p)) 10 11
/-- First store offset of partition `p`. -/
def State.partBase (s : State) (p : Nat) : Nat := s.partFirst p * 65536
/-- Bytes of partition `p`. -/
def State.partSize (s : State) (p : Nat) : Nat := s.partCount p * 65536

/-- Bank of a store offset (R69). -/
def bankOf (off : Nat) : Nat := off / 65536 / 128

/-- This hub's node ID, 0 while it has none (Table 2.9). -/
def State.nodeId (s : State) : Nat := s.get 0x600000 FAB_NODE_NODE_ID
/-- Whether the hub has a node ID (R45). -/
def State.hasNode (s : State) : Bool := s.flag 0x600000 FAB_NODE_VALID

/-- The fabric address of a register of this hub, with its node ID (Table 18.1). -/
def State.regAddr (s : State) (off : Nat) : Nat := fabAddr s.nodeId 0 off

/-! ### Faults -/

/-- The island whose replica stamps a fault of a source (R482). -/
def srcIslandOf (src : Nat) : Nat :=
  let g := src / 256
  let i := src % 256
  if g = 0 then 3
  else if g = 1 then i
  else if g = 2 then 0
  else if g = 3 then 4 + i / 16
  else if g = 4 then 8 + i / 8
  else if g = 5 then 16 + i / 64
  else if g = 6 then 23 + i / 32
  else if g = 7 then 23
  else if g = 0xA then 1
  else if g = 0xC then 19
  else if g = 0xD then 20
  else 3

/-- The own address of a source in register space (Table 18.11); none when it has no registers there. -/
def srcOwn (src : Nat) : Option Nat :=
  let g := src / 256
  let i := src % 256
  if g = 1 then
    if 4 ≤ i ∧ i ≤ 7 then some (0x100000 + 0x10000 * (i - 4))
    else if 8 ≤ i ∧ i ≤ 15 then some (0x200000 + 0x1000 * (i - 8))
    else if 16 ≤ i ∧ i ≤ 18 then some (0x300000 + 0x1000 * (i - 16))
    else if 23 ≤ i ∧ i ≤ 24 then some (0x400000 + 0x2000 * (i - 23))
    else none
  else if g = 2 then
    some (if i = 0 then 0x20000 else if i = 1 then 0x30000 else 0x40000 + 0x4000 * (i - 2))
  else if g = 3 then some (0x100000 + 0x1000 * i)
  else if g = 4 then some (0x200200 + 0x1000 * (i / 8) + 0x40 * (i % 8))
  else if g = 5 then some (0x300100 + 0x1000 * (i / 64) + 0x10 * (i % 64))
  else if g = 6 then some (0x400000 + 0x100 * i)
  else if g = 7 then some (0x440100 + 0x20 * i)
  else if g = 8 then some (0x780010 + 4 * i)
  else if g = 9 then some (0x780100 + 0x80 * i)
  else if g = 0xA then some (0x680000 + 0x40 * i)
  else if g = 0xC then some (0x500100 + 0x20 * (i - 1))
  else if g = 0xD then some (0x541000 + 0x400 * i)
  else none

/-- The ADDR an injected record carries (R565). -/
def State.forcedAddr (s : State) (a src : Nat) : Nat :=
  if a ≠ 0 then a else match srcOwn src with | some off => s.regAddr off | none => 0

/-- The stamp of a fault's detection: the detecting island's replica, or link time at 50 ns for a power-edge die
(R374, R482). -/
def State.faultStamp (s : State) (src : Nat) : Nat :=
  let i := srcIslandOf src
  if 23 ≤ i then s.ring / 50 * 50 else s.nowAt i

/-- Hand a raised fault to the collector: the intake of 32 entries for Note- and Degrade-class faults, the source's own
latch for the others (R486). A fault that finds the intake full is counted and marks the next record. -/
def State.hand (s : State) (r : Raised) : State :=
  match r.cls with
  | .note | .degrade =>
    if s.fault.intake.length < 32 then
      { s with fault := { s.fault with intake := s.fault.intake ++ [r] } }
    else
      let t := { s with fault := { s.fault with loss := true } }
      (t.bump 0x700000 FAULT_INTAKE_LOST).evt 0x700000 FAULT_EVT 4
  | .safety | .fatal => { s with fault := { s.fault with latches := s.fault.latches ++ [r] } }

/-- Raise a fault of a class detected at a stamp: form it, hand it to the collector, and leave its reaction to be taken in
this same step (R490). The first fault raised under an injection carries FORCED and the injected ADDR (R496, R565). -/
def State.raiseAt (s : State) (cls : FaultClass) (k : FaultKind) (src addr stamp : Nat) (detail : List Byte) : State :=
  let r : Raised :=
    { cls := cls, kind := k, source := src
      addr := match s.fault.forcing with | some a => s.forcedAddr a src | none => addr
      stamp := stamp
      detail := detail
      forced := s.fault.forcing.isSome
      suspect := srcIslandOf src < 23 && s.suspectAt (srcIslandOf src)
      since := s.uptime }
  let t := { s with fault := { s.fault with forcing := none } }
  let t := t.hand r
  match cls with
  | .note => t
  | _ => { t with fault := { t.fault with react := t.fault.react ++ [r] } }

/-- Raise a fault of a class, detected now. -/
def State.raiseAs (s : State) (cls : FaultClass) (k : FaultKind) (src addr : Nat) (detail : List Byte) : State :=
  s.raiseAt cls k src addr (s.faultStamp src) detail

/-- Raise a fault with the class of its kind (Table 18.3). -/
def State.raise (s : State) (k : FaultKind) (src addr : Nat) (detail : List Byte) : State :=
  s.raiseAs k.cls k src addr detail

/-- Whether the hub is in HELD (R493). -/
def State.inHeld (s : State) : Bool := s.fault.held

/-- `f` applied once for each number of a list, left to right. -/
def State.each (s : State) (ns : List Nat) (f : State → Nat → State) : State := ns.foldl f s

/-! ### Logs -/

/-- Records that a log of 16,384 places holds whose next index is `next` (R106, R487): all its places once it is full. -/
def logHeld (full : Bool) (next : Nat) : Nat := if full then 16384 else next

/-- Index of the oldest record a log holds; indexes are 32 bits wide. -/
def logOldest (full : Bool) (next : Nat) : Nat := (next + 2 ^ 32 - logHeld full next) % 2 ^ 32

/-- How many of the records held a read from index `first` passes over: none when it names one already overwritten, all
when it names one still to come. -/
def logSkip (full : Bool) (next first : Nat) : Nat :=
  let d := (first + 2 ^ 32 - logOldest full next) % 2 ^ 32
  if d < logHeld full next then d else if first < logOldest full next then 0 else logHeld full next

/-! ### Sprue queues -/

/-- Sprue queue `q`. -/
def State.queue (s : State) (q : Nat) : SprueQ := Tbl.get (fun _ => {}) s.sprue q

/-- The state with Sprue queue `q` holding `x`. -/
def State.setQueue (s : State) (q : Nat) (x : SprueQ) : State :=
  { s with sprue := Tbl.put (fun _ => {}) s.sprue q x }

/-- Base of the registers of queue `q` (R89). -/
def queueBase (q : Nat) : Nat := 0x680000 + 0x40 * q

end Sys2Proof.Machine
end

