-- ==== Sys2Proof/Machine/SprueOps.lean ====
section
/-! DEFINITION. What happens inside a Sprue queue (R74 to R89). -/

namespace Sys2Proof.Machine

/-- Stages of queue `q` (Table 3.1). -/
def sprueStages (q : Nat) : Nat := (sprueShape q).2.2
/-- Write width of queue `q` in bytes (Table 3.1). -/
def sprueWrite (q : Nat) : Nat := (sprueShape q).1
/-- Read width of queue `q` in bytes (Table 3.1). -/
def sprueRead (q : Nat) : Nat := (sprueShape q).2.1

/-- Words readable at the read side: SPRUE_LEVEL.LEVEL. -/
def SprueQ.level (x : SprueQ) : Nat := x.chain.length
/-- Whole packets waiting: SPRUE_LEVEL.PKTS (R84). -/
def SprueQ.pkts (x : SprueQ) : Nat := (x.chain.filter (·.eop)).length
/-- Pecks the write side holds: SPRUE_LEVEL.PECKS (R76, R77). -/
def SprueQ.pecks (x : SprueQ) (q : Nat) : Nat := sprueStages q - x.chain.length - x.crossing

/-- The fence unit at the write end of a queue, else the one at its read end (R83). -/
def sprueUnit (q : Nat) : Option FenceUnit :=
  if q < 3 then some (.dioBank q)
  else if q < 6 then some (.dioBank (q - 3))
  else if q < 10 then some (.canIsl (q - 6))
  else if q < 14 then some (.canIsl (q - 10))
  else if q < 22 then some (.flask (q - 14))
  else if q < 30 then some (.flask (q - 22))
  else none

/-- The USB, Policy or Host island (19 to 21) at an end of a queue, which is reset under R36 (R83). -/
def sprueIsland (q : Nat) : Option Nat :=
  if q = 34 ∨ q = 35 then some 19 else if q = 36 ∨ q = 37 then some 20 else if q = 38 ∨ q = 39 then some 21 else none

/-- The island source of a fence unit on the main die (Table 18.2). -/
def unitSource : FenceUnit → Nat
  | .canIsl i => srcIsland (4 + i)
  | .flask f => srcIsland (8 + f)
  | .dioBank b => srcIsland (16 + b)
  | .lane l => srcLane l
  | .ringPort p => srcPort p
  | .pedie d => srcIsland (23 + d)

/-- Raise a burst or overrun of queue `q` as R83 charges it; `cause` is 0 for a parity burst, 1 for an overrun. -/
def State.sprueCharge (s : State) (q cause : Nat) : State :=
  let k := if cause = 0 then FaultKind.sprueParityBurst else FaultKind.sprueOverrun
  match sprueUnit q with
  | some u => s.raise k (srcQueue q) 0 (leBytes 2 (unitSource u))
  | none =>
    match sprueIsland q with
    | some i => s.raise k (srcQueue q) 0 (leBytes 2 (srcIsland i))
    | none => s.raise .sprueCoreLost (srcQueue q) 0 (leBytes 1 cause)

/-! ### Parity -/

/-- Whether a number of `w` bits has an odd number of ones. -/
def oddBits : Nat → Nat → Bool
  | 0, _ => false
  | w + 1, n => (n % 2 == 1) != oddBits w (n / 2)

/-- The parity bits of a word (Table 3.2): even parity of each 8 data bytes together with the tags VB, EOP and POISON. -/
def sprueParity (bytes : List Byte) (vb : Nat) (eop poison : Bool) : List Bool :=
  let tags := oddBits 9 (vb % 128 + 128 * b2n eop + 256 * b2n poison)
  (List.range (bytes.length / 8)).map fun g => oddBits 64 (leAt bytes (8 * g) 8) != tags

/-- The word with one bit of its data upset. -/
def SprueWord.upset (w : SprueWord) (bit : Option Nat) : SprueWord :=
  match bit with
  | some n => { w with bytes := w.bytes.modify (n / 8) (· ^^^ BitVec.ofNat 8 (2 ^ (n % 8))) }
  | none => w

/-- Whether a word passes the read side's parity check (R82). -/
def SprueWord.parOk (w : SprueWord) : Bool := w.par == sprueParity w.bytes w.vb w.eop w.poison

/-- One read-side sample of a queue's level: the watermark latches of R87 and SPRUE_MAXLVL. -/
def State.sprueSample (s : State) (q : Nat) : State :=
  let x := s.queue q
  let b := queueBase q
  let above := decide (s.get b SPRUE_WM_MARK ≤ x.level)
  let t := if above && !x.wasAbove then s.set b SPRUE_WM_WM_UP 1 else s
  let t := if !above && x.wasAbove then t.set b SPRUE_WM_WM_DOWN 1 else t
  let t := if t.get b SPRUE_MAXLVL_MAX < x.level then t.set b SPRUE_MAXLVL_MAX x.level else t
  t.setQueue q { x with wasAbove := above }

/-- A complete read-side word at the write end: discarded and counted while the read end is stopped (R86), discarded as
an overrun without a Peck (R79), else placed in the chain (R76) with its parity (R82), inverted when that is armed. DESIGN
CHOICE (log entry 132): a word the producer poisoned counts in SPRUE_POISON_IN when it enters the chain, and not when it is
flushed or overrun. -/
def State.spruePlace (s : State) (q : Nat) (w : SprueWord) : State :=
  let x := s.queue q
  let b := queueBase q
  if !x.readRuns then s.bump b SPRUE_FLUSHED
  else if x.pecks q = 0 then (s.bump b SPRUE_OVERRUN).sprueCharge q 1
  else
    let t := if w.poison then s.bump b SPRUE_POISON_IN else s
    let par := sprueParity w.bytes w.vb w.eop w.poison
    let v : SprueWord := { w with par := if x.injNext then par.map (! ·) else par, forced := x.injForced }
    (t.setQueue q { x with chain := x.chain ++ [v], injNext := false, injForced := none }).sprueSample q

/-- A write-side word of a producer: packed with its packet's earlier words, and placed once the read-side word is full
or carries the end mark (R80, R81). -/
def State.sprueWrite (s : State) (q : Nat) (bytes : List Byte) (eop poison : Bool) : State :=
  let x := s.queue q
  if !x.writeRuns then s
  else
    let p := x.packing ++ bytes.take (Sys2Proof.Machine.sprueWrite q)
    let bad := x.packPois || poison
    if eop || sprueRead q ≤ p.length then
      let t := s.setQueue q { x with packing := [], packPois := false, openPkt := !eop }
      t.spruePlace q { bytes := p ++ List.replicate (sprueRead q - p.length) 0#8, vb := p.length, eop := eop,
                       poison := bad, par := [] }
    else s.setQueue q { x with packing := p, packPois := bad, openPkt := true }

/-- A word read from q 33 is presented to the three lanes in one cycle (R75). -/
def State.presentWord (s : State) (q : Nat) (w : SprueWord) : State :=
  if q = 33 then
    { s with cruc := { s.cruc with laneIn := [0, 1, 2].foldl (fun m l => Tbl.put (fun _ => none) m l (some w)) s.cruc.laneIn } }
  else s

/-- The consumer reads the front word, of which one bit may have been upset: parity check, poison mark, counters and fault
records, one Peck on its way back (R77, R82, R83, R84); a closing word counts in no parity counter (R85). -/
def State.sprueReadWord (s : State) (q : Nat) (upset : Option Nat) : State :=
  let x := s.queue q
  let b := queueBase q
  match x.chain with
  | [] => s
  | v :: rest =>
    let w := v.upset upset
    let bad := !w.parOk && w.vb != 0
    let recent := x.fails.filter fun t => s.uptime < t + 1000000
    let fails := if bad then s.uptime :: recent else recent
    let burst := bad && decide (16 ≤ fails.length)
    let t := s.setQueue q { x with chain := rest, crossing := x.crossing + 1, fails := if burst then [] else fails }
    let t := (t.bump b SPRUE_WORDS).emit (.sprueWord q w.bytes w.vb w.eop (w.poison || bad))
    let t := t.presentWord q { w with poison := w.poison || bad }
    let t := if bad ∧ w.forced.isSome then { t with fault := { t.fault with forcing := w.forced } } else t
    let t := if bad then (t.bump b SPRUE_PAR_ERR).raise .sprueParity (srcQueue q) 0 (leBytes 2 fails.length) else t
    let t := if burst then t.sprueCharge q 0 else t
    t.sprueSample q

/-- A closing word that waits is placed once the write side holds a Peck for it (R76, R85). -/
def State.closePacket (s : State) (q : Nat) : State :=
  let x := s.queue q
  let zeros := List.replicate (sprueRead q) 0#8
  if !x.closing then s
  else if !x.readRuns then (s.setQueue q { x with closing := false }).bump (queueBase q) SPRUE_FLUSHED
  else if x.pecks q = 0 then s
  else
    (s.setQueue q { x with closing := false, chain := x.chain ++
      [{ bytes := zeros, vb := 0, eop := true, poison := true, par := sprueParity zeros 0 true true }] }).sprueSample q

/-- The write end stops: bytes in the packing register are dropped, and a packet left open is closed by a poisoned end
word that counts nowhere (R85). -/
def State.sprueCloseWrite (s : State) (q : Nat) : State :=
  let x := s.queue q
  (s.setQueue q { x with packing := [], packPois := false, openPkt := false, writeRuns := false
                         closing := x.closing || x.openPkt }).closePacket q

/-- The Pecks on their way reach the write side (R77). -/
def State.peckReturn (s : State) (q : Nat) : State :=
  (s.setQueue q { s.queue q with crossing := 0 }).closePacket q

/-- The read end stops: the chain is emptied and counted, every Peck returns at once (R86). -/
def State.sprueFlush (s : State) (q : Nat) : State :=
  let x := s.queue q
  let t := s.bumpBy (queueBase q) SPRUE_FLUSHED x.chain.length
  ((t.setQueue q { x with chain := [], crossing := 0, readRuns := false }).sprueSample q).closePacket q

/-- An end runs again; with both running the queue starts empty with its full grant of Pecks (R86). DESIGN CHOICE (log entry
133): a queue whose write end alone was stopped keeps its chain and the Pecks still crossing, since R85 delivers those words
normally. -/
def State.sprueStart (s : State) (q : Nat) (write : Bool) : State :=
  let x := s.queue q
  if write then
    (s.setQueue q { x with writeRuns := true, packing := [], packPois := false, openPkt := false
                           chain := if x.readRuns then x.chain else [] }).sprueSample q
  else (s.setQueue q { x with readRuns := true, chain := [], crossing := 0 }).sprueSample q

/-- The queues whose write end, and whose read end, lies in a fence unit on the main die (Table 3.1). -/
def unitQueues : FenceUnit → List Nat × List Nat
  | .dioBank b => ([b], [3 + b])
  | .canIsl i => ([6 + i], [10 + i])
  | .flask f => ([14 + f], [22 + f])
  | _ => ([], [])

/-- The same for the USB, Policy and Host islands (19 to 21). -/
def islandQueues (i : Nat) : List Nat × List Nat :=
  if i = 19 then ([34], [35]) else if i = 20 then ([36], [37]) else if i = 21 then ([38], [39]) else ([], [])

/-- Both ends of an island's queues stop (R85, R86). -/
def State.queuesStop (s : State) (qs : List Nat × List Nat) : State :=
  (s.each qs.1 fun s q => s.sprueCloseWrite q).each qs.2 fun s q => s.sprueFlush q

/-- Both ends of an island's queues run again (R86). -/
def State.queuesStart (s : State) (qs : List Nat × List Nat) : State :=
  (s.each qs.1 fun s q => s.sprueStart q true).each qs.2 fun s q => s.sprueStart q false

/-- The summary bit of queue `q` (R88). -/
def State.sprueNotice (s : State) (q : Nat) : Bool :=
  let b := queueBase q
  (s.flag b SPRUE_WM_WM_UP && s.flag b SPRUE_WM_UP_IE) || (s.flag b SPRUE_WM_WM_DOWN && s.flag b SPRUE_WM_DOWN_IE)

end Sys2Proof.Machine
end

