-- ==== Sys2Proof/Machine/FaultOps.lean ====
section
/-! DEFINITION. The fault collector (R482 to R499): forming records, the log, the notice queue, acknowledgement. -/

namespace Sys2Proof.Machine

/-- HEAD of a record (Table 18.1). -/
def faultHead (cls : FaultClass) (k : FaultKind) (src : Nat) (forced loss suspect acked : Bool) : Nat :=
  cls.code + 4 * k.code + 2 ^ 10 * (src % 4096) + 2 ^ 22 * b2n forced + 2 ^ 23 * b2n loss + 2 ^ 24 * b2n suspect
    + 2 ^ 25 * b2n acked

/-- The 32 bytes of a record (Table 18.1). -/
def faultRecord (head addr stamp seq : Nat) (detail : List Byte) : List Byte :=
  leBytes 4 head ++ leBytes 6 addr ++ stampBytes stamp ++ leBytes 2 seq ++ (detail ++ List.replicate 10 0#8).take 10

/-- Where record `i` of the log lies in the store (R487). -/
def State.faultLogAt (s : State) (i : Nat) : Nat := s.partBase 7 + 32 * (i % 16384)

/-- Whether `a` is collected before `b` (R485): the earlier Crucible cycle first; within one, by class, then SOURCE,
then KIND. -/
def Raised.before (a b : Raised) : Bool :=
  let ca := a.since * 2 / 5
  let cb := b.since * 2 / 5
  if ca ≠ cb then decide (ca < cb)
  else if a.cls.code ≠ b.cls.code then decide (b.cls.code < a.cls.code)
  else if a.source ≠ b.source then decide (a.source < b.source)
  else decide (a.kind.code ≤ b.kind.code)

/-- The first fault of a list in collection order. -/
def firstRaised : List Raised → Option Raised
  | [] => none
  | r :: rs =>
    match firstRaised rs with
    | none => some r
    | some r' => if r.before r' then some r else some r'

/-- The counter of a class (Table 18.8); Fatal-class records after the first are counted at their entry (R493). -/
def State.countClass (s : State) : FaultClass → State
  | .note => s.bump 0x700000 FAULT_NOTES
  | .degrade => s.bump 0x700000 FAULT_DEGRADES
  | .safety => s.bump 0x700000 FAULT_SAFETY
  | .fatal => s

/-- The record of a fault is numbered, logged, counted, and its notice queued (R485, R487 to R489). -/
def State.collect (s : State) (r : Raised) : State :=
  let i := s.get 0x700000 FAULT_LOG_POS_INDEX
  let seq := s.get 0x700000 FAULT_SEQ_NEXT
  let head := faultHead r.cls r.kind r.source r.forced s.fault.loss r.suspect false
  let t := s.store (s.faultLogAt i) (faultRecord head r.addr r.stamp seq r.detail)
  let t := if s.fault.logFull then t.bump 0x700000 FAULT_LOG_OVWR else t
  let t := t.set 0x700000 FAULT_LOG_POS_INDEX (i + 1)
  let t := t.set 0x700000 FAULT_SEQ_NEXT (seq + 1)
  let t := t.countClass r.cls
  let kept := t.fault.unacked.filter fun u => decide ((i + 2 ^ 32 - u.1) % 2 ^ 32 < 16384)
  let un := match r.cls with
    | .degrade | .safety => kept ++ [(i, seq, r.cls.code)]
    | _ => kept
  let t := { t with fault := { t.fault with loss := false, unacked := un, logFull := s.fault.logFull || decide (16383 ≤ i) } }
  let t := match r.cls with
    | .degrade => (t.evt 0x700000 FAULT_EVT 0).evt 0x700000 FAULT_EVT 1
    | .safety => (t.evt 0x700000 FAULT_EVT 0).evt 0x700000 FAULT_EVT 2
    | _ => t
  if r.cls = .note ∧ s.get 0x700000 FAULT_CTRL_NOTE_Q = 0 then t
  else if t.fault.notices.length < 128 then
    let t := { t with fault := { t.fault with notices := t.fault.notices ++ [⟨head, r.addr, i, seq⟩] } }
    if r.cls = .note then t.evt 0x700000 FAULT_EVT 0 else t
  else (t.bump 0x700000 FAULT_QOVF).evt 0x700000 FAULT_EVT 3

/-- The collector takes the next fault, if one waits. -/
def State.collectNext (s : State) : State :=
  match firstRaised (s.fault.latches ++ s.fault.intake) with
  | none => s
  | some r =>
    let t := { s with fault := { s.fault with latches := s.fault.latches.erase r, intake := s.fault.intake.erase r } }
    t.collect r

/-- The front notice's words (Table 18.4); an empty queue reads 0. -/
def State.noticeWord (s : State) (off : Nat) : Nat :=
  match s.fault.notices with
  | [] => 0
  | n :: rest =>
    if off = 0 then n.head
    else if off = 4 then n.addr % 2 ^ 32
    else if off = 8 then n.addr / 2 ^ 32
    else if off = 0xC then n.idx
    else n.seq + 2 ^ 16 * rest.length

/-- The front notice leaves the queue. -/
def State.noticePop (s : State) : State := { s with fault := { s.fault with notices := s.fault.notices.drop 1 } }

/-- A corrected single-bit error of a store bank (R492): counted, and reported at most once per second per bank with
the corrections of the last second. -/
def State.storeCe (s : State) (bank : Nat) : State :=
  let recent := (Tbl.get (fun _ => []) s.fault.ceTimes bank).filter fun t => s.uptime < t + nsPerSec
  let times := s.uptime :: recent
  let t := s.bump 0x700000 FAULT_STORE_CE
  let t := { t with fault := { t.fault with ceTimes := Tbl.put (fun _ => []) t.fault.ceTimes bank times } }
  let last := Tbl.get (fun _ => 0) t.fault.ceLast bank
  if last = 0 ∨ last + nsPerSec ≤ s.uptime + 1 then
    let t := { t with fault := { t.fault with ceLast := Tbl.put (fun _ => 0) t.fault.ceLast bank (s.uptime + 1) } }
    t.raise .storeCe (srcIsland 1) 0 (leBytes 1 bank ++ [0#8] ++ leBytes 4 times.length)
  else t

/-- An uncorrectable error met at a store word by a reader (R70, R492): in partition 0 or the store's own context table
(partition 1) it makes the store unusable. -/
def State.storeLost (s : State) (word : Nat) : State :=
  let off := 8 * word
  let inPart p := s.partBase p ≤ off ∧ off < s.partBase p + s.partSize p
  if inPart 0 ∨ inPart 1 then
    s.raise .coreUnitLost (srcIsland 1) (fabAddr s.nodeId 1 off) (leBytes 1 0 ++ leBytes 1 (bankOf off))
  else s

/-- Single-bit errors among the words that cover `n` bytes from `a` are corrected on the read and counted (R70, R492). -/
def State.correct (s : State) (a n : Nat) : State :=
  let ws := (s.memErr.filter fun p => p.2 == 1 && a / 8 ≤ p.1 && (p.1 * 8 < a + n)).map (·.1)
  s.each ws fun s w =>
    ({ s with memErr := Tbl.put (fun _ => 0) s.memErr w 0 }).storeCe (bankOf (8 * w))

/-- Upsets of store words: `(word, true)` uncorrectable, `(word, false)` a single bit. -/
def State.upset (s : State) (us : List (Nat × Bool)) : State :=
  us.foldl (fun s u =>
    if s.wordErr u.1 = 2 then s
    else { s with memErr := Tbl.put (fun _ => 0) s.memErr (u.1 % 2 ^ 23) (if u.2 then 2 else 1) }) s

/-- Serial-number order on 16 bits: `a` at or before `b`. -/
def seqLe (a b : Nat) : Bool := decide ((b + 65536 - a % 65536) % 65536 < 32768)

/-- Acknowledge the unacknowledged records whose SEQ satisfies `p`: ACKED is set in each (R497). The count acknowledged
and the state. -/
def State.ackFaults (s : State) (p : Nat → Bool) : Nat × State :=
  let hit := s.fault.unacked.filter fun u => p u.2.1
  let t := hit.foldl (fun (s : State) u =>
    let a := s.faultLogAt u.1
    let h := leNat (s.load a 4)
    s.store a (leBytes 4 (setBit h 25 true))) s
  (hit.length, { t with fault := { t.fault with unacked := t.fault.unacked.filter fun u => !p u.2.1 } })

/-- Unacknowledged records of a class code left in the log. -/
def State.unackOf (s : State) (c : Nat) : Nat := (s.fault.unacked.filter fun u => u.2.2 == c).length

end Sys2Proof.Machine
end

