-- ==== Sys2Proof/Machine/PimgOps.lean ====
section
/-! DEFINITION. The process image (R261 to R267): slots, their map entries, writing and taking. -/

namespace Sys2Proof.Machine

/-- Base of the PIMG block. -/
def pimgBase : Nat := 0xB0000

/-- Slots of the process image: the size of partition 5 divided by 64 (R261). -/
def State.slotCount (s : State) : Nat := s.partSize 5 / 64

/-- The map entry of a slot. -/
def State.slotMap (s : State) (n : Nat) : SlotMap := Tbl.get (fun _ => {}) s.pimg.maps n

/-- The state with the map entry of slot `n` replaced. -/
def State.setSlotMap (s : State) (n : Nat) (m : SlotMap) : State :=
  { s with pimg := { s.pimg with maps := Tbl.put (fun _ => {}) s.pimg.maps n m } }

/-- Writer kind, consumer kind and the other fields of Table 9.8. -/
def SlotMap.wkind (m : SlotMap) : Nat := m.w0 % 16
/-- CKIND of a map entry. -/
def SlotMap.ckind (m : SlotMap) : Nat := m.w0 / 16 % 16
/-- RNODE of a map entry. -/
def SlotMap.rnode (m : SlotMap) : Nat := m.w0 / 256 % 256
/-- WINDEX of a map entry. -/
def SlotMap.windex (m : SlotMap) : Nat := m.w0 / 65536
/-- WSUB of a map entry. -/
def SlotMap.wsub (m : SlotMap) : Nat := m.w1 % 65536
/-- CINDEX of a map entry. -/
def SlotMap.cindex (m : SlotMap) : Nat := m.w1 / 65536
/-- PERIOD_US of a map entry. -/
def SlotMap.periodUs (m : SlotMap) : Nat := m.w2 % 2 ^ 24
/-- STALE_MS of a map entry. -/
def SlotMap.staleMs (m : SlotMap) : Nat := m.w3 % 65536
/-- CSUB of a map entry. -/
def SlotMap.csub (m : SlotMap) : Nat := m.w3 / 65536

/-- Where slot `n` lies in the store (R261). -/
def State.slotAt (s : State) (n : Nat) : Nat := s.partBase 5 + 64 * n

/-- The 64 bytes of a slot (Table 9.7). -/
def State.slotImage (s : State) (n : Nat) : List Byte := s.load (s.slotAt n) 64

/-- STATUS of a slot (Table 9.7). -/
def State.slotStatus (s : State) (n : Nat) : Nat := (s.byteAt (s.slotAt n + 63)).toNat

/-- The slot with its STATUS byte replaced. -/
def State.setSlotStatus (s : State) (n v : Nat) : State := s.store (s.slotAt n + 63) (leBytes 1 v)

/-- The 64-byte image of a slot from its parts (Table 9.7); bytes past LEN are zero. -/
def slotBytes (value : List Byte) (stamp gen ovw len status : Nat) : List Byte :=
  (value.take len ++ List.replicate 48 0#8).take 48 ++ stampBytes stamp ++ leBytes 2 gen ++ leBytes 2 ovw
    ++ leBytes 1 len ++ leBytes 1 status

/-- Slots whose map entry satisfies `p`, in ascending order. -/
def State.slotsWhere (s : State) (p : SlotMap → Bool) : List Nat :=
  (s.pimg.maps.filter fun e => p e.2 && decide (e.1 < s.slotCount)).map (·.1)

/-- A write of a slot's value by its writer (R263): GEN rises, an untaken value counts as overwritten, STALE and POISON
of the old value go. Nothing is written while PIMG_CTRL.EN = 0, or while the slot's writer is fenced (R35). -/
def State.slotWrite (s : State) (n : Nat) (value : List Byte) (len stamp : Nat) (suspect poison : Bool) : State :=
  let st := s.slotStatus n
  if !s.flag pimgBase PIMG_CTRL_EN || bitAt st 0 then s
  else
    let m := s.slotMap n
    let img := s.slotImage n
    let ovr := m.ckind != 0 && !m.taken
    let gen := (leAt img 58 2 + 1) % 65536
    let ovw := (leAt img 60 2 + b2n ovr) % 65536
    let t := s.store (s.slotAt n)
      (slotBytes value stamp gen ovw (min len 48) (2 * b2n suspect + 8 * b2n poison))
    let t := t.bump pimgBase PIMG_WRITES
    let t := if ovr then t.bump pimgBase PIMG_OVERWRITES else t
    let t := t.setSlotMap n { m with taken := m.ckind == 0, wrote := t.uptime + 1 }
    { t with pimg := { t.pimg with dirty := t.pimg.dirty ++ [n] } }

/-- A take by the slot's consumer (R263): the latest image, with POISON when the slot meets an uncorrectable store error
(R267), and the state in which the value counts as taken; with PIMG_CTRL.EN = 0 there are no takes (Table 9.14), and the
image is only looked at. -/
def State.slotTake (s : State) (n : Nat) : List Byte × State :=
  if !s.flag pimgBase PIMG_CTRL_EN then (s.slotImage n, s) else
  let t := match s.firstUe (s.slotAt n) 64 with
    | some _ => s.setSlotStatus n (setBit (s.slotStatus n) 3 true)
    | none => s
  let m := t.slotMap n
  (t.slotImage n, t.setSlotMap n { m with taken := true })

/-- Setting a map entry clears the slot to zero in one step (R262). -/
def State.slotMapSet (s : State) (n w0 w1 w2 w3 : Nat) : State :=
  let t := s.store (s.slotAt n) (List.replicate 64 0#8)
  t.setSlotMap n { w0 := w0, w1 := w1, w2 := w2, w3 := w3, setAt := s.uptime + 1 }

/-- Whether a writer of a kind exists with this index (Table 9.9, R4). -/
def State.writerOk (s : State) (m : SlotMap) : Bool :=
  match m.wkind with
  | 0 | 1 => m.windex == 0
  | 2 => m.windex < s.nDio
  | 3 => m.windex < s.nCan && m.wsub < 32
  | 4 => m.windex < 8 * s.nFlask
  | 5 => m.windex < s.nPch
  | 6 => m.windex < 3
  | 7 => m.windex < 16384 && 1 ≤ m.rnode && m.rnode ≤ 254
  | _ => false

/-- Whether a consumer of a kind exists with this index (Table 9.9, R4). -/
def State.consumerOk (s : State) (m : SlotMap) : Bool :=
  match m.ckind with
  | 0 => m.cindex == 0
  | 1 => 5 ≤ m.cindex && m.cindex ≤ 1023
  | 2 => m.cindex < s.nCan && m.csub < 16
  | 3 => m.cindex < 8 * s.nFlask
  | 4 => m.cindex < 16
  | _ => false

/-- Whether a map entry is valid (R262). -/
def State.mapValid (s : State) (w0 w1 w2 w3 : Nat) : Bool :=
  let m : SlotMap := { w0 := w0, w1 := w1, w2 := w2, w3 := w3 }
  s.writerOk m && s.consumerOk m
    && (m.wkind == 3 || m.wsub == 0) && (m.wkind == 7 || m.rnode == 0)
    && (m.ckind == 2 || m.csub == 0)
    && (if m.ckind = 1 ∨ m.ckind = 4 then 10 ≤ m.periodUs && m.periodUs ≤ 1000000 else m.periodUs == 0)
    && w2 < 2 ^ 24 && m.staleMs ≤ 60000

/-- The slots a fence unit writes (R35): lines of a bank, controllers of an island, engines of a Flask, channels of a
die and, for die 0, the feeds. -/
def fenceWrites (u : FenceUnit) (m : SlotMap) : Bool :=
  match u with
  | .dioBank b => m.wkind == 2 && m.windex / 64 == b
  | .canIsl i => m.wkind == 3 && m.windex / 16 == i
  | .flask f => m.wkind == 4 && m.windex / 8 == f
  | .pedie d => (m.wkind == 5 && m.windex / 32 == d) || (m.wkind == 6 && d == 0)
  | _ => false

/-- The FENCED bit of every slot a fence unit writes is made `b` (R35). -/
def State.slotsFenced (s : State) (u : FenceUnit) (b : Bool) : State :=
  s.each (s.slotsWhere (fenceWrites u)) fun s n => s.setSlotStatus n (setBit (s.slotStatus n) 0 b)

/-- A slot goes stale (R266). -/
def State.slotStale (s : State) (n : Nat) : State :=
  ((s.setSlotStatus n (setBit (s.slotStatus n) 2 true)).bump pimgBase PIMG_STALE).evt pimgBase PIMG_EVT 0

/-- No write has arrived for STALE_MS, counted from setting the entry before the first (R266). -/
def State.slotExpire (s : State) (n : Nat) : State :=
  let m := s.slotMap n
  let since := max m.wrote m.setAt
  if m.staleMs ≠ 0 ∧ since ≠ 0 ∧ !bitAt (s.slotStatus n) 2 ∧ since + 1000000 * m.staleMs ≤ s.uptime + 1 then s.slotStale n else s

/-- A mirror's entry for slot `n` (R265, R266): an older GEN is discarded; an equal one changes only STALE; a newer one
is taken as a write. -/
def State.mirrorTake (s : State) (n : Nat) (img : List Byte) : State :=
  let m := s.slotMap n
  let own := s.slotImage n
  let g := leAt own 58 2
  let g' := leAt img 58 2
  let fresh (s : State) (m : SlotMap) : State :=
    let s := s.setSlotMap n { m with wrote := s.uptime + 1 }
    let now := bitAt (s.slotStatus n) 2
    if bitAt (leAt img 63 1) 2 then (if now then s else s.slotStale n)
    else s.setSlotStatus n (setBit (s.slotStatus n) 2 false)
  if !s.flag pimgBase PIMG_CTRL_EN then s
  else if g' = g ∧ m.wrote ≠ 0 then fresh s m
  else if m.wrote ≠ 0 ∧ !seqLe g g' then (s.bump pimgBase PIMG_MIRROR_OLD).evt pimgBase PIMG_EVT 1
  else
    let ovr := m.ckind != 0 && !m.taken
    let ovw := (leAt own 60 2 + b2n ovr) % 65536
    let keep := bitAt (leAt own 63 1) 2
    let t := s.store (s.slotAt n)
      (img.take 60 ++ leBytes 2 ovw ++ (img.drop 62).take 1 ++ leBytes 1 (setBit (leAt img 63 1) 2 keep))
    let t := (t.bump pimgBase PIMG_WRITES).bump pimgBase PIMG_MIRROR_RX
    let t := if ovr then t.bump pimgBase PIMG_OVERWRITES else t
    let t := fresh t { m with taken := m.ckind == 0 }
    { t with pimg := { t.pimg with dirty := t.pimg.dirty ++ [n] } }

end Sys2Proof.Machine
end

