-- ==== Sys2Proof/Machine/LedgerOps.lean ====
section
/-! DEFINITION. The event ledger (R241 to R260): forming records, the ordered merge, markers, the circles. -/

namespace Sys2Proof.Machine

/-- Base of the LEDGER block. -/
def ledgerBase : Nat := 0xA0000
/-- Base of the TIME block. -/
def timeBase : Nat := 0x10000

/-- Whether ring time is valid (TIME_STAT.VALID, Table 8.3). -/
def State.timeValid (s : State) : Bool := s.flag timeBase TIME_STAT_VALID

/-- Ring time as the store island reads it. -/
def State.storeNow (s : State) : Nat := s.nowAt 1

/-- The bytes of a record (Table 9.2). -/
def LRec.bytes (r : LRec) : List Byte :=
  stampBytes r.stamp ++ leBytes 1 r.node ++ leBytes 1 r.type ++ leBytes 2 r.unit ++ leBytes 1 r.source
    ++ leBytes 1 r.flags ++ leBytes 4 r.sseq ++ (r.data ++ List.replicate 12 0#8).take 12

/-- The record that 32 bytes spell (Table 9.2). -/
def recOf (bs : List Byte) : LRec :=
  { stamp := stampOf bs, node := leAt bs 10 1, type := leAt bs 11 1, unit := leAt bs 12 2, source := leAt bs 14 1
    flags := leAt bs 15 1, sseq := leAt bs 16 4, data := (bs.drop 20).take 12 }

/-- The order of R249: by STAMP, then NODE, UNIT and SSEQ. -/
def LRec.before (a b : LRec) : Bool :=
  if a.stamp ≠ b.stamp then decide (a.stamp < b.stamp)
  else if a.node ≠ b.node then decide (a.node < b.node)
  else if a.unit ≠ b.unit then decide (a.unit < b.unit)
  else decide (a.sseq < b.sseq)

/-- The settle horizon H in nanoseconds. -/
def State.horizon (s : State) : Nat := s.get ledgerBase LEDGER_CFG_HORIZON_US * 1000

/-- The lag of a source in force, LEDGER_LAG (R241). -/
def State.lag (s : State) (c : Nat) : Nat := s.get (ledgerBase + 0x800 + 4 * c) LEDGER_LAG_LAG_NS

/-- The state with the lag of a source made `v`. -/
def State.setLag (s : State) (c v : Nat) : State := s.set (ledgerBase + 0x800 + 4 * c) LEDGER_LAG_LAG_NS v

/-- Base of subscription `i`'s registers. -/
def subBase (i : Nat) : Nat := ledgerBase + 0x1000 + 0x20 * i

/-- Subscription `i` beside its registers. -/
def State.sub (s : State) (i : Nat) : Sub := Tbl.get (fun _ => {}) s.ledger.subs i

/-- The state with subscription `i`'s hidden part replaced. -/
def State.setSub (s : State) (i : Nat) (x : Sub) : State :=
  { s with ledger := { s.ledger with subs := Tbl.put (fun _ => {}) s.ledger.subs i x } }

/-- START of a subscription as nanoseconds. -/
def State.subStart (s : State) (i : Nat) : Nat :=
  (s.get (subBase i) SUB_START_SL_SEC_LO + 2 ^ 32 * s.get (subBase i) SUB_START_SH_SEC_HI) * nsPerSec
    + s.get (subBase i) SUB_START_NS_NS

/-- END of a subscription as nanoseconds, 0 while none is set. -/
def State.subEnd (s : State) (i : Nat) : Nat :=
  (s.get (subBase i) SUB_END_SL_SEC_LO + 2 ^ 32 * s.get (subBase i) SUB_END_SH_SEC_HI) * nsPerSec
    + s.get (subBase i) SUB_END_NS_NS

/-- The state with START of subscription `i` made `t`. -/
def State.setSubStart (s : State) (i t : Nat) : State :=
  ((s.set (subBase i) SUB_START_NS_NS (t % nsPerSec)).set (subBase i) SUB_START_SL_SEC_LO (t / nsPerSec % 2 ^ 32)).set
    (subBase i) SUB_START_SH_SEC_HI (t / nsPerSec / 2 ^ 32)

/-- The state with END of subscription `i` made `t`. -/
def State.setSubEnd (s : State) (i t : Nat) : State :=
  ((s.set (subBase i) SUB_END_NS_NS (t % nsPerSec)).set (subBase i) SUB_END_SL_SEC_LO (t / nsPerSec % 2 ^ 32)).set
    (subBase i) SUB_END_SH_SEC_HI (t / nsPerSec / 2 ^ 32)

/-- Whether subscription `i` is in use. -/
def State.subUsed (s : State) (i : Nat) : Bool := s.flag (subBase i) SUB_CFG_IN_USE

/-- Whether subscription `i` names a local source: node 0 or this hub's own ID (R248). -/
def State.subLocal (s : State) (i : Nat) : Bool :=
  let n := s.get (subBase i) SUB_CFG_NODE
  n == 0 || (s.hasNode && n == s.nodeId)

/-- The subscriptions in use. -/
def State.subsInUse (s : State) : List Nat := (List.range 256).filter fun i => s.subUsed i

/-- The subscription that names a source of a node (`own`: of this hub), if any. -/
def State.findSub (s : State) (node source : Nat) (own : Bool) : Option Nat :=
  s.subsInUse.find? fun i =>
    s.get (subBase i) SUB_CFG_SOURCE == source
      && (if own then s.subLocal i else !s.subLocal i && s.get (subBase i) SUB_CFG_NODE == node)

/-- Whether a stamp lies in the range START to END of a subscription (R248). -/
def State.subHolds (s : State) (i t : Nat) : Bool :=
  decide (s.subStart i ≤ t) && (s.subEnd i == 0 || decide (t < s.subEnd i))

/-- wm(s) of a subscription (R242, R248): the last watermark taken, START minus 1 ns before the first; a local source's
watermark is the store island's ring time less the source's lag. -/
def State.subWm (s : State) (i : Nat) : Nat :=
  if s.subLocal i then max (s.storeNow - s.lag (s.get (subBase i) SUB_CFG_SOURCE)) (s.subStart i - 1)
  else if (s.sub i).wmTaken then (s.sub i).wm else s.subStart i - 1

/-- Whether a subscription is LAGGING (R252). -/
def State.lagging (s : State) (i : Nat) : Bool := s.flag (subBase i) SUB_CFG_LAGGING

/-- The release frontier F (R251): the largest of the stamp last released, the least watermark of the subscriptions
that hold back, and now less the horizon. A subscription whose START is yet to come is not active and holds nothing back. -/
def State.frontier (s : State) : Nat :=
  let wms := (s.subsInUse.filter fun i =>
    !s.lagging i && decide (s.subStart i ≤ s.storeNow) && (s.subEnd i == 0 || decide (s.subWm i < s.subEnd i))).map s.subWm
  let last := match s.ledger.last with | some r => r.stamp | none => 0
  let m := match wms with | [] => 0 | w :: ws => ws.foldl min w
  max (max last m) (s.storeNow - s.horizon)

/-- Capacity of the ordered circle in records (R259). -/
def State.ordCap (s : State) : Nat := (s.partCount 4 - s.get ledgerBase LEDGER_FAST_INGOTS) * 2048
/-- Capacity of the fast circle in records (R259). -/
def State.fastCap (s : State) : Nat := s.get ledgerBase LEDGER_FAST_INGOTS * 2048

/-- The 64-bit count of records written to the ordered circle. -/
def State.ordPos (s : State) : Nat := s.get ledgerBase LEDGER_ORD_POS_LO + 2 ^ 32 * s.get ledgerBase LEDGER_ORD_POS_HI
/-- The 64-bit count of records written to the fast circle. -/
def State.fastPos (s : State) : Nat :=
  s.get ledgerBase LEDGER_FAST_POS_LO + 2 ^ 32 * s.get ledgerBase LEDGER_FAST_POS_HI

/-- A record or marker written to the ordered circle (R259); a circle of no capacity counts only. -/
def State.writeOrd (s : State) (r : LRec) : State :=
  let i := s.ordPos
  let t := if s.ordCap = 0 then s else s.store (s.partBase 4 + 32 * (i % s.ordCap)) r.bytes
  let t := (t.set ledgerBase LEDGER_ORD_POS_LO (i + 1)).set ledgerBase LEDGER_ORD_POS_HI ((i + 1) / 2 ^ 32)
  (t.bump ledgerBase LEDGER_RELEASED).evt ledgerBase LEDGER_EVT 0

/-- A Fast record written to the fast circle (R258). -/
def State.writeFast (s : State) (r : LRec) : State :=
  let i := s.fastPos
  let r := { r with flags := setBit r.flags 4 true }
  let t := if s.fastCap = 0 then s else s.store (s.partBase 4 + 32 * s.ordCap + 32 * (i % s.fastCap)) r.bytes
  let t := (t.set ledgerBase LEDGER_FAST_POS_LO (i + 1)).set ledgerBase LEDGER_FAST_POS_HI ((i + 1) / 2 ^ 32)
  (t.bump ledgerBase LEDGER_FAST_RX).evt ledgerBase LEDGER_EVT 1

/-- A marker written at once (R257); nothing is written while the ledger is stopped. -/
def State.marker (s : State) (node type source flags stamp : Nat) (data : List Byte) : State :=
  if !s.flag ledgerBase LEDGER_CTRL_EN then s
  else (s.writeOrd { stamp := stamp, node := node, type := type, unit := 0xF000, source := source, flags := flags
                     sseq := 0, data := data }).evt ledgerBase LEDGER_EVT 3

/-- A marker about this hub (R257). -/
def State.ownMarker (s : State) (type : Nat) (data : List Byte) : State :=
  s.marker s.nodeId type 0xFF (2 * b2n (s.suspectAt 1)) s.storeNow data

/-- A held record leaves the hold buffer for the ordered circle; its triggers are judged in this step (R251, R260). -/
def State.releaseRec (s : State) (h : LRec × Nat × Nat) : State :=
  let t := { s with ledger := { s.ledger with hold := s.ledger.hold.erase h, last := some h.1 } }
  let t := t.writeOrd h.1
  if 0x80 ≤ h.1.type then t.evt ledgerBase LEDGER_EVT 3
  else { t with ledger := { t.ledger with trigs := t.ledger.trigs ++ [h.1] } }

/-- The first held record in the order of R249. -/
def firstHeld : List (LRec × Nat × Nat) → Option (LRec × Nat × Nat)
  | [] => none
  | h :: hs =>
    match firstHeld hs with
    | none => some h
    | some h' => if h'.1.before h.1 then some h' else some h

/-- Whether a report allowed once per second may be made now. -/
def State.mayReport (s : State) (last : Option Nat) : Bool :=
  match last with | none => true | some t => decide (t + nsPerSec ≤ s.uptime)

/-- A subscription becomes LAGGING (R252). -/
def State.setLagging (s : State) (i : Nat) : State :=
  (s.set (subBase i) SUB_CFG_LAGGING 1).evt ledgerBase LEDGER_EVT 4

/-- A full hold buffer forces out its oldest record (R254): counted, reported at most once per second, and the sources
behind the released stamp become LAGGING. -/
def State.forceOut (s : State) : State :=
  match firstHeld s.ledger.hold with
  | none => s
  | some h =>
    let behind := s.subsInUse.filter fun i => !s.lagging i && s.subHolds i h.1.stamp && decide (s.subWm i < h.1.stamp)
    let t := (s.releaseRec h).bump ledgerBase LEDGER_HOLD_FULL
    let t := t.evt ledgerBase LEDGER_EVT 5
    let t := t.each behind fun s i => s.setLagging i
    if t.mayReport t.ledger.fullAt then
      let t := { t with ledger := { t.ledger with fullAt := some t.uptime } }
      let t := t.ownMarker 0x81 (leBytes 1 0 ++ leBytes 3 0 ++ leBytes 4 0 ++ leBytes 4 0)
      t.raise .ledgerHoldFull (srcIsland 1) 0 (leBytes 4 1)
    else t

/-- A record taken by subscription `i` (R248, R251, R253, R254, R258): out of range it is discarded and counted; a Fast
record goes to the fast circle; a LATE one is released at once; any other is held. -/
def State.takeRec (s : State) (i : Nat) (r : LRec) (lostSseq : Bool) : State :=
  if !s.flag ledgerBase LEDGER_CTRL_EN then s
  else if !s.subHolds i r.stamp then s.bump ledgerBase LEDGER_BEFORE_START
  else
    let fast := bitAt r.flags 4
    let s := s.set (subBase i) SUB_CFG_FAST (b2n fast)
    if fast then s.writeFast r
    else
      let f := s.frontier
      let tie := match s.ledger.last with | some l => decide (l.stamp = f) && r.before l | none => false
      if lostSseq || decide (r.stamp < f) || (decide (r.stamp = f) && tie) then
        ((s.writeOrd { r with flags := setBit r.flags 0 true }).bump ledgerBase LEDGER_LATE).evt ledgerBase LEDGER_EVT 2
      else
        let s := if 8192 ≤ s.ledger.hold.length then s.forceOut else s
        { s with ledger := { s.ledger with hold := s.ledger.hold ++ [(r, i, s.uptime)] } }

/-- The SSEQ after `n` (R243): from 0xFFFF_FFFF to 1, never 0. -/
def nextSseq (n : Nat) : Nat := if n ≥ 0xFFFFFFFF then 1 else n + 1

/-- The context a source is published in, or 0 (R245). -/
def State.pubCtx (s : State) (c : Nat) : Nat := s.get (ledgerBase + 0x400 + 4 * c) LEDGER_PUB_PUB_CTX

/-- Whether a source is in Fast mode (R245). -/
def State.sourceFast (s : State) (c : Nat) : Bool :=
  let p := s.pubCtx c
  if 5 ≤ p then s.flag (0x90000 + 0x40 * p) CTX_CTRL_FAST
  else s.flag (ledgerBase + 0x400 + 4 * c) LEDGER_PUB_LOCAL_FAST

/-- The frame's Ethernet part before the body (R246): destination group of the publishing node, source, EtherType. -/
def ledgerHead (node etype : Nat) : List Byte :=
  [0x03#8, 0xA5#8, 0xC0#8, 0x00#8, 0x01#8, BitVec.ofNat 8 node, 0x02#8, 0xA5#8, 0xC0#8, 0x00#8, 0x00#8,
   BitVec.ofNat 8 node, BitVec.ofNat 8 (etype / 256), BitVec.ofNat 8 etype]

/-- The source codes published in a context, in ascending order. -/
def State.pubSources (s : State) (ctx : Nat) : List Nat := (List.range 255).filter fun c => s.sourceOk c && s.pubCtx c == ctx

/-- EPOCH of this hub (R143), kept in the AON island. -/
def State.epoch (s : State) : Nat := s.get 0x7F0000 AON_EPOCH_EPOCH

/-- The watermark entries of an Ordered context (Table 9.5, R247). -/
def State.wmEntries (s : State) (ctx : Nat) : List Byte :=
  (s.pubSources ctx).flatMap fun c =>
    leBytes 1 c ++ leBytes 3 0 ++ leBytes 4 (s.lag c) ++ leBytes 4 (Tbl.get (fun _ => 0) s.ledger.sseq c)

/-- A ledger frame of a context with these records (R246, R247), handed to the context; Ordered contexts carry a
watermark entry for each source. -/
def State.publish (s : State) (ctx : Nat) (rs : List LRec) : State :=
  let fast := s.flag (0x90000 + 0x40 * ctx) CTX_CTRL_FAST
  let wms := if fast then [] else s.wmEntries ctx
  let body := leBytes 1 0x10 ++ leBytes 1 s.nodeId ++ leBytes 1 rs.length ++ leBytes 1 (wms.length / 12)
    ++ leBytes 1 (b2n fast + 2 * b2n (!s.timeValid)) ++ leBytes 1 s.epoch ++ stampBytes s.storeNow
    ++ rs.flatMap LRec.bytes ++ wms
  let frame := ledgerHead s.nodeId (s.get ledgerBase LEDGER_ETYPE_ETYPE) ++ body
  let d : Descr := { bytes := some frame, addr := 0, len := frame.length, yellow := false }
  { s with inbox := Tbl.put (fun _ => []) s.inbox ctx (Tbl.get (fun _ => []) s.inbox ctx ++ [d])
           ledger := { s.ledger with sentAt := Tbl.put (fun _ => 0) s.ledger.sentAt ctx (s.uptime + 1) } }

/-- The last SSEQ a source used. -/
def State.lastSseq (s : State) (c : Nat) : Nat := Tbl.get (fun _ => 0) s.ledger.sseq c

/-- The state with the last SSEQ of a source made `n`. -/
def State.setSseq (s : State) (c n : Nat) : State :=
  { s with ledger := { s.ledger with sseq := Tbl.put (fun _ => 0) s.ledger.sseq c n } }

/-- A record enters the own ledger when a subscription names its source (R248). -/
def State.localRec (s : State) (r : LRec) : State :=
  match s.findSub 0 r.source true with
  | some i => s.takeRec i r false
  | none => s

/-- A record leaves on the ring when its source is published (R245, R247). -/
def State.publishRec (s : State) (r : LRec) : State :=
  if 5 ≤ s.pubCtx r.source then s.publish (s.pubCtx r.source) [r] else s

/-- The record a source forms now, with its next SSEQ (R243, R244). -/
def State.newRec (s : State) (c type unit stamp : Nat) (suspect poison : Bool) (data : List Byte) : LRec :=
  { stamp := stamp, node := s.nodeId, type := type, unit := unit, source := c
    flags := 2 * b2n suspect + 8 * b2n poison + 16 * b2n (s.sourceFast c)
    sseq := nextSseq (s.lastSseq c), data := data }

/-- A source forms a record (R243 to R248): numbered, taken by the local subscription to it, and published when a
context is named for it. A stopped ledger forms none. -/
def State.formRec (s : State) (c type unit stamp : Nat) (suspect poison : Bool) (data : List Byte) : State :=
  if s.flag ledgerBase LEDGER_CTRL_EN then
    let r := s.newRec c type unit stamp suspect poison data
    ((s.setSseq c r.sseq).localRec r).publishRec r
  else s

/-- A marker placed in the stream of every published source that satisfies `p`, with the source's own SSEQ (R257). -/
def State.streamMarker (s : State) (p : Nat → Bool) (type : Nat) (data : List Byte) : State :=
  let cs := (List.range 255).filter fun c => p c && s.sourceOk c && decide (5 ≤ s.pubCtx c)
  s.each cs fun s c =>
    let r := s.newRec c type 0xF000 s.storeNow (s.suspectAt 1) false data
    (s.setSseq c r.sseq).publish (s.pubCtx c) [r]

/-- A TIME_INVALID marker of a phase (Table 9.6), in the own ledger and in every published source's stream. -/
def State.timeMarker (s : State) (phase : Nat) (step : Int) : State :=
  let d := leBytes 1 phase ++ leBytes 3 0 ++ leBytes 8 (ofSigned 64 step)
  if s.flag ledgerBase LEDGER_CTRL_EN then (s.ownMarker 0x80 d).streamMarker (fun _ => true) 0x80 d else s

/-- The sources a fence unit stamps (Table 9.1). -/
def fenceSources (u : FenceUnit) (c : Nat) : Bool :=
  match u with
  | .dioBank b => c == b
  | .canIsl i => 0x10 ≤ c && c < 0x50 && (c - 0x10) / 16 == i
  | .flask f => c == 0x50 + f
  | .pedie d => c == 0x60 + d
  | .lane _ => false
  | .ringPort _ => false

/-- Unit selector kind and index of a fence unit (Table 4.4). -/
def fenceSelector : FenceUnit → Nat × Nat
  | .canIsl i => (0x02, i)
  | .flask f => (0x03, f)
  | .dioBank b => (0x05, b)
  | .lane l => (0x0E, l)
  | .ringPort p => (0x09, p)
  | .pedie d => (0x08, d)

/-- A FENCE marker (Table 9.6): `ended` when the fence ends. -/
def State.fenceMarker (s : State) (u : FenceUnit) (ended : Bool) : State :=
  let sel := fenceSelector u
  let d := leBytes 1 sel.1 ++ leBytes 1 0 ++ leBytes 2 sel.2 ++ leBytes 1 (b2n ended)
  if s.flag ledgerBase LEDGER_CTRL_EN then (s.ownMarker 0x82 d).streamMarker (fenceSources u) 0x82 d else s

/-- A QUEUE_OVF marker of cause 1 about a unit queue of this hub (Table 9.6). -/
def State.ovfMarker (s : State) (lost : Nat) : State :=
  s.ownMarker 0x81 (leBytes 1 1 ++ leBytes 3 0 ++ leBytes 4 lost ++ leBytes 4 0)

/-- Whether a held record may leave (R251): every subscription that holds back has passed its stamp, or the horizon has
expired. -/
def State.mayRelease (s : State) (r : LRec) : Bool × Bool :=
  let ok := s.subsInUse.all fun i => s.lagging i || !s.subHolds i r.stamp || decide (r.stamp ≤ s.subWm i)
  (ok, decide (r.stamp + s.horizon ≤ s.storeNow))

/-- The merge releases its first record if it may leave (R251, R252). -/
def State.releaseNext (s : State) : State :=
  match firstHeld s.ledger.hold with
  | none => s
  | some h =>
    let (byWm, byTime) := s.mayRelease h.1
    if byWm then s.releaseRec h
    else if byTime then (s.releaseRec h).bump ledgerBase LEDGER_FORCED
    else s

/-- A subscription whose range has ended and whose records have all left is freed (R248). -/
def State.freeSubs (s : State) : State :=
  s.each s.subsInUse fun s i =>
    if s.subEnd i ≠ 0 ∧ s.subEnd i ≤ s.storeNow ∧ (s.ledger.hold.all fun h => h.2.1 != i) then
      (((s.setSubStart i 0).setSubEnd i 0).wr (subBase i) 0).setSub i {}
    else s

/-- A LAGGING local subscription returns to normal when its watermark has reached F (R252). -/
def State.localReturn (s : State) (i : Nat) : State :=
  if s.lagging i ∧ s.subLocal i ∧ s.frontier ≤ s.subWm i then s.set (subBase i) SUB_CFG_LAGGING 0 else s

/-- What a release evaluation leaves of the subscriptions: local ones return to normal, ended ones are freed (R248, R252). -/
def State.subsSettle (s : State) : State := (s.each s.subsInUse fun s i => s.localReturn i).freeSubs

/-- A watermark taken for a remote subscription (R250, R252): a LAGGING one returns when it reaches F. -/
def State.takeWm (s : State) (i w : Nat) : State :=
  let x := s.sub i
  let f := s.frontier
  let s := s.setSub i { x with wm := if x.wmTaken then max x.wm w else w, wmTaken := true, waitWm := none }
  if s.lagging i ∧ f ≤ w then s.set (subBase i) SUB_CFG_LAGGING 0 else s

/-- Whether SSEQ `a` is ahead of `b` in serial arithmetic on 32 bits. -/
def sseqAhead (a b : Nat) : Bool :=
  let d := (a + 2 ^ 32 - b % 2 ^ 32) % 2 ^ 32
  d != 0 && decide (d < 2 ^ 31)

/-- The expected SSEQ moved past the records already held in order. -/
def advance : Nat → Nat → List (Nat × Nat × Nat) → Nat × List (Nat × Nat × Nat)
  | 0, e, l => (e, l)
  | n + 1, e, l =>
    match l.find? fun a => a.1 == e with
    | some a => advance n (nextSseq e) (l.erase a)
    | none => (e, l)

/-- A record of a remote source (R250, R253, R255): a Fast record takes no part in SSEQ checks; one behind the expected
value is a duplicate unless its SSEQ was declared lost; one ahead is held and opens a gap. -/
def State.remoteRec (s : State) (i : Nat) (r : LRec) : State :=
  let r := { r with flags := setBit r.flags 2 true }
  let x := s.sub i
  if bitAt r.flags 4 then s.takeRec i r false
  else if x.lost.contains r.sseq then
    (s.setSub i { x with lost := x.lost.erase r.sseq }).takeRec i r true
  else if x.next = 0 ∨ r.sseq = x.next then
    let (e, l) := advance x.ahead.length (nextSseq r.sseq) x.ahead
    (s.setSub i { x with next := e, ahead := l }).takeRec i r false
  else if sseqAhead r.sseq x.next then
    if x.ahead.any fun a => a.1 == r.sseq then s.bump ledgerBase LEDGER_DUP
    else (s.setSub i { x with ahead := x.ahead ++ [(r.sseq, s.uptime, r.stamp)] }).takeRec i r false
  else s.bump ledgerBase LEDGER_DUP

/-- A watermark entry of a remote source (R250): taken once every record up to LAST_SSEQ is held, else it waits. -/
def State.remoteWm (s : State) (i w lastSseq : Nat) : State :=
  let x := s.sub i
  let x := if x.next = 0 then { x with next := nextSseq lastSseq } else x
  if lastSseq = 0 ∨ !(sseqAhead (nextSseq lastSseq) x.next) then (s.setSub i x).takeWm i w
  else s.setSub i { x with waitWm := some (w, lastSseq) }

/-- A watermark that waited is taken once its records are there. -/
def State.settleWm (s : State) (i : Nat) : State :=
  let x := s.sub i
  match x.waitWm with
  | some (w, l) => if sseqAhead (nextSseq l) x.next then s else s.takeWm i w
  | none => s

/-- A QUEUE_OVF marker about a remote source (R257). -/
def State.remoteMarker (s : State) (i cause stamp lost first : Nat) : State :=
  s.marker (s.get (subBase i) SUB_CFG_NODE) 0x81 (s.get (subBase i) SUB_CFG_SOURCE) 4 stamp
    (leBytes 1 cause ++ leBytes 3 0 ++ leBytes 4 lost ++ leBytes 4 first)

/-- The SSEQ values from `a` on, `n` of them. -/
def sseqRun : Nat → Nat → List Nat
  | _, 0 => []
  | a, n + 1 => a :: sseqRun (nextSseq a) n

/-- A gap held for H is declared lost (R255). -/
def State.gapExpire (s : State) (i : Nat) : State :=
  let x := s.sub i
  match x.ahead.find? fun a => decide (a.2.1 + s.horizon ≤ s.uptime) with
  | none => s
  | some a =>
    -- the first record behind the gap, in SSEQ order
    let first := x.ahead.foldl (fun m b => if sseqAhead m.1 b.1 then b else m) a
    let n := (first.1 + 2 ^ 32 - x.next) % 2 ^ 32
    let missing := sseqRun x.next n
    let (e, l) := advance x.ahead.length first.1 x.ahead
    let s := s.bumpBy ledgerBase LEDGER_GAP n
    let s := s.remoteMarker i 2 first.2.2 n x.next
    (s.setSub i { x with next := e, ahead := l, lost := x.lost ++ missing }).settleWm i

/-- A publisher's EPOCH changed (R255): the expected SSEQ restarts at the frame's first and a marker is released. -/
def State.epochRestart (s : State) (i epoch firstSseq stamp : Nat) : State :=
  let x := s.sub i
  let known := x.epoch != 256
  let s := s.setSub i { x with epoch := epoch, next := if known then firstSseq else x.next
                               ahead := if known then [] else x.ahead, lost := if known then [] else x.lost }
  if known then s.remoteMarker i 3 stamp 0 0 else s

end Sys2Proof.Machine
end

