-- ==== Sys2Proof/Machine/TimeOps.lean ====
section
/-! DEFINITION. The time island (R213 to R234): the counter, steps and slews, the time states, following a master,
transmit timestamps. -/

namespace Sys2Proof.Machine

/-- TIME_INC, an unsigned 8.32 number of nanoseconds (R213). -/
def State.timeInc (s : State) : Nat := s.get timeBase TIME_INC_FRAC_FRAC + 2 ^ 32 * s.get timeBase TIME_INC_INT_INT

/-- The limits of TIME_INC (R214). -/
def incMin : Nat := 0x1FFBE76C9
/-- The upper limit of TIME_INC (R214). -/
def incMax : Nat := 0x200418937

/-- The state with TIME_INC loaded. -/
def State.setInc (s : State) (v : Nat) : State :=
  (s.set timeBase TIME_INC_FRAC_FRAC (v % 2 ^ 32)).set timeBase TIME_INC_INT_INT (v / 2 ^ 32)

/-- The counter in 2^-32 ns. -/
def State.fine (s : State) : Nat := s.ring * 2 ^ 32 + s.ringFrac

/-- The state with the counter loaded, in 2^-32 ns. SEC is 48 bits wide (R213). -/
def State.setFine (s : State) (v : Nat) : State :=
  { s with ring := v / 2 ^ 32 % (2 ^ 48 * nsPerSec), ringFrac := v % 2 ^ 32 }

/-- The part of a slew consumed in one tick (R215): TIME_INC × PPM × 10^-6, or what is left of the offset. -/
def slewStep (inc ppm : Nat) (left : Int) : Int :=
  let d : Int := ((inc * ppm / 1000000 : Nat) : Int)
  if left < 0 then max (-d) left else min d left

/-- One tick of the 500 MHz counter (R213, R215). -/
def State.tick (s : State) : State :=
  let d := if s.time.slewing then slewStep s.timeInc (s.get timeBase TIME_SLEW_PPM) s.time.slew else 0
  let t := s.setFine ((s.fine + s.timeInc : Nat) + d).toNat
  { t with uptime := s.uptime + 2, time := { s.time with slew := s.time.slew - d } }

/-- The offset of a slew is consumed, and its term stops (R215). -/
def State.slewDone (s : State) : State :=
  if s.time.slew = 0 then { s with time := { s.time with slewing := false } } else s

/-- A slew by an offset starts (R215); an offset that arrives while one runs is slewed in its place. -/
def State.slewBy (s : State) (ns : Int) : State :=
  { s with time := { s.time with slew := ns * 2 ^ 32, slewing := true } }

/-- A firing of an action is due at `at + fired × period`. -/
def Action.due (a : Action) : Nat := a.at_ + a.fired * a.period

/-- The scheduled actions pending, with their slots. -/
def State.actionList (s : State) : List (Nat × Action) :=
  (List.range 64).filterMap fun i =>
    (Tbl.get (fun _ => (none : Option Action)) s.time.actions i).map fun a => (i, a)

/-- The state with action slot `i` holding `a`. -/
def State.setAction (s : State) (i : Nat) (a : Option Action) : State :=
  { s with time := { s.time with actions := Tbl.put (fun _ => none) s.time.actions i a } }

/-- Firings whose time a forward step passes over become due late (R236). -/
def State.markStepped (s : State) (before : Nat) : State :=
  s.actionList.foldl (fun s p =>
    if before < p.2.due ∧ p.2.due < s.ring then s.setAction p.1 (some { p.2 with late := true }) else s) s

/-- The first `base` + n × `cycle` at or after `now`. -/
def nextStart (now base cycle : Nat) : Nat :=
  if now ≤ base then base else base + ((now - base + cycle - 1) / cycle) * cycle

/-- Gate lists at a step of ring time: the cycle in progress ends, and the last entry's gates hold until the next base +
n × cycle on the new time (R209). -/
def State.gatesStill (s : State) : State :=
  let f (m : Tbl EgressPort) (p : Nat) : Tbl EgressPort :=
    let x := Tbl.get (fun _ => {}) m p
    let b := 0x80100 + 0x80 * p
    Tbl.put (fun _ => {}) m p { x with still := some (nextStart s.ring x.base (s.get b SCHED_OPER_CYCLE_NS))
                                       entry := s.get b SCHED_OPER_LEN - 1 }
  { s with sched := { s.sched with ports := (List.range 6).foldl f s.sched.ports } }

/-- A step of the counter (R215): counted, reported with the signed step, marked in the ledger. -/
def State.stepBy (s : State) (ns : Int) : State :=
  let before := s.ring
  let t := { s with ring := (((s.ring : Int) + ns).toNat) % (2 ^ 48 * nsPerSec)
                    time := { s.time with stepFrom := some before } }
  let t := ((t.gatesStill.markStepped before).evt timeBase TIME_EVT 2).bump timeBase TIME_STEPS
  (t.raise .timeStep (srcIsland 2) 0 (leBytes 8 (ofSigned 64 ns))).timeMarker 2 ns

/-- The time state (Table 8.3). -/
def State.timeState (s : State) : Nat := s.get timeBase TIME_STAT_STATE

/-- Entry to a time state (R227): VALID follows Table 8.3, the ledger is marked when validity changes (R31). -/
def State.setTimeState (s : State) (st : Nat) : State :=
  if s.timeState = st then s
  else
    let was := s.timeValid
    let now := decide (2 ≤ st)
    let t := ((s.set timeBase TIME_STAT_STATE st).set timeBase TIME_STAT_VALID (b2n now)).evt timeBase TIME_EVT 0
    let t := { t with time := { t.time with
                everLocked := t.time.everLocked || st == 2
                holdAt := if st = 3 then t.uptime else t.time.holdAt
                badRun := 0 } }
    if was && !now then t.timeMarker 0 0 else if !was && now then t.timeMarker 1 0 else t

/-- The 16 bytes of the die serial. -/
def dieSerial : List Byte := leBytes 8 Config.serialLo.toNat ++ leBytes 8 Config.serialHi.toNat

/-- The hub's own clockIdentity: SERIAL_LO of the die serial (Table 8.1), its bytes read as a big-endian number. -/
def State.clockId (_ : State) : Nat := leNat (leBytes 8 Config.serialLo.toNat).reverse

/-- Domain, priority1, clockClass and priority2 in force: those a TIME_ROLE replaced until the next Announce is sent (R238),
else those of the registers. -/
def State.roleNow (s : State) : Nat × Nat × Nat × Nat :=
  s.time.roleHeld.getD (s.get timeBase TIME_CTRL_DOMAIN, s.get timeBase TIME_CTRL_PRIORITY1,
    s.get timeBase TIME_CLOCKQ_CLOCK_CLASS, s.get timeBase TIME_CTRL_PRIORITY2)

/-- The PTP domain in force. -/
def State.domain (s : State) : Nat := s.roleNow.1

/-- The hub's own dataset (R223), or the external grandmaster's when it follows one (R224). -/
def State.ownData (s : State) : PtpData :=
  match s.time.ext with
  | some e => { e with steps := e.steps + 1, src := s.clockId }
  | none =>
    { prio1 := s.roleNow.2.1, cls := s.roleNow.2.2.1, acc := s.get timeBase TIME_CLOCKQ_ACCURACY
      var := s.get timeBase TIME_CLOCKQ_VARIANCE, prio2 := s.roleNow.2.2.2, id := s.clockId, steps := 0
      src := s.clockId, ptp := s.time.everSet }

/-- The comparison of R223, field by field: `a` is better than `b`. -/
def PtpData.better (a b : PtpData) : Bool :=
  let ka := [a.prio1, a.cls, a.acc, a.var, a.prio2, a.id, a.steps]
  let kb := [b.prio1, b.cls, b.acc, b.var, b.prio2, b.id, b.steps]
  decide (ka < kb)

/-- A change of grandmaster (R223). -/
def State.gmChange (s : State) (id : Nat) : State :=
  let t := (s.evt timeBase TIME_EVT 1).bump timeBase TIME_GM_CHANGES
  (t.set timeBase TIME_GM_ID_LO_ID (id % 2 ^ 32)).set timeBase TIME_GM_ID_HI_ID (id / 2 ^ 32)

/-- clockIdentity of the grandmaster in use (TIME_GM_ID). -/
def State.gmId (s : State) : Nat := s.get timeBase TIME_GM_ID_LO_ID + 2 ^ 32 * s.get timeBase TIME_GM_ID_HI_ID

/-- The signed log2 interval of a message in nanoseconds (Table 8.2). -/
def logNs (l : Int) : Nat := if l < 0 then nsPerSec / 2 ^ l.natAbs else nsPerSec * 2 ^ l.toNat

/-- An Announce from a master (R223): the best master selection. `onLmac` when it arrived on the LMAC slave port, whose
grandmaster the hub announces as its own quality (R224). -/
def State.announce (s : State) (port : Nat) (d : PtpData) (log : Int) (onLmac : Bool) : State :=
  if d.id = s.clockId then s
  else if onLmac then
    { s with time := { s.time with ext := some d, extAt := s.uptime, extLog := some log
                                   steps := Tbl.put (fun _ => 255) s.time.steps port d.steps } }
  else
    let rivals := if s.flag timeBase TIME_CTRL_ROLE then [s.ownData] else []
    let beats := rivals.all fun r => d.better r
    let t := { s with time := { s.time with steps := Tbl.put (fun _ => 255) s.time.steps port d.steps } }
    match s.time.master with
    | some m =>
      if m.id = d.id then
        let t := { t with time := { t.time with master := some d } }
        if beats then { t with time := { t.time with annAt := t.uptime, annLog := some log } } else t
      else if beats && d.better m then
        let t := { t with time := { t.time with master := some d, annAt := t.uptime, annLog := some log, lockRun := 0, confirm := [] } }
        let t := t.gmChange d.id
        if t.timeState = 4 then t.setTimeState 3 else t
      else s
    | none =>
      if beats then
        let t := { t with time := { t.time with master := some d, annAt := t.uptime, annLog := some log, lockRun := 0, confirm := [] } }
        let t := if t.gmId = d.id then t else t.gmChange d.id
        if t.timeState = 4 then t.setTimeState 3 else t
      else s

/-- Whether ANN_TMO announce intervals have passed since uptime `t`: intervals of the last Announce taken, or the hub's own
when it has taken none (R223). -/
def State.annSilent (s : State) (t : Nat) (log : Option Int) : Bool :=
  decide (t + s.get timeBase TIME_MSG_INT_ANN_TMO * logNs (log.getD (toSigned 8 (s.get timeBase TIME_MSG_INT_LOG_ANNOUNCE)))
    ≤ s.uptime)

/-- An external grandmaster silent for ANN_TMO intervals is announced no more (R224). -/
def State.extSilent (s : State) : State :=
  if s.annSilent s.time.extAt s.time.extLog then { s with time := { s.time with ext := none } } else s

/-- No better Announce for ANN_TMO intervals (R223, R224): a grandmaster-capable hub becomes GRANDMASTER; another has no master
until it hears one. -/
def State.announceTimeout (s : State) : State :=
  let t := s.extSilent
  if !s.annSilent s.time.annAt s.time.annLog ∨ s.timeState = 4 then t
  else
    let u := { t with time := { t.time with master := none } }
    if s.flag timeBase TIME_CTRL_ROLE then ((u.gmChange u.clockId).set timeBase TIME_STAT_SYNC_PORT 3).setTimeState 4 else u

/-- A grandmaster whose ROLE is set to 0 enters HOLDOVER (R223). -/
def State.roleChanged (s : State) : State :=
  if s.timeState = 4 ∧ s.get timeBase TIME_CTRL_ROLE = 0 then s.setTimeState 3 else s

/-- The servo's correction of TIME_INC (R214, R226): a free value within the limits. -/
def State.servo (s : State) : State :=
  let (n, t) := s.takeFree
  t.setInc (clampNat incMin incMax (Config.servoInc n))

/-- An offset at or below STEP_THR is slewed, and the servo corrects the rate. -/
def State.correctBy (s : State) (off : Int) : State := (s.slewBy (-off)).servo

/-- The counts towards LOCKED restart. -/
def State.restartLock (s : State) : State :=
  { s with time := { s.time with lockRun := 0, confirm := [], badRun := 0 } }

/-- A refused jump (R230). -/
def State.refuseJump (s : State) (off : Int) : State :=
  let t := ((s.restartLock.set timeBase TIME_STAT_JUMP_REFUSED 1).evt timeBase TIME_EVT 3).bump timeBase TIME_JUMPS_REFUSED
  let t := t.raise .timeJumpRefused (srcIsland 2) 0 (leBytes 8 (ofSigned 64 off))
  if s.timeState = 2 then t.setTimeState 3 else t

/-- The largest and the least difference among offsets: whether they agree within 1 µs (R229). -/
def agree (l : List Int) : Bool := l.all fun a => l.all fun b => decide ((a - b).natAbs ≤ 1000)

/-- A Sync in ACQUIRING (R227): an offset above STEP_THR is stepped out, another slewed; LOCK_COUNT in a row within the
lock band lock. -/
def State.acquire (s : State) (off : Int) : State :=
  if off.natAbs > s.get timeBase TIME_STEP_THR_NS then (s.stepBy (-off)).restartLock
  else
    let n := if off.natAbs ≤ s.get timeBase TIME_LOCK_LOCK_NS then s.time.lockRun + 1 else 0
    let t := ({ s with time := { s.time with lockRun := n } }).correctBy off
    if s.get timeBase TIME_LOCK_LOCK_COUNT ≤ n then t.setTimeState 2 else t

/-- A Sync beyond STEP_THR in LOCKED or HOLDOVER in Native mode (R229). -/
def State.nativeBeyond (s : State) (off : Int) : State :=
  let n := s.get timeBase TIME_LOCK_CONFIRM
  let row := (off :: s.time.confirm).take n
  let t := s.setTimeState 3
  if row.length = n ∧ agree row then ((t.stepBy (-off)).restartLock).setTimeState 1
  else { t with time := { t.time with confirm := (off :: s.time.confirm).take 15 } }

/-- A Sync within STEP_THR in LOCKED (R227). -/
def State.lockedWithin (s : State) (off : Int) : State :=
  let n := if off.natAbs > 4 * s.get timeBase TIME_LOCK_LOCK_NS then s.time.badRun + 1 else 0
  let t := ({ s with time := { s.time with badRun := n } }).correctBy off
  if s.get timeBase TIME_LOCK_LOCK_COUNT ≤ n then t.restartLock.setTimeState 1 else t

/-- The mode in force follows TIME_CTRL.MODE at the next Sync; Native clears JUMP_REFUSED (R230, Table 1.4). -/
def State.takeMode (s : State) : State :=
  let m := s.get timeBase TIME_CTRL_MODE
  let t := { s with time := { s.time with mode := m } }
  if m = 0 ∧ s.time.mode ≠ 0 then t.set timeBase TIME_STAT_JUMP_REFUSED 0 else t

/-- TIME_OFFSET shows an offset, saturating (R226). -/
def State.showOffset (s : State) (off : Int) : State := s.set timeBase TIME_OFFSET_NS (ofSigned 32 (satSigned 32 off))

/-- What a Sync's offset does in each time state (R226 to R230). A grandmaster that follows an external one keeps its
state (R224). -/
def State.judgeSync (s : State) (off : Int) : State :=
  let s := s.takeMode.showOffset off
  let big := decide (off.natAbs > s.get timeBase TIME_STEP_THR_NS)
  if s.time.accept && big then
    let t := ((({ s with time := { s.time with accept := false } }).set timeBase TIME_STAT_JUMP_REFUSED 0).stepBy (-off)).restartLock
    if t.timeState = 4 then t else t.setTimeState 1
  else if big && s.time.mode == 1 && s.time.everLocked then s.refuseJump off
  else
    let s := if big then s
      else ({ s with time := { s.time with accept := false, confirm := [] } }).set timeBase TIME_STAT_JUMP_REFUSED 0
    match s.timeState with
    | 0 => (s.restartLock.setTimeState 1).acquire off
    | 1 => s.acquire off
    | 2 => if big then s.nativeBeyond off else s.lockedWithin off
    | 3 => if big then s.nativeBeyond off else (s.correctBy off).setTimeState 2
    | _ => if big then s.stepBy (-off) else s.slewBy (-off)

/-- ACCEPT_JUMP (R230): a refused jump is accepted: JUMP_REFUSED clears, and the next Sync is stepped; it has no effect while
no jump was refused. -/
def State.acceptJump (s : State) : State :=
  if s.flag timeBase TIME_STAT_JUMP_REFUSED then
    { s with time := { s.time with accept := true } }.set timeBase TIME_STAT_JUMP_REFUSED 0
  else s

/-- The end of the holdover bound (R228). -/
def State.holdoverEnd (s : State) : State :=
  let ms := (s.uptime - s.time.holdAt) / 1000000
  if s.timeState = 3 ∧ s.time.holdAt + s.get timeBase TIME_HOLD_MS * 1000000 ≤ s.uptime then
    ((s.setTimeState 0).evt timeBase TIME_EVT 4).raise .timeHoldoverEnd (srcIsland 2) 0 (leBytes 4 ms)
  else s

/-- Base of the TIME registers of port `p` (R240). -/
def timePort (p : Nat) : Nat := 0x10400 + 0x40 * p

/-- The transmit-timestamp queue of port `p`. -/
def State.tsq (s : State) (p : Nat) : List (List Byte) := Tbl.get (fun _ => []) s.time.tsq p

/-- The state with the transmit-timestamp queue of port `p` replaced. -/
def State.setTsq (s : State) (p : Nat) (q : List (List Byte)) : State :=
  { s with time := { s.time with tsq := Tbl.put (fun _ => []) s.time.tsq p q } }

/-- A transmit timestamp (Table 8.6) enters its port's queue of 16 entries; one that finds it full is discarded
(R232, R233). -/
def State.pushTs (s : State) (p enqSeq ctx stamp : Nat) (suspect early preempted : Bool) : State :=
  let e := leBytes 4 (enqSeq % 65536 + 65536 * ctx) ++ stampBytes stamp
    ++ leBytes 1 (b2n suspect + 2 * b2n early + 4 * b2n preempted) ++ [0#8]
  let q := s.tsq p
  if q.length < 16 then (s.setTsq p (q ++ [e])).evt timeBase TIME_EVT 5
  else (s.bump (timePort p) TIME_PORT_TS_OVF).evt timeBase TIME_EVT 6

/-- TSQ_NONEMPTY is set while a queue holds an entry, a clearing write not lasting (R233). -/
def State.tsqShow (s : State) : State :=
  if (List.range 6).any fun p => !(s.tsq p).isEmpty then s.evt timeBase TIME_EVT 5 else s

/-- Whether frames of a context are stamped (R232). -/
def State.txStamped (s : State) (c : Nat) : Bool := (s.rd (0x10800 + 4 * (c / 32))).getLsbD (c % 32)

end Sys2Proof.Machine
end

