-- ==== Sys2Proof/Machine/PtpMsg.lean ====
section
/-! DEFINITION. Network-time messages: layout, header, peer-delay state (R218 to R221). Message layouts are those of IEEE
1588-2019 and IEEE 802.1AS, which the spec names (R218). -/

namespace Sys2Proof.Machine

/-- The big-endian number spelled by `n` bytes at offset `k` (network byte order, R5). -/
def beAt (bs : List Byte) (k n : Nat) : Nat := leNat ((bs.drop k).take n).reverse

/-- `n` bytes of `v`, most significant first. -/
def beBytes (n v : Nat) : List Byte := (leBytes n v).reverse

/-- Bytes `k` to `k + n - 1` of a message replaced by the big-endian bytes of `v`. -/
def putBe (bs : List Byte) (k n v : Nat) : List Byte := bs.take k ++ beBytes n v ++ bs.drop (k + n)

/-- messageType of a PTP message: 0 Sync, 2 Pdelay_Req, 3 Pdelay_Resp, 8 Follow_Up, 0xA Pdelay_Resp_Follow_Up,
0xB Announce. -/
def ptpType (bs : List Byte) : Nat := leAt bs 0 1 % 16
/-- sequenceId of a PTP message. -/
def ptpSeq (bs : List Byte) : Nat := beAt bs 30 2
/-- clockIdentity of the sender. -/
def ptpClock (bs : List Byte) : Nat := beAt bs 20 8
/-- correctionField in 2^-16 ns. -/
def ptpCorr (bs : List Byte) : Int := toSigned 64 (beAt bs 8 8)
/-- logMessageInterval. -/
def ptpLog (bs : List Byte) : Int := toSigned 8 (leAt bs 33 1)
/-- A PTP timestamp (48-bit seconds, 32-bit nanoseconds) as nanoseconds. -/
def ptpStamp (bs : List Byte) (k : Nat) : Nat := beAt bs k 6 * nsPerSec + beAt bs (k + 6) 4
/-- The 10 bytes of a PTP timestamp. -/
def stampBe (t : Nat) : List Byte := beBytes 6 (t / nsPerSec) ++ beBytes 4 (t % nsPerSec)

/-- Whether port `p` takes part in PTP. -/
def State.ptpOn (s : State) (p : Nat) : Bool := s.flag (timePort p) TIME_PORT_CFG_PTP_EN
/-- Whether port `p` is AS_CAPABLE (R220). -/
def State.asCapable (s : State) (p : Nat) : Bool := s.flag (timePort p) TIME_PORT_CFG_AS_CAPABLE

/-- Whether a received message is of this domain, version 2 and a supported type (R218). -/
def State.ptpGood (s : State) (bs : List Byte) : Bool :=
  leAt bs 1 1 % 16 == 2 && leAt bs 1 1 / 16 < 2 && leAt bs 4 1 == s.domain
    && [0, 2, 3, 8, 0xA, 0xB].contains (ptpType bs)

/-- The Ethernet part of a time message (Table 8.1); Sync, Follow_Up and Announce carry the HSR tag on ring ports, with
PATH 0 on Cope and 1 on Drag and SEQ from one counter of the time engine (R131, R221). -/
def ptpFrame (port node seq : Nat) (bs : List Byte) : List Byte :=
  let tag := if port < 2 ∧ ¬ [2, 3, 0xA].contains (ptpType bs) then
      beBytes 2 0x892F ++ beBytes 2 (port * 4096 + (bs.length + 6) % 4096) ++ beBytes 2 seq
    else []
  [0x01#8, 0x80#8, 0xC2#8, 0x00#8, 0x00#8, 0x0E#8, 0x02#8, 0xA5#8, 0xC0#8, 0x00#8, 0x00#8, BitVec.ofNat 8 node]
    ++ tag ++ beBytes 2 0x88F7 ++ bs

/-- The 34-byte header of an own message (versionPTP 2, minorVersionPTP 1). -/
def State.ptpHead (s : State) (type len flags : Nat) (corr : Nat) (port seq : Nat) (log : Nat) : List Byte :=
  leBytes 1 (0x10 + type) ++ leBytes 1 0x12 ++ beBytes 2 len ++ leBytes 1 s.domain
    ++ leBytes 1 0 ++ beBytes 2 flags ++ beBytes 8 corr ++ beBytes 4 0 ++ beBytes 8 s.clockId ++ beBytes 2 (port + 1)
    ++ beBytes 2 seq ++ leBytes 1 0 ++ leBytes 1 log

/-- Peer delay of port `p`. -/
def State.peer (s : State) (p : Nat) : PeerDelay := Tbl.get (fun _ => {}) s.time.pd p
/-- The state with peer delay of port `p` replaced. -/
def State.setPeer (s : State) (p : Nat) (x : PeerDelay) : State :=
  { s with time := { s.time with pd := Tbl.put (fun _ => {}) s.time.pd p x } }

/-- The state with the waiting Sync of port `p` replaced. -/
def State.setSyncWait (s : State) (p : Nat) (w : Option SyncWait) : State :=
  { s with time := { s.time with syncWait := Tbl.put (fun _ => none) s.time.syncWait p w } }

/-- The waiting Sync of port `p`. -/
def State.syncWaitAt (s : State) (p : Nat) : Option SyncWait := Tbl.get (fun _ => none) s.time.syncWait p

/-- The next value of the counter of time messages is used up (R221). -/
def State.nextPtpSeq (s : State) : State := { s with time := { s.time with seq := (s.time.seq + 1) % 65536 } }

/-- The hub's rate ratio to the grandmaster, (ratio − 1) × 2^41, from the upstream Follow_Up and the neighbour's rate. -/
def State.gmRate (s : State) (p : Nat) (m : List Byte) : Int :=
  toSigned 32 (beAt m 54 4) + toSigned 32 (s.get (timePort p) TIME_PORT_NBR_RATE_RATE) * 512

/-- The Follow_Up relayed for a Sync received on port `p` (R221): correctionField increased by the upstream link delay and
the residence time, both scaled by the rate ratio, and the hub's own rate in the 802.1AS TLV; the sender's identity stays
(R222). -/
def State.followOut (s : State) (p ingress egress : Nat) (m : List Byte) : List Byte :=
  let rate := s.gmRate p m
  let hop : Int := ((s.get (timePort p) TIME_PORT_PDELAY_DELAY : Nat) : Int) * 256 + ((egress : Int) - ingress) * 65536
  putBe (putBe m 8 8 (ofSigned 64 (ptpCorr m + hop + hop * rate / 2 ^ 41))) 54 4 (ofSigned 32 rate)

end Sys2Proof.Machine
end

