-- ==== Sys2Proof/Machine/EgressOps.lean ====
section
/-! DEFINITION. The egress side of the six Ethernet ports: gates, fair arbitration, the frame on the line, preemption
(R167 to R181, R188 to R206). -/

namespace Sys2Proof.Machine

/-! ### Bases and plain reads -/

/-- Base of the MAC register set of port `p` (Table 6.1). -/
def macBase (p : Nat) : Nat := if p = 0 then 0x21000 else if p = 1 then 0x31000 else 0x40000 + 0x4000 * (p - 2)
/-- Base of the ring port registers (R158). -/
def ringBase (p : Nat) : Nat := 0x20000 + 0x10000 * p
/-- Base of the ring-wide registers (R158). -/
def ringWide : Nat := 0x2F000
/-- Base of the per-port scheduler registers (Table 7.8). -/
def schedBase (p : Nat) : Nat := 0x80100 + 0x80 * p
/-- Base of the SCHED block. -/
def schedAll : Nat := 0x80000
/-- Admin entry `e` of port `p` (Table 7.8). -/
def adminEntry (p e : Nat) : Nat := 0x81000 + 0x1000 * p + 8 * e
/-- Oper entry `e` of port `p`. -/
def operEntry (p e : Nat) : Nat := adminEntry p e + 0x800
/-- Base of context record `c` (Table 7.9). -/
def ctxBase (c : Nat) : Nat := 0x90000 + 0x40 * c

/-- The numbers of the ports. -/
def allPorts : List Nat := [0, 1, 2, 3, 4, 5]

/-- Ring port `p`. -/
def State.rport (s : State) (p : Nat) : RingPort := Tbl.get (fun _ => {}) s.ringNet.ports p
/-- The state with ring port `p` replaced. -/
def State.setRport (s : State) (p : Nat) (x : RingPort) : State :=
  { s with ringNet := { s.ringNet with ports := Tbl.put (fun _ => {}) s.ringNet.ports p x } }
/-- Egress port `p`. -/
def State.eport (s : State) (p : Nat) : EgressPort := Tbl.get (fun _ => {}) s.sched.ports p
/-- The state with egress port `p` replaced. -/
def State.setEport (s : State) (p : Nat) (x : EgressPort) : State :=
  { s with sched := { s.sched with ports := Tbl.put (fun _ => {}) s.sched.ports p x } }
/-- MAC `p`. -/
def State.mac (s : State) (p : Nat) : MacBlock := Tbl.get (fun _ => {}) s.sched.macs p
/-- The state with MAC `p` replaced. -/
def State.setMac (s : State) (p : Nat) (x : MacBlock) : State :=
  { s with sched := { s.sched with macs := Tbl.put (fun _ => {}) s.sched.macs p x } }
/-- The frames queued in context `c`. -/
def State.cq (s : State) (c : Nat) : List QFrame := Tbl.get (fun _ => []) s.sched.queues c
/-- The state with the queue of context `c` replaced. -/
def State.setCq (s : State) (c : Nat) (q : List QFrame) : State :=
  { s with sched := { s.sched with queues := Tbl.put (fun _ => []) s.sched.queues c q } }

/-- State of a ring port (Table 5.2). -/
def State.pstate (s : State) (p : Nat) : Nat := s.get (ringBase p) RING_PSTAT_STATE
/-- Whether a ring port is UP. -/
def State.ringUp (s : State) (p : Nat) : Bool := s.pstate p == 3

/-- Whether port `p` can send: a ring port UP, a local port with link, and TX_EN (R134, R180). -/
def State.canSend (s : State) (p : Nat) : Bool :=
  s.flag (macBase p) MAC_MCTRL_TX_EN && (if p < 2 then s.ringUp p else s.flag (macBase p) MAC_MSTAT_LINK)

/-- Whether a port receives: its link is there and RX_EN is 1 (R180, Table 6.7). -/
def State.receives (s : State) (p : Nat) : Bool :=
  s.flag (macBase p) MAC_MCTRL_RX_EN &&
    (if p < 2 then s.pstate p == 2 || s.pstate p == 3 else s.flag (macBase p) MAC_MSTAT_LINK)

/-- Whether own control frames and mPackets can leave port `p`: TX_EN, and link on a local port, or on a ring port one of the
states in which it is locked (Table 5.2, R180). -/
def State.lineUp (s : State) (p : Nat) : Bool :=
  s.flag (macBase p) MAC_MCTRL_TX_EN &&
    (if p < 2 then s.pstate p == 2 || s.pstate p == 3 || s.pstate p == 4
        || (s.pstate p == 1 && s.flag (ringBase p) RING_PSTAT_BLOCK_LOCK)
     else s.flag (macBase p) MAC_MSTAT_LINK)

/-- A frame taken at a port that cannot send is discarded (R134, R180, Table 6.7). -/
def State.noLink (s : State) (p : Nat) : State :=
  if p < 2 ∧ !s.ringUp p then s.bump (ringBase p) RING_BREAK_DROP else s.bump (macBase p) MAC_TX_LINKDOWN

/-- Transaction slot `i` (R58). -/
def State.slot (s : State) (i : Nat) : FabSlot := Tbl.get (fun _ => {}) s.fab.slots i
/-- Transaction slot `i` replaced. -/
def State.setSlot (s : State) (i : Nat) (x : FabSlot) : State :=
  { s with fab := { s.fab with slots := Tbl.put (fun _ => {}) s.fab.slots i x } }

/-- A MAC address, 6 bytes in network order. -/
def macBytes (a : Nat) : List Byte := (leBytes 6 a).reverse

/-- The fabric address of node `n` (Table 2.4): 02-A5-C0-00-00-nn. -/
def nodeMac (n : Nat) : Nat := 0x02A5C0000000 + n

/-- This hub's own address on the ring and at its local ports: node byte 0 while it has no node ID (R139). -/
def State.ownMac (s : State) : Nat := nodeMac (if s.hasNode then s.nodeId else 0)

/-- The node a fabric address of the form 02-A5-C0-00-00-nn names. -/
def nodeOfMac (a : Nat) : Option Nat := if a / 256 = 0x02A5C00000 then some (a % 256) else none

/-- Hundredths of a nanosecond per byte at a speed code of MSTAT (Table 6.7). -/
def byteCost (code : Nat) : Nat :=
  if code = 0 then 80000 else if code = 1 then 8000 else if code = 2 then 800 else if code = 3 then 320
  else if code = 4 then 160 else if code = 5 then 80 else 32

/-- Hundredths of a nanosecond per byte of port `p`. -/
def State.byteTime (s : State) (p : Nat) : Nat := byteCost (s.get (macBase p) MAC_MSTAT_SPEED)

/-- Whether preemption is in use at port `p` (R172). -/
def State.preemptActive (s : State) (p : Nat) : Bool := s.flag (macBase p) MAC_PSTAT_ACTIVE

/-- Whether class `c` is express at port `p` (R167). -/
def State.isExpress (s : State) (p c : Nat) : Bool := bitAt (s.get (macBase p) MAC_PREEMPT_EXPRESS_TC) c

/-- Whether a PAUSE is in force at port `p` (R176). -/
def State.paused (s : State) (p : Nat) : Bool := decide (s.uptime < (s.mac p).pauseEnd)

/-! ### Gates -/

/-- The list in force at port `p` as (gates, interval). -/
def State.operList (s : State) (p : Nat) : List (Nat × Nat) :=
  (List.range (s.get (schedBase p) SCHED_OPER_LEN)).map fun e =>
    (s.get (operEntry p e) GCL_GATES_GATES, s.get (operEntry p e) GCL_INTERVAL_INTERVAL)

/-- The admin list of port `p`. -/
def State.adminList (s : State) (p : Nat) : List (Nat × Nat) :=
  (List.range (s.get (schedBase p) SCHED_ADMIN_LEN)).map fun e =>
    (s.get (adminEntry p e) GCL_GATES_GATES, s.get (adminEntry p e) GCL_INTERVAL_INTERVAL)

/-- A list over `left` ns of a cycle: cut off at its end, the last entry stretched to it (R203). -/
def cycleSegs : Nat → List (Nat × Nat) → List (Nat × Nat)
  | _, [] => []
  | left, [(g, _)] => [(g, left)]
  | left, (g, i) :: rest => if left ≤ i then [(g, left)] else (g, i) :: cycleSegs (left - i) rest

/-- How long class `c` stays open from the start of the segments, and whether all of them leave it open. -/
def openSpan (c : Nat) : List (Nat × Nat) → Nat × Bool
  | [] => (0, true)
  | (g, d) :: rest =>
    if bitAt g c then ((openSpan c rest).1 + d, (openSpan c rest).2) else (0, false)

/-- A list run from its start for ever: how long class `c` stays open; 2^62 when it never closes. -/
def openCycle (c cycle : Nat) (l : List (Nat × Nat)) : Nat :=
  let a := openSpan c (cycleSegs cycle l)
  if a.2 then 2 ^ 62 else a.1

/-- The list with its last segment `n` ns longer. -/
def stretchLast (n : Nat) : List (Nat × Nat) → List (Nat × Nat)
  | [] => []
  | [(g, d)] => [(g, d + n)]
  | x :: y :: rest => x :: stretchLast n (y :: rest)

/-- The end of the cycle in progress at port `p` as the list itself gives it. -/
def State.cycleEnd (s : State) (p : Nat) : Nat :=
  match (s.eport p).still with
  | some r => r
  | none => (s.eport p).cycleAt + s.get (schedBase p) SCHED_OPER_CYCLE_NS

/-- The end of the cycle in progress, extended to a pending swap that falls less than the oper extension after it (R207). -/
def State.cycleStop (s : State) (p : Nat) : Nat :=
  let e := s.cycleEnd p
  let w := (s.eport p).swapAt
  if s.flag (schedBase p) SCHED_PCTRL_CONFIG_PENDING ∧ e ≤ w ∧ w < e + s.get (schedBase p) SCHED_OPER_EXT_NS then w else e

/-- The ring time of the edge that ends the present gate entry (R203, R207, R209): the end of its interval, of the
cycle, of the cycle extended to a pending swap, or the restart after a time step. -/
def State.edgeAt (s : State) (p : Nat) : Nat :=
  let x := s.eport p
  let e := s.cycleEnd p
  if x.still.isSome then e
  else if x.entry + 1 = s.get (schedBase p) SCHED_OPER_LEN then s.cycleStop p
  else
    let n := x.entryAt + s.get (operEntry p x.entry) GCL_INTERVAL_INTERVAL
    if n < e then n else s.cycleStop p

/-- The gates of port `p` now (R203). -/
def State.gates (s : State) (p : Nat) : Nat :=
  if s.flag (schedBase p) SCHED_PCTRL_GATE_EN then s.get (operEntry p (s.eport p).entry) GCL_GATES_GATES else 255

/-- The list that is pending at port `p`, as latched or as it stands, and its cycle (R207, R208). -/
def State.pendingList (s : State) (p : Nat) : List (Nat × Nat) × Nat :=
  match (s.eport p).latched with
  | some (al, ac, _, _) => (al, ac)
  | none => (s.adminList p, s.get (schedBase p) SCHED_ADMIN_CYCLE_NS)

/-- The present gates and those up to the end of the cycle in progress, as (gates, ns) from now on. -/
def State.restSegs (s : State) (p : Nat) : List (Nat × Nat) :=
  let x := s.eport p
  let e := s.edgeAt p
  let first := (s.get (operEntry p x.entry) GCL_GATES_GATES, e - s.ring)
  if e < s.cycleEnd p then
    first :: stretchLast (s.cycleStop p - s.cycleEnd p) (cycleSegs (s.cycleEnd p - e) ((s.operList p).drop (x.entry + 1)))
  else [first]

/-- How long class `c` stays open at port `p` from now, in ns, looking ahead across the list and a pending swap (R204). -/
def State.openTime (s : State) (p c : Nat) : Nat :=
  if !s.flag (schedBase p) SCHED_PCTRL_GATE_EN then 2 ^ 62
  else
    let a := openSpan c (s.restSegs p)
    let oper := if a.2 then a.1 + openCycle c (s.get (schedBase p) SCHED_OPER_CYCLE_NS) (s.operList p) else a.1
    let w := (s.eport p).swapAt
    if s.flag (schedBase p) SCHED_PCTRL_CONFIG_PENDING ∧ w ≤ s.ring + oper then
      (w - s.ring) + openCycle c (s.pendingList p).2 (s.pendingList p).1
    else oper

/-- Whether class `c` is open at port `p` and stays open for a whole transmission of `len` bytes (R204). -/
def State.fitsGate (s : State) (p c len : Nat) : Bool :=
  bitAt (s.gates p) c && decide (((8 + len + 12) * s.byteTime p + 99) / 100 ≤ s.openTime p c)

/-- Whether a frame of class `c` whose length on the wire is `len`, express or not, may start at port `p` (R176, R204,
R205). -/
def State.eligible (s : State) (p c len : Nat) (express : Bool) : Bool :=
  !s.paused p &&
  (if express || !s.preemptActive p then s.fitsGate p c len else bitAt (s.gates p) c && !(s.eport p).hold)

/-! ### HSR tag and SEQ -/

/-- The VLAN ID of an untagged-by-HSR frame: 0 when it has no VLAN tag. -/
def vlanOf (bs : List Byte) : Nat :=
  if beNat (bs.drop 12) 2 = 0x8100 ∨ beNat (bs.drop 12) 2 = 0x88A8 then beNat (bs.drop 14) 2 % 4096 else 0
where
  /-- `n` bytes in network order. -/
  beNat (l : List Byte) (n : Nat) : Nat := leNat (l.take n).reverse

/-- Whether a frame carries a VLAN tag after its addresses. -/
def hasVlan (bs : List Byte) : Bool :=
  let e := leNat ((bs.drop 12).take 2).reverse
  e == 0x8100 || e == 0x88A8

/-- Destination address of a frame, as a number in network order. -/
def dstOf (bs : List Byte) : Nat := leNat (bs.take 6).reverse
/-- Source address of a frame. -/
def srcMacOf (bs : List Byte) : Nat := leNat ((bs.drop 6).take 6).reverse

/-- EtherType of a frame without HSR tag, after its addresses and a VLAN tag. -/
def etherOf (bs : List Byte) : Nat := if hasVlan bs then beAt bs 16 2 else beAt bs 12 2

/-- A frame without the HSR tag. -/
def unTag (f : List Byte) : List Byte := f.take 12 ++ f.drop 18

/-- Whether a frame (without HSR tag) is one of the first row of Table 7.1: a PTP, supervision or PAUSE frame is of class 7 and
always express (R167, R188). -/
def rowOne (g : List Byte) : Bool :=
  etherOf g == 0x88F7 || etherOf g == 0x88FB || (etherOf g == 0x8808 && beAt g 14 2 == 1)

/-- Zero bytes appended to make `n`. -/
def padTo (n : Nat) (bs : List Byte) : List Byte := bs ++ List.replicate (n - bs.length) 0#8

/-- Zero bytes appended to make 60 (R164). -/
def padFrame (bs : List Byte) : List Byte := padTo 60 bs

/-- The key of a transmit sequence counter (R132). -/
def seqKey (bs : List Byte) : Nat := dstOf bs * 4096 + vlanOf bs

/-- The counter used longest ago among those listed. -/
def oldestSeq (m : Tbl (Option (Nat × Nat))) : Option Nat :=
  (m.foldl (fun (acc : Option (Nat × Nat)) p =>
    match p.2, acc with
    | some (_, at_), none => some (p.1, at_)
    | some (_, at_), some (k, b) => if at_ < b then some (p.1, at_) else some (k, b)
    | none, acc => acc) none).map (·.1)

/-- The next SEQ of a key (R132): a key without a counter starts at 0, evicting the counter used longest ago when all
8,192 are in use. -/
def State.hsrSeq (s : State) (k : Nat) : Nat × State :=
  match Tbl.get (fun _ => none) s.ringNet.txSeq k with
  | some (n, _) =>
    (n, { s with ringNet := { s.ringNet with
      txSeq := Tbl.put (fun _ => none) s.ringNet.txSeq k (some ((n + 1) % 65536, s.uptime)) } })
  | none =>
    let full := decide (8192 ≤ s.ringNet.txSeq.length)
    let m := if full then
        match oldestSeq s.ringNet.txSeq with
        | some o => s.ringNet.txSeq.erase o
        | none => s.ringNet.txSeq
      else s.ringNet.txSeq
    let t := { s with ringNet := { s.ringNet with txSeq := Tbl.put (fun _ => none) m k (some (1, s.uptime)) } }
    (0, if full then t.bump ringWide RING_SEQ_EVICT else t)

/-- The HSR tag (Table 5.3) put after the source address: EtherType, path and LSDU size, SEQ. -/
def hsrTag (bs : List Byte) (path seq : Nat) : List Byte :=
  let be (n v : Nat) := (leBytes n v).reverse
  bs.take 12 ++ be 2 0x892F ++ be 2 (path * 4096 + (bs.length - 8) % 4096) ++ be 2 seq ++ bs.drop 12

/-! ### Fair arbitration -/

/-- Start tag of a leaf of a class: none while it has no backlog. -/
def EgressPort.tag (x : EgressPort) (tc leaf : Nat) : Option Nat :=
  match Tbl.get (fun _ => 0) x.tags (2048 * tc + leaf) with | 0 => none | n + 1 => some n

/-- The port with a leaf's tag made `t`. -/
def EgressPort.setTag (x : EgressPort) (tc leaf : Nat) (t : Option Nat) : EgressPort :=
  { x with tags := Tbl.put (fun _ => 0) x.tags (2048 * tc + leaf) (match t with | none => 0 | some n => n % 2 ^ 48 + 1) }

/-- The virtual time of a key. -/
def EgressPort.v (x : EgressPort) (k : Nat) : Nat := Tbl.get (fun _ => 0) x.vtime k

/-- The port with the virtual time of a key replaced. -/
def EgressPort.setV (x : EgressPort) (k n : Nat) : EgressPort :=
  { x with vtime := Tbl.put (fun _ => 0) x.vtime k (n % 2 ^ 48) }

/-- A leaf becomes backlogged: it starts at S = V (R201). A leaf already backlogged keeps its tag. -/
def EgressPort.wake (x : EgressPort) (tc leaf k : Nat) : EgressPort :=
  match x.tag tc leaf with | some _ => x | none => x.setTag tc leaf (some (x.v k))

/-- A frame that could start at a port. -/
inductive Cand where
  | transit (f : TFrame)
  | ctx (c : Nat) (f : QFrame)
  deriving DecidableEq, Repr

/-- The leaf a candidate belongs to. -/
def Cand.leaf : Cand → Nat
  | .transit f => 1024 + f.leaf
  | .ctx c _ => c

/-- Whether a candidate is a transit frame. -/
def Cand.isTransit : Cand → Bool
  | .transit _ => true
  | .ctx .. => false

/-- The number that names a candidate. -/
def Cand.uid : Cand → Nat
  | .transit f => f.uid
  | .ctx _ f => f.uid

/-- The bytes of a candidate without HSR tag. -/
def Cand.plain : Cand → List Byte
  | .transit f => unTag f.bytes
  | .ctx _ f => f.bytes

/-- Length on the wire of a candidate at port `p` (R160): a context's frame is padded so that it has 64 bytes, the HSR tag
counted on a ring port (R49, R165). -/
def Cand.len (p : Nat) : Cand → Nat
  | .transit f => f.bytes.length + 4
  | .ctx _ f => if p < 2 then max 54 f.bytes.length + 10 else max 60 f.bytes.length + 4

/-- The class of a context's frame (Table 7.1). -/
def State.classOf (s : State) (c : Nat) (f : QFrame) : Nat :=
  if rowOne f.bytes then 7 else s.get (ctxBase c) CTX_CTRL_TC

/-- Whether a frame of class `tc` is express at port `p` (R167). -/
def State.goesExpress (s : State) (p tc : Nat) (g : List Byte) : Bool := rowOne g || s.isExpress p tc

/-- Weight of a candidate's leaf (R200). -/
def Cand.weight (s : State) : Cand → Nat
  | .transit _ => 1
  | .ctx c _ => max 1 (s.get (ctxBase c) CTX_CTRL_WEIGHT)

/-- The first frame of each transit leaf of a class. -/
def transitHeads (l : List TFrame) (tc : Nat) : List TFrame :=
  (l.foldl (fun (acc : List TFrame) f =>
    if f.tc == tc && !(acc.any fun g => g.leaf == f.leaf) then f :: acc else acc) []).reverse

/-- The Split path of context `c` to node `n`. -/
def State.path (s : State) (c n : Nat) : SplitPath := Tbl.get (fun _ => {}) s.ringNet.paths (256 * c + n)
/-- The Split path of context `c` to node `n` replaced. -/
def State.setPath (s : State) (c n : Nat) (x : SplitPath) : State :=
  { s with ringNet := { s.ringNet with paths := Tbl.put (fun _ => {}) s.ringNet.paths (256 * c + n) x } }

/-- Whether a context's frame may start at port `p` as far as its Split path goes (R155): the wait after the last frame on the
old path is over, and none of its frames to that node still stands on the old path. -/
def State.pathFree (s : State) (c p : Nat) (f : QFrame) : Bool :=
  if f.node = 256 then true
  else
    match (s.path c f.node).hold with
    | none => true
    | some t =>
      (s.path c f.node).port != some p ||
        (decide (t ≤ s.uptime) && !((s.cq c).any fun g => g.node == f.node && bitAt g.todo (1 - p) && decide (g.uid < f.uid)))

/-- The first frame of context `c` that has still to start at port `p` (R192). -/
def State.ctxHead (s : State) (p c : Nat) : Option QFrame := (s.cq c).find? fun f => bitAt f.todo p

/-- The head frames of the contexts of a class at port `p` (R192). -/
def State.ctxHeads (s : State) (p tc : Nat) : List Cand :=
  s.sched.queues.filterMap fun q =>
    match s.ctxHead p q.1 with
    | some f => if s.classOf q.1 f = tc then some (.ctx q.1 f) else none
    | none => none

/-- The heads of every backlogged leaf of a class at port `p`: transit before contexts, each in rising order. -/
def State.heads (s : State) (p tc : Nat) : List Cand :=
  ((transitHeads (s.eport p).transit tc).map Cand.transit) ++ s.ctxHeads p tc

/-- The finish tag of a candidate: F = S + L / w (R200). -/
def State.finish (s : State) (p tc : Nat) (c : Cand) : Nat :=
  ((((s.eport p).tag tc c.leaf).getD 0) + c.len p / c.weight s) % 2 ^ 48

/-- A tag as compared modulo 2^48 with the virtual time `v` (R200): tags up to 2^47 behind `v` come first. -/
def tagRank (f v : Nat) : Nat := (f + 2 ^ 48 + 2 ^ 47 - v % 2 ^ 48) % 2 ^ 48

/-- Of candidates, the one with the smallest finish tag compared modulo 2^48; the earlier wins a tie, a transit leaf of a
smaller node before one of a larger. -/
def State.bestOf (s : State) (p tc k : Nat) (l : List Cand) : Option Cand :=
  l.foldl (fun (acc : Option Cand) c =>
    match acc with
    | none => some c
    | some b =>
      let dc := tagRank (s.finish p tc c) ((s.eport p).v k)
      let db := tagRank (s.finish p tc b) ((s.eport p).v k)
      if dc < db ∨ (dc = db ∧ c.isTransit = b.isTransit ∧ c.leaf < b.leaf) then some c else some b) none

/-- Whether the fair arbiter of port `p` splits transit and local first (R202). -/
def State.perLevel (s : State) (p : Nat) : Bool := decide (p < 2) && s.flag (schedBase p) SCHED_PCTRL_PER_LEVEL

/-- The key of the input of PER_LEVEL a candidate belongs to. -/
def Cand.input (c : Cand) : Nat := if c.isTransit then 1281 else 1282

/-- The finish tag of a candidate's input under PER_LEVEL (R202). -/
def State.inputFinish (s : State) (p tc : Nat) (c : Cand) : Nat :=
  ((((s.eport p).tag tc c.input).getD 0) + c.len p) % 2 ^ 48

/-- The arbiter's choice in a class among candidates (R200, R202). -/
def State.arbitrate (s : State) (p tc : Nat) (l : List Cand) : Option Cand :=
  if !s.perLevel p then s.bestOf p tc tc l
  else
    match s.bestOf p tc tc (l.filter Cand.isTransit), s.bestOf p tc (16 + tc) (l.filter fun c => !c.isTransit) with
    | some x, some y =>
      let v := (s.eport p).v (8 + tc)
      if tagRank (s.inputFinish p tc x) v ≤ tagRank (s.inputFinish p tc y) v then some x else some y
    | some x, none => some x
    | none, b => b

/-- The frame at the head of a class's queues at port `p`: the arbiter's choice among its backlogged leaves (R200), those that
wait for a Split path left out (R155). DEDUCED (log entry 137): a head that does not fit its window waits, and no other frame
of its class passes it (R204). -/
def State.headOf (s : State) (p tc : Nat) : Option Cand :=
  s.arbitrate p tc ((s.heads p tc).filter fun c => match c with | .ctx n f => s.pathFree n p f | _ => true)

/-- Whether a frame waits for port `p` in a leaf of a class. -/
def State.leafBusy (s : State) (p tc leaf : Nat) : Bool := (s.heads p tc).any fun c => c.leaf == leaf

/-- The port with a leaf's tag moved past a chosen frame: V = F, and S = F while the leaf stays backlogged (R200). -/
def EgressPort.pass (x : EgressPort) (tc leaf k f : Nat) (still : Bool) : EgressPort :=
  (x.setV k f).setTag tc leaf (if still then some f else none)

/-- The tags after candidate `c`, already taken out of its queue, was chosen with finish tag `f` and, under PER_LEVEL,
input finish tag `g`. -/
def State.chosen (s : State) (p tc : Nat) (c : Cand) (f g : Nat) : State :=
  let x := s.eport p
  if !s.perLevel p then s.setEport p (x.pass tc c.leaf tc f (s.leafBusy p tc c.leaf))
  else
    let k := if c.isTransit then tc else 16 + tc
    let busy := (s.heads p tc).any fun d => d.isTransit == c.isTransit
    let y := x.pass tc c.leaf k f (s.leafBusy p tc c.leaf)
    s.setEport p (y.pass tc c.input (8 + tc) g busy)

/-- The number of the frame at the head of class `tc` at port `p`, plus 1, 0 for none: own control frames stand before the
others of class 7. -/
def State.headId (s : State) (p tc : Nat) : Nat :=
  match (if tc = 7 then (s.eport p).ctl.head? else none) with
  | some f => f.uid + 1
  | none => match s.headOf p tc with | some c => c.uid + 1 | none => 0

/-- The head of class `tc` at port `p` is noted, with the moment it became the head (R206). -/
def State.headMark (s : State) (p tc : Nat) : State :=
  let x := s.eport p
  let id := s.headId p tc
  if (Tbl.get (fun _ => (0, 0)) x.head tc).1 = id then s
  else s.setEport p { x with head := Tbl.put (fun _ => (0, 0)) x.head tc (if id = 0 then (0, 0) else (id, s.uptime)) }

/-- The heads of all classes at port `p` are noted. -/
def State.headMarks (s : State) (p : Nat) : State := s.each (List.range 8) fun s tc => s.headMark p tc

/-- A leaf of class `tc` at port `p` has a frame: its tag and the inputs' tags of PER_LEVEL, a leaf already backlogged keeping
its own (R201), and the class's head. -/
def State.backlog (s : State) (p tc leaf : Nat) : State :=
  let x := s.eport p
  let x := if s.perLevel p then
      (x.wake tc leaf (if leaf < 1024 then 16 + tc else tc)).wake tc (if leaf < 1024 then 1282 else 1281) (8 + tc)
    else x.wake tc leaf tc
  (s.setEport p x).headMark p tc

/-- The leaf of context `c` at port `p` is backlogged in the class of its head frame there, if it has one. -/
def State.wakeCtx (s : State) (p c : Nat) : State :=
  match s.ctxHead p c with
  | some f => s.backlog p (s.classOf c f) c
  | none => s

/-- A context's leaf at port `p` lost frames other than by being served: in each class in which it has no head any more it
loses its tag, and the local input of PER_LEVEL with it when no context of the class has one (R201, R202). -/
def State.leafDrop (s : State) (p c : Nat) : State :=
  (s.each (List.range 8) fun s tc =>
    if s.leafBusy p tc c then s
    else
      let x := (s.eport p).setTag tc c none
      s.setEport p (if (s.heads p tc).any fun d => !d.isTransit then x else x.setTag tc 1282 none)).headMarks p

/-! ### The line -/

/-- SMD-S0 to S3, and the fragment counts (Table 6.3). -/
def smdStarts : List Nat := [0xE6, 0x4C, 0x7F, 0xB3]
/-- SMD-C0 to C3 (Table 6.3). -/
def smdConts : List Nat := [0x61, 0x52, 0x9E, 0x2A]

/-- The start delimiter of what is on the line (R168, R173). -/
def Line.smd (l : Line) : Nat :=
  match l.src with
  | .ctl d => d
  | _ => if l.express then 0xD5 else ((if l.frags = 0 then smdStarts else smdConts)[l.num]?).getD 0

/-- The fragment count of a continuation: it begins at frag0 and steps modulo 4 (R168). -/
def Line.frag (l : Line) : Option Nat :=
  if l.express ∨ l.frags = 0 then none else some ((smdStarts[(l.frags - 1) % 4]?).getD 0)

/-- What the check value at the end of a line is XORed with: a stomped FCS, the mCRC of verify and respond, an FCS (R136, R168,
R172). -/
def Line.check (l : Line) : Nat :=
  if l.bad then 0xFFFFFFFF else match l.src with | .ctl d => if d = 0xD5 then 0 else 0xFFFF | _ => 0

/-- A frame of `len` bytes sent whole at port `p` (Table 6.7, Table 5.12). -/
def State.countSent (s : State) (p len : Nat) : State :=
  let t := (s.bump (macBase p) MAC_TX_GOOD).bumpBy (macBase p) MAC_TX_OCTETS len
  if p < 2 then t.bump (ringBase p) RING_TX_FRAMES else t

/-- The counters of a line that ended whole: a stomped copy, a verify or respond mPacket, a PAUSE, any other frame (R136, R172,
R178, Table 6.7). -/
def State.countLine (s : State) (p : Nat) (l : Line) : State :=
  if l.bad then s.bump (ringBase p) RING_STOMP_TX
  else
    match l.src with
    | .ctl d =>
      if d = 0x07 then s.bump (macBase p) MAC_VERIFY_TX
      else if d = 0x19 then s.bump (macBase p) MAC_RESPOND_TX
      else
        (if beAt l.bytes 12 2 = 0x8808 then s.bump (macBase p) MAC_PAUSE_TX else s).countSent p (l.bytes.length + 4)
    | _ => s.countSent p (l.bytes.length + 4)

/-- A frame goes on the line of port `p`; a preemptable one takes the next SMD-S number (R168). -/
def State.putLine (s : State) (p tc : Nat) (bs : List Byte) (src : LineSrc) (express bad : Bool) : State :=
  let x := s.eport p
  let whole := express || !s.preemptActive p
  let l : Line := { bytes := bs, tc := tc, src := src, express := whole, sent := 0, frags := 0, since := s.uptime
                    stamp := s.nowAt 0, num := if whole then 0 else x.nextNum, bad := bad }
  s.setEport p { x with line := some l, nextNum := if whole then x.nextNum else (x.nextNum + 1) % 4 }

/-! ### Own control frames -/

/-- An own control frame waits at port `p`. -/
def State.queueCtl (s : State) (p smd : Nat) (note : TxNote) (bs : List Byte) : State :=
  let x := s.eport p
  let f : CtlFrame := { smd := smd, bytes := bs, note := note, uid := s.sched.uid }
  let t := s.setEport p { x with ctl := x.ctl ++ [f] }
  { t with sched := { t.sched with uid := t.sched.uid + 1 } }.headMark p 7

/-- A time message waits at port `p`, numbered as R221 says; the frame is padded to 64 bytes with its FCS. -/
def State.queuePtp (s : State) (p : Nat) (note : TxNote) (bs : List Byte) : State :=
  (s.queueCtl p 0xD5 note (padFrame (ptpFrame p s.nodeId s.time.seq bs))).nextPtpSeq

/-- The Follow_Up of a relayed Sync is sent once both the upstream Follow_Up and the send stamp are known (R221). -/
def State.relayFollow (s : State) (p : Nat) : State :=
  match s.syncWaitAt p with
  | some w =>
    match w.egress, w.follow with
    | some e, some m => (s.setSyncWait p none).queuePtp (1 - p) .none (s.followOut p w.ingress e m)
    | _, _ => s
  | none => s

/-- What the start of an own frame at port `p` gives, now that its stamp is known (R172, R219, R221, R231). -/
def State.lineStarted (s : State) (p : Nat) (note : TxNote) : State :=
  let at_ := s.nowAt 0 + s.get (timePort p) TIME_PORT_TX_LAT_NS
  match note with
  | .none => s
  | .verify => s.setMac p { s.mac p with verifyAt := s.uptime }
  | .pdelayReq n =>
    let x := s.peer p
    match x.waiting with
    | some (seq, _, since) => if seq = n then s.setPeer p { x with waiting := some (seq, at_, since) } else s
    | none => s
  | .before m => s.queuePtp p .none (m.take 34 ++ stampBe at_ ++ m.drop 44)
  | .relay q n =>
    match s.syncWaitAt q with
    | some w => if w.seq = n then (s.setSyncWait q (some { w with egress := some (s.nowAt 0) })).relayFollow q else s
    | none => s

/-- Whether a waiting own frame is a PAUSE, which leaves even while the port is paused (R178). -/
def CtlFrame.isPause (f : CtlFrame) : Bool := beAt f.bytes 12 2 == 0x8808

/-- Whether an own control frame may start at port `p`: it is express and of class 7 (R167, R188). -/
def State.ctlMay (s : State) (p : Nat) (f : CtlFrame) : Bool :=
  s.fitsGate p 7 (f.bytes.length + 4) && (!s.paused p || f.isPause)

/-- The own control frame that may start next at port `p`. -/
def State.ctlNext (s : State) (p : Nat) : Option CtlFrame :=
  if s.paused p then (s.eport p).ctl.find? fun f => s.ctlMay p f else (s.eport p).ctl.head?.filter fun f => s.ctlMay p f

/-- An own control frame starts at port `p`, or is discarded where the port cannot send it (R180). -/
def State.startCtl (s : State) (p : Nat) (f : CtlFrame) : State :=
  let x := s.eport p
  let t := (s.setEport p { x with ctl := x.ctl.erase f }).headMark p 7
  if t.lineUp p then (t.putLine p 7 f.bytes (.ctl f.smd) true false).lineStarted p f.note else t.noLink p

/-- An own control frame or mPacket is to be sent at port `p` (R167): discarded where the port cannot send (R180); on an idle
line that nothing else waits for it starts at once. -/
def State.sendOwn (s : State) (p smd : Nat) (note : TxNote) (bs : List Byte) : State :=
  if !s.lineUp p then s.noLink p
  else
    let t := s.queueCtl p smd note bs
    if (s.eport p).line.isSome ∨ (s.eport p).ctl ≠ [] then t
    else match t.ctlNext p with | some f => t.startCtl p f | none => t

/-- Send an own control frame, padded to 64 bytes with its FCS. -/
def State.sendCtl (s : State) (p : Nat) (bs : List Byte) : State := s.sendOwn p 0xD5 .none (padFrame bs)

/-! ### Frames of contexts -/

/-- A READ or CAS of this hub has left it, or will not leave it any more: the timeout of its slot starts (R59). DESIGN CHOICE
(log entry 138): that of a request discarded before it could start begins when it is discarded. -/
def State.reqLeaves (s : State) (bs : List Byte) : State :=
  let h := bs.drop (if hasVlan bs then 18 else 14)
  let i := leAt h 4 1
  let x := s.slot i
  if etherOf bs = s.get 0x600000 FAB_ETYPE_ETYPE ∧ (leAt h 0 1 = 0x12 ∨ leAt h 0 1 = 0x15) ∧ x.inUse ∧ x.sentAt.isNone
      ∧ leAt h 4 2 / 256 = x.gen then s.setSlot i { x with sentAt := some s.uptime }
  else s

/-- A frame of a context ends at port `p`: whole or not (R180, R192). -/
def State.ctxEnd (s : State) (p c uid : Nat) (whole : Bool) : State :=
  let q := s.cq c
  match q.find? (·.uid == uid) with
  | none => s
  | some f =>
    let g := { f with left := setBit f.left p false, sent := f.sent || whole }
    let q' := if g.left = 0 then q.filter (fun h => h.uid != uid) else q.map fun h => if h.uid == uid then g else h
    let t := s.setCq c q'
    let t := t.set (ctxBase c) CTX_STAT_QLEVEL q'.length
    if g.left = 0 ∧ g.sent then
      (t.bump (ctxBase c) CTX_TX_FRAMES).bumpBy (ctxBase c) CTX_TX_OCTETS ((Cand.ctx c f).len p)
    else t

/-- The transmit timestamp of a frame of a context (R232), taken from the replica of the ring island (R14). -/
def State.stampLine (s : State) (p : Nat) (l : Line) (early : Bool) : State :=
  match l.src with
  | .ctx c uid =>
    if s.txStamped c then
      match (s.cq c).find? (·.uid == uid) with
      | some f => s.pushTs p f.enqSeq c l.stamp (s.suspectAt 0) early (0 < l.frags)
      | none => s
    else s
  | _ => s

/-- The frame on the line of port `p` ends whole (R192). -/
def State.lineEnd (s : State) (p : Nat) : State :=
  match (s.eport p).line with
  | none => s
  | some l =>
    let t := (s.setEport p { s.eport p with line := none }).emit
      (.frame p l.smd l.frag (l.bytes.drop l.sent ++ checkBytes l.check l.bytes))
    let t := (t.countLine p l).stampLine p l false
    match l.src with
    | .ctx c uid => t.ctxEnd p c uid true
    | _ => t

/-- One line of a port is lost with the link: the frame is not resent (R180). -/
def State.dropLine (s : State) (p : Nat) (l : Line) : State :=
  let t := s.stampLine p l true
  match l.src with
  | .ctx c uid => t.ctxEnd p c uid false
  | _ => t

/-- Link loss at port `p`: the frame on the line and a preempted one end, and own control frames that wait are discarded
(R180). -/
def State.linesLost (s : State) (p : Nat) : State :=
  let x := s.eport p
  let t := (s.setEport p { x with line := none, held := none, ctl := [] }).headMarks p
  let t := t.each (x.ctl.map fun _ => p) fun t p => t.noLink p
  let t := match x.line with | some l => t.dropLine p l | none => t
  match x.held with | some l => t.dropLine p l | none => t

/-- The HSR SEQ of a context's frame: given at its first start on the ring, the same for both copies (R132). -/
def State.ctxSeq (s : State) (c : Nat) (f : QFrame) : Nat × State :=
  match f.seq with
  | some n => (n, s)
  | none =>
    let r := s.hsrSeq (seqKey f.bytes)
    let q := (s.cq c).map fun h => if h.uid == f.uid then { h with seq := some r.1 } else h
    (r.1, (r.2.setCq c q).set (ctxBase c) CTX_SEQ_HSR_SEQ r.1)

/-- The state with the start mark of port `p` taken from a context's frame. -/
def State.ctxStart (s : State) (p c uid : Nat) : State :=
  s.setCq c ((s.cq c).map fun h => if h.uid == uid then { h with todo := setBit h.todo p false } else h)

/-- A Split frame starts at port `p` (R155): the wait for its new path is over once it goes there, and counts from its last
frame on the old one. -/
def State.pathStart (s : State) (c p : Nat) (f : QFrame) : State :=
  if f.node = 256 then s
  else
    let x := s.path c f.node
    s.setPath c f.node (if x.port = some p then { x with last := s.uptime, wait := 0, hold := none }
      else { x with last := s.uptime, hold := x.hold.map fun _ => s.uptime + x.wait })

/-- A context's frame as it goes on the line of port `p`: padded so that it has 64 bytes with its FCS, the HSR tag counted on a
ring port (R49, R164, R165). -/
def QFrame.wire (f : QFrame) (p seq : Nat) : List Byte :=
  if p < 2 then hsrTag (padTo 54 f.bytes) (if f.twin then p else 14 + p) seq else padFrame f.bytes

/-- A frame from the ring loses its HSR tag at local port `p` and is padded there (R165). -/
def State.countPad (s : State) (p : Nat) (f : QFrame) : State :=
  if 2 ≤ p ∧ f.origin < 2 ∧ f.bytes.length < 60 then s.bump (macBase p) MAC_TX_PADDED else s

/-- A fabric request of this hub in frame `f` of context 0 leaves by port `p`, or will not leave by any port any more (R59). -/
def State.leaveMark (s : State) (p c : Nat) (f : QFrame) (out : Bool) : State :=
  if c = 0 ∧ (out ∨ setBit f.todo p false = 0) then s.reqLeaves f.bytes else s

/-- A candidate starts at port `p`: it leaves its queue, the tags move, and the frame goes on the line; at a port that
cannot send it is discarded. -/
def State.startCand (s : State) (p tc : Nat) (c : Cand) : State :=
  let f := s.finish p tc c
  let g := s.inputFinish p tc c
  let ex := s.goesExpress p tc c.plain
  match c with
  | .transit t =>
    let x := s.eport p
    let u := ((s.setEport p { x with transit := x.transit.erase t }).chosen p tc c f g).headMarks p
    if s.canSend p then u.putLine p tc t.bytes .transit ex false else u.noLink p
  | .ctx n q =>
    let r := if p < 2 ∧ s.canSend p then s.ctxSeq n q else (0, s)
    let u := (((r.2.ctxStart p n q.uid).chosen p tc c f g).wakeCtx p n).headMarks p
    let u := u.leaveMark p n q (s.canSend p)
    if s.canSend p then ((u.pathStart n p q).countPad p q).putLine p tc (q.wire p r.1) (.ctx n q.uid) ex false
    else (u.noLink p).ctxEnd p n q.uid false

/-! ### The choice of the next frame -/

/-- What an egress port can start: an own control frame, the continuation of the preempted frame, or a queued frame of the
arbiter's choice (R169, R199). -/
inductive Pick where
  | ctl (f : CtlFrame)
  | cont (l : Line)
  | cand (c : Cand)
  deriving DecidableEq, Repr

/-- The pick of one class among its express or its preemptable frames: its head, when that may start. -/
def State.pickIn (s : State) (p tc : Nat) (express : Bool) : Option Pick :=
  if tc = 7 ∧ (s.eport p).ctl ≠ [] then (if express then (s.ctlNext p).map .ctl else none)
  else
    ((s.headOf p tc).filter fun c =>
      s.goesExpress p tc c.plain == express && s.eligible p tc (c.len p) express).map .cand

/-- The pick of the highest class below `n` that has one (R199). -/
def State.pickClass (s : State) (p : Nat) (express : Bool) : Nat → Option (Nat × Pick)
  | 0 => none
  | n + 1 =>
    match s.pickIn p n express with
    | some k => some (n, k)
    | none => s.pickClass p express n

/-- The next frame of port `p` (R169, R173, R176, R199, R205): express frames first, the highest class before the others; then
the preempted frame goes on; without one, the preemptable frames. -/
def State.pick (s : State) (p : Nat) : Option (Nat × Pick) :=
  let x := s.eport p
  match s.pickClass p true 8 with
  | some k => some k
  | none =>
    match x.held with
    | some l => if !s.paused p && bitAt (s.gates p) l.tc && !x.hold then some (l.tc, .cont l) else none
    | none => s.pickClass p false 8

/-- An idle egress port picks its next frame and starts it (R199). -/
def State.egressStart (s : State) (p : Nat) : State :=
  let x := s.eport p
  if x.line.isSome then s
  else
    match s.pick p with
    | none => s
    | some (_, .ctl f) => s.startCtl p f
    | some (_, .cont l) => s.setEport p { x with line := some { l with since := s.uptime }, held := none }
    | some (tc, .cand c) => s.startCand p tc c

/-- Bytes of the frame on the line sent in its present mPacket (the preamble takes 8 byte times). -/
def State.sentNow (s : State) (p : Nat) (l : Line) : Nat :=
  min ((s.uptime - l.since) * 100 / s.byteTime p - 8) (l.bytes.length - l.sent)

/-- Whether all of the frame on the line is out. -/
def State.lineOut (s : State) (p : Nat) (l : Line) : Bool :=
  decide ((8 + (l.bytes.length - l.sent) + 4) * s.byteTime p ≤ (s.uptime - l.since) * 100)

/-- Whether something needs the line of port `p` before a preemptable frame: an express frame that could start, a hold
or a PAUSE (R169). -/
def State.lineWanted (s : State) (p : Nat) : Bool :=
  (s.eport p).hold || s.paused p || (s.pickClass p true 8).isSome

/-- The preemptable frame on the line is ended with an mCRC at its first permitted point (R168, R169). -/
def State.preemptLine (s : State) (p : Nat) : State :=
  let x := s.eport p
  match x.line with
  | none => s
  | some l =>
    let b := s.sentNow p l
    if l.express ∨ !s.preemptActive p ∨ !s.lineWanted p
        ∨ b < 64 * (1 + s.get (macBase p) MAC_PREEMPT_ADD_FRAG) - 4
        ∨ l.bytes.length + 4 - (l.sent + b) < 64 then s
    else
      let t := s.setEport p { x with line := none, held := some { l with sent := l.sent + b, frags := l.frags + 1 } }
      let t := (t.emit (.frame p l.smd l.frag
        ((l.bytes.drop l.sent).take b ++ checkBytes 0xFFFF (l.bytes.take (l.sent + b))))).bump (macBase p) MAC_FRAG_TX
      if x.hold then t.bump (schedBase p) SCHED_HOLDS else t

/-- The copy of a cut-through frame at port `p`, on the line or preempted, that begins with `bs` is to end with a stomped FCS
(R136, R171). -/
def State.stompCut (s : State) (p : Nat) (bs : List Byte) : State :=
  let x := s.eport p
  let mark (l : Line) : Line := if l.src = .cut ∧ !l.express ∧ bs.isPrefixOf l.bytes then { l with bad := true } else l
  s.setEport p { x with line := x.line.map mark, held := x.held.map mark }

end Sys2Proof.Machine
end

