-- ==== Sys2Proof/Machine/PtpOps.lean ====
section
/-! DEFINITION. Network-time messages received and sent, and the peer delay exchange (R218 to R226). -/

namespace Sys2Proof.Machine

/-- Send a time message on a port; what its start gives is `note`. -/
def State.sendPtp (s : State) (p : Nat) (note : TxNote) (bs : List Byte) : State :=
  (s.sendOwn p 0xD5 note (padFrame (ptpFrame p s.nodeId s.time.seq bs))).nextPtpSeq

/-- AS_CAPABLE clears and the average restarts when the port leaves UP (R220). -/
def State.peerDown (s : State) (p : Nat) : State :=
  ((s.setPeer p {}).set (timePort p) TIME_PORT_CFG_AS_CAPABLE 0).set (timePort p) TIME_PORT_PDELAY_DELAY 0

/-- A Pdelay_Req is answered (R219): a Pdelay_Resp with its receive stamp and, once that has started, a
Pdelay_Resp_Follow_Up with the send stamp of the answer. -/
def State.pdelayReq (s : State) (p : Nat) (m : PtpRx) : State :=
  let req := (m.bytes.drop 20).take 10
  let t2 := m.ingress - s.get (timePort p) TIME_PORT_RX_LAT_NS
  let seq := ptpSeq m.bytes
  s.sendPtp p (.before (s.ptpHead 0xA 54 0 0 p seq 0x7F ++ List.replicate 10 0#8 ++ req))
    (s.ptpHead 3 54 0x0200 0 p seq 0x7F ++ stampBe t2 ++ req)

/-- A port starts an exchange (R219); a previous one unanswered counts as lost. Its t1 is the moment the request starts. -/
def State.pdelaySend (s : State) (p : Nat) : State :=
  let x := s.peer p
  let t := if x.waiting.isSome then (s.bump (timePort p) TIME_PORT_PDELAY_LOST) else s
  let run := if x.waiting.isSome then 0 else x.run
  let seq := t.time.seq
  let t := t.setPeer p { x with waiting := some (seq, t.nowAt 0 + t.get (timePort p) TIME_PORT_TX_LAT_NS, t.uptime), resp := none
                                run := run, sentAt := t.uptime + 1 }
  t.sendPtp p (.pdelayReq seq) (t.ptpHead 2 54 0 0 p seq (t.get timeBase TIME_MSG_INT_LOG_PDELAY) ++ List.replicate 20 0#8)

/-- The neighbour's rate relative to this hub in 2^-32 over two successive exchanges (R219): (t3 - t3') / (t4 - t4') - 1. -/
def nbrRate (last : Option (Nat × Nat)) (t3 t4 : Nat) : Int :=
  match last with
  | some (a, b) => if t4 ≤ b ∨ t3 ≤ a then 0 else (((t3 - a : Nat) : Int) - ((t4 - b : Nat) : Int)) * 2 ^ 32 / ((t4 - b : Nat) : Int)
  | none => 0

/-- The link delay of an exchange in 1/256 ns (R219). -/
def linkDelay (t1 t2 t3 t4 : Nat) (rate : Int) (asym : Int) : Int :=
  let rt : Int := ((t4 : Int) - t1) * 256
  ((rt + rt * rate / 2 ^ 32) - ((t3 : Int) - t2) * 256) / 2 + asym * 256

/-- The mean of the samples. -/
def meanOf (l : List Nat) : Nat := if l.length = 0 then 0 else l.sum / l.length

/-- A completed exchange (R219, R220): the average of the last 8, the neighbour's rate, and AS_CAPABLE on a port that is up on
which two in a row have succeeded since, while the average is within TIME_NBR_THR. -/
def State.pdelayDone (s : State) (p t1 t2 t3 t4 : Nat) (up : Bool) : State :=
  let x := s.peer p
  let rate := nbrRate x.lastRt t3 t4
  let d := (linkDelay t1 t2 t3 t4 rate (toSigned 16 (s.get (timePort p) TIME_PORT_ASYM_NS))).toNat
  let samples := (d :: x.samples).take 8
  let avg := meanOf samples
  let run := if up then x.run + 1 else 0
  let proved := x.proved || decide (2 ≤ run)
  let ok := up && proved && decide (avg ≤ s.get timeBase TIME_NBR_THR_NS * 256)
  let t := s.setPeer p { x with samples := samples, run := run, proved := proved, waiting := none, resp := none
                                lastRt := some (t3, t4) }
  let t := t.set (timePort p) TIME_PORT_PDELAY_DELAY avg
  let t := t.set (timePort p) TIME_PORT_NBR_RATE_RATE (ofSigned 32 rate)
  t.set (timePort p) TIME_PORT_CFG_AS_CAPABLE (b2n ok)

/-- A Pdelay_Resp or its Follow_Up (R219). -/
def State.pdelayResp (s : State) (p : Nat) (m : PtpRx) (up : Bool) : State :=
  let x := s.peer p
  match x.waiting with
  | none => s
  | some (seq, t1, _) =>
    if ptpSeq m.bytes ≠ seq then s
    else if ptpType m.bytes = 3 then
      s.setPeer p { x with resp := some (ptpStamp m.bytes 34, m.ingress - s.get (timePort p) TIME_PORT_RX_LAT_NS) }
    else
      match x.resp with
      | some (t2, t4) => s.pdelayDone p t1 t2 (ptpStamp m.bytes 34) t4 up
      | none => s

/-- The LMAC slave port's number, or 255 (R224). -/
def State.slavePort (s : State) : Nat :=
  let v := s.get timeBase TIME_CTRL_LMAC_SLAVE
  if v = 0 then 255 else 1 + v

/-- Whether the Sync stream of a port has not fallen silent for SYNC_TMO of its intervals (R226). -/
def State.syncFresh (s : State) (p : Nat) : Bool :=
  let at_ := Tbl.get (fun _ => 0) s.time.syncAt p
  decide (0 < at_ ∧ s.uptime + 1 < at_ + s.get timeBase TIME_MSG_INT_SYNC_TMO * logNs (Tbl.get (fun _ => 0) s.time.syncLog p))

/-- Whether the hub follows the Syncs of a port now (R224, R226): the LMAC slave port when one is named, else the ring
port with the smaller stepsRemoved, Cope on a tie, among those that have not fallen silent. -/
def State.followPort (s : State) (p : Nat) : Bool :=
  if s.slavePort ≠ 255 ∧ s.timeState = 4 then p == s.slavePort
  else if 2 ≤ p then p == s.slavePort && s.time.master.isNone
  else
    let st q := Tbl.get (fun _ => 255) s.time.steps q
    let o := 1 - p
    !(s.syncFresh o && (decide (st o < st p) || (decide (st o = st p) && p == 1)))

/-- Note a Sync on a port: its moment and interval. -/
def State.noteSync (s : State) (p : Nat) (log : Int) : State :=
  { s with time := { s.time with syncAt := Tbl.put (fun _ => 0) s.time.syncAt p (s.uptime + 1)
                                 syncLog := Tbl.put (fun _ => 0) s.time.syncLog p log } }

/-- SYNC_PORT and STEPS follow the stream taken (R226): a move away from a ring port that has fallen silent is counted. -/
def State.syncMove (s : State) (p : Nat) : State :=
  let sel := s.get timeBase TIME_STAT_SYNC_PORT
  let t := if sel < 2 ∧ p < 2 ∧ sel ≠ p ∧ !s.syncFresh sel then s.bump timeBase TIME_PATH_SWITCH else s
  (t.set timeBase TIME_STAT_SYNC_PORT (if p < 2 then p else 2)).set timeBase TIME_STAT_STEPS
    (min 255 (Tbl.get (fun _ => 255) s.time.steps p))

/-- The source whose Syncs a port brings: the selected master, or the external grandmaster on the LMAC slave port. -/
def State.syncSource (s : State) (p : Nat) : Option PtpData :=
  if p = s.slavePort ∧ s.time.ext.isSome then s.time.ext else if s.timeState = 4 then none else s.time.master

/-- The time of a hub that follows a source was set, once the source's was (Table 8.1). -/
def State.setBy (s : State) (d : Option PtpData) : State :=
  { s with time := { s.time with everSet := s.time.everSet || (match d with | some x => x.ptp | none => false) } }

/-- The offset from the master (R226), and what it does. -/
def State.takeSync (s : State) (p ingress origin : Nat) (corr : Int) : State :=
  let delay : Int := ((s.get (timePort p) TIME_PORT_PDELAY_DELAY : Nat) : Int) / 256
  let off : Int := ((ingress : Int) - s.get (timePort p) TIME_PORT_RX_LAT_NS) - ((origin : Int) + corr / 65536 + delay)
  ((s.syncMove p).setBy (s.syncSource p)).judgeSync off

/-- Whether a message on port `p` comes from the master whose Syncs may be taken there (R226): relays keep the sender's
clockIdentity (R222). -/
def State.mayFollow (s : State) (p : Nat) (m : List Byte) : Bool :=
  match s.syncSource p with
  | some d => ptpClock m == d.src
  | none => false

/-- Whether a message of port `p` is taken at all: PTP on the port, not sent by this hub itself (R222), its domain, version and
type right, one that is not being counted (R218), and the port AS_CAPABLE (R220). -/
def State.ptpTaken (s : State) (p : Nat) (bs : List Byte) : Bool :=
  s.ptpOn p && s.receives p && ptpClock bs != s.clockId && s.ptpGood bs && s.asCapable p

/-- A message of another domain, version or type received on a PTP port is discarded and counted (R218). -/
def State.ptpDiscard (s : State) (p : Nat) (bs : List Byte) : State :=
  if s.ptpOn p && s.receives p && !s.ptpGood bs then s.bump timeBase TIME_PTP_DISCARD else s

/-- A Sync (R221, R226): its copy goes out on the other ring port as two-step; a one-step Sync on the LMAC slave port is judged
at once, a two-step one when its Follow_Up comes. -/
def State.syncRx (s : State) (p : Nat) (m : PtpRx) : State :=
  if !s.ptpTaken p m.bytes then s.ptpDiscard p m.bytes
  else
    let two := bitAt (leAt m.bytes 6 1) 1
    let s := if s.mayFollow p m.bytes then s.noteSync p (ptpLog m.bytes) else s
    let s := s.setSyncWait p (some { seq := ptpSeq m.bytes, ingress := m.ingress })
    let s := if p < 2 ∧ s.asCapable (1 - p) then
        s.sendPtp (1 - p) (.relay p (ptpSeq m.bytes)) (putBe (putBe m.bytes 6 2 0x0200) 28 2 (2 - p)) else s
    if !two && p == s.slavePort && s.mayFollow p m.bytes && s.followPort p then
      s.takeSync p m.ingress (ptpStamp m.bytes 34) (ptpCorr m.bytes)
    else s

/-- The Follow_Up of a relayed Sync goes out on the other ring port: kept until the send stamp of the Sync is known (R221); where
no copy was sent, the Sync is done with. -/
def State.followRelay (s : State) (p : Nat) (w : SyncWait) (m : List Byte) : State :=
  if p < 2 ∧ s.asCapable (1 - p) then
    (s.setSyncWait p (some { w with follow := some (putBe m 28 2 (2 - p)) })).relayFollow p
  else s.setSyncWait p none

/-- A Follow_Up (R221, R226): relayed, and the Sync it follows is judged. -/
def State.followUpRx (s : State) (p : Nat) (m : PtpRx) : State :=
  if !s.ptpTaken p m.bytes then s.ptpDiscard p m.bytes
  else
    match s.syncWaitAt p with
    | none => s
    | some w =>
      if w.seq ≠ ptpSeq m.bytes ∨ w.follow.isSome then s
      else
        let s := s.followRelay p w m.bytes
        if s.mayFollow p m.bytes && s.followPort p then s.takeSync p w.ingress (ptpStamp m.bytes 34) (ptpCorr m.bytes) else s

/-- The dataset an Announce carries. -/
def announceData (bs : List Byte) : PtpData :=
  { prio1 := leAt bs 47 1, cls := leAt bs 48 1, acc := leAt bs 49 1, var := beAt bs 50 2, prio2 := leAt bs 52 1
    id := beAt bs 53 8, steps := beAt bs 61 2, src := ptpClock bs, ptp := bitAt (leAt bs 7 1) 3 }

/-- An Announce (R221, R223): the best master selection, and the relay with stepsRemoved plus 1. -/
def State.announceRx (s : State) (p : Nat) (m : PtpRx) : State :=
  if !s.ptpTaken p m.bytes then s.ptpDiscard p m.bytes
  else
    let d := announceData m.bytes
    let s := if p < 2 ∧ s.asCapable (1 - p) then
        s.sendPtp (1 - p) .none (putBe (putBe m.bytes 61 2 (d.steps + 1)) 28 2 (2 - p)) else s
    if p < 2 then s.announce p d (ptpLog m.bytes) false
    else if p == s.slavePort then s.announce p d (ptpLog m.bytes) true
    else s

/-- A Sync sent on a port and, once it has started, its Follow_Up with the stamp of that moment (R223, R225); on a local port
the external transmit latency counts to the stamp (Table 8.9). -/
def State.sendSync (s : State) (p : Nat) : State :=
  let seq := s.time.seq
  let log := s.get timeBase TIME_MSG_INT_LOG_SYNC
  let t := s.sendPtp p (.before (s.ptpHead 8 76 0x0008 0 p seq log ++ List.replicate 10 0#8
      ++ beBytes 2 3 ++ beBytes 2 28 ++ beBytes 3 0x0080C2 ++ beBytes 3 1 ++ List.replicate 22 0#8))
    (s.ptpHead 0 44 0x0208 0 p seq log ++ List.replicate 10 0#8)
  { t with time := { t.time with syncSent := Tbl.put (fun _ => 0) t.time.syncSent p (t.uptime + 1) } }

/-- An Announce sent on a port with a dataset (R223 to R225), the PTP timescale flagged unless the grandmaster's time has never
been set (Table 8.1). -/
def State.sendAnnounce (s : State) (p : Nat) (d : PtpData) : State :=
  let log := s.get timeBase TIME_MSG_INT_LOG_ANNOUNCE
  let flags := 8 * b2n d.ptp + 4 * s.get timeBase TIME_UTC_OFS_VALID
  let t := s.sendPtp p .none (s.ptpHead 0xB 64 flags 0 p s.time.seq log ++ List.replicate 10 0#8
    ++ beBytes 2 (s.get timeBase TIME_UTC_OFS_OFS) ++ [0#8] ++ leBytes 1 d.prio1 ++ leBytes 1 d.cls ++ leBytes 1 d.acc
    ++ beBytes 2 d.var ++ leBytes 1 d.prio2 ++ beBytes 8 d.id ++ beBytes 2 d.steps ++ leBytes 1 0xA0)
  { t with time := { t.time with annSent := Tbl.put (fun _ => 0) t.time.annSent p (t.uptime + 1) } }

/-- What a TIME_ROLE set is in force from the next Announce sent on (R238). -/
def State.roleTaken (s : State) : State := { s with time := { s.time with roleHeld := none } }

/-- Whether a port sends Sync as grandmaster or local master (R223, R225): ring ports of a GRANDMASTER, LMAC ports with
MASTER = 1; on AS_CAPABLE ports only (R220). -/
def State.sendsSync (s : State) (p : Nat) : Bool :=
  s.ptpOn p && s.asCapable p &&
    (if p < 2 then s.timeState == 4 else s.flag (timePort p) TIME_PORT_CFG_MASTER && p != s.slavePort)

/-- No Sync for SYNC_TMO intervals (R226): a move to the other stream, or HOLDOVER from LOCKED, or FREERUN from
ACQUIRING. -/
def State.syncTimeout (s : State) : State :=
  let sel := s.get timeBase TIME_STAT_SYNC_PORT
  let p := if sel = 2 then s.slavePort else sel
  if sel = 3 ∨ s.syncFresh p then s
  else if p < 2 ∧ s.syncFresh (1 - p) then
    (s.set timeBase TIME_STAT_SYNC_PORT (1 - p)).bump timeBase TIME_PATH_SWITCH
  else if s.timeState = 2 then
    ((s.bump timeBase TIME_SYNC_TMO).set timeBase TIME_STAT_SYNC_PORT 3).setTimeState 3
  else if s.timeState = 1 then
    ((s.bump timeBase TIME_SYNC_TMO).set timeBase TIME_STAT_SYNC_PORT 3).setTimeState 0
  else s

end Sys2Proof.Machine
end

