-- ==== Sys2Proof/Machine/MacOps.lean ====
section
/-! DEFINITION. The receive side of the six MACs, verification, PAUSE and the local links (R159 to R181). -/

namespace Sys2Proof.Machine

/-- The frame maximum of a port (R160) for a frame that carries the HSR tag or a VLAN tag or neither. -/
def State.maxFrame (s : State) (p : Nat) (bs : List Byte) : Nat :=
  if p < 2 then s.get (ringBase p) RING_MAXFRM_BYTES + (if beAt bs 12 2 = 0x892F then 6 else 0)
  else s.get (macBase p) LMAC_MAXFRM_BYTES + (if hasVlan bs then 4 else 0)

/-- The context a frame received on local port `p` enters (R186, R187). -/
def State.entryCtx (s : State) (p : Nat) (bs : List Byte) : Nat :=
  let hit := (List.range 1024).find? fun c =>
    s.flag (ctxBase c) CTX_CTRL_FILTER && hasVlan bs && s.get (ctxBase c) CTX_VLAN_VID == vlanOf bs
  match hit with
  | some c => c
  | none =>
    if p = 2 then s.get schedAll SCHED_LMAC_DEF0_LMAC0 else if p = 3 then s.get schedAll SCHED_LMAC_DEF0_LMAC1
    else if p = 4 then s.get schedAll SCHED_LMAC_DEF1_LMAC2 else s.get schedAll SCHED_LMAC_DEF1_LMAC3

/-- The descriptors waiting for context `c`. -/
def State.waitingDescr (s : State) (c : Nat) : List Descr := Tbl.get (fun _ => []) s.inbox c
/-- A descriptor handed to context `c` (R190). -/
def State.pushDescr (s : State) (c : Nat) (d : Descr) : State :=
  { s with inbox := Tbl.put (fun _ => []) s.inbox c (s.waitingDescr c ++ [d]) }

/-- A frame accepted by the MAC: MAC control frames are discarded and counted unless they are a PAUSE at a local port,
whose effect is PAUSE_RX's; what the fabric engine and the time engine take goes no further; any other frame of a local
port enters a context (R174, R175, R187). -/
def State.macAccept (s : State) (p : Nat) (bs : List Byte) : State :=
  if beAt bs 12 2 = 0x8808 then
    let op := beAt bs 14 2
    if p < 2 then s.bump (macBase p) (if op = 1 then MAC_PAUSE_IGNORED else MAC_CTRL_UNSUP)
    else if op = 1 ∧ (dstOf bs = 0x0180C2000001 ∨ dstOf bs = s.ownMac) then s
    else s.bump (macBase p) MAC_CTRL_UNSUP
  else if p < 2 then s
  else if beAt bs 12 2 = s.get 0x600000 FAB_ETYPE_ETYPE ∨ beAt bs 12 2 = 0x88F7 then s
  else s.pushDescr (s.entryCtx p bs) { bytes := some bs, addr := 0, len := bs.length, yellow := false, origin := p }

/-- A frame or mPacket judged by its length (Table 6.2): the count of a runt or an overlong one; none otherwise. An overlong copy
that an upstream hub stomped on a ring port counts no OVERSIZE (R162). -/
def State.lengthBad (s : State) (p : Nat) (bs : List Byte) (check : Nat) : Option State :=
  let len := bs.length + 4
  if len < 64 then some (s.bump (macBase p) MAC_RUNT)
  else if s.maxFrame p bs < len then some (if p < 2 ∧ check = 2 then s else s.bump (macBase p) MAC_OVERSIZE)
  else none

/-- A whole frame is judged by length and check value (Table 6.2): 0 the FCS, 2 a stomped one, which a ring port counts in
RING_STOMP_RX as its tagged frame arrives and in no counter here (R136). -/
def State.macJudge (s : State) (p : Nat) (bs : List Byte) (check : Nat) : State :=
  let b := macBase p
  match s.lengthBad p bs check with
  | some t => t
  | none =>
    if p < 2 ∧ check = 2 then s
    else if check ≠ 0 then s.bump b MAC_FCS_ERR
    else ((s.bump b MAC_RX_GOOD).bumpBy b MAC_RX_OCTETS (bs.length + 4)).macAccept p bs

/-- The number of a value among four delimiters. -/
def smdIndex (l : List Nat) (v : Nat) : Option Nat := (List.range 4).find? fun k => l[k]? == some v
/-- The frame being reassembled at port `p`: `(SMD-S number + 4 × next fragment count, bytes)`, or none; REASM_OPEN
shows it. -/
def State.setAsm (s : State) (p : Nat) (a : Option (Nat × List Byte)) : State :=
  (s.setMac p { s.mac p with asm := a, failed := false }).set (macBase p) MAC_MSTAT_REASM_OPEN (b2n a.isSome)

/-- Further mPackets of a frame that failed count no more (R171). -/
def State.setFailed (s : State) (p : Nat) (b : Bool) : State := s.setMac p { s.mac p with failed := b }

/-- The open frame of port `p` is discarded as an assembly error, counted once; its cut-through copy on the other ring port ends
with a stomped FCS (R171). -/
def State.asmFail (s : State) (p : Nat) : State :=
  let bs := match (s.mac p).asm with | some (_, bs) => bs | none => []
  let t := (((s.setAsm p none).setFailed p true).bump (macBase p) MAC_ASM_ERR)
  if p < 2 ∧ (s.mac p).asm.isSome then t.stompCut (1 - p) bs else t

/-- A respond mPacket is to be sent (R172): SMD-R, 60 zero bytes and the mCRC, once the port may send it (R176). -/
def State.verifyRx (s : State) (p : Nat) : State :=
  if s.flag (macBase p) MAC_PREEMPT_EN then s.sendOwn p 0x19 .none (List.replicate 60 0#8)
  else s.bump (macBase p) MAC_SMD_ERR

/-- A respond mPacket arrives (R172). -/
def State.respondRx (s : State) (p : Nat) : State :=
  if !s.flag (macBase p) MAC_PREEMPT_EN then s.bump (macBase p) MAC_SMD_ERR
  else if s.get (macBase p) MAC_PSTAT_VERIFY_STATE = 2 then
    (s.set (macBase p) MAC_PSTAT_VERIFY_STATE 3).set (macBase p) MAC_PSTAT_ACTIVE 1
  else s

/-- A continuation mPacket (R171). Those of a frame whose failure was counted count no more; one with no frame open begins such
a failure. -/
def State.contRx (s : State) (p k : Nat) (m : Sys2Proof.MacRx) : State :=
  let t := s.bump (macBase p) MAC_FRAG_RX
  match (s.mac p).asm with
  | none => if (s.mac p).failed then t else (t.setFailed p true).bump (macBase p) MAC_ASM_ERR
  | some (w, bs) =>
    if w % 4 ≠ k ∨ smdIndex smdStarts m.frag ≠ some (w / 4 % 4) then t.asmFail p
    else if m.check = 1 then t.setAsm p (some (w % 4 + 4 * ((w / 4 + 1) % 4), bs ++ m.bytes))
    else if m.check = 0 then ((t.setAsm p none).bump (macBase p) MAC_ASM_OK).macJudge p (bs ++ m.bytes) 0
    else t.asmFail p

/-- The start of a preemptable frame (R171): an open frame is lost, the new one starts normally. -/
def State.startRx (s : State) (p k : Nat) (m : Sys2Proof.MacRx) : State :=
  let t := (if (s.mac p).asm.isSome then s.asmFail p else s).setFailed p false
  if m.check = 1 then t.setAsm p (some (k, m.bytes)) else t.macJudge p m.bytes m.check

/-- A verify or respond mPacket (R161, R172): judged like any other, its check value the mCRC. -/
def State.pairRx (s : State) (p : Nat) (m : Sys2Proof.MacRx) : State :=
  match s.lengthBad p m.bytes m.check with
  | some t => t
  | none =>
    if m.check ≠ 1 then s.bump (macBase p) MAC_FCS_ERR
    else if m.smd = 0x07 then s.verifyRx p else s.respondRx p

/-- An mPacket of a preemptable frame (R161, R171): a runt or an overlong one is that and nothing else. -/
def State.fragRx (s : State) (p : Nat) (m : Sys2Proof.MacRx) (f : State → State) : State :=
  match s.lengthBad p m.bytes m.check with
  | some t => t
  | none => f s

/-- A frame or mPacket ends at port `p` (R161, R171). DEDUCED (log entry 141): an mPacket that passes Table 6.2 counts in RX_GOOD
only as part of the frame reassembled from it, verify and respond not at all. -/
def State.macRx (s : State) (p : Nat) (m : Sys2Proof.MacRx) : State :=
  if !s.receives p then s
  else if m.smd = 0xD5 then s.macJudge p m.bytes m.check
  else
    match smdIndex smdStarts m.smd, smdIndex smdConts m.smd with
    | some k, _ => s.fragRx p m fun s => s.startRx p k m
    | none, some k => s.fragRx p m fun s => s.contRx p k m
    | none, none => if m.smd = 0x07 ∨ m.smd = 0x19 then s.pairRx p m else s.bump (macBase p) MAC_SMD_ERR

/-- A verify mPacket is to be sent (R172): SMD-V, 60 zero bytes and the mCRC; its wait begins when it starts. -/
def State.sendVerify (s : State) (p : Nat) : State :=
  let x := s.mac p
  (s.setMac p { x with tries := x.tries + 1, verifyAt := s.uptime }).sendOwn p 0x07 .verify (List.replicate 60 0#8)

/-- Verification begins at a link up, or again after a write of EN, VERIFY_DIS or ADD_FRAG (R172). -/
def State.verifyStart (s : State) (p : Nat) : State :=
  let b := macBase p
  let t := (s.set b MAC_PSTAT_ACTIVE 0).setMac p { s.mac p with tries := 0 }
  if !s.flag b MAC_PREEMPT_EN then t.set b MAC_PSTAT_VERIFY_STATE 0
  else if s.flag b MAC_PREEMPT_VERIFY_DIS then (t.set b MAC_PSTAT_VERIFY_STATE 0).set b MAC_PSTAT_ACTIVE 1
  else (t.set b MAC_PSTAT_VERIFY_STATE 2).sendVerify p

/-- EN, VERIFY_DIS or ADD_FRAG was written: verification restarts at the next frame boundary (R172), which is now on an idle
line. -/
def State.preemptWritten (s : State) (p : Nat) : State :=
  if !s.flag (macBase p) MAC_MSTAT_LINK then s.set (macBase p) MAC_PSTAT_VERIFY_STATE (s.get (macBase p) MAC_PREEMPT_EN)
  else if (s.eport p).line.isNone ∧ (s.eport p).held.isNone then s.verifyStart p
  else s.setMac p { s.mac p with again := true }

/-- A frame boundary at port `p`: verification that a write asked for restarts (R172). -/
def State.boundary (s : State) (p : Nat) : State :=
  if (s.mac p).again ∧ (s.eport p).line.isNone ∧ (s.eport p).held.isNone then
    (s.setMac p { s.mac p with again := false }).verifyStart p
  else s

/-- The frame on the line of port `p` ends once all of it is out (R192). -/
def State.egressEnd (s : State) (p : Nat) : State :=
  match (s.eport p).line with
  | none => s
  | some l => if s.lineOut p l then (s.lineEnd p).boundary p else s

/-- Whether a verify mPacket still waits to be sent at port `p`. -/
def State.verifyWaits (s : State) (p : Nat) : Bool := (s.eport p).ctl.any fun f => f.smd == 0x07

/-- A verify attempt runs out (R172). -/
def State.verifyTimeout (s : State) (p : Nat) : State :=
  let b := macBase p
  let x := s.mac p
  if s.get b MAC_PSTAT_VERIFY_STATE ≠ 2 ∨ s.verifyWaits p ∨ s.uptime < x.verifyAt + 1000000 * s.get b MAC_PREEMPT_VERIFY_MS then s
  else if x.tries < s.get b MAC_PREEMPT_VERIFY_LIMIT then s.sendVerify p
  else (s.set b MAC_PSTAT_VERIFY_STATE 4).raise .preemptVerifyFail (srcPort p) 0 (leBytes 1 x.tries)

/-- The link of a port comes up at a speed code: verification starts (R172). -/
def State.macUp (s : State) (p speed : Nat) : State :=
  let t := s.set (macBase p) MAC_MSTAT_SPEED speed
  if s.flag (macBase p) MAC_MSTAT_LINK then t else (t.set (macBase p) MAC_MSTAT_LINK 1).verifyStart p

/-- The link of a port goes down: reassembly fails, verification returns to INITIAL, the frame on the line ends, peer
delay starts over (R171, R172, R180, R220). -/
def State.macDown (s : State) (p : Nat) : State :=
  let b := macBase p
  if !s.flag b MAC_MSTAT_LINK then s
  else
    let t := s.set b MAC_MSTAT_LINK 0
    let t := if (t.mac p).asm.isSome then t.asmFail p else t
    let t := (t.set b MAC_PSTAT_VERIFY_STATE 1).set b MAC_PSTAT_ACTIVE 0
    (t.linesLost p).peerDown p

/-! ### PAUSE -/

/-- Nanoseconds of a number of pause quanta of 512 bit times at port `p` (R174). -/
def State.quantaNs (s : State) (p q : Nat) : Nat := q * 64 * s.byteTime p / 100

/-- The pause of port `p` made to end at uptime `t`, 0 for none. -/
def State.setPause (s : State) (p t : Nat) : State :=
  (s.setMac p { s.mac p with pauseEnd := t }).set (macBase p) MAC_MSTAT_PAUSED (b2n (decide (s.uptime < t)))

/-- A PAUSE frame is received on local port `p` (R174, R176, R177). -/
def State.pauseRx (s : State) (p quanta : Nat) : State :=
  if !s.receives p then s
  else if !s.flag (macBase p) MAC_PAUSE_RX_EN then s.bump (macBase p) MAC_PAUSE_IGNORED
  else (s.bump (macBase p) MAC_PAUSE_RX).setPause p (if quanta = 0 then 0 else s.uptime + s.quantaNs p quanta)

/-- Quanta left of the pause in force (LMAC_PAUSE_TMR). -/
def State.quantaLeft (s : State) (p : Nat) : Nat :=
  let q := 64 * s.byteTime p
  ((((s.mac p).pauseEnd - s.uptime) * 100 + q - 1) / q) % 65536

/-- Bytes of frames received on port `p` that wait in the store (R178). -/
def State.rxLevel (s : State) (p : Nat) : Nat :=
  (s.inbox.flatMap fun e => e.2.filterMap fun d => if d.origin = p then some d.len else none).sum +
  (s.sched.queues.flatMap fun e => e.2.filterMap fun f => if f.origin = p then some f.bytes.length else none).sum

/-- A PAUSE frame is to be sent as an express frame, even while the port is paused (R178). -/
def State.sendPause (s : State) (p quanta : Nat) : State :=
  (s.setMac p { s.mac p with pauseAt := s.uptime, xoff := quanta != 0 }).sendCtl p
    (macBytes 0x0180C2000001 ++ macBytes s.ownMac ++ beBytes 2 0x8808 ++ beBytes 2 1 ++ beBytes 2 quanta)

/-- TX_QUANTA of a port. -/
def State.txQuanta (s : State) (p : Nat) : Nat := s.get (macBase p) MAC_PAUSE_TX_QUANTA

/-- The level reaches XOFF (R178). -/
def State.pauseXoff (s : State) (p : Nat) : State :=
  if s.canSend p ∧ s.flag (macBase p) MAC_PAUSE_TX_EN ∧ !(s.mac p).xoff
      ∧ 1024 * s.get (macBase p) MAC_PAUSE_MARK_XOFF_KIB ≤ s.rxLevel p then s.sendPause p (s.txQuanta p)
  else s

/-- Half of the pause time passed with the level at XON or above (R178). -/
def State.pauseRefresh (s : State) (p : Nat) : State :=
  if s.canSend p ∧ s.flag (macBase p) MAC_PAUSE_TX_EN ∧ (s.mac p).xoff
      ∧ 1024 * s.get (macBase p) MAC_PAUSE_MARK_XON_KIB ≤ s.rxLevel p
      ∧ (s.mac p).pauseAt + s.quantaNs p (s.txQuanta p) / 2 ≤ s.uptime then s.sendPause p (s.txQuanta p)
  else s

/-- The level falls below XON (R178). -/
def State.pauseXon (s : State) (p : Nat) : State :=
  if s.canSend p ∧ s.flag (macBase p) MAC_PAUSE_TX_EN ∧ (s.mac p).xoff
      ∧ s.rxLevel p < 1024 * s.get (macBase p) MAC_PAUSE_MARK_XON_KIB then s.sendPause p 0
  else s

/-! ### Local links -/

/-- The link of local port `p` as LMAC_USX gives it (R179): with AN_EN = 0 up at FORCE_SPEED, else as the control word
says, and down while it reports half duplex. -/
def State.lmacApply (s : State) (p : Nat) : State :=
  let b := macBase p
  if !s.flag b LMAC_USX_AN_EN then s.macUp p (s.get b LMAC_USX_FORCE_SPEED)
  else if s.flag b LMAC_USX_LINK ∧ s.flag b LMAC_USX_DUPLEX_FULL then s.macUp p (s.get b LMAC_USX_SPEED)
  else s.macDown p

/-- The speed code of MSTAT for the speed of a USXGMII control word, bits [11:9]. -/
def usxSpeed (c : Nat) : Nat :=
  if c = 3 then 5 else if c = 4 then 3 else if c = 5 then 4 else min c 2

/-- A USXGMII control word arrives at local port `p` (R179): [15] link, [12] full duplex, [11:9] speed. -/
def State.lmacControl (s : State) (p w : Nat) : State :=
  let b := macBase p
  let speed := usxSpeed (w / 512 % 8)
  let t := (((s.set b LMAC_USX_LINK (w / 32768 % 2)).set b LMAC_USX_SPEED speed).set b LMAC_USX_DUPLEX_FULL
    (w / 4096 % 2)).set b LMAC_USX_AN_DONE 1
  let t := if s.flag b LMAC_USX_AN_EN ∧ w / 32768 % 2 = 1 ∧ w / 4096 % 2 = 0 then
      t.raise .lmacHalfDuplex (srcPort p) 0 (leBytes 1 speed) else t
  t.lmacApply p

end Sys2Proof.Machine
end

