-- ==== Sys2Proof/Machine/RingOps.lean ====
section
/-! DEFINITION. The ring island: link states, control frames, node IDs, the ring map, forwarding, duplicate discard,
Twin and Split, breaks and heals (R126 to R155). -/

namespace Sys2Proof.Machine

/-! ### The ring map -/

/-- Base of the map entry of node `n` (1 to 254). -/
def mapBase (n : Nat) : Nat := 0x2F800 + 8 * (n - 1)
/-- Whether node `n` is in the ring map. -/
def State.inMap (s : State) (n : Nat) : Bool := decide (1 ≤ n ∧ n ≤ 254) && bitAt (s.get (mapBase n) RING_MAP0_FLAGS) 0
/-- The nodes of the ring map. -/
def State.mapNodes (s : State) : List Nat := ((List.range 255).drop 1).filter fun n => s.inMap n
/-- What the map notes of node `n`. -/
def State.note (s : State) (n : Nat) : MapNote := Tbl.get (fun _ => {}) s.ringNet.notes n
/-- The note of node `n` replaced. -/
def State.setNote (s : State) (n : Nat) (x : MapNote) : State :=
  { s with ringNet := { s.ringNet with notes := Tbl.put (fun _ => {}) s.ringNet.notes n x } }

/-- RING_STAT.CLOSED: both ports of every hub in the map report UP (R146). -/
def State.ringClosed (s : State) : Bool :=
  s.ringUp 0 && s.ringUp 1 && s.mapNodes.all fun n => n == s.nodeId || (s.note n).both

/-- The hub forgets the SEQ values it expects of node `n` (R65). DESIGN CHOICE (log entry 135): frames of that node held in
the reorder buffer stay there until the reorder hold ends. -/
def State.forgetSeq (s : State) (n : Nat) : State :=
  let m := Tbl.put (fun _ => 65536) s.fab.rxSeq n 65536
  { s with fab := { s.fab with rxSeq := Tbl.put (fun _ => 65536) m (256 + n) 65536 } }

/-- Node `n` leaves the map (R146): its entry reads zeros and unknown delays. -/
def State.mapDrop (s : State) (n : Nat) : State :=
  let t := (s.wr (mapBase n) 0).wr (mapBase n + 4) 0xFFFFFFFF#32
  (t.setNote n {}).evt ringWide RING_EVT 0

/-- Hops to node `n` on one side, 0 when a segment recorded as broken, or nothing known, cuts it off (R149, R152). -/
def State.hopsVia (s : State) (p n : Nat) : Nat :=
  let hops (m : Nat) : Nat :=
    if p = 0 then s.get (mapBase m) RING_MAP0_HOPS_COPE else s.get (mapBase m) RING_MAP0_HOPS_DRAG
  let h := if s.inMap n then hops n else 0
  let cut := s.ringNet.broken.any fun g =>
    let near := if p = 0 then g / 256 else g % 256
    if near = s.nodeId then true else s.inMap near && hops near != 0 && decide (hops near < h)
  if cut then 0 else h

/-- One-way delay to node `n` on one side in 20 ns units; none when unknown. -/
def State.delayVia (s : State) (p n : Nat) : Option Nat :=
  let d := if p = 0 then s.get (mapBase n) RING_MAP1_DELAY_COPE else s.get (mapBase n) RING_MAP1_DELAY_DRAG
  if d = 0xFFFF then none else some d

/-- Nodes cut off on a side read 0 hops and an unknown delay there. -/
def State.mapCut (s : State) : State :=
  s.each s.mapNodes fun s n =>
    let s := if s.hopsVia 0 n = 0 then (s.set (mapBase n) RING_MAP0_HOPS_COPE 0).set (mapBase n) RING_MAP1_DELAY_COPE 0xFFFF
      else s
    if s.hopsVia 1 n = 0 then (s.set (mapBase n) RING_MAP0_HOPS_DRAG 0).set (mapBase n) RING_MAP1_DELAY_DRAG 0xFFFF else s

/-! ### Supervision frames -/

/-- Die serial bytes 0 to 7. -/
def serialLo8 : List Byte := dieSerial.take 8

/-- Whether this hub holds a fixed ID (R141). -/
def State.fixedId (s : State) : Bool :=
  s.flag ringWide RING_NODE_CFG_FIXED && s.get ringWide RING_NODE_CFG_FIXED_ID != 0
    && s.get ringWide RING_NODE_CFG_FIXED_ID != 255

/-- The supervision body (Table 5.8) with a notice, if one is to be carried. -/
def State.supBody (s : State) (n : Option OwnNotice) : List Byte :=
  let brk := match n with | some x => x.brk | none => false
  let heal := match n with | some x => !x.brk | none => false
  let flags := b2n s.fixedId + 2 * b2n s.timeValid + 4 * b2n brk + 8 * b2n heal + 16 * b2n (s.ringUp 0)
    + 32 * b2n (s.ringUp 1) + 64 * b2n (s.get 0 SYS_PWR_STATE == 1)
  beBytes 2 1 ++ beBytes 2 s.ringNet.supSeq ++ [23#8, 6#8] ++ macBytes s.ownMac ++ [0xA5#8, 40#8]
    ++ leBytes 1 s.nodeId ++ leBytes 1 s.epoch ++ leBytes 1 flags ++ [1#8] ++ stampBytes (s.nowAt 0)
    ++ stampBytes (match n with | some x => x.applyAt | none => 0)
    ++ leBytes 1 (match n with | some x => x.port | none => 0) ++ leBytes 1 (match n with | some x => x.peer | none => 0)
    ++ serialLo8 ++ List.replicate 8 0#8

/-- The supervision frame without its HSR tag (R145). -/
def State.supFrame (s : State) (n : Option OwnNotice) : List Byte :=
  macBytes (0x01154E000100 + s.get ringWide RING_SUP_DA_LAST) ++ macBytes s.ownMac ++ beBytes 2 0x88FB ++ s.supBody n

/-- A supervision frame is sent in Twin form on the ports that are UP (R145). -/
def State.sendSup (s : State) (n : Option OwnNotice) : State :=
  let f := s.supFrame n
  let k := s.ringNet.supSeq
  let t := if s.ringUp 0 then s.sendCtl 0 (hsrTag f 0 k) else s
  let t := if s.ringUp 1 then t.sendCtl 1 (hsrTag f 1 k) else t
  { t with ringNet := { t.ringNet with supSeq := (k + 1) % 65536 } }

/-- Whether the hub takes part in the ring beside forwarding: it is neither in HELD nor in a warm reset (R146). -/
def State.ringActive (s : State) : Bool := !s.inHeld && !s.sys.warm

/-- Whether the hub sends supervision frames: it has an ID, and is neither in HELD nor in a warm reset (R146). -/
def State.supervises (s : State) : Bool := s.hasNode && s.ringActive

/-- The own map entry (Table 5.13). -/
def State.mapSelf (s : State) : State :=
  if !s.hasNode then s
  else
    let b := mapBase s.nodeId
    (s.set b RING_MAP0_FLAGS (5 + 2 * b2n s.fixedId + 8 * b2n s.timeValid)).set b RING_MAP0_EPOCH s.epoch

/-- The regular supervision frame, once per millisecond, with the first notice still to be repeated (R145). -/
def State.supervision (s : State) : State :=
  if !s.supervises ∨ s.uptime < s.ringNet.supAt then s
  else
    let t := (s.sendSup s.ringNet.own.head?).mapSelf
    let own := match s.ringNet.own with
      | [] => []
      | n :: rest => if n.left ≤ 1 then rest else { n with left := n.left - 1 } :: rest
    { t with ringNet := { t.ringNet with own := own, supAt := s.uptime + 1000000 } }

/-! ### Broken segments -/

/-- A notice takes effect (R152): the segment is recorded as broken or healed. -/
def State.segApply (s : State) (n : SegNotice) : State :=
  let stale := match Tbl.get (fun _ => none) s.ringNet.applied n.seg with
    | some a => n.applyAt != 0 && (decide (n.applyAt < a.applyAt) || (n.applyAt == a.applyAt && decide (n.txStamp < a.txStamp)))
    | none => false
  if stale then s
  else
    let rest := s.ringNet.broken.filter (· != n.seg)
    let t := { s with ringNet := { s.ringNet with
      applied := Tbl.put (fun _ => none) s.ringNet.applied n.seg (some n)
      broken := if n.brk then n.seg :: rest else rest } }
    let t := t.evt ringWide RING_EVT (if n.brk then 1 else 2)
    if n.brk then t.mapCut else t

/-- Whether a notice is already known: waiting, or the last applied for its segment. -/
def State.segKnown (s : State) (n : SegNotice) : Bool :=
  let same (m : SegNotice) : Bool := m.seg == n.seg && m.brk == n.brk && m.applyAt == n.applyAt
  s.ringNet.notices.any same || (match Tbl.get (fun _ => none) s.ringNet.applied n.seg with
    | some a => same a && (n.applyAt != 0 || s.ringNet.broken.contains n.seg == n.brk)
    | none => false)

/-- The first notice of a segment's break or heal is received (R152). -/
def State.segNotice (s : State) (n : SegNotice) : State :=
  if s.segKnown n then s
  else if n.applyAt = 0 then s.segApply n
  else if n.applyAt < s.ring then (s.bump ringWide RING_LATE_NOTICE).segApply n
  else if n.applyAt = s.ring then s.segApply n
  else { s with ringNet := { s.ringNet with notices := s.ringNet.notices ++ [n] } }

/-- The notice of a list that takes effect first (R152). -/
def firstNotice : List SegNotice → Option SegNotice
  | [] => none
  | n :: ns =>
    match firstNotice ns with
    | none => some n
    | some m => if m.applyAt < n.applyAt ∨ (m.applyAt = n.applyAt ∧ m.txStamp < n.txStamp) then some m else some n

/-- A waiting notice whose APPLY_AT has come takes effect (R152). -/
def State.segDue (s : State) : State :=
  match firstNotice s.ringNet.notices with
  | none => s
  | some n =>
    if s.ring < n.applyAt then s
    else { s with ringNet := { s.ringNet with notices := s.ringNet.notices.erase n } }.segApply n

/-- A segment as this model numbers it: the hub at whose Cope it begins, and the hub at whose Drag it ends. -/
def segOf (node port peer : Nat) : Nat := if port = 0 then node * 256 + peer else peer * 256 + node

/-- APPLY_AT of a break or heal declared now (R151). -/
def State.applyAt (s : State) : Nat := if s.timeValid then (s.nowAt 0 / 1000000 + 2) * 1000000 else 0

/-- An own port breaks or heals: the hub sends its notice at once, repeats it three times, and takes it itself
(R151, R155). -/
def State.ownNotice (s : State) (p : Nat) (brk : Bool) (peer : Nat) : State :=
  let n : OwnNotice := { port := p, brk := brk, peer := peer, applyAt := s.applyAt, left := 3 }
  let t := if s.supervises then s.sendSup (some n) else s
  let t := { t with ringNet := { t.ringNet with own := t.ringNet.own ++ [n] } }
  t.segNotice { seg := segOf s.nodeId p peer, brk := brk, applyAt := n.applyAt, txStamp := s.nowAt 0 }

/-! ### Link states -/

/-- The speed code of MSTAT for the rate a ring port runs. -/
def State.ringSpeed (s : State) (p : Nat) : Nat := if s.flag (ringBase p) RING_PSTAT_RATE_NOW then 5 else 6

/-- The link of a ring port is dropped: no lock, no neighbour (R127). -/
def State.linkClear (s : State) (p state : Nat) : State :=
  let b := ringBase p
  let t := (((s.set b RING_PSTAT_STATE state).set b RING_PSTAT_BLOCK_LOCK 0).set b RING_PSTAT_FEC_ALIGN 0).set b
    RING_PSTAT_HELLO_OK 0
  let t := ((t.set b RING_PSTAT_FEC_NOW 0).set b RING_PSTAT_NEIGHBOUR 0).set b RING_PSTAT_NB_EPOCH 0
  let t := t.setRport p { t.rport p with seekAt := s.uptime, missed := 0, nbFallback := none }
  if s.flag (macBase p) MAC_MSTAT_LINK then (t.macDown p).evt b RING_PEVT 0 else t

/-- A break is declared at a port (R151): event, count, fault and notice, once its link is dropped to `state`. -/
def State.declareBreak (s : State) (p state cause : Nat) : State :=
  let peer := s.get (ringBase p) RING_PSTAT_NEIGHBOUR
  let t := ((s.linkClear p state).bump (ringBase p) RING_LINK_DOWNS).evt (ringBase p) RING_PEVT 2
  let t := if s.ringUp p then { t with cruc := { t.cruc with upAt := t.uptime } } else t
  let t := t.raise .ringBreak (srcPort p) 0 (leBytes 1 peer ++ leBytes 1 cause)
  t.ownNotice p true peer

/-- A ring port leaves for a state (R130, R151): leaving UP is a break of its segment, and so is lost lock, Remote Fault or
missed hellos (causes 0 to 2) in HOLD. -/
def State.portLeave (s : State) (p state cause : Nat) : State :=
  if s.ringUp p ∨ (s.pstate p = 2 ∧ cause < 3) then s.declareBreak p state cause else s.linkClear p state

/-- A port starts seeking in a rate (R127). -/
def State.seekRate (s : State) (p cause rate : Nat) : State := (s.portLeave p 1 cause).set (ringBase p) RING_PSTAT_RATE_NOW rate

/-- A port starts seeking in its configured rate (R127). -/
def State.seek (s : State) (p cause : Nat) : State := s.seekRate p cause (s.get (ringBase p) RING_PCTRL_RATE)

/-- Block lock and FEC alignment are gained (R127): a rate other than the configured one is reported. -/
def State.blockLock (s : State) (p : Nat) : State :=
  let b := ringBase p
  if s.pstate p ≠ 1 ∨ s.flag b RING_PSTAT_BLOCK_LOCK then s
  else
    let fec := s.get b RING_PSTAT_RATE_NOW == 0 && s.flag b RING_PCTRL_FEC
    let t := ((s.set b RING_PSTAT_BLOCK_LOCK 1).set b RING_PSTAT_FEC_ALIGN (b2n fec)).set b RING_PSTAT_FEC_NOW (b2n fec)
    if s.get b RING_PSTAT_RATE_NOW ≠ s.get b RING_PCTRL_RATE then t.evt b RING_PEVT 4 else t

/-- The link timeout runs out without lock (R127): the other rate is tried with FALLBACK = 1, the configured one without. -/
def State.linkTimeout (s : State) (p : Nat) : State :=
  let b := ringBase p
  if s.pstate p ≠ 1 ∨ s.flag b RING_PSTAT_BLOCK_LOCK ∨
      s.uptime < (s.rport p).seekAt + 10000000 * s.get b RING_LINK_TMO_TICKS then s
  else
    let t := (s.bump b RING_LINK_TMO_CNT).setRport p { s.rport p with seekAt := s.uptime }
    t.set b RING_PSTAT_RATE_NOW
      (if s.flag b RING_PCTRL_FALLBACK then 1 - s.get b RING_PSTAT_RATE_NOW else s.get b RING_PCTRL_RATE)

/-- Whether hellos pass on a port: locked and seeking, or HOLD or UP (R127, R140). -/
def State.hellos (s : State) (p : Nat) : Bool :=
  s.pstate p == 2 || s.pstate p == 3 || (s.pstate p == 1 && s.flag (ringBase p) RING_PSTAT_BLOCK_LOCK)

/-- A link-local control frame (R139) around a 32-byte body. -/
def State.ctlFrame (s : State) (body : List Byte) : List Byte :=
  macBytes 0x03A5C00000FE ++ macBytes s.ownMac ++ beBytes 2 (s.get 0x600000 FAB_ETYPE_ETYPE) ++ body
    ++ List.replicate 14 0#8

/-- The hello body of a port (Table 5.7). -/
def State.helloBody (s : State) (p : Nat) : List Byte :=
  let chg := (s.rport p).ownChange
  let flags := b2n s.hasNode + 2 * b2n s.fixedId + 4 * b2n s.inHeld + 8 * s.get (ringBase p) RING_PCTRL_FALLBACK
  [1#8] ++ leBytes 1 (if s.hasNode then s.nodeId else 0) ++ leBytes 1 flags ++ leBytes 1 s.epoch
    ++ leBytes 1 (match chg with | some (r, _) => r + 1 | none => 0) ++ leBytes 1 (s.get (ringBase p) RING_PCTRL_FEC)
    ++ leBytes 2 0 ++ stampBytes (match chg with | some (_, t) => t | none => 0) ++ serialLo8 ++ List.replicate 6 0#8

/-- The hello interval in ns (R140). -/
def State.helloNs (s : State) : Nat := 1000 * s.get ringWide RING_HELLO_INT_US

/-- A hello frame is sent once per hello interval (R140). -/
def State.helloSend (s : State) (p : Nat) : State :=
  if !s.hellos p ∨ s.uptime < (s.rport p).helloSent + s.helloNs then s
  else (s.sendCtl p (s.ctlFrame (s.helloBody p))).setRport p { s.rport p with helloSent := s.uptime }

/-- Whether a received frame is a control frame of a type (R139). -/
def State.isCtl (s : State) (f : List Byte) (type : Nat) : Bool :=
  dstOf f == 0x03A5C00000FE && beAt f 12 2 == s.get 0x600000 FAB_ETYPE_ETYPE && leAt f 14 1 == type
    && decide (46 ≤ f.length)

/-- The neighbour's EPOCH is noted; a change means a restart of that node (R143). -/
def State.noteEpoch (s : State) (p node epoch : Nat) : State :=
  let b := ringBase p
  let t := if node ≠ 0 ∧ node = s.get b RING_PSTAT_NEIGHBOUR ∧ epoch ≠ s.get b RING_PSTAT_NB_EPOCH then s.forgetSeq node
    else s
  (t.set b RING_PSTAT_NEIGHBOUR node).set b RING_PSTAT_NB_EPOCH epoch

/-- A valid hello arrives (R129, R140, R155): neighbour state, a rate change to follow, and HOLD for a port that seeks. -/
def State.helloRx (s : State) (p : Nat) (f : List Byte) : State :=
  if !s.hellos p ∨ !s.isCtl f 1 then s
  else
    let b := ringBase p
    let fl := leAt f 16 1
    let t := s.noteEpoch p (if bitAt fl 0 then leAt f 15 1 else 0) (leAt f 17 1)
    let t := t.set b RING_PSTAT_HELLO_OK 1
    let follow := leAt f 18 1 ≠ 0 ∧ s.flag b RING_PCTRL_FALLBACK
    let x := t.rport p
    let t := t.setRport p { x with helloAt := s.uptime, missed := 0, nbFallback := some (bitAt fl 3)
                                   nbChange := if follow then some (leAt f 18 1 - 1, stampOf ((f.drop 22).take 10)) else x.nbChange }
    if s.pstate p = 1 then
      let t := (t.set b RING_PSTAT_STATE 2).setRport p { t.rport p with holdAt := s.uptime }
      (t.macUp p (t.ringSpeed p)).evt b RING_PEVT 1
    else t

/-- A hello interval passes without a valid hello (R140, R155). -/
def State.helloMiss (s : State) (p : Nat) : State :=
  let x := s.rport p
  if (s.pstate p ≠ 2 ∧ s.pstate p ≠ 3) ∨ s.uptime < x.helloAt + (x.missed + 1) * s.helloNs then s
  else
    let t := (s.setRport p { x with missed := x.missed + 1, holdAt := s.uptime }).bump (ringBase p) RING_HELLO_MISS
    if s.get ringWide RING_HELLO_MISSMAX ≤ x.missed + 1 then t.seek p 2 else t

/-- The heal hold ends without a miss: the port enters UP and sends its notice (R155). -/
def State.healEnd (s : State) (p : Nat) : State :=
  let b := ringBase p
  if s.pstate p ≠ 2 ∨ s.uptime < (s.rport p).holdAt + 1000000 * s.get ringWide RING_HEAL_HOLD_MS then s
  else ((s.set b RING_PSTAT_STATE 3).evt b RING_PEVT 3).ownNotice p false (s.get b RING_PSTAT_NEIGHBOUR)

/-- Loss of lock or Remote Fault for 5 µs, hellos missed, or the port leaving UP (R151); a port that has lost lock sends Remote
Fault. -/
def State.breakDeclare (s : State) (p cause : Nat) : State :=
  if s.pstate p = 2 ∨ s.pstate p = 3 then
    if cause = 2 ∧ (s.rport p).missed < s.get ringWide RING_HELLO_MISSMAX then s
    else (if cause = 0 then s.emit (.remoteFault p) else s).seek p cause
  else if s.pstate p = 1 ∧ cause < 2 then (if cause = 0 then s.emit (.remoteFault p) else s).seek p cause
  else s

/-- Whether a port seeks or has link: one in DISABLED, LOOP or FENCED follows no rate change (Table 5.2). -/
def State.portRuns (s : State) (p : Nat) : Bool := s.pstate p == 1 || s.pstate p == 2 || s.pstate p == 3

/-- An announced rate change comes due (R129): the own one changes RING_PCTRL.RATE, the neighbour's is followed. -/
def State.rateChange (s : State) (p : Nat) : State :=
  let b := ringBase p
  let x := s.rport p
  match x.ownChange, x.nbChange with
  | some (r, t), _ =>
    if s.ring < t then s
    else
      let u := ((s.setRport p { x with ownChange := none }).set b RING_PCTRL_RATE r).evt b RING_PEVT 5
      if s.portRuns p then u.seekRate p 3 r else u
  | none, some (r, t) =>
    if s.ring < t then s
    else if r = s.get b RING_PSTAT_RATE_NOW ∨ !s.portRuns p then s.setRport p { x with nbChange := none }
    else ((s.setRport p { x with nbChange := none }).evt b RING_PEVT 5).seekRate p 3 r
  | none, none => s

/-- A rate change is announced in the hellos for five intervals (at least four, R129). -/
def State.announceRate (s : State) (p rate : Nat) : State :=
  s.setRport p { s.rport p with ownChange := some (rate, s.ring + 5 * s.helloNs) }

/-- RING_PCTRL was written: EN, RATE and FEC take effect at once (R127, R128). -/
def State.pctrlWritten (s : State) (p : Nat) (old : Word) : State :=
  let b := ringBase p
  let new := s.rd b
  if s.pstate p = 5 ∨ s.pstate p = 4 then s
  else if !new.getLsbD 0 then if s.pstate p = 0 then s else s.portLeave p 0 3
  else if s.pstate p = 0 then s.seek p 3
  else if old.getLsbD 1 ≠ new.getLsbD 1 ∨ old.getLsbD 2 ≠ new.getLsbD 2 then s.seek p 3
  else s

/-! ### Node IDs -/

/-- The hub takes a node ID (R141): registers, own map entry, a supervision frame before any other ring frame, and its
previous address removed for 10 ms. -/
def State.takeId (s : State) (id : Nat) : State :=
  let old := s.nodeId
  let had := s.hasNode
  let t := (s.set 0x600000 FAB_NODE_NODE_ID id).set 0x600000 FAB_NODE_VALID 1
  let t := ((t.set ringWide RING_NODE_CFG_LAST_ID id).set ringWide RING_NODE_CFG_LAST_VALID 1).set ringWide RING_STAT_DUP_ID 0
  let t := if had ∧ old ≠ id then
      { (t.mapDrop old) with ringNet := { (t.mapDrop old).ringNet with prevId := some (nodeMac old, s.uptime + 10000000) } }
    else t
  let t := (t.mapSelf).evt ringWide RING_EVT 0
  if t.supervises then t.sendSup none else t

/-- RING_NODE_CFG was written: FIXED = 1 with an ID from 1 to 254 is taken at once (R141). -/
def State.nodeCfgWritten (s : State) : State :=
  if s.fixedId then s.takeId (s.get ringWide RING_NODE_CFG_FIXED_ID) else s

/-- Another hub holds this hub's ID (R144). -/
def State.dupId (s : State) (serial : List Byte) : State :=
  let id := s.nodeId
  let t := ((s.set 0x600000 FAB_NODE_VALID 0).set 0x600000 FAB_NODE_NODE_ID 0).set ringWide RING_NODE_CFG_LAST_VALID 0
  let t := ((t.mapDrop id).set ringWide RING_STAT_DUP_ID 1).evt ringWide RING_EVT 3
  t.raise .ringDupId srcHub 0 (leBytes 1 id ++ [0#8] ++ serial)

/-- The first ID from `n` on that no fixed-ID hub of the map holds. -/
def State.nextFree (s : State) (n : Nat) : Nat :=
  ((List.range 256).find? fun m => decide (n ≤ m) && !(s.inMap m && bitAt (s.get (mapBase m) RING_MAP0_FLAGS) 1)).getD 256

/-- The enumeration body (Table 5.7). -/
def enumBody (next mode origin count : Nat) (serial : List Byte) (run : Nat) : List Byte :=
  [2#8] ++ leBytes 1 next ++ leBytes 1 mode ++ leBytes 1 origin ++ leBytes 2 0 ++ leBytes 2 count
    ++ List.replicate 10 0#8 ++ serial ++ leBytes 2 run ++ leBytes 4 0

/-- An enumeration frame leaves by Cope, in HOLD or UP (Table 5.2). -/
def State.sendEnum (s : State) (f : List Byte) : State :=
  if s.pstate 0 = 2 ∨ s.pstate 0 = 3 then s.sendCtl 0 f else s.noLink 0

/-- An enumeration frame is passed on by a hub that is not its origin (R142). -/
def State.enumPass (s : State) (f : List Byte) : State :=
  let next := leAt f 15 1
  let mode := leAt f 16 1
  let count := leAt f 20 2
  let wants := s.inHeld = false ∧ next ≠ 255 ∧ ((mode = 0 ∧ !s.fixedId) ∨ (mode = 1 ∧ !s.hasNode))
  let id := s.nextFree next
  let serial := (f.drop 32).take 8
  let body (n c : Nat) := enumBody n mode (leAt f 17 1) c serial (leAt f 40 2)
  if !wants then s.sendEnum (s.ctlFrame (body next count))
  else if 254 < id then s.sendEnum (s.ctlFrame (body 255 count))
  else
    let t := s.takeId id
    t.sendEnum (t.ctlFrame (body (id + 1) (count + 1)))

/-- Whether an enumeration frame is this hub's own, returned (R142). -/
def State.enumBack (s : State) (f : List Byte) : Bool :=
  match s.ringNet.enum with
  | some e => (f.drop 32).take 8 == serialLo8 && leAt f 40 2 == e.run
  | none => false

/-- Whether an enumeration frame may be taken: it arrives on a Drag with link (R142). -/
def State.enumTakes (s : State) (f : List Byte) : Bool := s.isCtl f 2 && (s.pstate 1 == 2 || s.pstate 1 == 3)

/-- The enumerating hub takes FIRST_ID unless it holds a fixed ID, and sends the frame on Cope (R142). -/
def State.enumStart (s : State) (first mode : Nat) (k : Sys2Proof.CmdKey) : State :=
  let run := (s.ringNet.runNo + 1) % 65536
  let t := if s.fixedId then s else s.takeId first
  let t := { t with ringNet := { t.ringNet with runNo := run, enum := some ⟨run, k⟩ } }
  let next := if s.fixedId then first else first + 1
  t.sendEnum (t.ctlFrame (enumBody next mode t.nodeId 1 serialLo8 run))

/-! ### Frames on the ring -/

/-- Path identifier of a tagged frame (Table 5.4). -/
def pathOf (f : List Byte) : Nat := beAt f 14 2 / 4096
/-- HSR SEQ of a tagged frame. -/
def hsrSeqOf (f : List Byte) : Nat := beAt f 16 2
/-- Whether a tagged frame is a supervision frame (R145). -/
def isSup (f : List Byte) : Bool := beAt f 12 2 == 0x892F && beAt f 18 2 == 0x88FB
/-- Whether a supervision frame carries the Askox TLV. -/
def hasAskox (f : List Byte) : Bool := leAt f 32 1 == 0xA5 && decide (76 ≤ f.length)

/-- LSDU_SIZE against the frame's length; a frame padded to the minimum may say less (R131). -/
def lsduOk (f : List Byte) : Bool :=
  let n := beAt f 14 2 % 4096 + 14
  n == f.length || (decide (f.length ≤ 66) && decide (n ≤ f.length))

/-- Split streams go in Twin form while a foreign node is seen (R150): reported once. -/
def State.splitAsTwin (s : State) : State :=
  if s.flag ringWide RING_STAT_SPLIT_AS_TWIN then s
  else (s.set ringWide RING_STAT_SPLIT_AS_TWIN 1).raise .ringSplitAsTwin srcHub 0 []

/-- A foreign node's frame is seen (R147): Split streams go in Twin form from now on (R150), and time may cross that node
(R222). -/
def State.foreignSeen (s : State) (src : Nat) : State :=
  let t := if s.flag ringWide RING_STAT_FOREIGN then s else (s.set ringWide RING_STAT_FOREIGN 1).evt ringWide RING_EVT 4
  let l := if s.ringNet.foreign.contains src then s.ringNet.foreign else src :: s.ringNet.foreign
  ({ t with ringNet := { t.ringNet with foreign := l, foreignAt := s.uptime } }.set timeBase TIME_STAT_FOREIGN_PATH 1).splitAsTwin

/-- FOREIGN clears after 3 s without a foreign frame, and Split streams return to Split form (R147, R150). -/
def State.foreignClear (s : State) : State :=
  if !s.flag ringWide RING_STAT_FOREIGN ∨ s.uptime < s.ringNet.foreignAt + 3 * nsPerSec then s
  else
    let t := ((s.set ringWide RING_STAT_FOREIGN 0).set ringWide RING_STAT_SPLIT_AS_TWIN 0).set timeBase TIME_STAT_FOREIGN_PATH 0
    { t with ringNet := { t.ringNet with foreign := [] } }

/-- Class of a transit frame (Table 7.1). -/
def State.transitClass (s : State) (f : List Byte) : Nat :=
  let g := unTag f
  if rowOne g then 7
  else if hasVlan g then s.get schedAll SCHED_PCP_MAP_MAP / 8 ^ (beAt g 14 2 / 8192) % 8
  else if beAt g 12 2 = s.get 0x600000 FAB_ETYPE_ETYPE then s.get schedAll SCHED_CLASSIFY_FAB_TC
  else s.get schedAll SCHED_CLASSIFY_UNTAG_TC

/-- Bytes of partition 2 in use by queued and transit frames. -/
def State.bufUsed (s : State) : Nat :=
  (s.sched.queues.flatMap fun e => e.2.map fun f => f.bytes.length).sum +
  (s.sched.ports.flatMap fun e => e.2.transit.map fun f => f.bytes.length).sum

/-- Whether a frame that arrives for egress port `q` with class `tc` may leave cut-through (R135): the port idle, its class open,
nothing of the class waiting, and not from 10GBASE-R to 25GBASE-R. -/
def State.cutThrough (s : State) (q tc len : Nat) (express : Bool) : Bool :=
  let x := s.eport q
  let up := s.flag (ringBase (1 - q)) RING_PSTAT_RATE_NOW && !s.flag (ringBase q) RING_PSTAT_RATE_NOW
  x.line.isNone && !up && x.ctl.isEmpty && s.eligible q tc len express && (express || x.held.isNone) && (s.heads q tc).isEmpty

/-- A transit frame waits at port `q` (R135). -/
def State.transitWait (s : State) (q tc leaf : Nat) (f : List Byte) : State :=
  let x := s.eport q
  let t := s.setEport q { x with transit := x.transit ++ [{ bytes := f, tc := tc, leaf := leaf, uid := s.sched.uid }] }
  { t with sched := { t.sched with uid := t.sched.uid + 1 } }.backlog q tc (1024 + leaf)

/-- A tagged frame received on `p` goes on by the other port (R134 to R136, R162, R166): cut-through when the egress is
idle and its class open, else store-and-forward once it is whole. A frame that fails its FCS, or grows past the receiver's
maximum, on its way is ended with a stomped FCS, at that maximum + 1; one too long for the egress port is refused there. -/
def State.forward (s : State) (p : Nat) (f : List Byte) (fcs : Nat) : State :=
  let q := 1 - p
  let tc := s.transitClass f
  let len := f.length + 4
  let ex := s.goesExpress q tc (unTag f)
  let long := decide (s.maxFrame p f < len)
  let leaf := match nodeOfMac (srcMacOf f) with | some n => n | none => 256
  if !s.canSend q then s.noLink q
  else if !long ∧ s.maxFrame q f < len then s.bump (macBase q) MAC_TX_REFUSED
  else if s.cutThrough q tc len ex then
    (s.bump (ringBase p) RING_CT_FWD).putLine q tc (if long then f.take (s.maxFrame p f + 1) else f) .cut ex (long || fcs != 0)
  else if fcs ≠ 0 ∨ long then s
  else if s.partSize 2 < s.bufUsed + f.length then s.bump (macBase p) MAC_RX_NOBUF
  else (s.transitWait q tc leaf f).bump (ringBase p) RING_SF_FWD

/-- The duplicate-table key of a frame (R137). -/
def dupKey (f : List Byte) : Nat := (srcMacOf f * 2 ^ 48 + dstOf f) * 4096 + vlanOf (unTag f)

/-- The entry of the table refreshed longest ago. -/
def oldestDup (m : Tbl (Option DupEntry)) : Option Nat :=
  (m.foldl (fun (acc : Option (Nat × Nat)) p =>
    match p.2, acc with
    | some e, none => some (p.1, e.at_)
    | some e, some (k, b) => if e.at_ < b then some (p.1, e.at_) else some (k, b)
    | none, acc => acc) none).map (·.1)

/-- The duplicate table with entry `k` replaced. -/
def State.setDup (s : State) (k : Nat) (e : Option DupEntry) : State :=
  { s with ringNet := { s.ringNet with dup := Tbl.put (fun _ => none) s.ringNet.dup k e } }

/-- A key without an entry starts a new window, evicting the entry refreshed longest ago from a full table (R137). -/
def State.dupNew (s : State) (k seq : Nat) : State :=
  let e : DupEntry := { high := seq, seen := 1, at_ := s.uptime }
  if s.ringNet.dup.length < 8192 then s.setDup k (some e)
  else
    let m := match oldestDup s.ringNet.dup with | some o => s.ringNet.dup.erase o | none => s.ringNet.dup
    ({ s with ringNet := { s.ringNet with dup := m } }.setDup k (some e)).bump ringWide RING_DD_EVICT

/-- The context that takes a frame from the ring beside the fabric engine, the ledger and the process image: the lowest-numbered
enabled one whose stream filter is the frame's VLAN ID (R187, Table 5.5). DEDUCED (log entry 64). -/
def State.ringTaker (s : State) (f : List Byte) : Option Nat :=
  let g := unTag f
  if !hasVlan g ∨ etherOf g = s.get 0x600000 FAB_ETYPE_ETYPE then none
  else (List.range 1024).find? fun c =>
    s.flag (ctxBase c) CTX_CTRL_EN && s.flag (ctxBase c) CTX_CTRL_FILTER && s.get (ctxBase c) CTX_VLAN_VID == vlanOf g

/-- A frame of the ring is delivered (R134, R165): its HSR tag is removed where a context takes it, whose local ports send it
on. -/
def State.handDown (s : State) (p : Nat) (f : List Byte) : State :=
  let t := s.bump (ringBase p) RING_DELIVERED
  match s.ringTaker f with
  | some c => t.pushDescr c { bytes := some (unTag f), addr := 0, len := (unTag f).length, yellow := false, origin := p }
  | none => t

/-- Whether the copy of a frame received on Cope comes at this moment too (R137): what still waits in the queue is of one moment,
since time passes only while nothing waits. -/
def State.copeComes (s : State) (f : List Byte) : Bool :=
  s.ringUp 0 && s.flag (macBase 0) MAC_MCTRL_RX_EN && s.pending.any fun c =>
    match c with
    | .ringFrameRx p g k => p.val == 0 && k.val == 0 && dupKey g == dupKey f && hsrSeqOf g == hsrSeqOf f && beAt g 12 2 == 0x892F
    | _ => false

/-- A frame not seen before is delivered; a copy on Drag gives way to the copy on Cope of the same moment (R137). -/
def State.deliverNew (s : State) (p : Nat) (f : List Byte) (put : State → State) : State :=
  if p = 1 ∧ s.copeComes f then s.bump (ringBase p) RING_DD_DUP else (put s).handDown p f

/-- A frame the hub takes is delivered once (R137): ahead of the window, in it and not yet seen, seen, or too old. -/
def State.deliver (s : State) (p : Nat) (f : List Byte) : State :=
  let k := dupKey f
  let seq := hsrSeqOf f
  match Tbl.get (fun _ => none) s.ringNet.dup k with
  | none => s.deliverNew p f fun s => s.dupNew k seq
  | some e =>
    let ahead := (seq + 65536 - e.high) % 65536
    let behind := (e.high + 65536 - seq) % 65536
    if behind ≠ 0 ∧ ahead < 32768 then
      s.deliverNew p f fun s => s.setDup k (some { high := seq, seen := (e.seen * 2 ^ (min ahead 64) + 1) % 2 ^ 64, at_ := s.uptime })
    else if 63 < behind then (s.setDup k (some { e with at_ := s.uptime })).bump (ringBase p) RING_DD_OLD
    else if bitAt e.seen behind then (s.setDup k (some { e with at_ := s.uptime })).bump (ringBase p) RING_DD_DUP
    else s.deliverNew p f fun s => s.setDup k (some { e with seen := setBit e.seen behind true, at_ := s.uptime })

/-- A duplicate-table entry not refreshed for the forget time is removed (R137). -/
def State.ddForget (s : State) (k : Nat) : State :=
  match Tbl.get (fun _ => none) s.ringNet.dup k with
  | some e => if e.at_ + 1000000 * s.get ringWide RING_DD_FORGET_MS ≤ s.uptime then s.setDup k none else s
  | none => s

/-- A transmit sequence counter unused for 2 s is freed (R132). -/
def State.seqFree (s : State) (k : Nat) : State :=
  match Tbl.get (fun _ => none) s.ringNet.txSeq k with
  | some (_, at_) =>
    if at_ + 2 * nsPerSec ≤ s.uptime then
      { s with ringNet := { s.ringNet with txSeq := Tbl.put (fun _ => none) s.ringNet.txSeq k none } }
    else s
  | none => s

/-- The ring map takes a supervision frame received on `p` (R146, R151, R152). -/
def State.mapTake (s : State) (p : Nat) (f : List Byte) : State :=
  let n := leAt f 34 1
  let fl := leAt f 36 1
  let b := mapBase n
  let fresh := !s.inMap n
  let epoch := leAt f 35 1
  let t := if fresh ∨ epoch ≠ s.get b RING_MAP0_EPOCH then s.forgetSeq n else s
  let t := if fresh then (t.wr (b + 4) 0xFFFFFFFF#32).evt ringWide RING_EVT 0 else t
  let t := (t.set b RING_MAP0_FLAGS (1 + 2 * (fl % 2) + 8 * (fl / 2 % 2))).set b RING_MAP0_EPOCH epoch
  let d := if s.timeValid then min 0xFFFE ((s.nowAt 0 - stampOf ((f.drop 38).take 10)) / 20) else 0xFFFF
  let hops := leAt f 37 1
  let t := if p = 0 then (t.set b RING_MAP0_HOPS_COPE hops).set b RING_MAP1_DELAY_COPE d
    else (t.set b RING_MAP0_HOPS_DRAG hops).set b RING_MAP1_DELAY_DRAG d
  let t := t.setNote n { at_ := s.uptime, both := bitAt fl 4 && bitAt fl 5 }
  let t := if bitsOf (t.rd 0x78010C) 16 8 = n then { t with cruc := { t.cruc with supAt := t.uptime } } else t
  if bitAt fl 2 ∨ bitAt fl 3 then
    t.segNotice { seg := segOf n (leAt f 58 1) (leAt f 59 1), brk := bitAt fl 2
                  applyAt := stampOf ((f.drop 48).take 10), txStamp := stampOf ((f.drop 38).take 10) }
  else t

/-- A node unheard for 3 ms leaves the map (R146). -/
def State.mapExpire (s : State) (n : Nat) : State :=
  if s.inMap n ∧ n ≠ s.nodeId ∧ (s.note n).at_ + 3000000 ≤ s.uptime then s.mapDrop n else s

/-- The frame with HOPS one higher (R134). -/
def hopUp (f : List Byte) : List Byte := f.take 37 ++ leBytes 1 (leAt f 37 1 + 1) ++ f.drop 38

/-- Whether a source address is this hub's own, or its previous one within 10 ms of a change (R134, R141). -/
def State.ownSource (s : State) (src : Nat) : Bool :=
  (s.hasNode && src == s.ownMac) || (match s.ringNet.prevId with | some (a, t) => src == a && decide (s.uptime < t) | none => false)

/-- Whether something on this hub takes a multicast frame: the fabric engine, the ledger and process image, or a stream context
for its local ports (R134). -/
def State.takesGroup (s : State) (f : List Byte) : Bool :=
  let e := etherOf (unTag f)
  e == s.get 0x600000 FAB_ETYPE_ETYPE || e == s.get 0xA0000 LEDGER_ETYPE_ETYPE || (s.ringTaker f).isSome

/-- Another hub's supervision frame that carries this hub's own node ID (R144). -/
def State.dupSeen (s : State) (f : List Byte) : State :=
  if hasAskox f ∧ s.hasNode ∧ leAt f 34 1 = s.nodeId ∧ (f.drop 60).take 8 ≠ serialLo8 then s.dupId ((f.drop 60).take 8) else s

/-- A supervision frame of another source: foreign without the Askox TLV or with a source address of another form (R147); else it
fills the map; forwarded either way (Table 5.5). A frame that fails its FCS is forwarded only. -/
def State.supRx (s : State) (p : Nat) (f : List Byte) (fcs : Nat) : State :=
  if fcs ≠ 0 then s.forward p (hopUp f) fcs
  else if !hasAskox f then (s.foreignSeen (srcMacOf f)).forward p f fcs
  else if (nodeOfMac (srcMacOf f)).isNone then ((s.dupSeen f).foreignSeen (srcMacOf f)).forward p (hopUp f) fcs
  else
    let n := leAt f 34 1
    (if 1 ≤ n ∧ n ≤ 254 ∧ n ≠ s.nodeId then s.mapTake p f else s.dupSeen f).forward p (hopUp f) fcs

/-- Rows 3 to 6 of Table 5.5: frames other than supervision frames, from another source. -/
def State.dataRx (s : State) (p : Nat) (f : List Byte) (fcs : Nat) : State :=
  let src := srcMacOf f
  let dst := dstOf f
  let good := decide (fcs = 0) && s.ringActive
  let orphan := match nodeOfMac src with | some n => !s.inMap n | none => false
  if orphan then if fcs = 0 then s.bump (ringBase p) RING_ORPHAN else s
  else
    let t := if fcs = 0 ∧ (nodeOfMac src).isNone then s.foreignSeen src else s
    if dst = s.ownMac ∧ s.hasNode then if good then t.deliver p f else t
    else if dst / 2 ^ 40 % 2 = 0 then t.forward p f fcs
    else
      let u := t.forward p f fcs
      if good ∧ s.takesGroup f then u.deliver p f else u

/-- Whether an untagged frame is one of those that carry no HSR tag (R131): a control frame or a peer-delay message. -/
def State.untaggedOk (s : State) (f : List Byte) : Bool :=
  s.isCtl f 1 || s.isCtl f 2 || (beAt f 12 2 == 0x88F7 && [2, 3, 0xA].contains (leAt f 14 1 % 16))

/-- The counters of a tagged frame as it arrives (R131, R136, Table 5.12); `fcs` as in `ringRx`. -/
def State.countTagged (s : State) (p : Nat) (f : List Byte) (fcs : Nat) : State :=
  let b := ringBase p
  let t := if fcs = 2 then s.bump b RING_STOMP_RX else if fcs = 0 then s.bump b RING_RX_FRAMES else s
  if fcs = 0 ∧ !lsduOk f then t.bump b RING_LSDU_ERR else t

/-- A tagged frame arrives on ring port `p` (Table 5.5); `fcs` is 0 for a good frame, 1 for a bad FCS, 2 for a stomped
one. Fewer than 64 bytes never reach the decision (R134); a frame past the maximum is as bad as one whose FCS fails (R161, R162);
tagged time messages are the time engine's alone (R221). -/
def State.ringRx (s : State) (p : Nat) (f : List Byte) (fcs : Nat) : State :=
  if !s.ringUp p ∨ !s.flag (macBase p) MAC_MCTRL_RX_EN ∨ f.length + 4 < 64 then s
  else if beAt f 12 2 ≠ 0x892F then if s.untaggedOk f then s else s.bump (ringBase p) RING_UNTAGGED
  else
    let bad := if fcs = 0 ∧ s.maxFrame p f < f.length + 4 then 1 else fcs
    let t := s.countTagged p f bad
    if etherOf (unTag f) = 0x88F7 then t
    else if s.ownSource (srcMacOf f) then
      if bad ≠ 0 then t
      else (if isSup f then (t.bump (ringBase p) RING_SELF_REMOVED).dupSeen f else t.bump (ringBase p) RING_SELF_REMOVED)
    else if isSup f then t.supRx p f bad
    else t.dataRx p f bad

/-! ### Twin and Split paths -/

/-- A destination has no path (R149): counted, and reported once a second per node. -/
def State.unreach (s : State) (n : Nat) : State :=
  let t := s.bump ringWide RING_UNREACH
  let quiet := match Tbl.get (fun _ => none) s.ringNet.unreachAt n with
    | some a => decide (s.uptime < a + nsPerSec)
    | none => false
  if quiet then t
  else { t with ringNet := { t.ringNet with unreachAt := Tbl.put (fun _ => none) t.ringNet.unreachAt n (some s.uptime) } }.raise
    .ringUnreach srcHub 0 (leBytes 1 n)

/-- A Split stream's frames to node `n` take port `p` from now on (R149, R152, R155): moved to a shorter path they wait out the
difference of the delays after the last frame on the old one, 1 ms when either is unknown; there is no wait where the old path is
gone or the new one is not shorter. -/
def State.takePath (s : State) (c n p : Nat) : State :=
  let x := s.path c n
  match x.port with
  | none => s.setPath c n { x with port := some p }
  | some q =>
    if q = p then s
    else
      let wait := if s.hopsVia q n = 0 ∨ s.hopsVia q n < s.hopsVia p n then 0
        else
          match s.delayVia q n, s.delayVia p n with
          | some a, some b => 20 * (a - b)
          | _, _ => 1000000
      s.setPath c n { x with port := some p, wait := wait, hold := if wait = 0 then none else some (x.last + wait) }

/-- The ring ports a frame of context `c` leaves by, whether its copies are Twin copies, and the node a Split unicast goes to, 256
for none (R67, R148 to R150); a fabric frame to the own node leaves on Cope only (R43). -/
def State.ringWay (s : State) (c : Nat) (bs : List Byte) : List Nat × Bool × Nat :=
  let group := decide (dstOf bs / 2 ^ 40 % 2 = 1)
  if c = 0 ∧ dstOf bs = s.ownMac then ([0], true, 256)
  else if !s.flag (ctxBase c) CTX_CTRL_SPLIT ∨ (c = 0 ∧ group) ∨ s.flag ringWide RING_STAT_FOREIGN then ([0, 1], true, 256)
  else if group then
    if s.ringNet.broken.isEmpty then ([s.get (ctxBase c) CTX_CTRL_DIR_DRAG], false, 256) else ([0, 1], false, 256)
  else
    let n := (nodeOfMac (dstOf bs)).getD 0
    let a := s.hopsVia 0 n
    let b := s.hopsVia 1 n
    if a = 0 ∧ b = 0 then ([], false, n)
    else ([if b = 0 then 0 else if a = 0 then 1 else if b < a then 1 else 0], false, n)

/-- What sending a frame that way does: a Split stream takes its path, or has none (R149). -/
def State.wayTaken (s : State) (c : Nat) (w : List Nat × Bool × Nat) : State :=
  if w.2.2 = 256 then s
  else match w.1 with | p :: _ => s.takePath c w.2.2 p | [] => s.unreach w.2.2

/-- The waits of context `c`'s Split streams that are over end (R155). -/
def State.pathHoldEnd (s : State) (c : Nat) : State :=
  let t := s.each ((s.ringNet.paths.map (·.1)).filter fun k => k / 256 == c) fun s k =>
    let x := s.path c (k % 256)
    match x.hold with
    | some t => if t ≤ s.uptime then s.setPath c (k % 256) { x with hold := none, wait := 0 } else s
    | none => s
  (t.headMarks 0).headMarks 1

/-- Errors of the line code on a ring port that has lock (R158): corrected and uncorrectable codewords while RS-FEC runs, and
blocks with an invalid sync header. FREE VALUES (log entry 142): how many come is the line's. -/
def State.lineErrors (s : State) (p : Nat) : State :=
  let b := ringBase p
  if !s.flag b RING_PSTAT_BLOCK_LOCK then s
  else
    let r := s.takeFree
    let t := r.2.bumpBy b RING_BLOCK_ERR (Config.lineErrors r.1 0)
    if !s.flag b RING_PSTAT_FEC_NOW then t
    else (t.bumpBy b RING_FEC_CORR (Config.lineErrors r.1 1)).bumpBy b RING_FEC_UNCORR (Config.lineErrors r.1 2)

end Sys2Proof.Machine
end

