-- ==== Sys2Proof/Machine/SchedOps.lean ====
section
/-! DEFINITION. Stream contexts: enqueue checks, meters, closing; gate lists and their swaps (R185 to R209). -/

namespace Sys2Proof.Machine

/-! ### Meters -/

/-- The meter of context `c`. -/
def State.meter (s : State) (c : Nat) : Meter := Tbl.get (fun _ => {}) s.sched.meters c
/-- The meter of context `c` replaced. -/
def State.setMeter (s : State) (c : Nat) (m : Meter) : State :=
  { s with sched := { s.sched with meters := Tbl.put (fun _ => {}) s.sched.meters c m } }

/-- A burst size of CTX_BURST in 1/1024 byte. -/
def burst (units : Nat) : Nat := units * 64 * 1024

/-- Both buckets are filled to their sizes (R198). -/
def State.meterFill (s : State) (c : Nat) : State :=
  s.setMeter c { tc := burst (s.get (ctxBase c) CTX_BURST_CBS), tp := burst (s.get (ctxBase c) CTX_BURST_PBS)
                 at_ := s.storeNow }

/-- What `kbps` bring in `dt` ns, in 1/1024 byte. -/
def tokens (kbps dt : Nat) : Nat := kbps * dt * 1024 / 8000000

/-- The colours of RFC 2698. -/
inductive Colour where
  | green | yellow | red
  deriving DecidableEq, Repr

/-- A frame of `len` bytes is coloured (R195): the buckets are refilled for the time since the context's last frame,
then looked into and charged. -/
def State.colour (s : State) (c len : Nat) (preYellow : Bool) : Colour × State :=
  let b := ctxBase c
  let m := s.meter c
  let dt := s.storeNow - m.at_
  let tc := min (burst (s.get b CTX_BURST_CBS)) (m.tc + tokens (s.get b CTX_CIR_KBPS) dt)
  let tp := min (burst (s.get b CTX_BURST_PBS)) (m.tp + tokens (s.get b CTX_PIR_KBPS) dt)
  let need := len * 1024
  let yellow := s.flag b CTX_MCFG_COLOUR_AWARE && preYellow
  if tp < need then (.red, s.setMeter c { tc := tc, tp := tp, at_ := s.storeNow })
  else if yellow ∨ tc < need then (.yellow, s.setMeter c { tc := tc, tp := tp - need, at_ := s.storeNow })
  else (.green, s.setMeter c { tc := tc - need, tp := tp - need, at_ := s.storeNow })

/-! ### Enqueue -/

/-- LAST_ENQ (Table 7.2). -/
def State.lastEnq (s : State) (c code : Nat) : State := s.set (ctxBase c) CTX_STAT_LAST_ENQ code
/-- A frame refused by a check of Table 7.2. -/
def State.enqRefuse (s : State) (c code : Nat) : State := (s.lastEnq c code).bump (ctxBase c) CTX_ENQ_REFUSED

/-- A VLAN tag for class and VID put into a frame that has none (R189). -/
def State.tagFrame (s : State) (c : Nat) (bs : List Byte) : List Byte :=
  let pcp := s.get schedAll SCHED_TC_PCP_MAP / 8 ^ s.get (ctxBase c) CTX_CTRL_TC % 8
  if s.flag (ctxBase c) CTX_CTRL_TAG ∧ !hasVlan bs then
    bs.take 12 ++ beBytes 2 0x8100 ++ beBytes 2 (pcp * 8192 + s.get (ctxBase c) CTX_VLAN_VID) ++ bs.drop 12
  else bs

/-- The frame with DEI set, if it has a VLAN tag (Table 7.3). -/
def setDei (bs : List Byte) : List Byte :=
  if hasVlan bs then bs.take 14 ++ leBytes 1 (setBit (leAt bs 14 1) 4 true) ++ bs.drop 15 else bs

/-- Whether a frame has a VLAN tag with DEI = 1. -/
def hasDei (bs : List Byte) : Bool := hasVlan bs && bitAt (leAt bs 14 1) 4

/-- The local ports a context's frames leave by. -/
def State.localPorts (s : State) (c : Nat) : List Nat :=
  ([0, 1, 2, 3].filter fun q => bitAt (s.get (ctxBase c) CTX_CTRL_PORTS) (q + 1)).map (· + 2)

/-- The ports of a mask. -/
def portsOf (mask : Nat) : List Nat := allPorts.filter fun p => bitAt mask p
/-- The mask of ports. -/
def maskOf (ports : List Nat) : Nat := (ports.map fun p => 2 ^ p).sum

/-- A frame of context `c` made ready for its ports: a fabric frame to a host leaves by that host's port alone, a frame from the
ring by local ports alone, and a frame received on a local port never by that port (R186); the ring ports are those of R148 to
R150. -/
def State.ready (s : State) (c : Nat) (d : Descr) (bs : List Byte) (enqSeq : Nat) : QFrame :=
  let w := if bitAt (s.get (ctxBase c) CTX_CTRL_PORTS) 0 && decide (2 ≤ d.origin) && d.port.isNone then s.ringWay c bs
    else ([], false, 256)
  let ports := match d.port with
    | some p => [p]
    | none => w.1 ++ (s.localPorts c).filter (· != d.origin)
  { bytes := bs, todo := maskOf ports, left := maskOf ports, sent := false, origin := d.origin, seq := none, twin := w.2.1
    node := w.2.2, enqSeq := enqSeq, uid := 0 }

/-- The frame for those of its ports that `keep` names; a Split frame that loses its ring port takes no path. -/
def QFrame.only (f : QFrame) (keep : List Nat) : QFrame :=
  let f' := { f with todo := maskOf keep, left := maskOf keep }
  if bitAt f.todo 0 ∨ bitAt f.todo 1 then (if keep.any (· < 2) then f' else { f' with node := 256 }) else f'

/-- A frame is queued for its ports (R190, R192): each port's leaf wakes, QLEVEL rises. -/
def State.enqueue (s : State) (c : Nat) (f : QFrame) : State :=
  if f.todo = 0 then s
  else
    let q := s.cq c ++ [{ f with uid := s.sched.uid }]
    let t := { s with sched := { s.sched with uid := s.sched.uid + 1 } }
    ((t.setCq c q).set (ctxBase c) CTX_STAT_QLEVEL q.length).each (portsOf f.todo) fun t p => t.wakeCtx p c

/-- A frame that passed the checks is queued; a Split frame takes its path on the ring, or has none (R149). -/
def State.enqPass (s : State) (c : Nat) (f : QFrame) : State :=
  (s.wayTaken c ((portsOf f.todo).filter (· < 2), f.twin, f.node)).enqueue c f

/-- Step 7 of Table 7.2 and Table 7.3: a metered frame is coloured, dropped, marked or passed. -/
def State.enqMeter (s : State) (c : Nat) (f : QFrame) (yellow : Bool) : State :=
  let b := ctxBase c
  if !s.flag b CTX_MCFG_METER_EN then s.enqPass c f
  else
    let r := s.colour c (f.bytes.length + 4) (yellow || hasDei f.bytes)
    match r.1 with
    | .green => r.2.enqPass c f
    | .yellow =>
      let t := r.2.bump b CTX_YELLOW
      let act := s.get b CTX_MCFG_YELLOW_ACT
      if act = 2 then (t.bump b CTX_RED).lastEnq c 7
      else t.enqPass c (if act = 1 then { f with bytes := setDei f.bytes } else f)
    | .red =>
      let t := (r.2.bump b CTX_RED).lastEnq c 7
      if s.flag b CTX_MCFG_RED_BLOCK then t.set b CTX_MCFG_BLOCKED 1 else t

/-- Steps 4 to 7 of Table 7.2 for a frame and the ports it may leave by; `code` is the LAST_ENQ of a frame that passes. -/
def State.enqJudge (s : State) (c : Nat) (f : QFrame) (yellow : Bool) (code : Nat) : State :=
  let b := ctxBase c
  if s.flag b CTX_MCFG_BLOCKED then s.enqRefuse c 8
  else if s.get b CTX_QCFG_QDEPTH ≤ (s.cq c).length then s.enqRefuse c 3
  else if s.partSize 2 < s.bufUsed + f.bytes.length then
    let t := (s.enqRefuse c 4).bump schedAll SCHED_NOBUF
    if f.origin < 6 then t.bump (macBase f.origin) MAC_RX_NOBUF else t
  else (s.lastEnq c code).enqMeter c f yellow

/-- TX_REFUSED is counted at ports a frame is not sent by. -/
def State.txRefused (s : State) (ports : List Nat) : State := s.each ports fun s p => s.bump (macBase p) MAC_TX_REFUSED

/-- Step 3 of Table 7.2 at the egress ports (R164, R166): ports the frame is too long for are counted and left out, and padding of
a host's frame is counted at the others. A received frame passes steps 1 and 4 to 7 only: one too long for all its ports is
discarded without a code. -/
def State.enqSize (s : State) (c : Nat) (f : QFrame) (padded yellow : Bool) : State :=
  let ports := portsOf f.todo
  let long := ports.filter fun p => decide (s.maxFrame p f.bytes < f.bytes.length + 4)
  let ok := ports.filter fun p => !long.contains p
  let t := s.txRefused long
  if ok = [] ∧ long ≠ [] then if f.origin < 6 then t else t.enqRefuse c 1
  else
    let u := if padded then t.each ok fun t p => t.bump (macBase p) MAC_TX_PADDED else t
    u.enqJudge c (f.only ok) yellow (if long = [] ∨ f.origin < 6 then 0 else 1)

/-- Whether a range of the store lies inside the host partition. -/
def State.inHost (s : State) (a n : Nat) : Bool :=
  decide (s.partBase 15 ≤ a) && decide (a + n ≤ s.partBase 15 + s.partSize 15)

/-- A context judges one descriptor (Table 7.2): a host's frame of fewer than 14 bytes is refused, one of fewer than 60 padded
(R164); a VLAN tag goes in where the context asks for one (R189). -/
def State.judge (s : State) (c : Nat) (d : Descr) (enqSeq : Nat) : State :=
  if !s.flag (ctxBase c) CTX_CTRL_EN then s.enqRefuse c 5
  else
    match d.bytes with
    | some bs => s.enqSize c (s.ready c d (s.tagFrame c bs) enqSeq) false d.yellow
    | none =>
      if !s.inHost d.addr d.len then s.enqRefuse c 6
      else
        let bs := s.load d.addr d.len
        let f := s.ready c d (s.tagFrame c (padFrame bs)) enqSeq
        if d.len < 14 then (s.txRefused (portsOf f.todo)).enqRefuse c 2 else s.enqSize c f (decide (d.len < 60)) d.yellow

/-- A frame of this hub's fabric engine that context 0 did not queue will not leave (R59). -/
def State.notQueued (s : State) (before : List QFrame) (d : Descr) : State :=
  match d.bytes with
  | some bs => if (s.cq 0).length ≤ before.length then s.reqLeaves bs else s
  | none => s

/-- A context judges its oldest descriptor (R191): ENQ_SEQ moves on for a descriptor the host pushed. -/
def State.judgeNext (s : State) (c : Nat) : State :=
  match s.waitingDescr c with
  | [] => s
  | d :: rest =>
    let t := { s with inbox := Tbl.put (fun _ => []) s.inbox c rest }
    let n := (s.get (ctxBase c) CTX_SEQ_ENQ_SEQ + 1) % 65536
    match d.bytes with
    | none => (t.judge c d n).set (ctxBase c) CTX_SEQ_ENQ_SEQ n
    | some _ =>
      let u := t.judge c d (s.get (ctxBase c) CTX_SEQ_ENQ_SEQ)
      if c = 0 then u.notQueued (s.cq 0) d else u

/-- SCHED_TXD_CMD is written: a descriptor is pushed for context `n` (R190). -/
def State.txdPush (s : State) (n : Nat) (w : Sys2Proof.Word) : State :=
  s.pushDescr n { bytes := none, addr := (s.rd (0x88000 + 8 * n)).toNat, len := bitsOf w 0 14, yellow := w.getLsbD 14 }

/-- The frames of context `c` that have not started anywhere are done with: they will not leave any more (R59). -/
def State.flushNotes (s : State) (c : Nat) : State :=
  if c = 0 then ((s.cq 0).filter fun f => f.todo == f.left).foldl (fun s f => s.reqLeaves f.bytes) s else s

/-- A context is closed (R193): queued frames are flushed and counted; a frame on the line completes. -/
def State.ctxClose (s : State) (c : Nat) : State :=
  let q := s.cq c
  let stay := (q.filter fun f => f.todo != f.left).map fun f => { f with left := f.left - f.todo, todo := 0 }
  let t := ((s.flushNotes c).setCq c stay).set (ctxBase c) CTX_CTRL_EN 0
  let t := (t.bumpBy (ctxBase c) CTX_FLUSHED (q.filter fun f => f.todo != 0).length).set (ctxBase c) CTX_STAT_QLEVEL stay.length
  t.each allPorts fun t p => t.leafDrop p c

/-! ### Gate lists -/

/-- Whether some preemptable class is open under gates `g` at port `p` (R205). -/
def State.opensPreemptable (s : State) (p g : Nat) : Bool :=
  (List.range 8).any fun c => bitAt g c && !s.isExpress p c

/-- The list of port `p` moves past the edge that is due (R203, R207, R209). -/
def State.gateEdge (s : State) (p : Nat) : State :=
  let e := s.edgeAt p
  if s.ring < e then s
  else
    let x := s.eport p
    let y := if s.cycleEnd p ≤ e then { x with entry := 0, entryAt := e, cycleAt := e, still := none }
      else { x with entry := x.entry + 1, entryAt := e }
    let t := s.setEport p y
    if t.opensPreemptable p (t.gates p) then t.setEport p { y with hold := false } else t

/-- HOLD_ADV of port `p` in ns (R205). -/
def State.holdAdv (s : State) (p : Nat) : Nat :=
  let v := s.get (schedBase p) SCHED_HOLD_ADV_NS
  if v = 0 then ((143 + 64 * s.get (macBase p) MAC_PREEMPT_ADD_FRAG) * s.byteTime p + 99) / 100 else v

/-- Whether a pending swap comes before the next edge of the list in force at port `p` (R207). -/
def State.swapNext (s : State) (p : Nat) : Bool :=
  s.flag (schedBase p) SCHED_PCTRL_CONFIG_PENDING && decide ((s.eport p).swapAt ≤ s.edgeAt p)

/-- The ring time of the next gate edge of port `p`: the list's own, or the swap to the pending list. -/
def State.nextEdge (s : State) (p : Nat) : Nat := if s.swapNext p then (s.eport p).swapAt else s.edgeAt p

/-- The gates after the next edge of port `p`. -/
def State.nextGates (s : State) (p : Nat) : Nat :=
  if s.swapNext p then ((s.pendingList p).1.head?.map (·.1)).getD 0
  else s.get (operEntry p (if s.cycleEnd p ≤ s.edgeAt p then 0 else (s.eport p).entry + 1)) GCL_GATES_GATES

/-- HOLD_ADV before an edge that closes an open preemptable class, the hold is asserted (R205). -/
def State.holdAssert (s : State) (p : Nat) : State :=
  let closes := (List.range 8).any fun c => !s.isExpress p c && bitAt (s.gates p) c && !bitAt (s.nextGates p) c
  if s.flag (schedBase p) SCHED_PCTRL_GATE_EN ∧ s.preemptActive p ∧ closes ∧ s.nextEdge p ≤ s.ring + s.holdAdv p then
    (s.setEport p { s.eport p with hold := true }).preemptLine p
  else s

/-- What a frame discarded at the head of its class leaves behind (R206): counter, event bit and fault record. -/
def State.windowDrop (s : State) (p tc ctx len : Nat) : State :=
  ((s.headMarks p).bump (schedBase p) TX_WINDOW_DROP).evt (schedBase p) SCHED_PCEVT 1
    |>.raise .windowDrop (srcPort p) 0 (leBytes 2 ctx ++ leBytes 2 len ++ leBytes 1 tc)

/-- The candidate at the head of class `tc` of port `p` is discarded there (R206). -/
def State.windowCand (s : State) (p tc : Nat) (c : Cand) : State :=
  let f := s.finish p tc c
  let g := s.inputFinish p tc c
  match c with
  | .transit t =>
    let x := s.eport p
    ((s.setEport p { x with transit := x.transit.erase t }).chosen p tc c f g).windowDrop p tc Config.noContext.toNat (c.len p)
  | .ctx n q =>
    let u := ((((s.ctxStart p n q.uid).chosen p tc c f g).wakeCtx p n).leaveMark p n q false).ctxEnd p n q.uid false
    (u.windowDrop p tc n (c.len p)).bump (ctxBase n) CTX_WINDOW_DROP

/-- A frame at the head of its class for a whole operating cycle is discarded (R206), an own control frame too. -/
def State.windowExpire (s : State) (p tc : Nat) : State :=
  let x := s.eport p
  let h := Tbl.get (fun _ => (0, 0)) x.head tc
  if h.1 = 0 ∨ s.uptime + 1 < h.2 + s.get (schedBase p) SCHED_OPER_CYCLE_NS then s
  else
    match (if tc = 7 then x.ctl else []) with
    | f :: rest => (s.setEport p { x with ctl := rest }).windowDrop p tc Config.noContext.toNat (f.bytes.length + 4)
    | [] => match s.headOf p tc with | some c => s.windowCand p tc c | none => s

/-- The admin base time of port `p`. -/
def State.adminBase (s : State) (p : Nat) : Nat :=
  let b := schedBase p
  (s.get b SCHED_ADMIN_BASE_SL_SEC_LO + 2 ^ 32 * s.get b SCHED_ADMIN_BASE_SH_SEC_HI) * nsPerSec
    + s.get b SCHED_ADMIN_BASE_NS_NS

/-- The swap time for a base and a cycle (R207). -/
def State.swapTime (s : State) (base cycle : Nat) : Nat := nextStart (s.ring + 10000) base cycle

/-- A swap is requested (R207): its time is worked out and shown; a pending swap is replaced (R208). -/
def State.swapRequest (s : State) (p : Nat) : State :=
  let b := schedBase p
  let w := s.swapTime (s.adminBase p) (s.get b SCHED_ADMIN_CYCLE_NS)
  let t := (s.set b SCHED_PCTRL_CONFIG_PENDING 1).set b SCHED_PCTRL_SWAP_LATCHED 0
  let t := ((t.set b SCHED_SWAP_NS_NS (w % nsPerSec)).set b SCHED_SWAP_SL_SEC_LO (w / nsPerSec % 2 ^ 32)).set b
    SCHED_SWAP_SH_SEC_HI (w / nsPerSec / 2 ^ 32)
  t.setEport p { t.eport p with swapAt := w, latched := none }

/-- CONFIG_CHANGE is written (R207, R209): with a non-zero base time it needs valid ring time. -/
def State.configChange (s : State) (p : Nat) : State :=
  if s.adminBase p ≠ 0 ∧ !s.timeValid then s.bump (schedBase p) SCHED_GCL_WDROP else s.swapRequest p

/-- 10 µs before a swap the admin list is latched (R208). -/
def State.swapLatch (s : State) (p : Nat) : State :=
  let b := schedBase p
  let x := s.eport p
  if s.flag b SCHED_PCTRL_CONFIG_PENDING ∧ !s.flag b SCHED_PCTRL_SWAP_LATCHED ∧ x.swapAt ≤ s.ring + 10000 then
    (s.set b SCHED_PCTRL_SWAP_LATCHED 1).setEport p
      { x with latched := some (s.adminList p, s.get b SCHED_ADMIN_CYCLE_NS, s.get b SCHED_ADMIN_EXT_NS, s.adminBase p) }
  else s

/-- A list written to the oper entries of port `p`. -/
def State.writeOper (s : State) (p : Nat) : Nat → List (Nat × Nat) → State
  | _, [] => s
  | e, (g, i) :: rest =>
    ((s.set (operEntry p e) GCL_GATES_GATES g).set (operEntry p e) GCL_INTERVAL_INTERVAL i).writeOper p (e + 1) rest

/-- At the swap time the admin list becomes the oper list (R207). -/
def State.gclSwap (s : State) (p : Nat) : State :=
  let t := s.swapLatch p
  let b := schedBase p
  let x := t.eport p
  match x.latched with
  | none => s
  | some (l, cycle, ext, base) =>
    if !s.flag b SCHED_PCTRL_CONFIG_PENDING ∨ s.ring < x.swapAt then s
    else
      let u := (((t.writeOper p 0 l).set b SCHED_OPER_CYCLE_NS cycle).set b SCHED_OPER_EXT_NS ext).set b SCHED_OPER_LEN l.length
      let u := (u.set b SCHED_PCTRL_CONFIG_PENDING 0).set b SCHED_PCTRL_SWAP_LATCHED 0
      let u := (u.bump b SCHED_SWAPS).evt b SCHED_PCEVT 0
      let y := { x with entry := 0, entryAt := x.swapAt, cycleAt := x.swapAt, base := base, still := none, latched := none }
      let v := u.setEport p y
      if v.opensPreemptable p (v.gates p) then v.setEport p { y with hold := false } else v

/-- The register record of context `c` returns to its reset value, and its queue is empty (R194, R212). -/
def State.ctxReset (s : State) (c : Nat) : State :=
  let t := s.each ((List.range 16).map (· * 4)) fun t o => t.wr (ctxBase c + o) (regReset (ctxBase c + o))
  (t.setCq c []).setMeter c {}

/-- The stream context table is new (R194): every context holds its reset record, and no leaf of a context is backlogged. -/
def State.ctxTableNew (s : State) : State :=
  let t := (s.flushNotes 0).each (List.range 1024) State.ctxReset
  t.each allPorts fun t p =>
    let x := t.eport p
    (t.setEport p { x with tags := x.tags.filter fun e => decide (1024 ≤ e.1 % 2048) && e.1 % 2048 != 1282 }).headMarks p

/-- The frame buffers hold no frame (R194): frames queued in contexts, transit frames, and those of them on a line. -/
def State.buffersEmpty (s : State) : State :=
  let keep (l : Option Line) : Option Line := l.filter fun l => match l.src with | .ctl _ => true | _ => false
  let t := (s.flushNotes 0).each (s.sched.queues.map (·.1)) fun s c => (s.setCq c []).set (ctxBase c) CTX_STAT_QLEVEL 0
  t.each allPorts fun t p =>
    let x := t.eport p
    (t.setEport p { x with transit := [], tags := [], line := keep x.line, held := keep x.held }).headMarks p

end Sys2Proof.Machine
end

