-- ==== Sys2Proof/Machine/FabricOps.lean ====
section
/-! DEFINITION. The sending side of the fabric engine: frames, sequence numbers, transaction slots, and what a request's
end gives its initiator (R49 to R66). -/

namespace Sys2Proof.Machine

/-- Base of the fabric registers (R72). -/
def fabBase : Nat := 0x600000

/-- Fabric status codes (Table 2.7). -/
def stOk : Nat := 0x00
/-- UNIT_FENCED. -/
def stFenced : Nat := 0x01
/-- UNMAPPED. -/
def stUnmapped : Nat := 0x02
/-- BAD_ALIGN. -/
def stBadAlign : Nat := 0x03
/-- TOO_LONG. -/
def stTooLong : Nat := 0x04
/-- BAD_SPACE. -/
def stBadSpace : Nat := 0x05
/-- NOT_PERMITTED. -/
def stNotPermitted : Nat := 0x06
/-- DATA_ERROR. -/
def stDataError : Nat := 0x07
/-- BROADCAST_READ. -/
def stBroadcast : Nat := 0x80
/-- TIMEOUT. -/
def stTimeout : Nat := 0x81
/-- NO_NODE_ID. -/
def stNoNode : Nat := 0x82

/-- Node of a fabric address (R41). -/
def nodeOf (a : Nat) : Nat := a / 2 ^ 40 % 256
/-- Space of a fabric address. -/
def spaceOf (a : Nat) : Nat := a / 2 ^ 32 % 256
/-- Offset of a fabric address. -/
def offsetOf (a : Nat) : Nat := a % 2 ^ 32

/-- The fabric engine runs (Table 2.9). -/
def State.fabOn (s : State) : Bool := s.flag fabBase FAB_CTRL_EN

/-- The largest READ or WRITE payload. -/
def State.maxPay (s : State) : Nat := s.get fabBase FAB_MAXPAY_BYTES

/-- The next SEQ to a destination node, 255 for broadcast (R63). -/
def State.nextFabSeq (s : State) (dst : Nat) : Nat × State :=
  let n := Tbl.get (fun _ => 0) s.fab.txSeq dst
  (n, { s with fab := { s.fab with txSeq := Tbl.put (fun _ => 0) s.fab.txSeq dst ((n + 1) % 65536) } })

/-- The fabric header (Table 2.5). -/
def fabHeader (type status len tid src init addr seq : Nat) : List Byte :=
  leBytes 1 (0x10 + type) ++ leBytes 1 status ++ leBytes 2 len ++ leBytes 2 tid ++ leBytes 1 src ++ leBytes 1 init
    ++ leBytes 6 addr ++ leBytes 2 seq

/-- A fabric frame to a MAC address (R49), without HSR tag. -/
def State.fabFrameTo (s : State) (dst : Nat) (body : List Byte) : List Byte :=
  macBytes dst ++ macBytes s.ownMac ++ beBytes 2 (s.get fabBase FAB_ETYPE_ETYPE) ++ body

/-- The destination address of a frame to a node (Table 2.4). -/
def fabMac (node : Nat) : Nat := if node = 255 then 0x03A5C00000FF else nodeMac node

/-- Bytes of a frame of this payload with its FCS and without HSR tag, its padding left out (R53, R133). -/
def fabFrameLen (payload : Nat) : Nat := 14 + 16 + payload + 4

/-- Whether a frame of this payload fits the ring ports. -/
def State.fitsRing (s : State) (payload : Nat) : Bool :=
  decide (fabFrameLen payload ≤ s.get (ringBase 0) RING_MAXFRM_BYTES)
    && decide (fabFrameLen payload ≤ s.get (ringBase 1) RING_MAXFRM_BYTES)

/-- A SEQ to a node is used again: a frame with it may come back anew (R56). -/
def State.seqAnew (s : State) (node seq : Nat) : State :=
  { s with fab := { s.fab with returned := s.fab.returned.filter (· != (node, seq)) } }

/-- A fabric frame to a node is handed to context 0 (R50). -/
def State.sendFab (s : State) (node type status len tid init addr : Nat) (payload : List Byte) : State :=
  let r := s.nextFabSeq node
  let f := s.fabFrameTo (fabMac node) (fabHeader type status len tid s.nodeId init addr r.1 ++ payload)
  ((r.2.seqAnew node r.1).bump fabBase FAB_TX_FRAMES).pushDescr 0 { bytes := some f, addr := 0, len := f.length, yellow := false }

/-- A fabric frame to the host on local port `p` (Table 2.4): handed to context 0, it leaves by that port. DESIGN CHOICE (log
entry 126): its SEQ is 0, since a host is no node and has no counter (R63). -/
def State.sendHost (s : State) (p type status len tid src init addr : Nat) (payload : List Byte) : State :=
  let mac := Tbl.get (fun _ => 0) s.fab.hostMac p
  let f := s.fabFrameTo mac (fabHeader type status len tid src init addr 0 ++ payload)
  (s.bump fabBase FAB_TX_FRAMES).pushDescr 0
    { bytes := some f, addr := 0, len := f.length, yellow := false, port := some (p + 2) }

/-- Whether a frame of this payload fits local port `p`. -/
def State.fitsHost (s : State) (p payload : Nat) : Bool :=
  decide (fabFrameLen payload ≤ s.get (macBase (p + 2)) LMAC_MAXFRM_BYTES)

/-- A RESP to the host on local port `p` (R44, R50); one that would not fit the port becomes TOO_LONG (Table 2.7). -/
def State.sendHostResp (s : State) (p status len tid init addr : Nat) (payload : List Byte) : State :=
  if s.fitsHost p payload.length then s.sendHost p 3 status len tid s.nodeId init addr payload
  else s.sendHost p 3 stTooLong 0 tid s.nodeId init addr []

/-- A reply MESSAGE to the host on local port `p` (R44): from the hub that formed it, with its ADDR. -/
def State.sendHostMsg (s : State) (p src addr : Nat) (bs : List Byte) : State :=
  s.sendHost p 4 0 bs.length 0 src (4 + p) addr bs

/-! ### Ladles -/

/-- Ladle `l`. -/
def State.ladle (s : State) (l : Nat) : Ladle := Tbl.get (fun _ => {}) s.bridge.ladles l
/-- Ladle `l` replaced. -/
def State.setLadle (s : State) (l : Nat) (x : Ladle) : State :=
  { s with bridge := { s.bridge with ladles := Tbl.put (fun _ => {}) s.bridge.ladles l x } }

/-- CODE of a fabric status (Table 10.3). -/
def codeOf (st : Nat) : Nat := if st = stBroadcast then 8 else if st = stTimeout then 9 else if st = stNoNode then 10 else st

/-- A fetch ends: the Ladle is READY with data and CODE, and its discard timer starts (R278, R280). -/
def State.ladleReady (s : State) (l st : Nat) (data : List Byte) : State :=
  let x := s.ladle l
  if x.st = .fetching then s.setLadle l { x with st := .ready, code := codeOf st, data := data, readyAt := s.uptime } else s

/-- A request of an initiator ends with a status and data (R44, R59, R60). DESIGN CHOICE (log entry 127): a host on a local
port is sent nothing for the codes from 0x80 up, which never appear on the wire (Table 2.7), though the section's example
says that the host receives TIMEOUT. -/
def State.clientDone (s : State) (c : FabClient) (init addr st : Nat) (data : List Byte) : State :=
  match c with
  | .ladle l => s.ladleReady l st data
  | .lmac p tid => if st < 0x80 then s.sendHostResp p st data.length tid init addr data else s
  | .rom => s

/-! ### Transaction slots -/

/-- The lowest slot neither in use nor in quarantine (R58, R59). -/
def State.freeSlot (s : State) : Option Nat :=
  (List.range 256).find? fun i => !(s.slot i).inUse && (s.slot i).quarUntil.isNone

/-- Slots that hold an outstanding request, and slots in quarantine (FAB_SLOTS). -/
def State.slotsUsed (s : State) : Nat := (s.fab.slots.filter fun p => p.2.inUse).length
/-- Slots in quarantine. -/
def State.slotsQuar (s : State) : Nat := (s.fab.slots.filter fun p => p.2.quarUntil.isSome).length

/-- A waiting READ or CAS gets a slot and leaves the hub (R58, R59). -/
def State.slotGrant (s : State) : State :=
  match s.fab.waiting, s.freeSlot with
  | q :: rest, some i =>
    let x := s.slot i
    let node := nodeOf q.addr
    let t := { s with fab := { s.fab with waiting := rest } }
    let t := t.setSlot i { x with inUse := true, node := node, addr := q.addr, len := q.len, init := q.init
                                  client := q.client, sentAt := none }
    t.sendFab node (if q.cas = [] then 2 else 5) 0 (if q.cas = [] then q.len else q.cas.length) (i + 256 * x.gen) q.init
      q.addr q.cas
  | _, _ => s

/-- A READ or CAS of a local initiator for another node (R45, R53, R58, R67): refused here, or sent once a slot is
free. DESIGN CHOICE (log entry 129): node 255 is looked at before the missing node ID; FAB_MAXPAY bounds the operand of a CAS
here, at the sender, and nowhere else. -/
def State.requestRemote (s : State) (q : FabReq) : State :=
  let node := nodeOf q.addr
  if node = 255 then s.clientDone q.client q.init q.addr stBroadcast []
  else if !s.hasNode then s.clientDone q.client q.init q.addr stNoNode []
  else if !s.fabOn then s.clientDone q.client q.init q.addr stTimeout []
  else if s.maxPay < q.len ∨ !s.fitsRing q.cas.length then s.clientDone q.client q.init q.addr stTooLong []
  else
    let t := { s with fab := { s.fab with waiting := s.fab.waiting ++ [q] } }
    if s.fab.waiting.isEmpty then t.slotGrant else t

/-- Whether a RESP with this TID, source node and address answers slot `i` (R60). -/
def State.answersSlot (s : State) (i tid src addr : Nat) : Bool :=
  let x := s.slot i
  x.inUse && tid % 256 == i && x.gen == tid / 256 && x.node == src && x.addr == addr

/-- Whether the RESP of slot `i` arrives at this moment (R61): what still waits in the queue is of one moment, since time
passes only while nothing waits. -/
def State.respComes (s : State) (i : Nat) : Bool :=
  s.pending.any fun c =>
    match c with
    | .fabricRespRx f => s.answersSlot i (leAt f.bytes 4 2) (leAt f.bytes 6 1) (leAt f.bytes 8 6)
    | _ => false

/-- The uptime at which the read timeout of a slot runs out, which starts when its request leaves the hub (R59). DESIGN
CHOICE (log entry 130): TICKS of 10,001 to 16,383 count as written. -/
def State.slotDeadline (s : State) (x : FabSlot) : Option Nat :=
  x.sentAt.map (· + 10000 * s.get fabBase FAB_TIMEOUT_TICKS)

/-- The read timeout of a slot runs out (R59): TIMEOUT, generation, quarantine of 4 ms; a RESP of the same moment wins
(R61). -/
def State.readTimeout (s : State) (i : Nat) : State :=
  let x := s.slot i
  if !x.inUse ∨ (s.slotDeadline x).all (fun t => decide (s.uptime < t)) ∨ s.respComes i then s
  else
    let t := s.setSlot i { x with inUse := false, gen := (x.gen + 1) % 16, quarUntil := some (s.uptime + 4000000) }
    (t.bump fabBase FAB_TIMEOUTS).clientDone x.client x.init x.addr stTimeout []

/-- A slot's quarantine ends (R59). -/
def State.quarantineEnd (s : State) (i : Nat) : State :=
  let x := s.slot i
  match x.quarUntil with
  | some t => if t ≤ s.uptime then s.setSlot i { x with quarUntil := none } else s
  | none => s

/-- A WRITE or MESSAGE of this hub to another node or to all (R45, R53, R67): the status its initiator gets, and the
state. -/
def State.postRemote (s : State) (type init addr : Nat) (payload : List Byte) : Nat × State :=
  if !s.hasNode then (stNoNode, s)
  else if !s.fabOn then (stNotPermitted, s)
  else if (type = 1 ∧ s.maxPay < payload.length) ∨ !s.fitsRing payload.length then (stTooLong, s)
  else (stOk, s.sendFab (nodeOf addr) type 0 payload.length 0 init addr payload)

/-- An address as a fault record gives it (Table 18.1): with this hub's node ID where it names node 0. -/
def State.faultAddr (s : State) (a : Nat) : Nat := if nodeOf a = 0 then fabAddr s.nodeId 0 0 + a else a

/-- A refused WRITE (R54): discarded, counted, recorded. -/
def State.writeRefused (s : State) (src init addr st : Nat) : State :=
  (s.bump fabBase FAB_WR_REFUSED).raise .fabWriteRefused srcHub (s.faultAddr addr) (leBytes 1 src ++ leBytes 1 init ++ leBytes 1 st)

end Sys2Proof.Machine
end

