-- ==== Sys2Proof/Machine/CmdTable.lean ====
section
/-! DEFINITION. The opcode index (Table 4.10) with the unit kinds and execution bounds the chapters give. -/

namespace Sys2Proof.Machine

/-- How an opcode's execution bound is given. -/
inductive Bound where
  /-- Nanoseconds. -/
  | ns (n : Nat)
  /-- 20 µs + 1 µs for each entry of so many bytes (Table 4.11). -/
  | list (entry : Nat)
  /-- 50 µs + 2 µs per Ingot cleared (Table 4.11). -/
  | ingots
  /-- 50 µs without WAIT; 1 s (CAN_TX) or 15 s (PCH_ON) with it. -/
  | waits
  deriving DecidableEq, Repr

/-- An opcode: code, name, the unit kinds it takes (Table 4.4), its bound. -/
structure OpInfo where
  code  : Nat
  name  : String
  kinds : List Nat
  bound : Bound
  deriving DecidableEq, Repr

/-- Opcodes, first half of Table 4.10. -/
def opcodes0 : List OpInfo := [
  ⟨0x0000, "SYS_NOP", [0], .ns 20000⟩,
  ⟨0x0001, "SYS_IDENTIFY", [0], .ns 50000⟩,
  ⟨0x0002, "SYS_ABORT", [0], .ns 50000⟩,
  ⟨0x0003, "CMD_LOG_READ", [0], .ns 200000⟩,
  ⟨0x0004, "SYS_UNFENCE", [2, 3, 5, 8, 9], .ns 100000000⟩,
  ⟨0x0005, "SYS_WARM_RESET", [0], .ns 50000⟩,
  ⟨0x0006, "SYS_POWER_STATE", [0], .ns 10000000⟩,
  ⟨0x8000, "SYS_REG_WRITE_LIST", [0], .list 8⟩,
  ⟨0x8001, "SYS_REG_READ_LIST", [0], .list 4⟩,
  ⟨0x0100, "STORE_PART_READ", [0], .ns 20000⟩,
  ⟨0x0101, "STORE_PART_DEFAULT", [0], .ingots⟩,
  ⟨0x8100, "STORE_PARTITION", [0], .ingots⟩,
  ⟨0x0200, "RING_STATUS", [0], .ns 200000⟩,
  ⟨0x0201, "RING_ENUMERATE", [0], .ns 100000000⟩,
  ⟨0x0202, "RING_PORT_CONFIG", [9], .ns 1000000⟩,
  ⟨0x0203, "RING_LOOP_TEST", [9], .ns 10000000000⟩,
  ⟨0x8200, "RING_PORT_SET", [9, 0], .ns 1000000⟩,
  ⟨0x0300, "STREAM_OPEN", [11], .ns 100000⟩,
  ⟨0x0301, "STREAM_CLOSE", [11], .ns 100000⟩,
  ⟨0x0302, "GCL_LOAD", [9, 10], .ns 200000⟩,
  ⟨0x0303, "LMAC_CONFIG", [9, 10], .ns 1000000⟩,
  ⟨0x0304, "STATS_READ", [9, 10, 11], .ns 100000⟩,
  ⟨0x8300, "STREAM_SET", [11], .ns 50000⟩,
  ⟨0x8301, "METER_SET", [11], .ns 50000⟩,
  ⟨0x0400, "TIME_STATUS", [0], .ns 100000⟩,
  ⟨0x0401, "TIME_ROLE", [0], .ns 1000000⟩,
  ⟨0x0402, "TIME_SCHEDULE", [0], .ns 100000⟩,
  ⟨0x0403, "TIME_CANCEL", [0], .ns 50000⟩,
  ⟨0x8400, "TIME_SET", [0], .ns 50000⟩,
  ⟨0x0500, "SUBSCRIBE", [0], .ns 100000⟩,
  ⟨0x0501, "UNSUBSCRIBE", [0], .ns 100000⟩,
  ⟨0x0502, "LEDGER_CONFIG", [0], .ns 100000⟩,
  ⟨0x0503, "PIMG_MAP", [16], .ns 50000⟩,
  ⟨0x8500, "LEDGER_SET", [0], .ns 50000⟩,
  ⟨0x0600, "BRIDGE_STATUS", [0], .ns 200000⟩,
  ⟨0x0601, "BRIDGE_WINDOW", [0], .ns 50000⟩,
  ⟨0x0602, "SALVAGE_READ", [0], .ns 50000⟩,
  ⟨0x8600, "BRIDGE_SET", [0], .ns 50000⟩,
  ⟨0x0700, "CAN_OPEN", [1], .ns 200000⟩,
  ⟨0x0701, "CAN_CLOSE", [1], .ns 50000000⟩,
  ⟨0x0702, "CAN_TX", [1], .waits⟩,
  ⟨0x0703, "CAN_CANCEL", [1], .ns 50000⟩,
  ⟨0x0704, "CAN_FILTER_LOAD", [1], .ns 200000⟩,
  ⟨0x0705, "CAN_TIME_MASTER", [1], .ns 100000⟩,
  ⟨0x0706, "CAN_STATUS", [1], .ns 100000⟩,
  ⟨0x0707, "CAN_PAIR", [1], .ns 100000⟩,
  ⟨0x8700, "CAN_SET_TIMING", [1], .ns 50000⟩]

/-- Opcodes, second half of Table 4.10. -/
def opcodes1 : List OpInfo := [
  ⟨0x8701, "CAN_SET_STORE", [1], .ns 100000⟩,
  ⟨0x0800, "FLASK_LOAD", [3], .ns 500000⟩,
  ⟨0x0801, "FLASK_START", [3], .ns 50000⟩,
  ⟨0x0802, "FLASK_STOP", [3], .ns 200000⟩,
  ⟨0x0803, "FLASK_STATUS", [3], .ns 100000⟩,
  ⟨0x8800, "FLASK_ENGINE_SET", [3], .ns 50000⟩,
  ⟨0x0900, "DIO_CONFIG", [4], .ns 50000⟩,
  ⟨0x0901, "DIO_OUTPUT", [4], .ns 20000⟩,
  ⟨0x0902, "DIO_SCHEDULE", [4], .ns 50000⟩,
  ⟨0x0903, "DIO_PWM", [4], .ns 50000⟩,
  ⟨0x0904, "DIO_STATUS", [5], .ns 100000⟩,
  ⟨0x8900, "DIO_SET", [4], .ns 50000⟩,
  ⟨0x0A00, "PCH_ON", [6], .waits⟩,
  ⟨0x0A01, "PCH_OFF", [6], .ns 50000⟩,
  ⟨0x0A02, "PCH_CONFIG", [6], .ns 200000⟩,
  ⟨0x0A03, "PCH_STATUS", [6], .ns 100000⟩,
  ⟨0x0A04, "PCH_RETRY_RESET", [6], .ns 100000⟩,
  ⟨0x0A05, "FEED_CONFIG", [7], .ns 200000⟩,
  ⟨0x0A06, "FEED_STATUS", [0], .ns 100000⟩,
  ⟨0x8A00, "PCH_SET", [6], .ns 50000⟩,
  ⟨0x0B00, "USB_STATUS", [0], .ns 100000⟩,
  ⟨0x0B01, "USB_PORT_POWER", [12], .ns 100000⟩,
  ⟨0x0B02, "USB_TEST_MODE", [12], .ns 100000⟩,
  ⟨0x8B00, "USB_SET", [0], .ns 50000⟩,
  ⟨0x0C00, "PD_STATUS", [13], .ns 100000⟩,
  ⟨0x0C01, "PD_REQUEST", [13], .ns 1000000000⟩,
  ⟨0x0C02, "PD_SWAP", [13], .ns 2000000000⟩,
  ⟨0x0C03, "PD_POLICY_LOAD", [0], .ns 500000000⟩,
  ⟨0x8C00, "PD_SET", [13], .ns 50000⟩,
  ⟨0x0D00, "SAFE_STATUS", [0], .ns 100000⟩,
  ⟨0x0D01, "SAFE_ARM", [15], .ns 1000000⟩,
  ⟨0x0D02, "SAFE_DISARM", [15], .ns 1000000⟩,
  ⟨0x0D03, "SAFE_EMERGENCY", [15], .ns 5000000⟩,
  ⟨0x0D04, "LANE_REJOIN", [14], .ns 5000000⟩,
  ⟨0x0D05, "ASSAY_RUN", [14], .ns 5000000⟩,
  ⟨0x8D00, "SAFE_SET", [15], .ns 100000⟩,
  ⟨0x0E00, "FAULT_READ", [0], .ns 500000⟩,
  ⟨0x0E01, "FAULT_ACK", [0], .ns 1000000⟩,
  ⟨0x0E02, "FAULT_INJECT", [0], .ns 1000000⟩,
  ⟨0x8E00, "FAULT_SET", [0], .ns 50000⟩,
  ⟨0x0F00, "UPD_STAGE", [0], .ns 20000000⟩,
  ⟨0x0F01, "UPD_VERIFY", [0], .ns 1000000000⟩,
  ⟨0x0F02, "UPD_ACTIVATE_AT", [0], .ns 20000000000⟩,
  ⟨0x0F03, "UPD_STATUS", [0], .ns 100000⟩,
  ⟨0x0F04, "BUNDLE_STAGE", [0], .ns 20000000⟩,
  ⟨0x0F05, "CALIB_READ", [0], .ns 100000⟩,
  ⟨0x8F00, "CALIB_WRITE", [0], .ns 100000000⟩,
  ⟨0x8F01, "OWNER_LOCK", [0], .ns 500000000⟩]

/-- An opcode's row, if it is defined (R121). -/
def opInfo (code : Nat) : Option OpInfo := (opcodes0 ++ opcodes1).find? fun o => o.code == code

end Sys2Proof.Machine
end

