-- ==== Sys2Proof/Machine/CmdOps.lean ====
section
/-! DEFINITION. Command packets: acceptance, tags, replies, forwarding, broadcast, execution order, the command log
(R90 to R120). -/

namespace Sys2Proof.Machine

open Sys2Proof (Transport CmdKey)

/-- Base of the command registers (Table 4.12). -/
def cmdBase : Nat := 0

/-! ### Packets -/

/-- OPCODE of a packet (Table 4.2). -/
def pktOp (p : List Byte) : Nat := leAt p 0 2
/-- TAG of a packet. -/
def pktTag (p : List Byte) : Nat := leAt p 2 2
/-- PLEN of a packet. -/
def pktPlen (p : List Byte) : Nat := leAt p 4 2
/-- FLAGS of a packet. -/
def pktFlags (p : List Byte) : Nat := leAt p 6 1
/-- XPORT of a packet. -/
def pktXport (p : List Byte) : Nat := leAt p 7 1
/-- Unit selector of a packet. -/
def pktUnit (p : List Byte) : Nat := leAt p 8 4
/-- CRC of a packet. -/
def pktCrc (p : List Byte) : Nat := leAt p 12 4
/-- Parameters of a packet. -/
def pktParams (p : List Byte) : List Byte := (p.drop 16).take (pktPlen p)
/-- Whether a packet is ORDERED; boot commands always run so (R112). -/
def CmdEntry.ordered (e : CmdEntry) : Bool := bitAt (pktFlags e.packet) 0 || e.key.transport == .boot
/-- Whether a packet asks for a DRY_RUN. -/
def CmdEntry.dry (e : CmdEntry) : Bool := bitAt (pktFlags e.packet) 1

/-! ### Units -/

/-- KIND of a selector (R96). -/
def unitKind (u : Nat) : Nat := u / 2 ^ 24
/-- SUB of a selector. -/
def unitSub (u : Nat) : Nat := u / 2 ^ 16 % 256
/-- INDEX of a selector. -/
def unitIndex (u : Nat) : Nat := u % 2 ^ 16

/-- How many units of a kind the part holds (Table 4.4, Table 0.2): INDEX lies below it. -/
def State.unitCount (s : State) (kind : Nat) : Nat :=
  match kind with
  | 0 => 1 | 1 => s.nCan | 2 => s.nCan / 16 | 3 => s.nFlask | 4 => s.nDio
  | 5 => (s.nDio + 63) / 64 | 6 => s.nPch | 7 => 3 | 8 => s.nPch / 32 | 9 => 2
  | 10 => 4 | 11 => 1024 | 12 => 10 | 13 => 3 | 14 => 3 | 15 => 3 | 16 => 16384 | 17 => 44
  | _ => 0

/-- Whether a selector is in range and its unit present (step 10 of Table 4.6). -/
def State.unitOk (s : State) (u : Nat) : Bool :=
  let k := unitKind u
  decide (unitIndex u < s.unitCount k)
    && (if k = 3 then decide (unitSub u ≤ 7 ∨ unitSub u = 255) else unitSub u == 0)
    && (k != 12 || unitIndex u != 0) && (k != 17 || s.queuePresent (unitIndex u))

/-- The fence unit a selector lies in (Table 1.5). -/
def unitFence (u : Nat) : Option FenceUnit :=
  let i := unitIndex u
  match unitKind u with
  | 1 => some (.canIsl (i / 16)) | 2 => some (.canIsl i) | 3 => some (.flask i) | 4 => some (.dioBank (i / 64))
  | 5 => some (.dioBank i) | 6 => some (.pedie (i / 32)) | 7 => some (.pedie 0) | 8 => some (.pedie i)
  | 9 => some (.ringPort i) | 14 => some (.lane i) | _ => none

/-- Whether a selector contains another (R111). -/
def unitContains (a b : Nat) : Bool :=
  let ka := unitKind a
  let kb := unitKind b
  let i := unitIndex a
  let j := unitIndex b
  (ka == 2 && kb == 1 && j / 16 == i) || (ka == 3 && kb == 3 && unitSub a == 255 && i == j)
    || (ka == 5 && kb == 4 && j / 64 == i) || (ka == 8 && kb == 6 && j / 32 == i) || (ka == 8 && kb == 7 && i == 0)

/-- Whether two units overlap (R111). -/
def unitsOverlap (a b : Nat) : Bool :=
  a == b || unitContains a b || unitContains b a || (unitKind a == 14 && unitKind b == 14)

/-! ### The table of commands -/

/-- The command with a key, if it is outstanding. -/
def State.entry (s : State) (k : CmdKey) : Option CmdEntry := s.cmd.entries.find? fun e => e.key == k

/-- The outstanding commands replaced. -/
def State.setEntries (s : State) (es : List CmdEntry) : State := { s with cmd := { s.cmd with entries := es } }

/-- The command with a key replaced. -/
def State.setEntry (s : State) (k : CmdKey) (f : CmdEntry → CmdEntry) : State :=
  s.setEntries (s.cmd.entries.map fun e => if e.key == k then f e else e)

/-- The command with a key leaves the table: its tag is free. -/
def State.dropEntry (s : State) (k : CmdKey) : State := s.setEntries (s.cmd.entries.filter fun e => e.key != k)

/-- Whether a command counts as outstanding on a transport (R104): a tag held after a timeout does not. -/
def CmdEntry.counts (e : CmdEntry) (t : Transport) : Bool :=
  e.key.transport == t && !e.ownBcast && (match e.phase with | .held _ true => false | _ => true)

/-- Outstanding commands of a transport. -/
def State.outstanding (s : State) (t : Transport) : Nat := (s.cmd.entries.filter fun e => e.counts t).length

/-- Remote commands that hold a reply entry (R107). -/
def State.remotes (s : State) : Nat :=
  (s.cmd.entries.filter fun e => match e.phase with | .remote .. => true | _ => false).length

/-- Replies waiting on xSPI that answer no outstanding command (R92). -/
def State.looseReplies (s : State) : Nat := (s.cmd.xspi.filter fun r => !r.answers).length

/-- RPL_FULL (R92). -/
def State.rplFull (s : State) : Bool := decide (16 ≤ s.looseReplies)

/-- READY (R93). -/
def State.cmdReady (s : State) : Bool := s.flag cmdBase CMD_REQ_STAT_READY

/-! ### The log and replies -/

/-- Code of a transport in the log (Table 4.9). -/
def xportCode : Transport → Nat
  | .xspi => 0 | .usb => 1 | .fabric => 2 | .boot => 3

/-- One record of the command log (Table 4.9, R118); once the circle of 16,384 is full each record overwrites one. -/
def State.logCmd (s : State) (start dur : Nat) (k : CmdKey) (op tag status unit flags crc : Nat) : State :=
  let i := s.get cmdBase CMD_LOG_HEAD_INDEX
  let fab := k.transport == .fabric
  let r := stampBytes start ++ leBytes 2 op ++ leBytes 2 tag ++ leBytes 2 status ++ leBytes 4 unit
    ++ leBytes 4 (dur / 1000) ++ leBytes 1 (xportCode k.transport) ++ leBytes 1 (if fab then k.node else 0)
    ++ leBytes 1 (if fab then k.init else 0) ++ leBytes 1 flags ++ leBytes 4 crc
  let t := (s.store (s.partBase 8 + 32 * (i % 16384)) r).set cmdBase CMD_LOG_HEAD_INDEX (i + 1)
  if s.cmd.logFull then t.bump cmdBase CMD_LOG_OVWR
  else { t with cmd := { t.cmd with logFull := decide (16383 ≤ i) } }

/-- LFLAGS bit 2: ring time not valid or the Crucible's replica suspect (R99). -/
def State.logSuspect (s : State) : Nat := 4 * b2n (!s.timeValid || s.suspectAt 3)

/-- LFLAGS from FLAGS: ORDERED and DRY_RUN. -/
def logFlagsOf (flags : Nat) : Nat := 8 * (flags % 2) + 16 * (flags / 2 % 2)

/-- The record with number `i` has its REPLY_DISCARDED set (R105). -/
def State.logDiscard (s : State) (i : Nat) : State :=
  let a := s.partBase 8 + 32 * (i % 16384) + 27
  s.store a (leBytes 1 (setBit (s.byteAt a).toNat 0 true))

/-- The bytes of a reply (Table 4.5). -/
def State.replyBytes (s : State) (op tag status : Nat) (result : List Byte) : List Byte :=
  let h := leBytes 2 op ++ leBytes 2 tag ++ leBytes 2 result.length ++ leBytes 2 status
    ++ leBytes 4 (shortStamp (s.nowAt 3))
  h ++ leBytes 4 (crc32c (h ++ leBytes 4 0 ++ result)) ++ result

/-- Node of this hub for the fabric transport's own entries of a broadcast (R109): a tag space of their own. DESIGN CHOICE
(log entry 128): the rules do not say how this hub's run of its own broadcast stands in its log (Table 4.9); its record
has XPORT 2, this node as SRC_NODE and the initiator code of the sender as INIT. -/
def bcastNode : Nat := 255

/-- A MESSAGE with these bytes to a node's mailbox. -/
def State.sendMessage (s : State) (node init : Nat) (bs : List Byte) : Nat × State :=
  s.postRemote 4 init (fabAddr node 4 0) bs

/-- A reply MESSAGE on the fabric transport (Table 4.1): to the peer hub, or to the host on a local port of this hub. -/
def State.sendReply (s : State) (k : CmdKey) (bs : List Byte) : State :=
  if k.node = s.nodeId ∧ 4 ≤ k.init then s.sendHostMsg (k.init - 4) s.nodeId (fabAddr k.node 4 0) bs
  else (s.sendMessage k.node k.init bs).2

/-- What is kept of a MESSAGE sent for a local initiator, for 64 s: no reply comes later (R110). -/
def State.noteSent (s : State) (node init : Nat) (p : List Byte) : State :=
  let old := s.cmd.sentMsgs.filter fun m => decide (s.uptime < m.at_ + 64 * nsPerSec)
  { s with cmd := { s.cmd with sentMsgs := { node := node, init := init, op := pktOp p, tag := pktTag p, at_ := s.uptime } :: old } }

/-- The MESSAGE of the last 64 s that bytes from a node answer: sent to it, or to every node, with their opcode and tag. -/
def State.sentFor (s : State) (node init : Nat) (bs : List Byte) : Option SentMsg :=
  s.cmd.sentMsgs.find? fun m =>
    m.init == init && (m.node == node || m.node == 255) && m.op == leAt bs 0 2 && m.tag == leAt bs 2 2
      && decide (s.uptime < m.at_ + 64 * nsPerSec)

/-- A reply is put on its transport; `answers` when it answers an outstanding command, `src` the node that formed it. -/
def State.putReply (s : State) (k : CmdKey) (answers : Bool) (src : Nat) (bs : List Byte) : State :=
  let r : Reply := { key := k, answers := answers, src := src, bytes := bs }
  match k.transport with
  | .xspi => { s with cmd := { s.cmd with xspi := s.cmd.xspi ++ [r] } }
  | .usb => { s with cmd := { s.cmd with usb := s.cmd.usb ++ [r] } }
  | .fabric => s.sendReply k bs
  | .boot => s

/-- The aggregation record of a broadcast takes a node's status (R109). -/
def State.bcastAdd (s : State) (k : CmdKey) (node status : Nat) : State :=
  s.setEntry k fun e =>
    match e.phase with
    | .broadcast c b rs => if rs.any (·.1 == node) then e else { e with phase := .broadcast c b (rs ++ [(node, status)]) }
    | _ => e

/-- The key of the broadcast a local execution belongs to (R109). -/
def bcastKeyOf (k : CmdKey) : CmdKey :=
  { transport := if k.init = 0 then .xspi else .usb, node := 0, init := 0, tag := k.tag }

/-- What becomes of a command's entry once its reply is formed: its tag stays busy until the reply is delivered, which
on the fabric and boot transports is at once (Table 4.1). -/
def State.afterReply (s : State) (k : CmdKey) : State :=
  match k.transport with
  | .xspi | .usb =>
    s.setEntry k fun e => { e with phase := .replied, logAt := s.get cmdBase CMD_LOG_HEAD_INDEX - 1 }
  | .fabric | .boot => s.dropEntry k

/-- READY sets (R504, step 8): RSTOUT_N is released, BOOT_MS shows the time since the boot began, and a warm reset is over. -/
def State.readySet (s : State) : State :=
  let t := ((s.set cmdBase CMD_REQ_STAT_READY 1).set 0 SYS_BOOT_STAT_STEP 8).set 0 SYS_BOOT_STAT_BOOT_MS
    (min 65535 ((s.uptime - s.sys.bootAt) / 1000000))
  { t with sys := { t.sys with warm := false } }

/-- Boot script: a status other than DONE without SCRIPT_CONTINUE stops it (R113). -/
def State.scriptStop (s : State) (op status : Nat) : State :=
  let t := { s with cmd := { s.cmd with script := [], scriptRun := false } }
  (t.readySet.set 0 SYS_BOOT_STAT_SCRIPT 2).raise .bootScriptStop srcHub 0
    (leBytes 2 op ++ leBytes 2 status ++ leBytes 4 s.cmd.scriptAt)

/-- What the boot script makes of a reply (R113). -/
def State.scriptReply (s : State) (p : List Byte) (status : Nat) : State :=
  if status ≠ 0 ∧ !bitAt (pktFlags p) 2 then s.scriptStop (pktOp p) status else s

/-- The reply of an outstanding command: formed, logged, put on its transport (R97, R98, R118). `extra` are further
LFLAGS. -/
def State.replyWith (s : State) (k : CmdKey) (status extra : Nat) (result : List Byte) : State :=
  match s.entry k with
  | none => s
  | some e =>
    let p := e.packet
    let bs := s.replyBytes (pktOp p) (pktTag p) status result
    let t := s.logCmd e.stamp (s.uptime - e.since) k (pktOp p) (pktTag p) status (pktUnit p)
      (extra + b2n e.mute + s.logSuspect + logFlagsOf (pktFlags p)) (pktCrc p)
    if e.ownBcast then (t.bcastAdd (bcastKeyOf k) s.nodeId status).dropEntry k
    else if e.mute then (t.bump cmdBase CMD_RPL_DISCARD).dropEntry k
    else
      let t := (t.putReply k true 0 bs).afterReply k
      if k.transport = .boot then t.scriptReply p status else t

/-- The reply of a command executed here. -/
def State.reply (s : State) (k : CmdKey) (status : Nat) (result : List Byte) : State := s.replyWith k status 0 result

/-- A refusal at steps 1 to 5 (R100, R101): counted, logged, answered with the packet's tag or with tag 0; the reply
answers no outstanding command. -/
def State.refuse (s : State) (k : CmdKey) (p : List Byte) (status : Nat) (echo : Bool) : State :=
  let op := if echo then pktOp p else 0
  let tag := if echo then pktTag p else 0
  let t := s.bump cmdBase CMD_REFUSED
  let t := t.logCmd (s.nowAt 3) 0 k op tag status (pktUnit p)
    (s.logSuspect + (if echo then logFlagsOf (pktFlags p) else 0)) (pktCrc p)
  let t := t.putReply k false 0 (s.replyBytes op tag status (if echo then [] else p.take 16))
  if k.transport = .boot then t.scriptReply p status else t

/-- Where a local initiator's packet goes by its XPORT (R107): none here, or the node, 255 for every node. -/
def State.remoteOf (s : State) (k : CmdKey) (p : List Byte) : Option Nat :=
  let x := pktXport p
  match k.transport with
  | .xspi | .usb => if x = 0 ∨ (s.hasNode ∧ x = s.nodeId) then none else some x
  | _ => none

/-- Whether a tag is busy in its space (R103). -/
def State.tagBusy (s : State) (k : CmdKey) : Bool := (s.entry k).isSome

/-- A command enters the table. -/
def State.addEntry (s : State) (k : CmdKey) (p : List Byte) (phase : CmdPhase) (own : Bool) : State :=
  let e : CmdEntry := { key := k, order := s.cmd.nextOrder, packet := p, stamp := s.nowAt 3, since := s.uptime
                        phase := phase, ownBcast := own }
  { s with cmd := { s.cmd with entries := s.cmd.entries ++ [e], nextOrder := s.cmd.nextOrder + 1 } }

/-- A refusal at steps 6 to 10 (R100, R102, R103): counted; its packet passed step 4, so that its tag is busy and it is
outstanding until this reply is delivered. -/
def State.refuseAt (s : State) (k : CmdKey) (p : List Byte) (status : Nat) (own : Bool) : State :=
  ((s.bump cmdBase CMD_REFUSED).addEntry k p .accepted own).reply k status []

/-- Whether the fence of a command's unit keeps it from running (R35): all but SYS_UNFENCE and LANE_REJOIN. -/
def State.fencedFor (s : State) (p : List Byte) : Bool :=
  match unitFence (pktUnit p) with
  | some u => s.fenced u && pktOp p != 4 && pktOp p != 0x0D04
  | none => false

/-- Steps 8 to 10 of Table 4.6: the status of the first that fails. SYS_ABORT with ORDERED is refused (R112); SYS_UNFENCE
takes a Flask whole (Table 4.11). -/
def State.checkOp (s : State) (fabric : Bool) (p : List Byte) : Option Nat :=
  match opInfo (pktOp p) with
  | none => some 0x20
  | some o =>
    if fabric ∧ !s.flag cmdBase CMD_CTRL_FAB_EN then some 0x24
    else if !o.kinds.contains (unitKind (pktUnit p)) ∨ !s.unitOk (pktUnit p) then some 0x22
    else if o.code = 2 ∧ bitAt (pktFlags p) 0 then some 0x22
    else if o.code = 4 ∧ unitKind (pktUnit p) = 3 ∧ unitSub (pktUnit p) ≠ 255 then some 0x22
    else if s.fencedFor p then some 0x30 else none

/-- Steps 8 to 10 for a packet that runs here: refused, or accepted and waiting to start. -/
def State.acceptLocal (s : State) (k : CmdKey) (p : List Byte) (own : Bool) : State :=
  match s.checkOp (k.transport == .fabric && !own) p with
  | some st => s.refuseAt k p st own
  | none => (s.bump cmdBase CMD_ACCEPTED).addEntry k p .accepted own

/-! ### Execution order -/

/-- Whether a command is executing. -/
def CmdEntry.running (e : CmdEntry) : Bool := match e.phase with | .executing .. => true | _ => false
/-- Whether a command is accepted or executing. -/
def CmdEntry.open_ (e : CmdEntry) : Bool := match e.phase with | .accepted => true | .executing .. => true | _ => false
/-- Whether a command has not completed (R112): here, at another node, or at every node. -/
def CmdEntry.undone (e : CmdEntry) : Bool :=
  match e.phase with | .accepted => true | .executing .. => true | .remote .. => true | .broadcast .. => true | _ => false

/-- Whether two commands share a tag space (R103). -/
def sameSpace (a b : CmdKey) : Bool := a.transport == b.transport && a.node == b.node && a.init == b.init

/-- Whether a command was taken before another (R111); one not yet taken comes after all that were. -/
def CmdEntry.before (o e : CmdEntry) : Bool :=
  match o.taken, e.taken with
  | some a, some b => decide (a < b)
  | some _, none => true
  | none, _ => false

/-- Whether no barrier of its tag space holds a command back (R112): no ORDERED command before it is left to complete, and,
ORDERED itself, nothing before it is. -/
def State.inOrder (s : State) (e : CmdEntry) : Bool :=
  s.cmd.entries.all fun o =>
    o.key == e.key || !(sameSpace o.key e.key && decide (o.order < e.order) && o.undone && (o.ordered || e.ordered))

/-- Whether no command taken before it overlaps the unit of a command that runs here (R111); SYS_ABORT overlaps nothing. -/
def State.unitClear (s : State) (e : CmdEntry) : Bool :=
  pktOp e.packet == 2 ||
  s.cmd.entries.all fun o =>
    o.key == e.key || !(o.open_ && o.before e && (s.remoteOf o.key o.packet).isNone && pktOp o.packet != 2
      && unitsOverlap (pktUnit o.packet) (pktUnit e.packet))

/-- Whether an accepted command may start (R111, R112). -/
def State.mayStart (s : State) (e : CmdEntry) : Bool :=
  s.inOrder e && ((s.remoteOf e.key e.packet).isSome || s.unitClear e)

/-- The oldest command of a transport that the ROM has still to take (R111). -/
def State.nextTaken (s : State) (tr : Transport) : Option CmdKey :=
  ((s.cmd.entries.find? fun e =>
    e.key.transport == tr && e.phase == .accepted && e.taken.isNone && (s.remoteOf e.key e.packet).isNone)).map (·.key)

/-- The ROM takes the oldest waiting command of a transport. -/
def State.takeOne (s : State) (tr : Transport) : State :=
  match s.nextTaken tr with
  | none => s
  | some k =>
    let t := s.setEntry k fun e => { e with taken := some s.cmd.nextTake }
    { t with cmd := { t.cmd with nextTake := s.cmd.nextTake + 1 } }

/-- One scan of the ROM (R111): at most one packet from each of xSPI, USB and fabric, in that order; the boot script's runs
alone. -/
def State.scan (s : State) : State := (((s.takeOne .boot).takeOne .xspi).takeOne .usb).takeOne .fabric

/-- Scans until a command is taken. -/
def State.scanTo : Nat → CmdKey → State → State
  | 0, _, s => s
  | n + 1, k, s =>
    match s.entry k with
    | some e => if e.taken.isSome ∨ e.phase ≠ .accepted then s else State.scanTo n k s.scan
    | none => s

/-! ### Commands for other hubs -/

/-- The initiator code of a local transport (Table 2.2). -/
def initOf (t : Transport) : Nat := if t = .xspi then 0 else 1

/-- A command that waits is sent to its node unchanged in one MESSAGE, or to every hub (R107, R109); the broadcast runs here
too with BCAST_SELF = 1. DESIGN CHOICE (log entry 124): a packet the ports cannot carry, or a fabric engine that is off,
ends it NOT_PERMITTED: the rules name no reply code there. -/
def State.remoteSend (s : State) (k : CmdKey) : State :=
  match s.entry k with
  | none => s
  | some e =>
    let x := pktXport e.packet
    let r := s.sendMessage x (initOf k.transport) e.packet
    if r.1 ≠ stOk then (s.bump cmdBase CMD_REFUSED).reply k 0x24 []
    else
      let t := r.2.noteSent x (initOf k.transport) e.packet
      if x ≠ 255 then t.setEntry k fun e => { e with phase := .remote x s.uptime }
      else
        let self := s.flag fabBase FAB_CTRL_BCAST_SELF
        let u := t.setEntry k fun e =>
          { e with phase := .broadcast (s.uptime + 1000000 * s.get cmdBase CMD_BCAST_WIN_MS) self [] }
        if self then
          u.acceptLocal { transport := .fabric, node := bcastNode, init := initOf k.transport, tag := k.tag } e.packet true
        else u

/-- A remote or broadcast command (R107, R109): sent at once, or held back by an ORDERED one of its tag space (R112). -/
def State.acceptRemote (s : State) (k : CmdKey) (p : List Byte) : State :=
  if !s.hasNode then s.refuseAt k p 0x101 false
  else if pktXport p ≠ 255 ∧ 64 ≤ s.remotes then s.refuseAt k p 0x32 false
  else
    let t := s.addEntry k p .accepted false
    match t.entry k with
    | some e => if t.inOrder e then t.remoteSend k else t
    | none => t

/-- Step 7 of Table 4.6: where the packet runs. -/
def State.routePacket (s : State) (k : CmdKey) (p : List Byte) : State :=
  if k.transport = .boot ∧ pktXport p ≠ 0 then s.refuseAt k p 0x22 false
  else if (s.remoteOf k p).isSome then s.acceptRemote k p
  else s.acceptLocal k p false

/-- A packet arrives at the store island (Table 4.6): steps 1 to 10. -/
def State.accept (s : State) (tr : Transport) (node init : Nat) (p : List Byte) : State :=
  let k : CmdKey := { transport := tr, node := node, init := init, tag := pktTag p }
  let k0 : CmdKey := { k with tag := 0 }
  if p.length < 16 ∨ 4096 < p.length ∨ 4080 < pktPlen p ∨ p.length ≠ 16 + pktPlen p then s.refuse k0 p 0x21 false
  else if crc32c (zeroAt p 12 4) ≠ pktCrc p then (s.bump cmdBase CMD_BAD_CRC).refuse k0 p 0x25 false
  else if pktTag p = 0 then s.refuse k0 p 0x22 false
  else if s.tagBusy k then s.refuse k p 0x23 true
  else if 64 ≤ s.outstanding tr ∨ (tr ≠ .boot ∧ !s.cmdReady) then s.refuse k p 0x32 true
  else if 8 ≤ pktFlags p then s.refuseAt k p 0x22 false
  else s.routePacket k p

/-! ### The xSPI mailbox -/

/-- BUSY (R91): the hub is taking a packet from the window. -/
def State.cmdBusy (s : State) : Bool := decide (s.uptime < s.cmd.busyUntil)

/-- BUSY sets, and clears after a time the rules leave open up to 2 µs (R91). -/
def State.setBusy (s : State) : State :=
  let t := s.takeFree
  { t.2 with cmd := { t.2.cmd with busyUntil := s.uptime + 1 + (Config.busyTime t.1).toNat % 2000 } }

/-- CMD_DOORBELL is written (R91, R92): BUSY sets and the hub takes the packet, which no write of the window can change
while BUSY lasts; with BUSY or RPL_FULL the doorbell is lost. A length outside 16 to 4,096 fails step 1 (R102). -/
def State.doorbell (s : State) (len : Nat) : State :=
  if s.cmdBusy ∨ s.rplFull then (s.bump cmdBase CMD_DOORBELL_LOST).raise .cmdDoorbellLost srcHub 0 (leBytes 2 len)
  else s.setBusy.accept .xspi 0 0 ((List.range (min len 8191)).map fun i => Tbl.get (fun _ => 0#8) s.cmd.window i)

/-- A word is written to the request window (R91): dropped and counted while BUSY. -/
def State.windowWrite (s : State) (off w : Nat) : State :=
  if s.cmdBusy then s.bump cmdBase CMD_WIN_WDROP
  else { s with cmd := { s.cmd with window := memWrite s.cmd.window off (leBytes 4 w) } }

/-- CMD_RPL_POP is written (R92): the front reply is delivered and its tag freed. -/
def State.rplPop (s : State) : State :=
  match s.cmd.xspi with
  | [] => s
  | r :: rest =>
    let t := ({ s with cmd := { s.cmd with xspi := rest } }).emit (.xspiReply r.bytes)
    if !r.answers then t
    else
      match t.entry r.key with
      | some e =>
        match e.phase with
        | .held u _ => t.setEntry r.key fun e => { e with phase := .held u true }
        | _ => t.dropEntry r.key
      | none => t

/-- A USB reply is delivered (R90): its tag is freed. -/
def State.usbDelivered (s : State) (r : Reply) : State :=
  if !r.answers then s
  else
    match s.entry r.key with
    | some e =>
      match e.phase with
      | .held u _ => s.setEntry r.key fun e => { e with phase := .held u true }
      | _ => s.dropEntry r.key
    | none => s

/-- Whether the reply of a command is formed and not yet delivered. -/
def CmdEntry.formed (e : CmdEntry) : Bool := match e.phase with | .replied => true | .held _ d => !d | _ => false

/-- A USB bus reset (R105, R429): replies not yet delivered are discarded, their log records say so and their tags are
free; the replies of the commands still to complete will be discarded too. -/
def State.usbTransportReset (s : State) : State :=
  let gone (e : CmdEntry) : Bool := e.key.transport == .usb && e.formed
  let t := (s.cmd.entries.filter gone).foldl (fun (s : State) e => s.logDiscard e.logAt) s
  let t := t.bumpBy cmdBase CMD_RPL_DISCARD s.cmd.usb.length
  let es := (t.cmd.entries.filter fun e => !gone e).map fun e =>
    if e.key.transport == .usb ∧ e.undone then { e with mute := true } else e
  { t with cmd := { t.cmd with entries := es, usb := [] } }

/-! ### Remote and broadcast commands -/

/-- The tag spaces of this hub's own remote commands: the transport of an initiator code. -/
def initTransport (init : Nat) : Transport := if init = 0 then .xspi else .usb

/-- Whether an arriving MESSAGE answers an own remote or broadcast command: opcode and tag match, and the node (R108). -/
def State.answersOwn (s : State) (node init : Nat) (bs : List Byte) : Option CmdEntry :=
  if 1 < init then none
  else
    let k : CmdKey := { transport := initTransport init, node := 0, init := 0, tag := leAt bs 2 2 }
    match s.entry k with
    | none => none
    | some e =>
      if pktOp e.packet ≠ leAt bs 0 2 then none
      else
        match e.phase with
        | .remote n _ => if n = node then some e else none
        | .held .. => if pktXport e.packet = node then some e else none
        | .broadcast .. => some e
        | .replied => if pktXport e.packet = 255 then some e else none
        | _ => none

/-- A remote or own broadcast command's reply arrives (R108, R109). -/
def State.ownReply (s : State) (e : CmdEntry) (node : Nat) (bs : List Byte) : State :=
  match e.phase with
  | .remote .. =>
    let t := s.logCmd e.stamp (s.uptime - e.since) e.key (leAt bs 0 2) (leAt bs 2 2) (leAt bs 6 2) (pktUnit e.packet)
      (32 + b2n e.mute + s.logSuspect + logFlagsOf (pktFlags e.packet)) (pktCrc e.packet)
    if e.mute then (t.bump cmdBase CMD_RPL_DISCARD).dropEntry e.key
    else (t.putReply e.key true node bs).afterReply e.key
  | .held u d =>
    let t := s.bump cmdBase CMD_LATE_REPLY
    if d then t.dropEntry e.key else if u = 0 then t else t.setEntry e.key fun e => { e with phase := .replied }
  | .broadcast .. => s.bcastAdd e.key node (leAt bs 6 2)
  | _ => s.bump cmdBase CMD_BCAST_LATE

/-- The local reply that ends a remote command (R108): logged with REMOTE. -/
def State.endRemote (s : State) (k : CmdKey) (status : Nat) : State := s.replyWith k status 32 []

/-- The MESSAGE of a remote command came back unconsumed (R108). -/
def State.remoteLost (s : State) (node init : Nat) (bs : List Byte) : State :=
  let k : CmdKey := { transport := initTransport init, node := 0, init := 0, tag := pktTag bs }
  match s.entry k with
  | some e => if e.phase = .remote node (match e.phase with | .remote _ t => t | _ => 0) ∧ init < 2 then s.endRemote k 0x102 else s
  | none => s

/-- Whether the reply of a command arrives at this moment: what still waits in the queue is of one moment, since time
passes only while nothing waits. -/
def State.replyComes (s : State) (e : CmdEntry) : Bool :=
  s.pending.any fun c =>
    match c with
    | .fabricMessageRx f => s.answersOwn (leAt f.bytes 6 1) (leAt f.bytes 7 1) (f.bytes.drop 16) == some e
    | _ => false

/-- CMD_REMOTE_TMO runs out (R108): TIMEOUT, and the tag stays busy for 64 s; a reply of the same moment goes first. -/
def State.remoteTimeout (s : State) (k : CmdKey) : State :=
  match s.entry k with
  | some e =>
    match e.phase with
    | .remote _ sent =>
      if s.uptime < sent + 10000000 * s.get cmdBase CMD_REMOTE_TMO_TICKS ∨ s.replyComes e then s
      else (s.endRemote k 0x70).setEntry k fun e => { e with phase := .held (s.uptime + 64 * nsPerSec) false }
    | _ => s
  | none => s

/-- The 64 s of a timed-out tag are over (R108); the tag is free once its reply was delivered. -/
def State.tagHoldEnd (s : State) (k : CmdKey) : State :=
  match s.entry k with
  | some e =>
    match e.phase with
    | .held u d =>
      if s.uptime < u then s else if d then s.dropEntry k else s.setEntry k fun e => { e with phase := .replied }
    | _ => s
  | none => s

/-- The nodes a broadcast expects replies of: those of the ring map, this hub among them when it runs it too. -/
def State.bcastNodes (s : State) (self : Bool) : List Nat := s.mapNodes.filter fun n => n != s.nodeId || self

/-- Replies in node order. -/
def byNode (l : List (Nat × Nat)) : List (Nat × Nat) :=
  (List.range 256).filterMap fun n => l.find? fun p => p.1 == n

/-- Result and status of a closing reply (Table 4.8, R109). -/
def State.bcastClose (s : State) (self : Bool) (rs : List (Nat × Nat)) : Nat × List Byte :=
  let bad := (byNode rs).filter fun p => p.2 != 0
  let map := (rs.map fun p => 2 ^ p.1).sum
  let silent := (s.bcastNodes self).any fun n => !(rs.any fun p => p.1 == n)
  (if silent then 0x70 else match bad with | [] => 0 | p :: _ => p.2,
   leBytes 2 rs.length ++ leBytes 2 bad.length ++ leBytes 32 map
    ++ bad.flatMap fun p => leBytes 1 p.1 ++ [0#8] ++ leBytes 2 p.2)

/-- The broadcast window closes (R109). -/
def State.bcastEnd (s : State) (k : CmdKey) : State :=
  match s.entry k with
  | some e =>
    match e.phase with
    | .broadcast c self rs =>
      if s.uptime < c then s
      else
        let r := s.bcastClose self rs
        s.replyWith k r.1 32 r.2
    | _ => s
  | none => s

/-- A command MESSAGE is taken from the queue (R57, R104): the 65th is discarded. -/
def State.commandIn (s : State) (node init : Nat) (bs : List Byte) : State :=
  if 64 ≤ s.outstanding .fabric then
    (s.bump fabBase FAB_MSG_DROP).raise .fabMsgDrop srcHub 0 (leBytes 1 node)
  else s.accept .fabric node init bs

/-- What a MESSAGE from the ring carries: a command, the reply to an own command, a reply that comes late (to a broadcast
or not), or the reply to a host on a local port. -/
inductive MsgKind where
  | command
  | answer (e : CmdEntry)
  | late (bcast : Bool)
  | host (p : Nat)
  deriving DecidableEq, Repr

/-- How a reply is told from a command. DEDUCED (log entry 125): the rules give both one frame form. A reply has its STATUS
where a command has FLAGS and XPORT, and no status has a group above 0x0F (Table 4.10), while a peer sends a command of its
xSPI or USB host on unchanged, with XPORT naming this hub or all (R107). A reply carries opcode and tag of a MESSAGE that
went out to that node under that initiator code within 64 s (R108, R110). -/
def State.messageKind (s : State) (node init : Nat) (bs : List Byte) : MsgKind :=
  let x := leAt bs 7 1
  if init < 2 then
    if 16 ≤ x then .command
    else
      match s.answersOwn node init bs with
      | some e => .answer e
      | none =>
        if x ≠ 0 ∧ x = s.nodeId then .command
        else
          match s.sentFor node init bs with
          | some m => .late (m.node == 255)
          | none => if x = 0 then .command else .late false
  else if 4 ≤ init ∧ init < 8 ∧ (s.sentFor node init bs).isSome then .host (init - 4)
  else .command

/-- A MESSAGE from the ring takes effect (R57, R107 to R109). -/
def State.messageIn (s : State) (node init addr : Nat) (bs : List Byte) : State :=
  match s.messageKind node init bs with
  | .command => s.commandIn node init bs
  | .answer e => s.ownReply e node bs
  | .late b => s.bump cmdBase (if b then CMD_BCAST_LATE else CMD_LATE_REPLY)
  | .host p => s.sendHostMsg p node addr bs

/-! ### Execution -/

/-- A command starts here (R111): it executes from now on; on a unit fenced meanwhile it ends UNIT_FENCED (R35). -/
def State.startHere (s : State) (k : CmdKey) (e : CmdEntry) : State :=
  let t := s.setEntry k fun e => { e with phase := .executing s.uptime none }
  if s.fencedFor e.packet then t.reply k 0x30 [] else t

/-- An accepted command starts (R111): here, once the ROM's scans have taken it, or by being sent. -/
def State.start (s : State) (k : CmdKey) : State :=
  let t := State.scanTo (s.cmd.entries.length + 1) k s
  match t.entry k with
  | some e =>
    if e.phase ≠ .accepted ∨ !t.mayStart e then t
    else if (t.remoteOf k e.packet).isSome then t.remoteSend k
    else t.startHere k e
  | none => t

/-- What a command's execution comes to: a reply with status and result, or a wait for something another row brings. -/
inductive CmdRes where
  | done (status : Nat) (result : List Byte) (s : State)
  | wait (w : WaitKind) (s : State)
  deriving DecidableEq, Repr

/-- A command that does nothing but refuse. -/
def CmdRes.no (s : State) (status : Nat) : CmdRes := .done status [] s

/-- A command with key `k` and opcode `op` is executed: a parameter length other than those the opcode takes is
BAD_LENGTH; a DRY_RUN leaves the state as it was and answers with the status alone (Table 4.3). In HELD nothing is
executed (R494). -/
def State.command (s : State) (k : CmdKey) (op : Nat) (len : Nat → Bool) (f : State → CmdEntry → CmdRes) : State :=
  match s.entry k with
  | none => s
  | some e =>
    if pktOp e.packet ≠ op ∨ s.inHeld then s
    else
      match e.phase with
      | .executing at_ none =>
        if !len (pktPlen e.packet) then s.reply k 0x21 []
        else
          match f s e with
          | .done st res t => if e.dry then s.reply k st [] else t.reply k st res
          | .wait w t =>
            if e.dry then s.reply k 0 [] else t.setEntry k fun e => { e with phase := .executing at_ (some w) }
      | _ => s

/-- An executing command that waits, by opcode and unit condition. -/
def State.waiter (s : State) (op a b : Nat) : Option CmdKey :=
  (s.cmd.entries.find? fun e =>
    pktOp e.packet == op && (match e.phase with | .executing _ (some (.unit x y)) => x == a && y == b | _ => false)).map (·.key)

/-- The command that waits for a condition, if any, is answered. -/
def State.wake (s : State) (op a b status : Nat) (result : List Byte) : State :=
  match s.waiter op a b with
  | some k => s.reply k status result
  | none => s

/-- First Ingot and Ingots of a partition by default (Table 2.8). -/
def partDefault (p : Nat) : Nat × Nat :=
  let w := regReset (0x100 + 4 * p)
  (bitsOf w 0 10, bitsOf w 10 11)

/-- Ingots a partition gains when it is set to a new range (R124): those it did not hold, which are cleared. -/
def State.ingotsAdded (s : State) (p first count : Nat) : Nat :=
  let a := s.partFirst p
  count - (min (a + s.partCount p) (first + count) - max a first)

/-- Ingots a store-partition command clears (Table 4.11). -/
def State.ingotsCleared (s : State) (e : CmdEntry) : Nat :=
  let p := pktParams e.packet
  if pktOp e.packet = 0x8100 then s.ingotsAdded (leAt p 0 1) (leAt p 2 2) (leAt p 4 2)
  else ((List.range 16).map fun k => s.ingotsAdded k (partDefault k).1 (partDefault k).2).sum

/-- The execution bound of an entry in ns (R120). -/
def State.bound (s : State) (e : CmdEntry) : Nat :=
  match opInfo (pktOp e.packet) with
  | none => 0
  | some o =>
    match o.bound with
    | .ns n => n
    | .list b => 20000 + 1000 * (pktPlen e.packet / b)
    | .ingots => 50000 + 2000 * s.ingotsCleared e
    | .waits =>
      if o.code = 0x0A00 then if bitAt (leAt (pktParams e.packet) 0 1) 0 then 15 * nsPerSec else 50000
      else if bitAt (leAt (pktParams e.packet) 1 1) 5 then nsPerSec else 50000

/-- A command reaches its execution bound (R120): TIMEOUT and a CMD_OVERRUN record. -/
def State.overrun (s : State) (k : CmdKey) : State :=
  match s.entry k with
  | some e =>
    match e.phase with
    | .executing at_ _ =>
      if s.uptime < at_ + s.bound e then s
      else
        (s.reply k 0x70 []).raise .cmdOverrun srcHub 0
          (leBytes 2 (pktOp e.packet) ++ leBytes 2 (pktTag e.packet) ++ leBytes 1 (xportCode k.transport))
    | _ => s
  | none => s

end Sys2Proof.Machine
end

