-- ==== Sys2Proof/Machine/PowerOps.lean ====
section
/-! DEFINITION. Feeds and string power channels (chapter 14): channel states, protection, the feed selector, the links to
the power-edge dies. -/

namespace Sys2Proof.Machine

/-- Registers of channel `c` (R373). -/
def pchBase (c : Nat) : Nat := 0x400000 + 0x100 * c
/-- The FEED block (R402). -/
def feedReg : Nat := 0x440000
/-- Registers of feed `f` (Table 14.11). -/
def feedBase (f : Nat) : Nat := 0x440100 + 0x20 * f
/-- Registers of safety function set `i` (R481). -/
def sfBase (i : Nat) : Nat := 0x780100 + 0x80 * i

/-- Link time (R374): ring time at 50 ns. -/
def State.linkTime (s : State) : Nat := s.ring / 50 * 50

/-- Channel `c` beside its registers. -/
def State.pch (s : State) (c : Nat) : PchUnit := Tbl.get (fun _ => {}) s.power.chans c
/-- Channel `c` replaced. -/
def State.setPch (s : State) (c : Nat) (x : PchUnit) : State :=
  { s with power := { s.power with chans := Tbl.put (fun _ => {}) s.power.chans c x } }
/-- Feed `f` beside its registers. -/
def State.feed (s : State) (f : Nat) : FeedUnit := Tbl.get (fun _ => {}) s.power.feeds f
/-- Feed `f` replaced. -/
def State.setFeed (s : State) (f : Nat) (x : FeedUnit) : State :=
  { s with power := { s.power with feeds := Tbl.put (fun _ => {}) s.power.feeds f x } }
/-- The feed selector replaced. -/
def State.setSel (s : State) (x : FeedSel) : State := { s with power := { s.power with sel := x } }
/-- Power-edge die `d` and its link. -/
def State.die (s : State) (d : Nat) : DieUnit := Tbl.get (fun _ => {}) s.power.dies d
/-- Power-edge die `d` replaced. -/
def State.setDie (s : State) (d : Nat) (x : DieUnit) : State :=
  { s with power := { s.power with dies := Tbl.put (fun _ => {}) s.power.dies d x } }

/-- The channels of die `d` that the part holds. -/
def State.dieChannels (s : State) (d : Nat) : List Nat := ((List.range 32).map (· + 32 * d)).filter fun c => decide (c < s.nPch)

/-! ### Safety functions and the commanded state -/

/-- Whether function `i` (0 SF-E, 1 SF-A, 2 SF-P) is armed. -/
def State.sfArmed (s : State) (i : Nat) : Bool := s.flag (sfBase i) SF_CTRL_ARMED
/-- Whether function `i` is triggered. -/
def State.sfTriggered (s : State) (i : Nat) : Bool := s.flag (sfBase i) SF_CTRL_TRIGGERED
/-- Whether function `i` names channel `c`. -/
def State.sfNamesPch (s : State) (i c : Nat) : Bool :=
  if c < 32 then bitAt (s.get (sfBase i) SF_CHAN_LO) c else bitAt (s.get (sfBase i) SF_CHAN_HI) (c - 32)
/-- Whether channel `c` is safety-owned: an armed function names it (R384). -/
def State.pchSafety (s : State) (c : Nat) : Bool := (List.range 3).any fun i => s.sfArmed i && s.sfNamesPch i c
/-- Whether an SF-P hold is in force on channel `c` (R470). -/
def State.pchHold (s : State) (c : Nat) : Bool := s.cruc.holds.any fun h => h.1 == c
/-- Whether an emergency state is in force on channel `c` (R384). -/
def State.pchEmerg (s : State) (c : Nat) : Bool :=
  (s.die (c / 32)).latch || (List.range 2).any fun i => s.sfTriggered i && s.sfNamesPch i c
/-- The commanded state of channel `c` (R384, R472): an SF-P hold goes before an emergency state, that before EN. -/
def State.pchCommanded (s : State) (c : Nat) : Bool :=
  if s.pchHold c then false
  else if s.pchEmerg c then s.flag (pchBase c) PCH_CTRL_SAFE_ON
  else s.flag (pchBase c) PCH_CTRL_EN

/-- State of channel `c` (Table 14.3). -/
def State.pchState (s : State) (c : Nat) : Nat := s.get (pchBase c) PCH_STAT_STATE
/-- Whether the gate of channel `c` is on. -/
def State.pchGate (s : State) (c : Nat) : Bool := s.pchState c == 4 || s.pchState c == 5
/-- Whether channel `c` is stopped (R401). -/
def State.pchStopped (s : State) (c : Nat) : Bool :=
  !s.flag (pchBase c) PCH_CTRL_EN && (s.pchState c == 0 || s.pchState c == 7) && !s.pchEmerg c && !s.pchHold c
/-- Whether channel `c` is in its on state, and since when (R306, R383). -/
def State.pchOnSince (s : State) (c : Nat) : Option Nat := if s.pchState c = 5 then some (s.pch c).since else none

/-! ### Records and the process image -/

/-- E in mJ (R391). -/
def PchUnit.mj (x : PchUnit) : Nat := x.stress / 100000000

/-- The process-image value of channel `c` (Table 14.7). -/
def State.pchValue (s : State) (c : Nat) : List Byte :=
  let x := s.pch c
  let b := pchBase c
  leBytes 1 (s.pchState c) ++ leBytes 1 (s.get b PCH_STAT_CAUSE)
    ++ leBytes 1 (s.get b PCH_STAT_PRESENT + 2 * b2n (s.pchEmerg c || s.pchHold c) + 4 * b2n (s.die (c / 32)).latch
        + 8 * s.get b PCH_STAT_FET_SHORT)
    ++ leBytes 1 (s.get b PCH_STAT_RETRY_CNT) ++ leBytes 4 (ofSigned 32 x.lastI) ++ leBytes 4 x.lastV
    ++ leBytes 2 (min x.mj 65535) ++ leBytes 2 0

/-- Every slot mapped to channel `c` is written (R397). -/
def State.pchImage (s : State) (c : Nat) : State :=
  let t := (s.slotsWhere fun m => m.wkind == 5 && m.windex == c).foldl
    (fun (s : State) n => s.slotWrite n (s.pchValue c) 16 s.linkTime false false) s
  t.setPch c { t.pch c with imageAt := t.uptime }

/-- A PCH_EVENT record of channel `c` with a stamp, its cause shown, and the image slots written (R397). -/
def State.pchRecordAt (s : State) (c cause stamp : Nat) : State :=
  let x := s.pch c
  let t := s.set (pchBase c) PCH_STAT_CAUSE cause
  let t := t.formRec (0x60 + c / 32) 6 (0x4000 + c) stamp false false
    (leBytes 1 (t.pchState c) ++ leBytes 1 cause ++ leBytes 2 0 ++ leBytes 4 (ofSigned 32 x.lastI) ++ leBytes 4 x.lastV)
  t.pchImage c

/-- The same, stamped now. -/
def State.pchRecord (s : State) (c cause : Nat) : State := s.pchRecordAt c cause s.linkTime

/-- Result bytes of PCH_ON and PCH_OFF (Table 14.8). -/
def State.pchResult (s : State) (c : Nat) : List Byte :=
  leBytes 1 (s.pchState c) ++ leBytes 1 (s.get (pchBase c) PCH_STAT_CAUSE)
    ++ leBytes 1 (s.get (pchBase c) PCH_STAT_RETRY_CNT) ++ [0#8]

/-- Whole seconds in ON up to now are counted (PCH_ON_SECONDS). -/
def State.pchCount (s : State) (c : Nat) : State :=
  if s.pchState c = 5 then
    let x := s.pch c
    let d := s.uptime - x.onMark + x.onFrac
    (s.setPch c { x with onMark := s.uptime, onFrac := d % nsPerSec }).bumpBy (pchBase c) PCH_ON_SECONDS (d / nsPerSec)
  else s

/-- A command that waits for channel `c` to come ON is answered at ON, RETRY_WAIT and LATCHED (Table 14.8). -/
def State.pchWake (s : State) (c : Nat) : State :=
  let st := s.pchState c
  if st = 5 then s.wake 0x0A00 c 0 0 (s.pchResult c)
  else if st = 6 ∨ st = 7 then s.wake 0x0A00 c 0 0x0A02 (s.pchResult c)
  else s

/-- What the unit keeps of a change to state `st`. -/
def PchUnit.enter (x : PchUnit) (now : Nat) (st : Nat) (gateWasOn : Bool) : PchUnit :=
  { x with since := now, rising := none
           offAt := if gateWasOn && st != 4 && st != 5 then now else x.offAt
           onMark := if st = 5 then now else x.onMark }

/-- Channel `c` enters state `st` with a cause (R383, R397). -/
def State.pchEnter (s : State) (c st cause : Nat) : State :=
  if s.pchState c = st then s
  else
    let t := s.pchCount c
    let t := t.setPch c ((t.pch c).enter t.uptime st (s.pchGate c))
    let t := (t.set (pchBase c) PCH_STAT_STATE st).evt (pchBase c) PCH_EVT 0
    let t := if st = 7 then t.evt (pchBase c) PCH_EVT 2 else t
    let t := if st = 4 then t.bump (pchBase c) PCH_STARTS else t
    (t.pchRecord c cause).pchWake c

/-- Whether the load of channel `c` has been detected, and since when (R385). -/
def State.pchLoad (s : State) (c : Nat) : Option Nat :=
  if s.flag (pchBase c) PCH_CTRL_PRES_EN then
    if s.flag (pchBase c) PCH_STAT_PRESENT then (s.pch c).load else none
  else some (s.pch c).enAt

/-- Whether a feed is selected and the selector is not switching (R386). -/
def State.feedThere (s : State) : Bool :=
  s.get feedReg FEED_STAT_SELECTED != 3 && !s.flag feedReg FEED_STAT_SWITCHING
    && bitAt (s.get feedReg FEED_STAT_QUALIFIED) (s.get feedReg FEED_STAT_SELECTED)

/-- The state a channel that is commanded on takes among WAIT_LOAD, INSERT, WAIT_FEED and RAMP (R383, R386). -/
def State.pchWants (s : State) (c : Nat) : Nat :=
  match s.pchLoad c with
  | none => 1
  | some t =>
    if s.uptime < t + 1000000 * s.get (pchBase c) PCH_INSERT_MS then 2
    else if !s.feedThere then 3
    else 4

/-- A turn-off in the same instant as a trip leaves RETRY_CNT as it was before (R395). -/
def State.pchUntrip (s : State) (c : Nat) : State :=
  match (s.pch c).trip with
  | some (t, n) => if t = s.uptime then s.set (pchBase c) PCH_STAT_RETRY_CNT n else s
  | none => s

/-- Channel `c` goes to OFF (R383, R395); what it was conducting in is kept for a trip of this same instant. -/
def State.pchOff (s : State) (c cause : Nat) : State :=
  let x := s.pch c
  let was := if s.pchGate c then some { at_ := s.uptime, state := s.pchState c, since := x.since, rising := x.rising } else x.wasOn
  let t := s.pchUntrip c
  (t.setPch c { t.pch c with wasOn := was }).pchEnter c 0 cause

/-- A channel follows its commanded state (R383, R395): `cause` is what brought the change about. A LATCHED channel stays
LATCHED, but for a trip of this same instant. -/
def State.pchFollow (s : State) (c cause : Nat) : State :=
  let st := s.pchState c
  let tripNow := match (s.pch c).trip with | some (t, _) => t == s.uptime | none => false
  if !s.pchCommanded c then
    if st = 0 ∨ (st = 7 ∧ !tripNow) then s else s.pchOff c cause
  else if 4 ≤ st then s
  else
    let w := s.pchWants c
    s.pchEnter c w (if w = 4 then 3 else cause)

/-- Every channel follows its commanded state. -/
def State.pchFollowAll (s : State) (cause : Nat) : State := s.each (List.range s.nPch) fun s c => s.pchFollow c cause

/-- Live flags of PCH_STAT (R384): EMERG, LATCH and SAFETY. -/
def State.pchStatWord (s : State) (c : Nat) : Word :=
  let w := s.rd (pchBase c + 4)
  let w := putBits w 17 1 (b2n (s.pchEmerg c))
  let w := putBits w 18 1 (b2n (s.die (c / 32)).latch)
  putBits w 19 1 (b2n (s.pchSafety c))

/-- A 10 µs sample is the channel's last (R396). -/
def State.pchSample (s : State) (c : Nat) (ma mv : BitVec 32) : State :=
  s.setPch c { s.pch c with lastI := ma.toInt, lastV := mv.toNat }

/-! ### Trips -/

/-- The fault detail of a trip (Table 18.3): current, output, state before, RETRY_CNT after. -/
def State.tripDetail (s : State) (c before after : Nat) : List Byte :=
  leBytes 4 (ofSigned 32 (s.pch c).lastI) ++ leBytes 4 (s.pch c).lastV ++ leBytes 1 before ++ leBytes 1 after

/-- The retry count after a retry trip (R393). -/
def State.retryAfter (s : State) (c : Nat) : Nat :=
  let n := s.get (pchBase c) PCH_STAT_RETRY_CNT
  if n < s.get (pchBase c) PCH_RETRY_MAX then n + 1 else n

/-- The fault of a retry trip, where it has one (START_TIMEOUT has none). -/
def tripKind (cause : Nat) : Option FaultKind :=
  if cause = 5 then some .pchStartShort else if cause = 6 then some .pchShort else if cause = 7 then some .pchOvercurrent
  else none

/-- The counter of a retry trip. -/
def tripCounter (cause : Nat) : Fld :=
  if cause = 5 then PCH_START_SHORTS else if cause = 6 then PCH_FAST_TRIPS else if cause = 7 then PCH_OVERCURRENTS
  else PCH_START_TMO

/-- A retry trip's count, event and fault (R389, R390, R393). -/
def State.tripRecord (s : State) (c cause before after : Nat) : State :=
  let t := (s.evt (pchBase c) PCH_EVT 1).bump (pchBase c) (tripCounter cause)
  match tripKind cause with
  | some k => t.raise k (srcPch c) 0 (t.tripDetail c before after)
  | none => t

/-- PCH_RETRY_RESET's effect (R393): RETRY_CNT 0; RETRY_WAIT ends; a LATCHED channel goes to OFF, or to R383 when it is
commanded on. -/
def State.retryClean (s : State) (c : Nat) : State :=
  let t := s.set (pchBase c) PCH_STAT_RETRY_CNT 0
  if t.pchState c = 6 ∨ t.pchState c = 7 then
    if t.pchCommanded c then
      let w := t.pchWants c
      t.pchEnter c w (if w = 4 then 3 else 16)
    else t.pchEnter c 0 16
  else t

/-- PCH_RETRY_RESET (R393); its moment is kept for a trip of this same instant (R395). -/
def State.retryReset (s : State) (c : Nat) : State :=
  let t := s.retryClean c
  t.setPch c { t.pch c with resetAt := some t.uptime }

/-- A trip that meets a PCH_RETRY_RESET of this same instant is taken first, and the reset applies to its outcome (R395). -/
def State.tripReset (s : State) (c : Nat) : State :=
  if (s.pch c).resetAt = some s.uptime then s.retryClean c else s

/-- A retry trip (R393): RETRY_WAIT, or LATCHED when the retries are exhausted. -/
def State.pchTrip (s : State) (c cause : Nat) : State :=
  let b := pchBase c
  let n := s.get b PCH_STAT_RETRY_CNT
  let t := s.tripRecord c cause (s.pchState c) (s.retryAfter c)
  if n < s.get b PCH_RETRY_MAX then
    let t := t.set b PCH_STAT_RETRY_CNT (n + 1)
    let t := t.setPch c { t.pch c with retryEnd := t.uptime + 1000000 * t.get b PCH_RETRY_MS, trip := some (t.uptime, n) }
    (t.pchEnter c 6 cause).tripReset c
  else
    let t := t.setPch c { t.pch c with trip := some (t.uptime, n) }
    let t := t.bump b PCH_LATCHES
    let t := t.raise .pchRetryExhausted (srcPch c) 0 (leBytes 1 cause)
    (t.pchEnter c 7 11).tripReset c

/-- What channel `c` was conducting in when a command turned it off in this same instant (R395). -/
def State.justOff (s : State) (c : Nat) : Option WasOn :=
  match (s.pch c).wasOn with
  | some w => if s.pchState c = 0 ∧ w.at_ = s.uptime then some w else none
  | none => none

/-- A retry trip that meets a channel turned off in this same instant from a state `p` holds of: counted and recorded only
(R395). -/
def State.pchLateTrip (s : State) (c cause : Nat) (p : WasOn → Bool) : State :=
  match s.justOff c with
  | some w => if p w then s.tripRecord c cause w.state (s.get (pchBase c) PCH_STAT_RETRY_CNT) else s
  | none => s

/-- The fast-trip comparator acts (R389). -/
def State.fastTrip (s : State) (c : Nat) : State :=
  if s.pchState c = 4 then s.pchTrip c 5 else if s.pchState c = 5 then s.pchTrip c 6
  else (s.pchLateTrip c 5 (·.state == 4)).pchLateTrip c 6 (·.state == 5)

/-- Slow over-current in ON (R390). -/
def State.slowTrip (s : State) (c : Nat) : State :=
  if s.pchState c = 5 then s.pchTrip c 7 else s.pchLateTrip c 7 (·.state == 5)

/-- The current has stood above SLOW_MA for SLOW_MS (R390); a last sample that does not lie above it has ended the break-free
time. -/
def State.slowOver (s : State) (c : Nat) : State :=
  if s.pchState c = 5 ∧ (s.pch c).lastI ≤ s.get (pchBase c) PCH_LIMITS1_SLOW_MA then s else s.slowTrip c

/-- The ramp has not ended in its time (R387). -/
def State.rampTimeout (s : State) (c : Nat) : State :=
  let x := s.pch c
  if s.pchState c = 4 ∧ x.rising = none ∧ x.since + 1000000 * s.get (pchBase c) PCH_RAMP_MAX_MS ≤ s.uptime then
    s.pchTrip c 8
  else
    s.pchLateTrip c 8 fun w =>
      w.state == 4 && w.rising.isNone && decide (w.since + 1000000 * s.get (pchBase c) PCH_RAMP_MAX_MS ≤ s.uptime)

/-- The ramp ends within 1,000 mV of the selected feed, and the gate is driven fully (R387, R388). -/
def State.rampEnd (s : State) (c : Nat) : State :=
  let x := s.pch c
  if s.pchState c = 4 ∧ x.rising = none ∧ (s.feed (s.get feedReg FEED_STAT_SELECTED)).mv ≤ x.lastV + 1000 then
    s.setPch c { x with rising := some s.uptime }
  else s

/-- The gate reaches 7 V above source: ON (R388). -/
def State.gateOn (s : State) (c : Nat) : State :=
  if s.pchState c = 4 ∧ (s.pch c).rising.isSome then s.pchEnter c 5 4 else s

/-- A trip that latches channel `c` at once, without a retry (R388, R391); its moment is kept (R395). -/
def State.pchLatch (s : State) (c cause : Nat) : State :=
  let n := s.get (pchBase c) PCH_STAT_RETRY_CNT
  (s.setPch c { s.pch c with trip := some (s.uptime, n) }).pchEnter c 7 cause

/-- A gate that does not rise is counted and recorded (R388). -/
def State.gateOpen (s : State) (c vgs : Nat) : State :=
  (s.bump (pchBase c) PCH_FET_OPENS).raise .pchFetOpen (srcPch c) 0 (leBytes 4 vgs)

/-- Since when the gate of channel `c` has been rising, and whether the channel is in that state still: none while it is
not rising and was not when a command turned it off in this same instant. -/
def State.risingSince (s : State) (c : Nat) : Option (Nat × Bool) :=
  if s.pchState c = 4 then (s.pch c).rising.map fun t => (t, true)
  else (s.justOff c).bind fun w => w.rising.map fun t => (t, false)

/-- The gate does not reach its level within the gate-rise limit (R388). -/
def State.gateTimeout (s : State) (c vgs : Nat) : State :=
  match s.risingSince c with
  | some (t, still) =>
    if s.uptime < t + 1000 * s.get (pchBase c) PCH_GATE_RISE_US then s
    else if still then (s.gateOpen c vgs).pchLatch c 9 else s.gateOpen c vgs
  | none => s

/-- The stress limit's trip is counted and recorded (R391). -/
def State.stressRecord (s : State) (c : Nat) : State :=
  (s.bump (pchBase c) PCH_LATCHES).raise .pchFetStress (srcPch c) 0 (leBytes 4 (s.pch c).mj)

/-- The stress limit acts on a conducting channel (R391). -/
def State.stressTrip (s : State) (c : Nat) : State := (s.stressRecord c).pchLatch c 10

/-- E exceeds its limit (R391). -/
def State.stressLimit (s : State) (c : Nat) : State :=
  if (s.pch c).stress ≤ s.get (pchBase c) PCH_STRESS_LIMIT_MJ * 100000000 then s
  else if s.pchGate c then s.stressTrip c
  else if (s.justOff c).isSome then s.stressRecord c else s

/-- The stress estimate after one sample (R391): the sample's energy is added, then E decays. -/
def stressStep (e feedMv tau : Nat) (ma : Int) (mv : Nat) : Nat :=
  let x := ((e : Int) + ((feedMv : Int) - mv) * ma).toNat
  x - x / (100 * tau)

/-- A FET is found shorted (R392). -/
def State.fetShortFound (s : State) (c : Nat) : State :=
  let b := pchBase c
  let t := ((s.set b PCH_STAT_FET_SHORT 1).evt b PCH_EVT 3).bump b PCH_FET_SHORTS
  (t.pchRecord c 17).raise .pchFetShort (srcPch c) 0 (leBytes 4 (s.pch c).lastV)

/-- With the gate off, the output has stood above 12 V for 1 ms (R392). -/
def State.fetShort (s : State) (c : Nat) : State :=
  let b := pchBase c
  if !s.pchGate c ∧ !s.flag b PCH_STAT_FET_SHORT ∧ (s.pch c).offAt + 101000000 ≤ s.uptime ∧ 12000 < (s.pch c).lastV then
    s.fetShortFound c
  else s

/-- The output has stood below 12 V for 1 ms (R392). -/
def State.fetShortClear (s : State) (c : Nat) : State :=
  let b := pchBase c
  if s.flag b PCH_STAT_FET_SHORT ∧ (s.pch c).lastV < 12000 then (s.set b PCH_STAT_FET_SHORT 0).pchRecord c 18 else s

/-- The retry time ends (R393, R394): the channel follows R383. -/
def State.retryEnd (s : State) (c : Nat) : State :=
  if s.pchState c = 6 ∧ (s.pch c).retryEnd ≤ s.uptime then
    if s.pchCommanded c then
      let w := s.pchWants c
      s.pchEnter c w (if w = 4 then 3 else 15)
    else s.pchEnter c 0 15
  else s

/-- 60 s in ON without a break (R393). -/
def State.retryClear (s : State) (c : Nat) : State :=
  if s.pchState c = 5 ∧ (s.pch c).since + 60 * nsPerSec ≤ s.uptime then s.set (pchBase c) PCH_STAT_RETRY_CNT 0 else s

/-- The presence reading has held for 10 ms (R385). -/
def State.presence (s : State) (c : Nat) (there : Bool) : State :=
  let b := pchBase c
  if !s.flag b PCH_CTRL_PRES_EN ∨ s.pchGate c ∨ s.flag b PCH_STAT_FET_SHORT ∨ s.flag b PCH_STAT_PRESENT = there then s
  else
    let cause := if there then 13 else 12
    let t := s.setPch c { s.pch c with load := if there then some s.uptime else none }
    let t := (t.set b PCH_STAT_PRESENT (b2n there)).evt b PCH_EVT 4
    (t.pchRecord c cause).pchFollow c cause

/-- The insertion delay has passed (R386). -/
def State.insertEnd (s : State) (c : Nat) : State := if s.pchState c = 2 then s.pchFollow c 13 else s

/-- EN is written (R384): the commanded state, kept without effect while an emergency state or hold is in force. -/
def State.pchEn (s : State) (c : Nat) (on : Bool) : State :=
  let t := s.set (pchBase c) PCH_CTRL_EN (b2n on)
  let t := if on then t.setPch c { t.pch c with enAt := t.uptime } else t
  t.pchFollow c 0

/-- Means over the last 1 ms, and the stress estimate over its samples (R391, R396). -/
def State.measure (s : State) (c : Nat) (ms : List ChSample) : State :=
  match ms.getLast? with
  | none => s
  | some m =>
    let b := pchBase c
    let v := (s.feed (s.get feedReg FEED_STAT_SELECTED)).mv
    let e := ms.foldl (fun e x => stressStep e v (s.get b PCH_STRESS_TAU_MS) x.ma.toInt x.mv.toNat) (s.pch c).stress
    let n := ms.length
    let t := s.setPch c { s.pch c with stress := e, lastI := m.ma.toInt, lastV := m.mv.toNat }
    let t := t.set b PCH_MEAS_I_MA (ofSigned 32 ((ms.map fun x => x.ma.toInt).sum / (n : Int)))
    let t := t.set b PCH_MEAS_V_MV ((ms.map fun x => x.mv.toNat).sum / n)
    (t.set b PCH_MEAS_E_MJ (min (t.pch c).mj 65535)).pchCount c

/-- The feed means of the last 1 ms (R396). -/
def State.feedMeans (s : State) : State :=
  s.each [0, 1, 2] fun s f =>
    let x := s.feed f
    if x.count = 0 then s
    else (s.set (feedBase f) FEED_V_MV (x.sum / x.count)).setFeed f { x with sum := 0, count := 0 }

/-! ### Feeds -/

/-- Whether feed `f` is qualified. -/
def State.qualified (s : State) (f : Nat) : Bool := bitAt (s.get feedReg FEED_STAT_QUALIFIED) f
/-- The selected feed, 3 for none. -/
def State.selected (s : State) : Nat := s.get feedReg FEED_STAT_SELECTED
/-- Feeds in the order of FEED_PRIO. -/
def State.feedOrder (s : State) : List Nat :=
  [s.get feedReg FEED_PRIO_FIRST, s.get feedReg FEED_PRIO_SECOND, s.get feedReg FEED_PRIO_THIRD]
/-- The qualified feed that stands first (R378). -/
def State.bestFeed (s : State) : Option Nat := s.feedOrder.find? fun f => s.qualified f

/-- Every slot mapped to feed `f` is written (R382). -/
def State.feedImage (s : State) (f : Nat) : State :=
  let v := leBytes 1 (b2n (s.qualified f)) ++ leBytes 1 (b2n (s.selected == f)) ++ leBytes 1 s.power.sel.last ++ [0#8]
    ++ leBytes 4 (s.feed f).mv
  let t := (s.slotsWhere fun m => m.wkind == 6 && m.windex == f).foldl
    (fun (s : State) n => s.slotWrite n v 8 s.linkTime false false) s
  t.setFeed f { t.feed f with imageAt := t.uptime }

/-- A change of selection is complete (R378): counted, recorded, stamped at the start of the break. -/
def State.feedDone (s : State) (f cause stamp : Nat) : State :=
  let old := s.selected
  let t := (s.set feedReg FEED_STAT_SELECTED f).set feedReg FEED_STAT_SWITCHING 0
  let t := (t.set feedReg FEED_STAT_ON_BAT (b2n (f == 2))).bump feedReg FEED_CHANGES
  let t := (t.evt feedReg FEED_EVT 0).setSel { phase := .idle, next := 3, last := cause, why := t.power.sel.why, begun := true }
  let mv := if f = 3 then 0 else (t.feed f).mv
  let t := t.formRec 0x60 7 (0x5000 + f) stamp false false
    (leBytes 1 f ++ leBytes 1 cause ++ leBytes 2 0 ++ leBytes 4 mv ++ leBytes 4 0)
  let t := t.each ([0, 1, 2].filter fun g => g == f || g == old) fun s g => s.feedImage g
  t.pchFollowAll 13

/-- The selector begins a change (R378): channels in RAMP end their ramp (R395). -/
def State.feedBreak (s : State) (f cause : Nat) : State :=
  let t := (s.set feedReg FEED_STAT_SWITCHING 1).set feedReg FEED_STAT_UV_HOLD 0
  let t := t.setSel { t.power.sel with phase := .breaking t.uptime, next := f, cause := cause, stamp := t.linkTime }
  t.each ((List.range t.nPch).filter fun c => t.pchState c == 4) fun s c => s.pchEnter c 3 14

/-- The selector applies R378 and R379; `cause` is why it looks. -/
def State.feedSelect (s : State) (cause : Nat) : State :=
  if s.power.sel.phase ≠ .idle ∨ s.flag feedReg FEED_STAT_FROZEN then s
  else
    let cur := s.selected
    match s.bestFeed with
    | some b =>
      if cur = 3 then s.feedDone b (if s.power.sel.begun then 6 else 0) s.linkTime
      else if s.qualified cur then
        let t := s.set feedReg FEED_STAT_UV_HOLD 0
        if b = cur then t else t.feedBreak b (if s.flag feedReg FEED_STAT_UV_HOLD then 2 else cause)
      else s.feedBreak b (if s.flag feedReg FEED_STAT_UV_HOLD then 2 else s.power.sel.why)
    | none =>
      if cur = 3 then s
      else if (s.feed cur).above then s.feedBreak 3 3
      else s.set feedReg FEED_STAT_UV_HOLD 1

/-- Whether a feed's qualification band is empty (R402). -/
def State.bandEmpty (s : State) (f : Nat) : Bool :=
  decide (s.get (feedBase f) FEED_WIN_OV_MV ≤ s.get (feedBase f) FEED_WIN_UV_MV + 2 * s.get (feedBase f) FEED_HYST_MV)

/-- The unit's record of one sample (R377). -/
def State.feedTake (s : State) (f mv : Nat) : State :=
  let b := feedBase f
  let x := s.feed f
  let uv := s.get b FEED_WIN_UV_MV
  let ov := s.get b FEED_WIN_OV_MV
  let hy := s.get b FEED_HYST_MV
  let inBand := decide (uv + hy ≤ mv) && decide (mv + hy ≤ ov)
  let out := decide (mv < uv) || decide (ov < mv)
  s.setFeed f { x with mv := mv, sum := x.sum + mv, count := x.count + 1
                       inSince := if inBand then some (x.inSince.getD s.uptime) else none
                       outSince := if out then some (x.outSince.getD s.uptime) else none
                       above := if out then decide (ov < mv) else x.above }

/-- Whether a feed qualifies or stays qualified after a sample (R377). An empty band keeps a feed from qualifying (R402); a
qualified feed loses qualification only as R377 says (DEDUCED). -/
def State.feedJudge (s : State) (f : Nat) : Bool :=
  let b := feedBase f
  let x := s.feed f
  if !s.flag b FEED_CFG_EN then false
  else if s.qualified f then
    match x.outSince with
    | some t => decide (s.uptime < t + 1000 * s.get b FEED_QUAL_DISQ_US)
    | none => true
  else
    match x.inSince with
    | some t => !s.bandEmpty f && decide (t + 1000000 * s.get b FEED_QUAL_QUAL_MS ≤ s.uptime)
    | none => false

/-- Why a feed lost qualification (Table 14.2). -/
def State.feedWhy (s : State) (f : Nat) : Nat :=
  if !s.flag (feedBase f) FEED_CFG_EN then 4 else if (s.feed f).above then 3 else 2

/-- A feed's qualification changes (R377, R378). -/
def State.feedChange (s : State) (f : Nat) (q : Bool) : State :=
  let t := (s.set feedReg FEED_STAT_QUALIFIED (setBit (s.get feedReg FEED_STAT_QUALIFIED) f q)).evt feedReg FEED_EVT 1
  let t := if q then t else t.bump (feedBase f) FEED_DISQ
  let t :=
    if !q ∧ t.selected = f then
      let t := t.setSel { t.power.sel with why := t.feedWhy f }
      t.raise .feedLost (srcFeed f) 0 (leBytes 4 (t.feed f).mv ++ leBytes 1 (t.feedWhy f))
    else t
  t.feedImage f

/-- One sample of the three feeds (R377 to R379, R381). While UV_HOLD is set, the held feed is broken when it stands above
its limit for the disqualification time. -/
def State.feedSample (s : State) (a b bat : Nat) : State :=
  let t := ((s.feedTake 0 a).feedTake 1 b).feedTake 2 bat
  let changed := [0, 1, 2].filter fun f => t.feedJudge f != t.qualified f
  let t := changed.foldl (fun (u : State) f => u.feedChange f (t.feedJudge f)) t
  let x := t.feed t.selected
  let high := t.flag feedReg FEED_STAT_UV_HOLD && x.above &&
    (match x.outSince with
     | some u => decide (u + 1000 * t.get (feedBase t.selected) FEED_QUAL_DISQ_US ≤ t.uptime)
     | none => false)
  if changed.isEmpty && !high then t else t.feedSelect 1

/-- The broken switch is confirmed off (R378, R380). -/
def State.feedConfirm (s : State) : State :=
  match s.power.sel.phase with
  | .breaking _ =>
    let x := s.power.sel
    let t := s.set feedReg FEED_STAT_STUCK 0
    if x.next = 3 then (t.feedDone 3 x.cause x.stamp).feedSelect 6
    else t.setSel { x with phase := .dead t.uptime }
  | _ => s

/-- The dead time ends (R378, R381): the new feed is made if it is still qualified, and what changed meanwhile is applied;
otherwise nothing is made, and the selector, unless it is frozen, chooses again. -/
def State.feedMake (s : State) : State :=
  match s.power.sel.phase with
  | .dead since =>
    let x := s.power.sel
    if s.uptime < since + 1000 * s.get feedReg FEED_DEAD_US then s
    else if s.qualified x.next then (s.feedDone x.next x.cause x.stamp).feedSelect (if x.moved then 4 else 1)
    else
      match (if s.flag feedReg FEED_STAT_FROZEN then none else s.bestFeed) with
      | some b => s.feedDone b x.cause x.stamp
      | none => s.feedDone 3 x.cause x.stamp
  | _ => s

/-- A feed switch is found stuck (R380). -/
def State.stuckFound (s : State) (vgs : Nat) : State :=
  let t := (s.set feedReg FEED_STAT_SWITCHING 0).set feedReg FEED_STAT_STUCK 1
  let t := (t.evt feedReg FEED_EVT 2).bump feedReg FEED_STUCK
  let t := t.setSel { t.power.sel with phase := .idle, next := 3, last := 5, moved := false }
  let t := (t.raise .feedSwitchStuck (srcFeed t.selected) 0 (leBytes 4 vgs)).pchFollowAll 13
  if s.power.sel.moved then t.feedSelect 4 else t

/-- The switch being broken has not fallen within 100 µs (R380). -/
def State.feedStuck (s : State) (vgs : Nat) : State :=
  match s.power.sel.phase with
  | .breaking since => if s.uptime < since + 100000 then s else s.stuckFound vgs
  | _ => s

/-- The order changes while a change is in progress: that one completes, then the new order is applied (R381). -/
def State.feedMoved (s : State) : State :=
  if s.power.sel.phase = .idle then s else s.setSel { s.power.sel with moved := true }

/-- FEED_PRIO is written (R378, Table 14.11). -/
def State.feedPrio (s : State) (v : Nat) : State :=
  let a := v % 4
  let b := v / 16 % 4
  let c := v / 256 % 4
  if a = 3 ∨ b = 3 ∨ c = 3 ∨ a = b ∨ a = c ∨ b = c then s.raise .feedPrioBad srcHub 0 (leBytes 4 v)
  else
    ((((s.set feedReg FEED_PRIO_FIRST a).set feedReg FEED_PRIO_SECOND b).set feedReg FEED_PRIO_THIRD c).feedMoved).feedSelect 4

/-- Every 100 ms each feed writes its slots (R382). -/
def State.feedPeriod (s : State) : State :=
  s.each ([0, 1, 2].filter fun f => decide ((s.feed f).imageAt + 100000000 ≤ s.uptime)) fun s f => s.feedImage f

/-! ### Dies and links -/

/-- A function requires the safe state of die `d` (R398). -/
def State.dieRequired (s : State) (d : Nat) : Bool :=
  (s.dieChannels d).any fun c => s.pchHold c || (List.range 2).any fun i => s.sfTriggered i && s.sfNamesPch i c

/-- The die's safe-state latch sets: every channel takes its safe state, with records of a cause (R16, R398). -/
def State.dieLatch (s : State) (d cause : Nat) : State :=
  let x := s.die d
  let t := s.setDie d { x with latch := true, stamp := s.linkTime }
  t.each (t.dieChannels d) fun s c =>
    let st := s.pchState c
    let u := s.pchFollow c cause
    if u.pchState c = st then u.pchRecord c cause else u

/-- The link frames the main die sends to die `d` (R16): the commands in force for its channels, the configured safe
states, and a short stamp. -/
def State.linkBytes (s : State) (d : Nat) : List Byte :=
  let on := ((s.dieChannels d).map fun c => if s.pchCommanded c then 2 ^ (c % 32) else 0).sum
  let safe := ((s.dieChannels d).map fun c => if s.flag (pchBase c) PCH_CTRL_SAFE_ON then 2 ^ (c % 32) else 0).sum
  leBytes 4 on ++ leBytes 4 safe ++ leBytes 4 (shortStamp s.ring)

/-- The link returns (R17, R398): a gap below 1 ms is recorded with the moment the latch set. -/
def State.linkBack (s : State) (d : Nat) : State :=
  let x := s.die d
  if !x.gap then s
  else
    let t := s.setDie d { x with gap := false, frameAt := s.uptime, backAt := s.uptime }
    if s.uptime < x.frameAt + 1000000 then
      t.raiseAt .note .pedieLinkGap (srcIsland (23 + d)) 0 x.stamp (leBytes 4 ((s.uptime - x.frameAt) / 1000))
    else t

/-- The main die sends a link frame; `got` when the die received it validly (R16). A die fenced for its link or in HELD
gets frames all the same; it is not sent commands once it is fenced. -/
def State.linkFrame (s : State) (d : Nat) (got : Bool) : State :=
  let t := s.emit (.linkFrame d (s.linkBytes d))
  if !got then t
  else if (t.die d).gap then t.linkBack d
  else t.setDie d { t.die d with frameAt := t.uptime }

/-- No valid frame for 8 µs (R16). -/
def State.linkTimeout8 (s : State) (d : Nat) : State :=
  let x := s.die d
  if x.gap ∨ s.uptime < x.frameAt + 8000 then s
  else (s.setDie d { x with gap := true }).dieLatch d 2

/-- The link has stayed lost for 1 ms (R17). -/
def State.linkLost (s : State) (d : Nat) : State :=
  let x := s.die d
  if !x.gap ∨ s.uptime < x.frameAt + 1000000 ∨ s.fenced (.pedie d) then s
  else s.raise .pedieLinkLost (srcIsland (23 + d)) 0 []

/-- The voted release of a die's safe-state latch (R17, R376, R398). -/
def State.dieRelease (s : State) (d : Nat) : State :=
  let x := s.die d
  if !x.latch ∨ x.gap ∨ s.uptime < x.backAt + 10000000 ∨ s.dieRequired d ∨ s.fenced (.pedie d) ∨ s.inHeld then s
  else
    let t := s.setDie d { x with latch := false }
    t.each (t.dieChannels d) fun s c => s.pchFollow c 0

end Sys2Proof.Machine
end

