-- ==== Sys2Proof/Machine/CanOps.lean ====
section
/-! DEFINITION. The CAN controllers (chapter 11): opening and closing, filters, reception, transmission, time reference
messages, process-image maps. -/

namespace Sys2Proof.Machine

/-- Registers of controller `n` (R297). -/
def canBase (n : Nat) : Nat := 0x100000 + 0x1000 * n
/-- Registers of buffer `b` of controller `n`. -/
def txbBase (n b : Nat) : Nat := canBase n + 0x100 + 0x40 * b
/-- Receive map `m` of controller `n`. -/
def rxmapBase (n m : Nat) : Nat := canBase n + 0x900 + 8 * m
/-- Transmit map `t` of controller `n`. -/
def txmapBase (n t : Nat) : Nat := canBase n + 0xA00 + 0x10 * t

/-- Controller `n` beside its registers. -/
def State.can (s : State) (n : Nat) : CanUnit := Tbl.get (fun _ => {}) s.cans n
/-- Controller `n` replaced. -/
def State.setCan (s : State) (n : Nat) (x : CanUnit) : State := { s with cans := Tbl.put (fun _ => {}) s.cans n x }

/-- Whether controller `n` is open. -/
def State.canOpen (s : State) (n : Nat) : Bool := s.flag (canBase n) CAN_CTRL_EN
/-- MODE of controller `n` (Table 11.3). -/
def State.canMode (s : State) (n : Nat) : Nat := s.get (canBase n) CAN_CTRL_MODE
/-- Whether controller `n` is HELD (R306). -/
def State.canHeld (s : State) (n : Nat) : Bool := s.flag (canBase n) CAN_STAT_HELD
/-- Ring time as controller `n` reads it. -/
def State.canNow (s : State) (n : Nat) : Nat := s.nowAt (4 + n / 16)
/-- A stamp at the resolution of 12.5 ns (R316). -/
def canGrain (t : Nat) : Nat := 2 * t / 25 * 25 / 2
/-- Whether stamps of controller `n` carry TIME_SUSPECT. -/
def State.canSuspect (s : State) (n : Nat) : Bool := s.suspectAt (4 + n / 16)

/-- Bytes of a data slot (Table 11.11). -/
def slotBytesOf (code : Nat) : Nat :=
  if code = 0 then 64 else if code = 1 then 256 else if code = 2 then 512 else if code = 3 then 1024 else 2048
/-- SLOT of controller `n` in bytes. -/
def State.canSlot (s : State) (n : Nat) : Nat := slotBytesOf (s.get (canBase n) CAN_STORE_SLOT)
/-- TXN of controller `n`. -/
def State.canTxn (s : State) (n : Nat) : Nat := s.get (canBase n) CAN_STORE_TXN
/-- RXN of controller `n`. -/
def State.canRxn (s : State) (n : Nat) : Nat := s.get (canBase n) CAN_STORE_RXN
/-- Region of controller `n` in the store (R309). -/
def State.canRegion (s : State) (n : Nat) : Nat := s.partBase 3 + 0x20000 * n
/-- Whether the region of controller `n` lies within partition 3 (R310). -/
def State.canFits (s : State) (n : Nat) : Bool := decide (0x20000 * (n + 1) ≤ s.partSize 3)
/-- Whether a layout fits its region (R309). -/
def canLayoutOk (slot txn rxn : Nat) : Bool :=
  decide (1 ≤ txn ∧ txn ≤ 32 ∧ 1 ≤ rxn ∧ rxn ≤ 256 ∧ 8192 + (txn + rxn) * slot ≤ 131072)
/-- Store offset of transmit data slot `b`. -/
def State.txSlotAt (s : State) (n b : Nat) : Nat := s.canRegion n + 0x2000 + b * s.canSlot n
/-- Store offset of receive data slot `i`. -/
def State.rxSlotAt (s : State) (n i : Nat) : Nat := s.canRegion n + 0x2000 + (s.canTxn n + i) * s.canSlot n

/-! ### Timing and lag -/

/-- Nominal bit time of a CAN_BTIM_NOM word in half nanoseconds of 12.5 ns clock periods × 2 (R299): periods × 25. -/
def nomBit2 (w : Word) : Nat := (bitsOf w 0 8 + 1) * (3 + bitsOf w 8 8 + bitsOf w 16 7) * 25
/-- Nominal bit time of controller `n` in ns, rounded down. -/
def State.nomBit (s : State) (n : Nat) : Nat := nomBit2 (s.rd (canBase n + 0x10)) / 2
/-- Bits of the lag (R317). -/
def State.lagBits (s : State) (n : Nat) : Nat :=
  let f := s.get (canBase n) CAN_CTRL_FMT
  if bitAt f 2 then 18622 else if bitAt f 1 then 754 else 160
/-- The lag of controller `n` in ns as its registers stand (R317). -/
def State.canLagNow (s : State) (n : Nat) : Nat :=
  if s.flag (canBase n) CAN_CTRL_STAMP_AT then 2000
  else s.lagBits n * nomBit2 (s.rd (canBase n + 0x10)) / 2 + 2000

/-- A lag's change (R317, R359): a rise at once, a fall once the old lag has passed. The lag in force, and the falls still
to come. -/
def lagUpdate (now eff new : Nat) (falls : List (Nat × Nat)) : Nat × List (Nat × Nat) :=
  if eff ≤ new then (new, [])
  else
    let fs := falls.map fun f => (f.1, max f.2 new)
    if fs.any (·.2 == new) then (eff, fs) else (eff, fs ++ [(now + eff, new)])

/-- Falls that are due take effect. -/
def lagFall (now eff : Nat) (falls : List (Nat × Nat)) : Nat × List (Nat × Nat) :=
  match (falls.filter fun f => decide (f.1 ≤ now)).getLast? with
  | some f => (f.2, falls.filter fun f => decide (now < f.1))
  | none => (eff, falls)

/-- The lag of controller `n` after a change of its registers. -/
def State.canLagWritten (s : State) (n : Nat) : State :=
  let x := s.can n
  let r := lagUpdate s.uptime (s.lag (0x10 + n)) (s.canLagNow n) x.lagFalls
  (s.setCan n { x with lagFalls := r.2 }).setLag (0x10 + n) r.1

/-- A fall of the lag of controller `n` takes effect (R317). -/
def State.canLagFall (s : State) (n : Nat) : State :=
  let x := s.can n
  let r := lagFall s.uptime (s.lag (0x10 + n)) x.lagFalls
  (s.setCan n { x with lagFalls := r.2 }).setLag (0x10 + n) r.1

/-! ### Endings and events -/

/-- STATE of buffer `b` (R319). -/
def State.txbState (s : State) (n b : Nat) : Nat := s.get (txbBase n b) CAN_TXB_STAT_STATE
/-- Whether buffer `b` is WAITING, PENDING or ACTIVE. -/
def State.txbBusy (s : State) (n b : Nat) : Bool := decide (1 ≤ s.txbState n b ∧ s.txbState n b ≤ 3)
/-- CAN_TXPEND. -/
def State.txPend (s : State) (n : Nat) : Nat := ((List.range 32).map fun b => if s.txbBusy n b then 2 ^ b else 0).sum

/-- An entry of the transmit event queue (R323). -/
def State.txEvent (s : State) (n entry : Nat) : State :=
  let x := s.can n
  if 64 ≤ x.txeq.length then (s.bump (canBase n) CAN_TXEQ_OVF).evt (canBase n) CAN_EVT 3
  else (s.setCan n { x with txeq := x.txeq ++ [entry] }).evt (canBase n) CAN_EVT 1

/-- Result of a CAN_TX that waited (Table 11.9). -/
def State.txResult (s : State) (n b : Nat) : List Byte :=
  let t := txbBase n b
  let r := s.get t CAN_TXB_STAT_RESULT
  leBytes 1 r ++ leBytes 1 (s.get t CAN_TXB_STAT_CANCEL_LATE + 2 * s.get t CAN_TXB_STAT_TT_LATE)
    ++ leBytes 2 (s.get t CAN_TXB_STAT_SUBMITS) ++ leBytes 4 (if r = 1 then s.get t CAN_TXB_STAMP_STAMP else 0)

/-- Buffer `b` ends with a result (R319, R323): its event entry, and the CAN_TX that waits for it. -/
def State.txbEnd (s : State) (n b result : Nat) : State :=
  let k := txbBase n b
  let t := (s.set k CAN_TXB_STAT_STATE 4).set k CAN_TXB_STAT_RESULT result
  let e := b + 64 * t.get k CAN_TXB_STAT_TT_LATE + 128 * t.get k CAN_TXB_STAT_CANCEL_LATE + 256 * result
    + 65536 * t.get k CAN_TXB_STAT_SUBMITS
  let t := t.txEvent n e
  t.wake 0x0702 n b 0 (t.txResult n b)

/-- A reference message ends with a result (R323). -/
def State.trefEnd (s : State) (n result : Nat) : State := s.txEvent n (32 + 256 * result)

/-! ### HELD, opening and closing -/

/-- Whether a frame is in progress on the bus of controller `n`. -/
def State.canBusy (s : State) (n : Nat) : Bool := (s.can n).active.isSome || s.flag (canBase n) CAN_STAT_RX_ACTIVE

/-- Whether R306 wants controller `n` HELD. -/
def State.canWantsHeld (s : State) (n : Nat) : Bool :=
  let c := s.get (canBase n) CAN_PAIRCFG_PCH
  s.canOpen n && s.flag (canBase n) CAN_CTRL_PAIR_HOLD && c != 255 &&
    (match s.pchOnSince c with
     | none => true
     | some t => decide (s.uptime < t + 1000000 * s.get (canBase n) CAN_PAIRCFG_SETTLE_MS))

/-- HELD is evaluated (R306): during a frame it can only end. -/
def State.heldEval (s : State) (n : Nat) : State :=
  let w := s.canWantsHeld n
  if w = s.canHeld n ∨ (w ∧ s.canBusy n) then s
  else (s.set (canBase n) CAN_STAT_HELD (b2n w)).evt (canBase n) CAN_EVT 7

/-- The controllers paired with channel `c` are evaluated. -/
def State.heldEvalPch (s : State) (c : Nat) : State :=
  s.each ((List.range s.nCan).filter fun n => s.get (canBase n) CAN_PAIRCFG_PCH == c) fun s n => s.heldEval n

/-- The reference master stops (R305): a message still due ends CANCELLED. -/
def State.trefStop (s : State) (n : Nat) : State :=
  let due := (s.can n).tref.isSome
  let t := (s.set (canBase n) CAN_TREF_CTRL_EN 0).setCan n { s.can n with tref := none }
  if due then t.trefEnd n 2 else t

/-- A close completes (R305): waiting and pending buffers end CANCELLED, the reference master stops. -/
def State.closeFinish (s : State) (n : Nat) : State :=
  let bs := (List.range 32).filter fun b => s.txbState n b == 1 || s.txbState n b == 2
  let t := s.setCan n { s.can n with closing := false }
  let t := t.each bs fun s b => s.txbEnd n b 2
  let t := t.trefStop n
  let t := ((t.set (canBase n) CAN_STAT_INTEGRATING 0).set (canBase n) CAN_STAT_RECOVERING 0).heldEval n
  t.wake 0x0701 n 0 0 (leBytes 1 bs.length ++ leBytes 3 0)

/-- EN is written 0 (R305): a frame in progress runs to its end first. -/
def State.closeBegin (s : State) (n : Nat) : State :=
  if !s.canOpen n then s
  else
    let t := s.set (canBase n) CAN_CTRL_EN 0
    if t.canBusy n then t.setCan n { t.can n with closing := true } else t.closeFinish n

/-- EN is written 1 (R304, R310): nothing happens to an open controller, and one whose region lies beyond partition 3
cannot be opened. A close still waiting for its frame is completed first. -/
def State.openDo (s : State) (n : Nat) : State :=
  if s.canOpen n ∨ !s.canFits n then s
  else
    let s := if (s.can n).closing then s.closeFinish n else s
    let x := s.can n
    let b := canBase n
    let t := s.bumpBy b CAN_RXQ_FLUSHED x.rxq.length
    let t := t.setCan n { x with rxq := [], txeq := [], active := none, trefBus := none }
    let t := t.each (List.range 32) fun s i => s.wr (txbBase n i + 0x24) (s.rd (txbBase n i + 0x24) &&& 0xFFFF0000#32)
    let t := ((t.set b CAN_ECNT_TEC 0).set b CAN_ECNT_REC 0).set b CAN_STAT_ESTATE 0
    let t := ((t.set b CAN_STAT_TX_ACTIVE 0).set b CAN_STAT_RX_ACTIVE 0).set b CAN_STAT_RECOVERING 0
    ((t.set b CAN_STAT_INTEGRATING 1).set b CAN_CTRL_EN 1).heldEval n

/-- A frame in progress ends (R305, R306). -/
def State.frameOver (s : State) (n : Nat) : State :=
  let t := s.setCan n { s.can n with active := none, trefBus := none }
  let t := (t.set (canBase n) CAN_STAT_TX_ACTIVE 0).set (canBase n) CAN_STAT_RX_ACTIVE 0
  if (t.can n).closing then t.closeFinish n else t.heldEval n

/-! ### Error confinement -/

/-- Whether the error counters of controller `n` stand still (R306, Table 11.3). -/
def State.ecntFrozen (s : State) (n : Nat) : Bool := s.canHeld n || s.canMode n == 1

/-- The error state changes (R308): event and CAN_STATE record. -/
def State.setEstate (s : State) (n st : Nat) : State :=
  let b := canBase n
  if s.get b CAN_STAT_ESTATE = st then s
  else
    let t := (s.set b CAN_STAT_ESTATE st).evt b CAN_EVT 4
    t.formRec (0x10 + n) 4 (0x2000 + n) (canGrain (t.canNow n)) (t.canSuspect n) false
      (leBytes 1 st ++ leBytes 1 (min 255 (t.get b CAN_ECNT_TEC)) ++ leBytes 1 (t.get b CAN_ECNT_REC) ++ leBytes 9 0)

/-- The state the counters call for (R308): bus-off is entered here and left only by recovery. -/
def State.ecntJudge (s : State) (n : Nat) : State :=
  let b := canBase n
  let tec := s.get b CAN_ECNT_TEC
  if s.get b CAN_STAT_ESTATE = 2 then s
  else if 255 < tec then
    let t := (s.setEstate n 2).bump b CAN_BUSOFF
    let t := (t.evt b CAN_EVT 5).raise .canBusOff (srcCan n) 0 (leBytes 2 tec)
    if t.flag b CAN_CTRL_BUSOFF_MANUAL then t else t.set b CAN_STAT_RECOVERING 1
  else if 127 < tec ∨ 127 < s.get b CAN_ECNT_REC then s.setEstate n 1
  else s.setEstate n 0

/-- TEC and REC rise (R308): TEC to at most 256, REC to at most 255. -/
def State.ecntAdd (s : State) (n tx rx : Nat) : State :=
  if s.ecntFrozen n then s
  else
    let b := canBase n
    let t := s.set b CAN_ECNT_TEC (min 256 (s.get b CAN_ECNT_TEC + tx))
    (t.set b CAN_ECNT_REC (min 255 (t.get b CAN_ECNT_REC + rx))).ecntJudge n

/-- A frame was sent without error: TEC falls by 1. -/
def State.ecntSent (s : State) (n : Nat) : State :=
  if s.ecntFrozen n then s
  else (s.set (canBase n) CAN_ECNT_TEC (s.get (canBase n) CAN_ECNT_TEC - 1)).ecntJudge n

/-- A frame was received without error: REC falls by 1; from above 127 it takes a value of ISO 11898-1's range 119 to 127,
which of them being open. -/
def State.ecntReceived (s : State) (n : Nat) : State :=
  if s.ecntFrozen n then s
  else
    let b := canBase n
    let r := s.get b CAN_ECNT_REC
    if 127 < r then
      let f := s.takeFree
      (f.2.set b CAN_ECNT_REC (119 + (Config.canRecBack f.1).val)).ecntJudge n
    else (s.set b CAN_ECNT_REC (r - 1)).ecntJudge n

/-- The error counter of a kind (R308). -/
def errCounter (k : Nat) : Fld :=
  if k = 0 then CAN_ERR_BIT else if k = 1 then CAN_ERR_STUFF else if k = 2 then CAN_ERR_FORM
  else if k = 3 then CAN_ERR_ACK else CAN_ERR_CRC

/-- A buffer's attempt failed (R321, R322): one-shot buffers end, a buffer with CANCEL_LATE ends CANCELLED, any other goes
back to PENDING. -/
def State.attemptFailed (s : State) (n b result : Nat) : State :=
  let k := txbBase n b
  if s.flag k CAN_TXB_FMT_ONE_SHOT then s.txbEnd n b result
  else if s.flag k CAN_TXB_STAT_CANCEL_LATE then s.txbEnd n b 2
  else s.set k CAN_TXB_STAT_STATE 2

/-- The frame of this controller on the bus failed: `result` 3 lost, 4 error. A reference message is due again, unless a
newer one is. -/
def State.txFailed (s : State) (n result : Nat) : State :=
  let x := s.can n
  match x.active with
  | none => s
  | some b =>
    if b < 32 then s.attemptFailed n b result
    else if x.tref.isSome then s.trefEnd n 2
    else s.setCan n { x with tref := x.trefBus }

/-- Recovery ends (R308). -/
def State.canRecovered (s : State) (n : Nat) : State :=
  let b := canBase n
  if s.flag b CAN_STAT_RECOVERING then
    ((((s.set b CAN_STAT_RECOVERING 0).set b CAN_ECNT_TEC 0).set b CAN_ECNT_REC 0)).setEstate n 0
  else s

/-- CAN_CTRL.RECOVER is written 1 (Table 11.11). -/
def State.canRecover (s : State) (n : Nat) : State :=
  if s.get (canBase n) CAN_STAT_ESTATE = 2 then s.set (canBase n) CAN_STAT_RECOVERING 1 else s

/-! ### Filters and reception -/

/-- Element `i` of filter set `set` as its four words (Table 11.4). -/
def State.fltElem (s : State) (n set i : Nat) : Nat × Nat × Nat × Nat :=
  let a := s.canRegion n + 1024 * set + 16 * i
  let w := s.load a 16
  (leAt w 0 4, leAt w 4 4, leAt w 8 4, leAt w 12 4)

/-- Whether a frame matches an element (Table 11.4). -/
def fltMatch (f : CanRx) (e : Nat × Nat × Nat × Nat) : Bool :=
  let id := f.id.toNat
  let id1 := e.1 % 2 ^ 29
  let id2 := e.2.1 % 2 ^ 29
  let typ := e.1 / 2 ^ 30 % 4
  let w2 := e.2.2.1
  let idOk := if typ = 1 then decide (id1 ≤ id ∧ id ≤ id2) else if typ = 2 then id == id1 || id == id2
    else if typ = 3 then id &&& id2 == id1 &&& id2 else false
  idOk && bitAt e.1 29 == f.ide && (w2 % 8 == 0 || bitAt w2 f.fmt.val)
    && (!bitAt w2 24 || w2 / 2 ^ 8 % 256 == f.vcid.toNat) && (!bitAt w2 25 || w2 / 2 ^ 16 % 256 == f.sdt.toNat)
    && (!bitAt w2 26 || e.2.2.2 == f.af.toNat)

/-- The first element of the active set that matches (R312). -/
def State.fltFind (s : State) (n : Nat) (f : CanRx) : Option Nat :=
  (List.range 64).find? fun i => fltMatch f (s.fltElem n (s.get (canBase n) CAN_CTRL_FSET) i)

/-- Data bytes of a frame: none for a remote frame. -/
def canBytes (f : CanRx) : List Byte := if f.rtr then [] else f.data

/-- ID word of the queue entry and the ledger record (Table 9.3). -/
def canIdWord (f : CanRx) : Nat :=
  f.id.toNat + 2 ^ 29 * b2n f.ide + 2 ^ 30 * b2n (f.fmt.val == 1) + 2 ^ 31 * b2n (f.fmt.val == 2)

/-- The lowest free receive slot. -/
def State.freeRxSlot (s : State) (n : Nat) : Nat :=
  ((List.range (s.canRxn n)).find? fun i => (s.can n).rxq.all fun e => e.slot != i).getD 0

/-- A frame that finds the receive queue full (R314). -/
def State.rxqOvf (s : State) (n : Nat) : State :=
  let b := canBase n
  let x := s.can n
  let times := s.uptime :: x.ovfTimes.filter fun t => decide (s.uptime < t + nsPerSec)
  let t := ((s.bump b CAN_RXQ_OVF).evt b CAN_EVT 2).setCan n { x with ovfTimes := times }
  if t.mayReport x.ovfAt then
    (t.setCan n { t.can n with ovfAt := some t.uptime }).raise .canRxqOvf (srcCan n) 0 (leBytes 4 times.length)
  else t

/-- A frame is queued (R313, Table 11.5): the RXSEQ it gets, 0xFFFF when it is not queued (R314). -/
def State.rxQueue (s : State) (n : Nat) (f : CanRx) (elem stamp : Nat) : Nat × State :=
  let x := s.can n
  if s.canRxn n ≤ x.rxq.length then (0xFFFF, s.rxqOvf n)
  else if s.canSlot n < (canBytes f).length then (0xFFFF, s.bump (canBase n) CAN_RX_TOOLONG)
  else
    let i := s.freeRxSlot n
    let xl := f.fmt.val == 2
    let e : CanEntry :=
      { idw := (canIdWord f), stamp := shortStamp stamp
        w2 := (canBytes f).length + 2 ^ 12 * b2n f.brs + 2 ^ 13 * b2n f.esi + 2 ^ 14 * b2n f.rtr + 2 ^ 15 * b2n (s.canSuspect n)
          + 2 ^ 16 * elem + 2 ^ 24 * s.get (canBase n) CAN_CTRL_FSET + 2 ^ 27 * (if xl then 0 else f.dlc.val)
        w3 := (if xl then f.sdt.toNat + 2 ^ 8 * f.vcid.toNat + 2 ^ 16 * b2n f.sec else 0) + 2 ^ 24 * i
        af := if xl then f.af.toNat else 0
        rxseq := x.rxSeq, slot := i }
    let t := s.store (s.rxSlotAt n i) (canBytes f)
    let t := t.setCan n { x with rxq := x.rxq ++ [e], rxSeq := if x.rxSeq = 65534 then 0 else x.rxSeq + 1 }
    (x.rxSeq, t.evt (canBase n) CAN_EVT 0)

/-- The ledger record of a frame (Table 9.3): `type` 2 received, 3 sent, `place` the queue entry or buffer. -/
def State.canRecord (s : State) (n type : Nat) (f : CanRx) (stamp place : Nat) : State :=
  s.formRec (0x10 + n) type (0x2000 + n) stamp (s.canSuspect n) false
    (leBytes 4 (canIdWord f) ++ leBytes 2 (canBytes f).length ++ leBytes 2 place ++ ((canBytes f) ++ List.replicate 4 0#8).take 4)

/-- The receive maps of element `elem` in the active set (R326). -/
def State.rxMaps (s : State) (n : Nat) (f : CanRx) (elem stamp : Nat) : State :=
  s.each ((List.range 32).filter fun m =>
      let k := rxmapBase n m
      s.flag k CAN_RXMAP0_EN && s.get k CAN_RXMAP0_ELEM == elem
        && s.get k CAN_RXMAP0_SET == s.get (canBase n) CAN_CTRL_FSET) fun s m =>
    let k := rxmapBase n m
    let bs := ((canBytes f).drop (s.get k CAN_RXMAP0_OFS)).take (s.get k CAN_RXMAP1_LEN)
    (s.slotsWhere fun e => e.wkind == 3 && e.windex == n && e.wsub == m).foldl
      (fun (s : State) i => s.slotWrite i bs bs.length stamp (s.canSuspect n) false) s

/-- The actions of an accepted frame, in the order of R313. -/
def State.rxActions (s : State) (n : Nat) (f : CanRx) (elem stamp : Nat) (rxq ledger pimg : Bool) : State :=
  let r := if rxq then s.rxQueue n f elem stamp else (0xFFFF, s)
  let t := if ledger then r.2.canRecord n 2 f stamp r.1 else r.2
  if pimg then t.rxMaps n f elem stamp else t

/-- A valid frame at its frame-valid point (R308, R312, R313). -/
def State.canReceive (s : State) (n : Nat) (f : CanRx) (stamp : Nat) : State :=
  let b := canBase n
  if !bitAt (s.get b CAN_CTRL_FMT) f.fmt.val then s.bump b CAN_REJECTED
  else
    let t := s.bump b CAN_RX_FRAMES
    match t.fltFind n f with
    | some i =>
      let w := (t.fltElem n (t.get b CAN_CTRL_FSET) i).2.2.1
      if bitAt w 4 ∨ !(bitAt w 5 || bitAt w 6 || bitAt w 7) then t.bump b CAN_REJECTED
      else t.rxActions n f i stamp (bitAt w 5) (bitAt w 6) (bitAt w 7)
    | none =>
      let q := t.flag b CAN_CTRL_DEF_ACCEPT
      let l := t.flag b CAN_CTRL_DEF_LEDGER
      if q || l then t.rxActions n f 255 stamp q l false else t.bump b CAN_REJECTED

/-- A frame of the bus at its frame-valid point: a controller that is open, or closing with that frame in progress, takes
it, except in internal loopback. A frame of a format that is not enabled leaves the error counters alone (R308). -/
def State.canFrameRx (s : State) (n : Nat) (f : CanRx) : State :=
  let b := canBase n
  if !(s.canOpen n || (s.can n).closing) ∨ s.flag b CAN_STAT_INTEGRATING ∨ s.get b CAN_STAT_ESTATE = 2 ∨ s.canMode n = 2
    ∨ (s.can n).active.isSome then s
  else
    let now := s.canNow n
    let stamp := canGrain (if s.flag b CAN_CTRL_STAMP_AT then now else now - f.age)
    let t := if bitAt (s.get b CAN_CTRL_FMT) f.fmt.val then s.ecntReceived n else s
    (t.canReceive n f stamp).frameOver n

/-- The front receive entry leaves the queue (R315). -/
def State.rxqPop (s : State) (n : Nat) : State := s.setCan n { s.can n with rxq := (s.can n).rxq.drop 1 }

/-- Words 0x0DC to 0x0F0 of the front entry (Table 11.5). -/
def State.rxqWord (s : State) (n off : Nat) : Nat :=
  match (s.can n).rxq with
  | [] => 0
  | e :: rest =>
    if off = 0xDC then e.idw else if off = 0xE0 then e.stamp else if off = 0xE4 then e.w2 else if off = 0xE8 then e.w3
    else if off = 0xEC then e.af else e.rxseq + 2 ^ 16 * rest.length

/-! ### Submission -/

/-- The number of bytes an FD frame of `n` bytes is padded to (Table 11.6). -/
def fdPad (n : Nat) : Nat :=
  if n ≤ 8 then n else ([12, 16, 20, 24, 32, 48].find? fun k => decide (n ≤ k)).getD 64

/-- Whether a data length is accepted (Table 11.6). -/
def canLenOk (fmt len slot : Nat) : Bool :=
  if fmt = 0 then decide (len ≤ 8) else if fmt = 1 then decide (len ≤ 64) else decide (1 ≤ len ∧ len ≤ 2048 ∧ len ≤ slot)

/-- Why a submission of format, RTR and length to buffer `b` is refused (R303, R318, R319, Table 11.9). -/
def State.submitBad (s : State) (n b fmt : Nat) (rtr : Bool) (len : Nat) : Option Nat :=
  if !s.canOpen n then some 0x0703
  else if s.canMode n = 1 then some 0x24
  else if s.txbBusy n b then some 0x0702
  else if fmt = 3 ∨ !bitAt (s.get (canBase n) CAN_CTRL_FMT) fmt then some 0x0704
  else if rtr ∧ fmt ≠ 0 then some 0x22
  else if !canLenOk fmt len (s.canSlot n) then some 0x0706
  else none

/-- AT of buffer `b` in ns of ring time. -/
def State.txbAt (s : State) (n b : Nat) : Nat :=
  let k := txbBase n b
  (s.get k CAN_TXB_AT_SL_SEC_LO + 2 ^ 32 * s.get k CAN_TXB_AT_SH_SEC_HI) * nsPerSec + s.get k CAN_TXB_AT_NS_NS

/-- Data bytes are placed in a buffer's slot, an FD frame's with its padding (R318). -/
def State.txData (s : State) (n b fmt : Nat) (bs : List Byte) : State :=
  let len := if fmt = 1 then fdPad bs.length else bs.length
  s.store (s.txSlotAt n b) ((bs ++ List.replicate 64 0#8).take (max len bs.length))

/-- A submission is accepted (R319, R320): SUBMITS rises, and the buffer is PENDING, or WAITING for its instant. -/
def State.txAccept (s : State) (n b : Nat) : State :=
  let k := txbBase n b
  let sub := (s.get k CAN_TXB_STAT_SUBMITS + 1) % 65536
  let t := s.wr (k + 0x24) (BitVec.ofNat 32 (65536 * sub))
  if t.flag k CAN_TXB_FMT_TT then
    if t.txbAt n b < t.canNow n then (t.set k CAN_TXB_STAT_STATE 2).set k CAN_TXB_STAT_TT_LATE 1
    else t.set k CAN_TXB_STAT_STATE 1
  else t.set k CAN_TXB_STAT_STATE 2

/-- CAN_TXB_CMD.SUBMIT (R318): the data is copied from the host partition. -/
def State.txSubmit (s : State) (n b : Nat) : State :=
  let k := txbBase n b
  let fmt := s.get k CAN_TXB_FMT_FORMAT
  let rtr := s.flag k CAN_TXB_ID_RTR
  let len := s.get k CAN_TXB_LEN_LEN
  let src := s.get k CAN_TXB_SRC_OFFSET
  if s.canTxn n ≤ b then s
  else if (s.submitBad n b fmt rtr len).isSome ∨ (!rtr ∧ !s.inHost src len) then s.bump (canBase n) CAN_TX_REFUSED
  else if rtr then s.txAccept n b
  else (s.txData n b fmt (s.load src len)).txAccept n b

/-- A cancellation (R322): the outcome 0 cancelled, 1 CANCEL_LATE set, 2 nothing to cancel, and the state. -/
def State.txCancel (s : State) (n b : Nat) : Nat × State :=
  let st := s.txbState n b
  if st = 1 ∨ st = 2 then (0, s.txbEnd n b 2)
  else if st = 3 then (1, s.set (txbBase n b) CAN_TXB_STAT_CANCEL_LATE 1)
  else (2, s)

/-! ### Transmit maps -/

/-- Transmit map `m` takes its slot (R327): the value goes into the buffer's data, and the buffer is submitted with its
other registers as they stand. -/
def State.txTake (s : State) (n m slot : Nat) : State :=
  let k := txmapBase n m
  let b := s.get k CAN_TXMAP0_BUF
  let r := s.slotTake slot
  let fmt := s.get (txbBase n b) CAN_TXB_FMT_FORMAT
  let rtr := s.flag (txbBase n b) CAN_TXB_ID_RTR
  let t := r.2
  if t.canTxn n ≤ b ∨ (t.submitBad n b fmt rtr (t.get (txbBase n b) CAN_TXB_LEN_LEN)).isSome then
    t.bump (canBase n) CAN_TX_REFUSED
  else
    let ofs := t.get k CAN_TXMAP0_OFS
    let bs := (r.1.take (t.get k CAN_TXMAP1_LEN)).take (t.canSlot n - ofs)
    (t.store (t.txSlotAt n b + ofs) bs).txAccept n b

/-- The slot that transmit map `m` consumes; there are no takes while PIMG_CTRL.EN = 0 (Table 9.14). -/
def State.txMapSlot (s : State) (n m : Nat) : Option Nat :=
  if s.flag pimgBase PIMG_CTRL_EN then (s.slotsWhere fun e => e.ckind == 2 && e.cindex == n && e.csub == m).head? else none

/-- A slot consumed by transmit map `m` is written (R327, MODE 0). -/
def State.txMapWritten (s : State) (n m slot : Nat) : State :=
  let k := txmapBase n m
  if s.flag k CAN_TXMAP0_EN ∧ !s.flag k CAN_TXMAP1_MODE ∧ !s.txbBusy n (s.get k CAN_TXMAP0_BUF) then s.txTake n m slot else s

/-- Slot writes that found a buffer busy are taken once it has ended (R327). -/
def State.txMapsAfter (s : State) (n : Nat) : State :=
  s.each (List.range 16) fun s m =>
    match s.txMapSlot n m with
    | some slot => if (s.slotMap slot).taken then s else s.txMapWritten n m slot
    | none => s

/-- The period of transmit map `m` in ns. -/
def State.txMapPeriod (s : State) (n m : Nat) : Nat := 1000 * s.get (txmapBase n m) CAN_TXMAP2_PERIOD_US

/-- Transmit map `m` is written: its next instant is the next multiple of its period (R327). -/
def State.txMapAnew (s : State) (n m : Nat) : State :=
  let x := s.can n
  s.setCan n { x with mapIdx := Tbl.put (fun _ => 0) x.mapIdx m (s.canNow n / s.txMapPeriod n m) }

/-- A multiple of a periodic map's period is reached (R327, MODE 1). -/
def State.txMapDue (s : State) (n m : Nat) : State :=
  let k := txmapBase n m
  let x := s.can n
  let i := s.canNow n / s.txMapPeriod n m
  let last := Tbl.get (fun _ => 0) x.mapIdx m
  let t := s.setCan n { x with mapIdx := Tbl.put (fun _ => 0) x.mapIdx m i }
  if !s.flag k CAN_TXMAP0_EN ∨ !s.flag k CAN_TXMAP1_MODE ∨ i = last then s
  else if i < last then t
  else
    match t.txMapSlot n m with
    | none => t
    | some slot =>
      if t.txbBusy n (t.get k CAN_TXMAP0_BUF) then t.bump (canBase n) CAN_TX_REFUSED else t.txTake n m slot

/-! ### The bus -/

/-- A WAITING buffer's instant (R320). -/
def State.ttInstant (s : State) (n b : Nat) : State :=
  let k := txbBase n b
  if s.txbState n b = 1 ∧ s.txbAt n b ≤ s.canNow n then
    let t := s.set k CAN_TXB_STAT_STATE 2
    if t.canHeld n ∨ t.get (canBase n) CAN_STAT_ESTATE = 2 then t.set k CAN_TXB_STAT_TT_LATE 1 else t
  else s

/-- Bus priority of an identifier (R320): the lower goes first. -/
def prioKey (id : Nat) (ide : Bool) : Nat :=
  if ide then id / 2 ^ 18 * 2 ^ 19 + 2 ^ 18 + id % 2 ^ 18 else id % 2 ^ 11 * 2 ^ 19

/-- The buffer among `bs` that goes first (R320). -/
def State.firstBuf (s : State) (n : Nat) : List Nat → Option Nat
  | [] => none
  | b :: bs =>
    let key i := prioKey (s.get (txbBase n i) CAN_TXB_ID_ID) 
      (s.flag (txbBase n i) CAN_TXB_ID_IDE && s.get (txbBase n i) CAN_TXB_FMT_FORMAT != 2)
    match s.firstBuf n bs with
    | none => some b
    | some c => if key b ≤ key c then some b else some c

/-- The PENDING buffer that goes first. -/
def State.pendingBuf (s : State) (n : Nat) : Option Nat :=
  s.firstBuf n ((List.range 32).filter fun b => s.txbState n b == 2)

/-- The frame of buffer `b` as its registers and slot hold it. -/
def State.txFrame (s : State) (n b : Nat) : CanRx :=
  let k := txbBase n b
  let fmt := s.get k CAN_TXB_FMT_FORMAT
  let len := s.get k CAN_TXB_LEN_LEN
  let total := if fmt = 1 then fdPad len else len
  let rtr := s.flag k CAN_TXB_ID_RTR
  { id := BitVec.ofNat 29 (s.get k CAN_TXB_ID_ID), ide := fmt ≠ 2 && s.flag k CAN_TXB_ID_IDE
    fmt := if fmt = 0 then 0 else if fmt = 1 then 1 else 2, rtr := rtr, brs := s.flag k CAN_TXB_FMT_BRS
    esi := s.get (canBase n) CAN_STAT_ESTATE == 1
    dlc := Fin.ofNat 16 (if total ≤ 8 then total else
      9 + ([12, 16, 20, 24, 32, 48].takeWhile fun j => decide (j < total)).length)
    data := if rtr then [] else (s.load (s.txSlotAt n b) len ++ List.replicate (total - len) 0#8)
    sdt := BitVec.ofNat 8 (s.get k CAN_TXB_FMT_SDT), vcid := BitVec.ofNat 8 (s.get k CAN_TXB_FMT_VCID)
    sec := s.flag k CAN_TXB_FMT_SEC, af := BitVec.ofNat 32 (s.get k CAN_TXB_AF_AF), age := 0 }

/-- The reference message of controller `n` (Table 11.8). -/
def State.trefFrame (s : State) (n : Nat) (m : TrefMsg) : CanRx :=
  let b := canBase n
  let x := s.can n
  let data := if s.flag b CAN_TREF_CTRL_FORMAT then leBytes 1 (m.cycle % 64)
    else leBytes 4 (shortStamp x.prevSof) ++ leBytes 2 m.cycle
      ++ leBytes 1 (b2n s.timeValid + 2 * b2n x.prevLate + 4 * b2n m.first) ++ leBytes 1 s.nodeId
  { id := BitVec.ofNat 29 (s.get b CAN_TREF_ID_ID), ide := s.flag b CAN_TREF_ID_IDE, fmt := 0, rtr := false, brs := false
    esi := false, dlc := Fin.ofNat 16 data.length, data := data, sdt := 0, vcid := 0, sec := false, af := 0, age := 0 }

/-- What of a frame shows on the bus. -/
def canWire (f : CanRx) : List Byte :=
  leBytes 4 (f.id.toNat + 2 ^ 29 * b2n f.ide + 2 ^ 30 * b2n f.rtr)
    ++ leBytes 1 (f.fmt.val + 4 * b2n f.brs + 8 * b2n f.esi + 16 * b2n f.sec) ++ leBytes 1 f.dlc.val ++ [f.sdt, f.vcid]
    ++ leBytes 4 f.af.toNat ++ leBytes 2 f.data.length ++ f.data

/-- Whether controller `n` may start a frame. -/
def State.mayTransmit (s : State) (n : Nat) : Bool :=
  let b := canBase n
  s.canOpen n && !s.flag b CAN_STAT_INTEGRATING && !s.canHeld n && s.canMode n != 1 && s.get b CAN_STAT_ESTATE != 2
    && !s.canBusy n && !s.fenced (.canIsl (n / 16)) && !s.inHeld

/-- A start-of-frame of this controller (R319, R320): a due reference message before every buffer. -/
def State.startOfFrame (s : State) (n : Nat) : State :=
  if !s.mayTransmit n then s
  else
    let x := s.can n
    let sof := canGrain (s.canNow n)
    match x.tref with
    | some m =>
      let t := s.setCan n { x with tref := none, trefBus := some m, active := some 32, sof := sof }
      (t.set (canBase n) CAN_STAT_TX_ACTIVE 1).emit (.canFrame n (canWire (s.trefFrame n m)))
    | none =>
      match s.pendingBuf n with
      | some b =>
        let t := (s.setCan n { x with active := some b, sof := sof }).set (txbBase n b) CAN_TXB_STAT_STATE 3
        (t.set (canBase n) CAN_STAT_TX_ACTIVE 1).emit (.canFrame n (canWire (s.txFrame n b)))
      | none => s

/-- A reference message was sent whole (R324). -/
def State.trefSent (s : State) (n : Nat) : State :=
  let x := s.can n
  match x.trefBus with
  | some m =>
    (s.setCan n { x with prevSof := x.sof, prevLate := decide (m.at_ + s.nomBit n < x.sof) }).trefEnd n 1
  | none => s

/-- The frame on the bus completes (R321); in loopback the controller receives it as well (Table 11.3). -/
def State.txComplete (s : State) (n : Nat) : State :=
  let x := s.can n
  match x.active with
  | none => s
  | some b =>
    let stamp := if s.flag (canBase n) CAN_CTRL_STAMP_AT then canGrain (s.canNow n) else x.sof
    let f := if b < 32 then s.txFrame n b else
      match x.trefBus with | some m => s.trefFrame n m | none => s.txFrame n 0
    let t := (s.bump (canBase n) CAN_TX_FRAMES).ecntSent n
    let t :=
      if b < 32 then
        let t := t.set (txbBase n b) CAN_TXB_STAMP_STAMP (shortStamp stamp)
        let t := if t.flag (canBase n) CAN_CTRL_TX_LEDGER then t.canRecord n 3 f stamp b else t
        t.txbEnd n b 1
      else t.trefSent n
    let t := if t.canMode n = 2 ∨ t.canMode n = 3 then t.canReceive n f stamp else t
    (t.frameOver n).txMapsAfter n

/-- Arbitration is lost (R321): the controller receives the winning frame. -/
def State.arbLost (s : State) (n : Nat) : State :=
  if (s.can n).active.isNone then s
  else
    let t := (s.bump (canBase n) CAN_ARB_LOST).txFailed n 3
    let t := t.setCan n { t.can n with active := none, trefBus := none }
    ((t.set (canBase n) CAN_STAT_TX_ACTIVE 0).set (canBase n) CAN_STAT_RX_ACTIVE 1).txMapsAfter n

/-- A bus error (R308). -/
def State.canError (s : State) (n : Nat) (e : CanErr) : State :=
  let b := canBase n
  if !(s.canOpen n || (s.can n).closing) ∨ s.flag b CAN_STAT_INTEGRATING ∨ s.get b CAN_STAT_ESTATE = 2 then s
  else
    let tx := (s.can n).active.isSome
    let k := e.plus8 * 8
    let t := s.bump b (errCounter e.kind.val)
    let t := if tx then t.ecntAdd n (if e.exempt then k else 8 + k) 0 else t.ecntAdd n 0 (1 + k)
    ((t.txFailed n 4).frameOver n).txMapsAfter n

/-! ### Time reference -/

/-- The reference period in ns. -/
def State.trefPeriod (s : State) (n : Nat) : Nat := 1000 * s.get (canBase n) CAN_TREF_PERIOD_US

/-- The next reference instant is counted from now: it is the next multiple of the period (R324). -/
def State.trefAnew (s : State) (n : Nat) : State :=
  s.setCan n { s.can n with trefIdx := s.canNow n / s.trefPeriod n }

/-- CAN_TREF_CTRL.EN is written 1 (R324): discarded while ring time is not valid. -/
def State.trefStart (s : State) (n : Nat) : State :=
  if s.flag (canBase n) CAN_TREF_CTRL_EN ∨ !s.timeValid then s
  else
    let t := (s.set (canBase n) CAN_TREF_CTRL_EN 1).set (canBase n) CAN_TREF_CYCLE_CYCLE 0
    t.setCan n { t.can n with tref := none, first := true, trefIdx := t.canNow n / t.trefPeriod n }

/-- A reference instant (R324, R325): a message that has not started is dropped, and the next becomes due. -/
def State.trefInstant (s : State) (n : Nat) : State :=
  let x := s.can n
  let i := s.canNow n / s.trefPeriod n
  if !s.flag (canBase n) CAN_TREF_CTRL_EN ∨ i = x.trefIdx then s
  else if i < x.trefIdx then s.setCan n { x with trefIdx := i }
  else
    let c := s.get (canBase n) CAN_TREF_CYCLE_CYCLE
    let t := if x.tref.isSome then
        ((s.bump (canBase n) CAN_TREF_MISS).evt (canBase n) CAN_EVT 6).trefEnd n 2
      else s
    let m : TrefMsg := { cycle := c, at_ := i * s.trefPeriod n, first := x.first }
    (t.setCan n { t.can n with tref := some m, first := false, trefIdx := i }).set (canBase n) CAN_TREF_CYCLE_CYCLE (c + 1)

/-! ### Filter loads and pairing -/

/-- A filter set is loaded (R312): its elements, the rest of the set disabled. -/
def State.fltLoad (s : State) (n set : Nat) (bs : List Byte) : State :=
  s.store (s.canRegion n + 1024 * set) ((bs ++ List.replicate 1024 0#8).take 1024)

/-- CAN_FLT_CMD is written (R312). -/
def State.fltCopy (s : State) (n : Nat) (cmd : Word) : State :=
  let cnt := min 64 (bitsOf cmd 8 7)
  let src := s.get (canBase n) CAN_FLT_SRC_OFFSET
  if !cmd.getLsbD 16 then s
  else if s.inHost src (16 * cnt) then s.fltLoad n (bitsOf cmd 0 3) (s.load src (16 * cnt))
  else s.raise .canFltCopyBad (srcCan n) 0 (leBytes 4 src)

/-- CAN_PAIR (R307): the controller that held the channel before (255: none), and the state. -/
def State.pairWith (s : State) (n c : Nat) : Nat × State :=
  let old := s.get (canBase n) CAN_PAIRCFG_PCH
  let other := if c = 255 then none else
    (List.range s.nCan).find? fun m => m != n && s.get (canBase m) CAN_PAIRCFG_PCH == c
  let t := s.set (canBase n) CAN_PAIRCFG_PCH c
  match other with
  | some m => (m, ((t.set (canBase m) CAN_PAIRCFG_PCH old).heldEval m).heldEval n)
  | none => (if old = c ∧ c ≠ 255 then n else 255, t.heldEval n)

/-! ### Fencing -/

/-- Register words in a range take their reset values, but for those `keep` names. -/
def State.resetRange (s : State) (lo hi : Nat) (keep : Nat → Bool) : State :=
  { s with regs := s.regs.filter fun p => decide (p.1 < lo ∨ hi ≤ p.1) || keep p.1 }

/-- The buffers of a fenced controller read CANCELLED (R328). -/
def State.canFence (s : State) (n : Nat) : State :=
  let t := s.each ((List.range 32).filter fun b => s.txbBusy n b) fun s b =>
    s.wr (txbBase n b + 0x24) ((s.rd (txbBase n b + 0x24) &&& 0xFFFF0000#32) ||| BitVec.ofNat 32 (4 + 16 * 2 + 2 ^ 10))
  t.setCan n { t.can n with active := none, tref := none, trefBus := none }

/-- Whether a word survives the unfence of a CAN island: the pairing, and the status of a buffer that the fence cancelled
(R328). -/
def State.canKeeps (s : State) (a : Nat) : Bool :=
  a % 0x1000 == 0x2C || (decide (0x100 ≤ a % 0x1000) && decide (a % 0x1000 < 0x900) && a % 0x40 == 0x24 && (s.rd a).getLsbD 10)

/-- An unfence resets controller `n` (R328). -/
def State.canUnfence (s : State) (n : Nat) : State :=
  let pch := s.get (canBase n) CAN_PAIRCFG_PCH
  let t := s.resetRange (canBase n) (canBase n + 0x1000) s.canKeeps
  let t := t.wr (canBase n + 0x2C) (regReset (canBase n + 0x2C))
  ((t.set (canBase n) CAN_PAIRCFG_PCH pch).setCan n { lagFalls := (s.can n).lagFalls }).canLagWritten n

/-- The start of the reset of controller `n` in a warm reset (R331): every field at its reset value. -/
def State.canReset (s : State) (n : Nat) : State :=
  (s.resetRange (canBase n) (canBase n + 0x1000) fun _ => false).setCan n {}

end Sys2Proof.Machine
end

