-- ==== Sys2Proof/Machine/DioOps.lean ====
section
/-! DEFINITION. Discrete lines (chapter 13) and the bridge's straight wires (R292, R293). -/

namespace Sys2Proof.Machine

/-- Registers of bank `b` (R355). -/
def dioBase (b : Nat) : Nat := 0x300000 + 0x1000 * b
/-- Registers of line `j`, 0 to 191. -/
def lineBase (j : Nat) : Nat := dioBase (j / 64) + 0x100 + 0x10 * (j % 64)
/-- Registers of generator `g` of bank `b`. -/
def pwmBase (b g : Nat) : Nat := dioBase b + 0x600 + 0x10 * g
/-- Registers of straight wire `w`. -/
def wireBase (w : Nat) : Nat := 0x601600 + 8 * w

/-- Line `j` beside its registers. -/
def State.line (s : State) (j : Nat) : DioLine := Tbl.get (fun _ => {}) s.lines j
/-- Line `j` replaced. -/
def State.setLine (s : State) (j : Nat) (x : DioLine) : State := { s with lines := Tbl.put (fun _ => {}) s.lines j x }
/-- Bank `b` beside its registers. -/
def State.bank (s : State) (b : Nat) : DioBank := Tbl.get (fun _ => {}) s.banks b
/-- Bank `b` replaced. -/
def State.setBank (s : State) (b : Nat) (x : DioBank) : State := { s with banks := Tbl.put (fun _ => {}) s.banks b x }
/-- Generator `g` of bank `b`. -/
def State.gen (s : State) (b g : Nat) : PwmGen := Tbl.get (fun _ => {}) (s.bank b).gens g
/-- Generator `g` of bank `b` replaced. -/
def State.setGen (s : State) (b g : Nat) (x : PwmGen) : State :=
  s.setBank b { s.bank b with gens := Tbl.put (fun _ => {}) (s.bank b).gens g x }

/-- MODE of line `j` (Table 13.1). -/
def State.lineMode (s : State) (j : Nat) : Nat := s.get (lineBase j) DIO_LCFG_MODE
/-- Ring time as bank `b` reads it. -/
def State.dioNow (s : State) (b : Nat) : Nat := s.nowAt (16 + b)
/-- The level the filter sees (INV). -/
def State.lineLevel (s : State) (j : Nat) : Bool := (s.line j).pad != s.flag (lineBase j) DIO_LCFG_INV
/-- The output latch of line `j` (R363). -/
def State.latch (s : State) (j : Nat) : Bool := (s.rd (dioBase (j / 64) + 0x20 + 4 * (j % 64 / 32))).getLsbD (j % 32)
/-- The output latch of line `j` made `v`. -/
def State.setLatch (s : State) (j : Nat) (v : Bool) : State :=
  let a := dioBase (j / 64) + 0x20 + 4 * (j % 64 / 32)
  s.wr a (putBits (s.rd a) (j % 32) 1 (b2n v))

/-! ### Safety designation -/

/-- Entry `k` of function `i`'s output lines, when it is in use (SF_OUT). -/
def State.sfOut (s : State) (i k : Nat) : Option Nat :=
  let w := s.rd (sfBase i + 0x20 + 4 * k)
  if i < 2 ∧ w.getLsbD 8 then some (bitsOf w 0 8) else none
/-- Output lines of function `i`. -/
def State.sfOutLines (s : State) (i : Nat) : List Nat := (List.range 8).filterMap fun k => s.sfOut i k
/-- Word of input `k` of SF-A (SF_IN). -/
def State.sfInWord (s : State) (k : Nat) : Word := s.rd (sfBase 1 + 0x40 + 4 * k)
/-- Inputs of SF-A in use. -/
def State.sfInputs (s : State) : List Nat := (List.range 8).filter fun k => (s.sfInWord k).getLsbD 8
/-- The backup line of channel `c`, when enabled (SF_BACKUP). -/
def State.sfBackup (s : State) (c : Nat) : Option Nat :=
  let w := s.rd (0x780400 + 4 * c)
  if w.getLsbD 8 then some (bitsOf w 0 8) else none
/-- Whether function `i` names line `j` (R466): outputs, inputs, test lines of tested inputs, backup lines. -/
def State.sfNamesLine (s : State) (i j : Nat) : Bool :=
  (s.sfOutLines i).contains j
    || (i == 1 && s.sfInputs.any fun k =>
          let w := s.sfInWord k
          bitsOf w 0 8 == j || (w.getLsbD 10 && bitsOf w 16 8 == j))
    || (i == 2 && (List.range 64).any fun c => s.sfNamesPch 2 c && s.sfBackup c == some j)
/-- Whether line `j` is safety-designated (R368). -/
def State.lineSafety (s : State) (j : Nat) : Bool := (List.range 3).any fun i => s.sfArmed i && s.sfNamesLine i j

/-- A discarded write to a safety-designated line (R368). -/
def State.safeDrop (s : State) (j v : Nat) : State :=
  (s.bump (dioBase (j / 64)) DIO_SAFE_WDROP).raise .dioSafetyWrite (srcLine j) 0 (leBytes 4 v)

/-! ### Straight wires -/

/-- Source line of wire `w`. -/
def State.wireSrc (s : State) (w : Nat) : Nat := s.get (wireBase w) WIRE_CFG_SRC
/-- Whether wire `w` is enabled. -/
def State.wireOn (s : State) (w : Nat) : Bool := s.flag (wireBase w) WIRE_CFG_EN
/-- Kind of destination of wire `w`. -/
def State.wireKind (s : State) (w : Nat) : Nat := s.get (wireBase w) WIRE_CFG_DST_KIND
/-- Destination of wire `w`. -/
def State.wireDst (s : State) (w : Nat) : Nat := s.get (wireBase w) WIRE_CFG_DST

/-- REASON of wire `w` (Table 10.8): the lowest code whose condition holds, 0 for none. -/
def State.wireReason (s : State) (w : Nat) : Nat :=
  let src := s.wireSrc w
  let k := s.wireKind w
  let d := s.wireDst w
  let bad := k == 0 || k == 3 || (k == 1 && decide (4 ≤ d)) || (k == 2 && decide (192 ≤ d))
  if s.lineMode src ≠ 1 then 1
  else if k = 2 ∧ !bad ∧ s.lineMode d < 2 then 2
  else if s.lineSafety src ∨ (k = 2 ∧ s.lineSafety d) then 3
  else if s.nDio ≤ src ∨ (k = 2 ∧ !bad ∧ s.nDio ≤ d) then 4
  else if s.fenced (.dioBank (src / 64)) ∨ (k = 2 ∧ s.fenced (.dioBank (d / 64))) then 5
  else if s.inHeld then 6
  else if (List.range w).any fun v => s.wireOn v && s.wireKind v == k && s.wireDst v == d then 7
  else if bad then 8
  else 0

/-- Whether wire `w` is ACTIVE. -/
def State.wireActive (s : State) (w : Nat) : Bool := s.wireOn w && s.wireReason w == 0
/-- The level wire `w` drives. -/
def State.wireLevel (s : State) (w : Nat) : Bool := (s.line (s.wireSrc w)).pad != s.flag (wireBase w) WIRE_CFG_INV
/-- The enabled wire that names line `j` as its destination, the lowest of them. -/
def State.wireTo (s : State) (j : Nat) : Option Nat :=
  (List.range 8).find? fun w => s.wireOn w && s.wireKind w == 2 && s.wireDst w == j
/-- Whether line `j` is the destination of an ACTIVE wire (DIO_LCFG.WIRED). -/
def State.wired (s : State) (j : Nat) : Bool := match s.wireTo j with | some w => s.wireActive w | none => false
/-- The ACTIVE wire that drives pin HIRQ `p`. -/
def State.wirePin (s : State) (p : Nat) : Option Nat :=
  (List.range 8).find? fun w => s.wireActive w && s.wireKind w == 1 && s.wireDst w == p

/-- The wires are looked at: one that was ACTIVE and is enabled still drops with WIRE_DROP (R293). -/
def State.wiresEval (s : State) : State :=
  s.each (List.range 8) fun s w =>
    let k := wireBase w
    let now := s.wireActive w
    if s.flag k WIRE_STAT_ACTIVE = now then s
    else
      let t := s.set k WIRE_STAT_ACTIVE (b2n now)
      if !now && s.wireOn w then t.evt 0x601000 BRIDGE_EVT 3 else t

/-! ### What a line drives -/

/-- The SAFE level of line `j`: none is high-impedance. -/
def State.lineSafe (s : State) (j : Nat) : Option Bool :=
  let v := s.get (lineBase j) DIO_LCFG_SAFE
  if v = 1 then some false else if v = 2 then some true else none

/-- Whether a safety function has put line `j` at its SAFE level (R467, R470). -/
def State.lineTaken (s : State) (j : Nat) : Bool :=
  (List.range 2).any (fun i => s.sfTriggered i && (s.sfOutLines i).contains j)
    || s.cruc.holds.any fun h => s.sfBackup h.1 == some j

/-- The level the Crucible gives test line `j` (R469): TRIG_LEVEL during a pulse, its opposite otherwise. -/
def State.testLevel (s : State) (j : Nat) : Option Bool :=
  if !s.sfArmed 1 then none
  else
    (s.sfInputs.find? fun k => (s.sfInWord k).getLsbD 10 && bitsOf (s.sfInWord k) 16 8 == j).map fun k =>
      (s.sfInWord k).getLsbD 9 == s.cruc.pulse.isSome

/-- The level line `j` takes from its latch, generator, wire or safety function. -/
def State.lineWants (s : State) (j : Nat) : Option Bool :=
  if s.fenced (.dioBank (j / 64)) || s.inHeld || s.lineTaken j then s.lineSafe j
  else
    match s.testLevel j with
    | some v => some v
    | none =>
      match s.wireTo j with
      | some w =>
        let r := s.wireReason w
        if r = 0 then some (s.wireLevel w)
        else if r = 1 ∨ r = 5 ∨ r = 6 ∨ (r = 3 ∧ !s.lineSafety j) then s.lineSafe j
        else some (s.latch j)
      | none =>
        if s.flag (lineBase j) DIO_LCFG_PWM then some (s.gen (j / 64) (s.get (lineBase j) DIO_LCFG_PWM_GEN)).out
        else some (s.latch j)

/-- The level line `j` drives on its pad (R356, R363): none where it does not drive. -/
def State.lineDrive (s : State) (j : Nat) : Option Bool :=
  let m := s.lineMode j
  if m = 2 then s.lineWants j
  else if m = 3 then (match s.lineWants j with | some false => some false | _ => none)
  else none

/-! ### Inputs -/

/-- The process-image value of line `j` after an edge (Table 13.3). -/
def State.lineValue (s : State) (j : Nat) (level : Bool) : List Byte :=
  leBytes 1 (b2n level) ++ leBytes 1 (if level then 1 else 2) ++ leBytes 1 (s.get (lineBase j) DIO_LCFG_CMP_SEL) ++ [0#8]
    ++ leBytes 4 (s.get (lineBase j) DIO_LEDGES)

/-- An event that finds the bank's queue full (R362). -/
def State.evqOvf (s : State) (b : Nat) : State :=
  let x := s.bank b
  let times := s.uptime :: x.ovfTimes.filter fun t => decide (s.uptime < t + nsPerSec)
  let t := ((s.bump (dioBase b) DIO_EVQ_OVF).evt (dioBase b) DIO_EVT 1).setBank b { x with ovfTimes := times }
  if t.mayReport x.ovfAt then
    (t.setBank b { t.bank b with ovfAt := some t.uptime }).raise .dioEvqOvf (srcIsland (16 + b)) 0 (leBytes 4 times.length)
  else t

/-- An event enters the bank's queue (R362, Table 13.4). -/
def State.evqPush (s : State) (j : Nat) (t : Transition) (rejected : Nat) : State :=
  let b := j / 64
  let x := s.bank b
  if 256 ≤ x.evq.length then s.evqOvf b
  else
    let e : DioEvent :=
      { stamp := shortStamp t.stamp
        w1 := j % 64 + 2 ^ 8 * b2n t.level + 2 ^ 9 * b2n (!t.level) + 2 ^ 10 * s.get (lineBase j) DIO_LCFG_CMP_SEL
          + 2 ^ 11 * b2n t.suspect + 2 ^ 16 * min rejected 65535
        evseq := x.evseq }
    (s.setBank b { x with evq := x.evq ++ [e], evseq := (x.evseq + 1) % 65536 }).evt (dioBase b) DIO_EVT 0

/-- The events of an accepted transition (R361). A safety-designated line's event reaches the Crucible whatever its
destination bits hold (R368). -/
def State.lineEvent (s : State) (j : Nat) (t : Transition) (rejected : Nat) : State :=
  let d := s.get (lineBase j) DIO_LCFG_DEST
  let u := if bitAt d 0 then s.evqPush j t rejected else s
  let u := if bitAt d 1 then
      u.formRec (j / 64) 1 (0x1000 + j) t.stamp t.suspect false
        (leBytes 1 (b2n t.level) ++ leBytes 1 (if t.level then 1 else 2)
          ++ leBytes 1 (s.get (lineBase j) DIO_LCFG_CMP_SEL) ++ [0#8] ++ leBytes 4 rejected ++ leBytes 4 0)
    else u
  let u := if bitAt d 2 then
      (u.slotsWhere fun e => e.wkind == 2 && e.windex == j).foldl
        (fun (s : State) n => s.slotWrite n (s.lineValue j t.level) 8 t.stamp t.suspect false) u
    else u
  if u.lineSafety j then { u with cruc := { u.cruc with inputs := u.cruc.inputs ++ [(j, t.stamp, t.level)] } } else u

/-- A transition is accepted (R357). -/
def State.lineAccept (s : State) (j : Nat) (t : Transition) : State :=
  let x := s.line j
  let u := s.setLine j { x with acc := t.level, trans := none, rejected := 0 }
  let u := (u.bump (dioBase (j / 64)) DIO_EDGES).bump (lineBase j) DIO_LEDGES
  let e := s.get (lineBase j) DIO_LCFG_EDGES
  if bitAt e (if t.level then 0 else 1) then u.lineEvent j t x.rejected else u

/-- A transition is rejected (R357). -/
def State.lineReject (s : State) (j : Nat) : State :=
  let x := s.line j
  (s.setLine j { x with trans := none, rejected := (x.rejected + 1) % 2 ^ 32 }).bump (dioBase (j / 64)) DIO_REJECTED

/-- The filter of line `j` sees its level (R357): in mode 0 the accepted level follows it; otherwise a level away from the
accepted one begins a transition, which kind 0 accepts at once, and a return rejects a glitch-filtered one. -/
def State.lineSees (s : State) (j : Nat) : State :=
  let x := s.line j
  let v := s.lineLevel j
  if s.lineMode j = 0 then s.setLine j { x with acc := v, trans := none }
  else
    match x.trans with
    | none =>
      if v = x.acc then s
      else
        let b := j / 64
        let kind := s.get (lineBase j) DIO_LFILT_KIND
        let t : Transition :=
          { stamp := s.dioNow b, suspect := s.suspectAt (16 + b), began := s.uptime, kind := kind % 3
            time := 10 * s.get (lineBase j) DIO_LFILT_TIME, level := v }
        if t.kind = 0 then s.lineAccept j t else s.setLine j { x with trans := some t }
    | some t => if t.kind = 1 ∧ v = x.acc then s.lineReject j else s

/-- The pad of line `j` (or its comparator) crosses its threshold (R357, R360). -/
def State.crossing (s : State) (j : Nat) (level : Bool) : State :=
  let t := s.setLine j { s.line j with pad := level }
  if t.fenced (.dioBank (j / 64)) then t else t.lineSees j

/-- The filter decides a transition once its time has passed (R357). -/
def State.lineDecide (s : State) (j : Nat) : State :=
  match (s.line j).trans with
  | some t =>
    if s.uptime < t.began + t.time then s
    else if s.lineLevel j = t.level then s.lineAccept j t
    else s.lineReject j
  | none => s

/-- The bank's longest filter time in ns among its lines that feed the ledger (R21, R361). -/
def State.bankLag (s : State) (b : Nat) : Nat :=
  (List.range 64).foldl (fun m i =>
    let k := lineBase (64 * b + i)
    if bitAt (s.get k DIO_LCFG_DEST) 1 then max m (10 * s.get k DIO_LFILT_TIME) else m) 0

/-- The lag of bank `b` after a change of its lines' settings (R359). -/
def State.bankLagWritten (s : State) (b : Nat) : State :=
  let x := s.bank b
  let r := lagUpdate s.uptime (s.lag b) (s.bankLag b) x.lagFalls
  (s.setBank b { x with lagFalls := r.2 }).setLag b r.1

/-- A fall of the bank's lag takes effect (R359). -/
def State.bankLagFall (s : State) (b : Nat) : State :=
  let x := s.bank b
  let r := lagFall s.uptime (s.lag b) x.lagFalls
  (s.setBank b { x with lagFalls := r.2 }).setLag b r.1

/-- The configuration of line `j` was written, its mode before having been `old` (R356, R359): leaving mode 0 takes the
pad level as accepted; INV acts before the filter. -/
def State.lineWritten (s : State) (j old : Nat) : State :=
  let t := if old = 0 then s.setLine j { s.line j with acc := s.lineLevel j, trans := none } else s.lineSees j
  t.bankLagWritten (j / 64)

/-- The front event leaves the queue. -/
def State.evqPop (s : State) (b : Nat) : State := s.setBank b { s.bank b with evq := (s.bank b).evq.drop 1 }

/-- Words 0x0E8 to 0x0F0 of the front event (Table 13.4). -/
def State.evqWord (s : State) (b off : Nat) : Nat :=
  match (s.bank b).evq with
  | [] => 0
  | e :: rest => if off = 0xE8 then e.stamp else if off = 0xEC then e.w1 else e.evseq + 2 ^ 16 * rest.length

/-! ### Outputs -/

/-- An immediate write to the latch of line `j` (R363, R366): kept without effect on a safety-designated line, where it is
discarded and recorded (R368), and on a wire's destination (R292). `word` is the value written. -/
def State.outLine (s : State) (j : Nat) (v : Bool) (word : Nat) : State :=
  if s.lineSafety j then s.safeDrop j word
  else
    let b := j / 64
    let x := s.bank b
    let t := s.setBank b { x with written := (s.uptime, j) :: x.written.filter fun p => p.1 == s.uptime }
    t.setLatch j v

/-- Lines of half `h` of bank `b` whose bit is set in `mask`. -/
def linesOf (b : Nat) (h : Bool) (mask : Word) : List Nat :=
  (setBitsOf mask.toNat 32).map fun i => 64 * b + 32 * b2n h + i

/-- DIO_OUT_SET, _CLR, _TGL and DIO_OUT (Table 13.8): `op` 0 sets, 1 clears, 2 inverts, 3 writes. A safety-designated
line's write counts only where it would change the latch. -/
def State.outWrite (s : State) (b : Nat) (h : Bool) (op : Nat) (w : Word) : State :=
  let js := if op = 3 then linesOf b h (BitVec.allOnes 32) else linesOf b h w
  (js.filter fun j => decide (j < s.nDio)).foldl (fun (s : State) j =>
    let v := if op = 0 then true else if op = 1 then false else if op = 2 then !s.latch j else w.getLsbD (j % 32)
    if op = 3 ∧ v = s.latch j then s else s.outLine j v w.toNat) s

/-- A pad that differs from its driven level for 1 µs (R364). -/
def State.readback (s : State) (j : Nat) : State :=
  match s.lineDrive j with
  | none => s
  | some v =>
    let pad := (s.line j).pad
    if pad = v then s
    else
      let b := j / 64
      let t := (s.bump (dioBase b) DIO_READBACK_ERR).evt (dioBase b) DIO_EVT 4
      let d := leBytes 1 (b2n v) ++ leBytes 1 (b2n pad)
      if t.lineSafety j then t.raiseAs .safety .dioReadback (srcLine j) 0 d
      else if t.mayReport (t.bank b).rbAt then
        (t.setBank b { t.bank b with rbAt := some t.uptime }).raiseAs .note .dioReadback (srcLine j) 0 d
      else t

/-! ### Scheduled entries -/

/-- An entry fires (R365, R366). One on a line that a safety function owns is skipped. -/
def State.entryFire (s : State) (b : Nat) (e : DioEntry) : State :=
  let t := s.setBank b { s.bank b with sched := (s.bank b).sched.erase e }
  if (e.validOnly ∧ !t.timeValid) ∨ t.lineSafety e.line then t.bump (dioBase b) DIO_SCHED_SKIPPED
  else
    let t := (t.bump (dioBase b) DIO_SCHED_FIRED).evt (dioBase b) DIO_EVT 2
    let t := if e.late then (t.bump (dioBase b) DIO_SCHED_LATE).evt (dioBase b) DIO_EVT 3 else t
    if (t.bank b).written.contains (t.uptime, e.line) then t
    else t.setLatch e.line (if e.action = 0 then false else if e.action = 1 then true else !t.latch e.line)

/-- The entry of bank `b` that fires first: the earliest AT, the earlier made of two with the same. -/
def firstEntry : List DioEntry → Option DioEntry
  | [] => none
  | e :: es =>
    match firstEntry es with
    | none => some e
    | some f => if e.at_ ≤ f.at_ then some e else some f

/-- A scheduled entry reaches its time (R365). -/
def State.schedFire (s : State) (b : Nat) : State :=
  match firstEntry (s.bank b).sched with
  | some e => if e.at_ ≤ s.dioNow b then s.entryFire b e else s
  | none => s

/-- The next ID of a bank that no pending entry holds (R370). -/
def nextEntryId (es : List DioEntry) : Nat → Nat → Nat
  | 0, i => i
  | n + 1, i => if es.any (·.id == i) then nextEntryId es n (if 65535 ≤ i then 1 else i + 1) else i

/-- An entry is made (R365): its ID, and the state; one whose AT has passed fires at once. -/
def State.schedAdd (s : State) (line action at_ : Nat) (validOnly : Bool) : Nat × State :=
  let b := line / 64
  let x := s.bank b
  let id := nextEntryId x.sched 64 x.nextId
  let e : DioEntry := { id := id, line := line, action := action, at_ := at_, validOnly := validOnly
                        late := decide (at_ < s.dioNow b) }
  let t := s.setBank b { x with sched := x.sched ++ [e], nextId := if 65535 ≤ id then 1 else id + 1 }
  (id, if e.late then t.entryFire b e else t)

/-- DIO_SCHED_AT in ns of ring time. -/
def State.schedAt (s : State) (b : Nat) : Nat :=
  let k := dioBase b
  (s.get k DIO_SCHED_AT_SL_SEC_LO + 2 ^ 32 * s.get k DIO_SCHED_AT_SH_SEC_HI) * nsPerSec + s.get k DIO_SCHED_AT_NS_NS

/-- DIO_SCHED_STAT shows the outcome. -/
def State.schedStat (s : State) (b result id : Nat) : State :=
  (s.set (dioBase b) DIO_SCHED_STAT_RESULT result).set (dioBase b) DIO_SCHED_STAT_ID id

/-- DIO_SCHED_CMD is written (R365, Table 13.8). A line the part does not hold is refused silently (R4). -/
def State.schedGo (s : State) (b : Nat) (cmd : Word) : State :=
  let j := 64 * b + bitsOf cmd 0 6
  let action := bitsOf cmd 8 2
  if !cmd.getLsbD 31 ∨ s.nDio ≤ j then s
  else if s.lineSafety j then (s.safeDrop j cmd.toNat).schedStat b 3 0
  else if action = 3 then s.schedStat b 3 0
  else if 64 ≤ (s.bank b).sched.length then s.schedStat b 2 0
  else
    let r := s.schedAdd j action (s.schedAt b) (cmd.getLsbD 12)
    r.2.schedStat b 1 r.1

/-- The pending entries of lines that satisfy `p` are discarded (R366, R369). -/
def State.schedDrop (s : State) (b : Nat) (p : Nat → Bool) : State :=
  let x := s.bank b
  let gone := x.sched.filter fun e => p e.line
  (s.setBank b { x with sched := x.sched.filter fun e => !p e.line }).bumpBy (dioBase b) DIO_SCHED_SKIPPED gone.length

/-! ### PWM -/

/-- The number of the last period start of generator `g` at or before now, counted from 1; 0 before the first. -/
def State.genIndex (s : State) (b g : Nat) : Nat :=
  let x := s.gen b g
  let now := s.dioNow b
  if now < x.phase then 0 else (now - x.phase) / x.period + 1

/-- The staged values of generator `g`: PERIOD, ON, PHASE modulo PERIOD. -/
def State.genStaged (s : State) (b g : Nat) : Nat × Nat × Nat :=
  let k := pwmBase b g
  let p := s.get k DIO_PWM_PERIOD_NS
  (p, s.get k DIO_PWM_ON_NS, s.get k DIO_PWM_PHASE_NS % p)

/-- A commit takes effect. -/
def State.genTake (s : State) (b g : Nat) (v : Nat × Nat × Nat) : State :=
  s.setGen b g { s.gen b g with period := v.1, on := v.2.1, phase := v.2.2, pend := none }

/-- A period starts (R367): a commit made before this instant applies. -/
def State.genStart (s : State) (b g : Nat) : State :=
  let x := s.gen b g
  let i := s.genIndex b g
  if !s.flag (pwmBase b g) DIO_PWM_CTRL_EN ∨ i = x.last then s
  else
    let t := match x.pend with
      | some (p, on, ph, at_) => if at_ < s.uptime then s.genTake b g (p, on, ph) else s
      | none => s
    let y := t.gen b g
    t.setGen b g { y with last := t.genIndex b g, startAt := t.dioNow b, out := decide (0 < y.on) }

/-- The on-time ends (R367). -/
def State.genOnEnd (s : State) (b g : Nat) : State :=
  let x := s.gen b g
  if x.out ∧ x.on < x.period ∧ x.startAt + x.on ≤ s.dioNow b then s.setGen b g { x with out := false } else s

/-- DIO_PWM_CTRL is written (R367). -/
def State.genWrite (s : State) (b g : Nat) (en : Bool) : State :=
  let was := s.flag (pwmBase b g) DIO_PWM_CTRL_EN
  let v := s.genStaged b g
  let t := s.set (pwmBase b g) DIO_PWM_CTRL_EN (b2n en)
  if was && en then t.setGen b g { t.gen b g with pend := some (v.1, v.2.1, v.2.2, t.uptime) }
  else
    let t := t.genTake b g v
    t.setGen b g { t.gen b g with out := false, last := t.genIndex b g }

/-- A step of ring time ends the period in progress (R367). -/
def State.genStep (s : State) (b g : Nat) : State := s.setGen b g { s.gen b g with out := false, last := s.genIndex b g }

/-! ### Fencing and reset -/

/-- A bank is fenced (R369): generators stop, entries are discarded, no events. -/
def State.dioFence (s : State) (b : Nat) : State :=
  let t := s.schedDrop b fun _ => true
  let t := t.each (List.range 16) fun s g => (s.set (pwmBase b g) DIO_PWM_CTRL_EN 0).setGen b g {}
  t.each (List.range 64) fun s i => s.setLine (64 * b + i) { s.line (64 * b + i) with trans := none }

/-- An unfence or warm reset of a bank (R369): every register at its reset value, every line in mode 0, queue and
schedules empty. -/
def State.dioReset (s : State) (b : Nat) : State :=
  let falls := (s.bank b).lagFalls
  let t := (s.resetRange (dioBase b) (dioBase b + 0x1000) fun _ => false).setBank b { lagFalls := falls }
  let t := t.each (List.range 64) fun s i =>
    let j := 64 * b + i
    s.setLine j { pad := (s.line j).pad, acc := (s.line j).pad }
  t.bankLagWritten b

end Sys2Proof.Machine
end

