-- ==== Sys2Proof/Machine/FlaskOps.lean ====
section
/-! DEFINITION. The Flasks (chapter 12): pins and lanes, bit streams, queues, tallies, Pattern loads, starts and stops. -/

namespace Sys2Proof.Machine

/-- Registers of Flask `f` (R332). -/
def flaskBase (f : Nat) : Nat := 0x200000 + 0x1000 * f
/-- Registers of engine `e` of Flask `f`. -/
def ecBase (f e : Nat) : Nat := 0x200200 + 0x1000 * f + 0x40 * e
/-- Counters of engine `e` of Flask `f`. -/
def ecCnt (f e : Nat) : Nat := 0x200400 + 0x1000 * f + 0x10 * e

/-- Flask `f` beside its registers. -/
def State.flask (s : State) (f : Nat) : FlaskUnit := Tbl.get (fun _ => {}) s.flasks f
/-- Flask `f` replaced. -/
def State.setFlask (s : State) (f : Nat) (x : FlaskUnit) : State := { s with flasks := Tbl.put (fun _ => {}) s.flasks f x }
/-- Engine `e` of Flask `f` beside its registers. -/
def State.eng (s : State) (f e : Nat) : EngineUnit := Tbl.get (fun _ => {}) (s.flask f).engines e
/-- Engine `e` of Flask `f` replaced. -/
def State.setEng (s : State) (f e : Nat) (x : EngineUnit) : State :=
  s.setFlask f { s.flask f with engines := Tbl.put (fun _ => {}) (s.flask f).engines e x }

/-- Whether an engine is neither running nor armed (R354). -/
def State.engStopped (s : State) (f e : Nat) : Bool := !(s.eng f e).running && (s.eng f e).armed.isNone
/-- Ring time as Flask `f` reads it. -/
def State.flaskNow (s : State) (f : Nat) : Nat := s.nowAt (8 + f)
/-- PC of an engine. -/
def State.pc (s : State) (f e : Nat) : Nat := s.get (ecBase f e) EC_STAT_PC
/-- Work register `n` of an engine. -/
def State.wreg (s : State) (f e n : Nat) : Nat := (s.rd (ecBase f e + 0x14 + 4 * n)).toNat
/-- Work register `n` of an engine made `v`, modulo 2^32. -/
def State.setWreg (s : State) (f e n v : Nat) : State := s.wr (ecBase f e + 0x14 + 4 * n) (BitVec.ofNat 32 v)

/-! ### Pins -/

/-- Pin of lane `k` (R337). -/
def State.lanePin (s : State) (f e k : Nat) : Nat := bitsOf (s.rd (ecBase f e + 0x0C)) (4 * k) 4
/-- Whether lane `k` is an output. -/
def State.laneOut (s : State) (f e k : Nat) : Bool := bitAt (s.get (ecBase f e) EC_LSTATE_DIR) k
/-- Output latch of lane `k`. -/
def State.laneLatch (s : State) (f e k : Nat) : Bool := bitAt (s.get (ecBase f e) EC_LSTATE_LATCH) k
/-- The lowest output lane of engine `e` that names pin `p` (R337). -/
def State.holdLane (s : State) (f e p : Nat) : Option Nat :=
  (List.range 8).find? fun k => s.laneOut f e k && s.lanePin f e k == p
/-- The engine and lane that drive pin `p` (R338). -/
def State.pinDriver (s : State) (f p : Nat) : Option (Nat × Nat) :=
  (List.range 8).findSome? fun e => (s.holdLane f e p).map fun k => (e, k)
/-- SAFE level of pin `p`: none is high-impedance. -/
def State.pinSafe (s : State) (f p : Nat) : Option Bool :=
  let v := bitsOf (s.rd (flaskBase f + 0x40 + 4 * p)) 0 2
  if v = 1 then some false else if v = 2 then some true else none
/-- The level Flask `f` drives on pin `p`: its lane's latch, its SAFE level while the Flask is fenced or a stop left it
there, nothing otherwise. HELD stops the engines with SAFE (chapter 18). -/
def State.pinDrive (s : State) (f p : Nat) : Option Bool :=
  if s.fenced (.flask f) || s.inHeld then s.pinSafe f p
  else
    match s.pinDriver f p with
    | some (e, k) => some (s.laneLatch f e k)
    | none => if bitAt (s.flask f).safe p then s.pinSafe f p else none

/-- The pins Flask `f` drives, and their levels. -/
def State.driveNow (s : State) (f : Nat) : Nat × Nat :=
  (List.range 16).foldl (fun a p =>
    match s.pinDrive f p with
    | some v => (a.1 + 2 ^ p, a.2 + 2 ^ p * b2n v)
    | none => a) (0, 0)

/-- A change of what Flask `f` drives is kept with its moment; four changes back reach past the synchroniser. -/
def State.driveKeep (s : State) (f : Nat) : State :=
  let x := s.flask f
  let d := s.driveNow f
  match x.drives with
  | (_, m, l) :: _ => if (m, l) = d then s else s.setFlask f { x with drives := ((s.uptime, d.1, d.2) :: x.drives).take 8 }
  | [] => if d = (0, 0) then s else s.setFlask f { x with drives := [(s.uptime, d.1, d.2)] }

/-- The levels an engine reads: those the pins had 5 ns before (R337). -/
def State.pinLevels (s : State) (f : Nat) : Nat :=
  let x := s.flask f
  let d := match x.drives.find? fun t => decide (t.1 + 5 ≤ s.uptime) with | some (_, m, l) => (m, l) | none => (0, 0)
  (List.range 16).foldl (fun a p => a + 2 ^ p * b2n (if bitAt d.1 p then bitAt d.2 p else bitAt x.pads p)) 0

/-- The sampled level of lane `k`. -/
def State.laneLevel (s : State) (f e k : Nat) : Bool := bitAt (s.pinLevels f) (s.lanePin f e k)

/-- Pins that two or more running engines hold as outputs with different latch levels (R338). -/
def State.clashing (s : State) (f : Nat) : Nat :=
  ((List.range 16).filter fun p =>
    let ls := (List.range 8).filterMap fun e =>
      if (s.eng f e).running then (s.holdLane f e p).map fun k => s.laneLatch f e k else none
    ls.contains true && ls.contains false).length

/-- Clashes of the island cycles (2.5 ns) up to now are counted (R338). -/
def State.clashCount (s : State) (f : Nat) : State :=
  let x := s.flask f
  let cycles := (s.uptime * 2 / 5) - (x.clashAt * 2 / 5)
  (s.setFlask f { x with clashAt := s.uptime }).bumpBy (flaskBase f) FLASK_PIN_CLASH (cycles * s.clashing f)

/-! ### Streams and queues -/

/-- Words of an engine's TX queue (R340). -/
def State.txCap (s : State) (f e : Nat) : Nat := 4 * s.get (ecBase f e) EC_STREAM_TXW
/-- Words of an engine's RX queue. -/
def State.rxCap (s : State) (f e : Nat) : Nat := 16 - s.txCap f e
/-- RXDEST of an engine. -/
def State.rxDest (s : State) (f e : Nat) : Nat := s.get (ecBase f e) EC_STREAM_RXDEST
/-- Whether an engine's RX queue is full (R340); the store drains a queue with QUEUE = 0 as words arrive. -/
def State.rxFull (s : State) (f e : Nat) : Bool :=
  s.rxCap f e == 0 || (bitAt (s.rxDest f e) 0 && decide (s.rxCap f e ≤ (s.eng f e).rxq.length))
/-- Whether a word that completes now stalls its instruction. -/
def State.rxStalls (s : State) (f e : Nat) : Bool := s.rxFull f e && !s.flag (ecBase f e) EC_STREAM_RX_DISCARD

/-- Bits the TX stream holds (R339); a stream fed by a slot never falls short. -/
def State.txBits (s : State) (f e : Nat) : Nat :=
  s.get (ecBase f e) EC_STAT_TDN + 32 * (if s.flag (ecBase f e) EC_STREAM_TXSRC then 1 else (s.eng f e).txq.length)

/-- The slot that feeds an engine: the lowest that names it (R340). -/
def State.engSlot (s : State) (f e : Nat) : Option Nat :=
  (s.slotsWhere fun m => m.ckind == 3 && m.cindex == 8 * f + e).head?

/-- The next word of the TX source, and the state in which it is used up (R339, R340). -/
def State.txWord (s : State) (f e : Nat) : Nat × State :=
  if s.flag (ecBase f e) EC_STREAM_TXSRC then
    match s.engSlot f e with
    | some n =>
      let r := s.slotTake n
      (leAt r.1 0 4, r.2)
    | none => (0, s)
  else
    let x := s.eng f e
    match x.txq with
    | [] => (0, s)
    | w :: rest =>
      let t := s.setEng f e { x with txq := rest }
      (w, if rest.isEmpty then t.evt (flaskBase f) FLASK_EVT (8 + e) else t)

/-- The next bit of the TX stream. -/
def State.txBit (s : State) (f e : Nat) : Bool × State :=
  let k := ecBase f e
  let t :=
    if s.get k EC_STAT_TDN = 0 then
      let r := s.txWord f e
      (r.2.wr (k + 0x28) (BitVec.ofNat 32 r.1)).set k EC_STAT_TDN 32
    else s
  let i := 32 - t.get k EC_STAT_TDN
  ((t.rd (k + 0x28)).getLsbD (if t.flag k EC_STREAM_TX_LSB then i else 31 - i), t.set k EC_STAT_TDN (31 - i))

/-- The next `n` bits of the TX stream, the first drawn first. -/
def State.txBitsTake (s : State) (f e : Nat) : Nat → List Bool × State
  | 0 => ([], s)
  | n + 1 =>
    let r := s.txBit f e
    let q := r.2.txBitsTake f e n
    (r.1 :: q.1, q.2)

/-- A word placed in the RX queue and its destinations (R340); one that finds the queue full is discarded and counted. -/
def State.rxPlace (s : State) (f e w : Nat) : State :=
  if s.rxFull f e then s.bump (ecCnt f e) EC_RXQ_DROP
  else
    let d := s.rxDest f e
    let pc := s.pc f e
    let stamp := s.flaskNow f
    let sus := s.suspectAt (8 + f)
    let t := s.bump (ecCnt f e) EC_WORDS
    let t := if bitAt d 0 then
        (t.setEng f e { t.eng f e with rxq := (t.eng f e).rxq ++ [w] }).evt (flaskBase f) FLASK_EVT e
      else t
    let t := if bitAt d 1 then
        t.formRec (0x50 + f) 5 (0x3000 + 8 * f + e) stamp sus false (leBytes 4 w ++ leBytes 2 pc ++ leBytes 6 0)
      else t
    if bitAt d 2 then
      (t.slotsWhere fun m => m.wkind == 4 && m.windex == 8 * f + e).foldl
        (fun (s : State) n => s.slotWrite n (leBytes 4 w) 4 stamp sus false) t
    else t

/-- A bit appended to the RX stream (R339). -/
def State.rxBit (s : State) (f e : Nat) (v : Bool) : State :=
  let k := ecBase f e
  let i := s.get k EC_STAT_RAN
  let w := setBit (s.rd (k + 0x2C)).toNat (if s.flag k EC_STREAM_RX_LSB then i else 31 - i) v
  if i = 31 then ((s.rxPlace f e w).wr (k + 0x2C) 0#32).set k EC_STAT_RAN 0
  else (s.wr (k + 0x2C) (BitVec.ofNat 32 w)).set k EC_STAT_RAN (i + 1)

/-- Bits appended in order. -/
def State.rxBits (s : State) (f e : Nat) (bs : List Bool) : State := bs.foldl (fun s b => s.rxBit f e b) s

/-- The value that bits in stream order rebuild (R339). -/
def bitsValue (lsb : Bool) (bs : List Bool) : Nat :=
  (bs.zip (List.range bs.length)).foldl (fun a p => a + 2 ^ (if lsb then p.2 else bs.length - 1 - p.2) * b2n p.1) 0

/-- The bits of a value in stream order (R339). -/
def valueBits (lsb : Bool) (n v : Nat) : List Bool := (List.range n).map fun k => bitAt v (if lsb then k else n - 1 - k)

/-- FLASK_TXQ_PUSH (R340). -/
def State.txqPush (s : State) (f e w : Nat) : State :=
  let x := s.eng f e
  if s.flag (ecBase f e) EC_STREAM_TXSRC ∨ s.txCap f e ≤ x.txq.length then
    (s.bump (ecCnt f e) EC_TXQ_DROP).evt (flaskBase f) FLASK_EVT 22
  else s.setEng f e { x with txq := x.txq ++ [w] }

/-- The front RX word leaves the queue (R340). -/
def State.engPop (s : State) (f e : Nat) : State := s.setEng f e { s.eng f e with rxq := (s.eng f e).rxq.drop 1 }

/-- Both queues are emptied, each word counted (R347, R351); a TX queue that held words has become empty (TX_EMPTY). -/
def State.flushQ (s : State) (f e : Nat) : State :=
  let x := s.eng f e
  let t := ((s.setEng f e { x with txq := [], rxq := [] }).bumpBy (ecCnt f e) EC_TXQ_DROP x.txq.length).bumpBy (ecCnt f e)
    EC_RXQ_DROP x.rxq.length
  if x.txq.isEmpty then t else t.evt (flaskBase f) FLASK_EVT (8 + e)

/-! ### Tallies -/

/-- Count of tally `t`. -/
def State.tally (s : State) (f t : Nat) : Nat := bitsOf (s.rd (flaskBase f + 8)) (4 * t) 4
/-- Tally `t` made `v`. -/
def State.setTally (s : State) (f t v : Nat) : State :=
  s.wr (flaskBase f + 8) (putBits (s.rd (flaskBase f + 8)) (4 * t) 4 v)
/-- A post (R343): at 15 it is counted only. -/
def State.tallyPost (s : State) (f t : Nat) : State :=
  if s.tally f t = 15 then s.bump (flaskBase f) FLASK_TALLY_SAT else s.setTally f t (s.tally f t + 1)
/-- Clears, then posts, named by masks (R343). -/
def State.tallyCmd (s : State) (f post clr : Nat) : State :=
  (s.each (setBitsOf clr 8) fun s t => s.setTally f t 0).each (setBitsOf post 8) fun s t => s.tallyPost f t

/-! ### Starts and stops -/

/-- The state a load gives an engine (R347). -/
def State.engFresh (s : State) (f e : Nat) : State :=
  let k := ecBase f e
  let t := s.wr (k + 0x10) (BitVec.ofNat 32 (s.get k EC_PROG_ENTRY))
  let t := t.each [0, 1, 2, 3] fun s n => s.setWreg f e n 0
  ((t.wr (k + 0x24) 0#32).wr (k + 0x28) 0#32).wr (k + 0x2C) 0#32

/-- An engine begins now (R348). -/
def State.engRun (s : State) (f e : Nat) : State :=
  let x := s.eng f e
  s.setEng f e { x with running := true, armed := none, stopReq := none }

/-- Engines named by `mask` start, or are armed for a moment of ring time (R348). Those running, and those with no
Pattern, are not started. -/
def State.engStart (s : State) (f mask : Nat) (restart : Bool) (at_ : Option Nat) : State :=
  let t := s.clashCount f
  t.each ((setBitsOf mask 8).filter fun e => s.flag (ecBase f e) EC_PROG_LOADED && !(s.eng f e).running) fun s e =>
    let u := if restart then s.engFresh f e else s
    match at_ with
    | none => u.engRun f e
    | some _ => u.setEng f e { u.eng f e with armed := at_ }

/-- Armed engines whose time has come begin (R348). -/
def State.engArmed (s : State) (f : Nat) : State :=
  let t := s.clashCount f
  t.each ((List.range 8).filter fun e =>
      match (s.eng f e).armed with | some a => decide (a ≤ s.flaskNow f) | none => false) fun s e => s.engRun f e

/-- An engine halts on its instruction with a cause (R344, R349, R351). -/
def State.engHalt (s : State) (f e cause : Nat) : State :=
  let k := ecBase f e
  let t := s.setEng f e { s.eng f e with running := false, armed := none, stopReq := none }
  let t := ((t.set k EC_STOP_STOP_CAUSE cause).set k EC_STOP_STOP_PC (t.pc f e)).set k EC_STAT_STALL_KIND 0
  if cause = 2 ∨ cause = 3 then t.evt (flaskBase f) FLASK_EVT 20 else t

/-- The pins a stop with SAFE releases go to their SAFE level, and their lanes become inputs (R349). -/
def State.engSafe (s : State) (f e : Nat) : State :=
  let pins := (List.range 16).filter fun p => (s.holdLane f e p).isSome
  let t := s.set (ecBase f e) EC_LSTATE_DIR 0
  t.setFlask f { t.flask f with safe := pins.foldl (fun m p => setBit m p true) (t.flask f).safe }

/-- Engines named by `mask` are to stop (R349): an armed one is disarmed at once, a running one stops at its next
engine-cycle boundary. -/
def State.engStop (s : State) (f mask : Nat) (safe : Bool) : State :=
  s.each (setBitsOf mask 8) fun s e =>
    let x := s.eng f e
    if x.running then s.setEng f e { x with stopReq := some (safe || x.stopReq == some true) }
    else if x.armed.isSome then
      let t := s.engHalt f e 1
      if safe then (t.engSafe f e).driveKeep f else t
    else s

/-- The result of FLASK_STOP (Table 12.8). -/
def State.stopResult (s : State) (f mask : Nat) : List Byte :=
  leBytes 1 mask ++ [0#8] ++ (List.range 8).flatMap (fun e => leBytes 2 (s.pc f e)) ++ leBytes 2 0

/-- A FLASK_STOP whose engines have all stopped is answered. -/
def State.stopWake (s : State) (f : Nat) : State :=
  let hit := s.cmd.entries.findSome? fun e =>
    match e.phase with
    | .executing _ (some (.unit a m)) =>
      if pktOp e.packet == 0x0802 && a == f && (setBitsOf m 8).all (fun i => !(s.eng f i).running) then some (e.key, m)
      else none
    | _ => none
  match hit with
  | some (k, m) => s.reply k 0 (s.stopResult f m)
  | none => s

/-- A stop takes effect at the engine-cycle boundary (R349). -/
def State.engStopTaken (s : State) (f e : Nat) : State :=
  let x := s.eng f e
  match x.stopReq with
  | some safe =>
    if !x.running then s
    else
      let t := (s.clashCount f).engHalt f e 1
      let t := if safe then t.engSafe f e else t
      (t.driveKeep f).stopWake f
  | none => s

/-! ### Pattern loads -/

/-- Bits an instruction of an opcode may have set beside the opcode (Table 12.2). -/
def flaskMask (op : Nat) : Nat :=
  match op with
  | 0x00 => 0x3FF | 0x01 => 0x07F003FF | 0x02 => 0x001003FF | 0x03 => 0x0010FFFF | 0x04 => 0x01700000
  | 0x05 => 0x01FF00FF | 0x06 => 0x00FF0000 | 0x07 => 0x00FF0000 | 0x08 => 0x0030003F | 0x09 => 0x0070003F
  | 0x0A => 0 | 0x0B => 0 | 0x0C => 0x003FFFFF | 0x0D => 0x07BCFFFF | 0x0E => 0x00300000 | 0x0F => 0x01300000
  | 0x10 => 0x00300000 | 0x11 => 0x03000007 | 0x12 => 0x00300000 | _ => 0

/-- Opcode of a Pattern word. -/
def flaskOp (w : Nat) : Nat := w / 2 ^ 27 % 32
/-- Bits `[lo + n - 1 : lo]` of a Pattern word. -/
def fw (w lo n : Nat) : Nat := w / 2 ^ lo % 2 ^ n

/-- Whether a word is an instruction (R336). -/
def flaskWordOk (w : Nat) : Bool :=
  let op := flaskOp w
  let rest := w % 2 ^ 27
  decide (op ≤ 0x12) && (rest &&& flaskMask op) == rest
    && (match op with
        | 0x01 => let c := fw w 23 4
                  let sel := fw w 20 3
                  decide (c ≤ 10) && (if c = 4 ∨ c = 5 then decide (sel ≤ 3) else if 6 ≤ c then sel == 0 else true)
        | 0x05 => fw w 16 8 != 0
        | 0x06 => fw w 16 8 != 0
        | 0x07 => fw w 16 8 != 0
        | 0x08 => decide (1 ≤ fw w 0 6 ∧ fw w 0 6 ≤ 32)
        | 0x09 => decide (1 ≤ fw w 0 6 ∧ fw w 0 6 ≤ 32) && decide (fw w 20 3 ≤ 5)
        | 0x11 => decide (fw w 24 2 ≤ 2)
        | _ => true)

/-- Whether a stream configuration is allowed (R347). -/
def streamOk (w : Nat) : Bool := decide (fw w 2 3 ≤ 4) && !(fw w 2 3 == 4 && fw w 8 3 != 0)

/-- Words of a Pattern image. -/
def patWords (im : List Byte) : List Nat := (List.range (leAt im 6 2)).map fun i => leAt im (32 + 4 * i) 4

/-- Whether an image is a Pattern (R345). -/
def patternOk (im : List Byte) : Bool :=
  let n := leAt im 6 2
  let entry := leAt im 8 2
  let low := leAt im 10 2
  let high := leAt im 12 2
  leAt im 0 4 == 0x54415046 && leAt im 4 2 == 1 && decide (1 ≤ n ∧ n ≤ 1024) && im.length == 32 + 4 * n
    && crc32c (zeroAt im 28 4) == leAt im 28 4
    && decide (low ≤ entry ∧ entry ≤ high ∧ high < n)
    && (patWords im).all (fun w => flaskWordOk w && (!(decide (flaskOp w ≤ 2)) || decide (fw w 0 10 < n)))
    && streamOk (leAt im 16 4)

/-- Whether a range of Pattern memory overlaps that of a running or armed engine, or a named engine is not stopped
(R347). -/
def State.loadBlocked (s : State) (f mask dest n : Nat) : Bool :=
  (List.range 8).any fun e =>
    !s.engStopped f e && (bitAt mask e
      || (decide (dest ≤ s.get (ecBase f e) EC_PROG_HIGH) && decide (s.get (ecBase f e) EC_PROG_LOW < dest + n)))

/-- The image at a source (R346): from the Pattern library (partition 6) or the host partition; none when the range lies
outside its partition. -/
def State.patImage (s : State) (host : Bool) (off : Nat) : Option (List Byte) :=
  let base := if host then off else s.partBase 6 + off
  let ok n := if host then s.inHost base n else decide (off + n ≤ s.partSize 6)
  if !ok 32 then none
  else
    let n := leAt (s.load base 8) 6 2
    if n = 0 ∨ 1024 < n then some (s.load base 32)
    else if ok (32 + 4 * n) then some (s.load base (32 + 4 * n)) else none

/-- Why a load is refused, as FLASK_PLOAD_STAT codes it: 5 BAD_ADDR, 3 BAD_PATTERN, 4 PMEM_RANGE, 2 ENGINE_NOT_STOPPED;
or the load. -/
def State.loadCheck (s : State) (f : Nat) (host : Bool) (off dest mask : Nat) (flush conf byCmd : Bool) : Nat ⊕ PLoad :=
  match s.patImage host off with
  | none => .inl 5
  | some im =>
    if !patternOk im then .inl 3
    else if 1024 < dest + leAt im 6 2 then .inl 4
    else if s.loadBlocked f mask dest (leAt im 6 2) then .inl 2
    else .inr { image := im, dest := dest, mask := mask, flush := flush, conf := conf, byCmd := byCmd }

/-- A word relocated to DEST (R346). -/
def relocate (dest w : Nat) : Nat := if flaskOp w ≤ 2 then w + dest else w

/-- The words of a load are placed in Pattern memory. -/
def State.pmemPut (s : State) (f dest : Nat) (ws : List Nat) : State :=
  let x := s.flask f
  let put (m : Tbl Nat) (p : Nat × Nat) : Tbl Nat := Tbl.put (fun _ => 0) m ((dest + p.2) % 1024) p.1
  s.setFlask f { x with pmem := (ws.zip (List.range ws.length)).foldl put x.pmem }

/-- Pins that an engine now drives leave their safe level (R349). -/
def State.safeEnds (s : State) (f : Nat) : State :=
  let held (v p : Nat) : Nat := if (s.pinDriver f p).isSome then setBit v p false else v
  s.setFlask f { s.flask f with safe := (List.range 16).foldl held (s.flask f).safe }

/-- A load's effect on one engine it names (R346, R347). -/
def State.loadEngine (s : State) (f e : Nat) (l : PLoad) : State :=
  let k := ecBase f e
  let im := l.image
  let t := s.wr (k + 4) (BitVec.ofNat 32
    ((leAt im 8 2 + l.dest) + 2 ^ 10 * (leAt im 10 2 + l.dest) + 2 ^ 20 * (leAt im 12 2 + l.dest) + 2 ^ 31))
  let t := if l.conf then
      let t := (t.wr (k + 8) (BitVec.ofNat 32 (leAt im 16 4 &&& 0x77F))).wr (k + 0x0C) (BitVec.ofNat 32 (leAt im 20 4))
      let t := t.wr k (BitVec.ofNat 32 (leAt im 24 4 % 65536))
      ((t.set k EC_LSTATE_DIR (leAt im 14 1)).set k EC_LSTATE_LATCH (leAt im 15 1)).safeEnds f
    else t
  let t := t.engFresh f e
  if l.flush then t.flushQ f e else t

/-- A Pattern load commits in one cycle, or is refused since an engine started (R347). -/
def State.loadCommit (s : State) (f : Nat) : State :=
  let x := s.flask f
  match x.loads with
  | [] => s
  | l :: rest =>
    let t := s.setFlask f { x with loads := rest }
    let n := leAt l.image 6 2
    let t := if l.byCmd then t else t.set (flaskBase f) FLASK_PLOAD_STAT_BUSY 0
    if t.loadBlocked f l.mask l.dest n then
      if l.byCmd then t.wake 0x0800 f 0 0x31 [] else t.set (flaskBase f) FLASK_PLOAD_STAT_RESULT 2
    else
      let t := t.pmemPut f l.dest ((patWords l.image).map (relocate l.dest))
      let t := (t.each (setBitsOf l.mask 8) fun s e => s.loadEngine f e l).driveKeep f
      let t := t.bump (flaskBase f) FLASK_LOADS
      if l.byCmd then t.wake 0x0800 f 0 0 (leBytes 2 n ++ leBytes 2 (leAt l.image 8 2 + l.dest))
      else t.set (flaskBase f) FLASK_PLOAD_STAT_RESULT 1

/-- FLASK_PLOAD_CMD is written (R346): ignored while BUSY. -/
def State.ploadWrite (s : State) (f : Nat) (cmd : Word) : State :=
  let b := flaskBase f
  if !cmd.getLsbD 31 ∨ s.flag b FLASK_PLOAD_STAT_BUSY then s
  else
    match s.loadCheck f (cmd.getLsbD 24) (s.get b FLASK_PLOAD_SRC_OFFSET) (bitsOf cmd 0 10) (bitsOf cmd 16 8)
        (cmd.getLsbD 25) (cmd.getLsbD 26) false with
    | .inl r => s.set b FLASK_PLOAD_STAT_RESULT r
    | .inr l => (s.setFlask f { s.flask f with loads := (s.flask f).loads ++ [l] }).set b FLASK_PLOAD_STAT_BUSY 1

/-! ### Engine cycles -/

/-- What an engine cycle comes to: the instruction stalls with a STALL_KIND, completes and goes on at the next address,
or jumps. -/
inductive FlaskRes where
  | stall (kind : Nat)
  | next (s : State)
  | jump (target : Nat) (s : State)
  deriving DecidableEq, Repr

/-- A jump outside LOW to HIGH stops the engine (R344). -/
def State.badJump (s : State) (f e target : Nat) : State :=
  (s.engHalt f e 2).raise .flaskBadJump (srcEngine f e) 0 (leBytes 2 (s.pc f e) ++ leBytes 2 target)

/-- An instruction completes at address `a`. -/
def State.engAt (s : State) (f e a : Nat) : State :=
  ((s.set (ecBase f e) EC_STAT_PC a).set (ecBase f e) EC_STAT_STALL_KIND 0).driveKeep f

/-- One engine cycle of an instruction with opcode `op` (R335, R344, R350): a requested stop wins over it; a word with bad
parity raises its fault; a cycle whose instruction is another does nothing here. -/
def State.engCycle (s : State) (f e op : Nat) (x : FlaskIn) (body : State → Nat → FlaskRes) : State :=
  let k := ecBase f e
  if !(s.eng f e).running ∨ (s.eng f e).stopReq.isSome ∨ s.fenced (.flask f) ∨ s.inHeld then s
  else
    let pc := s.pc f e
    let w := Tbl.get (fun _ => 0) (s.flask f).pmem pc
    if x.flipped then s.raise .flaskPmemParity (srcIsland (8 + f)) 0 (leBytes 2 pc)
    else if flaskOp w ≠ op then s
    else
      let t := s.clashCount f
      let t := t.setFlask f { t.flask f with pads := x.pins.toNat }
      match body t w with
      | .stall n => t.set k EC_STAT_STALL_KIND n
      | .next u =>
        let a := if pc = u.get k EC_PROG_HIGH then u.get k EC_PROG_LOW else (pc + 1) % 1024
        u.engAt f e a
      | .jump a u =>
        if a < u.get k EC_PROG_LOW ∨ u.get k EC_PROG_HIGH < a then u.badJump f e a else u.engAt f e a

/-- Whether the condition of an IF holds (Table 12.2). -/
def State.flaskCond (s : State) (f e c sel : Nat) : Bool :=
  match c with
  | 0 => s.laneLevel f e sel
  | 1 => !s.laneLevel f e sel
  | 2 => s.tally f sel != 0
  | 3 => s.tally f sel == 0
  | 4 => s.wreg f e sel == 0
  | 5 => s.wreg f e sel != 0
  | 6 => s.wreg f e 0 == s.wreg f e 1
  | 7 => decide (s.wreg f e 0 < s.wreg f e 1)
  | 8 => decide (32 ≤ s.txBits f e)
  | 9 => s.txBits f e == 0
  | _ => s.get (ecBase f e) EC_STAT_RAN == 0

/-- LOOP (Table 12.2). -/
def State.flaskLoop (s : State) (f e w : Nat) : FlaskRes :=
  let fld := if fw w 20 1 = 0 then EC_K_K0 else EC_K_K1
  let n := s.get (ecBase f e) fld
  if 0 < n then .jump (fw w 0 10) (s.set (ecBase f e) fld (n - 1)) else .next s

/-- DRIVE (Table 12.2). -/
def State.flaskDrive (s : State) (f e w : Nat) : State :=
  let fld := if fw w 24 1 = 0 then EC_LSTATE_LATCH else EC_LSTATE_DIR
  let m := fw w 16 8
  let old := s.get (ecBase f e) fld
  let t := s.set (ecBase f e) fld ((List.range 8).foldl (fun v k => if bitAt m k then setBit v k (bitAt w k) else v) old)
  t.safeEnds f

/-- Latches of the lanes in a mask, set from bits in order. -/
def putLanes : Nat → List Nat → List Bool → Nat
  | v, k :: ks, b :: bs => putLanes (setBit v k b) ks bs
  | v, _, _ => v

/-- SEND (Table 12.2). -/
def State.flaskSend (s : State) (f e w : Nat) : FlaskRes :=
  let ks := setBitsOf (fw w 16 8) 8
  if s.txBits f e < ks.length then .stall 2
  else
    let r := s.txBitsTake f e ks.length
    .next (r.2.set (ecBase f e) EC_LSTATE_LATCH (putLanes (r.2.get (ecBase f e) EC_LSTATE_LATCH) ks r.1))

/-- Bits are appended unless the word they complete finds no place (R339, R340). -/
def State.flaskAppend (s : State) (f e : Nat) (bs : List Bool) : FlaskRes :=
  if 32 ≤ s.get (ecBase f e) EC_STAT_RAN + bs.length ∧ s.rxStalls f e then .stall 3 else .next (s.rxBits f e bs)

/-- DRAW (Table 12.2). -/
def State.flaskDraw (s : State) (f e w : Nat) : FlaskRes :=
  let n := fw w 0 6
  if s.txBits f e < n then .stall 2
  else
    let r := s.txBitsTake f e n
    .next (r.2.setWreg f e (fw w 20 2) (bitsValue (s.flag (ecBase f e) EC_STREAM_TX_LSB) r.1))

/-- FEED (Table 12.2). -/
def State.flaskFeed (s : State) (f e w : Nat) : FlaskRes :=
  let src := fw w 20 3
  let v := if src < 4 then s.wreg f e src else if src = 4 then 0 else 2 ^ 32 - 1
  s.flaskAppend f e (valueBits (s.flag (ecBase f e) EC_STREAM_RX_LSB) (fw w 0 6) v)

/-- SEAL (Table 12.2). -/
def State.flaskSeal (s : State) (f e : Nat) : FlaskRes :=
  let k := ecBase f e
  if s.get k EC_STAT_RAN = 0 then .next s
  else if s.rxStalls f e then .stall 3
  else .next (((s.rxPlace f e (s.rd (k + 0x2C)).toNat).wr (k + 0x2C) 0#32).set k EC_STAT_RAN 0)

/-- ALU (Table 12.2). -/
def State.flaskAlu (s : State) (f e w : Nat) : State :=
  let d := fw w 20 2
  let a := BitVec.ofNat 32 (s.wreg f e d)
  let v := BitVec.ofNat 32 (if fw w 23 1 = 1 then fw w 0 16 else s.wreg f e (fw w 18 2))
  let r := match fw w 24 3 with
    | 0 => a + v | 1 => a - v | 2 => a &&& v | 3 => a ||| v | 4 => a ^^^ v | 5 => v
    | 6 => a <<< (v.toNat % 32) | _ => a >>> (v.toNat % 32)
  s.setWreg f e d r.toNat

/-- STAMP (Table 12.2, R341). -/
def State.flaskStamp (s : State) (f e w : Nat) : FlaskRes :=
  let t := shortStamp (s.flaskNow f)
  if fw w 24 1 = 0 then .next (s.setWreg f e (fw w 20 2) t)
  else if s.rxStalls f e then .stall 3
  else .next (s.rxPlace f e t)

/-- AT (R342), in half nanoseconds: it completes in the first cycle that ends at or after its target; one that finds the
target more than a cycle in the past counts as late. -/
def State.flaskAt (s : State) (f e w : Nat) : FlaskRes :=
  let now := 2 * shortStamp (s.flaskNow f)
  let tgt := 2 * s.wreg f e (fw w 20 2)
  let c := 5 * (s.get (ecBase f e) EC_CLK_DIV + 1)
  if (now + c + 2 ^ 33 - tgt) % 2 ^ 33 < 2 ^ 32 then
    if c < (now + 2 ^ 33 - tgt) % 2 ^ 33 ∧ (now + 2 ^ 33 - tgt) % 2 ^ 33 < 2 ^ 32 then
      .next ((s.bump (ecCnt f e) EC_AT_LATE).evt (flaskBase f) FLASK_EVT 21)
    else .next s
  else .stall 4

/-- TALLY (Table 12.2, R343). -/
def State.flaskTally (s : State) (f w : Nat) : FlaskRes :=
  let t := fw w 0 3
  match fw w 24 2 with
  | 0 => .next (let u := s.tallyPost f t
                if 4 ≤ t then u.evt (flaskBase f) FLASK_EVT (12 + t) else u)
  | 1 => if s.tally f t = 0 then .stall 5 else .next (s.setTally f t (s.tally f t - 1))
  | _ => .next (s.setTally f t 0)

/-! ### Fencing -/

/-- A Flask is fenced (R351): engines stop with cause 3, queues are emptied and counted, loads in progress end. -/
def State.flaskFence (s : State) (f : Nat) : State :=
  let t := s.clashCount f
  let t := t.each (List.range 8) fun s e => (if s.engStopped f e then s else s.engHalt f e 3).flushQ f e
  (t.setFlask f { t.flask f with loads := [] }).driveKeep f

/-- A Flask is reset (R351): Pattern memory cleared, registers at their reset values; `keepPins` keeps FLASK_PIN. -/
def State.flaskReset (s : State) (f : Nat) (keepPins : Bool) : State :=
  let b := flaskBase f
  let t := s.resetRange b (b + 0x1000) fun a => keepPins && decide (b + 0x40 ≤ a) && decide (a < b + 0x80)
  t.setFlask f { pads := (s.flask f).pads, clashAt := s.uptime }

end Sys2Proof.Machine
end

