-- ==== Sys2Proof/Machine/SafetyOps.lean ====
section
/-! DEFINITION. The Crucible's vote and lanes, and the safety functions (R456 to R481). -/

namespace Sys2Proof.Machine

open Sys2Proof (LaneWord LaneWords CmdKey)

/-- The CRUC block (R481). -/
def crucBase : Nat := 0x780000
/-- CRUC_ASSAY of lane `l`. -/
def assayBase (l : Nat) : Nat := 0x780010 + 4 * l

/-- The Crucible beside its registers, changed. -/
def State.withCruc (s : State) (f : CrucBlock → CrucBlock) : State := { s with cruc := f s.cruc }

/-! ### The functions -/

/-- Channels function `i` names. -/
def State.sfChannels (s : State) (i : Nat) : List Nat := (List.range 64).filter fun c => s.sfNamesPch i c

/-- Backup lines function `i` names: those of SF-P's channels. -/
def State.sfBackups (s : State) (i : Nat) : List Nat :=
  if i = 2 then (s.sfChannels 2).filterMap fun c => s.sfBackup c else []

/-- Input lines of SF-A and the test lines of its tested inputs. -/
def State.sfInLines (s : State) (i : Nat) : List Nat :=
  if i = 1 then
    s.sfInputs.flatMap fun k =>
      let w := s.sfInWord k
      bitsOf w 0 8 :: (if w.getLsbD 10 then [bitsOf w 16 8] else [])
  else []

/-- The lines function `i` names (R466). -/
def State.sfLines (s : State) (i : Nat) : List Nat := s.sfOutLines i ++ s.sfInLines i ++ s.sfBackups i

/-- Whether the functions run: not in HELD, not between a warm reset and their resumption (R473). -/
def State.sfRuns (s : State) : Bool := !s.inHeld && !s.cruc.paused

/-- Ring time as the Crucible stamps it. -/
def State.crucNow (s : State) : Nat := s.nowAt 3

/-- A SAFETY record of function `i` (Table 9.3): action 0 armed, 1 triggered, 2 safe state reached, 3 released. -/
def State.sfRecord (s : State) (i action stamp : Nat) : State :=
  s.formRec 0x70 8 (0x6000 + i) stamp (s.suspectAt 3) false (leBytes 1 i ++ leBytes 1 action ++ leBytes 10 0)

/-- Result bytes of SAFE_EMERGENCY: SF_CTRL (Table 17.10). -/
def State.sfCtrlBytes (s : State) (i : Nat) : List Byte := leBytes 4 (s.rd (sfBase i)).toNat

/-- Pending schedule entries of some lines are discarded (R467). -/
def State.linesDrop (s : State) (ls : List Nat) : State :=
  s.each [0, 1, 2] fun s b => s.schedDrop b fun j => j / 64 == b && ls.contains j

/-- Whether output transactions wait (R459, R462, R464). -/
def State.votesWait (s : State) : Bool :=
  s.cruc.holdAt.isSome || s.flag crucBase CRUC_STAT_ASSAY_HOLD || s.flag crucBase CRUC_STAT_RESYNC

/-- Function `i` (0 SF-E, 1 SF-A) is triggered (R467): a function already triggered, disarmed or not running keeps as it
is. A trigger found while the Crucible's outputs are held waits for their release (R459). -/
def State.sfTrigger (s : State) (i cause stamp : Nat) : State :=
  if 2 ≤ i ∨ !s.sfArmed i ∨ s.sfTriggered i ∨ !s.sfRuns then s
  else if s.votesWait then s.withCruc fun c => { c with waits := c.waits ++ [(i, cause, stamp)] }
  else
    let b := sfBase i
    let t := ((s.set b SF_CTRL_TRIGGERED 1).set b SF_CTRL_SAFE 0).set b SF_CTRL_CAUSE cause
    let t := (t.bump crucBase (if i = 0 then SF_TRIGGERS_E else SF_TRIGGERS_A)).evt crucBase CRUC_EVT 3
    let t := (t.withCruc fun c => { c with confirm := c.confirm ++ [i] }).linesDrop (s.sfOutLines i)
    let t := t.each ((s.sfChannels i).filter fun c => decide (c < s.nPch)) fun s c => s.pchFollow c 1
    t.sfRecord i 1 stamp

/-- An SF-P hold of a named channel (R470): 8 a failed trip test, 9 FET_SHORT. A hold that arises while the functions are
stopped by a warm reset waits for them (R473), and one that arises while outputs are held for their release (R459). -/
def State.sfHold (s : State) (c cause : Nat) : State :=
  if !s.sfArmed 2 ∨ !s.sfNamesPch 2 c ∨ s.pchHold c ∨ s.inHeld then s
  else if s.cruc.paused || s.votesWait then s.withCruc fun x => { x with later := x.later ++ [(c, cause)] }
  else
    let st := s.pchState c
    let t := s.withCruc fun x =>
      { x with holds := x.holds ++ [(c, cause, false)]
               confirm := if x.confirm.contains 2 then x.confirm else x.confirm ++ [2] }
    let t := t.set (sfBase 2) SF_CTRL_CAUSE cause
    let t := match t.sfBackup c with
      | some j => (t.bump crucBase SF_BACKUP_OPENS).linesDrop [j]
      | none => t
    let t := t.pchFollow c 1
    if t.pchState c = st then t.pchRecord c 1 else t

/-- A Safety-class fault reaches the Crucible (R470, R490): a failed trip test or FET_SHORT of a channel SF-P names holds
it; every other is reported only. -/
def State.sfFault (s : State) (r : Raised) : State :=
  match r.kind with
  | .pchFetShort => s.sfHold (r.source % 256) 9
  | .pedieTripTest => s.sfHold (r.source % 256) 8
  | _ => s

/-- The units confirm function `i`'s commanded states (R467). -/
def State.sfConfirm (s : State) (i : Nat) : State :=
  if !s.cruc.confirm.contains i ∨ !s.sfRuns then s
  else
    let t := s.withCruc fun c => { c with confirm := c.confirm.filter (· != i) }
    if i = 2 then
      let t := t.withCruc fun c => { c with holds := c.holds.map fun h => (h.1, h.2.1, true) }
      if t.cruc.holds.isEmpty ∨ t.flag (sfBase 2) SF_CTRL_SAFE then t
      else (t.set (sfBase 2) SF_CTRL_SAFE 1).evt crucBase CRUC_EVT 4
    else if !s.sfTriggered i then t
    else
      let t := ((t.set (sfBase i) SF_CTRL_SAFE 1).evt crucBase CRUC_EVT 4).sfRecord i 2 t.crucNow
      t.wake 0x0D03 i 0 0 (t.sfCtrlBytes i)

/-! ### Conditions -/

/-- Whether some ring port is UP. -/
def State.anyRingUp (s : State) : Bool := s.ringUp 0 || s.ringUp 1

/-- When function `i` was armed. -/
def State.sfArmedAt (s : State) (i : Nat) : Nat := Tbl.get (fun _ => 0) s.cruc.armedAt i

/-- Ring loss (R468). -/
def State.ringLost (s : State) : Bool :=
  let ms := s.get (sfBase 0) SF_PARAM0_LOW
  let sup := s.get (sfBase 0) SF_PARAM0_HIGH % 256
  let last := if sup = 0 then s.cruc.upAt else s.cruc.supAt
  !(sup == 0 && s.anyRingUp) && decide (max (s.sfArmedAt 0) last + 1000000 * ms ≤ s.uptime)

/-- Heartbeat lapse (R468). -/
def State.hbLapsed (s : State) : Bool :=
  s.flag (sfBase 0) SF_PARAM1_HB_EN
    && decide (max (s.sfArmedAt 0) s.cruc.hbAt + 1000000 * s.get (sfBase 0) SF_PARAM1_HB_MS ≤ s.uptime)

/-- GEN of the heartbeat slot. -/
def State.hbGenNow (s : State) : Nat := leAt (s.slotImage (s.get (sfBase 0) SF_PARAM1_HB_SLOT)) 58 2

/-- A change of the heartbeat slot's GEN is noted (R457, R468). -/
def State.hbWatch (s : State) : State :=
  if s.sfArmed 0 ∧ s.flag (sfBase 0) SF_PARAM1_HB_EN ∧ s.hbGenNow ≠ s.cruc.hbGen then
    s.withCruc fun c => { c with hbGen := s.hbGenNow, hbAt := s.uptime }
  else s

/-- Inputs of SF-A at their trigger level (R469). -/
def State.sfDemands (s : State) : Bool :=
  s.sfInputs.any fun k => (s.line (bitsOf (s.sfInWord k) 0 8)).acc == (s.sfInWord k).getLsbD 9

/-- Whether the bank of an input of SF-A is fenced. -/
def State.sfBankDown (s : State) : Bool := s.sfInputs.any fun k => s.fenced (.dioBank (bitsOf (s.sfInWord k) 0 8 / 64))

/-- Whether the Crucible is in single-lane operation (R463). -/
def State.singleLane (s : State) : Bool := s.get crucBase CRUC_STAT_MODE == 2

/-- Whether a demand on function `i` still holds (R471). -/
def State.sfDemanded (s : State) (i : Nat) : Bool :=
  s.singleLane ||
    (if i = 0 then s.ringLost || s.hbLapsed
     else if i = 1 then
       s.sfDemands || s.sfBankDown || s.sfInputs.any fun k => s.cruc.failed.contains (bitsOf (s.sfInWord k) 0 8)
     else s.cruc.holds.any fun h =>
       s.flag (pchBase h.1) PCH_STAT_FET_SHORT || s.cruc.tripBad.contains (2 * h.1)
         || s.cruc.tripBad.contains (2 * h.1 + 1))

/-- The kept latch value of a line (R466). -/
def State.keptLatch (s : State) (j : Nat) : Bool :=
  match s.cruc.copies.find? fun c => c.line == j with | some c => c.latch | none => s.latch j

/-- Function `i` is released (R471): channels return to their commanded state, lines to their kept latch value. -/
def State.sfRelease (s : State) (i : Nat) : State :=
  let b := sfBase i
  let was := if i = 2 then !s.cruc.holds.isEmpty else s.sfTriggered i
  if !was then s
  else
    let held := s.cruc.holds.map (·.1)
    let cs := if i = 2 then held else (s.sfChannels i).filter fun c => decide (c < s.nPch)
    let ls := if i = 2 then held.filterMap fun c => s.sfBackup c else s.sfOutLines i
    let t := ((s.set b SF_CTRL_TRIGGERED 0).set b SF_CTRL_SAFE 0).set b SF_CTRL_CAUSE 0
    let t := t.withCruc fun c =>
      { c with confirm := c.confirm.filter (· != i), holds := if i = 2 then [] else c.holds }
    let t := t.each ls fun s j => if s.lineTaken j then s else s.setLatch j (s.keptLatch j)
    let t := t.each cs fun s c => s.pchFollow c 0
    (t.evt crucBase CRUC_EVT 5).sfRecord i 3 t.crucNow

/-! ### Arming -/

/-- Whether a line is one the part holds. -/
def State.lineThere (s : State) (j : Nat) : Bool := decide (j < s.nDio)

/-- A named output or backup line that is not fit (R466). -/
def State.outBad (s : State) (j : Nat) : Bool :=
  !s.lineThere j || decide (s.lineMode j < 2) || s.flag (lineBase j) DIO_LCFG_PWM || (s.wireTo j).isSome

/-- An input whose test settings are wrong (R466). -/
def State.testBad (s : State) (k : Nat) : Bool :=
  let w := s.sfInWord k
  let j := bitsOf w 0 8
  let kind := s.get (lineBase j) DIO_LFILT_KIND
  w.getLsbD 10 && ((kind != 1 && kind != 2)
    || decide (10 * s.get (lineBase j) DIO_LFILT_TIME < 2000 * s.get (sfBase 1) SF_PARAM0_HIGH)
    || !s.lineThere (bitsOf w 16 8) || s.lineMode (bitsOf w 16 8) != 2)

/-- The arming checks (R466, Table 17.10): REASON and the unit at fault, (0, 255) when all pass. -/
def State.sfCheck (s : State) (i : Nat) : Nat × Nat :=
  let chanBad := (s.sfChannels i).find? fun c => decide (s.nPch ≤ c) || s.fenced (.pedie (c / 32))
  let outBad := (s.sfOutLines i ++ s.sfBackups i).find? s.outBad
  let ins := if i = 1 then s.sfInputs else []
  let inBad := ins.find? fun k =>
    let j := bitsOf (s.sfInWord k) 0 8
    !s.lineThere j || s.lineMode j != 1 || s.fenced (.dioBank (j / 64))
  let testBad := ins.find? s.testBad
  let nothing := ((s.sfChannels i).isEmpty && (i == 2 || (s.sfOutLines i).isEmpty)) || (i == 1 && s.sfInputs.isEmpty)
  match chanBad, outBad, inBad, testBad with
  | some c, _, _, _ => (1, c)
  | _, some j, _, _ => (2, j)
  | _, _, some k, _ => (3, bitsOf (s.sfInWord k) 0 8)
  | _, _, _, some k => (4, bitsOf (s.sfInWord k) 0 8)
  | none, none, none, none =>
    if nothing then (5, 255)
    else if i = 0 ∧ s.flag (sfBase 0) SF_PARAM1_HB_EN ∧ (s.slotMap (s.get (sfBase 0) SF_PARAM1_HB_SLOT)).wkind ≠ 1 then
      (6, 255)
    else (0, 255)

/-- The copy of a named line (R466). -/
def State.copyOf (s : State) (j : Nat) : LineCopy :=
  { line := j, lcfg := s.rd (lineBase j), lfilt := s.rd (lineBase j + 4), lcmp := s.rd (lineBase j + 8), latch := s.latch j }

/-- Function `i` is armed (R466, R469). -/
def State.sfArm (s : State) (i : Nat) : State :=
  let t := (s.set (sfBase i) SF_CTRL_ARMED 1).withCruc fun c =>
    { c with armedAt := Tbl.put (fun _ => 0) c.armedAt i s.uptime
             copies := (s.sfLines i).foldl (fun cs j => if cs.any fun x => x.line == j then cs else cs ++ [s.copyOf j]) c.copies
             hbGen := if i = 0 then s.hbGenNow else c.hbGen
             hbAt := if i = 0 then s.uptime else c.hbAt
             failed := if i = 1 then [] else c.failed
             pulse := if i = 1 then none else c.pulse
             pulseAt := if i = 1 then s.uptime else c.pulseAt }
  let t := t.sfRecord i 0 t.crucNow
  if i = 1 ∧ t.sfDemands then t.sfTrigger 1 4 t.crucNow else t

/-- Function `i` is disarmed (R479): a test line rests at the level opposite its TRIG_LEVEL. -/
def State.sfDisarm (s : State) (i : Nat) : State :=
  let rests := if i = 1 then (s.sfInputs.filter fun k => (s.sfInWord k).getLsbD 10).map fun k =>
      (bitsOf (s.sfInWord k) 16 8, !(s.sfInWord k).getLsbD 9) else []
  let t := s.set (sfBase i) SF_CTRL_ARMED 0
  let t := rests.foldl (fun (s : State) p => s.setLatch p.1 p.2) t
  t.withCruc fun c =>
    { c with copies := c.copies.filter fun x => t.lineSafety x.line
             pulse := if i = 1 then none else c.pulse
             failed := if i = 1 then [] else c.failed }

/-- A write to a function's registers while it is armed (R466): discarded, counted, recorded. -/
def State.sfWriteDrop (s : State) (i v : Nat) : State :=
  (s.bump crucBase CRUC_SF_WDROP).raise .safetyConfigWrite (srcSf i) 0 (leBytes 4 v)

/-! ### The safety task -/

/-- The Crucible acts on the next safety input in q33 (R457, R469). Inputs wait while a lane resynchronises (R464). -/
def State.safetyInput (s : State) : State :=
  if !s.sfRuns ∨ s.flag crucBase CRUC_STAT_RESYNC then s
  else
    match s.cruc.inputs with
    | [] => s
    | (j, stamp, level) :: rest =>
      let t := s.withCruc fun c => { c with inputs := rest }
      if t.sfInputs.any fun k => bitsOf (t.sfInWord k) 0 8 == j && (t.sfInWord k).getLsbD 9 == level then
        t.sfTrigger 1 4 stamp
      else t

/-- The time-based conditions are evaluated (R457, R468). -/
def State.safetyTick (s : State) : State :=
  if s.ringLost then s.sfTrigger 0 2 s.crucNow else if s.hbLapsed then s.sfTrigger 0 3 s.crucNow else s

/-- A DIO bank with a named input was fenced (R465). -/
def State.sfBankFenced (s : State) (b : Nat) : State :=
  if s.sfInputs.any fun k => bitsOf (s.sfInWord k) 0 8 / 64 == b then s.sfTrigger 1 6 s.crucNow else s

/-- Tested inputs of SF-A. -/
def State.sfTested (s : State) : List Nat := s.sfInputs.filter fun k => (s.sfInWord k).getLsbD 10

/-- A test pulse begins (R469). -/
def State.testPulse (s : State) : State :=
  if !s.sfArmed 1 ∨ !s.sfRuns ∨ s.sfTested.isEmpty ∨ s.cruc.pulse.isSome
      ∨ s.uptime < s.cruc.pulseAt + 1000 * s.get (sfBase 1) SF_PARAM0_LOW then s
  else s.withCruc fun c => { c with pulse := some s.uptime, pulseAt := s.uptime }

/-- The test of input `k` ends (R469): its line's synchronised pad level must be TRIG_LEVEL. -/
def State.testJudge (s : State) (k : Nat) : State :=
  let w := s.sfInWord k
  let j := bitsOf w 0 8
  let pad := (s.line j).pad
  if pad = w.getLsbD 9 then s.withCruc fun c => { c with failed := c.failed.filter (· != j) }
  else
    let t := s.withCruc fun c => { c with failed := if c.failed.contains j then c.failed else c.failed ++ [j] }
    let t := (t.bump crucBase SF_TEST_FAILS).evt crucBase CRUC_EVT 6
    (t.raise .sfInputTest (srcLine j) 0 (leBytes 1 (bitsOf w 16 8) ++ leBytes 1 (b2n pad))).sfTrigger 1 5 t.crucNow

/-- The test pulse ends (R469). -/
def State.testCheck (s : State) : State :=
  match s.cruc.pulse with
  | some at_ =>
    if !s.sfArmed 1 ∨ !s.sfRuns ∨ s.uptime < at_ + 1000 * s.get (sfBase 1) SF_PARAM0_HIGH then s
    else (s.each s.sfTested fun s k => s.testJudge k).withCruc fun c => { c with pulse := none }
  | none => s

/-- The trip test of a channel's idle comparator (R470): a fault once per onset. -/
def State.tripTest (s : State) (c cmp : Nat) (fail : Bool) : State :=
  let n := 2 * c + cmp
  if s.nPch ≤ c ∨ s.fenced (.pedie (c / 32)) then s
  else if !fail then s.withCruc fun x => { x with tripBad := x.tripBad.filter (· != n) }
  else if s.cruc.tripBad.contains n then s
  else (s.withCruc fun x => { x with tripBad := x.tripBad ++ [n] }).raise .pedieTripTest (srcPch c) 0 (leBytes 1 cmp)

/-- Triggers and holds that have waited are acted on. -/
def State.actOn (s : State) (triggers : List (Nat × Nat × Nat)) (holds : List (Nat × Nat)) : State :=
  let t := triggers.foldl (fun (s : State) w => s.sfTrigger w.1 w.2.1 w.2.2) s
  holds.foldl (fun (s : State) p => s.sfHold p.1 p.2) t

/-- The functions resume after a warm reset (R473): kept copies are written back, inputs evaluated on their accepted
level, and what arose meanwhile is acted on. -/
def State.safetyResume (s : State) : State :=
  if !s.cruc.paused ∨ s.inHeld then s
  else
    let t := s.withCruc fun c =>
      { c with paused := false, later := [], waits := [], pulse := none, pulseAt := s.uptime }
    let t := s.cruc.copies.foldl (fun (s : State) c =>
      let old := s.lineMode c.line
      let u := ((s.wr (lineBase c.line) c.lcfg).wr (lineBase c.line + 4) c.lfilt).wr (lineBase c.line + 8) c.lcmp
      (u.setLatch c.line c.latch).lineWritten c.line old) t
    let t := if t.sfDemands then t.sfTrigger 1 4 t.crucNow else t
    let t := if t.sfBankDown then t.sfTrigger 1 6 t.crucNow else t
    let t := if t.singleLane then (t.sfTrigger 0 7 t.crucNow).sfTrigger 1 7 t.crucNow else t
    t.actOn s.cruc.waits s.cruc.later

/-! ### Lanes and the vote -/

/-- Whether lane `l` is in control. -/
def State.inControl (s : State) (l : Nat) : Bool := bitAt (s.get crucBase CRUC_STAT_LANES) l
/-- The lanes in control. -/
def State.lanes (s : State) : List Nat := [0, 1, 2].filter s.inControl

/-- The class bits a CRUC_NO_LANE record carries (Table 18.3). -/
def classMask (cs : List Nat) : Nat := cs.foldl (fun m c => if c = 0 then m else m ||| 2 ^ (c - 1)) 0

/-- The mode that fits the lanes in control (Table 1.4), and what entering it brings (R462, R463). -/
def State.laneMode (s : State) : State :=
  let m := if s.lanes.length = 3 then 0 else if s.lanes.length = 2 then 1 else 2
  if m = s.get crucBase CRUC_STAT_MODE then s
  else
    let t := (s.set crucBase CRUC_STAT_MODE m).evt crucBase CRUC_EVT 1
    let t := if m = 1 then t.bump crucBase CRUC_DUAL_ENTRIES else t
    if m = 2 then
      match t.lanes with
      | l :: _ => ((t.sfTrigger 0 7 t.crucNow).sfTrigger 1 7 t.crucNow).raise .crucSingleLane (srcLane l) 0 []
      | [] => t
    else t

/-- Lane `l` is fenced: it leaves the vote. The last lane lost leaves none (R463). -/
def State.laneFence (s : State) (l : Nat) : State :=
  if !s.inControl l then s
  else
    let t := (s.set crucBase CRUC_STAT_LANES (setBit (s.get crucBase CRUC_STAT_LANES) l false)).laneMode
    if t.lanes.isEmpty then t.raise .crucNoLane (srcIsland 3) 0 (leBytes 1 0) else t

/-- The result of a lane's full Assay (R461): `cls` the failing class, 0 none. -/
def State.assayResult (s : State) (l cls : Nat) : State :=
  let b := assayBase l
  let t := ((s.set b CRUC_ASSAY_PASS (b2n (cls == 0))).set b CRUC_ASSAY_VALID 1).set b CRUC_ASSAY_FAIL_CLASS cls
  if cls = 0 then t else (t.bump crucBase CRUC_ASSAY_FAILS).evt crucBase CRUC_EVT 2

/-- A transaction is issued to q32, or waits in order (R458, R459). -/
def State.issue (s : State) (w : Option LaneWord) : State :=
  match w with
  | none => s
  | some w =>
    if s.votesWait then s.withCruc fun c => { c with held := c.held ++ [w] } else s.sprueWrite 32 w.bytes w.eop false

/-- Held transactions are issued in order once nothing holds them, and the functions act on what they found meanwhile
(R459). -/
def State.issueHeld (s : State) : State :=
  if s.votesWait then s
  else
    let t := s.cruc.held.foldl (fun (s : State) w => s.sprueWrite 32 w.bytes w.eop false)
      (s.withCruc fun c => { c with held := [] })
    if t.cruc.paused then t
    else (t.withCruc fun c => { c with waits := [], later := [] }).actOn t.cruc.waits t.cruc.later

/-- The vote hold that follows a dissent of lane `l` (R459). -/
def State.dissentHold (s : State) (l : Nat) : State :=
  let t := (s.set crucBase CRUC_STAT_LAST_DISSENT l).bump crucBase CRUC_DISSENTS
  (t.evt crucBase CRUC_EVT 0).withCruc fun c => { c with holdAt := some s.uptime }

/-- Lane `l` dissents from the majority word (Table 17.1): the majority is issued, the lane fenced. -/
def State.dissent (s : State) (l : Nat) (w : Option LaneWord) : State :=
  let d := match w with | some w => (w.bytes ++ List.replicate 8 0#8).take 8 | none => List.replicate 8 0#8
  ((s.issue w).dissentHold l).raise .crucLaneDissent (srcLane l) 0 d

/-- The two lanes in control disagree (R462). -/
def State.dualDiffer (s : State) (a : Nat) (wa : Option LaneWord) (b : Nat) (wb : Option LaneWord) : State :=
  if s.flag crucBase CRUC_STAT_ASSAY_HOLD then s
  else ((s.set crucBase CRUC_STAT_ASSAY_HOLD 1).bump crucBase CRUC_DUAL_ASSAYS).withCruc fun c =>
    { c with dual := some (a, wa, b, wb) }

/-- The word of lane `l`. -/
def laneWord (t : LaneWords) (l : Nat) : Option LaneWord := if l = 0 then t.w0 else if l = 1 then t.w1 else t.w2

/-- The vote (Table 17.1). In HELD the Crucible executes nothing (Table 18.6). -/
def State.vote (s : State) (t : LaneWords) : State :=
  if s.inHeld then s
  else
    match s.lanes with
    | [_, _, _] =>
      if t.w0 = t.w1 ∧ t.w1 = t.w2 then s.issue t.w0
      else if t.w0 = t.w1 then s.dissent 2 t.w0
      else if t.w0 = t.w2 then s.dissent 1 t.w0
      else if t.w1 = t.w2 then s.dissent 0 t.w1
      else s.raise .crucNoMajority (srcIsland 3) 0 []
    | [a, b] =>
      if laneWord t a = laneWord t b then s.issue (laneWord t a) else s.dualDiffer a (laneWord t a) b (laneWord t b)
    | [a] => s.issue (laneWord t a)
    | _ => s

/-- The vote hold ends (R459): its length in Crucible cycles is shown, held transactions are issued in order. -/
def State.voteHoldEnd (s : State) : State :=
  match s.cruc.holdAt with
  | some at_ =>
    ((s.set crucBase CRUC_HOLD_LAST_CYCLES (min 64 ((s.uptime - at_) * 2 / 5))).withCruc fun c => { c with holdAt := none }).issueHeld
  | none => s

/-- A background Assay slice of a lane in control (R461); `cls` the failing class, 0 none; `last` ends a full cycle. -/
def State.assaySlice (s : State) (l cls : Nat) (last : Bool) : State :=
  let b := assayBase l
  if s.inHeld ∨ !s.inControl l ∨ s.votesWait then s
  else if cls = 0 then
    if last then
      (((s.set b CRUC_ASSAY_PASS 1).set b CRUC_ASSAY_VALID 1).set b CRUC_ASSAY_FAIL_CLASS 0).set b CRUC_ASSAY_CYCLES
        (s.get b CRUC_ASSAY_CYCLES + 1)
    else s
  else
    let failed (t : State) : State :=
      ((t.set b CRUC_ASSAY_PASS 0).set b CRUC_ASSAY_FAIL_CLASS cls).bump crucBase CRUC_ASSAY_FAILS |>.evt crucBase CRUC_EVT 2
    match s.lanes with
    | [_, _, _] => ((failed s).dissentHold l).raise .crucAssayFail (srcLane l) 0 (leBytes 1 cls)
    | [x, y] => s.dualDiffer x none y none
    | _ => (failed s).raise .crucNoLane (srcIsland 3) 0 (leBytes 1 (classMask [cls]))

/-- The foreground Assays of a Dual-compare disagreement end (Table 17.4). -/
def State.dualDone (s : State) (cls : Nat → Nat) : State :=
  match s.cruc.dual with
  | none => s
  | some (a, wa, b, wb) =>
    if s.inHeld then s
    else
      let t := ((s.set crucBase CRUC_STAT_ASSAY_HOLD 0).withCruc fun c => { c with dual := none }).assayResult a (cls a)
      let t := t.assayResult b (cls b)
      if cls a = 0 ∧ cls b = 0 then t.raise .crucDualUnresolved (srcIsland 3) 0 []
      else if cls a ≠ 0 ∧ cls b ≠ 0 then t.raise .crucNoLane (srcIsland 3) 0 (leBytes 1 (classMask [cls a, cls b]))
      else if cls a ≠ 0 then
        ((t.raise .crucAssayFail (srcLane a) 0 (leBytes 1 (cls a))).issue wb).issueHeld
      else ((t.raise .crucAssayFail (srcLane b) 0 (leBytes 1 (cls b))).issue wa).issueHeld

/-- LANE_REJOIN begins (R34, R464): the lane's foreground Assay, then the pause in which it is loaded. The status and
the state: DONE with its result, INTERNAL_FAULT, or a wait for the load. -/
def State.rejoin (s : State) (l cls : Nat) : CmdRes :=
  if !s.fenced (.lane l) then .done 0 (leBytes 4 0) s
  else
    let t := s.assayResult l cls
    if cls ≠ 0 then .done 0xF0 [] (t.raise .selftestFail (srcLane l) 0 (leBytes 2 (0x100 + cls)))
    else .wait (.unit l 0) ((t.set crucBase CRUC_STAT_RESYNC 1).withCruc fun c => { c with resync := some l })

/-- The lane is loaded and joins the vote (R464). -/
def State.resyncDone (s : State) (l : Nat) : State :=
  if s.cruc.resync ≠ some l ∨ s.inHeld then s
  else
    let t := (s.set crucBase CRUC_STAT_RESYNC 0).withCruc fun c => { c with resync := none }
    let t := (t.setFence (.lane l) false).set crucBase CRUC_STAT_LANES (setBit (t.get crucBase CRUC_STAT_LANES) l true)
    let t := ((t.laneMode).bump crucBase CRUC_REJOINS).fenceMarker (.lane l) true
    t.issueHeld.wake 0x0D04 l 0 0 (leBytes 4 1)

/-- ASSAY_RUN (Table 17.10): on a fenced lane the foreground Assay now, else the last background result. -/
def State.assayRun (s : State) (l cls : Nat) : List Byte × State :=
  if s.fenced (.lane l) then
    (leBytes 1 (b2n (cls == 0)) ++ leBytes 1 cls ++ leBytes 1 1 ++ leBytes 1 0, s.assayResult l cls)
  else
    (leBytes 1 (s.get (assayBase l) CRUC_ASSAY_PASS) ++ leBytes 1 (s.get (assayBase l) CRUC_ASSAY_FAIL_CLASS)
      ++ leBytes 2 0, s)

/-- CRUC_STAT as it reads: ARMED and TRIGGERED gather the functions' bits. -/
def State.crucStatWord (s : State) : Word :=
  let w := putBits (s.rd crucBase) 16 3 ((List.range 3).map fun i => b2n (s.sfArmed i) * 2 ^ i).sum
  putBits w 20 2 ((List.range 2).map fun i => b2n (s.sfTriggered i) * 2 ^ i).sum

end Sys2Proof.Machine
end

