-- ==== Sys2Proof/Machine/HostOps.lean ====
section
/-! DEFINITION. Interrupt sources and pins (R290, R291), and the Ladles and Salvage slots of the bridge (R277 to R288). -/

namespace Sys2Proof.Machine

/-- The BRIDGE block (R296). -/
def bridgeBase : Nat := 0x601000
/-- The USBH block (R433). -/
def usbBase : Nat := 0x500000
/-- The PD block. -/
def pdAll : Nat := 0x540000
/-- Registers of PD port `p`. -/
def pdBase (p : Nat) : Nat := 0x541000 + 0x400 * p
/-- The FAULT block (R500). -/
def faultBase : Nat := 0x700000
/-- The update block. -/
def updBase : Nat := 0x7E0000
/-- The AON block. -/
def aonBase : Nat := 0x7F0000

/-! ### Interrupt sources -/

/-- Whether an enabled event of the words at `e` and `ie` is set. -/
def State.evtOn (s : State) (e ie : Nat) : Bool := s.rd e &&& s.rd ie != 0

/-- CAN_ISUM of CAN island `i`. -/
def State.canIsum (s : State) (i : Nat) : Nat :=
  if s.fenced (.canIsl i) ∨ s.nCan ≤ 16 * i then 0
  else ((List.range 16).map fun j => b2n (s.evtOn (canBase (16 * i + j) + 0x40) (canBase (16 * i + j) + 0x44)) * 2 ^ j).sum

/-- FLASK_ISUM. -/
def State.flaskIsum (s : State) : Nat :=
  ((List.range s.nFlask).map fun f =>
    b2n (!s.fenced (.flask f) && s.evtOn (flaskBase f + 0x0C) (flaskBase f + 0x10)) * 2 ^ f).sum

/-- DIO_ISUM. -/
def State.dioIsum (s : State) : Nat :=
  ((List.range ((s.nDio + 63) / 64)).map fun b =>
    b2n (!s.fenced (.dioBank b) && s.evtOn (dioBase b + 0x40) (dioBase b + 0x44)) * 2 ^ b).sum

/-- PWR_ISUM0 (`h` = 0) and PWR_ISUM1 (`h` = 1). -/
def State.pwrIsum (s : State) (h : Nat) : Nat :=
  ((List.range 32).map fun i =>
    b2n (decide (32 * h + i < s.nPch) && s.evtOn (pchBase (32 * h + i) + 0x08) (pchBase (32 * h + i) + 0x0C)) * 2 ^ i).sum

/-- PWR_ISUM2. -/
def State.feedIsum (s : State) : Nat := b2n (s.evtOn (feedReg + 0x0C) (feedReg + 0x10))

/-- PD_ISUM. -/
def State.pdIsum (s : State) : Nat :=
  ((List.range 3).map fun p => b2n (s.evtOn (pdBase p + 0x10) (pdBase p + 0x14)) * 2 ^ p).sum
    + 8 * b2n (s.evtOn (pdAll + 0x08) (pdAll + 0x0C))

/-- Whether the condition of source `k` holds (Table 10.5). -/
def State.irqCond (s : State) (k : Nat) : Bool :=
  if k = 0 then !s.cmd.xspi.isEmpty
  else if k = 1 then (List.range 44).any fun q => s.queuePresent q && s.sprueNotice q
  else if k ≤ 3 then s.evtOn (ringBase (k - 2) + 0x08) (ringBase (k - 2) + 0x0C)
  else if k = 4 then s.evtOn (ringWide + 0x18) (ringWide + 0x1C)
  else if k ≤ 10 then s.evtOn (macBase (k - 5) + 0x1C) (macBase (k - 5) + 0x20)
  else if k ≤ 16 then s.evtOn (schedBase (k - 11) + 0x38) (schedBase (k - 11) + 0x3C)
  else if k = 17 then (List.range 32).any fun i => s.rd (0x80800 + 4 * i) != 0
  else if k = 18 then s.evtOn (timeBase + 0x0C) (timeBase + 0x10)
  else if k = 19 then s.evtOn (ledgerBase + 0x14) (ledgerBase + 0x18)
  else if k = 20 then s.evtOn (pimgBase + 0x20) (pimgBase + 0x24)
  else if k = 21 then (List.range 4).any fun i => s.canIsum i != 0
  else if k = 22 then s.flaskIsum != 0
  else if k = 23 then s.dioIsum != 0
  else if k = 24 then s.pwrIsum 0 != 0 || s.pwrIsum 1 != 0 || s.feedIsum != 0
  else if k = 25 then s.evtOn (usbBase + 0x20) (usbBase + 0x24)
  else if k = 26 then s.pdIsum != 0
  else if k = 27 then s.evtOn (faultBase + 0x24) (faultBase + 0x28)
  else if k = 28 then s.evtOn (crucBase + 0x04) (crucBase + 0x08)
  else if k = 29 then s.evtOn (updBase + 0x40) (updBase + 0x44)
  else if k = 30 then s.evtOn (bridgeBase + 0x10) (bridgeBase + 0x14)
  else false

/-- The conditions that hold, source `k` in bit `k`. -/
def State.irqLevels (s : State) : Nat := ((List.range 31).map fun k => b2n (s.irqCond k) * 2 ^ k).sum

/-- BRIDGE_IRQ_PEND (R290). -/
def State.irqPend (s : State) : Nat := s.irqLevels &&& s.get bridgeBase BRIDGE_IRQ_EN_EN

/-- The pin a source is routed to (R290). -/
def State.irqPin (s : State) (k : Nat) : Nat := bitsOf (s.rd (bridgeBase + 0x24 + 4 * (k / 16))) (2 * (k % 16)) 2

/-- Whether HIRQ `n` is asserted: the wire that drives it goes before the routing (R290, R292); in HELD the pin source
27 is routed to is asserted and every other is inactive (Table 18.6); while the host island is in reset no pin is
asserted. -/
def State.hirq (s : State) (n : Nat) : Bool :=
  if s.inHeld then bitAt (s.get bridgeBase BRIDGE_IRQ_EN_EN) 27 && s.irqPin 27 == n
  else if (Tbl.get (fun _ => {}) s.islands 21).inReset then false
  else
    match s.wirePin n with
    | some w => s.wireLevel w
    | none => (setBitsOf s.irqPend 31).any fun k => s.irqPin k == n

/-- The four pin levels, pin `n` in bit `n`. -/
def State.hirqs (s : State) : Nat := ((List.range 4).map fun n => b2n (s.hirq n) * 2 ^ n).sum

/-! ### Salvage slots -/

/-- Ring time as the host island stamps it. -/
def State.hostNow (s : State) : Nat := s.nowAt 21

/-- Salvage slot `k`. -/
def State.salv (s : State) (k : Nat) : Salvage := Tbl.get (fun _ => {}) s.bridge.salvage k
/-- Salvage slot `k` replaced. -/
def State.setSalv (s : State) (k : Nat) (x : Salvage) : State :=
  { s with bridge := { s.bridge with salvage := Tbl.put (fun _ => {}) s.bridge.salvage k x } }

/-- A slot neither held nor reserved. -/
def State.salvFree (s : State) : Option Nat := (List.range 8).find? fun k => !(s.salv k).held && !(s.salv k).reserved

/-- A slot reserved for a read (R285). -/
def State.salvReserve (s : State) (k init addr len : Nat) : State :=
  s.setSalv k { reserved := true, init := init, addr := addr, len := len }

/-- Data moves to its reserved slot (R286). -/
def State.salvHold (s : State) (k init addr len code : Nat) (data : List Byte) : State :=
  let t := s.setSalv k { held := true, init := init, addr := addr, len := len, code := code
                         stamp := shortStamp s.hostNow, data := data, order := s.bridge.order }
  let t := { t with bridge := { t.bridge with order := t.bridge.order + 1 } }
  let t := (t.bump bridgeBase BRIDGE_SALVAGED).evt bridgeBase BRIDGE_EVT 0
  t.raise .salvageHeld (srcIsland 21) (s.faultAddr addr) (leBytes 1 k ++ leBytes 1 init ++ leBytes 2 len)

/-- A slot becomes free. -/
def State.salvDrop (s : State) (k : Nat) : State := s.setSalv k {}

/-- The place of an address within this hub: space and offset. -/
def homeAddr (a : Nat) : Nat := a % 2 ^ 40

/-- The oldest held slot of an initiator whose address a read of `len` bytes covers (R287). -/
def State.salvFor (s : State) (init addr len : Nat) : Option Nat :=
  let ks := (List.range 8).filter fun k =>
    let x := s.salv k
    x.held && x.init == init && decide (homeAddr addr < homeAddr x.addr + x.len) && decide (homeAddr x.addr < homeAddr addr + len)
  ks.foldl (fun best k =>
    match best with
    | none => some k
    | some b => if (s.salv k).order < (s.salv b).order then some k else some b) none

/-- The data of a read answered from a slot (R287): bytes the slot does not cover are zero. -/
def Salvage.answer (x : Salvage) (addr len : Nat) : List Byte :=
  (List.range len).map fun i =>
    let a := homeAddr addr + i
    if homeAddr x.addr ≤ a ∧ a < homeAddr x.addr + x.len then x.data.getD (a - homeAddr x.addr) 0#8 else 0#8

/-! ### Ladles -/

/-- Initiator a Ladle serves (R277). -/
def State.ladleInit (s : State) (l : Nat) : Nat := if l < max 1 (s.get bridgeBase BRIDGE_CTRL_XSPI_LADLES) then 0 else 1

/-- The free Ladles of an initiator. -/
def State.ladlesFree (s : State) (init : Nat) : List Nat :=
  (List.range 32).filter fun l => (s.ladle l).st == .free && s.ladleInit l == init

/-- A Ladle becomes free; a reservation it still holds is given back. -/
def State.ladleFree (s : State) (l : Nat) : State :=
  let x := s.ladle l
  let t := match x.slot with
    | some k => if (s.salv k).reserved then s.salvDrop k else s
    | none => s
  t.setLadle l {}

/-- A Ladle's read-sensitive data moves to its reserved slot (R286). -/
def State.ladleSalvage (s : State) (l : Nat) : State :=
  let x := s.ladle l
  match x.slot with
  | some k => (s.salvHold k x.init x.addr x.len x.code x.data).setLadle l {}
  | none => s.setLadle l {}

/-- The transaction slot that fetches for Ladle `l` answers nobody any more. -/
def State.slotOrphan (s : State) (l : Nat) : State :=
  { s with fab := { s.fab with slots := s.fab.slots.map fun p => (p.1, if p.2.client = .ladle l then { p.2 with client := .rom } else p.2)
                               waiting := s.fab.waiting.filter fun q => q.client != .ladle l } }

/-- A Ladle is abandoned by a reset (R288, R429): data already there or still to come for a read-sensitive address goes
to its reserved slot, everything else is dropped. -/
def State.ladleAbandon (s : State) (l : Nat) : State :=
  let x := s.ladle l
  match x.st with
  | .free => s
  | .ready => if x.sensitive then s.ladleSalvage l else s.ladleFree l
  | .fetching => if x.sensitive then s.setLadle l { x with gone := true } else (s.slotOrphan l).ladleFree l

/-- BRIDGE_HSTAT. -/
def State.hstatWord (s : State) : Nat :=
  let ls := (List.range 32).filter fun l => (s.ladle l).st == .free
  let held := (List.range 8).filter fun k => (s.salv k).held
  let rsvd := (List.range 8).filter fun k => (s.salv k).reserved
  (64 - s.bridge.writes.length) + 2 ^ 8 * ls.length + 2 ^ 16 * held.length + 2 ^ 20 * rsvd.length

/-- LADLE_STAT, LADLE_ADDR_LO or LADLE_ADDR_HI of Ladle `l`. -/
def State.ladleWord (s : State) (l off : Nat) : Nat :=
  let x := s.ladle l
  if off = 0 then
    (match x.st with | .free => 0 | .fetching => 1 | .ready => 2) + 4 * x.init + 8 * b2n x.prefetched
      + 16 * b2n x.sensitive + 2 ^ 8 * x.code
  else if off = 4 then x.addr % 2 ^ 32
  else if off = 8 then x.addr / 2 ^ 32 % 2 ^ 16 + 2 ^ 16 * x.len
  else 0

/-- SALVAGE_STAT, SALVAGE_ADDR_LO or SALVAGE_ADDR_HI of slot `k`. -/
def State.salvWord (s : State) (k off : Nat) : Nat :=
  let x := s.salv k
  if off = 0 then b2n x.held + 2 * b2n x.reserved + 4 * (x.init % 2) + 2 ^ 8 * x.code
  else if off = 4 then x.addr % 2 ^ 32
  else if off = 8 then x.addr / 2 ^ 32 % 2 ^ 16 + 2 ^ 16 * x.len
  else 0

/-- WIRE_STAT of wire `w`. -/
def State.wireStatWord (s : State) (w : Nat) : Nat :=
  b2n (s.wireActive w) + 2 * b2n (s.line (s.wireSrc w)).pad + 16 * (if s.wireOn w then s.wireReason w else 0)

end Sys2Proof.Machine
end

