-- ==== Sys2Proof/Machine/UsbOps.lean ====
section
/-! DEFINITION. The USB hub: ports, Transaction Translators, power, suspend and resume, test modes (R403 to R416), and the
management device's control endpoint and resets (R417, R426 to R430). -/

namespace Sys2Proof.Machine

open Sys2Proof (SplitTx UsbSetup)

/-- Registers of port `p`, 1 to 9 (R433). -/
def usbPort (p : Nat) : Nat := 0x500100 + 0x20 * (p - 1)
/-- The USB island changed beside its registers. -/
def State.withUsb (s : State) (f : UsbBlock → UsbBlock) : State := { s with usb := f s.usb }
/-- Port `p` beside its registers. -/
def State.uport (s : State) (p : Nat) : UsbPort := Tbl.get (fun _ => {}) s.usb.ports p
/-- Port `p` replaced. -/
def State.setUport (s : State) (p : Nat) (x : UsbPort) : State :=
  s.withUsb fun u => { u with ports := Tbl.put (fun _ => {}) u.ports p x }

/-- Whether the USB island works: not in HELD, not in reset. -/
def State.usbLive (s : State) : Bool := !s.inHeld && !(Tbl.get (fun _ => {}) s.islands 19).inReset
/-- Whether the pull-up is connected (R403, R430). -/
def State.usbPull (s : State) : Bool :=
  s.usbLive && s.flag usbBase USB_HUBCFG_EN && s.flag usbBase USB_STAT_VBUS && decide (s.usb.pullAt ≤ s.uptime)

/-- State of the hub (USB_STAT.UP_STATE). -/
def State.upState (s : State) : Nat := s.get usbBase USB_STAT_UP_STATE
/-- State of the management device (USB_MGMT.STATE). -/
def State.mgmtState (s : State) : Nat := s.get usbBase USB_MGMT_STATE
/-- Whether the upstream port runs at high speed. -/
def State.upHs (s : State) : Bool := s.flag usbBase USB_STAT_UP_HS

/-- Bit `b` of wPortStatus and wPortChange of port `p`. -/
def State.pbit (s : State) (p b : Nat) : Bool := (s.rd (usbPort p)).getLsbD b
/-- Bit `b` of port `p` made `v`. -/
def State.setPbit (s : State) (p b : Nat) (v : Bool) : State := s.wr (usbPort p) (putBits (s.rd (usbPort p)) b 1 (b2n v))
/-- Change bit `b` (0 connection, 1 enable, 2 suspend, 3 over-current, 4 reset) of port `p` is set. -/
def State.pchange (s : State) (p b : Nat) : State := (s.setPbit p (16 + b) true).evt usbBase USB_EVT 4

/-- An answer on EP0: a protocol STALL (R428). -/
def State.stall (s : State) : State := s.emit (.usbShake 0 2)

/-! ### Transaction Translators -/

/-- The TT that serves port `p` (R406). -/
def State.ttOf (s : State) (p : Nat) : Nat := if s.flag usbBase USB_STAT_MULTI_TT then p else 1
/-- TT `t`. -/
def State.tt (s : State) (t : Nat) : UsbTt := Tbl.get (fun _ => {}) s.usb.tts t
/-- TT `t` replaced. -/
def State.setTt (s : State) (t : Nat) (x : UsbTt) : State :=
  s.withUsb fun u => { u with tts := Tbl.put (fun _ => {}) u.tts t x }

/-- The transactions of port `p` leave its TT: all of its own TT, and its share of a single one (R408). -/
def State.ttClear (s : State) (p : Nat) : State :=
  let x := s.tt (s.ttOf p)
  if s.flag usbBase USB_STAT_MULTI_TT then s.setTt p {} else
  s.setTt (s.ttOf p) { per := x.per.filter fun e => e.port != p, non := x.non.filter fun e => e.1 != p }

/-- The current full-speed frame. -/
def State.usbFrame (s : State) : Nat := s.uptime / 1000000

/-- A start-split for port `p` (R407). With the upstream port at full speed the TTs are bypassed (R405). -/
def State.splitStart (s : State) (p : Nat) (x : SplitTx) : State :=
  if !s.upHs ∨ !s.pbit p 1 ∨ s.upState ≠ 3 then s
  else
    let t := s.ttOf p
    let tt := s.tt t
    if x.periodic then
      let live := tt.per.filter fun e => !e.aged
      if 16 ≤ live.length ∨ 1880 < (live.map (·.len)).sum + x.len.toNat then s.bump (usbPort p) USB_TT_PER_OVF
      else s.setTt t { tt with per := tt.per ++ [⟨p, x.ep.toNat, x.len.toNat, s.usbFrame, false⟩] }
    else if 2 ≤ tt.non.length then s.emit (.usbShake x.ep.toNat 1)
    else (s.setTt t { tt with non := tt.non ++ [(p, x.ep.toNat)] }).emit (.usbShake x.ep.toNat 0)

/-- What a complete-split returns for a transaction that has ended downstream: data, or an ACK. -/
def State.splitAnswer (s : State) (ep : Nat) (bs : List Byte) : State :=
  if bs = [] then s.emit (.usbShake ep 0) else s.emit (.usbIn ep bs)

/-- A complete-split for port `p` (R407): ERR for a transaction that aged out, NYET while it runs, else its result. -/
def State.splitComplete (s : State) (p : Nat) (x : SplitTx) : State :=
  let t := s.ttOf p
  let tt := s.tt t
  let ep := x.ep.toNat
  if !s.upHs ∨ s.upState ≠ 3 then s
  else if x.periodic then
    match tt.per.find? fun e => e.port == p && e.ep == ep with
    | none => s
    | some e =>
      let gone := s.setTt t { tt with per := tt.per.erase e }
      if e.aged then gone.emit (.usbShake ep 4)
      else
        match x.result with
        | none => s.emit (.usbShake ep 3)
        | some bs => gone.splitAnswer ep bs
  else if !tt.non.contains (p, ep) then s
  else
    match x.result with
    | none => s.emit (.usbShake ep 3)
    | some bs => (s.setTt t { tt with non := tt.non.erase (p, ep) }).splitAnswer ep bs

/-- A periodic transaction has not finished in its frame (R407). -/
def State.ttAge (s : State) (p ep : Nat) : State :=
  let t := s.ttOf p
  let tt := s.tt t
  match tt.per.find? fun e => e.port == p && e.ep == ep && !e.aged && decide (e.frame < s.usbFrame) with
  | some e =>
    (s.setTt t { tt with per := tt.per.map fun y => if y = e then { y with aged := true } else y }).bump (usbPort p) USB_TT_AGED
  | none => s

/-- Clear_TT_Buffer (R407). -/
def State.ttClearBuffer (s : State) (p ep : Nat) : State :=
  let t := s.ttOf p
  s.setTt t { s.tt t with non := (s.tt t).non.filter fun e => e.2 != ep }

/-- Reset_TT (R408). -/
def State.ttReset (s : State) (p : Nat) : State := s.setTt (s.ttOf p) {}

/-! ### Port power and connection -/

/-- A port is off: every status bit but OVER_CURRENT clears, and its TT is emptied (R408, R409). -/
def State.portOff (s : State) (p : Nat) : State :=
  let oc := s.pbit p 3
  let t := s.set (usbPort p) USB_PORT_STAT_STATUS (8 * b2n oc)
  (t.setUport p { t.uport p with good := false, resetAt := none, resume := none, test := 0 }).ttClear p

/-- A port's power turns on (R409). -/
def State.portOn (s : State) (p : Nat) : State :=
  (s.setPbit p 8 true).setUport p { s.uport p with pwrAt := s.uptime, good := false }

/-- Whether the power of port `p` is to be on (R409 to R411). -/
def State.portWants (s : State) (p : Nat) : Bool :=
  s.flag (usbPort p) USB_PORT_CTRL_PWR_REQ && !s.flag (usbPort p) USB_PORT_CTRL_LOCK_OFF && !(s.uport p).ocOff && s.usbLive

/-- The power of ports 1 to 8 follows R409. -/
def State.portPower (s : State) (p : Nat) : State :=
  if p = 9 then s
  else if s.portWants p ∧ !s.pbit p 8 then s.portOn p
  else if !s.portWants p ∧ s.pbit p 8 then s.portOff p
  else s

/-- LOCK_OFF is written (R411). -/
def State.portLock (s : State) (p : Nat) (lock : Bool) : State :=
  if p = 9 then s else (s.set (usbPort p) USB_PORT_CTRL_LOCK_OFF (b2n lock)).portPower p

/-- SetPortFeature(PORT_POWER) (R409, R411). -/
def State.setPower (s : State) (p : Nat) : State :=
  if p = 9 then s
  else ((s.set (usbPort p) USB_PORT_CTRL_PWR_REQ 1).setUport p { s.uport p with ocOff := false }).portPower p

/-- ClearPortFeature(PORT_POWER) (R409). -/
def State.clearPower (s : State) (p : Nat) : State :=
  if p = 9 then s else (s.set (usbPort p) USB_PORT_CTRL_PWR_REQ 0).portPower p

/-- Whether the hub drives K upstream: for 2 ms from its start (R413). -/
def State.driving (s : State) : Bool :=
  match s.usb.upK with
  | some (t, _) => decide (s.uptime < t + 2000000)
  | none => false

/-- The port whose device woke the suspended hub; 0 for none (R413). -/
def State.wokePort (s : State) : Nat := (s.usb.upK.map (·.2)).getD 0

/-- The hub drives K upstream to wake the host (R413): only while it is suspended with DEVICE_REMOTE_WAKEUP enabled. A port
that has woken it stays the one that woke. -/
def State.wakeHost (s : State) (p : Nat) : State :=
  if s.upState = 4 ∧ s.flag usbBase USB_STAT_RWAKE_EN ∧ !s.driving then
    (s.withUsb fun u => { u with upK := some (s.uptime, if p = 0 then s.wokePort else p) }).bump usbBase USB_RWAKE_SENT
  else s

/-- The connection shown on a port whose power is good (R408, R409). -/
def State.showConnect (s : State) (p : Nat) : State :=
  let x := s.uport p
  if s.pbit p 0 = x.there then s
  else if x.there then ((s.setPbit p 0 true).setPbit p 9 x.low).pchange p 0
  else
    let t := s.set (usbPort p) USB_PORT_STAT_STATUS (256 + 8 * b2n (s.pbit p 3))
    ((t.setUport p { x with resetAt := none, resume := none }).ttClear p).pchange p 0

/-- A device connects or disconnects (R408, R413). -/
def State.portConnect (s : State) (p : Nat) (there low : Bool) : State :=
  if p = 9 ∨ !s.usbLive then s
  else
    let t := s.setUport p { s.uport p with there := there, low := low }
    if t.pbit p 8 && (t.uport p).good then (t.showConnect p).wakeHost 0 else t

/-- The power-good time ends (R409). -/
def State.powerGood (s : State) (p : Nat) : State :=
  let x := s.uport p
  if !s.pbit p 8 ∨ x.good ∨ s.uptime < x.pwrAt + 2000000 * max 1 (s.get usbBase USB_HUBCFG_PWRGOOD_2MS) then s
  else (s.setUport p { x with good := true }).showConnect p

/-- USBn_OC_N has been low for OC_FILT_MS (`low`), or is high again (R410). A line that stays low trips again only on a port
powered again. -/
def State.overCurrent (s : State) (p : Nat) (low : Bool) : State :=
  if !s.usbLive then s
  else if !low then
    if s.pbit p 3 then ((s.setPbit p 3 false).pchange p 3).wakeHost 0 else s
  else if !s.pbit p 8 ∧ s.pbit p 3 then s
  else
    let x := s.uport p
    let t := ((s.setPbit p 3 true).setUport p { x with ocOff := true }).portOff p
    let t := ((t.pchange p 3).bump (usbPort p) USB_PORT_OC).evt usbBase USB_EVT 3
    let t :=
      if s.mayReport x.ocAt then (t.setUport p { t.uport p with ocAt := some s.uptime }).raise .usbPortOc (srcUsb p) 0 []
      else t
    t.wakeHost 0

/-! ### Reset, suspend and resume of ports -/

/-- SetPortFeature(PORT_RESET) on ports 1 to 8 (R405). -/
def State.portReset (s : State) (p : Nat) : State :=
  if !s.pbit p 8 ∨ !s.pbit p 0 then s
  else
    let t := ((s.setPbit p 4 true).setPbit p 1 false).setPbit p 2 false
    (t.setUport p { t.uport p with resetAt := some s.uptime, resume := none }).ttClear p

/-- The reset of a port ends (R405). -/
def State.portResetDone (s : State) (p : Nat) (hs : Bool) : State :=
  let x := s.uport p
  match x.resetAt with
  | none => s
  | some at_ =>
    if s.uptime < at_ + 15000000 then s
    else
      let t := ((s.setPbit p 4 false).setPbit p 1 true).setPbit p 9 x.low
      let t := t.setPbit p 10 (hs && s.upHs && !x.low)
      (t.setUport p { x with resetAt := none }).pchange p 4

/-- SetPortFeature(PORT_SUSPEND) (R412). On port 9 the management device suspends. -/
def State.portSuspend (s : State) (p : Nat) : State :=
  if p = 9 then
    if s.mgmtState = 0 ∨ s.mgmtState = 4 then s
    else
      let t := (s.setPbit 9 2 true).withUsb fun u => { u with mgmtPrev := s.mgmtState, suspAt := s.uptime }
      t.set usbBase USB_MGMT_STATE 4
  else if !s.pbit p 1 then s
  else s.setPbit p 2 true

/-- A resume of a port starts, by the host or by its device (R413, R415). -/
def State.portResume (s : State) (p : Nat) (host : Bool) : State :=
  let x := s.uport p
  if !s.pbit p 2 then s
  else
    match x.resume with
    | none => s.setUport p { x with resume := some (s.uptime, host) }
    | some (t, h) =>
      if h = host then s else (s.setUport p { x with resume := some (t, true) }).bump usbBase USB_RWAKE_MERGED

/-- The management device leaves suspension. -/
def State.mgmtResume (s : State) : State :=
  if s.mgmtState = 4 then s.set usbBase USB_MGMT_STATE s.usb.mgmtPrev else s

/-- A resume of a port ends (R413): enabled, C_PORT_SUSPEND set, counted. -/
def State.portResumeDone (s : State) (p : Nat) : State :=
  let x := s.uport p
  match x.resume with
  | none => s
  | some (at_, _) =>
    if s.uptime < at_ + 20000000 then s
    else
      let t := ((s.setUport p { x with resume := none }).setPbit p 2 false).setPbit p 1 true
      let t := (t.pchange p 2).bump (usbPort p) USB_PORT_RESUMES
      if p = 9 then t.mgmtResume else t

/-- The upstream bus has idled for 3 ms (R412). -/
def State.hubSuspend (s : State) : State :=
  let st := s.upState
  if st = 0 ∨ st = 4 ∨ !s.usbLive then s
  else
    let t := (s.withUsb fun u => { u with hubPrev := st }).set usbBase USB_STAT_UP_STATE 4
    let t := (t.bump usbBase USB_SUSPENDS).evt usbBase USB_EVT 1
    if t.mgmtState = 0 ∨ t.mgmtState = 4 then t
    else
      (t.withUsb fun u => { u with mgmtPrev := t.mgmtState, suspAt := t.uptime }).set usbBase USB_MGMT_STATE 4

/-- A device below wakes its port, or the hub (R413). -/
def State.deviceWake (s : State) (p : Nat) : State :=
  if !s.usbLive then s
  else if s.upState = 4 then s.wakeHost p
  else s.portResume p false

/-- The host resumes the suspended hub (R413, R415): ports that are not selectively suspended resume with it; the port
that woke resumes once, unless it has been powered off or disconnected since. -/
def State.hostResume (s : State) : State :=
  if s.upState ≠ 4 ∨ !s.usbLive then s
  else
    let woke := if s.pbit s.wokePort 1 ∨ s.pbit s.wokePort 2 then s.wokePort else 0
    let t := (s.withUsb fun u => { u with upK := none }).set usbBase USB_STAT_UP_STATE s.usb.hubPrev
    let t := t.evt usbBase USB_EVT 2
    let t := t.each ([1, 2, 3, 4, 5, 6, 7, 8, 9].filter fun p => p != woke && s.pbit p 1 && !s.pbit p 2) fun s p =>
      s.bump (usbPort p) USB_PORT_RESUMES
    let t := if t.pbit 9 2 then t else t.mgmtResume
    if woke = 0 then t else t.setUport woke { t.uport woke with resume := some (t.uptime, true) }

/-! ### Test modes -/

/-- Whether every one of ports 1 to 8 is suspended, disabled or powered off (R416). -/
def State.portsQuiet (s : State) (but : Nat) : Bool :=
  [1, 2, 3, 4, 5, 6, 7, 8].all fun p => p == but || s.pbit p 2 || !s.pbit p 1 || !s.pbit p 8

/-- A port enters test mode `mode` (R416). -/
def State.portTest (s : State) (p mode : Nat) : State :=
  (s.setPbit p 11 true).setUport p { s.uport p with test := mode }

/-- A port leaves test mode (R416): powered off, after which it follows R409. -/
def State.portTestEnd (s : State) (p : Nat) : State :=
  if s.pbit p 11 then (s.portOff p).portPower p else s

/-! ### The management device -/

/-- Event reports queued so far count as sent; the masked sources pending are all new (R429). -/
def State.dropReports (s : State) : State := s.withUsb fun u => { u with reports := [], lastPend := 0 }

/-- A control transfer in progress is abandoned (R428). -/
def State.ctrlAbandon (s : State) (hub : Bool) : State :=
  if (if hub then s.usb.hubCtrl else s.usb.mgmtCtrl) then
    let t := (s.bump usbBase USB_CTRL_ABANDON).evt usbBase USB_EVT 6
    t.withUsb fun u => if hub then { u with hubCtrl := false } else { u with mgmtCtrl := false }
  else s

/-- Command packets received whole are taken by the ROM, unless 16 replies that answer no command wait (R419). -/
def State.usbTakeOne (s : State) : State :=
  match s.usb.rx with
  | [] => s
  | p :: rest =>
    if s.inHeld ∨ 16 ≤ (s.cmd.usb.filter fun r => !r.answers).length then s
    else (s.withUsb fun u => { u with rx := rest }).accept .usb 0 0 p

/-- Both receive buffers are looked at (R419). -/
def State.usbTake (s : State) : State := s.usbTakeOne.usbTakeOne

/-- Fabric requests, Ladles and responses of the USB initiator at a bus reset (R429). -/
def State.usbFabReset (s : State) : State :=
  let t := s.usb.resps.foldl (fun (s : State) r =>
    match r.slot with
    | some k =>
      if r.salvaged then s else s.salvHold k 1 r.addr r.len r.code r.data
    | none => s) s
  let t := t.each ((List.range 32).filter fun l => (t.ladle l).init == 1) fun s l => s.ladleAbandon l
  t.withUsb fun u => { u with reqs := [], issued := [], write := none, resps := [] }

/-- A bus reset of the management device (R429), steps 1 to 6. -/
def State.mgmtReset (s : State) : State :=
  let t := (s.ctrlAbandon false).usbTransportReset
  let t := (t.usbTake.usbTransportReset).usbFabReset.dropReports
  let t := t.withUsb fun u =>
    { u with rx := [], toggles := u.toggles.filter (0x100 ≤ ·), halted := u.halted.filter (0x100 ≤ ·)
             mgmtAddr := 0, due := [] }
  (t.set usbBase USB_MGMT_MRWAKE 0).set usbBase USB_MGMT_ISO_ALT 0

/-- Port 9 shows the management device's connection (R417). -/
def State.mgmtShow (s : State) (there : Bool) : State :=
  let t := s.set (usbPort 9) USB_PORT_STAT_STATUS (256 + b2n there)
  (t.setUport 9 {}).pchange 9 0

/-- USB_MGMT.CONNECT is written (R417). -/
def State.mgmtConnect (s : State) (on : Bool) : State :=
  if s.flag usbBase USB_MGMT_CONNECT = on then s
  else
    let t := s.set usbBase USB_MGMT_CONNECT (b2n on)
    if on then t.mgmtShow true else ((t.mgmtReset).set usbBase USB_MGMT_STATE 0).mgmtShow false

/-- A reset of port 9 (R429). -/
def State.port9Reset (s : State) : State :=
  if s.upState ≠ 3 ∨ !s.usbLive ∨ !s.flag usbBase USB_MGMT_CONNECT then s
  else
    let t := s.set (usbPort 9) USB_PORT_STAT_STATUS (256 + 3 + 1024 * b2n s.upHs)
    let t := ((t.setUport 9 {}).pchange 9 4).mgmtReset
    (t.set usbBase USB_MGMT_STATE 1).evt usbBase USB_EVT 5

/-- Ports 1 to 8 are powered off and forget the host's requests. -/
def State.portsOff (s : State) : State :=
  s.each [1, 2, 3, 4, 5, 6, 7, 8] fun s p =>
    let t := (s.set (usbPort p) USB_PORT_CTRL_PWR_REQ 0).setUport p { s.uport p with ocOff := false }
    (t.portOff p).set (usbPort p) USB_PORT_STAT_CHANGE 0

/-- The hub's own state at a reset of the upstream port. -/
def State.hubReset (s : State) : State :=
  let t := (s.ctrlAbandon true).portsOff
  let t := ((t.set usbBase USB_STAT_RWAKE_EN 0).set usbBase USB_STAT_MULTI_TT 0).set usbBase USB_STAT_TEST 0
  t.withUsb fun u =>
    { u with tts := [], hubAddr := 0, upK := none, toggles := u.toggles.filter (· < 0x100)
             halted := u.halted.filter (· < 0x100) }

/-- A reset of the upstream port (R429). -/
def State.upReset (s : State) (hs : Bool) : State :=
  if !s.usbPull then s
  else
    let t := (s.hubReset).mgmtReset
    let t := (t.set usbBase USB_STAT_UP_STATE 1).set usbBase USB_STAT_UP_HS (b2n hs)
    let there := s.flag usbBase USB_MGMT_CONNECT
    let t := (t.set (usbPort 9) USB_PORT_STAT_CHANGE 0).set usbBase USB_MGMT_STATE (b2n there)
    let t := if there then t.mgmtShow true else t.set (usbPort 9) USB_PORT_STAT_STATUS 256
    ((t.bump usbBase USB_UP_RESETS).evt usbBase USB_EVT 0).evt usbBase USB_EVT 5

/-- The upstream port detaches: no pull-up (R403). -/
def State.usbDetach (s : State) : State :=
  let t := (s.set usbBase USB_STAT_UP_STATE 0).set usbBase USB_STAT_UP_HS 0
  (t.set usbBase USB_MGMT_STATE 0).withUsb fun u => { u with upK := none }

/-- USB_VBUS_DET changes (R403). -/
def State.usbVbus (s : State) (up : Bool) : State :=
  let t := s.set usbBase USB_STAT_VBUS (b2n up)
  if up then t else t.usbDetach

/-- A reset of the USB island (R430): `warm` when it belongs to a warm reset. -/
def State.usbIslandReset (s : State) (warm : Bool) : State :=
  let t := ((s.hubReset).mgmtReset).usbDetach
  let vbus := t.get usbBase USB_STAT_VBUS
  let connect := t.get usbBase USB_MGMT_CONNECT
  let locks := [1, 2, 3, 4, 5, 6, 7, 8].map fun p => t.get (usbPort p) USB_PORT_CTRL_LOCK_OFF
  let t := t.resetRange usbBase (usbBase + 0x40000) fun a => !warm && (a == usbBase + 4 || a == usbBase + 8)
  let t := (t.set usbBase USB_STAT_VBUS vbus).withUsb fun u => { u with pullAt := t.uptime + 10000000, repSeq := 0, isoSeq := 0 }
  if warm then t
  else
    let t := t.set usbBase USB_MGMT_CONNECT connect
    t.each [1, 2, 3, 4, 5, 6, 7, 8] fun s p => s.set (usbPort p) USB_PORT_CTRL_LOCK_OFF (locks.getD (p - 1) 0)

/-- HELD (Table 18.6): the pull-up is removed, ports 1 to 8 are off. -/
def State.usbHeld (s : State) : State := (s.portsOff).usbDetach

/-! ### Requests on EP0 -/

/-- A USB device request is for the hub's configured state; anywhere else it is out of place (R428). -/
def State.hubRequest (s : State) (f : State → State) : State :=
  if !s.usbLive ∨ s.upState = 0 ∨ s.upState = 4 then s
  else
    let t := s.ctrlAbandon true
    if s.upState ≠ 3 then t.stall else f t

/-- Number of packets of a transfer of `n` bytes with maximum packet `m` (R418). -/
def packets (n m : Nat) : Nat := n / m + 1

/-- Toggles of an endpoint advance by `n` packets (R426). -/
def State.toggleBy (s : State) (ep n : Nat) : State :=
  if n % 2 = 0 then s
  else s.withUsb fun u =>
    { u with toggles := if u.toggles.contains ep then u.toggles.filter (· != ep) else u.toggles ++ [ep] }

/-- Endpoints of the management device by interface (Table 15.3), or the hub's status endpoint. -/
def ifaceEps (hub : Bool) (i : Nat) : List Nat :=
  if hub then [0x181] else if i = 0 then [0x01, 0x81, 0x02, 0x82, 0x83] else [0x84]

/-- Endpoint code of a wIndex. -/
def epCode (hub : Bool) (idx : Nat) : Nat := (if hub then 0x100 else 0) + idx % 256

/-- Toggles and halts of endpoints return to DATA0 and no halt. -/
def State.epsFresh (s : State) (eps : List Nat) : State :=
  s.withUsb fun u => { u with toggles := u.toggles.filter (!eps.contains ·), halted := u.halted.filter (!eps.contains ·) }

/-- The state field of the device a SETUP names, written. -/
def State.setDevState (s : State) (hub : Bool) (v : Nat) : State :=
  if hub then s.set usbBase USB_STAT_UP_STATE v else s.set usbBase USB_MGMT_STATE v
/-- State of the device a SETUP names. -/
def State.devState (s : State) (hub : Bool) : Nat := if hub then s.upState else s.mgmtState

/-- SET_CONFIGURATION (R426); the first report of a device configured anew carries every masked source pending (R429). -/
def State.setConfig (s : State) (hub : Bool) (v : Nat) : State :=
  if 1 < v ∨ s.devState hub < 2 then s.stall
  else
    let eps := if hub then [0x181] else [0x01, 0x81, 0x02, 0x82, 0x83, 0x84]
    let t := (s.epsFresh eps).setDevState hub (2 + v)
    if hub then t.set usbBase USB_STAT_MULTI_TT 0
    else
      let t := (t.set usbBase USB_MGMT_ISO_ALT 0).withUsb fun u => { u with due := [] }
      if s.mgmtState = 2 then t.dropReports else t

/-- SET_INTERFACE (R426). The hub's interface 0 has alternates 0 and, at high speed, 1 (Table 15.1); the device's
interface 0 has one, its interface 1 two (Table 15.3). -/
def State.setIface (s : State) (hub : Bool) (i alt : Nat) : State :=
  let ok := s.devState hub = 3 ∧
    (if hub then i = 0 ∧ alt ≤ b2n s.upHs else (i = 0 ∧ alt = 0) ∨ (i = 1 ∧ alt ≤ 1))
  if !ok then s.stall
  else
    let t := s.epsFresh (ifaceEps hub i)
    if hub then t.set usbBase USB_STAT_MULTI_TT alt
    else if i = 1 then (t.set usbBase USB_MGMT_ISO_ALT alt).withUsb fun u => { u with due := [] }
    else t

/-- Whether a device has an endpoint. -/
def epThere (hub : Bool) (ep : Nat) : Bool := (ifaceEps hub 0).contains ep || (!hub && (ifaceEps hub 1).contains ep)

/-- SetFeature(ENDPOINT_HALT) (R427). -/
def State.setHalt (s : State) (hub : Bool) (idx : Nat) : State :=
  let ep := epCode hub idx
  if s.devState hub ≠ 3 ∨ !epThere hub ep then s.stall
  else s.withUsb fun u => { u with halted := if u.halted.contains ep then u.halted else u.halted ++ [ep] }

/-- ClearFeature(ENDPOINT_HALT) (R426, R427). -/
def State.clearHalt (s : State) (hub : Bool) (idx : Nat) : State :=
  let ep := epCode hub idx
  if s.devState hub ≠ 3 ∨ !epThere hub ep then s.stall else s.epsFresh [ep]

/-- DEVICE_REMOTE_WAKEUP. -/
def State.setRwake (s : State) (hub on : Bool) : State :=
  if hub then s.set usbBase USB_STAT_RWAKE_EN (b2n on) else s.set usbBase USB_MGMT_MRWAKE (b2n on)

/-- SetFeature(TEST_MODE) on the hub (R416). -/
def State.setTest (s : State) (mode : Nat) : State :=
  if mode = 0 ∨ 5 < mode then s.stall else s.set usbBase USB_STAT_TEST mode

/-- SetPortFeature(PORT_TEST) (R416). -/
def State.setPortTest (s : State) (p mode : Nat) : State :=
  if p = 0 ∨ 8 < p ∨ mode = 0 ∨ 5 < mode ∨ !s.portsQuiet 0 then s.stall else s.portTest p mode

/-! ### Descriptors -/

/-- A descriptor byte Tables 15.1 and 15.3 leave open. -/
def openByte (n : Nat) : List Byte := [Sys2Proof.Config.usbOpen n]

/-- Device descriptor of the hub or the management device. -/
def State.devDescr (s : State) (hub : Bool) : List Byte :=
  let pid := if hub then s.get usbBase USB_IDCFG_PID else s.get usbBase USB_IDCFG2_MGMT_PID
  leBytes 1 18 ++ leBytes 1 1 ++ leBytes 2 0x200
    ++ (if hub then leBytes 1 9 ++ leBytes 1 0 ++ leBytes 1 (2 * b2n s.upHs)
        else openByte 0 ++ openByte 1 ++ openByte 2)
    ++ leBytes 1 64 ++ leBytes 2 (s.get usbBase USB_IDCFG_VID) ++ leBytes 2 pid
    ++ leBytes 2 (s.get usbBase USB_IDCFG2_BCD) ++ openByte (3 + 8 * b2n hub) ++ openByte (4 + 8 * b2n hub)
    ++ openByte (5 + 8 * b2n hub) ++ leBytes 1 1

/-- An endpoint descriptor. -/
def epDescr (addr attr mps ival : Nat) : List Byte :=
  leBytes 1 7 ++ leBytes 1 5 ++ leBytes 1 addr ++ leBytes 1 attr ++ leBytes 2 mps ++ leBytes 1 ival

/-- An interface descriptor. -/
def ifDescr (n alt eps cls sub prot : Nat) (str : List Byte) : List Byte :=
  leBytes 1 9 ++ leBytes 1 4 ++ leBytes 1 n ++ leBytes 1 alt ++ leBytes 1 eps ++ leBytes 1 cls ++ leBytes 1 sub
    ++ leBytes 1 prot ++ str

/-- The interfaces and endpoints of a configuration (Tables 15.1, 15.3). -/
def confBody (hub hs : Bool) : List Byte :=
  if hub then
    let ep := epDescr 0x81 3 2 (if hs then 12 else 255)
    ifDescr 0 0 1 9 0 (b2n hs) (openByte 20) ++ ep ++ (if hs then ifDescr 0 1 1 9 0 2 (openByte 21) ++ ep else [])
  else
    let b := if hs then 512 else 64
    let o (n alt eps k : Nat) : List Byte :=
      leBytes 1 9 ++ leBytes 1 4 ++ leBytes 1 n ++ leBytes 1 alt ++ leBytes 1 eps ++ leBytes 1 0xFF ++ openByte k
        ++ openByte (k + 1) ++ openByte (k + 2)
    o 0 0 5 24 ++ epDescr 0x01 2 b 0 ++ epDescr 0x81 2 b 0 ++ epDescr 0x02 2 b 0 ++ epDescr 0x82 2 b 0
      ++ epDescr 0x83 3 8 (if hs then 4 else 1) ++ o 1 0 0 27 ++ o 1 1 1 30
      ++ epDescr 0x84 1 (if hs then 1024 else 1023) 1

/-- Device qualifier: the device descriptor at the other speed. -/
def State.devQualifier (s : State) (hub : Bool) : List Byte :=
  leBytes 1 10 ++ leBytes 1 6 ++ leBytes 2 0x200
    ++ (if hub then leBytes 1 9 ++ leBytes 1 0 ++ leBytes 1 (2 * b2n (!s.upHs)) else openByte 0 ++ openByte 1 ++ openByte 2)
    ++ leBytes 1 64 ++ leBytes 1 1 ++ leBytes 1 0

/-- Configuration descriptor; the hub and the device it holds are self-powered and can wake. -/
def confDescr (hub hs : Bool) : List Byte :=
  let body := confBody hub hs
  leBytes 1 9 ++ leBytes 1 2 ++ leBytes 2 (9 + body.length) ++ leBytes 1 (if hub then 1 else 2) ++ leBytes 1 1
    ++ openByte (6 + 8 * b2n hub) ++ leBytes 1 0xE0 ++ openByte (7 + 8 * b2n hub) ++ body

/-- Hub descriptor (Table 15.1). -/
def State.hubDescr (s : State) : List Byte :=
  leBytes 1 11 ++ leBytes 1 0x29 ++ leBytes 1 9 ++ leBytes 2 0x000D ++ leBytes 1 (s.get usbBase USB_HUBCFG_PWRGOOD_2MS)
    ++ openByte 33 ++ leBytes 2 0x0200 ++ leBytes 2 0xFFFF

/-- Data returned on EP0, cut to wLength. -/
def State.ctrlIn (s : State) (u : UsbSetup) (bs : List Byte) : State := s.emit (.usbIn 0 (bs.take u.len.toNat))

/-- GET_DESCRIPTOR. -/
def State.getDescr (s : State) (u : UsbSetup) : State :=
  let ty := u.val.toNat / 256
  if ty = 1 then s.ctrlIn u (s.devDescr u.hub)
  else if ty = 2 then s.ctrlIn u (confDescr u.hub s.upHs)
  else if ty = 6 then s.ctrlIn u (s.devQualifier u.hub)
  else if ty = 7 then s.ctrlIn u (confDescr u.hub (!s.upHs))
  else s.stall

/-- Standard requests of USB 2.0 chapter 9 (R417, R428). -/
def State.stdRequest (s : State) (u : UsbSetup) : State :=
  let rt := u.rt.toNat
  let rq := u.rq.toNat
  let v := u.val.toNat
  let on := s.devState u.hub = 3
  if rt = 0x80 ∧ rq = 0 then
    s.ctrlIn u (leBytes 2 (1 + 2 * (if u.hub then s.get usbBase USB_STAT_RWAKE_EN else s.get usbBase USB_MGMT_MRWAKE)))
  else if rt = 0x81 ∧ rq = 0 ∧ on ∧ u.idx.toNat ≤ b2n (!u.hub) then s.ctrlIn u (leBytes 2 0)
  else if rt = 0x82 ∧ rq = 0 ∧ u.idx.toNat % 128 = 0 then s.ctrlIn u (leBytes 2 0)
  else if rt = 0x82 ∧ rq = 0 ∧ on ∧ epThere u.hub (epCode u.hub u.idx.toNat) then
    s.ctrlIn u (leBytes 2 (b2n (s.usb.halted.contains (epCode u.hub u.idx.toNat))))
  else if rt = 0 ∧ (rq = 1 ∨ rq = 3) ∧ v = 1 then s.setRwake u.hub (rq == 3)
  else if rt = 0 ∧ rq = 3 ∧ v = 2 then if u.hub then s.setTest (u.idx.toNat / 256) else s.stall
  else if rt = 2 ∧ rq = 3 ∧ v = 0 then s.setHalt u.hub u.idx.toNat
  else if rt = 2 ∧ rq = 1 ∧ v = 0 then s.clearHalt u.hub u.idx.toNat
  else if rt = 0 ∧ rq = 5 then
    let t := s.withUsb fun x => if u.hub then { x with hubAddr := v % 128 } else { x with mgmtAddr := v % 128 }
    t.setDevState u.hub (if v % 128 = 0 then 1 else max 2 (s.devState u.hub))
  else if rt = 0x80 ∧ rq = 6 then s.getDescr u
  else if rt = 0x80 ∧ rq = 8 then s.ctrlIn u (leBytes 1 (b2n (s.devState u.hub == 3)))
  else if rt = 0 ∧ rq = 9 then s.setConfig u.hub v
  else if rt = 0x81 ∧ rq = 10 ∧ on ∧ u.idx.toNat ≤ b2n (!u.hub) then
    s.ctrlIn u (leBytes 1 (if u.hub then s.get usbBase USB_STAT_MULTI_TT
      else if u.idx.toNat = 1 then s.get usbBase USB_MGMT_ISO_ALT else 0))
  else if rt = 1 ∧ rq = 11 then s.setIface u.hub u.idx.toNat v
  else s.stall

/-- A port feature of the hub class is set. -/
def State.setPortFeature (s : State) (p f sel : Nat) : State :=
  if p = 0 ∨ 9 < p then s.stall
  else if f = 8 then s.setPower p
  else if f = 4 then if p = 9 then s.port9Reset else s.portReset p
  else if f = 2 then s.portSuspend p
  else if f = 21 then s.setPortTest p sel
  else s.stall

/-- A port feature of the hub class is cleared. -/
def State.clearPortFeature (s : State) (p f : Nat) : State :=
  if p = 0 ∨ 9 < p then s.stall
  else if f = 8 then s.clearPower p
  else if f = 1 then s.setPbit p 1 false
  else if f = 2 then s.portResume p true
  else if 16 ≤ f ∧ f ≤ 20 then s.setPbit p f false
  else s.stall

/-- Hub class requests of USB 2.0 (R404). -/
def State.classRequest (s : State) (u : UsbSetup) : State :=
  let rt := u.rt.toNat
  let rq := u.rq.toNat
  let p := u.idx.toNat % 256
  if rt = 0xA0 ∧ rq = 6 then s.ctrlIn u s.hubDescr
  else if rt = 0xA0 ∧ rq = 0 then s.ctrlIn u (leBytes 4 0)
  else if s.upState ≠ 3 then s.stall
  else if rt = 0xA3 ∧ rq = 0 then
    if p = 0 ∨ 9 < p then s.stall else s.ctrlIn u (leBytes 4 ((s.rd (usbPort p)).toNat ||| (if p = 9 then 256 else 0)))
  else if rt = 0x23 ∧ rq = 3 then s.setPortFeature p u.val.toNat (u.idx.toNat / 256)
  else if rt = 0x23 ∧ rq = 1 then s.clearPortFeature p u.val.toNat
  else if rt = 0x23 ∧ rq = 8 then if p = 0 ∨ 8 < p then s.stall else s.ttClearBuffer p (u.val.toNat % 4096)
  else if rt = 0x23 ∧ rq = 9 then if p = 0 ∨ 8 < p then s.stall else s.ttReset p
  else if rt = 0x20 ∧ (rq = 1 ∨ rq = 3 ∨ rq = 7) then s
  else s.stall

/-- Whether a SETUP can reach the device it names. -/
def State.setupReaches (s : State) (hub : Bool) : Bool :=
  s.usbLive && s.devState hub != 0 && s.devState hub != 4

/-- A SETUP on EP0 (R428): it abandons a transfer in progress; its own request takes effect when its transfer runs to its
end. -/
def State.setup (s : State) (u : UsbSetup) (f : State → State) : State :=
  if !s.setupReaches u.hub then s
  else
    let t := s.ctrlAbandon u.hub
    if u.whole then f t
    else t.withUsb fun x => if u.hub then { x with hubCtrl := true } else { x with mgmtCtrl := true }

/-- Any request. -/
def State.anyRequest (s : State) (u : UsbSetup) : State :=
  if u.rt.toNat / 32 % 4 = 1 ∧ u.hub then s.classRequest u else s.stdRequest u

end Sys2Proof.Machine
end

