-- ==== Sys2Proof/Machine/PdOps.lean ====
section
/-! DEFINITION. The USB Power Delivery ports: attach, transitions, contracts, swaps, the policy core (R434 to R455). -/

namespace Sys2Proof.Machine

/-- Port `p` beside its registers. -/
def State.pd_ (s : State) (p : Nat) : PdPort := Tbl.get (fun _ => {}) s.pd.ports p
/-- Port `p` replaced. -/
def State.setPd (s : State) (p : Nat) (x : PdPort) : State :=
  { s with pd := { s.pd with ports := Tbl.put (fun _ => {}) s.pd.ports p x } }

/-- TC_STATE of port `p`. -/
def State.tcState (s : State) (p : Nat) : Nat := s.get (pdBase p) PD_PSTAT_TC_STATE
/-- Whether port `p` is attached as Source. -/
def State.pdSource (s : State) (p : Nat) : Bool := s.tcState p == 2 && !(s.pd_ p).leaving
/-- Whether port `p` is attached as Sink. -/
def State.pdSink (s : State) (p : Nat) : Bool := s.tcState p == 3
/-- Whether the policy image runs (R449). -/
def State.polImage (s : State) : Bool := s.get pdAll PD_POL_STAT_RUNNING == 2
/-- Whether UPC0 sinks with DEAD_BATT (R445). -/
def State.deadBatt (s : State) (p : Nat) : Bool := p == 0 && s.flag (pdBase 0) PD_PSTAT_DEAD_BATT
/-- Whether the Policy island works. -/
def State.pdLive (s : State) : Bool := !s.inHeld && !(Tbl.get (fun _ => {}) s.islands 20).inReset

/-! ### Messages -/

/-- Header of a PD message (USB PD 3.1): type, roles, revision, MessageID, number of data objects, extended. -/
def State.pdHeader (s : State) (p type n ext : Nat) : Nat :=
  type + 32 * s.get (pdBase p) PD_PSTAT_DFP + 128 + 256 * s.get (pdBase p) PD_PSTAT_PWR_SRC
    + 512 * (s.pd_ p).msgId + 4096 * n + 32768 * ext

/-- A PD message leaves on port `p`. -/
def State.pdSend (s : State) (p : Nat) (bs : List Byte) : State :=
  (s.emit (.pdMsg p bs)).setPd p { s.pd_ p with msg := some (bs, 0), msgId := ((s.pd_ p).msgId + 1) % 8 }

/-- A control message. -/
def State.pdControl (s : State) (p type : Nat) : State := s.pdSend p (leBytes 2 (s.pdHeader p type 0 0))
/-- A data message. -/
def State.pdData (s : State) (p type : Nat) (objs : List Nat) : State :=
  s.pdSend p (leBytes 2 (s.pdHeader p type objs.length 0) ++ objs.flatMap (leBytes 4))
/-- An extended message in one chunk. -/
def State.pdExt (s : State) (p type : Nat) (data : List Byte) : State :=
  s.pdSend p (leBytes 2 (s.pdHeader p type ((data.length + 5) / 4) 1) ++ leBytes 2 (data.length % 512 + 32768) ++ data)

/-- Control message types of USB PD 3.1. -/
def msgAccept : Nat := 3
/-- Reject. -/
def msgReject : Nat := 4
/-- PS_RDY. -/
def msgPsRdy : Nat := 6
/-- DR_Swap. -/
def msgDrSwap : Nat := 9
/-- PR_Swap. -/
def msgPrSwap : Nat := 10
/-- VCONN_Swap. -/
def msgVconnSwap : Nat := 11
/-- Wait. -/
def msgWait : Nat := 12
/-- Soft_Reset. -/
def msgSoftReset : Nat := 13
/-- FR_Swap. -/
def msgFrSwap : Nat := 19

/-! ### Offers -/

/-- Entry `e` of PD_SRC_OFFER as (type, mV, mA). -/
def State.offer (s : State) (p e : Nat) : Nat × Nat × Nat :=
  let b := pdBase p + 0x40 + 4 * e
  (s.get b PD_SRC_OFFER_TYPE, s.get b PD_SRC_OFFER_MV, s.get b PD_SRC_OFFER_MA)

/-- Whether an entry is offered in EPR mode only (R442). -/
def eprEntry (o : Nat × Nat × Nat) : Bool := o.1 == 3 || (o.1 == 1 && decide (28000 ≤ o.2.1))

/-- Whether the port may offer EPR (R435). -/
def State.eprOk (s : State) (p : Nat) : Bool :=
  s.polImage && s.flag (pdBase p) PD_PCFG_EPR_EN && s.flag (pdBase p) PD_PSTAT_CABLE_5A && s.flag (pdBase p) PD_PSTAT_CABLE_EPR

/-- The offer of a source port as (position, type, mV, mA) (R435, R442, Table 16.6): entries 1 to 7 for SPR, from 8 on for
EPR, at most 3,000 mA without a 5 A cable. -/
def State.offers (s : State) (p : Nat) : List (Nat × Nat × Nat × Nat) :=
  if !s.polImage then [(1, 1, 5000, 3000)]
  else
    let cap (ma : Nat) : Nat := if s.flag (pdBase p) PD_PSTAT_CABLE_5A then ma else min ma 3000
    let es := (List.range 11).map (s.offer p)
    let spr := es.filter fun o => o.1 != 0 && !eprEntry o && (o.1 != 2 || s.flag (pdBase p) PD_PCFG_PPS_EN)
    let epr := if s.flag (pdBase p) PD_PSTAT_EPR_MODE then es.filter eprEntry else []
    (spr.take 7).zipIdx.map (fun x => (x.2 + 1, x.1.1, x.1.2.1, cap x.1.2.2))
      ++ (epr.take 4).zipIdx.map fun x => (x.2 + 8, x.1.1, x.1.2.1, cap x.1.2.2)

/-- A Power Data Object of USB PD 3.1; the first carries the port's flags (R442): dual-role power, USB communications
capable on UPC0 only, unconstrained power, EPR capable. -/
def State.pdo (s : State) (p : Nat) (o : Nat × Nat × Nat × Nat) : Nat :=
  let ma := o.2.2.2
  let mv := o.2.2.1
  if o.2.1 = 1 then
    let flags := if o.1 = 1 then
        2 ^ 29 * b2n (s.polImage && s.get (pdBase p) PD_PCFG_ROLES == 2) + 2 ^ 27 + 2 ^ 26 * b2n (p == 0)
          + 2 ^ 23 * b2n (s.eprOk p)
      else 0
    ma / 10 + 2 ^ 10 * (mv / 50) + flags
  else if o.2.1 = 2 then 3 * 2 ^ 30 + ma / 50 + 2 ^ 8 * 33 + 2 ^ 17 * (mv / 100)
  else 3 * 2 ^ 30 + 2 ^ 28 + mv * ma / 1000000 + 2 ^ 8 * 150 + 2 ^ 17 * (mv / 100)

/-- Source_Capabilities, or EPR_Source_Capabilities in EPR mode (R442). -/
def State.sendCaps (s : State) (p : Nat) : State :=
  let os := s.offers p
  if s.flag (pdBase p) PD_PSTAT_EPR_MODE then
    s.pdExt p 17 ((List.range 11).flatMap fun i =>
      match os.find? fun o => o.1 == i + 1 with | some o => leBytes 4 (s.pdo p o) | none => leBytes 4 0)
  else s.pdData p 1 (os.map (s.pdo p))

/-! ### Converter -/

/-- First duty for a voltage (R437): on the line from V0_MV at 0 to V4095_MV at 4,095. -/
def State.dutyFor (s : State) (p mv : Nat) : Nat :=
  let v0 := s.get (pdBase p) PD_CONV_V0_MV
  let v1 := s.get (pdBase p) PD_CONV_V4095_MV
  min 4095 ((mv - v0) * 4095 / (v1 - v0))

/-- The converter is set to a voltage. -/
def State.setTarget (s : State) (p mv : Nat) : State :=
  s.setPd p { s.pd_ p with target := mv, duty := s.dutyFor p mv }

/-- Whether a voltage lies in the window of the target (R437): within 1 % and 40 mV. -/
def State.inWindow (s : State) (p mv : Nat) : Bool :=
  let v := (s.pd_ p).target
  let d := v / 100 + 40
  decide (v ≤ mv + d) && decide (mv ≤ v + d)

/-- The source path is turned on at vSafe5V, and the cable is asked for its identity (R435, R439). -/
def State.sourceOn (s : State) (p : Nat) : State :=
  let t := (s.setPd p { s.pd_ p with srcEn := true, disch := false, starting := false }).setTarget p 5000
  let t := t.emit (.pdMsg (p + 16) (leBytes 2 (t.pdHeader p 15 1 0) ++ leBytes 4 0xFF008001))
  t.sendCaps p

/-! ### Contracts -/

/-- An explicit contract is in force (R442, R443). -/
def State.contractOn (s : State) (p mv ma kind : Nat) : State :=
  let b := pdBase p
  let t := ((s.set b PD_CONTRACT_MV mv).set b PD_CONTRACT_MA ma).set b PD_PSTAT_KIND kind
  ((t.set b PD_PSTAT_CONTRACT 1).evt b PD_EVT 2).bump b PD_CONTRACTS

/-- Any contract is void (R440, R444). -/
def State.contractOff (s : State) (p : Nat) : State :=
  let b := pdBase p
  let t := ((s.set b PD_CONTRACT_MV 0).set b PD_CONTRACT_MA 0).set b PD_PSTAT_KIND 0
  ((t.set b PD_PSTAT_CONTRACT 0).set b PD_PSTAT_EPR_MODE 0).set b PD_PSTAT_CL 0

/-- Result bytes of PD_REQUEST: the contract in force. -/
def State.contractBytes (s : State) (p : Nat) : List Byte :=
  leBytes 2 (s.get (pdBase p) PD_CONTRACT_MV) ++ leBytes 2 (s.get (pdBase p) PD_CONTRACT_MA)
/-- Result bytes of PD_SWAP: PD_PSTAT. -/
def State.pstatBytes (s : State) (p : Nat) : List Byte := leBytes 4 (s.rd (pdBase p + 4)).toNat

/-- A PD_REQUEST that waits is answered. -/
def State.wakeRequest (s : State) (p status : Nat) : State :=
  s.wake 0x0C01 p 0 status (if status = 0 then s.contractBytes p else [])
/-- A PD_SWAP that waits is answered. -/
def State.wakeSwap (s : State) (p status : Nat) : State :=
  s.wake 0x0C02 p 0 status (if status = 0 ∨ status = 0x0C04 then s.pstatBytes p else [])

/-- A swap, transition or Request in progress is abandoned; commands that wait on them are answered. -/
def State.pdAbandon (s : State) (p swapStatus : Nat) : State :=
  let x := s.pd_ p
  let t := (s.setPd p { x with trans := none, ask := none, swap := none, ocSince := none }).set (pdBase p) PD_PSTAT_IN_TRANSITION 0
  let t := if x.swap.isSome then t.wakeSwap p swapStatus else t
  if x.ask.isSome then t.wakeRequest p 0x0C05 else t

/-- What a Hard Reset does to this port (R444, R448): contract void; a source takes VBUS through vSafe0V to vSafe5V. -/
def State.hardReset (s : State) (p : Nat) : State :=
  let b := pdBase p
  let t := ((s.pdAbandon p 0x0C05).contractOff p).bump b PD_HARD_RESETS
  let t := t.evt b PD_EVT 4
  let x := t.pd_ p
  if t.pdSource p then t.setPd p { x with srcEn := false, disch := true, starting := true, msgId := 0, msg := none }
  else t.setPd p { x with msgId := 0, msg := none, pdos := [] }

/-- A Soft Reset is sent (R445, R451): counted; as Source the hub negotiates anew. -/
def State.softReset (s : State) (p : Nat) : State :=
  let t := (s.bump (pdBase p) PD_SOFT_RESETS).setPd p { s.pd_ p with msgId := 0 }
  let t := t.pdControl p msgSoftReset
  if t.pdSource p then t.sendCaps p else t

/-! ### Sink -/

/-- What a Power Data Object offers as (kind, lowest mV, highest mV, mA): 0 fixed, 1 PPS, 2 AVS. -/
def pdoReads (w : Nat) : Option (Nat × Nat × Nat × Nat) :=
  if w = 0 then none
  else if w / 2 ^ 30 = 0 then some (0, w / 2 ^ 10 % 1024 * 50, w / 2 ^ 10 % 1024 * 50, w % 1024 * 10)
  else if w / 2 ^ 30 = 3 ∧ w / 2 ^ 28 % 4 = 0 then
    some (1, w / 2 ^ 8 % 256 * 100, w / 2 ^ 17 % 256 * 100, w % 128 * 50)
  else if w / 2 ^ 30 = 3 ∧ w / 2 ^ 28 % 4 = 1 then
    let hi := w / 2 ^ 17 % 512 * 100
    some (2, w / 2 ^ 8 % 256 * 100, hi, if hi = 0 then 0 else w % 256 * 1000000 / hi)
  else none

/-- The position from 1 of the first partner's object that covers a request. -/
def State.covers (s : State) (p kind mv ma : Nat) : Option Nat :=
  ((s.pd_ p).pdos.zipIdx.find? fun x =>
    match pdoReads x.1 with
    | some (k, lo, hi, a) => k == kind && decide (lo ≤ mv) && decide (mv ≤ hi) && decide (ma ≤ a)
    | none => false).map (·.2 + 1)

/-- The default choice (R443): the fixed object with the highest voltage at or below MAX_MV, at the lesser of MA and the
offered current. -/
def State.defaultChoice (s : State) (p : Nat) : Option (Nat × Nat × Nat) :=
  (s.pd_ p).pdos.foldl (fun best w =>
    match pdoReads w with
    | some (0, v, _, a) =>
      let better : Bool := match best with | some (_, b, _) => decide (b < v) | none => true
      if v ≤ s.get (pdBase p) PD_SNK_MAX_MV ∧ better then
        some (0, v, min a (s.get (pdBase p) PD_SNK_MA))
      else best
    | _ => best) none

/-- A Request Data Object. -/
def rdo (pos kind mv ma : Nat) : Nat :=
  if kind = 0 then pos * 2 ^ 28 + 2 ^ 10 * (ma / 10) + ma / 10
  else if kind = 1 then pos * 2 ^ 28 + 2 ^ 9 * (mv / 20) + ma / 50
  else pos * 2 ^ 28 + 2 ^ 9 * (mv / 25) + ma / 50

/-- A Request is sent (R443): Request, or EPR_Request with a copy of the object in EPR mode. -/
def State.sendRequest (s : State) (p kind mv ma waits : Nat) : State :=
  match s.covers p kind mv ma with
  | none => s
  | some pos =>
    let t := s.setPd p { s.pd_ p with ask := some ⟨mv, ma, kind, false, waits⟩, reqAt := s.uptime }
    let o := rdo pos kind mv ma
    if t.flag (pdBase p) PD_PSTAT_EPR_MODE then t.pdData p 9 [o, (t.pd_ p).pdos.getD (pos - 1) 0] else t.pdData p 2 [o]

/-- The sink port requests by its policy (R443): the explicit choice while the source offers it, else the default. -/
def State.sinkRequest (s : State) (p : Nat) : State :=
  match (s.pd_ p).choice with
  | some (k, mv, ma) =>
    if (s.covers p k mv ma).isSome then s.sendRequest p k mv ma 0
    else
      let t := (s.setPd p { s.pd_ p with choice := none }).wakeRequest p 0x0C02
      match t.defaultChoice p with
      | some (k, v, a) => t.sendRequest p k v a 0
      | none => t
  | none =>
    match s.defaultChoice p with
    | some (k, v, a) => s.sendRequest p k v a 0
    | none => s

/-- Source_Capabilities arrive (R443); bits 24 and 23 of the first object tell FRS support and EPR. -/
def State.capsRx (s : State) (p : Nat) (objs : List Word) : State :=
  if !s.pdSink p ∨ !s.pdLive then s
  else
    let os := (objs.take 11).map (·.toNat)
    (s.setPd p { s.pd_ p with pdos := os, frs := os.headD 0 / 2 ^ 23 % 4 != 0 }).sinkRequest p

/-! ### Policy changes that wait -/

/-- Whether the policy that now runs accepts the contract of port `p` (R451, Table 16.6). -/
def State.polAccepts (s : State) (p : Nat) : Bool :=
  s.polImage || (if s.pdSource p then
      p != 0 && s.get (pdBase p) PD_CONTRACT_MV == 5000 && decide (s.get (pdBase p) PD_CONTRACT_MA ≤ 3000)
        && s.get (pdBase p) PD_PSTAT_KIND == 0 && !s.flag (pdBase p) PD_PSTAT_EPR_MODE
    else !s.flag (pdBase p) PD_PSTAT_EPR_MODE)

/-- A change of policy takes effect on port `p` (R451): a swap or transition in progress completes first; a contract the
new policy does not accept ends with a Soft Reset. -/
def State.polApply (s : State) (p : Nat) : State :=
  let x := s.pd_ p
  if x.swap.isSome ∨ x.trans.isSome then s.setPd p { x with polPend := true }
  else
    let t := s.setPd p { x with polPend := false }
    if t.flag (pdBase p) PD_PSTAT_CONTRACT ∧ !t.polAccepts p then (t.contractOff p).softReset p else t

/-- A swap or transition has ended: a waiting change of policy takes effect. -/
def State.polLate (s : State) (p : Nat) : State := if (s.pd_ p).polPend then s.polApply p else s

/-! ### Source -/

/-- A Request as the offer it names reads it: (kind, mV, mA), none when it matches no entry offered or asks more current
(R442). -/
def State.judgeRequest (s : State) (p w : Nat) : Option (Nat × Nat × Nat) :=
  match (s.offers p).find? fun o => o.1 == w / 2 ^ 28 with
  | none => none
  | some (_, ty, mv, ma) =>
    if ty = 1 then
      let a := w / 2 ^ 10 % 1024 * 10
      if a ≤ ma then some (0, mv, a) else none
    else
      let unit := if ty = 2 then 20 else 25
      let lo := if ty = 2 then 3300 else 15000
      let v := w / 2 ^ 9 % 4096 * unit
      let a := w % 128 * 50
      if a ≤ ma ∧ lo ≤ v ∧ v ≤ mv ∧ (ty = 3 → v % 100 = 0) then some (ty - 1, v, a) else none

/-- A Request received by a source port (R442, R444). -/
def State.requestRx (s : State) (p : Nat) (objs : List Word) : State :=
  if !s.pdSource p ∨ !s.pdLive then s
  else
    let t := s.setPd p { s.pd_ p with reqAt := s.uptime }
    match t.judgeRequest p ((objs.headD 0).toNat) with
    | none => t.pdControl p msgReject
    | some (k, v, a) =>
      let t := t.pdControl p msgAccept
      t.setPd p { t.pd_ p with trans := some ⟨v, a, k, t.uptime, none⟩ }

/-- 30 ms after the GoodCRC of the Accept the transition begins (R437). -/
def State.transStart (s : State) (p : Nat) : State :=
  match (s.pd_ p).trans with
  | some x =>
    if x.started.isSome ∨ s.uptime < x.at_ + 30000000 then s
    else
      let t := s.setPd p { s.pd_ p with trans := some { x with started := some s.uptime } }
      (t.set (pdBase p) PD_PSTAT_IN_TRANSITION 1).setTarget p x.mv
  | none => s

/-- A trim of the duty, each 100 µs (R437): a transition whose voltage is in its window sends PS_RDY, and the contract is in
force; outside the window the duty is trimmed. -/
def State.vsetTrim (s : State) (p mv : Nat) : State :=
  if !(s.pd_ p).srcEn ∨ !s.pdLive then s
  else if s.inWindow p mv then
    match (s.pd_ p).trans with
    | some x =>
      if x.started.isNone then s
      else
        let t := (s.setPd p { s.pd_ p with trans := none }).set (pdBase p) PD_PSTAT_IN_TRANSITION 0
        ((t.pdControl p msgPsRdy).contractOn p x.mv x.ma x.kind).polLate p
    | none => s
  else
    let r := s.takeFree
    r.2.setPd p { r.2.pd_ p with duty := (Sys2Proof.Config.pdTrim r.1).toNat }

/-- A converter fault (R437): the window missed within TRANS_MS, or `pg` low for 1 ms with the source path on. -/
def State.converterFault (s : State) (p : Nat) (pg : Bool) (mv : Nat) : State :=
  let x := s.pd_ p
  let late := match x.trans with
    | some y => (match y.started with
        | some t => decide (t + 1000000 * s.get (pdBase p) PD_XCFG_TRANS_MS ≤ s.uptime) | none => false)
    | none => false
  if !s.pdLive ∨ !x.srcEn ∨ (!pg ∧ !late) then s
  else
    let b := pdBase p
    let t := ((s.bump b PD_CONV_FAULTS).evt b PD_EVT 8).raise .pdConverter (srcPd p) 0
      (leBytes 2 x.target ++ leBytes 2 mv ++ leBytes 1 (b2n pg))
    (t.emit (.pdMsg p [])).hardReset p

/-- Means over the last 1 ms (PD_VBUS): ten samples of 100 µs. -/
def State.pdMean (s : State) (p mv ma : Nat) : State :=
  let x := s.pd_ p
  if x.samples + 1 < 10 then s.setPd p { x with sumMv := x.sumMv + mv, sumMa := x.sumMa + ma, samples := x.samples + 1 }
  else
    let t := (s.set (pdBase p) PD_VBUS_MV ((x.sumMv + mv) / 10)).set (pdBase p) PD_VBUS_MA ((x.sumMa + ma) / 10)
    t.setPd p { x with sumMv := 0, sumMa := 0, samples := 0 }

/-- A sample of the current of a source port, each 100 µs (R438). -/
def State.isnsSample (s : State) (p ma mv : Nat) : State :=
  let b := pdBase p
  let t := s.pdMean p mv ma
  let x := t.pd_ p
  if !t.pdLive ∨ !t.pdSource p ∨ !x.srcEn ∨ !t.flag b PD_PSTAT_CONTRACT then t
  else
    let limit := t.get b PD_CONTRACT_MA
    if t.get b PD_PSTAT_KIND = 1 then
      if ma < limit then t.set b PD_PSTAT_CL 0
      else
        let r := t.takeFree
        (r.2.setPd p { x with duty := (Sys2Proof.Config.pdTrim r.1).toNat }).set b PD_PSTAT_CL 1
    else if ma * 100 ≤ t.get b PD_XCFG_OCP_PCT * limit then t.setPd p { x with ocSince := none }
    else
      let since := x.ocSince.getD t.uptime
      if t.uptime < since + 1000000 * t.get b PD_XCFG_OCP_MS then t.setPd p { x with ocSince := some since }
      else
        let t := ((t.bump b PD_OCP).evt b PD_EVT 7).raise .pdOcp (srcPd p) 0 (leBytes 2 limit ++ leBytes 2 ma)
        (t.emit (.pdMsg p [])).hardReset p

/-- EPR_Mode arrives (R442): Enter (1) is granted when R435 allows, else answered Enter Failed (4); Enter Succeeded (3) and
Exit (5) change the mode. -/
def State.eprModeRx (s : State) (p : Nat) (objs : List Word) : State :=
  let b := pdBase p
  let act := (objs.headD 0).toNat / 2 ^ 24
  if !s.pdLive ∨ !(s.pdSource p || s.pdSink p) then s
  else if act = 5 then s.set b PD_PSTAT_EPR_MODE 0
  else if s.pdSink p then
    if act = 3 ∧ s.polImage then (s.set b PD_PSTAT_EPR_MODE 1).setPd p { s.pd_ p with kaAt := s.uptime } else s
  else if act ≠ 1 then s
  else if s.eprOk p then
    let t := (s.set b PD_PSTAT_EPR_MODE 1).setPd p { s.pd_ p with kaAt := s.uptime }
    (t.pdData p 10 [3 * 2 ^ 24]).sendCaps p
  else s.pdData p 10 [4 * 2 ^ 24]

/-- An EPR_KeepAlive arrives at a source in EPR mode (R444). -/
def State.keepAliveRx (s : State) (p : Nat) : State :=
  if !s.pdLive ∨ !s.pdSource p ∨ !s.flag (pdBase p) PD_PSTAT_EPR_MODE then s
  else (s.setPd p { s.pd_ p with kaAt := s.uptime }).pdExt p 16 (leBytes 1 4 ++ leBytes 1 0)

/-- As PPS sink the port sends a Request every 8 s (R444). -/
def State.ppsRequest (s : State) (p : Nat) : State :=
  let b := pdBase p
  if !s.pdLive ∨ !s.pdSink p ∨ !s.flag b PD_PSTAT_CONTRACT ∨ s.get b PD_PSTAT_KIND ≠ 1
      ∨ s.uptime < (s.pd_ p).reqAt + 8 * nsPerSec then s
  else s.sendRequest p 1 (s.get b PD_CONTRACT_MV) (s.get b PD_CONTRACT_MA) 0

/-- As EPR sink the port sends EPR_KeepAlive every 400 ms (R444). -/
def State.keepAliveSend (s : State) (p : Nat) : State :=
  if !s.pdLive ∨ !s.pdSink p ∨ !s.flag (pdBase p) PD_PSTAT_EPR_MODE ∨ s.uptime < (s.pd_ p).kaAt + 400000000 then s
  else (s.setPd p { s.pd_ p with kaAt := s.uptime }).pdExt p 16 (leBytes 1 3 ++ leBytes 1 0)

/-- A source hears no Request for 15 s under PPS, or no EPR_KeepAlive for 1 s (R444): Hard Reset. -/
def State.keepAliveTimeout (s : State) (p : Nat) : State :=
  let b := pdBase p
  let x := s.pd_ p
  let pps := s.flag b PD_PSTAT_CONTRACT && s.get b PD_PSTAT_KIND == 1 && decide (x.reqAt + 15 * nsPerSec ≤ s.uptime)
  let epr := s.flag b PD_PSTAT_EPR_MODE && decide (x.kaAt + nsPerSec ≤ s.uptime)
  if s.pdLive ∧ s.pdSource p ∧ (pps ∨ epr) then (s.emit (.pdMsg p [])).hardReset p else s

/-- A Soft Reset arrives (R444): accepted, counted; a source offers anew. -/
def State.softResetRx (s : State) (p : Nat) : State :=
  if !s.pdLive ∨ !(s.pdSource p || s.pdSink p) then s
  else
    let t := (s.bump (pdBase p) PD_SOFT_RESETS).setPd p { s.pd_ p with msgId := 0 }
    let t := t.pdControl p msgAccept
    if t.pdSource p then t.sendCaps p else t

/-- A Hard Reset arrives (R444, R448). -/
def State.hardResetRx (s : State) (p : Nat) : State :=
  if !s.pdLive ∨ !(s.pdSource p || s.pdSink p) then s else s.hardReset p

/-- The cable answers Discover Identity (R435): its VDO gives 5 A in bits 6 and 5, 50 V in bits 10 and 9. -/
def State.cableRx (s : State) (p : Nat) (objs : List Word) : State :=
  if !s.pdLive ∨ !s.pdSource p ∨ bitsOf (objs.headD 0) 6 2 ≠ 1 then s
  else
    let b := pdBase p
    let v := objs.getD 4 0
    let t := (s.set b PD_PSTAT_CABLE_5A (b2n (bitsOf v 5 2 == 2))).set b PD_PSTAT_CABLE_EPR (b2n (bitsOf v 9 2 == 3))
    if (t.pd_ p).srcEn then t.sendCaps p else t

/-! ### Attach and detach -/

/-- Whether port `p` may attach in a role (R434, R439, Table 16.6). -/
def State.roleOk (s : State) (p : Nat) (source : Bool) : Bool :=
  if !s.polImage then source == (p != 0)
  else
    let r := s.get (pdBase p) PD_PCFG_ROLES
    if source then r != 0 else (r == 0 || r == 2)

/-- A partner is attached (R439). -/
def State.attach (s : State) (p : Nat) (source cc2 : Bool) : State :=
  let b := pdBase p
  let st := s.tcState p
  if !s.pdLive ∨ !s.flag b PD_PCFG_EN ∨ (st ≠ 0 ∧ st ≠ 1 ∧ st ≠ 4) ∨ !s.roleOk p source then s
  else
    let t := ((s.set b PD_PSTAT_TC_STATE (if source then 2 else 3)).set b PD_PSTAT_POLARITY (b2n cc2)).set b PD_PSTAT_PWR_SRC (b2n source)
    let t := (t.set b PD_PSTAT_DFP (b2n source)).set b PD_PSTAT_VCONN_SRC (b2n source)
    let t := (t.evt b PD_EVT 0).bump b PD_ATTACHES
    let x := t.pd_ p
    t.setPd p { x with disch := source, starting := source, snkEn := !source, leaving := false, msgId := 0, pdos := []
                       choice := none, frs := false }

/-- The half periods of a DRP port's toggle (R439): 75 ms period, 50 % Source share. -/
def State.drpToggle (s : State) (p : Nat) : State :=
  let x := s.pd_ p
  if !s.pdLive ∨ !s.flag (pdBase p) PD_PCFG_EN ∨ s.get (pdBase p) PD_PCFG_ROLES ≠ 2 ∨ !s.polImage ∨ s.tcState p ≠ 0
      ∨ s.uptime < x.rpAt + 37500000 then s
  else s.setPd p { x with rp := !x.rp, rpAt := s.uptime }

/-- The port's status after its partner has gone. -/
def State.pdUnattached (s : State) (p tc : Nat) : State :=
  let b := pdBase p
  let dead := s.get b PD_PSTAT_DEAD_BATT
  let t := s.wr (b + 4) 0
  ((t.set b PD_PSTAT_TC_STATE tc).set b PD_PSTAT_DEAD_BATT dead).setPd p
    { rp := (s.pd_ p).rp, rpAt := s.uptime, duty := (s.pd_ p).duty, target := (s.pd_ p).target }

/-- The port detaches (R440, R441): `mv` the VBUS voltage then. -/
def State.detach (s : State) (p mv : Nat) : State :=
  let b := pdBase p
  if !s.pdLive ∨ !(s.pdSource p || s.pdSink p) then s
  else
    let x := s.pd_ p
    let src := s.pdSource p
    let moving := s.flag b PD_PSTAT_IN_TRANSITION
    let t := (s.pdAbandon p 0x0C05).evt b PD_EVT 1
    let t :=
      if moving then
        ((t.bump b PD_DETACH_XSN).evt b PD_EVT 6).raise .pdDetachInTransition (srcPd p) 0 (leBytes 2 x.target ++ leBytes 2 mv)
      else t
    let t := (t.contractOff p).set b PD_PSTAT_VCONN_SRC 0
    if src then
      t.setPd p { t.pd_ p with srcEn := false, snkEn := false, disch := true, starting := false, leaving := true, target := mv }
    else t.pdUnattached p 0

/-- VBUS has reached vSafe0V (R439, R440, R444): a port that leaves is unattached; one that starts turns its source path
on. -/
def State.discharged (s : State) (p : Nat) : State :=
  let x := s.pd_ p
  if !s.pdLive ∨ !x.disch then s
  else if x.leaving ∨ s.tcState p = 5 then s.pdUnattached p (if s.flag (pdBase p) PD_PCFG_EN then 0 else 6)
  else if x.starting then s.sourceOn p
  else s.setPd p { x with disch := false }

/-- PD_PCFG.EN is written (R439): a port that stops goes through its detach and is disabled. -/
def State.pdEnWritten (s : State) (p : Nat) (was : Bool) : State :=
  let on := s.flag (pdBase p) PD_PCFG_EN
  if was = on then s
  else if on then (if s.tcState p = 6 then s.set (pdBase p) PD_PSTAT_TC_STATE 0 else s)
  else
    let t := s.detach p (s.get (pdBase p) PD_VBUS_MV)
    if (t.pd_ p).leaving then t else t.set (pdBase p) PD_PSTAT_TC_STATE 6

/-! ### Swaps -/

/-- A completed swap: counted, its roles in force, a PD_SWAP that waits answered (R446). -/
def State.swapDone (s : State) (p : Nat) (x : PdSwap) : State :=
  let b := pdBase p
  let t := s.setPd p { s.pd_ p with swap := none }
  let t := if x.kind = 4 then t else (t.bump b PD_SWAPS).evt b PD_EVT 3
  let t := if x.own then t.wakeSwap p 0 else if x.yielded then t.wakeSwap p 0x0C04 else t
  t.polLate p

/-- The hub takes the Source role (R446, R447). -/
def State.becomeSource (s : State) (p : Nat) : State :=
  let b := pdBase p
  let t := ((s.contractOff p).set b PD_PSTAT_PWR_SRC 1).set b PD_PSTAT_TC_STATE 2
  (t.setPd p { t.pd_ p with snkEn := false, srcEn := true, pdos := [], choice := none, ask := none }).setTarget p 5000

/-- The hub takes the Sink role (R446, R447). -/
def State.becomeSink (s : State) (p : Nat) (path : Bool) : State :=
  let b := pdBase p
  let t := ((s.contractOff p).set b PD_PSTAT_PWR_SRC 0).set b PD_PSTAT_TC_STATE 3
  t.setPd p { t.pd_ p with srcEn := false, snkEn := path, trans := none, pdos := [], choice := none }

/-- An accepted PR_Swap begins: the present source turns its path off and says so. -/
def State.prBegin (s : State) (p : Nat) : State :=
  if s.pdSource p then (s.setPd p { s.pd_ p with srcEn := false }).pdControl p msgPsRdy
  else s.setPd p { s.pd_ p with snkEn := false }

/-- A DR_Swap takes effect at its Accept. -/
def State.drDone (s : State) (p : Nat) (x : PdSwap) : State :=
  (s.set (pdBase p) PD_PSTAT_DFP (1 - s.get (pdBase p) PD_PSTAT_DFP)).swapDone p x

/-- An accepted VCONN_Swap: a hub that is to supply VCONN does so and says so; one that supplies it waits for PS_RDY. -/
def State.vconnBegin (s : State) (p : Nat) (x : PdSwap) : State :=
  if s.flag (pdBase p) PD_PSTAT_VCONN_SRC then s
  else ((s.set (pdBase p) PD_PSTAT_VCONN_SRC 1).pdControl p msgPsRdy).swapDone p x

/-- An accepted swap goes on by its kind. -/
def State.swapGo (s : State) (p : Nat) (x : PdSwap) : State :=
  let y := { x with taken := true }
  let t := s.setPd p { s.pd_ p with swap := some y }
  if x.kind = 1 then t.prBegin p else if x.kind = 2 then t.drDone p y else t.vconnBegin p y

/-- Whether the hub grants a partner's swap (R434, R445, R446, Table 16.6); a policy image decides what the rules leave to
it. -/
def State.swapVerdict (s : State) (p kind : Nat) : Bool × State :=
  let dfp := s.flag (pdBase p) PD_PSTAT_DFP
  if kind = 2 then (p == 0 && dfp, s)
  else if !s.polImage ∨ (kind = 1 ∧ s.deadBatt p) then (false, s)
  else
    let r := s.takeFree
    (Sys2Proof.Config.pdPolicy r.1, r.2)

/-- A swap request of the partner (R446): a collision with the hub's own request is resolved by the present power role. -/
def State.swapRx (s : State) (p kind : Nat) : State :=
  if !s.pdLive ∨ !(s.pdSource p || s.pdSink p) then s
  else
    let own : Bool := match (s.pd_ p).swap with | some x => x.own && !x.taken | none => false
    if own ∧ s.pdSource p then s.pdControl p msgWait
    else if (s.pd_ p).swap.isSome ∧ !own then s.pdControl p msgWait
    else
      let t := if own then (s.bump (pdBase p) PD_SWAP_YIELDS).setPd p { s.pd_ p with swap := none } else s
      let r := t.swapVerdict p kind
      if r.1 then (r.2.pdControl p msgAccept).swapGo p ⟨kind, false, true, 0, own⟩
      else
        let u := r.2.pdControl p msgReject
        if own then u.wakeSwap p 0x0C04 else u

/-- The message that asks for a swap. -/
def swapMsg (kind : Nat) : Nat := if kind = 1 then msgPrSwap else if kind = 2 then msgDrSwap else msgVconnSwap

/-- Accept (0), Reject (1) or Wait (2) answers the hub's own swap or Request (R443, R446). -/
def State.answerRx (s : State) (p ans : Nat) : State :=
  let x := s.pd_ p
  if !s.pdLive then s
  else
    match x.swap, x.ask with
    | some w, _ =>
      if !w.own ∨ w.taken then s
      else if ans = 0 then s.swapGo p w
      else if ans = 2 ∧ w.waits < 2 then
        (s.setPd p { x with swap := some { w with waits := w.waits + 1 } }).pdControl p (swapMsg w.kind)
      else ((s.setPd p { x with swap := none }).wakeSwap p 0x0C03).polLate p
    | none, some a =>
      if a.taken then s
      else if ans = 0 then s.setPd p { x with ask := some { a with taken := true } }
      else if ans = 2 ∧ a.waits < 2 then s.sendRequest p a.kind a.mv a.ma (a.waits + 1)
      else (s.setPd p { x with ask := none }).wakeRequest p 0x0C03
    | none, none => s

/-- PS_RDY arrives (R437, R446): it completes the sink's contract, or a swap. -/
def State.psRdyRx (s : State) (p : Nat) : State :=
  let x := s.pd_ p
  if !s.pdLive then s
  else
    match x.swap, x.ask with
    | some w, _ =>
      if !w.taken then s
      else if w.kind = 1 then
        if s.pdSource p then (s.becomeSink p true).swapDone p w
        else (((s.becomeSource p).pdControl p msgPsRdy).swapDone p w).sendCaps p
      else if w.kind = 3 then (s.set (pdBase p) PD_PSTAT_VCONN_SRC 0).swapDone p w
      else if w.kind = 4 then (s.setPd p { x with snkEn := true }).swapDone p w
      else s
    | none, some a =>
      if !a.taken then s
      else
        let t := (s.setPd p { x with ask := none }).contractOn p a.mv a.ma a.kind
        let t := t.wakeRequest p 0
        if t.polImage ∧ t.flag (pdBase p) PD_PCFG_EPR_EN ∧ !t.flag (pdBase p) PD_PSTAT_EPR_MODE
            ∧ bitAt (x.pdos.headD 0) 23 then t.pdData p 10 [2 ^ 24]
        else t
    | none, none => s

/-- Whether Fast Role Swap may run (R447). -/
def State.frsOn (s : State) (p : Nat) : Bool :=
  p == 0 && s.polImage && s.flag (pdBase 0) PD_PCFG_FRS_EN && (s.pd_ 0).frs && s.pdLive

/-- FRS goes before a PR_Swap in progress (R448). -/
def State.frsCount (s : State) (p : Nat) : State :=
  let b := pdBase p
  ((s.pdAbandon p 0x0C03).bump b PD_FRS).evt b PD_EVT 5

/-- An FRS signal reaches UPC0 as Sink (R447): the hub sources 5 V; with DEAD_BATT it does not answer (R445). -/
def State.frsRx (s : State) (p : Nat) : State :=
  if !s.frsOn p ∨ !s.pdSink p ∨ s.deadBatt p then s
  else (((s.frsCount p).becomeSource p).pdControl p msgFrSwap).sendCaps p

/-- UPC0_PG falls while the hub sources (R447): it signals FRS and becomes Sink; its sink path closes once the new source
has VBUS up. -/
def State.frsLoss (s : State) : State :=
  if !s.frsOn 0 ∨ !s.pdSource 0 ∨ !(s.pd_ 0).srcEn then s
  else
    let t := ((s.frsCount 0).emit (.pdMsg 0 [0xFF#8])).becomeSink 0 false
    t.setPd 0 { t.pd_ 0 with swap := some ⟨4, false, true, 0, false⟩ }

/-- No GoodCRC within its time (R444): three retries, then discarded and counted. -/
def State.goodCrcTimeout (s : State) (p : Nat) : State :=
  match (s.pd_ p).msg with
  | some (bs, n) =>
    if n < 3 then (s.emit (.pdMsg p bs)).setPd p { s.pd_ p with msg := some (bs, n + 1) }
    else (s.setPd p { s.pd_ p with msg := none }).bump (pdBase p) PD_MSG_DISCARD
  | none => s

/-! ### Policy, resets -/

/-- The core runs a policy: RUNNING, why, and its version (R449); the ports follow R451. -/
def State.runPolicy (s : State) (image : Bool) (cause ver : Nat) : State :=
  let t := (s.set pdAll PD_POL_STAT_RUNNING (if image then 2 else 1)).set pdAll PD_POL_STAT_FB_CAUSE cause
  let t := (t.set pdAll PD_POL_STAT_IMG_VER (ver % 65536))
  let t := { t with pd := { t.pd with imgVer := ver } }
  t.each [0, 1, 2] fun s p => s.polApply p

/-- The policy image has not serviced its watchdog (R449). -/
def State.policyWdog (s : State) : State :=
  if !s.polImage ∨ !s.pdLive then s
  else
    let v := s.pd.imgVer
    let t := { s with pd := { s.pd with barred := true } }
    let t := ((t.bump pdAll PD_POL_RESTARTS).evt pdAll PD_GEVT 0).raise .pdPolicyWdog (srcIsland 20) 0 (leBytes 4 v)
    t.runPolicy false 4 0

/-- A source port, and an attached DPC1 or DPC2, goes through error recovery (R452); UPC0 as Sink keeps its path and its
Rd. -/
def State.pdPortReset (s : State) (p : Nat) : State :=
  let t := s.pdAbandon p 0x0C05
  if t.tcState p = 3 ∧ p = 0 then t.setPd p { snkEn := true }
  else if t.tcState p = 2 ∨ t.tcState p = 3 then
    (t.pdUnattached p 5).setPd p { disch := true, target := (t.pd_ p).target }
  else t.setPd p {}

/-- A reset of the Policy island (R452): `warm` when it belongs to a warm reset, which alone lets an image run again that its
watchdog stopped (R449). -/
def State.pdIslandReset (s : State) (warm : Bool) : State :=
  let t := s.each [0, 1, 2] fun s p => s.pdPortReset p
  let tcs := [0, 1, 2].map t.tcState
  let keep (a : Nat) : Bool :=
    !warm && decide (0x541000 ≤ a) && (a % 0x400 == 0 || (decide (0x18 ≤ a % 0x400) && decide (a % 0x400 < 0x6C)))
  let t := t.resetRange pdAll (pdAll + 0x40000) keep
  let t := t.each [0, 1, 2] fun s p =>
    let tc := tcs.getD p 0
    let u := s.set (pdBase p) PD_PSTAT_TC_STATE tc
    if tc = 2 ∨ tc = 5 then u.set (pdBase p) PD_PSTAT_TC_STATE 5 else u
  { t with pd := { t.pd with barred := t.pd.barred && !warm, imgVer := 0 } }

/-- The policy core runs again (R452): a sink sends Soft Reset. -/
def State.pdRestart (s : State) : State := if s.pdSink 0 then s.softReset 0 else s

/-- HELD (Table 18.6): sources switch off and discharge; UPC0 as Sink keeps its path. -/
def State.pdHeld (s : State) : State :=
  s.each [0, 1, 2] fun s p =>
    if s.tcState p = 3 then s
    else (s.set (pdBase p) PD_PSTAT_VCONN_SRC 0).setPd p { s.pd_ p with srcEn := false, disch := (s.pd_ p).srcEn, starting := false }

/-- Any feed qualifies: DEAD_BATT clears (R445). -/
def State.deadClear (s : State) : State :=
  if s.flag (pdBase 0) PD_PSTAT_DEAD_BATT ∧ s.get feedReg FEED_STAT_QUALIFIED ≠ 0 then s.set (pdBase 0) PD_PSTAT_DEAD_BATT 0
  else s

/-! ### Requests by command -/

/-- Whether a PD_REQUEST asks for a step and range of Table 16.1. -/
def pdRangeOk (kind mv ma : Nat) : Bool :=
  if kind = 0 then [5000, 9000, 15000, 20000, 28000, 36000, 48000].contains mv
  else if kind = 1 then decide (3300 ≤ mv) && decide (mv ≤ 21000) && mv % 20 == 0 && ma % 50 == 0
  else decide (15000 ≤ mv) && decide (mv ≤ 48000) && mv % 100 == 0

/-- PD_REQUEST (R443, Table 16.7). -/
def State.pdRequest (s : State) (p kind mv ma : Nat) : CmdRes :=
  if 2 < kind ∨ !pdRangeOk kind mv ma then .no s 0x22
  else if !s.pdSink p then .no s 0x0C01
  else if (s.pd_ p).pdos.isEmpty then .no s 0x0C05
  else if (kind = 1 ∧ !s.flag (pdBase p) PD_PCFG_PPS_EN) ∨ (s.covers p kind mv ma).isNone then .no s 0x0C02
  else
    let t := s.setPd p { s.pd_ p with choice := some (kind, mv, ma) }
    .wait (.unit p 0) (t.sendRequest p kind mv ma 0)

/-- PD_SWAP (R446, Table 16.7); the fallback policy holds each port to its one power role (Table 16.6). -/
def State.pdSwap (s : State) (p kind : Nat) : CmdRes :=
  if kind = 0 ∨ 3 < kind then .no s 0x22
  else if !(s.pdSource p || s.pdSink p) ∨ !s.flag (pdBase p) PD_PSTAT_CONTRACT then .no s 0x0C05
  else if kind = 2 ∧ (p ≠ 0 ∨ !s.flag (pdBase p) PD_PSTAT_DFP) then .no s 0x24
  else if kind = 1 ∧ (s.deadBatt p ∨ !s.polImage) then .no s 0x24
  else if (s.pd_ p).swap.isSome then .no s 0x0C03
  else
    let t := s.setPd p { s.pd_ p with swap := some ⟨kind, true, false, 0, false⟩ }
    .wait (.unit p 0) (t.pdControl p (swapMsg kind))

end Sys2Proof.Machine
end

