-- ==== Sys2Proof/Machine/RegMap.lean ====
section
/-! DEFINITION. Register space as Table 1.7 lays it out: which offsets are mapped, which belong to absent units, which to
fence units and gated islands, which are pop words; and what a register word reads as. -/

namespace Sys2Proof.Machine

/-! ### The map -/

/-- The blocks of Table 1.7 as (first offset, first offset after). -/
def regBlocks : List (Nat × Nat) :=
  [(0, 0x50000), (0x80000, 0xC0000), (0x100000, 0x140000), (0x200000, 0x208000), (0x300000, 0x303000),
   (0x400000, 0x404000), (0x440000, 0x450000), (0x500000, 0x580000), (0x600000, 0x800000)]

/-- Whether an offset of register space is mapped (R39): within a block, without the second place of the ring-wide set
(R158) and the LMAC words of the ring ports' MAC sets (R184). -/
def regMapped (a : Nat) : Bool :=
  (regBlocks.any fun b => decide (b.1 ≤ a ∧ a < b.2)) && !(decide (0x3F000 ≤ a ∧ a < 0x40000))
    && !(a == 0x21024 || a == 0x21028 || a == 0x31024 || a == 0x31028)

/-- The line whose register set a DIO offset lies in (Table 13.8). -/
def dioRegLine (a : Nat) : Option Nat :=
  let o := a % 0x1000
  if 0x100 ≤ o ∧ o < 0x500 then some (64 * ((a - 0x300000) / 0x1000) + (o - 0x100) / 16) else none

/-- Whether the unit an offset belongs to is present on this variant (R4); a word of absent channels' fields among the
function sets (Table 17.12) counts as absent, and so does the publication or lag word of a source code that Table 9.1 does
not give or whose unit is absent (R241). -/
def State.regPresent (s : State) (a : Nat) : Bool :=
  if 0xA0400 ≤ a ∧ a < 0xA0C00 then s.sourceOk ((a - 0xA0400) / 4 % 256) else
  if 0x100000 ≤ a ∧ a < 0x140000 then decide ((a - 0x100000) / 0x1000 < s.nCan)
  else if 0x200000 ≤ a ∧ a < 0x208000 then decide ((a - 0x200000) / 0x1000 < s.nFlask)
  else if 0x300000 ≤ a ∧ a < 0x303000 then
    decide (64 * ((a - 0x300000) / 0x1000) < s.nDio)
      && (match dioRegLine a with | some j => decide (j < s.nDio) | none => true)
  else if 0x400000 ≤ a ∧ a < 0x404000 then decide ((a - 0x400000) / 0x100 < s.nPch)
  else if 0x680000 ≤ a ∧ a < 0x680B00 then s.queuePresent ((a - 0x680000) / 0x40)
  else if 0x780108 ≤ a ∧ a < 0x780280 ∧ a % 0x80 = 8 then decide (32 < s.nPch)
  else if 0x780400 ≤ a ∧ a < 0x780500 then decide ((a - 0x780400) / 4 < s.nPch)
  else true

/-- The fence unit whose registers an offset lies in (R35). The power summaries PWR_ISUM are kept on the main die (R402). -/
def regFence (a : Nat) : Option FenceUnit :=
  if 0x100000 ≤ a ∧ a < 0x140000 then some (.canIsl ((a - 0x100000) / 0x10000))
  else if 0x200000 ≤ a ∧ a < 0x208000 then some (.flask ((a - 0x200000) / 0x1000))
  else if 0x300000 ≤ a ∧ a < 0x303000 then some (.dioBank ((a - 0x300000) / 0x1000))
  else if 0x400000 ≤ a ∧ a < 0x404000 then some (.pedie ((a - 0x400000) / 0x2000))
  else if 0x440000 ≤ a ∧ a < 0x450000 then
    (if a = 0x440020 ∨ a = 0x440024 ∨ a = 0x440028 then none else some (.pedie 0))
  else if 0x20000 ≤ a ∧ a < 0x2F000 then some (.ringPort 0)
  else if 0x30000 ≤ a ∧ a < 0x3F000 then some (.ringPort 1)
  else none

/-- Whether an offset lies in a fenced unit. -/
def State.regFenced (s : State) (a : Nat) : Bool := match regFence a with | some u => s.fenced u | none => false

/-- The island that can be gated whose registers an offset lies in (Table 19.7), by Table 18.2's number. -/
def regIsland (a : Nat) : Option Nat :=
  if 0x100000 ≤ a ∧ a < 0x140000 then some (4 + (a - 0x100000) / 0x10000)
  else if 0x200000 ≤ a ∧ a < 0x208000 then some (8 + (a - 0x200000) / 0x1000)
  else if 0x300000 ≤ a ∧ a < 0x303000 then some (16 + (a - 0x300000) / 0x1000)
  else if 0x500000 ≤ a ∧ a < 0x540000 then some 19
  else if 0x540000 ≤ a ∧ a < 0x580000 then some 20
  else none

/-- Whether an offset lies in a gated island (R511). -/
def State.regGated (s : State) (a : Nat) : Bool :=
  match regIsland a with | some i => s.sys.gated.contains i | none => false

/-- Whether an offset is a pop word (Table 10.4). -/
def popWord (a : Nat) : Bool :=
  (decide (0x1043C ≤ a ∧ a ≤ 0x1057C) && (a - 0x1043C) % 0x40 == 0)
    || (decide (0x100000 ≤ a ∧ a < 0x140000) && (a % 0x1000 == 0xF0 || a % 0x1000 == 0xF4))
    || (decide (0x200000 ≤ a ∧ a < 0x208000) && decide (0x100 ≤ a % 0x1000 ∧ a % 0x1000 < 0x120) && a % 4 == 0)
    || (decide (0x300000 ≤ a ∧ a < 0x303000) && a % 0x1000 == 0xF0)
    || a == 0x700010

/-- What reading a pop word takes from its queue (Table 10.4). -/
def State.regPop (s : State) (a : Nat) : State :=
  if a < 0x20000 then
    let p := (a - 0x1043C) / 0x40
    s.setTsq p ((s.tsq p).drop 1)
  else if a < 0x140000 then
    let n := (a - 0x100000) / 0x1000
    if a % 0x1000 = 0xF0 then s.rxqPop n else s.setCan n { s.can n with txeq := (s.can n).txeq.drop 1 }
  else if a < 0x208000 then s.engPop ((a - 0x200000) / 0x1000) ((a % 0x1000 - 0x100) / 4)
  else if a < 0x303000 then s.evqPop ((a - 0x300000) / 0x1000)
  else s.noticePop

/-! ### AON time -/

/-- AON time in 1/32,768 s (R514): the crystal is taken as exact, and AON_TRIM corrects the rate. -/
def State.aonNow (s : State) : Nat :=
  let ppm := toSigned 16 (s.get aonBase AON_TRIM_PPM_X10)
  let d := s.uptime - s.sys.aonAt
  s.sys.aonBase + ((d * 32768 : Int) * (10000000 + ppm) / (10000000 * nsPerSec)).toNat

/-- AON time written (R514). -/
def State.setAon (s : State) (t : Nat) : State :=
  { s with sys := { s.sys with aonBase := t % 2 ^ 63, aonAt := s.uptime } }

/-! ### Reading -/

/-- A field's value in its place. -/
def inPlace (f : Fld) (v : Nat) : Nat := v % 2 ^ f.width * 2 ^ f.lo

/-- A stored word with some of its fields computed as it is read. -/
def State.rdWith (s : State) (a : Nat) (fs : List (Fld × Nat)) : Nat :=
  (fs.foldl (fun w p => putBits w p.1.lo p.1.width p.2) (s.rd a)).toNat

/-- Bits of a list of truth values, first in bit 0. -/
def bitsNat (bs : List Bool) : Nat := bs.foldr (fun b n => b2n b + 2 * n) 0

/-- Word `k` of a full stamp in registers (R9): nanoseconds, seconds [31:0], seconds [47:32]. -/
def stampWord (t k : Nat) : Nat :=
  if k = 0 then t % nsPerSec else if k = 1 then t / nsPerSec % 2 ^ 32 else t / nsPerSec / 2 ^ 32

/-- Registers of the SYS block that are computed as they are read (Tables 0.1, 4.12, 21.5). -/
def State.liveSys (s : State) (a : Nat) : Option Nat :=
  if a = 0 then some s.sysId
  else if a = 0x1004 then some (s.rdWith a [(CMD_REQ_STAT_RPL_FULL, b2n s.rplFull), (CMD_REQ_STAT_READY, b2n (s.cmdReady && !s.inHeld))])
  else if a = 0x100C then
    some (match s.cmd.xspi with
      | [] => 0
      | r :: _ => s.cmd.xspi.length + 2 ^ 8 * r.bytes.length + 2 ^ 24 * r.src)
  else if a = 0x1014 then
    some (s.outstanding .xspi + 2 ^ 8 * s.outstanding .usb + 2 ^ 16 * s.outstanding .fabric + 2 ^ 24 * s.remotes)
  else if 0x9000 ≤ a ∧ a < 0xA000 then
    some (match s.cmd.xspi with | [] => 0 | r :: _ => leAt r.bytes (a - 0x9000) 4)
  else if a = 0x214 then
    some (s.rdWith a [(SYS_TEMP1_PE0, if s.fenced (.pedie 0) then 0x8000 else s.get 0 SYS_TEMP1_PE0),
      (SYS_TEMP1_PE1, if s.fenced (.pedie 1) then 0x8000 else s.get 0 SYS_TEMP1_PE1)])
  else if a = 0x204 then
    let g := s.sys.gated
    some (s.rdWith a [(SYS_PWR_GATED, bitsNat [g.contains 4, g.contains 5, g.contains 6, g.contains 7,
      g.any (fun i => decide (8 ≤ i ∧ i ≤ 15)), g.any (fun i => decide (16 ≤ i ∧ i ≤ 18)), g.contains 19, g.contains 20])])
  else none

/-- Registers of the TIME block that are computed as they are read (Table 8.6). -/
def State.liveTime (s : State) (a : Nat) : Option Nat :=
  let o := a - 0x10000
  if 0x20 ≤ o ∧ o ≤ 0x28 then some (stampWord s.ring ((o - 0x20) / 4))
  else if o = 0x2C then some s.ringFrac
  else if o = 0x900 then some (bitsNat ((List.range 32).map fun i => (Tbl.get (fun _ => none) s.time.actions i).isSome))
  else if o = 0x904 then some (bitsNat ((List.range 32).map fun i => (Tbl.get (fun _ => none) s.time.actions (32 + i)).isSome))
  else if 0x400 ≤ o ∧ o < 0x580 then
    let p := (o - 0x400) / 0x40
    let r := (o - 0x400) % 0x40
    if r = 0x18 then some (s.tsq p).length
    else if 0x30 ≤ r then some (match s.tsq p with | [] => 0 | e :: _ => leAt e (r - 0x30) 4)
    else none
  else none

/-- Registers of the ring ports, MACs and the scheduler that are computed as they are read (Tables 5.12, 6.7). -/
def State.liveNet (s : State) (a : Nat) : Option Nat :=
  if a = 0x2F014 then
    some (s.rdWith a [(RING_STAT_CLOSED, b2n s.ringClosed), (RING_STAT_NODES, s.mapNodes.length), (RING_STAT_EPOCH, s.epoch),
      (RING_STAT_BREAKS, s.ringNet.broken.length)])
  else if a = 0x2F010 then some (s.rdWith a [(RING_DD_ENTRIES, s.ringNet.dup.length)])
  else if 0x40000 ≤ a ∧ a < 0x50000 ∧ a % 0x4000 = 0x18 then some (s.quantaLeft (2 + (a - 0x40000) / 0x4000))
  else if 0x40000 ≤ a ∧ a < 0x50000 ∧ a % 0x4000 = 0x04 then
    some (s.rdWith a [(MAC_MSTAT_PAUSED, b2n (s.paused (2 + (a - 0x40000) / 0x4000)))])
  else none

/-- Registers of the LEDGER block that are computed as they are read (Table 9.12). -/
def State.liveLedger (s : State) (a : Nat) : Option Nat :=
  let o := a - 0xA0000
  if o = 0x10 then some (s.rdWith a [(LEDGER_STAT_HOLD_LVL, s.ledger.hold.length),
    (LEDGER_STAT_ANY_LAGGING, b2n (s.subsInUse.any s.lagging))])
  else if o = 0x30 then some s.ordCap
  else if o = 0x34 then some s.fastCap
  else if 0x38 ≤ o ∧ o ≤ 0x40 then some (stampWord s.frontier ((o - 0x38) / 4))
  else if 0x1000 ≤ o ∧ o < 0x3000 then
    let i := (o - 0x1000) / 32
    if o % 32 = 0 then some (s.rdWith a [(SUB_CFG_ACTIVE, b2n (s.subUsed i && s.subHolds i s.storeNow))])
    else if o % 32 = 0x1C then some (s.subWm i % 2 ^ 32)
    else none
  else none

/-- Registers of the host and Sprue blocks that are computed as they are read (Tables 2.9, 3.3, 10.8). -/
def State.liveHost (s : State) (a : Nat) : Option Nat :=
  if a = 0x600018 then some (s.slotsUsed + 2 ^ 16 * s.slotsQuar)
  else if a = 0x60100C then some s.hstatWord
  else if a = 0x60102C then some s.irqPend
  else if a = 0x601030 then some (s.rdWith a [(BRIDGE_IRQ_CFG_LEVEL, s.hirqs)])
  else if 0x601100 ≤ a ∧ a < 0x601300 then some (s.ladleWord ((a - 0x601100) / 16) (a % 16))
  else if 0x601400 ≤ a ∧ a < 0x601480 then some (s.salvWord ((a - 0x601400) / 16) (a % 16))
  else if 0x601600 ≤ a ∧ a < 0x601640 ∧ a % 8 = 4 then some (s.wireStatWord ((a - 0x601600) / 8))
  else if 0x680000 ≤ a ∧ a < 0x680B00 then
    let q := (a - 0x680000) / 0x40
    let x := s.queue q
    if a % 0x40 = 4 then some (x.level + 2 ^ 8 * x.pecks q + 2 ^ 16 * x.pkts)
    else if a % 0x40 = 8 then some (s.rdWith a [(SPRUE_WM_ABOVE, b2n (decide (s.get (queueBase q) SPRUE_WM_MARK ≤ x.level)))])
    else none
  else if a = 0x68F000 then some (bitsNat ((List.range 32).map s.sprueNotice))
  else if a = 0x68F004 then some (bitsNat ((List.range 12).map fun i => s.sprueNotice (32 + i)))
  else none

/-- Registers of the FAULT, CRUC, CALIB, UPD and AON blocks that are computed as they are read (Tables 18.8, 17.12, 19.9,
20.11). -/
def State.liveCruc (s : State) (a : Nat) : Option Nat :=
  if 0x700000 ≤ a ∧ a < 0x700014 then some (s.noticeWord (a - 0x700000))
  else if a = 0x700020 then
    some (s.fault.notices.length + 2 ^ 8 * min 255 (s.unackOf 1) + 2 ^ 16 * min 255 (s.unackOf 2) + 2 ^ 24 * b2n s.inHeld)
  else if 0x700200 ≤ a ∧ a < 0x700220 then some (leAt s.fault.heldRec (a - 0x700200) 4)
  else if a = 0x780000 then some s.crucStatWord.toNat
  else if a = 0x7C0000 then
    some (s.rdWith a [(CALIB_STAT_ORIGIN, (Tbl.get (fun _ => 0#8) s.upd.calib 6).toNat),
      (CALIB_STAT_BUSY, b2n s.upd.calWrite.isSome)])
  else if a = 0x7C0004 then some (leNat ((List.range 4).map fun i => Tbl.get (fun _ => 0#8) s.upd.array (8 + i)))
  else if 0x7C1000 ≤ a ∧ a < 0x7C2000 then
    some (leNat ((List.range 4).map fun i => Tbl.get (fun _ => 0#8) s.upd.calib (a - 0x7C1000 + i)))
  else if a = 0x7E000C then some (s.rdWith a [(UPD_ROLLBACK_COUNT, s.upd.rollback)])
  else if a = 0x7E0010 then some (bitsNat [s.upd.ownerKey.isSome, s.upd.lock, s.upd.sigOnly])
  else if a = 0x7E0034 then some (s.rdWith a [(UPD_BUNDLE_SLOT, s.upd.slot)])
  else if a = 0x7F0000 then some (s.rdWith a [(AON_STAT_HELD, b2n s.inHeld)])
  else if a = 0x7F0010 then some (s.aonNow % 2 ^ 15)
  else if a = 0x7F0014 then some (s.aonNow / 2 ^ 15 % 2 ^ 32)
  else if a = 0x7F0018 then some (s.aonNow / 2 ^ 47 % 2 ^ 16)
  else none

/-- Registers of the CAN controllers, Flasks and discrete lines that are computed as they are read (Tables 11.11, 12.9,
13.8). -/
def State.liveUnit (s : State) (a : Nat) : Option Nat :=
  let o := a % 0x1000
  if 0x100000 ≤ a ∧ a < 0x140000 then
    let n := (a - 0x100000) / 0x1000
    if o = 0x28 then some (s.canRegion n)
    else if o = 0x48 then some ((s.can n).rxq.length + 2 ^ 16 * (s.can n).txeq.length)
    else if o = 0x4C then some (s.txPend n)
    else if 0xDC ≤ o ∧ o ≤ 0xF0 then some (s.rxqWord n o)
    else if o = 0xF4 then some ((s.can n).txeq.headD 0)
    else if o = 0xF00 ∧ n % 16 = 0 then some (s.canIsum (n / 16))
    else none
  else if 0x200000 ≤ a ∧ a < 0x208000 then
    let f := (a - 0x200000) / 0x1000
    if o = 0 then
      some (bitsNat ((List.range 8).map fun e => (s.eng f e).running) + 2 ^ 8 * bitsNat ((List.range 8).map fun e => s.get (ecBase f e) EC_STAT_STALL_KIND != 0)
        + 2 ^ 16 * bitsNat ((List.range 8).map fun e => (s.eng f e).armed.isSome))
    else if a = 0x200F00 then some s.flaskIsum
    else if o = 0x18 then some (Tbl.get (fun _ => 0) (s.flask f).pmem (s.get (flaskBase f) FLASK_PMEM_ADDR_ADDR))
    else if 0x40 ≤ o ∧ o < 0x80 then
      let p := (o - 0x40) / 4
      some (s.rdWith a [(FLASK_PIN_DIR, b2n (s.pinDrive f p).isSome), (FLASK_PIN_LEVEL, b2n (bitAt (s.pinLevels f) p)),
        (FLASK_PIN_OUT, b2n (match s.pinDriver f p with | some d => s.laneLatch f d.1 d.2 | none => false))])
    else if 0x100 ≤ o ∧ o < 0x120 then some ((s.eng f ((o - 0x100) / 4)).rxq.headD 0)
    else if 0x200 ≤ o ∧ o < 0x400 then
      let e := (o - 0x200) / 0x40
      if o % 0x40 = 0x30 then some ((s.eng f e).txq.length + 2 ^ 8 * (s.eng f e).rxq.length)
      else if o % 0x40 = 0x38 then
        some (s.rdWith a [(EC_LSTATE_LEVEL, bitsNat ((List.range 8).map fun k => s.laneLevel f e k))])
      else none
    else none
  else if 0x300000 ≤ a ∧ a < 0x303000 then
    let b := (a - 0x300000) / 0x1000
    let levels (g : Nat → Bool) (h : Nat) := bitsNat ((List.range 32).map fun i =>
      decide (64 * b + 32 * h + i < s.nDio) && g (64 * b + 32 * h + i))
    if a = 0x300F00 then some s.dioIsum
    else if o = 0 then some (b2n (Sys2Proof.Config.dioVsel b))
    else if o = 0x10 ∨ o = 0x14 then some (levels (fun j => s.lineLevel j) ((o - 0x10) / 4))
    else if o = 0x18 ∨ o = 0x1C then some (levels (fun j => (s.line j).pad) ((o - 0x18) / 4))
    else if o = 0x48 then some ((s.bank b).evq.length + 2 ^ 16 * (s.bank b).sched.length)
    else if 0xE8 ≤ o ∧ o ≤ 0xF0 then some (s.evqWord b o)
    else
      match dioRegLine a with
      | some j =>
        if o % 16 = 0 then some (s.rdWith a [(DIO_LCFG_SAFETY, b2n (s.lineSafety j)), (DIO_LCFG_WIRED, b2n (s.wired j))])
        else none
      | none => none
  else none

/-- Registers of the power, USB and PD blocks that are computed as they are read (Tables 14.10, 14.11, 16.10). -/
def State.livePower (s : State) (a : Nat) : Option Nat :=
  if 0x400000 ≤ a ∧ a < 0x404000 ∧ a % 0x100 = 4 then some (s.pchStatWord ((a - 0x400000) / 0x100)).toNat
  else if a = 0x440020 then some (s.pwrIsum 0)
  else if a = 0x440024 then some (s.pwrIsum 1)
  else if a = 0x440028 then some s.feedIsum
  else if a = 0x540010 then some s.pdIsum
  else none

/-- The word at a register offset as a read shows it. -/
def State.regWord (s : State) (a : Nat) : Word :=
  let v :=
    if a < 0x10000 then s.liveSys a
    else if a < 0x20000 then s.liveTime a
    else if a < 0x90000 then s.liveNet a
    else if a < 0xB0000 then s.liveLedger a
    else if a < 0x100000 then none
    else if a < 0x400000 then s.liveUnit a
    else if a < 0x600000 then s.livePower a
    else if a < 0x700000 then s.liveHost a
    else s.liveCruc a
  match v with
  | some n => BitVec.ofNat 32 n
  | none => s.rd a

end Sys2Proof.Machine
end

