-- ==== Sys2Proof/Machine/RegWrite.lean ====
section
/-! DEFINITION. Writes to register space: fields by their access codes (Table 0.5, R6 to R8), the locks of R7, and what a
write of a register with a behaviour of its own does. -/

namespace Sys2Proof.Machine

/-! ### Fields -/

/-- Whether the unit whose RWL fields stand at offset `a` runs, so that they are locked (R7 and the notes of each register
table). -/
def State.rwlRuns (s : State) (a : Nat) : Bool :=
  let o := a % 0x1000
  if a = 0x600004 then s.flag 0x600000 FAB_CTRL_EN
  else if a = 0x20018 then s.flag (ringBase 0) RING_PCTRL_EN
  else if a = 0x30018 then s.flag (ringBase 1) RING_PCTRL_EN
  else if 0x90000 ≤ a ∧ a < 0xA0000 then s.flag (ctxBase ((a - 0x90000) / 0x40)) CTX_CTRL_EN
  else if a = 0xA0008 ∨ a = 0xA000C then s.flag ledgerBase LEDGER_CTRL_EN
  else if 0xA3000 ≤ a ∧ a < 0xA4000 then s.flag (0xA3000 + 0x80 * ((a - 0xA3000) / 0x80)) TRIG_MATCH1_EN
  else if 0x100000 ≤ a ∧ a < 0x140000 then s.flag (canBase ((a - 0x100000) / 0x1000)) CAN_CTRL_EN
  else if 0x200000 ≤ a ∧ a < 0x208000 then
    decide (0x200 ≤ o ∧ o < 0x400) && !s.engStopped ((a - 0x200000) / 0x1000) ((o - 0x200) / 0x40)
  else if 0x400000 ≤ a ∧ a < 0x404000 then !s.pchStopped ((a - 0x400000) / 0x100)
  else if 0x500000 ≤ a ∧ a < 0x540000 then s.flag usbBase USB_HUBCFG_EN
  else if 0x541000 ≤ a ∧ a < 0x541C00 then s.flag (pdBase ((a - 0x541000) / 0x400)) PD_PCFG_EN
  else if 0x601500 ≤ a ∧ a < 0x601580 then s.flag (0x601500 + 0x10 * ((a - 0x601500) / 0x10)) BRIDGE_UWIN_CFG_EN
  else false

/-- Fields that are RO in this instance of their set though RW in others (Tables 6.7, 7.8, 8.6, 13.8, 15.6, 16.10,
17.12), as the mask of the word's bits. -/
def roHere (a : Nat) : Nat :=
  if a = 0x21010 ∨ a = 0x31010 then 3
  else if 0x80100 ≤ a ∧ a < 0x80400 then (if (a - 0x80100) % 0x80 = 0 ∧ 0x80200 ≤ a then 2 else 0)
  else if 0x10400 ≤ a ∧ a < 0x10480 then
    (if a % 0x40 = 0 then 2 else if a % 0x40 = 8 ∨ a % 0x40 = 0xC then 0xFFFF else 0)
  else if 0x300000 ≤ a ∧ a < 0x303000 then
    match dioRegLine a with
    | some j => if 16 ≤ j then (if a % 16 = 0 then 0x200 else if a % 16 = 8 then 0xFFFFFFFF else 0) else 0
    | none => 0
  else if a = 0x500204 then 1
  else if a = 0x541400 ∨ a = 0x541800 then 0x80
  else if a = 0x541418 ∨ a = 0x541818 then 0xFFFFFFFF
  else if a = 0x78020C then 0xFFFFFFFF
  else if a = 0x780190 ∨ a = 0x780210 then 0xFFFFFFFF
  else if (0x780140 ≤ a ∧ a < 0x780180) ∨ (0x780240 ≤ a ∧ a < 0x780280) then 0xFFFFFFFF
  else if 0x780220 ≤ a ∧ a < 0x780240 then 0xFFFFFFFF
  else 0

/-- The bits of a word a field covers. -/
def Fld.mask (f : Fld) : Nat := (2 ^ f.width - 1) * 2 ^ f.lo

/-- One field takes a written word (Table 0.5); `locked` when its unit runs. The new word, and whether R7 refused it. -/
def fieldTake (locked : Bool) (ro : Nat) (w : Word) (acc : Word × Bool) (f : FieldSpec) : Word × Bool :=
  let old := bitsOf acc.1 f.fld.lo f.fld.width
  let v := f.clamp.apply f.fld.width (bitsOf w f.fld.lo f.fld.width)
  if ro &&& f.fld.mask ≠ 0 then acc
  else
    match f.acc with
    | .ro | .wo | .w1s => acc
    | .rw | .rws => (putBits acc.1 f.fld.lo f.fld.width v, acc.2)
    | .w1c => (acc.1 &&& ~~~(w &&& BitVec.ofNat 32 f.fld.mask), acc.2)
    | .rwl =>
      if !locked then (putBits acc.1 f.fld.lo f.fld.width v, acc.2)
      else if v = old then acc
      else (acc.1, true)

/-- An RWL_REFUSED record (R7): the value written and the initiator. -/
def State.rwlRefuse (s : State) (init a : Nat) (w : Word) : State :=
  s.raise .rwlRefused srcHub (s.regAddr a) (leBytes 4 w.toNat ++ leBytes 1 init)

/-- The fields of the word at `a` take the word `w`; a refusal of R7 is recorded once per write, with the word `written`. -/
def State.fieldsTake (s : State) (init a : Nat) (w written : Word) : State :=
  let r := (regFields a).foldl (fieldTake (s.rwlRuns a) (roHere a) w) (s.rd a, false)
  let t := s.wr a r.1
  if r.2 then t.rwlRefuse init a written else t

/-- The fields of the word at `a` take a written word (R7). -/
def State.fieldsWrite (s : State) (init a : Nat) (w : Word) : State := s.fieldsTake init a w w

/-- A field holds a value cut to a limit that another field sets. -/
def State.limit (s : State) (base : Nat) (f : Fld) (most : Nat) : State :=
  if most < s.get base f then s.set base f most else s

/-! ### Registers with a behaviour of their own -/

/-- SYS block (Table 4.12): the doorbell, the reply pop and the request window. -/
def State.writeSys (s : State) (init a : Nat) (w : Word) : State :=
  if a = 0x1008 then s.doorbell (bitsOf w 0 13)
  else if a = 0x1010 then (if w.getLsbD 0 then s.rplPop else s)
  else if 0x8000 ≤ a ∧ a < 0x9000 then
    s.windowWrite (a - 0x8000) w.toNat
  else s.fieldsWrite init a w

/-- TIME block (Table 8.6). -/
def State.writeTime (s : State) (init a : Nat) (w : Word) : State :=
  if a = 0x10000 then
    let old := s.get timeBase TIME_CTRL_ROLE
    let t := s.fieldsWrite init a w
    let t := if t.get timeBase TIME_CTRL_ROLE = old then t else t.roleChanged
    if w.getLsbD 2 then t.acceptJump else t
  else if a = timeBase + TIME_EVT.off then (s.fieldsWrite init a w).tsqShow
  else s.fieldsWrite init a w

/-- The port of the MAC register set at `a` (Table 6.1). -/
def macPort (a : Nat) : Nat := if 0x40000 ≤ a then 2 + (a - 0x40000) / 0x4000 else if 0x30000 ≤ a then 1 else 0

/-- The pause marks of port `p` are in range (R178, Table 6.7): 1 to 1,024 KiB, and XON below XOFF. DESIGN CHOICE (log entry 140):
a mark outside 1 to 1,024 is taken as the nearest limit. -/
def State.limitMarks (s : State) (p : Nat) : State :=
  let b := macBase p
  let x := clampNat 1 1024 (s.get b MAC_PAUSE_MARK_XOFF_KIB)
  let y := min (clampNat 1 1024 (s.get b MAC_PAUSE_MARK_XON_KIB)) (x - 1)
  (s.set b MAC_PAUSE_MARK_XOFF_KIB x).set b MAC_PAUSE_MARK_XON_KIB y

/-- Ring ports and MACs (Tables 5.12, 6.7). -/
def State.writeNet (s : State) (init a : Nat) (w : Word) : State :=
  let t := s.fieldsWrite init a w
  if a = 0x20000 then t.pctrlWritten 0 (s.rd a)
  else if a = 0x30000 then t.pctrlWritten 1 (s.rd a)
  else if a = 0x2F000 then t.nodeCfgWritten
  else
    let p := macPort a
    let o := if 0x40000 ≤ a then a % 0x4000 else a % 0x10000 - 0x1000
    if (a < 0x40000 ∧ a % 0x10000 < 0x1000) ∨ 0x2F000 ≤ a ∧ a < 0x30000 then t
    else if o = 0x08 then t.preemptWritten p
    else if o = 0x14 then t.limitMarks p
    else if o = 0x28 ∧ 2 ≤ p then t.lmacApply p
    else t

/-- Scheduler and contexts (Tables 7.7 to 7.9). -/
def State.writeSched (s : State) (init a : Nat) (w : Word) : State :=
  if 0x90000 ≤ a then
    let c := (a - 0x90000) / 0x40
    let o := a % 0x40
    let was := s.flag (ctxBase c) CTX_CTRL_EN
    let t := s.fieldsWrite init a w
    if o = 0 then (if was && !t.flag (ctxBase c) CTX_CTRL_EN then t.ctxClose c else t)
    else if 0x0C ≤ o ∧ o ≤ 0x18 then t.meterFill c
    else t
  else if 0x80100 ≤ a ∧ a < 0x80400 then
    let p := (a - 0x80100) / 0x80
    let o := (a - 0x80100) % 0x80
    if 0x08 ≤ o ∧ o ≤ 0x1C ∧ (s.eport p).latched.isSome then s.bump (0x80100 + 0x80 * p) SCHED_GCL_WDROP
    else
      let t := s.fieldsWrite init a w
      if o = 0 ∧ w.getLsbD 4 then t.configChange p else t
  else if 0x81000 ≤ a ∧ a < 0x87000 ∧ (a - 0x81000) % 0x1000 < 0x800 then
    let p := (a - 0x81000) / 0x1000
    if (s.eport p).latched.isSome then s.bump (0x80100 + 0x80 * p) SCHED_GCL_WDROP else s.fieldsWrite init a w
  else if 0x88000 ≤ a ∧ a < 0x8A000 ∧ a % 8 = 4 then s.txdPush ((a - 0x88000) / 8) w
  else s.fieldsWrite init a w

/-- LEDGER_CTRL.EN changes (R268): a stopped ledger discards its held records, and a ledger enabled again writes its
circles from position 0. -/
def State.ledgerEn (s : State) (was now : Bool) : State :=
  if was && !now then
    let t := s.bumpBy ledgerBase LEDGER_FLUSHED s.ledger.hold.length
    { t with ledger := { t.ledger with hold := [] } }
  else if !was && now then
    [0x20, 0x24, 0x28, 0x2C].foldl (fun (s : State) o => s.wr (ledgerBase + o) 0#32) s
  else s

/-- LEDGER block (Table 9.12). -/
def State.writeLedger (s : State) (init a : Nat) (w : Word) : State :=
  let t := s.fieldsWrite init a w
  if a = 0xA0000 then t.ledgerEn (s.flag ledgerBase LEDGER_CTRL_EN) (t.flag ledgerBase LEDGER_CTRL_EN)
  else if 0xA0400 ≤ a ∧ a < 0xA0800 then
    let c := bitsOf (t.rd a) 0 10
    if 1 ≤ c ∧ c ≤ 4 then t.wr a (putBits (t.rd a) 0 10 0) else t
  else t

/-- The slot's map entry as the four words a commit takes (Table 9.8). -/
def State.stagedMap (s : State) : Nat × Nat × Nat × Nat :=
  ((s.rd (pimgBase + 0x10)).toNat, (s.rd (pimgBase + 0x14)).toNat, (s.rd (pimgBase + 0x18)).toNat, (s.rd (pimgBase + 0x1C)).toNat)

/-- PIMG block (Table 9.13): PIMG_MAP_SEL loads the staged words, PIMG_MAP_W3 commits them (R262). -/
def State.writePimg (s : State) (init a : Nat) (w : Word) : State :=
  let t := s.fieldsWrite init a w
  let n := t.get pimgBase PIMG_MAP_SEL_SLOT
  if a = pimgBase + 0x08 then
    let m := t.slotMap n
    (((t.wr (pimgBase + 0x10) (BitVec.ofNat 32 m.w0)).wr (pimgBase + 0x14) (BitVec.ofNat 32 m.w1)).wr (pimgBase + 0x18)
      (BitVec.ofNat 32 m.w2)).wr (pimgBase + 0x1C) (BitVec.ofNat 32 m.w3)
  else if a = pimgBase + 0x1C then
    let m := t.stagedMap
    if t.mapValid m.1 m.2.1 m.2.2.1 m.2.2.2 then t.slotMapSet n m.1 m.2.1 m.2.2.1 m.2.2.2
    else t.raise .pimgMapBad (srcIsland 1) 0 (leBytes 2 n)
  else t

/-- Registers of a transmit buffer (R319): without effect on a buffer the layout does not hold, refused while it is busy. -/
def State.writeTxb (s : State) (init n b a : Nat) (w : Word) : State :=
  if s.canTxn n ≤ b then s
  else if a % 0x40 = 0x20 then
    let t := if w.getLsbD 1 then (s.txCancel n b).2 else s
    let t := if w.getLsbD 0 then (if t.txbBusy n b then t.bump (canBase n) CAN_TX_REFUSED else t.txSubmit n b) else t
    t.txMapsAfter n
  else if s.txbBusy n b then s.bump (canBase n) CAN_TX_REFUSED
  else s.fieldsWrite init a w

/-- CAN_CTRL (Table 11.11): EN opens and closes the controller after the other fields have taken the word. -/
def State.writeCanCtrl (s : State) (init n a : Nat) (w : Word) : State :=
  let on := w.getLsbD 0
  let was := s.flag (canBase n) CAN_CTRL_EN
  let t := (s.fieldsTake init a (putBits w 0 1 (b2n was)) w).canLagWritten n
  let t := if on = was then t else if on then t.openDo n else t.closeBegin n
  let t := if w.getLsbD 8 then t.canRecover n else t
  t.heldEval n

/-- CAN registers (Table 11.11). -/
def State.writeCan (s : State) (init a : Nat) (w : Word) : State :=
  let n := (a - 0x100000) / 0x1000
  let o := a % 0x1000
  if o = 0 then s.writeCanCtrl init n a w
  else if o = 0x10 then
    if 100000 < nomBit2 w then s.rwlRefuse init a w else (s.fieldsWrite init a w).canLagWritten n
  else if o = 0x14 ∨ o = 0x18 then (s.fieldsWrite init a w).canLagWritten n
  else if o = 0x24 then
    let t := s.fieldsWrite init a w
    if canLayoutOk (t.canSlot n) (t.get (canBase n) CAN_STORE_TXN) (t.get (canBase n) CAN_STORE_RXN)
    then t else s.rwlRefuse init a w
  else if o = 0x2C then (s.fieldsWrite init a w).heldEval n
  else if o = 0x30 then
    let t := s.fieldsTake init a (putBits w 0 1 (s.get (canBase n) CAN_TREF_CTRL_EN)) w
    if w.getLsbD 0 then t.trefStart n else if s.flag (canBase n) CAN_TREF_CTRL_EN then t.trefStop n else t
  else if o = 0x38 then (s.fieldsWrite init a w).trefAnew n
  else if o = 0x54 then s.fltCopy n w
  else if 0xA00 ≤ o ∧ o < 0xB00 then (s.fieldsWrite init a w).txMapAnew n ((o - 0xA00) / 0x10)
  else if 0x100 ≤ o ∧ o < 0x900 then s.writeTxb init n ((o - 0x100) / 0x40) a w
  else s.fieldsWrite init a w

/-- FLASK_GO (Table 12.9): a stop wins over a start of the same engine (R349). -/
def State.flaskGo (s : State) (f : Nat) (w : Word) : State :=
  let stop := bitsOf w 8 8
  let start := bitsOf w 0 8
  let t := s.engStop f stop (w.getLsbD 16)
  t.engStart f (start - (start &&& stop)) (w.getLsbD 17) none

/-- Flask registers (Table 12.9). -/
def State.writeFlask (s : State) (init a : Nat) (w : Word) : State :=
  let f := (a - 0x200000) / 0x1000
  let o := a % 0x1000
  if o = 0x04 then s.flaskGo f w
  else if o = 0x1C then s.tallyCmd f (bitsOf w 0 8) (bitsOf w 8 8)
  else if o = 0x24 then s.ploadWrite f w
  else if 0x120 ≤ o ∧ o < 0x140 then s.txqPush f ((o - 0x120) / 4) w.toNat
  else if 0x200 ≤ o ∧ o < 0x400 then
    let e := (o - 0x200) / 0x40
    if o % 0x40 = 0x08 ∧ !streamOk w.toNat then s.rwlRefuse init a w
    else if o % 0x40 = 0x0C ∧ s.engStopped f e then ((s.clashCount f).fieldsWrite init a w).driveKeep f
    else s.fieldsWrite init a w
  else if 0x40 ≤ o ∧ o < 0x80 then ((s.clashCount f).fieldsWrite init a w).driveKeep f
  else s.fieldsWrite init a w

/-- A configuration word of line `j` (Table 13.8), discarded on a safety-designated line (R368). -/
def State.writeLine (s : State) (init j a : Nat) (w : Word) : State :=
  let t := s.fieldsWrite init a w
  let t := if a % 16 = 8 then
      t.limit (lineBase j) DIO_LCMP_FALL_MV (t.get (lineBase j) DIO_LCMP_RISE_MV - 1) else t
  if s.lineSafety j then s.safeDrop j w.toNat
  else if t.rd a = s.rd a then s
  else t.lineWritten j (s.lineMode j)

/-- DIO registers (Table 13.8). -/
def State.writeDio (s : State) (init a : Nat) (w : Word) : State :=
  let b := (a - 0x300000) / 0x1000
  let o := a % 0x1000
  if 0x20 ≤ o ∧ o < 0x40 then
    let op := if o < 0x28 then 3 else (o - 0x28) / 8
    s.outWrite b (o % 8 == 4) op w
  else if o = 0x6C then s.schedGo b w
  else if 0x600 ≤ o ∧ o < 0x700 ∧ o % 16 = 0x0C then s.genWrite b ((o - 0x600) / 16) (w.getLsbD 0)
  else
    match dioRegLine a with
    | some j => if o % 16 = 0x0C then s else s.writeLine init j a w
    | none => s.fieldsWrite init a w

/-- Whether the thresholds of a channel keep R390. -/
def pchLimitsOk (uohm fast slow ramp : Nat) : Bool :=
  let mv (ma : Nat) := ma * uohm
  decide (10000000 ≤ mv fast ∧ mv fast ≤ 150000000 ∧ 10000000 ≤ mv slow ∧ mv slow ≤ 150000000 ∧ 10000000 ≤ mv ramp
    ∧ mv ramp ≤ 150000000) && decide (ramp < fast) && decide (slow < fast)

/-- Whether the thresholds a channel's registers hold keep R390. -/
def State.pchLimits (s : State) (c : Nat) : Bool :=
  pchLimitsOk (s.get (pchBase c) PCH_SHUNT_UOHM) (s.get (pchBase c) PCH_LIMITS0_FAST_MA)
    (s.get (pchBase c) PCH_LIMITS1_SLOW_MA) (s.get (pchBase c) PCH_LIMITS2_RAMP_MA)

/-- A discarded write to a safety-owned field of a channel (R384). -/
def State.pchSafetyDrop (s : State) (c : Nat) (w : Word) : State :=
  s.raise .pchSafetyWrite (srcPch c) 0 (leBytes 4 w.toNat)

/-- EN of a channel is written: in the 10 ms before a Standby entry a 1 is kept without effect (R512). -/
def State.writeEn (s : State) (c : Nat) (on : Bool) : State :=
  if s.sys.stby.isSome ∧ on ∧ !s.flag (pchBase c) PCH_CTRL_EN then
    { s with sys := { s.sys with stbyEn := s.sys.stbyEn ++ [c] } }
  else
    ({ s with sys := { s.sys with stbyEn := s.sys.stbyEn.filter (· != c) } }).pchEn c on

/-- PCH_CTRL (Table 14.10): SAFE_ON and PRES_EN under R384 and R7, then EN. -/
def State.writePchCtrl (s : State) (init c a : Nat) (w : Word) : State :=
  let was := s.get (pchBase c) PCH_CTRL_EN
  let t := if s.pchSafety c then
      (if bitsOf w 1 2 = bitsOf (s.rd a) 1 2 then s else s.pchSafetyDrop c w)
    else s.fieldsTake init a (putBits w 0 1 was) w
  t.writeEn c (w.getLsbD 0)

/-- Channel registers (Table 14.10). -/
def State.writePch (s : State) (init a : Nat) (w : Word) : State :=
  let c := (a - 0x400000) / 0x100
  let o := a % 0x100
  if o = 0 then s.writePchCtrl init c a w
  else if (0x20 ≤ o ∧ o ≤ 0x3C) ∨ o = 0x44 then
    if s.pchSafety c then s.pchSafetyDrop c w
    else
      let t := s.fieldsWrite init a w
      if t.pchLimits c ∨ t.rd a = s.rd a then t else s.rwlRefuse init a w
  else s.fieldsWrite init a w

/-- FEED registers (Table 14.11). -/
def State.writeFeed (s : State) (init a : Nat) (w : Word) : State :=
  if a = feedReg then s.feedPrio w.toNat else s.fieldsWrite init a w

/-- USBH registers (Table 15.6). -/
def State.writeUsb (s : State) (init a : Nat) (w : Word) : State :=
  let t := s.fieldsWrite init a w
  if a = usbBase then
    (if s.flag usbBase USB_HUBCFG_EN && !t.flag usbBase USB_HUBCFG_EN then t.usbDetach else t)
  else if a = usbBase + 0x14 then
    (if s.flag usbBase USB_MGMT_CONNECT = t.flag usbBase USB_MGMT_CONNECT then t
     else t.mgmtConnect (t.flag usbBase USB_MGMT_CONNECT))
  else if 0x500100 ≤ a ∧ a < 0x500200 ∧ a % 0x20 = 4 then s.portLock ((a - 0x500100) / 0x20 + 1) (w.getLsbD 0)
  else t

/-- Whether PD_POL_CTRL.USE_IMAGE changed, and what follows for the policy (R449). -/
def State.writePolicy (s : State) (init a : Nat) (w : Word) : State :=
  let was := s.flag pdAll PD_POL_CTRL_USE_IMAGE
  let t := s.fieldsWrite init a w
  let now := t.flag pdAll PD_POL_CTRL_USE_IMAGE
  if was && !now then t.runPolicy false 5 0 else t

/-- PD registers (Table 16.10). Setting USE_IMAGE evaluates the image again, which the caller does. -/
def State.writePd (s : State) (init a : Nat) (w : Word) : State :=
  if a = pdAll then s.writePolicy init a w
  else if 0x541000 ≤ a then
    let p := (a - 0x541000) / 0x400
    let o := (a - 0x541000) % 0x400
    if o = 0x40 ∧ (bitsOf w 14 2 ≠ 1 ∨ bitsOf w 16 16 ≠ 5000) then s.rwlRefuse init a w
    else if o = 0 then
      let was := s.flag (pdBase p) PD_PCFG_EN
      let w := if 1 ≤ p ∧ bitsOf w 1 2 = 0 then putBits w 1 2 2 else w
      (s.fieldsWrite init a w).pdEnWritten p was
    else s.fieldsWrite init a w
  else s.fieldsWrite init a w

/-- BRIDGE registers (Tables 2.9, 10.8). -/
def State.writeBridge (s : State) (init a : Nat) (w : Word) : State :=
  s.fieldsTake init a (if 0x601500 ≤ a ∧ a < 0x601580 ∧ a % 16 = 4 then putBits w 0 2 0 else w) w

/-- Sprue registers (Table 3.3): a MARK of 0 is taken as 1, one above the number of stages as that number, and a new MARK
is compared at once (R87). -/
def State.writeSprue (s : State) (init a : Nat) (w : Word) : State :=
  let q := (a - 0x680000) / 0x40
  let t := s.fieldsWrite init a w
  if 0x680B00 ≤ a then t
  else if a % 0x40 = 8 then
    let u := t.limit (queueBase q) SPRUE_WM_MARK (sprueStages q)
    (if u.get (queueBase q) SPRUE_WM_MARK = 0 then u.set (queueBase q) SPRUE_WM_MARK 1 else u).sprueSample q
  else if a % 0x40 = 0x10 then
    let t := if w.getLsbD 0 then t.setQueue q { t.queue q with injNext := true } else t
    if w.getLsbD 1 then t.set (queueBase q) SPRUE_MAXLVL_MAX (t.queue q).level else t
  else t

/-- CRUC registers (Table 17.12): a function's registers are locked while it is armed (R466); two fields of SF_PARAM0 hold
different ranges in SF-E and SF-A. -/
def State.writeCruc (s : State) (init a : Nat) (w : Word) : State :=
  if 0x780100 ≤ a ∧ a < 0x780280 then
    let i := (a - 0x780100) / 0x80
    if s.sfArmed i then s.sfWriteDrop i w.toNat
    else
      if (a - 0x780100) % 0x80 = 0x0C ∧ i < 2 then
        let low := if i = 0 then clampNat 3 10000 (bitsOf w 0 14) else clampNat 1000 8000 (bitsOf w 0 14)
        let high := if i = 0 then bitsOf w 16 8 else clampNat 20 500 (bitsOf w 16 9)
        s.fieldsTake init a (putBits (putBits w 0 14 low) 16 9 high) w
      else s.fieldsWrite init a w
  else if 0x780400 ≤ a ∧ a < 0x780500 then
    if s.sfArmed 2 then s.sfWriteDrop 2 w.toNat else s.fieldsWrite init a w
  else s.fieldsWrite init a w

/-- AON registers (Table 19.9): a new trim counts from now on. -/
def State.writeAon (s : State) (init a : Nat) (w : Word) : State :=
  if a = aonBase + 0x1C then (s.setAon s.aonNow).fieldsWrite init a w else s.fieldsWrite init a w

/-- FAULT registers that take a plain write (Table 18.8); the injection registers are the caller's. -/
def State.writeFault (s : State) (init a : Nat) (w : Word) : State :=
  if a = 0x700100 then { s with fault := { s.fault with keyOpen := bitsOf w 0 8 == 0xA5 } }
  else s.fieldsWrite init a w

end Sys2Proof.Machine
end

