-- ==== Sys2Proof/Machine/FenceOps.lean ====
section
/-! DEFINITION. Fencing and its end, resets of the USB, Policy and Host islands, and entry to HELD (R33 to R36, R490 to
R494). -/

namespace Sys2Proof.Machine

/-! ### Fencing -/

/-- The fence unit a Degrade-class fault of a source is charged to (R490); a Sprue queue's under R83. -/
def chargedUnit (src : Nat) : Option FenceUnit :=
  let g := src / 256
  let i := src % 256
  if g = 1 then
    if 4 ≤ i ∧ i ≤ 7 then some (.canIsl (i - 4))
    else if 8 ≤ i ∧ i ≤ 15 then some (.flask (i - 8))
    else if 16 ≤ i ∧ i ≤ 18 then some (.dioBank (i - 16))
    else if 23 ≤ i ∧ i ≤ 24 then some (.pedie (i - 23))
    else none
  else if g = 2 then (if i < 2 then some (.ringPort i) else none)
  else if g = 3 then some (.canIsl (i / 16))
  else if g = 4 then some (.flask (i / 8))
  else if g = 5 then some (.dioBank (i / 64))
  else if g = 6 then some (.pedie (i / 32))
  else if g = 8 then some (.lane i)
  else if g = 0xA then sprueUnit i
  else none

/-- The USB, Policy or Host island a Degrade-class fault of a source resets (R83, R490). -/
def chargedIsland (k : FaultKind) (src : Nat) : Option Nat :=
  let g := src / 256
  let i := src % 256
  if g = 1 then (if k = .islandHang ∧ 19 ≤ i ∧ i ≤ 21 then some i else none)
  else if g = 0xA then sprueIsland i
  else none

/-- Whether the unit a selector names lies in a fence unit (Table 1.5). -/
def unitIn (u : FenceUnit) (sel : Nat) : Bool := unitFence sel == some u

/-- Commands that execute on a unit end with UNIT_FENCED (R35). -/
def State.endOn (s : State) (u : FenceUnit) : State :=
  (s.cmd.entries.filter fun e => e.running && unitIn u (pktUnit e.packet)).foldl (fun t e => t.reply e.key 0x30 []) s

/-- What a fence does in the unit itself (Table 1.5). -/
def State.fenceInside (s : State) (u : FenceUnit) : State :=
  match u with
  | .canIsl i => s.each (List.range 16) fun s k => s.canFence (16 * i + k)
  | .flask f => s.flaskFence f
  | .dioBank b => ((s.dioFence b).wiresEval).sfBankFenced b
  | .lane l => s.laneFence l
  | .ringPort p => s.portLeave p 5 3
  | .pedie d => s.dieLatch d 19

/-- A unit the part has is fenced (R33, R35, R37): its bit, the ledger's markers, FENCED in the slots it feeds, its queues stopped, what it
executes ended, its outputs at their fenced state. -/
def State.fence (s : State) (u : FenceUnit) : State :=
  if s.fenced u ∨ !s.unitPresent u then s
  else
    let t := ((s.setFence u true).fenceMarker u false).slotsFenced u true
    ((t.queuesStop (unitQueues u)).endOn u).fenceInside u

/-- What the end of a fence does in the unit itself: CAN islands, Flasks and DIO banks start from their reset state; a feed
selection frozen by the fence of die 0 goes on (Table 1.5). -/
def State.unfenceInside (s : State) (u : FenceUnit) : State :=
  match u with
  | .canIsl i => s.each (List.range 16) fun s k => s.canUnfence (16 * i + k)
  | .flask f => s.flaskReset f true
  | .dioBank b => (s.dioReset b).wiresEval
  | .ringPort p => if s.flag (ringBase p) RING_PCTRL_EN then s.seek p 3 else s.portLeave p 0 3
  | .pedie d => (if d = 0 then (s.set feedReg FEED_STAT_FROZEN 0).feedSelect 1 else s).dieRelease d
  | .lane _ => s

/-- A unit's fence ends (R34). -/
def State.unfence (s : State) (u : FenceUnit) : State :=
  if !s.fenced u then s
  else
    let t := (((s.setFence u false).fenceMarker u true).slotsFenced u false).queuesStart (unitQueues u)
    t.unfenceInside u

/-! ### Island resets -/

/-- The reset state of the USB, Policy or Host island (Table 18.2's number). -/
def State.isl (s : State) (i : Nat) : IslandReset := Tbl.get (fun _ => {}) s.islands i
/-- The same replaced. -/
def State.setIsl (s : State) (i : Nat) (x : IslandReset) : State :=
  { s with islands := Tbl.put (fun _ => {}) s.islands i x }

/-- A reset of the Host island (R288): Ladles are abandoned, the posted-write queue is emptied. -/
def State.hostIslandReset (s : State) : State :=
  let t := s.each (List.range 32) fun s l => s.ladleAbandon l
  { t with bridge := { t.bridge with writes := [] } }

/-- What a reset does inside an island (R288, R430, R452). -/
def State.islandInside (s : State) (i : Nat) : State :=
  if i = 19 then s.usbIslandReset false else if i = 20 then s.pdIslandReset false else s.hostIslandReset

/-- An island is held in reset (R491): counted, its queues stopped. -/
def State.islandReset (s : State) (i : Nat) : State :=
  let x := s.isl i
  let t := (s.bump faultBase FAULT_ISLAND_RESETS).queuesStop (islandQueues i)
  (t.islandInside i).setIsl i { x with inReset := true, since := s.uptime }

/-- The reaction to an ISLAND_HANG or to a queue fault charged to an island (R36, R491): a third hang within 60 s leaves the
island given up. -/
def State.islandFault (s : State) (k : FaultKind) (i : Nat) : State :=
  let x := s.isl i
  if x.givenUp then s
  else
    let recent := x.hangs.filter fun a => decide (s.uptime < a + 60 * nsPerSec)
    let hangs := if k = .islandHang then recent ++ [s.uptime] else recent
    let t := s.islandReset i
    let t := t.setIsl i { t.isl i with hangs := hangs }
    if 3 ≤ hangs.length then
      (t.setIsl i { t.isl i with givenUp := true }).raise .islandGivenUp (srcIsland i) 0 (leBytes 1 hangs.length)
    else t

/-- A watchdog of the USB, Policy or Host island expires (R491); cause 0 watchdog, 1 parity, 2 lock-up. -/
def State.islandHang (s : State) (i cause : Nat) : State :=
  let x := s.isl i
  if x.givenUp ∨ x.inReset ∨ s.inHeld then s
  else s.raise .islandHang (srcIsland i) 0 (leBytes 1 cause)

/-! ### HELD -/

/-- Controller `n` is closed at once, the frame in progress dropped (Table 18.6). -/
def State.heldCan (s : State) (n : Nat) : State :=
  if s.canOpen n ∨ (s.can n).closing then
    ((s.set (canBase n) CAN_CTRL_EN 0).setCan n { s.can n with active := none, trefBus := none }).closeFinish n
  else s

/-- The Flasks stop with STOP_CAUSE 1, their pins at the SAFE level (Table 18.6). -/
def State.heldFlask (s : State) (f : Nat) : State :=
  let t := s.clashCount f
  let t := t.each (List.range 8) fun s e => if s.engStopped f e then s else s.engHalt f e 1
  (t.setFlask f { t.flask f with loads := [], safe := 0xFFFF }).driveKeep f

/-- The parts enter their states of Table 18.6. -/
def State.heldParts (s : State) : State :=
  let t := s.each (List.range (s.nPch / 32)) fun s d => s.dieLatch d 2
  let t := t.each (List.range s.nCan) fun s n => s.heldCan n
  let t := t.each (List.range s.nFlask) fun s f => s.heldFlask f
  ((t.wiresEval).usbHeld).pdHeld

/-- A Fatal-class fault puts the hub in HELD (R493): its record is collected at once, kept in FAULT_HELD_REC, the latch
set, and every part takes its HELD state. A later one is counted. -/
def State.heldEntry (s : State) (r : Raised) : State :=
  if s.inHeld then s.bump faultBase FAULT_FATAL_MORE
  else
    let t := { s with fault := { s.fault with latches := s.fault.latches.filter (· != r) } }
    let i := t.get faultBase FAULT_LOG_POS_INDEX
    let t := t.collect r
    let at_ := t.faultLogAt i
    let t := { t with fault := { t.fault with held := true, heldRec := t.load at_ 32 } }
    (t.set cmdBase CMD_REQ_STAT_READY 0).heldParts

/-! ### Reactions -/

/-- Faults of a die that are not its own: the loss of its link (R19). -/
def ownFault (k : FaultKind) : Bool := k != .pedieLinkLost

/-- A die fenced for a fault of its own gets a freeze order first (R19). -/
def State.freezeOrder (s : State) (r : Raised) (u : FenceUnit) : State :=
  if u = .pedie 0 ∧ ownFault r.kind ∧ !s.fenced u ∧ !(s.die 0).gap then
    (s.emit .freeze).set feedReg FEED_STAT_FROZEN 1
  else s

/-- The reaction to a fault by its class (Table 18.5). -/
def State.reactTo (s : State) (r : Raised) : State :=
  match r.cls with
  | .note => s
  | .degrade =>
    match chargedUnit r.source, chargedIsland r.kind r.source with
    | some u, _ => (s.freezeOrder r u).fence u
    | none, some i => s.islandFault r.kind i
    | none, none => s
  | .safety => s.sfFault r
  | .fatal => s.heldEntry r

/-- The next fault whose reaction is still to be taken. -/
def State.reactNext (s : State) : State :=
  match s.fault.react with
  | [] => s
  | r :: rest => ({ s with fault := { s.fault with react := rest } }).reactTo r

end Sys2Proof.Machine
end

