-- ==== Sys2Proof/Machine/InjectOps.lean ====
section
/-! DEFINITION. The check of ring-time replicas (R14) and fault injection (R496, R565). -/

namespace Sys2Proof.Machine

/-! ### Replicas -/

/-- A failed check of a replica, the `n`th in a row (R14). -/
def State.replicaFault (s : State) (i n err : Nat) : State :=
  let d := leBytes 4 err ++ leBytes 1 n
  if n < 3 then s.raise .timeReplica (srcIsland i) 0 d
  else if 4 ≤ i ∧ i ≤ 18 then s.raise .timeReplicaFence (srcIsland i) 0 d
  else s.raise .timeReplicaLost (srcIsland i) 0 d

/-- Whether island `i` holds a replica (R14): every island of Table 1.1 that the part has, but for the time island. -/
def State.hasReplica (s : State) (i : Nat) : Bool := i != 2 && s.islandThere i

/-- An alignment check of island `i` that measures an error of `err` ns (R14): the replica is reloaded by it, a replica
more than 1 ns away counts as failed and is suspect until the next alignment. -/
def State.replicaCheck (s : State) (i : Nat) (err : Int) : State :=
  let x := s.replica i
  let put (y : Replica) : State := { s with replicas := Tbl.put (fun _ => {}) s.replicas i y }
  if !s.hasReplica i then s
  else if -1 ≤ err ∧ err ≤ 1 then put { err := err }
  else (put { err := err, fails := min 3 (x.fails + 1), suspect := true }).replicaFault i (min 3 (x.fails + 1)) (ofSigned 32 err)

/-! ### What a source can raise -/

/-- Whether a source is of the group and range Table 18.3 gives a kind. -/
def kindFits (k : FaultKind) (src : Nat) : Bool :=
  let g := src / 256
  let i := src % 256
  let isl (l : List Nat) : Bool := g == 1 && l.contains i
  match k with
  | .rwlRefused | .unmappedAccess | .fabWriteRefused | .fabNoDest | .fabMsgDrop | .fabSeqGap | .storeUe | .cmdDoorbellLost
  | .cmdOverrun | .bootScriptStop | .ringDupId | .ringUnreach | .ringSplitAsTwin | .feedPrioBad | .calibCrc | .updRecovered
  | .updActivateMissed => src == 0
  | .refclkLost => isl [22]
  | .selftestFail => isl ([4, 5, 6, 7, 8, 9, 10, 11, 12, 13, 14, 15, 16, 17, 18] ++ [23, 24]) || (g == 2 && decide (i < 2)) || (g == 8 && decide (i < 3))
  | .coreUnitLost => isl [0, 1, 2]
  | .islandHang | .islandGivenUp => isl [19, 20, 21]
  | .timeReplica => g == 1 && decide (i ≤ 22) && i != 2
  | .timeReplicaLost => isl [0, 1, 3, 19, 20, 21, 22]
  | .timeReplicaFence => g == 1 && decide (4 ≤ i ∧ i ≤ 18)
  | .storeCe | .ledgerHoldFull | .ledgerTrigLate | .ledgerTrigMiss | .pimgMapBad => isl [1]
  | .timeStep | .timeHoldoverEnd | .timeJumpRefused | .timeActSkipped => isl [2]
  | .sprueParity => g == 0xA && decide (i < 44)
  | .sprueParityBurst | .sprueOverrun => g == 0xA && decide (i < 44) && ((sprueUnit i).isSome || (sprueIsland i).isSome)
  | .sprueCoreLost => g == 0xA && decide (i < 44) && (sprueUnit i).isNone && (sprueIsland i).isNone
  | .ringBreak => g == 2 && decide (i < 2)
  | .preemptVerifyFail | .windowDrop => g == 2 && decide (i < 6)
  | .lmacHalfDuplex => g == 2 && decide (2 ≤ i ∧ i ≤ 5)
  | .bridgeWqDrop | .salvageHeld => isl [21]
  | .canBusOff | .canRxqOvf | .canFltCopyBad => g == 3 && decide (i < 64)
  | .flaskBadJump => g == 4 && decide (i < 64)
  | .flaskPmemParity => g == 1 && decide (8 ≤ i ∧ i ≤ 15)
  | .dioEvqOvf => isl [16, 17, 18]
  | .dioReadback | .dioSafetyWrite | .sfInputTest => g == 5 && decide (i < 192)
  | .feedLost | .feedSwitchStuck => g == 7 && decide (i < 3)
  | .pchShort | .pchStartShort | .pchOvercurrent | .pchFetOpen | .pchFetStress | .pchRetryExhausted | .pchFetShort
  | .pchSafetyWrite | .pedieTripTest => g == 6 && decide (i < 64)
  | .pedieLinkGap | .pedieLinkLost => isl [23, 24]
  | .usbPortOc => g == 0xC && decide (1 ≤ i ∧ i ≤ 9)
  | .pdConverter | .pdOcp | .pdDetachInTransition => g == 0xD && decide (i < 3)
  | .pdPolicyWdog => isl [20]
  | .crucLaneDissent | .crucAssayFail | .crucSingleLane => g == 8 && decide (i < 3)
  | .crucNoMajority | .crucDualUnresolved | .crucNoLane => isl [3]
  | .safetyConfigWrite => g == 9 && decide (i < 3)

/-- Whether a source is present on this variant (R4). -/
def State.srcPresent (s : State) (src : Nat) : Bool :=
  let g := src / 256
  let i := src % 256
  if g = 3 then decide (i < s.nCan)
  else if g = 4 then decide (i / 8 < s.nFlask)
  else if g = 5 then decide (i < s.nDio)
  else if g = 6 then decide (i < s.nPch)
  else if g = 0xA then s.queuePresent i
  else if g = 1 then (match chargedUnit src with | some u => s.unitPresent u | none => true)
  else true

/-- Why an injection is refused (R496): a command status, 0 when it is not. -/
def State.injectCheck (s : State) (code src : Nat) : Nat :=
  match FaultKind.ofCode code with
  | none => 0x22
  | some k =>
    if 4096 ≤ src ∨ !kindFits k src ∨ !s.srcPresent src then 0x22
    else if k.cls = .fatal ∧ !s.flag faultBase FAULT_CTRL_FATAL_INJ_EN then 0x24
    else
      match chargedUnit src with
      | some u => if s.fenced u then 0x30 else 0
      | none => 0

/-! ### Detection points -/

/-- Detail of a record that no unit's own action formed, from readings at the moment of injection (R496). -/
def State.injectDetail (s : State) (k : FaultKind) (src : Nat) : List Byte :=
  let i := src % 256
  match k with
  | .coreUnitLost => leBytes 1 (if i = 0 then 2 else if i = 1 then 0 else 1)
  | .islandGivenUp => leBytes 1 (s.isl i).hangs.length
  | .timeReplica => leBytes 4 (ofSigned 32 (s.replica i).err) ++ leBytes 1 (min 2 ((s.replica i).fails + 1))
  | .timeReplicaLost | .timeReplicaFence => leBytes 4 (ofSigned 32 (s.replica i).err) ++ leBytes 1 3
  | .sprueParity => leBytes 2 (s.queue i).fails.length
  | .sprueParityBurst | .sprueOverrun =>
    leBytes 2 (match sprueUnit i, sprueIsland i with
      | some u, _ => unitSource u | none, some l => srcIsland l | none, none => 0)
  | .ringBreak => leBytes 1 (s.get (ringBase i) RING_PSTAT_NEIGHBOUR)
  | .preemptVerifyFail => leBytes 1 (s.mac i).tries
  | .timeHoldoverEnd => leBytes 4 ((s.uptime - s.time.holdAt) / 1000000)
  | .timeJumpRefused => leBytes 8 (ofSigned 64 (toSigned 32 (s.get timeBase TIME_OFFSET_NS)))
  | .canBusOff => leBytes 2 (s.get (canBase i) CAN_ECNT_TEC)
  | .flaskBadJump => leBytes 2 (s.pc (i / 8) (i % 8))
  | .flaskPmemParity => leBytes 2 0
  | .dioReadback => leBytes 1 (b2n (s.lineDrive i == some true)) ++ leBytes 1 (b2n (s.line i).pad)
  | .sfInputTest => leBytes 1 0 ++ leBytes 1 (b2n (s.line i).pad)
  | .feedLost => leBytes 4 (s.feed i).mv ++ leBytes 1 (s.feedWhy i)
  | .pchShort | .pchStartShort | .pchOvercurrent =>
    s.tripDetail i (s.pchState i) (s.get (pchBase i) PCH_STAT_RETRY_CNT)
  | .pchFetStress => leBytes 4 (s.pch i).mj
  | .pchFetShort => leBytes 4 (s.pch i).lastV
  | .pchRetryExhausted => leBytes 1 (s.get (pchBase i) PCH_STAT_CAUSE)
  | .pdConverter => leBytes 2 (s.pd_ i).target ++ leBytes 2 (s.get (pdBase i) PD_VBUS_MV)
  | .pdOcp => leBytes 2 (s.get (pdBase i) PD_CONTRACT_MA) ++ leBytes 2 (s.get (pdBase i) PD_VBUS_MA)
  | .pdDetachInTransition => leBytes 2 (s.pd_ i).target ++ leBytes 2 (s.get (pdBase i) PD_VBUS_MV)
  | .pdPolicyWdog => leBytes 4 s.pd.imgVer
  | .calibCrc => leBytes 4 (s.rd (0x7C0000 + CALIB_CRC_STORED.off)).toNat ++ leBytes 4 (s.rd (0x7C0000 + CALIB_CRC_CALC.off)).toNat
  | .updRecovered => leBytes 4 (s.rd (updBase + UPD_VER_RUN.off)).toNat
  | _ => []

/-- An Assay failure forced at its detection point (R496): PASS 0, FAIL_CLASS 0. -/
def State.forceAssay (s : State) (l : Nat) : State :=
  let b := assayBase l
  let t := ((s.set b CRUC_ASSAY_PASS 0).set b CRUC_ASSAY_FAIL_CLASS 0).bump crucBase CRUC_ASSAY_FAILS
  let t := t.evt crucBase CRUC_EVT 2
  let t := if t.inControl l ∧ t.lanes.length = 3 then t.dissentHold l else t
  t.raise .crucAssayFail (srcLane l) 0 (leBytes 1 0)

/-- An input test failure forced at its detection point. -/
def State.forceTest (s : State) (j : Nat) : State :=
  match s.sfTested.find? fun k => bitsOf (s.sfInWord k) 0 8 == j with
  | none => s
  | some k =>
    if !s.sfArmed 1 then s
    else
      let w := s.sfInWord k
      let t := s.withCruc fun c => { c with failed := if c.failed.contains j then c.failed else c.failed ++ [j] }
      let t := (t.bump crucBase SF_TEST_FAILS).evt crucBase CRUC_EVT 6
      (t.raise .sfInputTest (srcLine j) 0 (leBytes 1 (bitsOf w 16 8) ++ leBytes 1 (b2n (s.line j).pad))).sfTrigger 1 5 t.crucNow

/-- A readback error forced at its detection point (R364). -/
def State.forceReadback (s : State) (j : Nat) : State :=
  let b := j / 64
  let t := (s.bump (dioBase b) DIO_READBACK_ERR).evt (dioBase b) DIO_EVT 4
  let d := s.injectDetail .dioReadback (srcLine j)
  if t.lineSafety j then t.raiseAs .safety .dioReadback (srcLine j) 0 d else t.raise .dioReadback (srcLine j) 0 d

/-- A bus-off forced at the error counters of controller `n`. -/
def State.forceBusOff (s : State) (n : Nat) : State :=
  let b := canBase n
  if !s.canOpen n ∨ s.get b CAN_STAT_ESTATE = 2 then s else (s.set b CAN_ECNT_TEC 256).ecntJudge n

/-- What the unit of a source does at the detection point of a kind; a kind whose unit has nothing to act on there is left
to the plain record. -/
def State.detect (s : State) (k : FaultKind) (src : Nat) : State :=
  let i := src % 256
  match k with
  | .storeCe => s.storeCe 0
  | .sprueParity => s.setQueue i { s.queue i with injNext := true, injForced := s.fault.forcing }
  | .sprueParityBurst => s.sprueCharge i 0
  | .sprueOverrun => (s.bump (queueBase i) SPRUE_OVERRUN).sprueCharge i 1
  | .fabWriteRefused => s.bump fabBase FAB_WR_REFUSED
  | .fabMsgDrop => s.bump fabBase FAB_MSG_DROP
  | .fabSeqGap => s.bump fabBase FAB_SEQ_GAP
  | .cmdDoorbellLost => s.bump cmdBase CMD_DOORBELL_LOST
  | .ringBreak => if s.ringUp i then s.portLeave i 1 3 else s
  | .timeActSkipped => s.bump timeBase TIME_ACT_SKIPPED
  | .ledgerHoldFull => s.bump ledgerBase LEDGER_HOLD_FULL
  | .ledgerTrigLate => s.bump ledgerBase LEDGER_TRIG_LATE
  | .ledgerTrigMiss => s.bump ledgerBase LEDGER_TRIG_MISS
  | .bridgeWqDrop => s.bump bridgeBase BRIDGE_WQ_DROP
  | .canBusOff => s.forceBusOff i
  | .canRxqOvf => s.rxqOvf i
  | .flaskBadJump => if (s.eng (i / 8) (i % 8)).running then s.badJump (i / 8) (i % 8) 0 else s
  | .dioEvqOvf => s.evqOvf (i - 16)
  | .dioReadback => s.forceReadback i
  | .dioSafetyWrite => s.safeDrop i 0
  | .feedLost => if s.qualified i then s.feedChange i false else s
  | .feedSwitchStuck => match s.power.sel.phase with | .breaking _ => (if s.selected = i then s.stuckFound 0 else s) | _ => s
  | .feedPrioBad => s
  | .pchShort | .pchStartShort => s.fastTrip i
  | .pchOvercurrent => s.slowTrip i
  | .pchFetOpen => if s.pchState i = 4 then ((s.bump (pchBase i) PCH_FET_OPENS).raise .pchFetOpen (srcPch i) 0 (leBytes 4 0)).pchEnter i 7 9 else s
  | .pchFetStress => if s.pchGate i then s.stressTrip i else s
  | .pchFetShort => if !s.pchGate i ∧ !s.flag (pchBase i) PCH_STAT_FET_SHORT then s.fetShortFound i else s
  | .pchSafetyWrite => s.pchSafetyDrop i 0#32
  | .pedieTripTest => s.tripTest i 0 true
  | .usbPortOc => s.overCurrent i true
  | .pdConverter => if (s.pd_ i).srcEn then s.converterFault i true (s.get (pdBase i) PD_VBUS_MV) else s
  | .pdPolicyWdog => s.policyWdog
  | .crucLaneDissent => if s.inControl i ∧ s.lanes.length = 3 then s.dissent i none else s
  | .crucAssayFail => s.forceAssay i
  | .safetyConfigWrite => s.sfWriteDrop i 0
  | .sfInputTest => s.forceTest i
  | _ => s

/-- An injection that `injectCheck` does not refuse (R496): counted, acted on at the detection point, recorded with FORCED.
A detection that another record does not follow from raises its own. A parity failure comes with the word it is put on. -/
def State.inject (s : State) (code src addr : Nat) : State :=
  match FaultKind.ofCode code with
  | none => s
  | some k =>
    let t := (s.bump faultBase FAULT_FORCED).evt faultBase FAULT_EVT 5
    let t := { t with fault := { t.fault with forcing := some addr } }
    let d := t.injectDetail k src
    let t := t.detect k src
    let t := if t.fault.forcing.isSome ∧ k ≠ .sprueParity then t.raise k src 0 d else t
    { t with fault := { t.fault with forcing := none } }

/-- FAULT_FORCE is written (R496): one write for each key; a refused one is discarded. -/
def State.faultForce (s : State) (w : Word) : State :=
  let t := { s with fault := { s.fault with keyOpen := false } }
  let code := bitsOf w 0 8
  let src := bitsOf w 8 12
  if !s.fault.keyOpen ∨ !w.getLsbD 31 ∨ t.injectCheck code src ≠ 0 then t else t.inject code src 0

end Sys2Proof.Machine
end

