-- ==== Sys2Proof/Machine/UpdOps.lean ====
section
/-! DEFINITION. Update images, configuration bundles with their migration, activation, the resident loader, calibration and
the policy image (R448 to R451, R518 to R538). -/

namespace Sys2Proof.Machine

/-- Base of the CALIB block (R538). -/
def calibBase : Nat := 0x7C0000

/-- The update block beside its registers, changed. -/
def State.withUpd (s : State) (f : UpdBlock → UpdBlock) : State := { s with upd := f s.upd }

/-! ### Layout -/

/-- Bytes of the boot flash: 16 MiB where the part names none or more than 512 MiB (R554). A flash has at least 16 MiB
(Table 0.4). -/
def flashBytes : Nat :=
  if Sys2Proof.Config.flashSize < 16 * 2 ^ 20 ∨ 512 * 2 ^ 20 < Sys2Proof.Config.flashSize then 16 * 2 ^ 20 else Sys2Proof.Config.flashSize

/-- The image slot size S (R518). -/
def imageSlot : Nat := min (8 * 2 ^ 20) ((flashBytes - 4 * 2 ^ 20) / 2)

/-- Bytes of a bundle slot (Table 20.1). -/
def bundleSlot : Nat := 3 * 2 ^ 19

/-- The halves of partition 10 (R518). -/
def State.imageAt (s : State) : Nat := s.partBase 10
/-- The bundle half of partition 10. -/
def State.bundleAt (s : State) : Nat := s.partBase 10 + 0x800000

/-! ### Keys -/

/-- The factory key as bytes (R520). -/
def factoryKeyBytes : List Byte := leBytes 64 Sys2Proof.Config.factoryKey.toNat

/-- The key images and bundles must be signed with (R520). -/
def State.updKey (s : State) : List Byte := s.upd.ownerKey.getD factoryKeyBytes

/-- Whether PUBKEY is accepted (R520): by the hash in the fuses, or as the factory key. -/
def State.keyOk (s : State) (pub : List Byte) : Bool :=
  match s.upd.ownerKey with
  | some k => sha256 pub == sha256 k
  | none => pub == factoryKeyBytes

/-! ### Sections -/

/-- Sections of an image or bundle whose table starts at byte `at_`: KIND, OFFSET, LENGTH (Table 20.2). -/
def sections (bs : List Byte) (at_ n : Nat) : List (Nat × Nat × Nat) :=
  (List.range n).map fun i => (leAt bs (at_ + 12 * i) 1, leAt bs (at_ + 12 * i + 4) 4, leAt bs (at_ + 12 * i + 8) 4)

/-- Whether the sections lie within LENGTH, one after the other in some order, and unused entries are 0. -/
def sectionsOk (bs : List Byte) (at_ n len : Nat) : Bool :=
  let ss := sections bs at_ n
  decide (1 ≤ n ∧ n ≤ 8) && ss.all (fun x => decide (x.2.1 + x.2.2 ≤ len))
    && (List.range n).all (fun i => (List.range n).all fun j =>
      let a := ss.getD i (0, 0, 0)
      let b := ss.getD j (0, 0, 0)
      i == j || decide (a.2.1 + a.2.2 ≤ b.2.1 ∨ b.2.1 + b.2.2 ≤ a.2.1))
    && ((bs.drop (at_ + 12 * n)).take (12 * (8 - n))).all (· == 0#8)
    && (List.range n).all (fun i => leAt bs (at_ + 12 * i + 1) 3 == 0)

/-- The bytes of the section of a kind, if there is one. -/
def sectionOf (bs : List Byte) (at_ n kind : Nat) : Option (List Byte) :=
  ((sections bs at_ n).find? fun x => x.1 == kind).map fun x => (bs.drop (256 + x.2.1)).take x.2.2

/-! ### Update images -/

/-- VERSION, SEC_VER, PART and LENGTH of an image (Table 20.2). -/
def imgVersion (bs : List Byte) : Nat := leAt bs 8 4
/-- SEC_VER of an image. -/
def imgSec (bs : List Byte) : Nat := leAt bs 12 1
/-- LENGTH of an image. -/
def imgLength (bs : List Byte) : Nat := leAt bs 16 4

/-- Header, sections and CRC of an image (R519). -/
def imgShape (bs : List Byte) : Bool :=
  let n := imgLength bs
  decide (bs.length = 256 + n) && decide (256 + n ≤ imageSlot) && leAt bs 0 4 == 0x474D4955 && leAt bs 4 2 == 1 && leAt bs 6 2 == 0
    && decide (imgSec bs ≤ 63) && leAt bs 13 1 == 1 && sectionsOk bs 152 1 n && leAt bs 152 1 == 1
    && leAt bs 248 8 == 0 && crc32c (zeroAt (zeroAt bs 20 4) 88 64) == leAt bs 20 4

/-- Key and signature of an image (R519, R520). -/
def State.imgSigned (s : State) (bs : List Byte) : Bool :=
  let pub := (bs.drop 24).take 64
  s.keyOk pub && sigOk pub ((bs.drop 88).take 64) (bs.take 88 ++ bs.drop 152)

/-- Whether an image may run at a start (R528): header, CRC, key, signature, SEC_VER. -/
def State.imgValid (s : State) (bs : List Byte) : Bool :=
  imgShape bs && s.imgSigned bs && decide (s.upd.rollback ≤ imgSec bs)

/-- The first row of Table 20.3 that holds, as a status; 0 when none does. -/
def State.updRefusal (s : State) (sec : Option Nat) : Nat :=
  if s.upd.lock then 0x52
  else if (match sec with | some v => decide (v < s.upd.rollback) | none => false) then 0x50
  else if s.flag feedReg FEED_STAT_ON_BAT ∨ s.sfTriggered 0 ∨ s.get crucBase CRUC_STAT_MODE ≠ 0 then 0x51
  else 0

/-- UPD_STAT.STATE made `v`. -/
def State.updState (s : State) (v : Nat) : State := s.set updBase UPD_STAT_STATE v

/-- Whether an activation is pending or a copy runs (Table 20.4). -/
def State.updBusy (s : State) : Bool := s.get updBase UPD_STAT_STATE == 4 || s.get updBase UPD_STAT_STATE == 5 || s.upd.copying.isSome

/-- Whether the 4 KiB blocks that cover `n` bytes have been written (R522). -/
def blocksIn (l : List Nat) (n : Nat) : Bool := (List.range ((n + 4095) / 4096)).all fun i => l.contains i

/-- The staged image. -/
def State.stagedImage (s : State) : List Byte := s.load s.imageAt (256 + imgLength (s.load s.imageAt 256))

/-- The first check of R524 that the staged image fails, as a status; 0 when it passes them all. -/
def State.verifyStatus (s : State) : Nat :=
  if s.get updBase UPD_STAT_STATE = 0 ∨ !blocksIn s.upd.blocks 256 then 0x0F02
  else if 8 * 2 ^ 20 < 256 + imgLength (s.load s.imageAt 256) then 0x0F01
  else if !blocksIn s.upd.blocks (256 + imgLength (s.load s.imageAt 256)) then 0x0F02
  else
    let bs := s.stagedImage
    let part := leAt bs 14 2
    if !imgShape bs then 0x0F01
    else if part ≠ 0 ∧ part ≠ s.sysId % 65536 then 0x0F03
    else if !s.imgSigned bs then 0x0F01
    else s.updRefusal (some (imgSec bs))

/-- A refusal of Table 20.3 is counted (R525). -/
def State.countRefusal (s : State) (st : Nat) : State :=
  if st = 0x50 ∨ st = 0x51 ∨ st = 0x52 then s.bump updBase UPD_REFUSED else s

/-- UPD_VERIFY (R524). -/
def State.updVerify (s : State) : CmdRes :=
  if s.updBusy then .no s 0x0F06
  else
    let st := s.verifyStatus
    if st ≠ 0 then .no ((s.countRefusal st).bump updBase UPD_VERIFY_FAILS) st
    else
      let bs := s.stagedImage
      let t := ((s.updState 2).set updBase UPD_STAT_IMG_WRITE 1).withUpd fun u => { u with writing := some bs, reserve := [] }
      .done 0 (leBytes 4 (imgVersion bs) ++ leBytes 1 (imgSec bs) ++ leBytes 3 0) t

/-- The reserve write ends (R524). -/
def State.reserveDone (s : State) : State :=
  match s.upd.writing with
  | none => s
  | some bs =>
    let t := (s.set updBase UPD_STAT_IMG_WRITE 0).withUpd fun u => { u with writing := none, reserve := bs }
    let t := if t.get updBase UPD_STAT_STATE = 2 then t.updState 3 else t
    t.evt updBase UPD_EVT 0

/-! ### Bundles -/

/-- Whether bytes 4 to `n` of a header word are zero. -/
def zeros (bs : List Byte) (at_ n : Nat) : Bool := ((bs.drop at_).take n).all (· == 0#8)

/-- Bytes of PATTERN must fit partition 6, REGLIST must be whole entries (R529, R530). -/
def State.kindsOk (s : State) (bs : List Byte) (n : Nat) : Bool :=
  let ks := (sections bs 96 n).map (·.1)
  ks.all (fun k => k == 1 || k == 2 || k == 3) && [1, 2, 3].all (fun k => decide ((ks.filter (· == k)).length ≤ 1))
    && (match sectionOf bs 96 n 3 with | some p => decide (p.length ≤ s.partSize 6) | none => true)
    && (match sectionOf bs 96 n 1 with | some p => p.length % 8 == 0 | none => true)

/-- Whether a bundle passes the checks of R529 other than its FORMAT. -/
def State.bundleOk (s : State) (bs : List Byte) : Bool :=
  let n := leAt bs 20 1
  let len := leAt bs 24 4
  let target := leAt bs 12 8
  let flags := leAt bs 6 2
  decide (bs.length = 256 + len) && decide (256 + len ≤ bundleSlot) && leAt bs 0 4 == 0x4E55425A && decide (1 ≤ leAt bs 4 2)
    && decide (flags < 4) && (bitAt flags 0 || zeros bs 32 64) && zeros bs 21 3 && zeros bs 192 64 && sectionsOk bs 96 n len && s.kindsOk bs n
    && (target == 0 || target == Sys2Proof.Config.serialLo.toNat) && crc32c (zeroAt (zeroAt bs 28 4) 32 64) == leAt bs 28 4
    && (!s.upd.sigOnly || (bitAt flags 0 && sigOk s.updKey ((bs.drop 32).take 64) (bs.take 32 ++ bs.drop 96)))

/-- The bundle that stands in store at an offset, by the LENGTH of its header. -/
def State.bundleFrom (s : State) (a : Nat) : List Byte :=
  let len := leAt (s.load a 256) 24 4
  if bundleSlot < 256 + len then s.load a 256 else s.load a (256 + len)

/-! ### Migration -/

/-- Packets of a script body, `n` of them, each padded to 4 bytes when `pad` (Table 19.4); none when one would run past the
end. -/
def packetsOf (pad : Bool) : Nat → List Byte → Option (List (List Byte))
  | 0, _ => some []
  | n + 1, bs =>
    let len := 16 + pktPlen bs
    let step := if pad then (len + 3) / 4 * 4 else len
    if bs.length < 16 ∨ bs.length < step then none else (packetsOf pad n (bs.drop step)).map fun ps => bs.take len :: ps

/-- A packet padded with zero bytes to a multiple of 4. -/
def padPacket (p : List Byte) : List Byte := p ++ List.replicate ((4 - p.length % 4) % 4) 0#8

/-- A packet with new parameters: PLEN and CRC recomputed. -/
def packetWith (p ps : List Byte) : List Byte :=
  let q := p.take 4 ++ leBytes 2 ps.length ++ (p.drop 6).take 6 ++ leBytes 4 0 ++ ps
  q.take 12 ++ leBytes 4 (crc32c q) ++ ps

/-- The limits of formats 1 and 2 from two register images: PCH_LIMITS0, PCH_LIMITS1, PCH_LIMITS2 (Table 20.7). The places
of the fields in the old images are stated nowhere: low half and high half in the order the table names them. -/
def newLimits (l0 l1 : Nat) : Nat × Nat × Nat :=
  (l0 % 65536, l0 / 65536 + 2 ^ 20 * (l1 / 65536 % 1024), l1 % 65536)

/-- A script packet of format `fmt` migrated (Table 20.7). -/
def packetMoved (fmt : Nat) (p : List Byte) : List Byte :=
  let ps := pktParams p
  if fmt = 1 ∧ pktOp p = 0x0700 ∧ ps.length = 16 then packetWith p (ps ++ leBytes 4 0)
  else if pktOp p = 0x0A02 ∧ ps.length = 32 then
    packetWith p (ps.take 4 ++ leBytes 4 (leAt ps 4 2) ++ leBytes 4 (leAt ps 6 2) ++ leBytes 4 (leAt ps 8 2)
      ++ (ps.drop 10).take 18 ++ leBytes 2 0)
  else if pktOp p = 0x8A00 ∧ ps.length = 40 then
    let l := newLimits (leAt ps 8 4) (leAt ps 12 4)
    packetWith p (ps.take 8 ++ leBytes 4 l.1 ++ leBytes 4 l.2.1 ++ ps.drop 16 ++ leBytes 4 l.2.2)
  else p

/-- A SCRIPT section migrated; one whose header fails its checks is carried unchanged. -/
def scriptMoved (fmt : Nat) (bs : List Byte) : List Byte :=
  let len := leAt bs 8 4
  if leAt bs 0 4 ≠ 0x54534342 ∨ bs.length < 16 + len then bs
  else
    match packetsOf (fmt != 1) (leAt bs 6 2) ((bs.drop 16).take len) with
    | none => bs
    | some ps =>
      let body := ps.flatMap fun p => padPacket (packetMoved fmt p)
      let h := bs.take 8 ++ leBytes 4 body.length
      h ++ leBytes 4 (crc32c (h ++ leBytes 4 0 ++ body)) ++ body

/-- REGLIST entries as (offset, value). -/
def regEntries (bs : List Byte) : List (Nat × Nat) :=
  (List.range (bs.length / 8)).map fun i => (leAt bs (8 * i) 4, leAt bs (8 * i + 4) 4)

/-- The last value a list writes at an offset. -/
def lastWritten (l : List (Nat × Nat)) (a : Nat) : Option Nat := ((l.filter fun p => p.1 == a).getLast?).map (·.2)

/-- Whether a list's SF-E or SF-A set names channel `c`. -/
def listNames (l : List (Nat × Nat)) (c : Nat) : Bool :=
  [0, 1].any fun i =>
    match lastWritten l (sfBase i + (if c < 32 then SF_CHAN_LO.off else SF_CHAN_HI.off)) with
    | some v => bitAt v (c % 32)
    | none => false

/-- One REGLIST entry migrated (Table 20.7): the entries that stand for it. -/
def entryMoved (l : List (Nat × Nat)) (p : Nat × Nat) : List (Nat × Nat) :=
  let a := p.1
  let c := (a - 0x400000) / 0x100
  let w := BitVec.ofNat 32 p.2
  if 0x300000 ≤ a ∧ a < 0x303000 ∧ (dioRegLine a).isSome ∧ a % 16 = 4 then
    [(a, (putBits w 8 24 (min 10000000 (bitsOf w 8 24 * 100))).toNat)]
  else if 0x400000 ≤ a ∧ a < 0x404000 ∧ a % 0x100 = 0 then
    (if bitAt p.2 PCH_CTRL_SAFE_ON.lo ∧ !listNames l c then [(a, setBit p.2 PCH_CTRL_SAFE_ON.lo false)] else [p])
  else if 0x400000 ≤ a ∧ a < 0x404000 ∧ a % 0x100 = 0x24 then
    let l1 := lastWritten l (a + 4)
    let v := newLimits p.2 (l1.getD (8000 + 65536 * 20))
    (a, v.1) :: (if l1.isNone then [(a + 4, v.2.1)] else [])
  else if 0x400000 ≤ a ∧ a < 0x404000 ∧ a % 0x100 = 0x28 then
    let v := newLimits ((lastWritten l (a - 4)).getD (40000 + 65536 * 16000)) p.2
    [(a, v.2.1), (a + 0x1C, v.2.2)]
  else [p]

/-- A REGLIST section migrated. -/
def regsMoved (bs : List Byte) : List Byte :=
  let l := regEntries bs
  (l.flatMap (entryMoved l)).flatMap fun p => leBytes 4 p.1 ++ leBytes 4 p.2

/-- A bundle of format 1 or 2 migrated to format 3 (R531): sections follow one another in the order of the table. -/
def bundleMoved (bs : List Byte) : List Byte :=
  let fmt := leAt bs 4 2
  let n := leAt bs 20 1
  let parts := (sections bs 96 n).map fun x =>
    let b := (bs.drop (256 + x.2.1)).take x.2.2
    (x.1, if x.1 = 1 then regsMoved b else if x.1 = 2 then scriptMoved fmt b else b)
  let table := (parts.foldl (fun (acc : List Byte × Nat) p =>
    (acc.1 ++ leBytes 4 p.1 ++ leBytes 4 acc.2 ++ leBytes 4 p.2.length, acc.2 + p.2.length)) ([], 0))
  let h := bs.take 4 ++ leBytes 2 3 ++ leBytes 2 2 ++ (bs.drop 8).take 16 ++ leBytes 4 table.2
  let tail := List.replicate 64 0#8 ++ table.1 ++ List.replicate (96 - table.1.length) 0#8 ++ List.replicate 64 0#8
    ++ parts.flatMap (·.2)
  h ++ leBytes 4 (crc32c (h ++ leBytes 4 0 ++ tail)) ++ tail

/-- The active bundle slot's contents (Table 20.1). -/
def State.activeBundle (s : State) : List Byte := if s.upd.slot = 0 then s.upd.slotA else s.upd.slotB

/-- A bundle is written to the slot that is not active. -/
def State.writeInactive (s : State) (bs : List Byte) : State :=
  s.withUpd fun u => if u.slot = 0 then { u with slotB := bs } else { u with slotA := bs }

/-! ### Staging -/

/-- Bytes are staged (R522): `half` 0 the image, 1 the bundle. -/
def State.stageBytes (s : State) (half off : Nat) (bs : List Byte) (first : Bool) : State :=
  let at_ := if half = 0 then s.imageAt else s.bundleAt
  let new := (List.range (off + bs.length)).filter fun i => i % 4096 = 0 ∧ off < i + 4096
  let blocks := new.map (· / 4096)
  let add (l : List Nat) : List Nat := (if first then [] else l) ++ blocks.filter fun b => first || !l.contains b
  let t := s.store (at_ + off) bs
  if half = 0 then
    let t := (t.updState 1).withUpd fun u => { u with blocks := add u.blocks }
    t.set updBase UPD_VER_STAGED (if t.upd.blocks.contains 0 then leAt (t.load t.imageAt 256) 8 4 else 0)
  else (t.set updBase UPD_STAT_BUNDLE_STAGED 0).withUpd fun u => { u with bblocks := add u.bblocks }

/-! ### Activation -/

/-- UPD_ACT_AT shows an instant. -/
def State.setActAt (s : State) (t : Nat) : State :=
  ((s.set updBase UPD_ACT_AT_NS_NS (t % nsPerSec)).set updBase UPD_ACT_AT_SL_SEC_LO (t / nsPerSec % 2 ^ 32)).set updBase
    UPD_ACT_AT_SH_SEC_HI (t / nsPerSec / 2 ^ 32)

/-- The pending instant. -/
def State.actAt (s : State) : Nat :=
  (s.get updBase UPD_ACT_AT_SL_SEC_LO + 2 ^ 32 * s.get updBase UPD_ACT_AT_SH_SEC_HI) * nsPerSec + s.get updBase UPD_ACT_AT_NS_NS

/-- Nothing is pending any more; the STATE before it returns. -/
def State.actEnd (s : State) : State :=
  let t := ((s.setActAt 0).set updBase UPD_ACT_FLAGS_IMAGE 0).set updBase UPD_ACT_FLAGS_BUNDLE 0
  (t.updState s.upd.prior).withUpd fun u => { u with late := false }

/-- Whether an activation is pending. -/
def State.actPending (s : State) : Bool := s.get updBase UPD_STAT_STATE == 4

/-- Whether the instant of a pending activation has come. -/
def State.actDue (s : State) : Bool := s.actPending && s.timeValid && decide (s.actAt ≤ s.crucNow)

/-- UPD_ACTIVATE_AT with AT = 0 (R527): an activation whose instant has come stands. -/
def State.actCancel (s : State) : CmdRes :=
  if s.actPending && !s.actDue then .done 0 (leBytes 12 0) s.actEnd else .no s 0x0403

/-- Whether the verified image stands in the reserve region. -/
def State.imgVerified (s : State) : Bool :=
  s.get updBase UPD_STAT_STATE == 3 || (s.actPending && s.upd.prior == 3)

/-- UPD_ACTIVATE_AT (R526): `img`, `bun` what it activates. -/
def State.actSet (s : State) (img bun : Bool) (at_ : Nat) : CmdRes :=
  let st := s.updRefusal (if img then some (imgSec s.upd.reserve) else none)
  if (img ∧ !s.imgVerified) ∨ (bun ∧ !s.flag updBase UPD_STAT_BUNDLE_STAGED) then .no s 0x0F02
  else if st ≠ 0 then .no (s.countRefusal st) st
  else if !s.timeValid then .no s 0x40
  else if at_ < s.crucNow + 100000000 then .no s 0x0402
  else
    let t := if bun then s.writeInactive (s.bundleFrom s.bundleAt) else s
    let t := if s.actPending then t else t.withUpd fun u => { u with prior := s.get updBase UPD_STAT_STATE }
    let t := ((t.setActAt at_).set updBase UPD_ACT_FLAGS_IMAGE (b2n img)).set updBase UPD_ACT_FLAGS_BUNDLE (b2n bun)
    .done 0 (stampBytes at_ ++ leBytes 2 0) ((t.updState 4).withUpd fun u => { u with late := false })

/-- The activation instant (R526, R527): at AT on the Crucible's replica, or late once ring time allows it. -/
def State.activate (s : State) : State :=
  if !s.actPending ∨ !s.timeValid ∨ s.crucNow < s.actAt ∨ s.inHeld then s
  else
    let img := s.flag updBase UPD_ACT_FLAGS_IMAGE
    let bun := s.flag updBase UPD_ACT_FLAGS_BUNDLE
    let t := if s.upd.late then
        (s.raise .updActivateMissed srcHub 0 (leBytes 4 (min (2 ^ 32 - 1) ((s.crucNow - s.actAt) / 1000)))).evt updBase UPD_EVT 3
      else s
    let st := t.updRefusal (if img then some (imgSec t.upd.reserve) else none)
    if st ≠ 0 then ((t.countRefusal st).evt updBase UPD_EVT 2).actEnd
    else
      let t := t.bump updBase UPD_ACTIVATIONS
      let late := t.upd.late
      let t := t.actEnd.withUpd fun u =>
        { u with acting := true, late := late, slot := if bun then 1 - u.slot else u.slot
                 copying := if img then some 0 else u.copying }
      let t := if bun then t.set updBase UPD_STAT_BUNDLE_STAGED 0 else t
      { t with cmd := { t.cmd with warmResetAt := some (t.uptime + 100000) } }

/-- A pending activation turns late: ring time was not valid at AT, or stepped past it (R527); a step back before AT undoes
nothing that has not happened. -/
def State.actWatch (s : State) : State :=
  if !s.actPending then s
  else
    let before := s.time.stepFrom.getD s.ring
    let at_ := s.actAt
    if s.ring < at_ then (if s.upd.late then s.withUpd fun u => { u with late := false } else s)
    else if !s.timeValid ∨ (s.time.stepFrom.isSome ∧ before < at_) then s.withUpd fun u => { u with late := true }
    else s

/-! ### The resident loader -/

/-- Blocks of 64 KiB an image takes. -/
def copyBlocks (bs : List Byte) : Nat := (bs.length + 65535) / 65536

/-- A copy is under way from block `n` on (R528). -/
def State.copyBegin (s : State) (n : Nat) : State :=
  let t := (s.updState 5).set updBase UPD_STAT_IMG_WRITE 1
  let t := (t.set updBase UPD_COPY_DONE n).set updBase UPD_COPY_TOTAL (copyBlocks s.upd.reserve)
  t.withUpd fun u => { u with copying := some n }

/-- Whether the copy goes on: also beside a pending activation of a bundle, after which STATE returns to copying. -/
def State.copyGoes (s : State) : Bool :=
  s.get updBase UPD_STAT_STATE == 5 || (s.actPending && s.upd.prior == 5)

/-- One 64 KiB block of the reserve image is copied over the running image (R528). -/
def State.copyBlock (s : State) : State :=
  match s.upd.copying with
  | none => s
  | some n =>
    if !s.copyGoes then s
    else
      let r := s.upd.reserve
      let run := if n + 1 < copyBlocks r then r.take (65536 * (n + 1)) ++ s.upd.running.drop (65536 * (n + 1)) else r
      let t := (s.set updBase UPD_COPY_DONE (n + 1)).withUpd fun u => { u with running := run, copying := some (n + 1) }
      if n + 1 < copyBlocks r then t
      else
        let t := t.withUpd fun u => { u with copying := none, rollback := max u.rollback (imgSec r) }
        let t := if t.actPending then t.withUpd fun u => { u with prior := 0 } else t.updState 0
        (t.set updBase UPD_STAT_IMG_WRITE 0).evt updBase UPD_EVT 4

/-! ### Calibration -/

/-- The bytes of a calibration set or of the array. -/
def calBytes (m : Tbl Byte) : List Byte := (List.range 4096).map fun i => Tbl.get (fun _ => 0#8) m i

/-- The CRC the bytes of a set must carry (Table 20.8). -/
def calCrc (m : Tbl Byte) : Nat := crc32c (zeroAt (calBytes m) 12 4)

/-- The defaults of R535. -/
def calDefaults : Tbl Byte := [(0, 0x43#8), (1, 0x43#8), (2, 0x41#8), (3, 0x4C#8), (4, 1#8), (6, 1#8)]

/-- Boot step 4 (R533, R535): the set is read and its CRC checked; `aon` after a VAON power-on. -/
def State.calibLoad (s : State) (aon : Bool) : State :=
  let a := s.upd.array
  let stored := leNat ((List.range 4).map fun i => Tbl.get (fun _ => 0#8) a (12 + i))
  let found := calCrc a
  let t := (s.set calibBase CALIB_CRC_STORED stored).set calibBase CALIB_CRC_CALC found
  let t := if stored = found then
      ((t.set calibBase CALIB_STAT_DEFAULT 0).set 0 SYS_BOOT_STAT_CALIB_DEFAULT 0).withUpd fun u => { u with calib := a }
    else
      let t := ((t.set calibBase CALIB_STAT_DEFAULT 1).set 0 SYS_BOOT_STAT_CALIB_DEFAULT 1).withUpd fun u => { u with calib := calDefaults }
      t.raise .calibCrc srcHub 0 (leBytes 4 stored ++ leBytes 4 found)
  if aon then
    let trim := leNat ((List.range 2).map fun i => Tbl.get (fun _ => 0#8) t.upd.calib (578 + i))
    (t.setAon t.aonNow).set aonBase AON_TRIM_PPM_X10 (ofSigned 16 (min 2000 (max (-2000) (toSigned 16 trim))))
  else t

/-- The set a CALIB_WRITE makes (R534): from the set in use, with the new bytes, ORIGIN 1, WRITES one more, and its CRC. -/
def State.calibMade (s : State) (off : Nat) (bs : List Byte) : Tbl Byte :=
  let writes := leNat ((List.range 4).map fun i => Tbl.get (fun _ => 0#8) s.upd.array (8 + i)) + 1
  let m := memWrite (memWrite (Tbl.put (fun _ => 0#8) s.upd.calib 6 1#8) 8 (leBytes 4 writes)) off bs
  memWrite m 12 (leBytes 4 (calCrc m))

/-- The MTP write ends (R534): 50 ms after it began. -/
def State.calibDone (s : State) : State :=
  match s.upd.calWrite with
  | none => s
  | some (m, end_) =>
    if s.uptime < end_ then s
    else
      let t := s.withUpd fun u => { u with array := m, calib := m, calWrite := none }
      let t := (t.set calibBase CALIB_STAT_DEFAULT 0).set 0 SYS_BOOT_STAT_CALIB_DEFAULT 0
      t.wake 0x8F00 0 0 0 (leBytes 4 (leNat ((List.range 4).map fun i => Tbl.get (fun _ => 0#8) m (8 + i))))

/-! ### The policy image -/

/-- What keeps a policy image from running (R449, R450), as FB_CAUSE; 0 when it may run. `room` is the size of
partition 9. -/
def State.policyCause (s : State) (bs : List Byte) (room : Nat) : Nat :=
  let n := leAt bs 12 4
  if leAt bs 0 4 ≠ 0x4C4F5044 ∨ leAt bs 4 2 ≠ 1 ∨ leAt bs 6 2 ≠ 0 ∨ n < 4 ∨ room < 96 + n ∨ bs.length < 96 + n ∨ leAt bs 88 8 ≠ 0 then 1
  else
    let im := bs.take (96 + n)
    if crc32c (zeroAt (zeroAt im 20 4) 24 64) ≠ leAt bs 20 4 then 2
    else if !sigOk s.updKey ((bs.drop 24).take 64) (im.take 24 ++ im.drop 96) then 3
    else 0

/-- The image in partition 9 by its header. -/
def State.policyImage (s : State) : List Byte :=
  let a := s.partBase 9
  let n := leAt (s.load a 96) 12 4
  if s.partSize 9 < 96 + n then s.load a 96 else s.load a (96 + n)

/-- The policy is chosen (R449): at a start and when USE_IMAGE is set. -/
def State.policyEval (s : State) : State :=
  if !s.flag pdAll PD_POL_CTRL_USE_IMAGE then s.runPolicy false 5 0
  else if s.pd.barred then s.runPolicy false 4 0
  else
    let bs := s.policyImage
    let c := s.policyCause bs (s.partSize 9)
    if c = 0 then s.runPolicy true 0 (leAt bs 8 4) else s.runPolicy false c 0

/-- The 1 ms of an island's reset are over (R491): it starts again, and the policy core chooses its
policy (R449, R452). -/
def State.islandStart (s : State) (i : Nat) : State :=
  let x := s.isl i
  if !x.inReset ∨ x.givenUp ∨ s.uptime < x.since + 1000000 then s
  else
    let t := (s.setIsl i { x with inReset := false }).queuesStart (islandQueues i)
    if i = 20 then t.policyEval.pdRestart else t

end Sys2Proof.Machine
end

