-- ==== Sys2Proof/Machine/RegAccess.lean ====
section
/-! DEFINITION. A write to and a read of register space by any initiator: mapped, present, fenced and gated places
(R4, R35, R39, R283, R511), and lists of writes (R123). -/

namespace Sys2Proof.Machine

/-! ### Writing -/

/-- A write takes effect in its block. -/
def State.regApply (s : State) (init a : Nat) (w : Word) : State :=
  if a < 0x10000 then s.writeSys init a w
  else if a < 0x20000 then s.writeTime init a w
  else if a < 0x80000 then s.writeNet init a w
  else if a < 0xA0000 then s.writeSched init a w
  else if a < 0xB0000 then s.writeLedger init a w
  else if a < 0x100000 then s.writePimg init a w
  else if a < 0x200000 then s.writeCan init a w
  else if a < 0x300000 then s.writeFlask init a w
  else if a < 0x400000 then s.writeDio init a w
  else if a < 0x440000 then s.writePch init a w
  else if a < 0x500000 then s.writeFeed init a w
  else if a < 0x540000 then s.writeUsb init a w
  else if a < 0x600000 then
    let was := s.flag pdAll PD_POL_CTRL_USE_IMAGE
    let t := s.writePd init a w
    if a = pdAll ∧ !was ∧ t.flag pdAll PD_POL_CTRL_USE_IMAGE then t.policyEval else t
  else if a < 0x680000 then s.writeBridge init a w
  else if a < 0x700000 then s.writeSprue init a w
  else if a = 0x700104 then s.faultForce w
  else if a < 0x780000 then s.writeFault init a w
  else if a < 0x7C0000 then s.writeCruc init a w
  else if a < 0x7F0000 then s.fieldsWrite init a w
  else s.writeAon init a w

/-- A gated island is awake: its waiting writes take effect in order (R511). -/
def State.islandAwake (s : State) (i : Nat) : State :=
  let mine := s.sys.waits.filter fun x => x.1 == i
  let t := { s with sys := { s.sys with gated := s.sys.gated.filter (· != i), waking := s.sys.waking.filter (· != i)
                                        idle := Tbl.put (fun _ => 0) s.sys.idle i 0
                                        waits := s.sys.waits.filter fun x => x.1 != i } }
  mine.foldl (fun (s : State) x => s.regApply x.2.2.2 x.2.1 (BitVec.ofNat 32 x.2.2.1)) t

/-- A gated island is asked to wake (R511). -/
def State.islandCall (s : State) (i : Nat) : State :=
  if s.sys.gated.contains i ∧ !s.sys.waking.contains i then { s with sys := { s.sys with waking := s.sys.waking ++ [i] } } else s

/-- An access to an offset's island wakes it at once where its initiator waits for the wake (R511). -/
def State.wakeFor (s : State) (a : Nat) : State :=
  match regIsland a with
  | some i => if s.sys.gated.contains i then s.islandAwake i else s
  | none => s

/-- An access to an unmapped offset (R39): `dir` 0 a read, 1 a write. -/
def State.unmapped (s : State) (init a dir : Nat) : State :=
  s.raise .unmappedAccess srcHub (s.regAddr a) (leBytes 1 dir ++ leBytes 1 init)

/-- Whether an offset lies in the mailbox windows that xSPI alone uses (Table 4.12). -/
def mailWindow (a : Nat) : Bool := decide (0x8000 ≤ a ∧ a < 0xA000)

/-- A write of one register word (R4, R35, R39, R511). Writes of xSPI and USB to a gated island wait for its wake; the
hub's own and a peer's wake it at once. -/
def State.regWrite (s : State) (init a : Nat) (w : Word) : State :=
  if !regMapped a then s.unmapped init a 1
  else if !s.regPresent a then s
  else if s.regFenced a then s.bump 0 SYS_FENCE_WDROP
  else if mailWindow a ∧ init ≠ 0 then s.writeRefused s.nodeId init (s.regAddr a) stNotPermitted
  else if s.regGated a ∧ init < 2 then
    match regIsland a with
    | some i => ({ s with sys := { s.sys with waits := s.sys.waits ++ [(i, a, w.toNat, init)] } }).islandCall i
    | none => s
  else (s.wakeFor a).regApply init a w

/-- Whether an offset of a register list is aligned and inside register space (R123). -/
def listOffset (a : Nat) : Bool := a % 4 == 0 && decide (a < 2 ^ 24)

/-- A list of writes in order (R123): offsets and values. -/
def State.regWrites (s : State) (init : Nat) (l : List (Nat × Nat)) : State :=
  l.foldl (fun (s : State) p => s.regWrite init p.1 (BitVec.ofNat 32 p.2)) s

/-! ### Reading -/

/-- Counters that lag their unit are brought up to date before a read shows them. -/
def State.regTouch (s : State) (a : Nat) : State :=
  if 0x200000 ≤ a ∧ a < 0x208000 then s.clashCount ((a - 0x200000) / 0x1000)
  else if 0x400000 ≤ a ∧ a < 0x404000 then s.pchCount ((a - 0x400000) / 0x100)
  else s

/-- A read of one register word: status (Table 2.7), value, and what the read leaves (R283). -/
def State.regRead (s : State) (init a : Nat) : Nat × Word × State :=
  if !regMapped a then (stUnmapped, 0#32, s.unmapped init a 0)
  else if !s.regPresent a then (stOk, 0#32, s)
  else if s.regFenced a then (stFenced, 0#32, s)
  else if mailWindow a ∧ init ≠ 0 then (stNotPermitted, 0#32, s)
  else
    let t := (s.wakeFor a).regTouch a
    (stOk, t.regWord a, if popWord a then t.regPop a else t)

/-- Consecutive register words read by one access: the first status other than OK stands for all (R46). -/
def State.regReads (s : State) (init a : Nat) : Nat → Nat × List Byte × State
  | 0 => (stOk, [], s)
  | n + 1 =>
    let r := s.regRead init a
    let rest := r.2.2.regReads init (a + 4) n
    (if r.1 = stOk then rest.1 else r.1, leBytes 4 r.2.1.toNat ++ rest.2.1, rest.2.2)

end Sys2Proof.Machine
end

