-- ==== Sys2Proof/Machine/SysOps.lean ====
section
/-! DEFINITION. Boot, warm reset, power states, Standby, clock gating, temperatures and the test access port (R501 to R517,
R561, R562). -/

namespace Sys2Proof.Machine

/-- Start-up and power beside their registers, changed. -/
def State.withSys (s : State) (f : SysBlock → SysBlock) : State := { s with sys := f s.sys }

/-- A sparse table with every listed value changed, defaults unlisted. -/
def Tbl.remap {α : Type} [DecidableEq α] (d : Nat → α) (f : α → α) (m : Tbl α) : Tbl α :=
  (m.map fun p => (p.1, f p.2)).filter fun p => !(p.2 == d p.1)

/-! ### What a power-on keeps -/

/-- Whether power-edge die `d` runs on through a boot (R501, R505): after the loss of every supply (`cold`) only when its own
has come back since. -/
def PowerBlock.stays (p : PowerBlock) (cold : Bool) (d : Nat) : Bool :=
  let x := Tbl.get (fun _ => {}) p.dies d
  x.powered && (!cold || x.risen)

/-- Registers that a power-on of the main die leaves: the AON block (R517), unless VAON was lost too, and, as its die runs
on, the FEED block (R505). -/
def bootKeeps (p : PowerBlock) (cold : Bool) (a : Nat) : Bool :=
  (p.stays cold 0 && decide (0x440000 ≤ a ∧ a < 0x450000)) || (!cold && decide (0x7F0000 ≤ a))

/-- What power-edge dies and feeds keep. -/
def PowerBlock.kept (p : PowerBlock) (cold : Bool) : PowerBlock :=
  let put (m : Tbl DieUnit) (d : Nat) : Tbl DieUnit := Tbl.put (fun _ => {}) m d { powered := p.stays cold d }
  { feeds := if p.stays cold 0 then p.feeds else [], sel := if p.stays cold 0 then p.sel else {}
    dies := [0, 1].foldl put [] }

/-- What the boot flash, the fuses and the MTP arrays keep (R518 to R533). -/
def UpdBlock.kept (u : UpdBlock) : UpdBlock :=
  { running := u.running, reserve := if u.writing.isSome then [] else u.reserve, slotA := u.slotA, slotB := u.slotB, slot := u.slot
    copying := u.copying, ownerKey := u.ownerKey, lock := u.lock, sigOnly := u.sigOnly, rollback := u.rollback, array := u.array }

/-- What start-up keeps of its own block. -/
def SysBlock.kept (x : SysBlock) (now : Nat) (cold : Bool) : SysBlock :=
  { up := true, pwron := true, fresh := false, bootAt := now, aonBase := if cold then 0 else x.aonBase
    aonAt := if cold then now else x.aonAt }

/-- The hub at the start of a boot (R504): everything at its reset value but what the world outside shows at the pins, the
AON island, the feeds, the flash, and the HELD latch with its record (R495); `cold` after the loss of every supply. -/
def State.mainReset (s : State) (cold : Bool) : State :=
  { State.reset with
    variant := s.variant, pending := s.pending, uptime := s.uptime, outs := s.outs, freeCount := s.freeCount
    regs := s.regs.filter fun p => bootKeeps s.power cold p.1
    halfs := s.halfs.filter fun a => bootKeeps s.power cold a
    fault := if cold then {} else { held := s.fault.held, heldRec := s.fault.heldRec }
    lines := Tbl.remap (fun _ => {}) (fun x => { pad := x.pad, acc := x.pad }) s.lines
    flasks := Tbl.remap (fun _ => {}) (fun x => { pads := x.pads }) s.flasks
    usb := { ports := Tbl.remap (fun _ => {}) (fun x => { there := x.there, low := x.low }) s.usb.ports }
    power := s.power.kept cold, sys := s.sys.kept s.uptime cold, tap := { s.tap with force := none }, upd := s.upd.kept }

/-! ### Self-tests -/

/-- The fence unit of a SYS_FENCE bit (Table 1.6). -/
def unitOfBit (b : Nat) : Option FenceUnit :=
  if b < 4 then some (.canIsl b) else if b < 12 then some (.flask (b - 4)) else if b < 15 then some (.dioBank (b - 12))
  else if 16 ≤ b ∧ b < 19 then some (.lane (b - 16)) else if 20 ≤ b ∧ b < 22 then some (.ringPort (b - 20))
  else if 22 ≤ b ∧ b < 24 then some (.pedie (b - 22)) else none

/-- SOURCE of a unit's SELFTEST_FAIL record (Table 18.2). -/
def selfSource : FenceUnit → Nat
  | .canIsl i => srcIsland (4 + i)
  | .flask f => srcIsland (8 + f)
  | .dioBank b => srcIsland (16 + b)
  | .pedie d => srcIsland (23 + d)
  | .lane l => srcLane l
  | .ringPort p => srcPort p

/-- A unit fails its self-test with a test code (R33, Table 18.10): recorded, and fenced at once. -/
def State.testFail (s : State) (u : FenceUnit) (code : Nat) : State :=
  (s.raise .selftestFail (selfSource u) 0 (leBytes 2 code)).reactNext

/-- The self-tests of step 3 for the units `only` names: failures as SYS_FENCE bits with their codes. -/
def State.selfTests (s : State) (fails : List (Nat × Nat)) (only : FenceUnit → Bool) : State :=
  fails.foldl (fun (s : State) x =>
    match unitOfBit x.1 with
    | some u => if only u ∧ s.unitPresent u ∧ !s.fenced u then s.testFail u x.2 else s
    | none => s) s

/-- The class with which lane `l` fails its Assay at a boot, 0 when it passes. -/
def laneClass (fails : List (Nat × Nat)) (l : Nat) : Nat :=
  match fails.find? fun x => x.1 == 16 + l with
  | some x => x.2 % 256
  | none => 0

/-- The lanes run their Assays (R461, R504): two or three failures leave no lane in control. -/
def State.laneTests (s : State) (fails : List (Nat × Nat)) : State :=
  let t := s.each [0, 1, 2] fun s l => s.assayResult l (laneClass fails l)
  let bad := [0, 1, 2].filter fun l => fails.any fun x => x.1 == 16 + l
  if 2 ≤ bad.length then
    (t.raise .crucNoLane (srcIsland 3) 0 (leBytes 1 (classMask (bad.map (laneClass fails))))).reactNext
  else t.selfTests fails fun u => match u with | .lane _ => true | _ => false

/-! ### Image and bundle -/

/-- The POLICY section of the image that runs is copied to partition 9 (R448, R528). -/
def State.loadPolicy (s : State) (im : List Byte) : State :=
  match sectionOf im 152 1 1 with
  | some p => s.store (s.partBase 9) (p.take (s.partSize 9))
  | none => s

/-- The hub runs an image: UPD_STAT.IMAGE, UPD_VER_RUN, SEC_RUN. -/
def State.runImage (s : State) (which : Nat) (im : List Byte) : State :=
  let t := (s.set updBase UPD_STAT_IMAGE which).set updBase UPD_VER_RUN (imgVersion im)
  (t.set updBase UPD_ROLLBACK_SEC_RUN (imgSec im)).loadPolicy im

/-- The reserve image runs after a failure, and is copied from block `n` on (Table 20.5). -/
def State.runReserve (s : State) (n : Nat) : State :=
  let t := (s.runImage 1 s.upd.reserve).copyBegin n
  ((t.bump updBase UPD_RECOVERIES).evt updBase UPD_EVT 5).raise .updRecovered srcHub 0 (leBytes 4 (imgVersion s.upd.reserve))

/-- Step 5 (Table 20.5): the image choice. -/
def State.imageChoice (s : State) : State :=
  let run := s.imgValid s.upd.running
  let res := s.imgValid s.upd.reserve
  match s.upd.copying, run, res with
  | some n, _, true => s.runReserve n
  | none, false, true => s.runReserve 0
  | _, true, _ => (s.withUpd fun u => { u with copying := none }).runImage 0 s.upd.running
  | _, _, _ => s.set updBase UPD_STAT_IMAGE 2

/-- Whether a boot script's header holds (R507). -/
def scriptOk (bs : List Byte) : Bool :=
  let n := leAt bs 8 4
  leAt bs 0 4 == 0x54534342 && leAt bs 4 2 == 1 && decide (leAt bs 6 2 ≤ 4096) && decide (n ≤ 2 ^ 20) && decide (16 + n ≤ bs.length)
    && crc32c (zeroAt (bs.take (16 + n)) 12 4) == leAt bs 12 4

/-- The packets of a script, `n` of them; one that would run past the end is given as the bytes that are left (R507). -/
def scriptPackets : Nat → List Byte → List (List Byte)
  | 0, _ => []
  | n + 1, bs =>
    let len := 16 + pktPlen bs
    if bs.length < 16 ∨ bs.length < len then [bs] else bs.take len :: scriptPackets n (bs.drop ((len + 3) / 4 * 4))

/-- The boot script is made ready (R507): absent, BAD, or its packets. -/
def State.loadScript (s : State) (sec : Option (List Byte)) : State :=
  match sec with
  | none => s
  | some bs =>
    if scriptOk bs then
      let ps := scriptPackets (leAt bs 6 2) ((bs.drop 16).take (leAt bs 8 4))
      { s with cmd := { s.cmd with script := ps, scriptAt := 16, scriptNext := 16, scriptRun := true } }
    else s.set 0 SYS_BOOT_STAT_SCRIPT 3

/-- A bundle that passed its checks loads (R530); a REGLIST with an offset that SYS_REG_WRITE_LIST refuses writes nothing. -/
def State.applyBundle (s : State) (b : List Byte) (code : Nat) : State :=
  let n := leAt b 20 1
  let t := match sectionOf b 96 n 3 with | some p => s.store (s.partBase 6) p | none => s
  let regs := regEntries ((sectionOf b 96 n 1).getD [])
  let t := if regs.all fun p => listOffset p.1 then t.regWrites 2 regs else t
  let t := (t.set updBase UPD_BUNDLE_FORMAT (leAt b 4 2 % 256)).set updBase UPD_BUNDLE_VER (leAt b 8 4)
  (t.set 0 SYS_BOOT_STAT_BUNDLE code).loadScript (sectionOf b 96 n 2)

/-- The migrated bundle becomes the active one (R531). -/
def State.migrate (s : State) (m : List Byte) : State :=
  ((s.writeInactive m).withUpd fun u => { u with slot := 1 - u.slot }).bump updBase UPD_MIGRATIONS

/-- Step 6 (R506, R530): the active bundle loads, migrated first at a cold boot if its format is older. -/
def State.loadBundle (s : State) (cold : Bool) : State :=
  let b := s.activeBundle
  let fmt := leAt b 4 2
  if b.isEmpty then s
  else if !s.bundleOk b ∨ 3 < fmt ∨ (cold ∧ fmt < 3 ∧ s.upd.sigOnly) then s.set 0 SYS_BOOT_STAT_BUNDLE 3
  else if cold ∧ fmt < 3 then (s.migrate (bundleMoved b)).applyBundle (bundleMoved b) 2
  else s.applyBundle b 1

/-- Step 7 begins (R507): without packets the script is over. -/
def State.stepSeven (s : State) : State :=
  let t := s.set 0 SYS_BOOT_STAT_STEP 7
  if !t.cmd.scriptRun then t.readySet
  else if t.cmd.script.isEmpty then
    ({ t with cmd := { t.cmd with scriptRun := false } }.set 0 SYS_BOOT_STAT_SCRIPT 1).readySet
  else t

/-- READY_SET: the script's last command has been answered (R504). -/
def State.scriptDone (s : State) : State :=
  if s.cmd.scriptRun ∧ s.cmd.script.isEmpty ∧ !(s.cmd.entries.any fun e => e.key.transport == .boot) then
    ({ s with cmd := { s.cmd with scriptRun := false } }.set 0 SYS_BOOT_STAT_SCRIPT 1).readySet
  else s

/-! ### Boot -/

/-- AON_EPOCH rises and AON_RST_CAUSE shows a start's cause (R143, R517). -/
def State.started (s : State) (cause : Nat) : State :=
  (s.set aonBase AON_EPOCH_EPOCH ((s.get aonBase AON_EPOCH_EPOCH + 1) % 256)).set aonBase AON_RST_CAUSE_CAUSE cause

/-- Step 2 (R505, R514): clocks run, the time counter loads AON time when that is valid, the ring ports seek, the dies' links
begin. -/
def State.clocksUp (s : State) : State :=
  let t := (s.set aonBase AON_STAT_REFCLK_OK 1).set aonBase AON_STAT_XTAL_OK 1
  let set := t.flag aonBase AON_STAT_TIME_VALID
  let t := { t with ring := if set then t.aonNow * nsPerSec / 32768 else 0
                    time := { t.time with everSet := t.time.everSet || set } }
  let t := t.each [0, 1] fun s p => s.setRport p { s.rport p with seekAt := s.uptime }
  let t := t.each [0, 1] fun s d => s.setDie d { s.die d with frameAt := s.uptime }
  t.withCruc fun c => { c with upAt := t.uptime, supAt := t.uptime, hbAt := t.uptime }

/-- A new UPD_NONCE (R532), its value free. -/
def State.newNonce (s : State) : State :=
  let r := s.takeFree
  let v := (Sys2Proof.Config.nonce r.1).toNat
  (r.2.set updBase UPD_NONCE_LO (v % 2 ^ 32)).set updBase UPD_NONCE_HI (v / 2 ^ 32)

/-- The dead-battery commissioning state (R445, R515). -/
def State.deadBattery (s : State) (vbus : Bool) : State :=
  if vbus ∧ s.get feedReg FEED_STAT_QUALIFIED = 0 then
    (s.set 0 SYS_BOOT_STAT_DEADBATT 1).set (pdBase 0) PD_PSTAT_DEAD_BATT 1
  else s

/-- Steps 3 to 7 of a boot whose HELD latch is clear (Table 19.3). A failure that enters HELD ends the boot. -/
def State.bootOn (s : State) (e : Sys2Proof.BootEnv) (aon : Bool) : State :=
  let t := (s.set 0 SYS_BOOT_STAT_STEP 3).laneTests e.fails
  let t := t.selfTests e.fails fun u => match u with | .lane _ => false | _ => true
  if t.inHeld then t
  else
    let t := (t.set 0 SYS_BOOT_STAT_STEP 4).calibLoad aon
    let t := ((t.set 0 SYS_BOOT_STAT_STEP 5).newNonce).imageChoice
    let t := (t.deadBattery e.vbus).policyEval
    ((t.set 0 SYS_BOOT_STAT_STEP 6).loadBundle true).stepSeven

/-- A boot with a cause (R504, R517): HELD stays HELD (R495). -/
def State.boot (s : State) (e : Sys2Proof.BootEnv) (cause : Nat) : State :=
  let m := s.mainReset e.cold
  if m.inHeld then (m.started 7).heldParts
  else ((m.started cause).clocksUp).bootOn e (cause == 0)

/-- POWER_ON (R502 to R504): PWRON_N rises with every supply in range. -/
def State.powerOn (s : State) (e : Sys2Proof.BootEnv) : State :=
  s.boot e (if s.sys.fresh ∨ e.cold then 0 else if s.sys.brown then 2 else 1)

/-- A dip of VDD_CORE (R503): counted, and the main die held in power-on reset. In Standby the board may have removed the
supply (R512) and the row changes nothing. -/
def State.brownout (s : State) : State :=
  if s.sys.standby then s
  else
    ((s.bump aonBase AON_BOR_CNT).set aonBase AON_RST_CAUSE_CAUSE 2).withSys fun x =>
      { x with up := false, brown := true, stby := none }

/-! ### Warm reset -/

/-- Registers that a warm reset keeps (R509, R510, and the chapters Table 19.6 names). -/
def warmKeeps (a : Nat) : Bool :=
  a == 0x40 || a == 0x44 || decide (0x100 ≤ a ∧ a < 0x140) || a == 0x210 || a == 0x214 || a == 0x1060 || a == 0x1064
    || (decide (0x10000 ≤ a ∧ a < 0x20000) && a != 0x1000C) || decide (0x20000 ≤ a ∧ a < 0x2F000)
    || decide (0x30000 ≤ a ∧ a < 0x3F000) || a == 0x2F000 || decide (0x80100 ≤ a ∧ a < 0x80200)
    || decide (0x81000 ≤ a ∧ a < 0x83000) || decide (0x400000 ≤ a ∧ a < 0x450000) || a == 0x700030 || a == 0x700034
    || (decide (0x780000 ≤ a ∧ a < 0x7C0000) && !decide (0x780004 ≤ a ∧ a ≤ 0x780008) && !decide (0x780040 ≤ a ∧ a < 0x780068))
    || decide (0x7C0000 ≤ a ∧ a < 0x7E0000)
    || (decide (0x7E0000 ≤ a ∧ a < 0x7F0000) && !decide (0x7E0020 ≤ a ∧ a ≤ 0x7E0028) && a != 0x7E0040 && a != 0x7E0044)
    || decide (0x7F0000 ≤ a)

/-- The ring island through a warm reset (R158, R509): its ports stay; ring-wide state starts again. -/
def RingBlock.kept (r : RingBlock) : RingBlock :=
  { ports := r.ports, dup := r.dup, txSeq := r.txSeq, supSeq := r.supSeq, runNo := r.runNo }

/-- An egress port of the ring through a warm reset: what it forwards and sends of its own stays; frames of contexts go. -/
def EgressPort.kept (x : EgressPort) : EgressPort :=
  let own (l : Option Line) : Option Line := l.filter fun y => match y.src with | .ctx _ _ => false | _ => true
  { x with line := own x.line, held := own x.held, tags := x.tags.filter fun p => decide (1024 ≤ p.1 % 2048) }

/-- The scheduler through a warm reset: the ring ports and their MACs stay (R184). -/
def SchedBlock.kept (x : SchedBlock) : SchedBlock :=
  { ports := Tbl.remap (fun _ => {}) EgressPort.kept (x.ports.filter fun p => decide (p.1 < 2))
    macs := x.macs.filter fun p => decide (p.1 < 2) }

/-- The Crucible through a warm reset (R34, R473): the functions stop until it resumes them, q 33 starts empty, and what the
lanes and the voter were about goes on. -/
def CrucBlock.kept (c : CrucBlock) : CrucBlock := { c with paused := true, inputs := [] }

/-- The parts of the hub that start again with their islands at a warm reset (Table 19.6). -/
def State.warmParts (s : State) : State :=
  let h := s.hostIslandReset
  { h with
    regs := h.regs.filter fun p => warmKeeps p.1
    halfs := h.halfs.filter warmKeeps
    replicas := [], sprue := [], fab := {}, cmd := { nextOrder := h.cmd.nextOrder, logFull := h.cmd.logFull }
    bridge := { salvage := h.bridge.salvage, order := h.bridge.order }
    fault := { h.fault with notices := [], keyOpen := false, forcing := none, ceLast := [], ceTimes := [] }
    islands := [], ledger := {}, pimg := {}, inbox := []
    time := { h.time with actions := [], tsq := [] }
    ringNet := h.ringNet.kept, sched := h.sched.kept
    cans := [], cruc := h.cruc.kept
    sys := { h.sys with warm := true, bootAt := h.uptime, stby := none, stbyEn := [], gated := [], waking := [], idle := []
                        waits := [], named := false, fatal := none } }

/-- Zeros written over the slots of the process image (R270). -/
def State.slotsZero (s : State) : State :=
  { s with mem := s.mem.filter fun p => decide (p.1 < s.partBase 5 ∨ s.partBase 5 + s.partSize 5 ≤ p.1) }

/-- CAN islands, Flasks and DIO banks start from their reset state; their fences end, to be set again by their tests
(R34, R509). -/
def State.warmUnits (s : State) : State :=
  let w := s.rd 0x40
  let t := s.wr 0x40 (w &&& 0x00F70000#32)
  let t := t.each (List.range s.nFlask) fun s f => s.flaskReset f false
  t.each (List.range ((s.nDio + 63) / 64)) fun s b => s.dioReset b

/-- The activation that this warm reset makes (R526); a copy that runs beside it goes on from the journal (R528). -/
def State.activated (s : State) : State :=
  if !s.upd.acting then s
  else
    let late := s.upd.late
    let t := s.evt updBase UPD_EVT 1
    let t := if late then t.evt updBase UPD_EVT 3 else t
    let t := if t.upd.copying.isSome && !t.copyGoes then
        let im := t.stagedImage
        (t.runImage 1 im).copyBegin 0
      else t
    t.withUpd fun u => { u with acting := false, late := false }

/-- A node ID in use before the warm reset is taken again (R141); a fixed one comes from RING_NODE_CFG. -/
def State.reclaimId (s : State) : State :=
  if s.fixedId then s.takeId (s.get ringWide RING_NODE_CFG_FIXED_ID)
  else if s.flag ringWide RING_NODE_CFG_LAST_VALID then s.takeId (s.get ringWide RING_NODE_CFG_LAST_ID)
  else s

/-- The cause of a warm reset (R509, R517): an activation, SYS_WARM_RESET when its moment has come, or WRST_N. -/
def State.warmCause (s : State) : Nat :=
  if s.upd.acting then Sys2Proof.Config.activationCause.toNat
  else match s.cmd.warmResetAt with
    | some t => if t ≤ s.uptime then 5 else 4
    | none => 4

/-- An activation that has not been made is cancelled by any other warm reset (Table 20.4). -/
def State.warmCancel (s : State) : State := if s.actPending ∧ !s.upd.acting then s.actEnd else s

/-- A unit that a warm reset tests (R509). -/
def warmTested : FenceUnit → Bool
  | .canIsl _ => true | .flask _ => true | .dioBank _ => true | _ => false

/-- WARM_RESET (R509): ignored during another, and without effect in HELD (R495). -/
def State.warmReset (s : State) (e : Sys2Proof.BootEnv) : State :=
  if s.sys.warm ∨ s.inHeld ∨ s.sys.standby then s
  else
    let cause := s.warmCause
    let t := (s.warmCancel).warmParts
    let t := ((t.warmUnits).usbIslandReset true).pdIslandReset true
    let t := (t.slotsZero).started cause
    let t := (t.set 0 SYS_BOOT_STAT_STEP 3).selfTests e.fails warmTested
    let t := ((t.set 0 SYS_BOOT_STAT_STEP 4).calibLoad false).reclaimId
    let t := (t.activated).policyEval
    ((t.set 0 SYS_BOOT_STAT_STEP 6).loadBundle false).stepSeven

/-! ### Power states -/

/-- Both ring ports announce a rate: 1 for 10 Gb/s (R129, R511). -/
def State.ringRate (s : State) (r : Nat) : State :=
  s.each [0, 1] fun s p => if s.ringUp p ∧ s.get (ringBase p) RING_PSTAT_RATE_NOW ≠ r then s.announceRate p r else s

/-- Every gated island wakes. -/
def State.wakeAll (s : State) : State := s.sys.gated.foldl (fun (s : State) i => s.islandAwake i) s

/-- The hub takes a power state of its own: 0 Full, 1 Economy (R511). -/
def State.powerState (s : State) (st : Nat) : State :=
  let t := (s.set 0 SYS_PWR_STATE st).ringRate st
  if st = 0 then t.wakeAll.withSys fun x => { x with idle := [] } else t

/-- Whether Economy may be entered (R26): both neighbours announced FALLBACK in their last hello. -/
def State.economyOk (s : State) : Bool :=
  [0, 1].all fun p => (s.rport p).nbFallback == some true

/-- Whether a channel counts as on for a request for Standby (R27): EN is 1, or an emergency state is in force with SAFE_ON. -/
def State.pchCountsOn (s : State) (c : Nat) : Bool :=
  s.flag (pchBase c) PCH_CTRL_EN || (s.pchEmerg c && s.flag (pchBase c) PCH_CTRL_SAFE_ON)

/-- Whether Standby may be entered (R27): no channel commanded on, no safety function armed. -/
def State.standbyOk (s : State) : Bool :=
  (List.range s.nPch).all (fun c => !s.pchCountsOn c) && [0, 1, 2].all fun i => !s.sfArmed i

/-- Whether the part has the island and its condition for gating holds (Table 19.7); islands by Table 18.2's numbers. -/
def State.gateCond (s : State) (i : Nat) : Bool :=
  if !s.islandThere i then false
  else if 4 ≤ i ∧ i ≤ 7 then
    (List.range 16).all fun k => !s.canOpen (16 * (i - 4) + k) && !(s.can (16 * (i - 4) + k)).closing
  else if 8 ≤ i ∧ i ≤ 15 then
    (List.range 8).all fun e => !(s.eng (i - 8) e).running && (s.eng (i - 8) e).armed.isNone
  else if 16 ≤ i ∧ i ≤ 18 then
    (List.range 64).all (fun k => s.lineMode (64 * (i - 16) + k) == 0)
      && (List.range 16).all fun g => !s.flag (pwmBase (i - 16) g) DIO_PWM_CTRL_EN
  else if i = 19 then s.upState == 0 || s.upState == 4
  else if i = 20 then [0, 1, 2].all fun p => !s.flag (pdBase p) PD_PCFG_EN
  else false

/-- The islands that Economy gates. -/
def gateIslands : List Nat := [4, 5, 6, 7, 8, 9, 10, 11, 12, 13, 14, 15, 16, 17, 18, 19, 20]

/-- Since when an island has met its condition is kept, as uptime + 1; an island that no longer does is awake. -/
def State.idleWatch (s : State) : State :=
  if s.get 0 SYS_PWR_STATE ≠ 1 then s
  else
    s.each gateIslands fun s i =>
      let since := Tbl.get (fun _ => 0) s.sys.idle i
      if s.gateCond i then
        (if since = 0 ∧ !s.sys.gated.contains i then
          s.withSys fun x => { x with idle := Tbl.put (fun _ => 0) x.idle i (s.uptime + 1) } else s)
      else if s.sys.gated.contains i then s.islandAwake i
      else if since ≠ 0 then s.withSys fun x => { x with idle := Tbl.put (fun _ => 0) x.idle i 0 }
      else s

/-- ISLAND_GATE (R511): an island whose condition has held for 1 ms in Economy is gated. -/
def State.islandGate (s : State) (i : Nat) : State :=
  let since := Tbl.get (fun _ => 0) s.sys.idle i
  if s.get 0 SYS_PWR_STATE = 1 ∧ gateIslands.contains i ∧ s.gateCond i ∧ !s.sys.gated.contains i ∧ since ≠ 0 ∧
      since + 1000000 ≤ s.uptime + 1 then
    s.withSys fun x => { x with gated := x.gated ++ [i], idle := Tbl.put (fun _ => 0) x.idle i 0 }
  else s

/-- ISLAND_WAKE (R511): an island that has been called is awake. -/
def State.islandWake (s : State) (i : Nat) : State := if s.sys.waking.contains i then s.islandAwake i else s

/-- A Standby entry ends in the former power state (R512, R513), and the writes of PCH_CTRL.EN it kept take effect. -/
def State.stbyCancel (s : State) : State :=
  let en := s.sys.stbyEn
  let t := (s.set 0 SYS_PWR_STATE s.sys.stbyOld).withSys fun x => { x with stby := none, stbyEn := [] }
  en.foldl (fun (s : State) c => s.pchEn c true) t

/-- Standby is entered (R512): every channel off, ring ports idle, USB detached, PD ports reset, main supplies off. -/
def State.standbyGo (s : State) : State :=
  let t := s.each (List.range s.nPch) fun s c => (s.set (pchBase c) PCH_CTRL_EN 0).pchOff c 0
  let t := t.each [0, 1] fun s p => s.portLeave p 0 3
  let t := (t.usbDetach).pdIslandReset false
  t.withSys fun x => { x with up := false, standby := true, stby := none, stbyEn := [], wokeAt := none }

/-- STANDBY_ENTRY (R512): the 10 ms are over. -/
def State.standbyEntry (s : State) : State :=
  match s.sys.stby with
  | some t => if s.uptime < t then s else if s.standbyOk then s.standbyGo else (s.set 0 SYS_PWR_STBY_CANCELLED 1).stbyCancel
  | none => s

/-- A wake source fires (R513): in Standby it is recorded and main power asked for; before the entry it cancels it. -/
def State.standbyWake (s : State) (src : Nat) : State :=
  if !bitAt (s.get aonBase AON_WAKE_EN_EN) src then s
  else if s.sys.stby.isSome ∧ s.sys.up then (s.bump aonBase AON_WAKES).stbyCancel
  else if s.sys.standby ∧ s.sys.wokeAt.isNone then
    ((s.bump aonBase AON_WAKES).set aonBase AON_WAKE_SRC_SRC (2 ^ src)).withSys fun x => { x with wokeAt := some s.uptime }
  else s

/-- WAKE_SUPPLY_READY (R513): the supplies have been in range for 1 ms after a wake. -/
def State.wakeReady (s : State) (e : Sys2Proof.BootEnv) : State :=
  match s.sys.wokeAt with
  | some t => if s.sys.standby ∧ t + 1000000 ≤ s.uptime then s.boot e 3 else s
  | none => s

/-- AON_TIME_WRITE (R514): ring time as it stands, once in each second of valid ring time. -/
def State.aonTimeWrite (s : State) : State :=
  if s.timeValid ∧ s.sys.aonSec ≠ some (s.ring / nsPerSec) then
    ((s.setAon (s.ring * 32768 / nsPerSec)).set aonBase AON_STAT_TIME_VALID 1).withSys fun x =>
      { x with aonSec := some (s.ring / nsPerSec) }
  else s

/-- What dead-battery commissioning brings as its conditions change (R515): Economy once READY, and its end when a feed
qualifies. -/
def State.deadWatch (s : State) : State :=
  if !s.flag 0 SYS_BOOT_STAT_DEADBATT then s
  else if s.get feedReg FEED_STAT_QUALIFIED ≠ 0 then
    let t := s.set 0 SYS_BOOT_STAT_DEADBATT 0
    if !s.sys.named ∧ s.get 0 SYS_PWR_STATE = 1 then t.powerState 0 else t
  else if s.get 0 SYS_BOOT_STAT_STEP = 8 ∧ !s.sys.named ∧ s.get 0 SYS_PWR_STATE = 0 ∧ s.economyOk then s.powerState 1
  else s

/-! ### Temperatures and the clock -/

/-- VDD_PE0 or VDD_PE1 comes into range (R376, R501): the die starts with its channels OFF at their reset values, and die 0
its feed selector with the reset values of the FEED block. -/
def State.supplyRise (s : State) (d : Nat) : State :=
  let x : DieUnit := { powered := true, risen := true, frameAt := s.uptime }
  let t := (s.setDie d x).resetRange (pchBase (32 * d)) (pchBase (32 * d + 32)) fun _ => false
  let t := t.each (t.dieChannels d) fun s c => s.setPch c {}
  if d = 0 then
    let u := t.resetRange 0x440000 0x450000 fun _ => false
    { u with power := { u.power with feeds := [], sel := {} } }
  else t

/-- TEMPERATURE_READING (Table 21.12's sensors): both words; a fenced power-edge die reads 0x8000; the highest main value is
kept. -/
def State.temperatures (s : State) (t0 t1 : Sys2Proof.Word) : State :=
  let main := bitsOf t0 0 16
  let most := s.get 0 SYS_TEMP0_MAIN_MAX
  let t := s.set 0 SYS_TEMP0_MAIN main
  let t := if toSigned 16 most < toSigned 16 main then t.set 0 SYS_TEMP0_MAIN_MAX main else t
  let pe (d : Nat) : Nat := if s.fenced (.pedie d) ∨ !s.unitPresent (.pedie d) then 0x8000 else bitsOf t1 (16 * d) 16
  (t.set 0 SYS_TEMP1_PE0 (pe 0)).set 0 SYS_TEMP1_PE1 (pe 1)

/-- REFCLK_LOST (R13): absent, or more than 1,000 ppm off. -/
def State.refclkLost (s : State) (offFreq : Bool) (ppm : BitVec 32) : State :=
  (s.set aonBase AON_STAT_REFCLK_OK 0).raise .refclkLost (srcIsland 22) 0
    (leBytes 1 (b2n offFreq) ++ leBytes 4 (if offFreq then ppm.toNat else 0))

/-! ### The test access port -/

/-- The port takes an instruction; one that would have the pads acts as BYPASS unless PWRON_N is low (R562). -/
def State.tapIr (s : State) (ir : Nat) : State :=
  let pads := (ir == 0 || ir == 3 || ir == 4) && !s.sys.pwron
  { s with tap := { s.tap with ir := ir, force := if pads then some ir else none } }

/-- The 32 bits of IDCODE (R561), least significant first. -/
def State.tapId (s : State) : List Bool :=
  (List.range 32).map (bitAt (match s.variant with | .axh7264 => 0x17264A5B | .axh7232 => 0x17232A5B))

/-- BYPASS: one bit of delay. -/
def State.tapBypass (s : State) (tdi : Bool) : State :=
  let t := (s.tapIr 0xFF).emit (.tdo [s.tap.bypass])
  { t with tap := { t.tap with bypass := tdi } }

/-- SAMPLE/PRELOAD (R561): the boundary register takes the pads' levels, which are shifted out as the given bits go in. -/
def State.tapSample (s : State) (v : List Bool) : State :=
  let r := s.takeFree
  let out := (List.range v.length).map (Sys2Proof.Config.padLevel r.1)
  let t := (r.2.tapIr 2).emit (.tdo out)
  { t with tap := { t.tap with boundary := v } }

end Sys2Proof.Machine
end

