-- ==== Sys2Proof/Machine/ReactOps.lean ====
section
/-! DEFINITION. Scheduled actions, ledger triggers, and the reactions that belong to the step in which their cause arises
(R235, R236, R260, Table 18.5). -/

namespace Sys2Proof.Machine

/-! ### Scheduled actions -/

/-- The first free action slot. -/
def State.freeAction (s : State) : Option Nat :=
  (List.range 64).find? fun i => (Tbl.get (fun _ => (none : Option Action)) s.time.actions i).isNone

/-- The next action ID from `n` on that no pending action holds: 1 to 65,535, past 0 (R238). -/
def nextActionId (held : List Nat) : Nat → Nat → Nat
  | 0, n => n
  | k + 1, n =>
    let n := if n = 0 ∨ 65535 < n then 1 else n
    if held.contains n then nextActionId held k (n + 1) else n

/-- An action is placed (R235); its ID, if a slot is free. One whose time has passed is due at once, late (R236). -/
def State.placeAction (s : State) (at_ period repeat_ : Nat) (validOnly : Bool) (writes : List (Nat × Nat)) :
    Option (Nat × State) :=
  match s.freeAction with
  | none => none
  | some i =>
    let id := nextActionId (s.actionList.map fun p => p.2.id) 65 s.time.nextId
    let a : Action := { id := id, at_ := at_, period := period, repeat_ := repeat_, fired := 0, validOnly := validOnly
                        writes := writes, late := decide (at_ < s.ring) }
    let t := { s with time := { s.time with nextId := id % 65535 + 1 } }
    some (id, t.setAction i (some a))

/-- What is left of an action after a firing. -/
def Action.next (a : Action) (now : Nat) : Option Action :=
  if a.period = 0 ∨ (a.repeat_ ≠ 0 ∧ a.repeat_ ≤ a.fired + 1) then none
  else
    let b := { a with fired := a.fired + 1 }
    some { b with late := a.late && decide (b.due < now) }

/-- Whether another action fires before `a`: an earlier time, or the same time and a lower ID. -/
def State.actionBefore (s : State) (a : Action) : Bool :=
  s.actionList.any fun p => decide (p.2.due < a.due) || (p.2.due == a.due && decide (p.2.id < a.id))

/-- A firing's writes and events, or its skip (R235, R236). -/
def State.actionRun (s : State) (a : Action) : State :=
  if a.validOnly ∧ !s.timeValid then
    (s.bump timeBase TIME_ACT_SKIPPED).raise .timeActSkipped (srcIsland 2) 0 (leBytes 2 a.id)
  else
    let t := if a.late then (s.bump timeBase TIME_ACT_LATE).evt timeBase TIME_EVT 8 else s
    (t.evt timeBase TIME_EVT 7).regWrites 2 a.writes

/-- ACTION_FIRE: the action with this ID is due and none comes before it. -/
def State.actionFire (s : State) (id : Nat) : State :=
  match s.actionList.find? fun p => p.2.id == id with
  | none => s
  | some (i, a) => if s.ring < a.due ∨ s.actionBefore a then s else (s.setAction i (a.next s.ring)).actionRun a

/-! ### Triggers -/

/-- Base of trigger `t` (Table 9.13). -/
def trigBase (t : Nat) : Nat := ledgerBase + 0x3000 + 0x80 * t

/-- Whether trigger `t` is armed and matches a released record (R260). -/
def State.trigMatch (s : State) (t : Nat) (r : LRec) : Bool :=
  let b := trigBase t
  let node := s.get b TRIG_MATCH0_NODE
  let type := s.get b TRIG_MATCH0_TYPE
  let unit := s.get b TRIG_MATCH0_UNIT
  let mask := s.get b TRIG_MATCH1_MASK
  s.flag b TRIG_MATCH1_EN && (node == 0 || node == r.node) && (type == 0 || type == r.type) && (unit == 0xFFFF || unit == r.unit)
    && (leAt r.data (s.get b TRIG_MATCH1_BYTE) 1 &&& mask) == (s.get b TRIG_MATCH1_VALUE &&& mask)

/-- The register writes of trigger `t`. -/
def State.trigWrites (s : State) (t : Nat) : List (Nat × Nat) :=
  (List.range (clampNat 1 8 (s.get (trigBase t) TRIG_N_N))).map fun k =>
    (((s.rd (trigBase t + 0x10 + 8 * k)).toNat), (s.rd (trigBase t + 0x14 + 8 * k)).toNat)

/-- A report at most once per second: whether one is due. -/
def State.reportDue (s : State) (last : Option Nat) : Bool :=
  match last with | some t => decide (t + nsPerSec ≤ s.uptime) | none => true

/-- A trigger's moment has already passed: its writes take effect at once (R260). -/
def State.trigLate (s : State) (t : Nat) : State :=
  let u := (s.bump ledgerBase LEDGER_TRIG_LATE).regWrites 2 (s.trigWrites t)
  if s.reportDue s.ledger.lateAt then
    ({ u with ledger := { u.ledger with lateAt := some s.uptime } }).raise .ledgerTrigLate (srcIsland 1) 0 (leBytes 1 t)
  else u

/-- A trigger finds every action slot in use (R260). -/
def State.trigMiss (s : State) (t : Nat) : State :=
  let u := s.bump ledgerBase LEDGER_TRIG_MISS
  if s.reportDue s.ledger.missAt then
    ({ u with ledger := { u.ledger with missAt := some s.uptime } }).raise .ledgerTrigMiss (srcIsland 1) 0 (leBytes 1 t)
  else u

/-- Trigger `t` fires on a record (R260). -/
def State.trigFire (s : State) (t : Nat) (r : LRec) : State :=
  let at_ := r.stamp + s.get (trigBase t) TRIG_DELAY_NS
  if at_ ≤ s.ring then s.trigLate t
  else
    match s.placeAction at_ 0 0 true (s.trigWrites t) with
    | some x => x.2.bump ledgerBase LEDGER_TRIG_FIRED
    | none => s.trigMiss t

/-- The triggers are judged on the next record released. -/
def State.trigNext (s : State) : State :=
  match s.ledger.trigs with
  | [] => s
  | r :: rest =>
    let t := { s with ledger := { s.ledger with trigs := rest } }
    (List.range 32).foldl (fun (s : State) k => if s.trigMatch k r then s.trigFire k r else s) t

/-! ### Slots written -/

/-- The consumer of the next slot written is told: a CAN transmit map submits its buffer (R330). -/
def State.dirtyNext (s : State) : State :=
  match s.pimg.dirty with
  | [] => s
  | n :: rest =>
    let t := { s with pimg := { s.pimg with dirty := rest } }
    let m := t.slotMap n
    if m.ckind = 2 then t.txMapWritten m.cindex m.csub n else t

/-! ### A step of the counter -/

/-- Time-triggered CAN buffers whose instant a step passed over go late (R236, R320). -/
def State.stepCan (s : State) (before n : Nat) : State :=
  if !s.canOpen n then s
  else
    s.each (List.range 32) fun s b =>
      if s.txbState n b = 1 ∧ before < s.txbAt n b ∧ s.txbAt n b < s.ring then s.set (txbBase n b) CAN_TXB_STAT_TT_LATE 1 else s

/-- Scheduled output entries whose time a step passed over go late; the generators start again (R236, R365, R367). -/
def State.stepBank (s : State) (before b : Nat) : State :=
  let mark (e : DioEntry) : DioEntry := { e with late := e.late || (decide (before < e.at_) && decide (e.at_ < s.ring)) }
  let t := s.setBank b { s.bank b with sched := (s.bank b).sched.map mark }
  t.each (List.range 16) fun s g => if s.flag (pwmBase b g) DIO_PWM_CTRL_EN then s.genStep b g else s

/-- What a step of the counter brings in the units (R236). -/
def State.stepUnits (s : State) (before : Nat) : State :=
  let t := s.each (List.range s.nCan) fun s n => s.stepCan before n
  let t := (t.each (List.range ((s.nDio + 63) / 64)) fun s b => s.stepBank before b).actWatch
  { t with time := { t.time with stepFrom := none } }

/-! ### Settling -/

/-- Nothing waits for a reaction in this step. -/
def State.calm (s : State) : Bool :=
  s.fault.react.isEmpty && s.ledger.trigs.isEmpty && s.pimg.dirty.isEmpty && s.time.stepFrom.isNone

/-- One reaction: to a step of the counter, a fault, a released record, or a slot written. -/
def State.settleOne (s : State) : State :=
  match s.time.stepFrom with
  | some before => s.stepUnits before
  | none =>
    if !s.fault.react.isEmpty then s.reactNext
    else if !s.ledger.trigs.isEmpty then s.trigNext
    else s.dirtyNext

/-- At most `n` reactions. -/
def State.settleFor : Nat → State → State
  | 0, s => s
  | n + 1, s => if s.calm then s else (s.settleOne).settleFor n

/-- Reactions until nothing waits; what a step leaves, the next takes up. -/
def State.settle (s : State) : State := s.settleFor 100000

/-! ### Outcomes -/

/-- What stands after a command that leaves `t`: the register file and the shared store in canonical form; the queue of
waiting commands, the variant and the time are no command's to change; and the HELD latch, once set, stays (R495). -/
def State.after (s t : State) : State :=
  let u := if t.sys.up then t.settle else t
  { u with variant := s.variant, pending := s.pending, uptime := s.uptime, regs := Tbl.tidy regReset u.regs
           mem := Tbl.tidy (fun _ => 0#8) u.mem, fault := { u.fault with held := s.fault.held || u.fault.held } }

/-- A command's outcome: its effect and the reactions to it, when the main die runs; otherwise nothing happens. -/
def State.run (s : State) (f : State → State) : Host.Outcome State Fault Refusal :=
  .next (s.after (if s.sys.up then f s else s))

/-- The outcome of a command that does not need the main die: AON, supplies, power-edge dies and the test access port. -/
def State.runAon (s : State) (f : State → State) : Host.Outcome State Fault Refusal := .next (s.after (f s))

/-- The outcome of a start after the loss of every supply, VAON included: the one thing that clears HELD (R495). -/
def State.runCold (s : State) (f : State → State) : Host.Outcome State Fault Refusal :=
  .next (({ s with fault := {} } : State).after (f s))

end Sys2Proof.Machine
end

