-- ==== Sys2Proof/Machine/LedgerRx.lean ====
section
/-! DEFINITION. Ledger and image frames as they arrive, watermark frames and image publication (R246 to R250, R265). -/

namespace Sys2Proof.Machine

/-- The node a ledger frame's destination names (R246). -/
def ledgerNode (f : List Byte) : Option Nat :=
  if beAt f 0 5 = 0x03A5C00001 then some (beAt f 5 1) else none

/-- The body of a ledger or image frame, behind a VLAN tag if there is one; none for another EtherType. -/
def State.ledgerBody (s : State) (f : List Byte) : Option (List Byte) :=
  let k := if hasVlan f then 16 else 12
  if beAt f k 2 = s.get ledgerBase LEDGER_ETYPE_ETYPE then some (f.drop (k + 2)) else none

/-- Records of a body. -/
def bodyRecs (b : List Byte) : List LRec := (List.range (leAt b 2 1)).map fun k => recOf (b.drop (16 + 32 * k))

/-- Whether a body is well formed (R247): version, kind, reserved bits, length. -/
def bodyOk (b : List Byte) : Bool :=
  let kind := leAt b 0 1 % 16
  let n := leAt b 2 1
  let w := leAt b 3 1
  decide (16 ≤ b.length) && leAt b 0 1 / 16 == 1 && decide (kind ≤ 1) && decide (leAt b 4 1 < 4)
    && (if kind = 1 then decide (16 + 68 * n ≤ b.length) && w == 0
          && (List.range n).all fun k => leAt b (16 + 68 * k + 2) 2 == 0 && decide (leAt b (16 + 68 * k + 67) 1 < 16)
        else decide (16 + 32 * n + 12 * w ≤ b.length)
          && (bodyRecs b).all (fun r => decide (r.flags < 32))
          && (List.range w).all fun k => leAt b (16 + 32 * n + 12 * k + 1) 3 == 0)

/-- The subscription a record or watermark of a node's source belongs to. -/
def State.subFor (s : State) (node source : Nat) : Option Nat := s.findSub node source false

/-- A frame's EPOCH is compared for the subscriptions of its node (R255): the first SSEQ of a source in the frame. -/
def State.frameEpoch (s : State) (node epoch : Nat) (rs : List LRec) (wms : List (Nat × Nat × Nat)) : State :=
  s.subsInUse.foldl (fun (s : State) i =>
    if s.subLocal i ∨ s.get (subBase i) SUB_CFG_NODE ≠ node ∨ (s.sub i).epoch = epoch then s
    else
      let src := s.get (subBase i) SUB_CFG_SOURCE
      match rs.find? (fun r => r.source == src), wms.find? (fun w => w.1 == src) with
      | some r, _ => s.epochRestart i epoch r.sseq r.stamp
      | none, some w => s.epochRestart i epoch (nextSseq w.2.2) w.2.1
      | none, none => s) s

/-- A ledger frame's records and watermarks are taken (R247 to R250). -/
def State.takeLedger (s : State) (b : List Byte) : State :=
  let node := leAt b 1 1
  let n := leAt b 2 1
  let base := stampOf (b.drop 6)
  let rs := (bodyRecs b).map fun r => { r with flags := setBit r.flags 4 (bitAt (leAt b 4 1) 0) }
  let wms := (List.range (leAt b 3 1)).map fun k =>
    let e := b.drop (16 + 32 * n + 12 * k)
    (leAt e 0 1, base - leAt e 4 4, leAt e 8 4)
  let t := s.frameEpoch node (leAt b 5 1) rs wms
  let t := rs.foldl (fun (s : State) r =>
    match s.subFor node r.source with
    | some i => (s.remoteRec i r).settleWm i
    | none => s) t
  wms.foldl (fun (s : State) w =>
    match s.subFor node w.1 with
    | some i => s.remoteWm i w.2.1 w.2.2
    | none => s) t

/-- An image frame's entries reach the mirrors of their slots (R265). -/
def State.takeImage (s : State) (b : List Byte) : State :=
  let node := leAt b 1 1
  (List.range (leAt b 2 1)).foldl (fun (s : State) k =>
    let e := b.drop (16 + 68 * k)
    (s.slotsWhere fun m => m.wkind == 7 && m.rnode == node && m.windex == leAt e 0 2).foldl
      (fun (s : State) i => s.mirrorTake i ((e.drop 4).take 64)) s) s

/-- Whether the ledger engine takes frames that name a node: a subscription or a mirror names it (R246). -/
def State.ledgerTakes (s : State) (node : Nat) : Bool :=
  s.subsInUse.any (fun i => !s.subLocal i && s.get (subBase i) SUB_CFG_NODE == node)
    || !(s.slotsWhere fun m => m.wkind == 7 && m.rnode == node).isEmpty

/-- A ledger or image frame delivered to the engine (R246, R247), its bytes from the destination address on, without HSR
tag and check value: `image` says which kind the row is for. -/
def State.ledgerRx (s : State) (f : List Byte) (image : Bool) : State :=
  match ledgerNode f, s.ledgerBody f with
  | some node, some b =>
    if !s.ledgerTakes node then s
    else if !bodyOk b then s.bump ledgerBase LEDGER_BAD_FRAME
    else if image ∧ leAt b 0 1 % 16 = 1 then s.takeImage b
    else if !image ∧ leAt b 0 1 % 16 = 0 ∧ s.flag ledgerBase LEDGER_CTRL_EN then s.takeLedger b
    else s
  | _, _ => s

/-- WATERMARK_FRAME_SEND (R247): no frame of an Ordered context has left for WM_INT_US. -/
def State.watermarkSend (s : State) (c : Nat) : State :=
  let last := Tbl.get (fun _ => 0) s.ledger.sentAt c
  let gap := 1000 * clampNat 1 10 (s.get ledgerBase LEDGER_CFG_WM_INT_US)
  if s.flag ledgerBase LEDGER_CTRL_EN ∧ !(s.pubSources c).isEmpty ∧ !s.flag (ctxBase c) CTX_CTRL_FAST ∧ last + gap ≤ s.uptime + 1 then
    s.publish c []
  else s

/-- The slots that context `c` publishes at this instant of ring time (R265), in slot order. -/
def State.pubSlots (s : State) (c : Nat) : List Nat :=
  s.slotsWhere fun m => m.ckind == 1 && m.cindex == c && decide (0 < m.periodUs) && s.ring % (1000 * m.periodUs) < 2

/-- An image frame of a context with up to 21 slots (R265). -/
def State.imageFrame (s : State) (c : Nat) (slots : List Nat) : State :=
  let r := slots.foldl (fun (acc : List Byte × State) n =>
    let x := acc.2.slotTake n
    (acc.1 ++ leBytes 2 n ++ leBytes 2 0 ++ x.1, x.2.bump pimgBase PIMG_PUB_TX)) ([], s)
  let fast := s.flag (ctxBase c) CTX_CTRL_FAST
  let body := leBytes 1 0x11 ++ leBytes 1 s.nodeId ++ leBytes 1 slots.length ++ leBytes 1 0
    ++ leBytes 1 (b2n fast + 2 * b2n (!s.timeValid)) ++ leBytes 1 s.epoch ++ stampBytes s.storeNow ++ r.1
  let frame := ledgerHead s.nodeId (s.get ledgerBase LEDGER_ETYPE_ETYPE) ++ body
  r.2.pushDescr c { bytes := some frame, addr := 0, len := frame.length, yellow := false }

/-- Groups of 21. -/
def groups21 : Nat → List Nat → List (List Nat)
  | 0, _ => []
  | n + 1, l => if l.isEmpty then [] else l.take 21 :: groups21 n (l.drop 21)

/-- PIMG_PUBLISH (R265): the slots of a context whose instant this is. -/
def State.pimgPublish (s : State) (c : Nat) : State :=
  if !s.flag pimgBase PIMG_CTRL_EN then s
  else
    let l := s.pubSlots c
    (groups21 (l.length + 1) l).foldl (fun (s : State) g => s.imageFrame c g) s

/-- Whether a descriptor is an image frame of this hub. -/
def State.isImageFrame (s : State) (d : Descr) : Bool :=
  match d.bytes with
  | some f => (match s.ledgerBody f with | some b => leAt b 0 1 == 0x11 | none => false) && (ledgerNode f).isSome
  | none => false

/-- A context judges its next descriptor (R191); an image frame it refuses is counted (R265). -/
def State.judgeDescr (s : State) (c : Nat) : State :=
  let t := s.judgeNext c
  match s.waitingDescr c with
  | d :: _ =>
    if s.isImageFrame d ∧ t.get (ctxBase c) CTX_ENQ_REFUSED ≠ s.get (ctxBase c) CTX_ENQ_REFUSED then t.bump pimgBase PIMG_PUB_REFUSED
    else t
  | [] => t

end Sys2Proof.Machine
end

