-- ==== Sys2Proof/Machine/SpaceOps.lean ====
section
/-! DEFINITION. Reads, writes and compare-and-swap in the spaces of this hub (Table 2.3, R46 to R48, R54, R55, R69, R70,
R262, R283, R284). -/

namespace Sys2Proof.Machine

/-! ### Read-sensitive addresses -/

/-- Whether two ranges meet. -/
def rangesMeet (a n b m : Nat) : Bool := decide (a < b + m) && decide (b < a + n)

/-- Whether a range of a space meets an enabled user window (R284). -/
def State.inWindowU (s : State) (space off len : Nat) : Bool :=
  (List.range 8).any fun k =>
    let b := 0x601500 + 0x10 * k
    s.flag b BRIDGE_UWIN_CFG_EN && s.get b BRIDGE_UWIN_CFG_SPACE == space
      && rangesMeet off len (s.get b BRIDGE_UWIN_OFS_OFFSET) (s.get b BRIDGE_UWIN_SIZE_BYTES)

/-- Whether a range of register space covers a byte of a pop word (R283). -/
def coversPop (off len : Nat) : Bool :=
  (List.range ((off + len + 3) / 4 - off / 4)).any fun i => popWord (4 * (off / 4 + i))

/-- Whether a read covers a read-sensitive address of this hub (R283). -/
def State.sensitive (s : State) (space off len : Nat) : Bool :=
  (space == 0 && coversPop off len) || s.inWindowU space off len

/-! ### Shapes -/

/-- Whether an access to register space has a legal shape (Table 2.3). -/
def regShape (off len : Nat) : Bool :=
  off % 4 == 0 && len % 4 == 0 && decide (4 ≤ len) && decide (len ≤ 256) && decide (off % 4096 + len ≤ 4096)

/-- Whether an access to register space covers a mailbox window (Table 4.12). -/
def coversMail (off len : Nat) : Bool := rangesMeet off len 0x8000 0x2000

/-! ### Reading -/

/-- Whether a range of the store meets the stream context table (R185). -/
def State.meetsCtxTable (s : State) (off len : Nat) : Bool :=
  rangesMeet off len (s.partBase 1) (min 65536 (s.partSize 1))

/-- A byte of the store: in partition 1 the context records stand, which the STREAM window shows (R185). -/
def State.storeByte (s : State) (a : Nat) : Byte :=
  let o := a - s.partBase 1
  if s.meetsCtxTable a 1 then BitVec.ofNat 8 (bitsOf (s.rd (0x90000 + 4 * (o / 4))) (8 * (o % 4)) 8) else s.byteAt a

/-- The bytes of a range of the store, context records among them. -/
def State.storeBytes (s : State) (off len : Nat) : List Byte :=
  if s.meetsCtxTable off len then (List.range len).map fun i => s.storeByte (off + i) else s.load off len

/-- A read of the shared store (R70): single-bit errors corrected and counted, an uncorrectable one reported. -/
def State.storeRead (s : State) (off len : Nat) : Nat × List Byte × State :=
  match s.firstUe off len with
  | some w =>
    let t := s.raise .storeUe srcHub (fabAddr s.nodeId 1 (8 * w)) (leBytes 1 (bankOf (8 * w)))
    (stDataError, [], t.storeLost w)
  | none => let t := s.correct off len; (stOk, t.storeBytes off len, t)

/-- A READ in a space of this hub: status, data, and what it leaves (Table 2.3); `ring` when it came from a ring port. -/
def State.spaceRead (s : State) (init space off len : Nat) (ring : Bool) : Nat × List Byte × State :=
  if len = 0 then (stBadAlign, [], s)
  else if 4 < space then (stBadSpace, [], s)
  else if space = 0 then
    if !regShape off len then (stBadAlign, [], s)
    else if ring ∧ (s.sensitive 0 off len ∨ coversMail off len) then (stNotPermitted, [], s)
    else
      let r := s.regReads init off (len / 4)
      if r.1 = stNotPermitted then (r.1, [], r.2.2) else r
  else if space = 1 then
    if s.get 0x600000 FAB_MAXPAY_BYTES < len then (stTooLong, [], s)
    else if 2 ^ 26 < off + len then (stUnmapped, [], s)
    else if ring ∧ s.sensitive 1 off len then (stNotPermitted, [], s)
    else s.storeRead off len
  else if space = 2 then
    if off % 64 ≠ 0 ∨ len % 64 ≠ 0 then (stBadAlign, [], s)
    else if 64 * s.slotCount < off + len then (stUnmapped, [], s)
    else if ring ∧ s.sensitive 2 off len then (stNotPermitted, [], s)
    else s.storeRead (s.partBase 5 + off) len
  else if space = 3 then
    if off % 8 ≠ 0 ∨ len % 8 ≠ 0 then (stBadAlign, [], s)
    else if s.partSize 4 < off + len then (stUnmapped, [], s)
    else if ring ∧ s.sensitive 3 off len then (stNotPermitted, [], s)
    else s.storeRead (s.partBase 4 + off) len
  else (stNotPermitted, [], s)

/-! ### Writing -/

/-- Words of a list of bytes with the offsets they go to. -/
def wordsAt (off : Nat) (bs : List Byte) : List (Nat × Nat) :=
  (List.range (bs.length / 4)).map fun i => (off + 4 * i, leAt bs (4 * i) 4)

/-- A host write of slot `n` (R262): VALUE and LEN of the image written. -/
def State.hostSlot (s : State) (n : Nat) (img : List Byte) : State :=
  let len := min 48 (leAt img 62 1)
  s.slotWrite n (img.take 48) len s.storeNow (s.suspectAt 1) false

/-- A WRITE of process-image slots (R262): each slot whose writer is the host is written; the first left unwritten is
reported. -/
def State.imageWrite (s : State) (src init off : Nat) (bs : List Byte) : State :=
  let ns := (List.range (bs.length / 64)).map fun i => (off / 64 + i, i)
  let may (n : Nat) : Bool := (s.slotMap n).wkind == 1 && s.flag pimgBase PIMG_CTRL_EN
  let t := ns.foldl (fun (s : State) p => if may p.1 then s.hostSlot p.1 ((bs.drop (64 * p.2)).take 64) else s) s
  match ns.find? fun p => !may p.1 with
  | some p => t.writeRefused src init (fabAddr s.nodeId 2 (64 * p.1)) stNotPermitted
  | none => t

/-- The status with which a WRITE is refused before it takes effect, 0 when it is not (Table 2.3). -/
def State.writeStatus (s : State) (space off len : Nat) (ring : Bool) : Nat :=
  if len = 0 then stBadAlign
  else if 4 < space then stBadSpace
  else if space = 0 then
    if !regShape off len then stBadAlign else if ring ∧ coversMail off len then stNotPermitted else stOk
  else if space = 1 then
    if s.get 0x600000 FAB_MAXPAY_BYTES < len then stTooLong
    else if 2 ^ 26 < off + len then stUnmapped else if !s.inHost off len then stNotPermitted else stOk
  else if space = 2 then
    if off % 64 ≠ 0 ∨ len % 64 ≠ 0 then stBadAlign else if 64 * s.slotCount < off + len then stUnmapped else stOk
  else stNotPermitted

/-- A WRITE in a space of this hub (R54): `src` the node it came from, `ring` when it came from a ring port. -/
def State.spaceWrite (s : State) (src init space off : Nat) (bs : List Byte) (ring : Bool) : State :=
  let st := s.writeStatus space off bs.length ring
  if st ≠ stOk then s.writeRefused src init (fabAddr s.nodeId space off) st
  else if space = 0 then s.regWrites init (wordsAt off bs)
  else if space = 1 then s.store off bs
  else s.imageWrite src init off bs

/-! ### Compare and swap -/

/-- A CAS in a space of this hub (R46, R55, R69, R70): `cas` the compare value, then the swap value. -/
def State.spaceCas (s : State) (space off : Nat) (cas : List Byte) : Nat × List Byte × State :=
  let n := cas.length / 2
  if 4 < space then (stBadSpace, [], s)
  else if space ≠ 1 then (stNotPermitted, [], s)
  else if (n ≠ 4 ∧ n ≠ 8) ∨ cas.length % 2 = 1 ∨ off % n ≠ 0 then (stBadAlign, [], s)
  else if 2 ^ 26 < off + n then (stUnmapped, [], s)
  else if !s.inHost off n ∨ s.sensitive 1 off n then (stNotPermitted, [], s)
  else
    let r := s.storeRead off n
    if r.1 ≠ stOk then r
    else if r.2.1 = cas.take n then (stOk, r.2.1, r.2.2.store off (cas.drop n))
    else r

end Sys2Proof.Machine
end

