-- ==== Sys2Proof/Machine/FabricRx.lean ====
section
/-! DEFINITION. Fabric frames as they arrive from the ring and from hosts on local ports (R42 to R68, R271, R272, R285). -/

namespace Sys2Proof.Machine

/-- A fabric frame's header and payload (Table 2.5). -/
structure FabHead where
  type    : Nat
  status  : Nat
  len     : Nat
  tid     : Nat
  src     : Nat
  init    : Nat
  addr    : Nat
  seq     : Nat
  payload : List Byte
  deriving DecidableEq, Repr

/-- The header of the bytes behind the EtherType; the payload without padding. -/
def fabHead (bs : List Byte) : FabHead :=
  let type := leAt bs 0 1 % 16
  let len := leAt bs 2 2
  { type := type, status := leAt bs 1 1, len := len, tid := leAt bs 4 2, src := leAt bs 6 1, init := leAt bs 7 1
    addr := leAt bs 8 6, seq := leAt bs 14 2, payload := (bs.drop 16).take (if type = 2 then 0 else len) }

/-- Whether a frame is malformed (R52, R53): version, type, reserved bits, payload shorter than LENGTH, or bytes beyond
header and payload in a frame longer than 64 bytes, the HSR tag of a ring frame counted (R160). -/
def fabBad (ring : Bool) (bs : List Byte) : Bool :=
  let h := fabHead bs
  let need := if h.type = 2 then 0 else h.len
  decide (bs.length < 16) || leAt bs 0 1 / 16 != 1 || h.type == 0 || decide (5 < h.type) || decide (4096 ≤ h.tid)
    || decide (16 ≤ h.init) || decide (bs.length < 16 + need) || (decide (64 < (if ring then 24 else 18) + bs.length) && decide (16 + need < bs.length))
    || (h.type == 4 && (decide (h.len < 16) || decide (4096 < h.len)))

/-- Whether the node a ring frame names is malformed for this hub: a request names this hub or, for WRITE and MESSAGE,
every hub (R42, R52). -/
def State.fabNodeBad (s : State) (h : FabHead) : Bool :=
  let n := nodeOf h.addr
  if h.type = 3 then n == 0 else !(n == s.nodeId || (n == 255 && (h.type == 1 || h.type == 4)))

/-! ### Answers -/

/-- A RESP to a peer hub (R50, R55); one that would not fit the ring ports becomes TOO_LONG (R53). -/
def State.respond (s : State) (h : FabHead) (st : Nat) (data : List Byte) : State :=
  if s.fitsRing data.length then s.sendFab h.src 3 st data.length h.tid h.init h.addr data
  else s.sendFab h.src 3 stTooLong 0 h.tid h.init h.addr []

/-- Whether the link of local port `p` is up (R180). -/
def State.lmacUp (s : State) (p : Nat) : Bool := s.flag (macBase (p + 2)) MAC_MSTAT_LINK

/-! ### Service -/

/-- A request of a peer hub is served from this hub's own targets (R54, R55, R57, R272). -/
def State.serveRing (s : State) (h : FabHead) : State :=
  let space := spaceOf h.addr
  let off := offsetOf h.addr
  if h.type = 1 then
    if s.maxPay < h.len then s.writeRefused h.src h.init (fabAddr s.nodeId space off) stTooLong
    else s.spaceWrite h.src h.init space off h.payload true
  else if h.type = 2 then
    if s.maxPay < h.len ∨ !s.fitsRing h.len then s.respond h stTooLong []
    else let r := s.spaceRead h.init space off h.len true; r.2.2.respond h r.1 r.2.1
  else if h.type = 5 then let r := s.spaceCas space off h.payload; r.2.2.respond h r.1 r.2.1
  else if space = 4 ∧ off = 0 then s.messageIn h.src h.init h.addr h.payload
  else s

/-- A RESP meets its transaction slot (R60): slot in use, generation, node and address must match. -/
def State.respRx (s : State) (h : FabHead) : State :=
  let i := h.tid % 256
  let x := s.slot i
  if s.answersSlot i h.tid h.src h.addr then
    (s.setSlot i { x with inUse := false }).clientDone x.client x.init x.addr h.status h.payload
  else s.bump fabBase FAB_STALE_RESP

/-- A frame in its turn takes effect (R63). -/
def State.fabDeliver (s : State) (f : FabRx) : State :=
  let h := fabHead f.bytes
  let t := s.bump fabBase FAB_RX_FRAMES
  if h.type = 3 then t.respRx h else t.serveRing h

/-! ### Order -/

/-- The counter a frame's SEQ belongs to: its source, broadcasts apart (R63, R66). -/
def fabKey (h : FabHead) : Nat := if h.type ≠ 3 ∧ nodeOf h.addr = 255 then 256 + h.src else h.src

/-- The SEQ expected for a key, 65536 while none is known. -/
def State.expected (s : State) (k : Nat) : Nat := Tbl.get (fun _ => 65536) s.fab.rxSeq k
/-- The SEQ expected next. -/
def State.setExpected (s : State) (k n : Nat) : State :=
  { s with fab := { s.fab with rxSeq := Tbl.put (fun _ => 65536) s.fab.rxSeq k n } }

/-- The key of a held frame. -/
def HeldFrame.key (h : HeldFrame) : Nat := if h.bcast then 256 + h.src else h.src

/-- Held frames that now follow in order are delivered (R63). -/
def State.fabFollow : Nat → Nat → State → State
  | 0, _, s => s
  | n + 1, k, s =>
    match s.fab.held.find? fun x => x.key == k && x.seq == s.expected k with
    | none => s
    | some x =>
      let t := { s with fab := { s.fab with held := s.fab.held.filter (· != x) } }
      State.fabFollow n k ((t.setExpected k ((x.seq + 1) % 65536)).fabDeliver x.rx)

/-- The held frame of a key that comes first from an expected SEQ on. -/
def State.firstHeldFab (s : State) (k : Nat) : Option HeldFrame :=
  let e := s.expected k
  (s.fab.held.filter fun x => x.key == k).foldl (fun best x =>
    match best with
    | none => some x
    | some b => if (x.seq + 65536 - e) % 65536 < (b.seq + 65536 - e) % 65536 then some x else some b) none

/-- Missing SEQ values before the first held frame of a key are declared lost, and what then follows is delivered (R64). -/
def State.fabLose (s : State) (k : Nat) : State :=
  match s.firstHeldFab k with
  | none => s
  | some x =>
    let e := s.expected k
    let n := (x.seq + 65536 - e) % 65536
    let t := s.bumpBy fabBase FAB_SEQ_GAP n
    let t := t.raise .fabSeqGap srcHub 0 (leBytes 1 x.src ++ leBytes 1 0 ++ leBytes 2 e ++ leBytes 2 n)
    (t.setExpected k x.seq).fabFollow 64 k

/-- Gaps of a key are declared lost until a held frame is out. -/
def State.fabLoseTo : Nat → HeldFrame → State → State
  | 0, _, s => s
  | n + 1, x, s => if s.fab.held.contains x then State.fabLoseTo n x (s.fabLose x.key) else s

/-- The frame held longest. -/
def State.oldestHeld (s : State) : Option HeldFrame :=
  s.fab.held.foldl (fun best x =>
    match best with
    | none => some x
    | some b => if x.heldAt < b.heldAt then some x else some b) none

/-- FAB_REORDER_EXPIRE (R64). DESIGN CHOICE (log entry 131): a HOLD of 0 acts as 1, and 1,001 to 1,023 count as written: the
rules give only the range. -/
def State.reorderExpire (s : State) : State :=
  match s.oldestHeld with
  | some x => if x.heldAt + 1000 * max 1 (s.get fabBase FAB_REORDER_HOLD) ≤ s.uptime then s.fabLoseTo 64 x else s
  | none => s

/-- A frame of a peer by its SEQ (R63, R64): delivered, held, or behind. -/
def State.fabSeq (s : State) (f : FabRx) : State :=
  let h := fabHead f.bytes
  let k := fabKey h
  let room (s : State) : State :=
    if 64 ≤ s.fab.held.length then (match s.oldestHeld with | some x => s.fabLoseTo 64 x | none => s) else s
  let place (s : State) : State :=
    let e := s.expected k
    let d := (h.seq + 65536 - e) % 65536
    if e = 65536 ∨ d = 0 then ((s.setExpected k ((h.seq + 1) % 65536)).fabDeliver f).fabFollow 64 k
    else if 32768 ≤ d ∨ s.fab.held.any (fun x => x.key == k && x.seq == h.seq) then s.bump fabBase FAB_SEQ_LATE
    else
      let x : HeldFrame := { src := h.src, bcast := decide (256 ≤ k), seq := h.seq, heldAt := s.uptime, rx := f }
      { s with fab := { s.fab with held := s.fab.held ++ [x] } }
  let e := s.expected k
  let ahead := e ≠ 65536 ∧ h.seq ≠ e ∧ (h.seq + 65536 - e) % 65536 < 32768
  place (if ahead then room s else s)

/-! ### Hosts on local ports -/

/-- Whether an address is served by this hub for a local initiator (R42, R43). -/
def State.isLocal (s : State) (a : Nat) : Bool :=
  nodeOf a == 0 || (nodeOf a == s.nodeId && s.hasNode && !s.flag fabBase FAB_CTRL_SELF_RING)

/-- A WRITE of a local initiator, local or not (R43, R54, R62, R67). -/
def State.localWrite (s : State) (init a : Nat) (bs : List Byte) : State :=
  if s.isLocal a then s.spaceWrite s.nodeId init (spaceOf a) (offsetOf a) bs false
  else
    let r := s.postRemote 1 init a bs
    if r.1 ≠ stOk then s.writeRefused s.nodeId init a r.1
    else if nodeOf a = 255 ∧ s.flag fabBase FAB_CTRL_BCAST_SELF then r.2.spaceWrite s.nodeId init (spaceOf a) (offsetOf a) bs false
    else r.2

/-- A local READ of the host on port `p` (R285, R287): Salvage slots answer first; a read-sensitive address needs a
reservation, and its data stays in the slot when the port's link is down. -/
def State.lmacRead (s : State) (p : Nat) (h : FabHead) : State :=
  let init := 4 + p
  let answer (t : State) (st : Nat) (data : List Byte) : State := t.sendHostResp p st data.length h.tid h.init h.addr data
  match s.salvFor init h.addr h.len with
  | some k =>
    let x := s.salv k
    if s.lmacUp p then answer (s.salvDrop k) x.code (x.answer h.addr h.len) else s
  | none =>
    if !s.sensitive (spaceOf h.addr) (offsetOf h.addr) h.len then
      let r := s.spaceRead init (spaceOf h.addr) (offsetOf h.addr) h.len false
      answer r.2.2 r.1 r.2.1
    else
      match s.salvFree with
      | none => s.bump bridgeBase BRIDGE_SALVAGE_WAIT
      | some k =>
        let r := s.spaceRead init (spaceOf h.addr) (offsetOf h.addr) h.len false
        if s.lmacUp p then answer r.2.2 r.1 r.2.1 else r.2.2.salvHold k init h.addr h.len r.1 r.2.1

/-- A MESSAGE of a host on a local port for another node (R107): it goes on under this hub's node ID; one to every node is
run here too with BCAST_SELF = 1 (R67, R109). -/
def State.hostMessage (s : State) (init node : Nat) (bs : List Byte) : State :=
  let r := s.sendMessage node init bs
  if r.1 ≠ stOk then s
  else
    let t := r.2.noteSent node init bs
    if node = 255 ∧ s.flag fabBase FAB_CTRL_BCAST_SELF then t.commandIn s.nodeId init bs else t

/-- A request of the host on local port `p` (R44, R271, R272). -/
def State.serveHost (s : State) (p : Nat) (h : FabHead) : State :=
  let init := 4 + p
  let answer (t : State) (st : Nat) (data : List Byte) : State := t.sendHostResp p st data.length h.tid h.init h.addr data
  if h.type = 1 then
    if s.maxPay < h.len then s.writeRefused s.nodeId init h.addr stTooLong else s.localWrite init h.addr h.payload
  else if h.type = 2 then
    if s.maxPay < h.len then answer s stTooLong []
    else if s.isLocal h.addr then s.lmacRead p h
    else s.requestRemote { client := .lmac p h.tid, init := init, addr := h.addr, len := h.len, cas := [] }
  else if h.type = 5 then
    if s.isLocal h.addr then
      let r := s.spaceCas (spaceOf h.addr) (offsetOf h.addr) h.payload
      answer r.2.2 r.1 r.2.1
    else if h.len ≠ 8 ∧ h.len ≠ 16 then answer s stBadAlign []
    else s.requestRemote { client := .lmac p h.tid, init := init, addr := h.addr, len := h.len / 2, cas := h.payload }
  else if spaceOf h.addr ≠ 4 ∨ offsetOf h.addr ≠ 0 ∨ h.type ≠ 4 then s
  else if s.isLocal h.addr then s.commandIn s.nodeId init h.payload
  else s.hostMessage init (nodeOf h.addr) h.payload

/-- The MAC address of the host on local port `p` is learned from its request (R44). -/
def State.learnHost (s : State) (p mac : Nat) : State :=
  { s with fab := { s.fab with hostMac := Tbl.put (fun _ => 0) s.fab.hostMac p mac } }

/-! ### Arrival -/

/-- A fabric frame arrives (R45, R52, R63): `type` is the transaction type the row is for. -/
def State.fabRx (s : State) (f : FabRx) (type : Nat) : State :=
  let h := fabHead f.bytes
  let p := f.port.val
  if !s.fabOn ∨ s.inHeld then s
  else if p < 2 then
    if !s.hasNode then s
    else if fabBad true f.bytes ∨ s.fabNodeBad h then s.bump fabBase FAB_BAD_FRAME
    else if h.type ≠ type then s
    else if h.src = s.nodeId ∧ nodeOf h.addr = 255 then s
    else s.fabSeq f
  else if !bitAt (s.rd fabBase).toNat (4 + (p - 2)) then s
  else if fabBad false f.bytes ∨ h.type = 3 then s.bump fabBase FAB_BAD_FRAME
  else if h.type ≠ type then s
  else ((s.bump fabBase FAB_RX_FRAMES).learnHost (p - 2) f.mac.toNat).serveHost (p - 2) h

/-- A unicast fabric frame of this hub, sent to node `n`, has come back unconsumed (R56): counted and recorded once, even
when both Twin copies return; a remote command it carried ends NO_SUCH_NODE (R108). -/
def State.undelivered (s : State) (f : FabRx) (n : Nat) : State :=
  let h := fabHead f.bytes
  if !s.hasNode ∨ fabBad true f.bytes ∨ h.src ≠ s.nodeId ∨ n = 0 ∨ n = 255 ∨ n = s.nodeId ∨ (h.type ≠ 3 ∧ n ≠ nodeOf h.addr)
      ∨ 1 < f.port.val ∨ s.fab.returned.contains (n, h.seq) then s
  else
    let t := { s with fab := { s.fab with returned := (n, h.seq) :: s.fab.returned } }
    let u := (t.bump fabBase FAB_UNDELIVERED).raise .fabNoDest srcHub h.addr (leBytes 1 h.type)
    if h.type = 4 then u.remoteLost n h.init h.payload else u

end Sys2Proof.Machine
end

