-- ==== Sys2Proof/Machine/BridgeOps.lean ====
section
/-! DEFINITION. The xSPI port, Ladles and posted writes (R273 to R289, Table 18.6). -/

namespace Sys2Proof.Machine

/-- The host island is in reset (R36, R288). -/
def State.hostDown (s : State) : Bool := (s.isl 21).inReset

/-! ### The status byte -/

/-- A status byte (Table 10.3). -/
def State.statusByte (s : State) (retry salvaged : Bool) (code : Nat) : Nat :=
  128 * b2n retry + 64 * b2n salvaged + 32 * b2n (decide (56 ≤ s.bridge.writes.length)) + 16 * b2n (s.hirqs != 0) + code

/-- What the port drives (R275, R276, R278): nothing before the status byte is due, then the bytes clocked, 0x00 beyond
the data. -/
def State.xspiAnswer (s : State) (retry salvaged : Bool) (code : Nat) (data : List Byte) (clocked : Int) : State :=
  if clocked < 0 then s
  else
    let n := clocked.toNat
    s.emit (.xspiData (s.statusByte retry salvaged code) ((data ++ List.replicate n 0#8).take n))

/-- RETRY (R278, R279). -/
def State.xspiRetry (s : State) (clocked : Int) : State :=
  if clocked < 0 then s else (s.bump bridgeBase BRIDGE_RETRY).xspiAnswer true false 0 [] clocked

/-- Whether an answer counts as collected (R278). -/
def collected (code len : Nat) (clocked : Int) : Bool :=
  if code = 0 then decide ((len : Int) ≤ clocked) else decide (0 ≤ clocked)

/-! ### Fetching -/

/-- Queued writes of an initiator to the destination of an address (R281). -/
def State.writesAhead (s : State) (init a : Nat) : Nat :=
  (s.bridge.writes.filter fun w => w.init == init && (nodeOf w.addr == nodeOf a || (s.isLocal w.addr && s.isLocal a))).length

/-- The Ladle of an initiator whose fetch for another node was taken first of those that have not left (R62). -/
def State.ladleNext (s : State) (init : Nat) : Option Nat :=
  (List.range 32).foldl (fun (best : Option Nat) l =>
    let x := s.ladle l
    if x.st != .fetching || x.sent || x.init != init || s.isLocal x.addr then best
    else
      match best with
      | none => some l
      | some b => if x.issue < (s.ladle b).issue then some l else best) none

/-- The fetches of an initiator for other nodes leave in the order taken, each once no write stands before it (R62,
R281). -/
def State.ladlesSend : Nat → Nat → State → State
  | 0, _, s => s
  | n + 1, init, s =>
    match s.ladleNext init with
    | none => s
    | some l =>
      let x := s.ladle l
      if x.after ≠ 0 then s
      else State.ladlesSend n init ((s.setLadle l { x with sent := true }).requestRemote
        { client := .ladle l, init := x.init, addr := x.addr, len := x.len, cas := x.cas })

/-- A gated island that an access of this hub meets is asked to wake (R511). -/
def State.ladleCall (s : State) (a : Nat) : State :=
  if s.isLocal a ∧ spaceOf a = 0 then
    match regIsland (offsetOf a) with | some i => s.islandCall i | none => s
  else s

/-- A free Ladle is taken and its fetch begins (R277). -/
def State.ladleStart (s : State) (l init a len : Nat) (cas : List Byte) (slot : Option Nat) (pre : Bool) : State :=
  let x : Ladle := { st := .fetching, init := init, addr := a, len := len, cas := cas, prefetched := pre, sensitive := slot.isSome
                     slot := slot, after := s.writesAhead init a, issue := s.bridge.issues }
  let t := { s with bridge := { s.bridge with issues := s.bridge.issues + 1 } }
  let t := match slot with | some k => t.salvReserve k init a len | none => t
  State.ladlesSend 32 init ((t.setLadle l x).ladleCall a)

/-- Whether a read-sensitive address refuses an access outright (R285): named on another node, or met by a CAS. -/
def State.sensitiveBad (s : State) (a len : Nat) (cas : Bool) : Bool :=
  if s.isLocal a then cas && s.sensitive (spaceOf a) (offsetOf a) len
  else spaceOf a == 0 && coversPop (offsetOf a) len

/-- LADLE_FETCH_DONE (R281): a local fetch is served; a gated island delays it (R511). -/
def State.ladleFetch (s : State) (l : Nat) : State :=
  let x := s.ladle l
  let a := x.addr
  if x.st ≠ .fetching ∨ x.sent ∨ x.after ≠ 0 ∨ !s.isLocal a ∨ s.inHeld then s
  else if spaceOf a = 0 ∧ s.regGated (offsetOf a) then s
  else
    let r := if x.cas = [] then s.spaceRead x.init (spaceOf a) (offsetOf a) x.len false
      else s.spaceCas (spaceOf a) (offsetOf a) x.cas
    let t := r.2.2.ladleReady l r.1 r.2.1
    if !x.gone then t else if x.sensitive then t.ladleSalvage l else t.ladleFree l

/-! ### Prefetch -/

/-- Whether the range after a collected one may be prefetched (R282). -/
def State.mayPrefetch (s : State) (init a len : Nat) : Bool :=
  let off := offsetOf a + len
  s.flag bridgeBase BRIDGE_CTRL_PREFETCH && s.isLocal a && decide (8 ≤ (s.ladlesFree init).length)
    && !s.sensitive (spaceOf a) off len
    && (if spaceOf a = 1 then
          (List.range 16).any fun p => decide (s.partBase p ≤ offsetOf a ∧ off + len ≤ s.partBase p + s.partSize p)
        else if spaceOf a = 2 then decide (off + len ≤ 64 * s.slotCount) else false)

/-- The next range is fetched ahead (R282). -/
def State.prefetch (s : State) (init a len : Nat) : State :=
  match s.ladlesFree init with
  | l :: _ => if s.mayPrefetch init a len then s.ladleStart l init (a + len) len [] none true else s
  | [] => s

/-- Prefetched Ladles whose range an initiator writes are freed (R282). -/
def State.prefetchDrop (s : State) (init a len : Nat) : State :=
  (List.range 32).foldl (fun (s : State) l =>
    let x := s.ladle l
    if x.st ≠ .free ∧ x.prefetched ∧ x.init = init ∧ s.isLocal a ∧ rangesMeet (homeAddr x.addr) x.len (homeAddr a) len then
      (s.slotOrphan l).ladleFree l
    else s) s

/-! ### Reads and CAS -/

/-- A collected Ladle becomes free, and the next range may be fetched ahead (R278, R282). -/
def State.ladleCollect (s : State) (l : Nat) : State :=
  let x := s.ladle l
  let t := if x.prefetched then s.bump bridgeBase BRIDGE_PREFETCH_HIT else s
  let t := t.ladleFree l
  if x.cas = [] ∧ x.code = 0 then t.prefetch x.init x.addr x.len else t

/-- The port answers from a Ladle (R278). -/
def State.ladleAnswer (s : State) (l : Nat) (clocked : Int) : State :=
  let x := s.ladle l
  if x.st ≠ .ready then s.xspiRetry clocked
  else
    let t := s.xspiAnswer false false x.code (if x.code ≤ 2 then x.data else []) clocked
    if collected x.code x.len clocked then t.ladleCollect l else t

/-- The Ladle of an initiator that a READ or CAS matches (R277, R282). -/
def State.ladleFor (s : State) (init a len : Nat) (cas : List Byte) : Option Nat :=
  (List.range 32).find? fun l =>
    let x := s.ladle l
    x.st != .free && x.init == init && x.addr == a && x.len == len && x.cas == cas && !x.gone

/-- Whether a read collects Ladle `l` (R278). -/
def State.collects (s : State) (l : Nat) (t : XspiTx) (cas : List Byte) : Bool :=
  t.opcodeOk && s.ladleFor 0 t.addr.toNat t.len.toNat cas == some l && collected (s.ladle l).code (s.ladle l).len t.clocked

/-- Whether a read that collects Ladle `l` completes at this moment (R280): what still waits in the queue is of one moment,
since time passes only while nothing waits. -/
def State.collectComes (s : State) (l : Nat) : Bool :=
  s.pending.any fun c =>
    match c with
    | .xspiRead t => s.collects l t []
    | .xspiCas t => s.collects l t (t.data.take t.len.toNat ++ t.swap.take t.len.toNat)
    | _ => false

/-- The discard timer of a READY Ladle expires (R280, R282, R286); a collection that completes at this moment wins. -/
def State.ladleDiscard (s : State) (l : Nat) : State :=
  let x := s.ladle l
  if x.st ≠ .ready ∨ s.uptime < x.readyAt + 1000 * s.get bridgeBase BRIDGE_DISCARD_US ∨ s.collectComes l then s
  else if x.sensitive then s.ladleSalvage l
  else if x.prefetched then s.ladleFree l
  else ((s.ladleFree l).bump bridgeBase BRIDGE_DISCARDS).evt bridgeBase BRIDGE_EVT 2

/-- A READ or CAS that matches no Ladle (R277, R279, R285): the outcome, with the Ladle taken when one was. -/
def State.ladleTake (s : State) (init a len : Nat) (cas : List Byte) : Option Nat × State :=
  match s.ladlesFree init with
  | [] => (none, s.bump bridgeBase BRIDGE_NO_LADLE)
  | l :: _ =>
    if cas = [] ∧ s.isLocal a ∧ s.sensitive (spaceOf a) (offsetOf a) len then
      match s.salvFree with
      | none => (none, s.bump bridgeBase BRIDGE_SALVAGE_WAIT)
      | some k => (some l, s.ladleStart l init a len cas (some k) false)
    else (some l, s.ladleStart l init a len cas none false)

/-- What the port serves in HELD (Table 18.6). -/
def heldWord (a : Nat) : Bool := a == 0 || a == 4 || a == 8 || a == 0x40 || decide (0x700000 ≤ a ∧ a < 0x780000)

/-- A READ in HELD (Table 18.6). -/
def State.heldRead (s : State) (a len : Nat) (clocked : Int) : State :=
  let off := offsetOf a
  if s.isLocal a ∧ spaceOf a = 0 ∧ regShape off len ∧ (List.range (len / 4)).all (fun i => heldWord (off + 4 * i)) then
    let r := s.regReads 0 off (len / 4)
    r.2.2.xspiAnswer false false (codeOf r.1) r.2.1 clocked
  else s.xspiAnswer false false 6 [] clocked

/-- A READ or CAS whose shape the port answers itself, as a CODE (R275). -/
def xspiShape (len : Nat) (cas : Bool) : Option Nat :=
  if 256 < len then some 4
  else if len = 0 ∨ (cas ∧ len ≠ 4 ∧ len ≠ 8) then some 3
  else none

/-- A READ or CAS that matches no Ladle: refused outright, or a Ladle is taken (R277, R279, R285). -/
def State.xspiMiss (s : State) (a len : Nat) (cas : List Byte) (clocked : Int) : State :=
  if s.sensitiveBad a len (!cas.isEmpty) then s.xspiAnswer false false 6 [] clocked
  else
    match s.ladleTake 0 a len cas with
    | (some l, t) => t.ladleAnswer l clocked
    | (none, t) => t.xspiRetry clocked

/-- A READ or CAS by what it finds (R277, R278, R287). -/
def State.xspiFind (s : State) (a len : Nat) (cas : List Byte) (clocked : Int) : State :=
  match (if cas = [] ∧ s.isLocal a then s.salvFor 0 a len else none) with
  | some k =>
    let x := s.salv k
    let t := s.xspiAnswer false true x.code (x.answer a len) clocked
    if collected x.code len clocked then t.salvDrop k else t
  | none =>
    match s.ladleFor 0 a len cas with
    | some l => s.ladleAnswer l clocked
    | none => s.xspiMiss a len cas clocked

/-- XSPI_READ and XSPI_CAS (R275 to R278). -/
def State.xspiRead (s : State) (t : XspiTx) (cas : Bool) : State :=
  let a := t.addr.toNat
  let len := t.len.toNat
  if !t.opcodeOk then s.bump bridgeBase BRIDGE_XSPI_BADCMD
  else
    let u := s.bump bridgeBase BRIDGE_XSPI_RD
    match xspiShape len cas with
    | some code => u.xspiAnswer false false code [] t.clocked
    | none =>
      if s.inHeld then (if cas then u.xspiAnswer false false 6 [] t.clocked else u.heldRead a len t.clocked)
      else if s.hostDown then u.xspiRetry t.clocked
      else u.xspiFind a len (if cas then t.data.take len ++ t.swap.take len else []) t.clocked

/-! ### Writes -/

/-- A write enters the posted-write queue, or is dropped at a full one (R273). -/
def State.postWrite (s : State) (init a : Nat) (bs : List Byte) : State :=
  if 64 ≤ s.bridge.writes.length then
    ((s.bump bridgeBase BRIDGE_WQ_DROP).evt bridgeBase BRIDGE_EVT 1).raise .bridgeWqDrop (srcIsland 21) (s.faultAddr a) (leBytes 1 init)
  else
    let t := s.prefetchDrop init a bs.length
    { t with bridge := { t.bridge with writes := t.bridge.writes ++ [{ init := init, addr := a, data := bs }] } }

/-- XSPI_WRITE (R273, R275). -/
def State.xspiWrite (s : State) (t : XspiTx) : State :=
  let len := t.len.toNat
  if !t.opcodeOk ∨ len = 0 ∨ 256 < len then s.bump bridgeBase BRIDGE_XSPI_BADCMD
  else if t.data.length < len then s.bump bridgeBase BRIDGE_XSPI_SHORT
  else if s.inHeld ∨ s.hostDown then s
  else
    let full := decide (64 ≤ s.bridge.writes.length)
    let u := s.postWrite 0 t.addr.toNat (t.data.take len)
    if full then u else u.bump bridgeBase BRIDGE_XSPI_WR

/-- A write has left the queue: fetches behind it come nearer (R281). -/
def State.writeGone (s : State) (w : PostedWrite) : State :=
  State.ladlesSend 32 w.init <| (List.range 32).foldl (fun (s : State) l =>
    let x := s.ladle l
    if x.st = .fetching ∧ x.after ≠ 0 ∧ x.init = w.init ∧ (nodeOf x.addr = nodeOf w.addr ∨ (s.isLocal x.addr ∧ s.isLocal w.addr)) then
      s.setLadle l { x with after := x.after - 1 }
    else s) s

/-- POSTED_WRITE_ISSUE (R273): the write at the front leaves the queue. -/
def State.writeIssue (s : State) : State :=
  match s.bridge.writes with
  | [] => s
  | w :: rest =>
    if s.inHeld then s
    else
      let t := { s with bridge := { s.bridge with writes := rest } }
      (t.localWrite w.init w.addr w.data).writeGone w

/-- XSPI_STATUS (Table 10.2). -/
def State.xspiStatus (s : State) : State :=
  let held := (List.range 8).filter fun k => (s.salv k).held && (s.salv k).init == 0
  s.emit (.xspiData (s.statusByte false false 0)
    (leBytes 1 (64 - s.bridge.writes.length) ++ leBytes 1 (s.ladlesFree 0).length ++ leBytes 1 held.length ++ leBytes 1 s.hirqs))

end Sys2Proof.Machine
end

