-- ==== Sys2Proof/Machine/UsbEp.lean ====
section
/-! DEFINITION. The endpoints of the management device (R414, R418 to R427). -/

namespace Sys2Proof.Machine

/-- Whether the management device answers on its endpoints: configured, and its island at work. -/
def State.epLive (s : State) : Bool := s.usbLive && s.mgmtState == 3

/-- Largest packet of a bulk endpoint (Table 15.3). -/
def State.bulkMax (s : State) : Nat := if s.upHs then 512 else 64

/-- Whether an endpoint is halted (R427). -/
def State.epHalted (s : State) (ep : Nat) : Bool := s.usb.halted.contains ep

/-- Whether the next packet of an endpoint is DATA1. -/
def State.epToggle (s : State) (ep : Nat) : Bool := s.usb.toggles.contains ep

/-- An OUT transfer's handshake (R426, R427): halted, held back, a repeat, or taken by `f`. -/
def State.outTransfer (s : State) (ep : Nat) (toggle : Bool) (bytes : List Byte) (nak : Bool) (f : State → State) : State :=
  if !s.epLive then s
  else if s.epHalted ep then s.emit (.usbShake ep 2)
  else if nak then s.emit (.usbShake ep 1)
  else
    let t := s.emit (.usbShake ep 0)
    if toggle ≠ s.epToggle ep then t else f (t.toggleBy ep (packets bytes.length s.bulkMax))

/-- An IN transfer's answer (R427): halted, nothing to send, or the bytes; `f` follows the host's acknowledgement. -/
def State.inTransfer (s : State) (ep : Nat) (data : Option (List Byte)) (acked : Bool) (max : Nat) (f : State → State) : State :=
  if !s.epLive then s
  else if s.epHalted ep then s.emit (.usbShake ep 2)
  else
    match data with
    | none => s.emit (.usbShake ep 1)
    | some bs =>
      let t := s.emit (.usbIn (ep % 16) bs)
      if acked then f (t.toggleBy ep (packets bs.length max)) else t

/-! ### Commands -/

/-- EP1_OUT_TRANSFER (R419): a packet for one of the two receive buffers. -/
def State.ep1Out (s : State) (toggle : Bool) (bytes : List Byte) : State :=
  s.outTransfer 0x01 toggle bytes (decide (2 ≤ s.usb.rx.length)) fun t =>
    (t.withUsb fun u => { u with rx := u.rx ++ [bytes] }).usbTake

/-- The front reply leaves the queue, delivered. -/
def State.replyGone (s : State) : State :=
  match s.cmd.usb with
  | [] => s
  | r :: rest => (({ s with cmd := { s.cmd with usb := rest } }).usbDelivered r).usbTake

/-- EP1_IN_TRANSFER (R419). -/
def State.ep1In (s : State) (acked : Bool) : State :=
  s.inTransfer 0x81 (s.cmd.usb.head?.map (·.bytes)) acked s.bulkMax State.replyGone

/-! ### Fabric requests -/

/-- A response is formed (R422). -/
def State.usbRespond (s : State) (q : UsbReq) (code len : Nat) (salvaged : Bool) (data : List Byte) (slot : Option Nat) : State :=
  let d := (data ++ List.replicate len 0#8).take len
  s.withUsb fun u =>
    { u with resps := u.resps ++ [{ tag := q.tag, addr := q.addr, len := len, code := code, salvaged := salvaged, data := d, slot := slot }] }

/-- A request waits again at the front of the queue. -/
def State.usbAgain (s : State) (q : UsbReq) : State := s.withUsb fun u => { u with reqs := { q with ladle := none } :: u.reqs }

/-- Whether a Ladle is the one that fetches for a request. -/
def State.ladleIs (s : State) (l : Nat) (q : UsbReq) : Bool :=
  let x := s.ladle l
  x.st != .free && x.init == 1 && x.addr == q.addr && x.len == q.len && x.cas == (if q.op = 3 then q.data else [])

/-- A waiting write enters the posted-write queue when that has room (R421). -/
def State.usbWriteOn (s : State) : State :=
  match s.usb.write with
  | some (a, bs) => if s.bridge.writes.length < 64 then (s.postWrite 1 a bs).withUsb fun u => { u with write := none } else s
  | none => s

/-- An issued request by what its Ladle has become (R422): collected, still on its way, or to be read again. -/
def State.usbCollect (s : State) (q : UsbReq) : State :=
  match q.ladle with
  | none => s.usbAgain q
  | some l =>
    let x := s.ladle l
    if !s.ladleIs l q then
      (if (s.salvFor 1 q.addr q.len).isSome then s else s.bump usbBase USB_FAB_REFETCH).usbAgain q
    else if x.st = .ready ∧ s.usb.resps.length < 8 then
      let t := s.usbRespond q x.code q.len false (if x.code ≤ 2 then x.data else []) x.slot
      if x.sensitive then t.setLadle l {} else t.ladleCollect l
    else s.withUsb fun u => { u with issued := u.issued ++ [q] }

/-- OP of a waiting READ or CAS that is only to be answered with CODE 0x3 (R421). -/
def usbBadRead : Nat := 4

/-- A waiting request is issued when a Ladle, and for a read-sensitive address a Salvage slot, is free (R277, R285, R287). -/
def State.usbIssue (s : State) (q : UsbReq) : State :=
  let cas := if q.op = 3 then q.data else []
  let wait (t : State) : State := t.withUsb fun u => { u with reqs := u.reqs ++ [q] }
  let take (t : State) (l : Nat) : State := t.withUsb fun u => { u with issued := u.issued ++ [{ q with ladle := some l }] }
  if q.op = usbBadRead then (if s.usb.resps.length < 8 then s.usbRespond q 3 0 false [] none else wait s)
  else if s.sensitiveBad q.addr q.len (q.op == 3) then
    (if s.usb.resps.length < 8 then s.usbRespond q 6 q.len false [] none else wait s)
  else
    match (if q.op = 2 ∧ s.isLocal q.addr then s.salvFor 1 q.addr q.len else none) with
    | some k =>
      if s.usb.resps.length < 8 ∧ !(s.usb.resps.any fun r => r.slot == some k) then
        s.usbRespond q (s.salv k).code q.len true ((s.salv k).answer q.addr q.len) (some k)
      else wait s
    | none =>
      match s.ladleFor 1 q.addr q.len cas with
      | some l => if s.usb.issued.any (fun r => r.ladle == some l) then wait s else take s l
      | none =>
        if s.ladlesFree 1 = [] ∨ (q.op = 2 ∧ s.isLocal q.addr ∧ s.sensitive (spaceOf q.addr) (offsetOf q.addr) q.len ∧ s.salvFree = none) then wait s
        else
          match s.ladleTake 1 q.addr q.len cas with
          | (some l, t) => take t l
          | (none, t) => wait t

/-- The device looks at its write, its issued requests and its waiting ones (R421, R422). -/
def State.usbPump (s : State) : State :=
  if !s.usbLive ∨ s.hostDown then s
  else
    let t := s.usbWriteOn
    let mine := t.usb.issued
    let t := mine.foldl State.usbCollect (t.withUsb fun u => { u with issued := [] })
    let waiting := t.usb.reqs
    waiting.foldl State.usbIssue (t.withUsb fun u => { u with reqs := [] })

/-- Data bytes a request of an OP carries behind its header (Table 15.4). -/
def usbDataLen (op len : Nat) : Nat := if op = 1 then len else if op = 3 then 2 * len else 0

/-- A fabric request is judged (R421). -/
def State.usbRequest (s : State) (bs : List Byte) : State :=
  let op := leAt bs 0 1
  let len := leAt bs 2 2
  let t := s.bump usbBase USB_FAB_REQ
  let q : UsbReq := { op := op, len := len, tag := leAt bs 4 2, addr := leAt bs 8 6, data := bs.drop 16, ladle := none }
  if op = 0 ∨ 3 < op ∨ leAt bs 1 1 ≠ 0 ∨ leAt bs 6 2 ≠ 0 ∨ leAt bs 14 2 ≠ 0 then t.bump usbBase USB_FAB_BAD
  else if bs.length ≠ 16 + usbDataLen op len ∨ len = 0 ∨ 256 < len ∨ (op = 3 ∧ len ≠ 4 ∧ len ≠ 8) then
    (if op = 1 then t.bump usbBase USB_FAB_BAD
     else (t.withUsb fun u => { u with reqs := u.reqs ++ [{ q with op := usbBadRead }] }).usbPump)
  else if op = 1 then (t.withUsb fun u => { u with write := some (q.addr, q.data) }).usbPump
  else (t.withUsb fun u => { u with reqs := u.reqs ++ [q] }).usbPump

/-- EP2_OUT_TRANSFER (R420, Table 15.3). -/
def State.ep2Out (s : State) (toggle : Bool) (bytes : List Byte) : State :=
  s.outTransfer 0x02 toggle bytes (decide (16 ≤ s.usb.reqs.length) || s.usb.write.isSome)
    fun t => t.usbRequest bytes

/-- A response as it is sent (Table 15.4). -/
def UsbResp.bytes (r : UsbResp) : List Byte :=
  leBytes 2 0 ++ leBytes 2 r.len ++ leBytes 2 r.tag ++ leBytes 1 r.code ++ leBytes 1 (b2n r.salvaged) ++ leBytes 6 r.addr ++ leBytes 2 0
    ++ r.data

/-- The front response has been delivered: its Salvage slot is free (R287, R422). -/
def State.respGone (s : State) : State :=
  match s.usb.resps with
  | [] => s
  | r :: rest =>
    let t := match r.slot with | some k => s.salvDrop k | none => s
    (t.withUsb fun u => { u with resps := rest }).usbPump

/-- EP2_IN_TRANSFER (R422). -/
def State.ep2In (s : State) (acked : Bool) : State :=
  s.inTransfer 0x82 (s.usb.resps.head?.map UsbResp.bytes) acked s.bulkMax State.respGone

/-! ### Event reports -/

/-- Masked sources pending (R423). -/
def State.masked (s : State) : Nat := s.irqLevels &&& s.get usbBase USB_EP3_MASK_MASK

/-- Sources that have become pending and are in no report yet. -/
def State.freshPend (s : State) : Nat := s.masked &&& (2 ^ 32 - 1 - s.usb.lastPend)

/-- A report is queued, or merged into the newest at a full queue (R423). -/
def State.report (s : State) (flags : Nat) : State :=
  let pend := s.masked
  let t := s.withUsb fun u => { u with lastPend := pend }
  if t.usb.reports.length < 16 then
    t.withUsb fun u => { u with reports := u.reports ++ [(pend, flags, u.repSeq)], repSeq := (u.repSeq + 1) % 65536 }
  else
    let last := t.usb.reports.getLastD (0, 0, 0)
    let t := t.withUsb fun u => { u with reports := u.reports.dropLast ++ [(last.1 ||| pend, last.2.1 ||| flags ||| 2, last.2.2)] }
    (t.bump usbBase USB_EP3_OVF).evt usbBase USB_EVT 7

/-- Whether a masked source that becomes pending wakes the device (R414). -/
def State.mayWake (s : State) : Bool :=
  s.mgmtState == 4 && decide (s.usb.suspAt + 5000000 ≤ s.uptime) && s.flag usbBase USB_MGMT_MRWAKE
    && s.flag usbBase USB_MGMT_WAKE_EN

/-- The device signals remote wake and queues a report with WAKE (R414). -/
def State.remoteWake (s : State) : State := (s.report 1).deviceWake 9

/-- A masked source has become pending (R414, R423): the suspended device that may wake does so, and any other only
reports. -/
def State.reportQueue (s : State) : State :=
  if s.usbLive ∧ s.freshPend ≠ 0 then if s.mayWake then s.remoteWake else s.report 0 else s

/-- EP3_IN_TRANSFER (R423). -/
def State.ep3In (s : State) (acked : Bool) : State :=
  s.inTransfer 0x83 (s.usb.reports.head?.map fun r => leBytes 4 r.1 ++ leBytes 1 r.2.1 ++ leBytes 1 0 ++ leBytes 2 r.2.2) acked 8
    fun t => t.withUsb fun u => { u with reports := u.reports.drop 1 }

/-- MGMT_REMOTE_WAKE (R414). -/
def State.wakeQueue (s : State) : State := if s.usbLive ∧ s.freshPend ≠ 0 ∧ s.mayWake then s.remoteWake else s

/-! ### Streams -/

/-- The slots streamed on EP4 (R424). -/
def State.streamed (s : State) : List Nat :=
  s.slotsWhere fun m => m.ckind == 4 && (s.rd (usbBase + 0x1C)).getLsbD m.cindex

/-- The period of a slot in (micro)frames (R424). -/
def State.streamPeriod (s : State) (n : Nat) : Nat :=
  let f := if s.upHs then 125 else 1000
  max 1 (((s.slotMap n).periodUs + f - 1) / f)

/-- The number of the present (micro)frame (R424): 125 µs at high speed, 1 ms at full speed. -/
def State.streamFrame (s : State) : Nat := s.uptime / (if s.upHs then 125000 else 1000000)

/-- When a streamed slot is due: now at first. -/
def State.dueOf (s : State) (n : Nat) : Nat := (Tbl.get (fun _ => none) s.usb.due n).getD s.streamFrame

/-- The due slots in the order they are sent: earlier due first, then by number (R425); none while PIMG_CTRL.EN = 0
(Table 9.14). -/
def State.dueSlots (s : State) : List Nat :=
  (s.streamed.filter fun n => s.flag pimgBase PIMG_CTRL_EN && decide (s.dueOf n ≤ s.streamFrame)).mergeSort fun a b =>
    decide (s.dueOf a < s.dueOf b) || (s.dueOf a == s.dueOf b && decide (a ≤ b))

/-- The (micro)frame a slot is due again once sent (R424). -/
def State.dueNext (s : State) (n : Nat) : Nat :=
  let p := s.streamPeriod n
  let d := s.dueOf n
  if d + p < s.streamFrame then s.streamFrame + p else d + p

/-- EP4_IN_TRANSFER (R425). -/
def State.ep4In (s : State) : State :=
  if !s.epLive ∨ !s.flag usbBase USB_MGMT_ISO_ALT then s
  else
    let due := s.dueSlots
    let now := due.take (if s.upHs then 15 else 14)
    let left := due.length - now.length
    let table : Tbl (Option Nat) := s.streamed.foldl (fun m n =>
      Tbl.put (fun _ => none) m n (some (if now.contains n then s.dueNext n else s.dueOf n))) []
    let r := now.foldl (fun (acc : List Byte × State) n =>
      let x := acc.2.slotTake n
      (acc.1 ++ leBytes 2 n ++ leBytes 2 0 ++ x.1, x.2)) ([], s)
    let head := leBytes 2 s.usb.isoSeq ++ leBytes 1 now.length ++ leBytes 1 (b2n (decide (0 < left)))
    let t := (r.2.emit (.usbIn 4 (head ++ r.1))).withUsb fun u => { u with due := table, isoSeq := (u.isoSeq + 1) % 65536 }
    (t.bump usbBase USB_ISO_PKTS).bumpBy usbBase USB_ISO_DEFER left

end Sys2Proof.Machine
end

