-- ==== Sys2Proof/Machine/TickOps.lean ====
section
/-! DEFINITION. What happens while no command waits: one tick of the 500 MHz counter, and the conditions the hub watches
at every tick. -/

namespace Sys2Proof.Machine

/-- The open CAN controllers look at the channels they are paired with (R306). -/
def State.heldWatch (s : State) : State :=
  s.each ((List.range s.nCan).filter fun n => s.canOpen n) fun s n => s.heldEval n

/-- A source no longer pending may be reported again when it becomes so (R423). -/
def State.pendWatch (s : State) : State := s.withUsb fun u => { u with lastPend := u.lastPend &&& s.masked }

/-- A Fatal-class injection by command acts 100 µs after it was accepted (R498). -/
def State.fatalWatch (s : State) : State :=
  match s.sys.fatal with
  | some (at_, code, src, addr) =>
    if s.uptime < at_ then s else (s.withSys fun x => { x with fatal := none }).inject code src addr
  | none => s

/-- What the hub watches at every tick. -/
def State.watch (s : State) : State :=
  ((s.lineErrors 0).lineErrors 1).freeSubs.heldWatch.wiresEval.hbWatch.deadClear.deadWatch.pendWatch.usbPump.idleWatch.actWatch.fatalWatch

/-- A step with no command waiting: 2 ns pass, and the hub looks at what it watches; with the main die down only the time
since power-on runs. -/
def State.idle (s : State) : State :=
  let t : State := { s with uptime := s.uptime + 2 }
  if s.sys.up then t.after (s.tick.watch) else t.after t

end Sys2Proof.Machine
end

