-- ==== Sys2Proof/Machine/CmdSys.lean ====
section
/-! DEFINITION. Command rows of groups 0x00 and 0x01: identification, aborts, the log, fences, power states, register
lists and the store's partitions (R114 to R116, R122 to R124, R516). -/

namespace Sys2Proof.Machine

open Sys2Proof (CmdKey)

/-! ### Arguments and results -/

/-- Parameters of a command. -/
def CmdEntry.ps (e : CmdEntry) : List Byte := pktParams e.packet
/-- A little-endian parameter. -/
def CmdEntry.arg (e : CmdEntry) (at_ n : Nat) : Nat := leAt e.ps at_ n
/-- Unit selector of a command. -/
def CmdEntry.unit (e : CmdEntry) : Nat := pktUnit e.packet
/-- INDEX of a command's unit. -/
def CmdEntry.idx (e : CmdEntry) : Nat := unitIndex e.unit
/-- KIND of a command's unit. -/
def CmdEntry.ukind (e : CmdEntry) : Nat := unitKind e.unit

/-- Whether a parameter list has one of these lengths. -/
def plen (n : Nat) (k : Nat) : Bool := k == n

/-- DONE without a result. -/
def CmdRes.yes (s : State) : CmdRes := .done 0 [] s

/-- Register images of a command, four bytes each, with the offsets they go to (R123). -/
def CmdEntry.images (e : CmdEntry) (offs : List Nat) : List (Nat × Nat) := offs.zipIdx.map fun p => (p.1, e.arg (4 * p.2) 4)

/-- Register words as a result shows them. -/
def State.shown (s : State) (offs : List Nat) : List Byte := offs.flatMap fun a => leBytes 4 ((s.regTouch a).regWord a).toNat

/-- Offsets of `n` words from `a` on. -/
def wordOffs (a n : Nat) : List Nat := (List.range n).map fun i => a + 4 * i

/-- A full stamp given in a parameter (R9): its nanoseconds field must stay below 10⁹. -/
def CmdEntry.stampAt (e : CmdEntry) (k : Nat) : Option Nat :=
  if e.arg (k + 6) 4 < nsPerSec then some (e.arg k 6 * nsPerSec + e.arg (k + 6) 4) else none

/-! ### SYS_NOP, SYS_IDENTIFY -/

/-- SYS_NOP (R122) does nothing and returns DONE. -/
def execSysNop (k : CmdKey) (s : State) : Host.Outcome State Fault Refusal :=
  s.run fun s => s.command k 0x0000 (plen 0) fun s _ => .yes s

/-- The 40 bytes of SYS_IDENTIFY (Table 4.11). -/
def State.identity (s : State) : List Byte :=
  s.shown [0, 4, 8] ++ leBytes 4 (s.rd 0x40).toNat ++ leBytes 1 s.nodeId ++ leBytes 1 (b2n s.hasNode) ++ leBytes 2 0
    ++ dieSerial ++ leBytes 4 (s.rd (updBase + 4)).toNat

/-- SYS_IDENTIFY (R122) returns identity and fences. -/
def execSysIdentify (k : CmdKey) (s : State) : Host.Outcome State Fault Refusal :=
  s.run fun s => s.command k 0x0001 (plen 0) fun s _ => .done 0 s.identity s

/-! ### SYS_ABORT -/

/-- Opcodes that cannot be aborted once they execute (R122, R238, R329, R479, R498, R536). -/
def neverAborted : List Nat := [0x0005, 0x0701, 0x8400, 0x0D01, 0x0D02, 0x0D03, 0x0D04, 0x0D05, 0x0E02, 0x8F00, 0x8F01]

/-- Whether an executing command that waits for a unit can still be aborted. -/
def State.waitAborts (s : State) (op a b : Nat) : Bool :=
  if op = 0x0702 then s.txbState a b == 1 || s.txbState a b == 2
  else !(op == 0x0201 || op == 0x0C01 || op == 0x0C02 || op == 0x0F01)

/-- Whether a command can be aborted (R114, R115). -/
def State.abortable (s : State) (e : CmdEntry) : Bool :=
  match e.phase with
  | .accepted => true
  | .executing _ w =>
    !neverAborted.contains (pktOp e.packet)
      && (match w with | some (.unit a b) => s.waitAborts (pktOp e.packet) a b | _ => true)
  | _ => false

/-- The ports a loop test uses (Table 5.10): its own, and with an external loop the other. -/
def loopPorts (p mode : Nat) : List Nat := if mode = 2 then [0, 1] else [p]

/-- A ring port leaves LOOP for the state its setting gives it (R156). -/
def State.loopLeave (s : State) (p : Nat) : State :=
  let t := (s.set (ringBase p) RING_PCTRL_LOOP 0).setRport p { s.rport p with loopFrom := none }
  if t.fenced (.ringPort p) then t.portLeave p 5 3
  else if t.flag (ringBase p) RING_PCTRL_EN then t.seek p 3
  else t.portLeave p 0 3

/-- A loop test is over: its ports return to the state their setting gives them (R156). -/
def State.loopOver (s : State) (ps : List Nat) : State := ps.foldl State.loopLeave s

/-- A ring port's link is again as `w` says it was before a loop test, in HOLD or UP (R156): its MAC has link, no hello is missed,
and entering UP is a heal (R130). -/
def State.linkReturn (s : State) (p : Nat) (w : Word) : State :=
  let t := ((s.wr (ringBase p + 4) w).set (ringBase p) RING_PCTRL_LOOP 0).setRport p
    { s.rport p with loopFrom := none, helloAt := s.uptime, missed := 0, holdAt := s.uptime }
  let t := t.macUp p (t.ringSpeed p)
  if t.ringUp p then (t.evt (ringBase p) RING_PEVT 3).ownNotice p false (t.get (ringBase p) RING_PSTAT_NEIGHBOUR) else t

/-- An aborted loop test returns its ports to their earlier state (R156); a port that was fenced or disabled meanwhile, and one that
sought a link, goes on from its setting. -/
def State.loopBack (s : State) (ps : List Nat) : State :=
  ps.foldl (fun (s : State) p =>
    match (s.rport p).loopFrom with
    | some w =>
      let st := bitsOf (BitVec.ofNat 32 w) 0 3
      if (st = 2 ∨ st = 3) ∧ !s.fenced (.ringPort p) ∧ s.flag (ringBase p) RING_PCTRL_EN then s.linkReturn p (BitVec.ofNat 32 w)
      else s.loopLeave p
    | none => s.loopLeave p) s

/-- What an abort takes back in the unit (R156, R322, and chapter 12). -/
def State.abortUnit (s : State) (e : CmdEntry) : State :=
  match e.phase with
  | .executing _ (some (.unit a b)) =>
    let op := pktOp e.packet
    if op = 0x0702 then (s.txCancel a b).2
    else if op = 0x0800 then s.setFlask a { s.flask a with loads := (s.flask a).loads.filter fun l => !l.byCmd }
    else if op = 0x0801 then
      s.each (List.range 8) fun s i => if bitAt b i then s.setEng a i { s.eng a i with armed := none } else s
    else if op = 0x0203 then
      s.loopBack (loopPorts a b)
    else s
  | _ => s

/-- The target of an abort is answered ABORTED, marked so in the log (Table 4.9); then its unit is put right. -/
def State.abortOne (s : State) (e : CmdEntry) : State := (s.replyWith e.key 0x11 2 []).abortUnit e

/-- SYS_ABORT decided in one step (R114). -/
def State.abort (s : State) (k : CmdKey) (tag : Nat) : Nat × State :=
  match s.entry { k with tag := tag } with
  | none => (0x10, s)
  | some e =>
    match e.phase with
    | .accepted | .executing .. =>
      if pktOp e.packet = 2 then (0x22, s)
      else if s.abortable e then (0, s.abortOne e)
      else (0x24, s)
    | _ => (0x10, s)

/-- SYS_ABORT ends a command of its own tag space (R114). -/
def execSysAbort (k : CmdKey) (s : State) : Host.Outcome State Fault Refusal :=
  s.run fun s => s.command k 0x0002 (plen 4) fun s e =>
    if e.arg 0 2 = 0 ∨ e.arg 2 2 ≠ 0 then .no s 0x22
    else let r := s.abort k (e.arg 0 2); .done r.1 [] r.2

/-! ### CMD_LOG_READ -/

/-- The records of the command log from an index on, at most `n` (Table 4.11). -/
def State.logRecords (s : State) (first n : Nat) : List Byte :=
  let head := s.get cmdBase CMD_LOG_HEAD_INDEX
  let full := s.cmd.logFull
  let skip := logSkip full head first
  (List.range (min n (logHeld full head - skip))).flatMap fun i =>
    s.load (s.partBase 8 + 32 * ((logOldest full head + skip + i) % 16384)) 32

/-- CMD_LOG_READ (R122) returns log records. -/
def execCmdLogRead (k : CmdKey) (s : State) : Host.Outcome State Fault Refusal :=
  s.run fun s => s.command k 0x0003 (plen 8) fun s e =>
    let head := s.get cmdBase CMD_LOG_HEAD_INDEX
    if e.arg 4 2 = 0 ∨ 127 < e.arg 4 2 ∨ e.arg 6 2 ≠ 0 then .no s 0x22
    else
      .done 0 (leBytes 4 (logOldest s.cmd.logFull head) ++ leBytes 4 head ++ s.shown [0x1064] ++ leBytes 4 0
        ++ s.logRecords (e.arg 0 4) (e.arg 4 2)) s

/-! ### SYS_UNFENCE -/

/-- The fence unit SYS_UNFENCE names; a Flask only whole. -/
def unfenceUnit (u : Nat) : Option FenceUnit :=
  if unitKind u = 3 ∧ unitSub u ≠ 255 then none else unitFence u

/-- The test code a unit's own self-test comes to: a power-edge die without link fails its handshake (Table 18.10). -/
def State.unfenceCode (s : State) (u : FenceUnit) (code : Nat) : Nat :=
  match u with
  | .pedie d => if (s.die d).gap ∨ !(s.die d).powered then 0x20 else code
  | _ => code

/-- SYS_UNFENCE runs the self-test, whose first failing test is `code`, 0 when it passes (R34, R566). -/
def execSysUnfence (k : CmdKey) (code : BitVec 16) (s : State) : Host.Outcome State Fault Refusal :=
  s.run fun s => s.command k 0x0004 (plen 0) fun s e =>
    match unfenceUnit e.unit with
    | none => .no s 0x22
    | some u =>
      if !s.fenced u then .done 0 (leBytes 1 0) s
      else
        let c := s.unfenceCode u code.toNat
        if c ≠ 0 then .done 0xF0 [] (s.raise .selftestFail (selfSource u) 0 (leBytes 2 c))
        else .done 0 (leBytes 1 1) (s.unfence u)

/-! ### SYS_WARM_RESET, SYS_POWER_STATE -/

/-- SYS_WARM_RESET (R122) orders the reset for 1 ms after its reply (Table 4.11). -/
def execSysWarmReset (k : CmdKey) (s : State) : Host.Outcome State Fault Refusal :=
  s.run fun s => s.command k 0x0005 (plen 0) fun s _ =>
    if s.flag updBase UPD_STAT_IMG_WRITE then .no s 0x24
    else .yes { s with cmd := { s.cmd with warmResetAt := some (s.uptime + 1000000) } }

/-- The 10 ms before a Standby entry begin (R512). -/
def State.stbyBegin (s : State) (wake alarm : Nat) : State :=
  let t := if wake ≠ 0 then s.set aonBase AON_WAKE_EN_EN wake else s
  let t := (t.wr (aonBase + 0x30) (BitVec.ofNat 32 alarm)).wr (aonBase + 0x34) (BitVec.ofNat 32 (alarm / 2 ^ 32))
  let old := t.get 0 SYS_PWR_STATE
  (t.set 0 SYS_PWR_STATE 2).withSys fun x => { x with stby := some (t.uptime + 10000000), stbyOld := old }

/-- The status and state of a SYS_POWER_STATE that names a state other than the one in force (R26, R27, R515). -/
def State.powerTo (s : State) (st wake alarm : Nat) : Nat × State :=
  if s.get 0 SYS_PWR_STATE = 2 then (0x24, s)
  else if st = 2 then
    let en := if wake ≠ 0 then wake else s.get aonBase AON_WAKE_EN_EN
    if en = 0 then (0x22, s)
    else if s.flag 0 SYS_BOOT_STAT_DEADBATT ∨ !s.standbyOk then (0x24, s)
    else (0, s.stbyBegin wake alarm)
  else if st = 1 ∧ !s.economyOk then (0x24, s)
  else (0, s.powerState st)

/-- SYS_POWER_STATE asks for Full, Economy or Standby (R516). -/
def execSysPowerState (k : CmdKey) (s : State) : Host.Outcome State Fault Refusal :=
  s.run fun s => s.command k 0x0006 (plen 16) fun s e =>
    let st := e.arg 0 1
    let shown (t : State) : List Byte := leBytes 4 (t.get 0 SYS_PWR_STATE)
    if 2 < st ∨ e.arg 1 3 ≠ 0 ∨ e.arg 5 3 ≠ 0 ∨ e.arg 14 2 ≠ 0 then .no s 0x22
    else
      let s := s.set 0 SYS_PWR_STBY_CANCELLED 0
      let s := if st < 2 then s.withSys fun x => { x with named := true } else s
      if s.get 0 SYS_PWR_STATE = st then .done 0 (shown s) s
      else
        let r := s.powerTo st (e.arg 4 1) (e.arg 8 6)
        if r.1 = 0 then .done 0 (shown r.2) r.2 else .no s r.1

/-! ### Register lists -/


/-- SYS_REG_WRITE_LIST (R123) writes registers in order. -/
def execSysRegWriteList (k : CmdKey) (s : State) : Host.Outcome State Fault Refusal :=
  s.run fun s => s.command k 0x8000 (fun n => n % 8 == 0 && decide (8 ≤ n)) fun s e =>
    let l := (List.range (e.ps.length / 8)).map fun i => (e.arg (8 * i) 4, e.arg (8 * i + 4) 4)
    if !(l.all fun p => listOffset p.1) then .no s 0x22 else .yes (s.regWrites 2 l)

/-- Registers read in order by the ROM; a word that is not served reads 0. -/
def State.romReads (s : State) : List Nat → List Byte × State
  | [] => ([], s)
  | a :: as =>
    let r := s.regRead 2 a
    let rest := r.2.2.romReads as
    (leBytes 4 r.2.1.toNat ++ rest.1, rest.2)

/-- SYS_REG_READ_LIST (R123) reads registers in order; a read-sensitive one refuses the list. -/
def execSysRegReadList (k : CmdKey) (s : State) : Host.Outcome State Fault Refusal :=
  s.run fun s => s.command k 0x8001 (fun n => n % 4 == 0 && decide (4 ≤ n)) fun s e =>
    let l := (List.range (e.ps.length / 4)).map fun i => e.arg (4 * i) 4
    if !l.all listOffset then .no s 0x22
    else if l.any popWord then .no s 0x24
    else let r := s.romReads l; .done 0 r.1 r.2

/-! ### Store partitions -/

/-- Whether the units that own a partition are stopped (R124, R194, R270, R310, R451, R523). -/
def State.partStopped (s : State) (p : Nat) : Bool :=
  let one := !s.flag fabBase FAB_CTRL_EN && (List.range 1023).all fun c => !s.flag (ctxBase (c + 1)) CTX_CTRL_EN
  match p with
  | 1 => one
  | 2 => one && allPorts.all fun q => !s.flag (macBase q) MAC_MCTRL_TX_EN && !s.flag (macBase q) MAC_MCTRL_RX_EN
  | 3 => (List.range s.nCan).all fun n => !s.canOpen n && !(s.can n).closing
  | 4 => !s.flag ledgerBase LEDGER_CTRL_EN
  | 5 => !s.flag pimgBase PIMG_CTRL_EN
  | 9 => !s.flag pdAll PD_POL_CTRL_USE_IMAGE
  | 10 => s.get updBase UPD_STAT_STATE == 0 && !s.flag updBase UPD_STAT_BUNDLE_STAGED
  | _ => true

/-- Whether partition `p` would move or shrink. -/
def State.partMoves (s : State) (p first count : Nat) : Bool :=
  s.partCount p != 0 && (first != s.partFirst p || decide (count < s.partCount p))

/-- Bytes of the store from `a` on made zero and sound. -/
def State.clearStore (s : State) (a n : Nat) : State :=
  { s with mem := s.mem.filter fun p => decide (p.1 < a ∨ a + n ≤ p.1)
           memErr := s.memErr.filter fun p => decide (8 * p.1 < a ∨ a + n ≤ 8 * p.1) }

/-- Partition `p` takes a new range: the Ingots it adds are cleared, and its owner finds it empty (R124, R194, R523). -/
def State.partSet (s : State) (p first count : Nat) : State :=
  let old := List.range' (s.partFirst p) (s.partCount p)
  let new := (List.range' first count).filter fun i => !old.contains i
  let changed := first != s.partFirst p || count != s.partCount p
  let t := new.foldl (fun (s : State) i => s.clearStore (65536 * i) 65536) s
  let t := t.wr (0x100 + 4 * p) (BitVec.ofNat 32 (first + 1024 * count))
  if !changed then t
  else if p = 1 then if first != s.partFirst p || s.partCount p == 0 || count == 0 then t.ctxTableNew else t
  else if p = 2 then t.buffersEmpty
  else if p = 10 then t.withUpd fun u => { u with blocks := [], bblocks := [] }
  else t

/-- The status with which STORE_PARTITION is refused, 0 when it is not (R124). -/
def State.partRefused (s : State) (p first count : Nat) : Nat :=
  let clash := (List.range 16).any fun q => q != p && count != 0 && s.partCount q != 0 && rangesMeet first count (s.partFirst q) (s.partCount q)
  if p = 0 ∨ p = 7 ∨ p = 8 then 0x24
  else if 15 < p ∨ (11 ≤ p ∧ p ≤ 14 ∧ count ≠ 0) then 0x22
  else if 1023 < first ∨ 1024 < first + count ∨ clash then 0x22
  else if p = 10 ∧ count < 152 then 0x22
  else if s.partMoves p first count ∧ !s.partStopped p then 0x24
  else 0

/-- STORE_PARTITION (R124) sets one partition. -/
def execStorePartition (k : CmdKey) (s : State) : Host.Outcome State Fault Refusal :=
  s.run fun s => s.command k 0x8100 (plen 6) fun s e =>
    if e.arg 1 1 ≠ 0 then .no s 0x22
    else
      let st := s.partRefused (e.arg 0 1) (e.arg 2 2) (e.arg 4 2)
      if st ≠ 0 then .no s st else .yes (s.partSet (e.arg 0 1) (e.arg 2 2) (e.arg 4 2))

/-- STORE_PART_DEFAULT (R124) restores Table 2.8. -/
def execStorePartDefault (k : CmdKey) (s : State) : Host.Outcome State Fault Refusal :=
  s.run fun s => s.command k 0x0101 (plen 0) fun s _ =>
    if (List.range 16).any fun p => s.partMoves p (partDefault p).1 (partDefault p).2 && !s.partStopped p then .no s 0x24
    else .yes (s.each (List.range 16) fun s p => s.partSet p (partDefault p).1 (partDefault p).2)

/-- STORE_PART_READ (R122) returns the layout. -/
def execStorePartRead (k : CmdKey) (s : State) : Host.Outcome State Fault Refusal :=
  s.run fun s => s.command k 0x0100 (plen 0) fun s _ => .done 0 (s.shown (wordOffs 0x100 16)) s

end Sys2Proof.Machine
end

