-- ==== Sys2Proof/Machine/CmdNet.lean ====
section
/-! DEFINITION. Command rows of groups 0x02 and 0x03: the ring, the MACs and the scheduler (R142, R156, R182, R210). -/

namespace Sys2Proof.Machine

open Sys2Proof (CmdKey)

/-! ### Ring -/

/-- RING_STATUS (R156) returns ring state and map. -/
def execRingStatus (k : CmdKey) (s : State) : Host.Outcome State Fault Refusal :=
  s.run fun s => s.command k 0x0200 (plen 0) fun s _ =>
    .done 0 (s.shown [0x2F014, 0x20004, 0x30004] ++ leBytes 2 s.ringNet.foreign.length ++ leBytes 2 0
      ++ s.shown (wordOffs 0x2F800 508)) s

/-- The result of an enumeration (Table 5.10). -/
def enumResult (returned last count : Nat) : List Byte := leBytes 1 returned ++ leBytes 1 last ++ leBytes 2 count

/-- RING_ENUMERATE begins a run (R142). -/
def execRingEnumerate (k : CmdKey) (s : State) : Host.Outcome State Fault Refusal :=
  s.run fun s => s.command k 0x0201 (plen 4) fun s e =>
    let first := e.arg 0 1
    if first = 0 ∨ first = 255 ∨ 1 < e.arg 1 1 ∨ e.arg 2 2 ≠ 0 then .no s 0x22
    else if !s.ringUp 0 then .done 0x24 (enumResult 0 0 0) s
    else .wait (.unit first (e.arg 1 1)) (s.enumStart first (e.arg 1 1) k)

/-- FIRST_ID of the run's command. -/
def State.enumFirst (s : State) (k : CmdKey) : Nat := match s.entry k with | some e => e.arg 0 1 | none => 0

/-- The own frame is back: the run ends (R142). NEXT_ID 255 says that IDs ran out. -/
def State.enumDone (s : State) (f : List Byte) : State :=
  match s.ringNet.enum with
  | none => s
  | some r =>
    let next := leAt f 15 1
    let last := if next = s.enumFirst r.key then 0 else next - 1
    let t := { s with ringNet := { s.ringNet with enum := none } }
    t.reply r.key (if next = 255 then 0x0202 else 0) (enumResult 1 last (leAt f 20 2))

/-- An enumeration frame arrives on Drag (R142). A hub in HELD delivers nothing to itself (R146): it passes the frame on
unchanged, and the return of its own is lost (DESIGN CHOICE, log entry 60). -/
def State.enumRx (s : State) (f : List Byte) : State :=
  if !s.enumTakes f then s
  else if s.enumBack f then (if s.inHeld then s else s.enumDone f)
  else s.enumPass f

/-- The bound of a run ends without its frame (R142). -/
def State.enumExpire (s : State) : State :=
  match s.ringNet.enum with
  | none => s
  | some r =>
    match s.entry r.key with
    | some e =>
      match e.phase with
      | .executing at_ _ =>
        if s.uptime < at_ + s.bound e then s
        else
          let t := { s with ringNet := { s.ringNet with enum := none } }
          t.reply r.key 0x0201 (enumResult 0 (if s.fixedId then 0 else e.arg 0 1) 1)
      | _ => { s with ringNet := { s.ringNet with enum := none } }
    | none => { s with ringNet := { s.ringNet with enum := none } }

/-- Whether RING_PORT_CONFIG changes only the rate of a port with link, beside FALLBACK: such a change is announced first
(R129). -/
def State.rateOnly (s : State) (e : CmdEntry) : Bool :=
  let b := ringBase e.idx
  (s.pstate e.idx == 2 || s.pstate e.idx == 3) && e.arg 0 1 == 1 && e.arg 1 1 != s.get b RING_PCTRL_RATE
    && e.arg 2 1 == s.get b RING_PCTRL_FEC

/-- RING_PORT_CONFIG (R156) writes RING_PCTRL (Table 5.10); a rate change of a port with link is announced in its hellos and made
at the announced ring time (R129). -/
def execRingPortConfig (k : CmdKey) (s : State) : Host.Outcome State Fault Refusal :=
  s.run fun s => s.command k 0x0202 (plen 4) fun s e =>
    if !((List.range 4).all fun i => decide (e.arg i 1 ≤ 1)) then .no s 0x22
    else if s.pstate e.idx = 4 then .no s 0x24
    else
      let w (rate : Nat) := BitVec.ofNat 32 (e.arg 0 1 + 2 * rate + 4 * e.arg 2 1 + 8 * e.arg 3 1)
      if s.rateOnly e then
        .yes ((s.regWrite 2 (ringBase e.idx) (w (s.get (ringBase e.idx) RING_PCTRL_RATE))).announceRate e.idx (e.arg 1 1))
      else .yes (s.regWrite 2 (ringBase e.idx) (w (e.arg 1 1)))

/-- A ring port is taken for a loop test: what RING_PSTAT showed is kept for an abort (R156). -/
def State.loopTake (s : State) (p mode : Nat) : State :=
  let w := s.rd (ringBase p + 4)
  let t := (s.portLeave p 4 3).set (ringBase p) RING_PCTRL_LOOP mode
  t.setRport p { t.rport p with loopFrom := some w.toNat }

/-- RING_LOOP_TEST takes its ports for the test (Table 5.10). -/
def State.loopBegin (s : State) (e : CmdEntry) : CmdRes :=
  let mode := e.arg 0 1
  let ps := loopPorts e.idx mode
  if mode = 0 ∨ 2 < mode ∨ 1 < e.arg 1 1 ∨ e.arg 2 2 < 64 ∨ s.get (ringBase e.idx) RING_MAXFRM_BYTES < e.arg 2 2
      ∨ e.arg 4 4 = 0 ∨ 1000000 < e.arg 4 4 then .no s 0x22
  else if e.arg 1 1 = 0 ∧ ps.any s.ringUp then .no s 0x0203
  else .wait (.unit e.idx mode) (ps.foldl (fun (s : State) p => s.loopTake p mode) s)

/-- The loop test ends with what its frames found (Table 5.10). -/
def State.loopEnd (s : State) (e : CmdEntry) (p mode intact errors lo hi : Nat) : State :=
  let n := e.arg 4 4
  (s.loopOver (loopPorts p mode)).reply e.key (if intact = n ∧ errors = 0 then 0 else 0x0204)
    (leBytes 4 n ++ leBytes 4 intact ++ leBytes 4 errors ++ leBytes 4 lo ++ leBytes 4 hi)

/-- The row for a command that waits: its unit condition, if it does. -/
def State.waiting (s : State) (k : CmdKey) (op : Nat) : Option (CmdEntry × Nat × Nat) :=
  match s.entry k with
  | some e =>
    match e.phase with
    | .executing _ (some (.unit a b)) => if pktOp e.packet = op then some (e, a, b) else none
    | _ => none
  | none => none

/-- RING_LOOP_TEST (R156): begins when the command executes; met again while it runs, its frames have passed with these counts
and latencies. -/
def execRingLoopTest (k : CmdKey) (intact errors lo hi : BitVec 32) (s : State) : Host.Outcome State Fault Refusal :=
  s.run fun s =>
    if s.inHeld then s else
    match s.waiting k 0x0203 with
    | some (e, p, mode) => s.loopEnd e p mode intact.toNat errors.toNat lo.toNat hi.toNat
    | none => s.command k 0x0203 (plen 8) State.loopBegin

/-- RING_PORT_SET (R156) writes its register images (Table 5.10). -/
def execRingPortSet (k : CmdKey) (s : State) : Host.Outcome State Fault Refusal :=
  s.run fun s => s.command k 0x8200 (fun n => n == 16 || n == 20) fun s e =>
    let b := ringBase e.idx
    if e.ukind = 9 then
      if e.ps.length ≠ 16 then .no s 0x21 else .yes (s.regWrites 2 (e.images [b + 0x18, b + 0x14, b + 0x10, b]))
    else if e.ps.length ≠ 20 then .no s 0x21
    else .yes (s.regWrites 2 (e.images (wordOffs 0x2F000 5)))

/-! ### MACs -/

/-- Port of a unit of kind 0x09 or 0x0A. -/
def CmdEntry.port (e : CmdEntry) : Nat := if e.ukind = 9 then e.idx else 2 + e.idx

/-- Whether the fields of LMAC_CONFIG are in range (Table 6.5). -/
def lmacConfigOk (e : CmdEntry) : Bool :=
  decide (e.arg 0 1 ≤ 1 ∧ e.arg 1 1 ≤ 2 ∧ e.arg 2 1 ≤ 3 ∧ 1 ≤ e.arg 14 1 ∧ e.arg 14 1 ≤ 128 ∧ 1 ≤ e.arg 15 1 ∧ e.arg 15 1 ≤ 15)
    && (if e.ukind = 9 then e.arg 4 10 == 0
        else decide (e.arg 4 1 ≤ 1 ∧ e.arg 5 1 ≤ 1 ∧ 1518 ≤ e.arg 6 2 ∧ e.arg 6 2 ≤ 9216 ∧ 1 ≤ e.arg 8 2
          ∧ e.arg 10 2 ≤ 1024 ∧ 1 ≤ e.arg 12 2 ∧ e.arg 12 2 < e.arg 10 2))

/-- LMAC_CONFIG sets a MAC (R182). -/
def execLmacConfig (k : CmdKey) (s : State) : Host.Outcome State Fault Refusal :=
  s.run fun s => s.command k 0x0303 (plen 16) fun s e =>
    let b := macBase e.port
    let pre := b2n (e.arg 1 1 != 0) + 2 * b2n (e.arg 1 1 == 2) + 4 * e.arg 2 1 + 2 ^ 8 * e.arg 3 1 + 2 ^ 16 * e.arg 14 1
      + 2 ^ 24 * e.arg 15 1
    let common := [(b, 3 * e.arg 0 1), (b + 8, pre)]
    let pause := [(b + 0x10, e.arg 4 1 + 2 * e.arg 5 1 + 2 ^ 16 * e.arg 8 2), (b + 0x14, e.arg 10 2 + 2 ^ 16 * e.arg 12 2),
      (b + 0x24, e.arg 6 2)]
    if !lmacConfigOk e then .no s 0x22 else .yes (s.regWrites 2 (if e.ukind = 9 then common else common ++ pause))

/-- STATS_READ (R182) returns the counters of a port or context (Tables 6.5, 7.5). -/
def execStatsRead (k : CmdKey) (s : State) : Host.Outcome State Fault Refusal :=
  s.run fun s => s.command k 0x0304 (plen 0) fun s e =>
    if e.ukind = 11 then .done 0 (s.shown (wordOffs (ctxBase e.idx + 0x1C) 9)) s
    else
      let b := macBase e.port
      .done 0 (s.shown (wordOffs (b + 0x40) 22 ++ [b + 0x1C])
        ++ if e.ukind = 9 then s.shown (wordOffs (ringBase e.idx + 0x40) 20) else []) s

/-! ### Streams -/

/-- Longest frame an egress port sends (R160). -/
def State.egressMax (s : State) (p : Nat) : Nat :=
  if p < 2 then s.get (ringBase p) RING_MAXFRM_BYTES else s.get (macBase p) LMAC_MAXFRM_BYTES

/-- Largest egress maximum of the ports of a PORTS field. -/
def State.largestMax (s : State) (ports : Nat) : Nat :=
  (allPorts.filter fun p => if p < 2 then bitAt ports 0 else bitAt ports (p - 1)).foldl (fun m p => max m (s.egressMax p)) 0

/-- Most bytes a burst holds. -/
def burstMax : Nat := 4194240

/-- Bytes in units of 64, rounded up. -/
def in64 (n : Nat) : Nat := (n + 63) / 64

/-- STREAM_OPEN sets a context up and enables it (R210). -/
def State.streamOpen (s : State) (e : CmdEntry) : State :=
  let b := ctxBase e.idx
  let cir := e.arg 8 4
  let pir := e.arg 12 4
  let bytes := min burstMax (64 * in64 (max (s.largestMax (e.arg 2 1)) ((pir + 7) / 8)))
  let ctrl := 1 + 2 * (e.arg 0 1 % 2) + 4 * (e.arg 0 1 / 2 % 2) + 8 * (e.arg 0 1 / 4 % 2) + 16 * e.arg 1 1
    + 128 * (e.arg 0 1 / 8 % 2) + 2 ^ 8 * e.arg 2 1 + 2 ^ 13 * (e.arg 0 1 / 16 % 2) + 2 ^ 16 * e.arg 3 1
  s.regWrites 2 [(b + 4, e.arg 6 2), (b + 8, e.arg 4 2), (b + 0xC, cir), (b + 0x10, pir), (b + 0x14, in64 bytes + 2 ^ 16 * in64 bytes),
    (b + 0x18, 32 + b2n (cir != 0 || pir != 0)), (b, ctrl)]

/-- Whether the parameters of STREAM_OPEN are in range (Table 7.5). -/
def streamOpenOk (e : CmdEntry) : Bool :=
  decide (e.arg 0 1 < 32 ∧ e.arg 1 1 ≤ 7 ∧ e.arg 2 1 ≠ 0 ∧ e.arg 2 1 < 32 ∧ e.arg 3 1 ≠ 0 ∧ 1 ≤ e.arg 4 2 ∧ e.arg 4 2 ≤ 256
    ∧ e.arg 6 2 ≤ 4094 ∧ e.arg 8 4 ≤ e.arg 12 4 ∧ e.arg 12 4 ≤ 50000000)

/-- STREAM_OPEN (R210) opens a stream context. -/
def execStreamOpen (k : CmdKey) (s : State) : Host.Outcome State Fault Refusal :=
  s.run fun s => s.command k 0x0300 (plen 16) fun s e =>
    if e.idx = 0 then .no s 0x0309
    else if s.flag (ctxBase e.idx) CTX_CTRL_EN then .no s 0x24
    else if !streamOpenOk e then .no s 0x22
    else .yes (s.streamOpen e)

/-- STREAM_CLOSE (R210) closes a stream context. -/
def execStreamClose (k : CmdKey) (s : State) : Host.Outcome State Fault Refusal :=
  s.run fun s => s.command k 0x0301 (plen 0) fun s e =>
    if e.idx = 0 then .no s 0x0309
    else .done 0 (leBytes 4 ((s.cq e.idx).filter fun f => f.todo != 0).length) (s.ctxClose e.idx)

/-- STREAM_SET writes a context's images; on context 0 only TC, WEIGHT and QDEPTH (R210). -/
def execStreamSet (k : CmdKey) (s : State) : Host.Outcome State Fault Refusal :=
  s.run fun s => s.command k 0x8300 (plen 28) fun s e =>
    let b := ctxBase e.idx
    if e.idx = 0 then
      let old := s.rd b
      let ctrl := putBits (putBits old 4 3 (bitsOf (BitVec.ofNat 32 (e.arg 0 4)) 4 3)) 16 8 (bitsOf (BitVec.ofNat 32 (e.arg 0 4)) 16 8)
      .yes (s.regWrites 2 [(b, ctrl.toNat), (b + 8, e.arg 8 4)])
    else .yes (s.regWrites 2 (e.images (wordOffs b 7)))

/-- METER_SET sets a context's meter (R210). -/
def execMeterSet (k : CmdKey) (s : State) : Host.Outcome State Fault Refusal :=
  s.run fun s => s.command k 0x8301 (plen 20) fun s e =>
    let b := ctxBase e.idx
    let most := s.largestMax (s.get b CTX_CTRL_PORTS)
    let bad (n : Nat) : Bool := decide (n < most ∨ burstMax < n)
    if e.arg 4 4 < e.arg 0 4 ∨ bad (e.arg 8 4) ∨ bad (e.arg 12 4) ∨ 32 ≤ e.arg 16 1 ∨ e.arg 17 3 ≠ 0 then .no s 0x22
    else
      .yes (s.regWrites 2 [(b + 0xC, e.arg 0 4), (b + 0x10, e.arg 4 4),
        (b + 0x14, min 65535 (in64 (e.arg 8 4)) + 2 ^ 16 * min 65535 (in64 (e.arg 12 4))), (b + 0x18, e.arg 16 1)])

/-! ### Gate lists -/

/-- Whether the times of a GCL_LOAD are in range (R203, R207). -/
def gclOk (e : CmdEntry) (n : Nat) : Bool :=
  decide (e.arg 6 4 < nsPerSec ∧ e.arg 10 4 ≤ 1000000 ∧ 1000 ≤ e.arg 16 4 ∧ e.arg 16 4 ≤ nsPerSec ∧ e.arg 20 1 ≤ 1 ∧ e.arg 21 3 = 0)
    && (List.range n).all fun i => e.arg (25 + 8 * i) 3 == 0 && decide (10 ≤ e.arg (28 + 8 * i) 4 ∧ e.arg (28 + 8 * i) 4 ≤ nsPerSec)

/-- GCL_LOAD writes the admin list and requests the swap (R207, R210). -/
def State.gclLoad (s : State) (p : Nat) (e : CmdEntry) (n : Nat) : State :=
  let b := schedBase p
  let w (s : State) (a v : Nat) : State := s.wr a (BitVec.ofNat 32 v)
  let t := w (w (w (w (w (w s (b + 8) (e.arg 6 4)) (b + 0xC) (e.arg 0 4)) (b + 0x10) (e.arg 4 2)) (b + 0x14) (e.arg 16 4))
    (b + 0x18) (e.arg 10 4)) (b + 0x1C) n
  let t := t.each (List.range n) fun s i => w (w s (adminEntry p i) (e.arg (24 + 8 * i) 1)) (adminEntry p i + 4) (e.arg (28 + 8 * i) 4)
  (t.set b SCHED_PCTRL_GATE_EN (e.arg 20 1)).swapRequest p

/-- GCL_LOAD (R210) gives a port a gate list. -/
def execGclLoad (k : CmdKey) (s : State) : Host.Outcome State Fault Refusal :=
  s.run fun s => s.command k 0x0302 (fun n => n % 8 == 0 && decide (24 ≤ n)) fun s e =>
    let n := e.arg 14 2
    if n = 0 ∨ 256 < n then .no s 0x22
    else if e.ps.length ≠ 24 + 8 * n then .no s 0x21
    else if !gclOk e n then .no s 0x22
    else if !s.timeValid then .no s 0x40
    else if s.flag (schedBase e.port) SCHED_PCTRL_SWAP_LATCHED then .no s 0x030A
    else
      let t := s.gclLoad e.port e n
      .done 0 (stampBytes (t.eport e.port).swapAt ++ leBytes 2 0) t

end Sys2Proof.Machine
end

