-- ==== Sys2Proof/Machine/CmdTime.lean ====
section
/-! DEFINITION. Command rows of groups 0x04, 0x05 and 0x06: time, ledger and process image, bridge (R238, R268, R294). -/

namespace Sys2Proof.Machine

open Sys2Proof (CmdKey)

/-! ### Time -/

/-- The grandmaster as TIME_STATUS shows it: clockClass, priority1, stepsRemoved; zeros without one. -/
def State.gmShown (s : State) : List Byte :=
  match (if s.timeState = 4 then some s.ownData else s.time.master) with
  | some d => leBytes 1 d.cls ++ leBytes 1 d.prio1 ++ leBytes 2 (min 65535 d.steps)
  | none => leBytes 4 0

/-- The 64 bytes of TIME_STATUS (Table 8.7). -/
def State.timeStatus (s : State) : List Byte :=
  s.shown [timeBase + 8, timeBase] ++ stampBytes s.ring ++ leBytes 2 0 ++ s.shown [timeBase + 0x38] ++ leBytes 8 s.timeInc
    ++ s.shown [timeBase + TIME_GM_ID_LO_ID.off, timeBase + TIME_GM_ID_HI_ID.off] ++ s.gmShown
    ++ leBytes 4 (if s.timeState = 3 then (s.uptime - s.time.holdAt) / 1000000 else 0)
    ++ s.shown [timePort 0 + TIME_PORT_PDELAY_DELAY.off, timePort 1 + TIME_PORT_PDELAY_DELAY.off,
      timeBase + TIME_STEPS.off, timeBase + TIME_JUMPS_REFUSED.off]

/-- TIME_STATUS (R238) returns the time state. -/
def execTimeStatus (k : CmdKey) (s : State) : Host.Outcome State Fault Refusal :=
  s.run fun s => s.command k 0x0400 (plen 0) fun s _ => .done 0 s.timeStatus s

/-- Domain, priorities and class in force stay until the next Announce is sent (R238). DESIGN CHOICE (log entry 139): a hub that
sends none, since it is not GRANDMASTER, takes the new ones at once. -/
def State.roleHold (s : State) : State :=
  if s.timeState = 4 then { s with time := { s.time with roleHeld := some s.roleNow } } else s

/-- TIME_ROLE (R238) sets role, mode and priorities (Table 8.7). -/
def execTimeRole (k : CmdKey) (s : State) : Host.Outcome State Fault Refusal :=
  s.run fun s => s.command k 0x0401 (plen 8) fun s e =>
    if 1 < e.arg 0 1 ∨ 1 < e.arg 1 1 ∨ 4 < e.arg 5 1 ∨ 127 < e.arg 6 1 ∨ 1 < e.arg 7 1 then .no s 0x22
    else
      let w := e.arg 0 1 + 2 * e.arg 1 1 + 4 * e.arg 7 1 + 2 ^ 4 * e.arg 5 1 + 2 ^ 8 * e.arg 6 1 + 2 ^ 16 * e.arg 2 1
        + 2 ^ 24 * e.arg 3 1
      .yes ((s.roleHold.set timeBase TIME_CLOCKQ_CLOCK_CLASS (e.arg 4 1)).regWrite 2 timeBase (BitVec.ofNat 32 w))

/-- The register writes of a TIME_SCHEDULE. -/
def scheduleWrites (e : CmdEntry) : List (Nat × Nat) :=
  (List.range (e.arg 11 1)).map fun i => (e.arg (20 + 8 * i) 4, e.arg (24 + 8 * i) 4)

/-- Whether the parameters of TIME_SCHEDULE are in range (Table 8.7, R235). -/
def scheduleOk (e : CmdEntry) : Bool :=
  decide (e.arg 6 4 < nsPerSec ∧ e.arg 10 1 ≤ 1 ∧ (e.arg 12 4 = 0 ∨ (10000 ≤ e.arg 12 4 ∧ e.arg 12 4 ≤ 4000000000)))
    && (scheduleWrites e).all fun p => listOffset p.1 && !popWord p.1

/-- TIME_SCHEDULE (R238) places an action. -/
def execTimeSchedule (k : CmdKey) (s : State) : Host.Outcome State Fault Refusal :=
  s.run fun s => s.command k 0x0402 (fun n => n % 8 == 4 && decide (20 ≤ n)) fun s e =>
    let n := e.arg 11 1
    let at_ := e.arg 0 6 * nsPerSec + e.arg 6 4
    if n = 0 ∨ 16 < n then .no s 0x22
    else if e.ps.length ≠ 20 + 8 * n then .no s 0x21
    else if !scheduleOk e then .no s 0x22
    else
      match s.placeAction at_ (e.arg 12 4) (e.arg 16 4) (e.arg 10 1 == 1) (scheduleWrites e) with
      | none => .no s 0x0401
      | some r =>
        if at_ < s.ring + 10000 then .no s 0x0402
        else if e.arg 10 1 = 1 ∧ !s.timeValid then .no s 0x40
        else .done 0 (leBytes 4 r.1) r.2

/-- An action is withdrawn (R237): the firings done, and the state. A firing that is due counts as fired and still runs; it
is the last of a periodic action, and a one-shot action is no longer there to cancel. -/
def State.actionCancel (s : State) (i : Nat) (a : Action) : Option (Nat × State) :=
  if s.ring < a.due then some (a.fired, s.setAction i none)
  else if a.period = 0 then none
  else some (a.fired + 1, s.setAction i (some { a with repeat_ := a.fired + 1 }))

/-- TIME_CANCEL withdraws an action (R237). -/
def execTimeCancel (k : CmdKey) (s : State) : Host.Outcome State Fault Refusal :=
  s.run fun s => s.command k 0x0403 (plen 4) fun s e =>
    if e.arg 2 2 ≠ 0 then .no s 0x22
    else
      match s.actionList.find? fun p => p.2.id == e.arg 0 2 with
      | some p =>
        match s.actionCancel p.1 p.2 with
        | some r => .done 0 (leBytes 4 r.1) r.2
        | none => .no s 0x0403
      | none => .no s 0x0403

/-- The effect of TIME_SET by its OP; none for a parameter out of range (Table 8.7, R214, R215). -/
def State.timeSet (s : State) (e : CmdEntry) : Option State :=
  let off := toSigned 64 (e.arg 4 8)
  match e.arg 0 1 with
  | 1 =>
    if nsPerSec ≤ e.arg 10 4 ∨ e.arg 14 2 ≠ 0 then none
    else some ({ s with ringFrac := 0, time := { s.time with everSet := true } }.stepBy ((e.arg 4 6 * nsPerSec + e.arg 10 4 : Nat) - (s.ring : Int)))
  | 2 => if e.arg 12 4 ≠ 0 then none else some (s.stepBy off)
  | 3 => if e.arg 12 4 ≠ 0 ∨ off < -1000000000 ∨ 1000000000 < off then none else some (s.slewBy off)
  | 4 => if e.arg 12 4 ≠ 0 ∨ e.arg 4 8 < incMin ∨ incMax < e.arg 4 8 then none else some (s.setInc (e.arg 4 8))
  | _ => none

/-- TIME_SET (R238) sets, steps or slews the counter. -/
def execTimeSet (k : CmdKey) (s : State) : Host.Outcome State Fault Refusal :=
  s.run fun s => s.command k 0x8400 (plen 16) fun s e =>
    if s.timeState ≠ 0 ∧ s.timeState ≠ 4 then .no s 0x24
    else if e.arg 1 3 ≠ 0 then .no s 0x22
    else match s.timeSet e with | some t => .yes t | none => .no s 0x22

/-! ### Ledger -/

/-- Source codes of Table 9.1 on the larger variant, which a peer may be. -/
def sourceCode (c : Nat) : Bool :=
  decide (c < 3 ∨ (0x10 ≤ c ∧ c < 0x58) ∨ c = 0x60 ∨ c = 0x61 ∨ c = 0x70)

/-- A subscription is made (R248). -/
def State.subscribe (s : State) (i node source start : Nat) : State :=
  ((s.wr (subBase i) (BitVec.ofNat 32 (node + 2 ^ 8 * source + 2 ^ 16))).setSubStart i start).setSub i {}

/-- SUBSCRIBE (R248) adds a subscription. -/
def execSubscribe (k : CmdKey) (s : State) : Host.Outcome State Fault Refusal :=
  s.run fun s => s.command k 0x0500 (plen 16) fun s e =>
    let s := s.freeSubs
    let node := e.arg 0 1
    let c := e.arg 1 1
    let own := node == 0 || (s.hasNode && node == s.nodeId)
    let start := e.arg 4 6 * nsPerSec + e.arg 10 4
    if node = 255 ∨ e.arg 2 2 ≠ 0 ∨ e.arg 14 2 ≠ 0 ∨ nsPerSec ≤ e.arg 10 4 ∨ !(if own then s.sourceOk c else sourceCode c) then .no s 0x22
    else
      match (List.range 256).find? fun i => !s.subUsed i with
      | none => .no s 0x0501
      | some i =>
        if (s.findSub node c own).isSome then .no s 0x0502
        else if start ≠ 0 ∧ start < s.storeNow then .no s 0x0504
        else if start ≠ 0 ∧ !s.timeValid then .no s 0x40
        else
          let at_ := if start = 0 then s.storeNow + s.horizon else start
          .done 0 (leBytes 4 i ++ stampBytes at_ ++ leBytes 2 0) (s.subscribe i node c at_)

/-- UNSUBSCRIBE (R248) ends a subscription. -/
def execUnsubscribe (k : CmdKey) (s : State) : Host.Outcome State Fault Refusal :=
  s.run fun s => s.command k 0x0501 (plen 16) fun s e =>
    let i := e.arg 0 2
    let end_ := e.arg 4 6 * nsPerSec + e.arg 10 4
    if e.arg 2 2 ≠ 0 ∨ e.arg 14 2 ≠ 0 ∨ nsPerSec ≤ e.arg 10 4 then .no s 0x22
    else if 256 ≤ i ∨ !s.subUsed i then .no s 0x0503
    else if end_ ≠ 0 ∧ end_ < s.storeNow then .no s 0x0504
    else
      let at_ := if end_ = 0 then s.storeNow else end_
      .done 0 (stampBytes at_ ++ leBytes 2 0) (s.setSubEnd i at_).freeSubs

/-- OP 1 of LEDGER_CONFIG: intervals and the share of the fast circle. -/
def State.ledgerSizes (s : State) (e : CmdEntry) : CmdRes :=
  let wm := e.arg 1 1
  let fast := e.arg 2 2
  let h := e.arg 4 4
  if wm = 0 ∨ 10 < wm ∨ h < 2 ∨ 10000 < h ∨ s.partCount 4 ≤ fast then .no s 0x22
  else if s.flag ledgerBase LEDGER_CTRL_EN ∧ fast ≠ s.get ledgerBase LEDGER_FAST_INGOTS then .no s 0x24
  else .yes (((s.set ledgerBase LEDGER_CFG_WM_INT_US wm).set ledgerBase LEDGER_CFG_HORIZON_US h).set ledgerBase LEDGER_FAST_INGOTS fast)

/-- OP 4 of LEDGER_CONFIG: a whole trigger in one step. -/
def State.trigSet (s : State) (e : CmdEntry) : CmdRes :=
  let b := trigBase (e.arg 1 1)
  if 31 < e.arg 1 1 ∨ e.arg 2 2 ≠ 0 ∨ 11 < e.arg 8 1 % 16 then .no s 0x22
  else
    let words := (List.range 20).map fun i => (b + 4 * i, e.arg (4 + 4 * i) 4)
    let t := s.set b TRIG_MATCH1_EN 0
    let put (s : State) (p : Nat × Nat) : State := s.fieldsWrite 2 p.1 (BitVec.ofNat 32 p.2)
    .yes (put ((words.filter fun p => p.1 != b + 4).foldl put t) (b + 4, e.arg 8 4))

/-- LEDGER_CONFIG (R268) sets intervals, publication, running state or a trigger. -/
def execLedgerConfig (k : CmdKey) (s : State) : Host.Outcome State Fault Refusal :=
  s.run fun s => s.command k 0x0502 (fun n => n == 8 || n == 84) fun s e =>
    let op := e.arg 0 1
    if op = 0 ∨ 4 < op then .no s 0x22
    else if (op = 4) ≠ (e.ps.length = 84) then .no s 0x21
    else if op = 1 then s.ledgerSizes e
    else if op = 2 then
      let ctx := e.arg 2 2
      if !s.sourceOk (e.arg 1 1) ∨ (ctx ≠ 0 ∧ ctx < 5) ∨ 1023 < ctx ∨ 1 < e.arg 4 1 ∨ e.arg 5 3 ≠ 0 then .no s 0x22
      else .yes (s.regWrite 2 (ledgerBase + 0x400 + 4 * e.arg 1 1) (BitVec.ofNat 32 (ctx + 2 ^ 12 * e.arg 4 1)))
    else if op = 3 then
      if 1 < e.arg 1 1 ∨ e.arg 2 6 ≠ 0 then .no s 0x22 else .yes (s.regWrite 2 ledgerBase (BitVec.ofNat 32 (e.arg 1 1)))
    else s.trigSet e

/-- LEDGER_SET (R268) writes its register images. -/
def execLedgerSet (k : CmdKey) (s : State) : Host.Outcome State Fault Refusal :=
  s.run fun s => s.command k 0x8500 (plen 16) fun s e => .yes (s.regWrites 2 (e.images (wordOffs ledgerBase 4)))

/-- PIMG_MAP (R268) sets, reads or clears a slot's map entry (R262). -/
def execPimgMap (k : CmdKey) (s : State) : Host.Outcome State Fault Refusal :=
  s.run fun s => s.command k 0x0503 (plen 20) fun s e =>
    let n := e.idx
    let m := s.slotMap n
    if s.slotCount ≤ n ∨ e.arg 1 3 ≠ 0 then .no s 0x22
    else
      match e.arg 0 1 with
      | 1 =>
        if s.mapValid (e.arg 4 4) (e.arg 8 4) (e.arg 12 4) (e.arg 16 4) then
          .yes (s.slotMapSet n (e.arg 4 4) (e.arg 8 4) (e.arg 12 4) (e.arg 16 4))
        else .no s 0x22
      | 2 => .done 0 (leBytes 4 m.w0 ++ leBytes 4 m.w1 ++ leBytes 4 m.w2 ++ leBytes 4 m.w3) s
      | 3 => .yes (s.slotMapSet n 0 0 0 0)
      | _ => .no s 0x22

/-! ### Bridge -/

/-- BRIDGE_STATUS (R294) returns queue, interrupts, counters, Ladles and Salvage slots. -/
def execBridgeStatus (k : CmdKey) (s : State) : Host.Outcome State Fault Refusal :=
  s.run fun s => s.command k 0x0600 (plen 0) fun s _ =>
    .done 0 (s.shown ([0x60100C, 0x60102C] ++ wordOffs 0x601040 11)
      ++ s.shown ((List.range 32).flatMap fun l => wordOffs (0x601100 + 16 * l) 3)
      ++ s.shown ((List.range 8).flatMap fun l => wordOffs (0x601400 + 16 * l) 3)) s

/-- Bytes of a space of this hub that a user window may cover (Table 2.3, R284). -/
def State.spaceSize (s : State) (space : Nat) : Nat :=
  match space with | 0 => 2 ^ 24 | 1 => 2 ^ 26 | 2 => 64 * s.slotCount | _ => s.partSize 4

/-- OP 1 of BRIDGE_WINDOW: a user window. -/
def State.windowSet (s : State) (e : CmdEntry) : CmdRes :=
  let b := 0x601500 + 0x10 * e.arg 1 1
  let size := e.arg 8 4
  if 7 < e.arg 1 1 ∨ 3 < e.arg 2 1 ∨ 1 < e.arg 3 1 ∨ e.arg 4 4 % 4 ≠ 0 ∨ size < 4 ∨ 65536 < size ∨ size % 4 ≠ 0
      ∨ s.spaceSize (e.arg 2 1) < e.arg 4 4 + size then .no s 0x22
  else
    .yes ((s.set b BRIDGE_UWIN_CFG_EN 0).regWrites 2 [(b + 4, e.arg 4 4), (b + 8, size), (b, e.arg 2 1 + 2 ^ 16 * e.arg 3 1)])

/-- OP 2 of BRIDGE_WINDOW: a straight wire (R293). -/
def State.wireSet (s : State) (e : CmdEntry) : CmdRes :=
  let w := e.arg 1 1
  let src := e.arg 4 1
  let kind := e.arg 5 1
  let d := e.arg 6 1
  if 7 < w ∨ 1 < e.arg 2 1 ∨ 1 < e.arg 3 1 ∨ 2 < kind ∨ e.arg 7 5 ≠ 0 ∨ s.nDio ≤ src ∨ (kind = 2 ∧ s.nDio ≤ d) ∨ (kind = 1 ∧ 3 < d) then
    .no s 0x22
  else if s.lineSafety src ∨ (kind = 2 ∧ s.lineSafety d) then .no s 0x60
  else
    let cfg (en : Nat) : Word := BitVec.ofNat 32 (src + 2 ^ 8 * e.arg 3 1 + 2 ^ 9 * en + 2 ^ 12 * kind + 2 ^ 16 * d)
    let t := s.wr (wireBase w) (cfg (e.arg 2 1))
    if e.arg 2 1 = 1 ∧ t.wireReason w ≠ 0 then .done 0x0601 (leBytes 1 (t.wireReason w)) (s.wr (wireBase w) (cfg 0)).wiresEval
    else .yes t.wiresEval

/-- OP 3 of BRIDGE_WINDOW: an interrupt route (R290). -/
def State.routeSet (s : State) (e : CmdEntry) : CmdRes :=
  let k := e.arg 1 1
  if 30 < k ∨ 1 < e.arg 2 1 ∨ 3 < e.arg 3 1 ∨ e.arg 4 8 ≠ 0 then .no s 0x22
  else
    let t := s.wr 0x601020 (putBits (s.rd 0x601020) k 1 (e.arg 2 1))
    let m := if k < 16 then 0x601024 else 0x601028
    .yes (t.wr m (putBits (t.rd m) (2 * (k % 16)) 2 (e.arg 3 1)))

/-- BRIDGE_WINDOW (R294) sets a user window, a straight wire or an interrupt route. -/
def execBridgeWindow (k : CmdKey) (s : State) : Host.Outcome State Fault Refusal :=
  s.run fun s => s.command k 0x0601 (plen 12) fun s e =>
    match e.arg 0 1 with
    | 1 => s.windowSet e
    | 2 => s.wireSet e
    | 3 => s.routeSet e
    | _ => .no s 0x22

/-- SALVAGE_READ (R294) returns, and frees when asked, a Salvage slot. -/
def execSalvageRead (k : CmdKey) (s : State) : Host.Outcome State Fault Refusal :=
  s.run fun s => s.command k 0x0602 (plen 4) fun s e =>
    let n := e.arg 0 1
    let x := s.salv n
    if 7 < n ∨ 1 < e.arg 1 1 ∨ e.arg 2 2 ≠ 0 then .no s 0x22
    else if !x.held then .no s 0x0602
    else
      .done 0 (leBytes 1 x.init ++ leBytes 1 x.code ++ leBytes 2 x.len ++ leBytes 6 x.addr ++ leBytes 2 0
        ++ leBytes 4 (shortStamp x.stamp) ++ (x.data ++ List.replicate x.len 0#8).take x.len)
        (if e.arg 1 1 = 1 then s.salvDrop n else s)

/-- BRIDGE_SET (R294) writes its register images. -/
def execBridgeSet (k : CmdKey) (s : State) : Host.Outcome State Fault Refusal :=
  s.run fun s => s.command k 0x8600 (plen 28) fun s e =>
    .yes (s.regWrites 2 (e.images [0x601000, 0x601004, 0x601008, 0x601020, 0x601024, 0x601028, 0x601030]))

end Sys2Proof.Machine
end

