-- ==== Sys2Proof/Machine/CmdCan.lean ====
section
/-! DEFINITION. Command rows of group 0x07: the CAN controllers (R299, R300, R302, R307, R309, R312, R318, R322, R325, R329). -/

namespace Sys2Proof.Machine

open Sys2Proof (CmdKey)

/-! ### CAN_OPEN -/

/-- A bit timing: BRP, TSEG1, TSEG2, SJW. -/
structure CanPhase where
  brp   : Nat
  tseg1 : Nat
  tseg2 : Nat
  sjw   : Nat
  deriving DecidableEq, Repr

/-- The timing one BRP gives for a rate and sample point, if it meets Table 11.2 (R300). -/
def phaseOf (nom : Bool) (rate sp brp : Nat) : Option CanPhase :=
  if 80000000 % (brp * rate) ≠ 0 then none
  else
    let n := 80000000 / (brp * rate)
    let t2 := max (if nom then 2 else 1) ((n * (1000 - sp) + 500) / 1000)
    let t1 := n - 1 - t2
    if nom then
      if 2 ≤ t1 ∧ t1 ≤ 256 ∧ t2 ≤ 128 then some ⟨brp, t1, t2, min t2 128⟩ else none
    else if 1 ≤ t1 ∧ t1 ≤ 32 ∧ t2 ≤ 16 then some ⟨brp, t1, t2, min t2 16⟩ else none

/-- The timing CAN_OPEN derives: the least BRP that gives one (R300). -/
def derivePhase (nom : Bool) (rate sp : Nat) : Option CanPhase :=
  ((List.range (if nom then 256 else 32)).filterMap fun i => phaseOf nom rate sp (i + 1)).head?

/-- A timing register's word. -/
def CanPhase.word (p : CanPhase) : Nat := (p.brp - 1) + 2 ^ 8 * (p.tseg1 - 1) + 2 ^ 16 * (p.tseg2 - 1) + 2 ^ 24 * (p.sjw - 1)

/-- The secondary sample point's offset in clock periods, as far as its field holds it (R301). -/
def CanPhase.offset (p : CanPhase) : Nat := min 127 (p.brp * (1 + p.tseg1))

/-- A sample point parameter: 0 stands for its default; none when out of range. -/
def samplePoint (v dflt : Nat) : Option Nat := if v = 0 then some dflt else if 500 ≤ v ∧ v ≤ 900 then some v else none

/-- The phases of the enabled formats, or none when a rate cannot be met (Table 11.1). -/
def openPhases (e : CmdEntry) (nsp dsp : Nat) : Option (CanPhase × Option CanPhase × Option CanPhase) :=
  let nom := e.arg 0 4
  let fd := e.arg 4 4
  let xl := e.arg 8 4
  let formats := e.arg 12 1
  if nom < 20000 ∨ 1000000 < nom ∨ (bitAt formats 1 ∧ (fd < nom ∨ 8000000 < fd)) ∨ (bitAt formats 2 ∧ (xl < 1000000 ∨ 20000000 < xl)) then
    none
  else
    match derivePhase true nom nsp with
    | none => none
    | some p =>
      let q := if bitAt formats 1 then derivePhase false fd dsp else none
      let r := if bitAt formats 2 then derivePhase false xl dsp else none
      if (bitAt formats 1 && q.isNone) || (bitAt formats 2 && r.isNone) then none else some (p, q, r)

/-- CAN_XLCFG as CAN_OPEN leaves it (R301, R302). -/
def State.xlConfig (s : State) (n : Nat) (e : CmdEntry) (xl : Option CanPhase) : Word :=
  let w := putBits (s.rd (canBase n + 0x20)) 7 1 (e.arg 15 1 / 4 % 2)
  match xl with
  | some p =>
    let k := 80000000 / e.arg 8 4
    let pwms := max 1 ((k + 2) / 4)
    putBits (putBits (putBits (putBits w 0 6 pwms) 8 6 (k - pwms)) 16 6 0) 24 7 p.offset
  | none => w

/-- CAN_TDC as CAN_OPEN leaves it (R301). -/
def State.tdcConfig (s : State) (n : Nat) (e : CmdEntry) (fd xl : Option CanPhase) : Word :=
  let w := s.rd (canBase n + 0x1C)
  let w := match fd with | some p => putBits w 8 7 p.offset | none => w
  if fd.isSome || xl.isSome then putBits w 0 1 (b2n ((fd.isSome && decide (1000000 ≤ e.arg 4 4)) || xl.isSome)) else w

/-- CAN_CTRL with the settings of CAN_OPEN, EN not yet set. -/
def State.openCtrl (s : State) (n : Nat) (e : CmdEntry) : Word :=
  let f := e.arg 15 1
  let w := putBits (putBits (s.rd (canBase n)) 1 3 (e.arg 12 1)) 4 2 (e.arg 13 1)
  putBits (putBits (putBits (putBits w 6 1 (f % 2)) 7 1 (f / 2 % 2)) 10 3 (e.arg 14 1)) 15 1 (f / 8 % 2)

/-- With XL enabled, a layout of smaller slots becomes one of 2,048 bytes (Table 11.9). -/
def State.xlLayout (s : State) (n : Nat) (xl : Bool) : State :=
  if xl && decide (s.canSlot n < 2048) then
    (s.set (canBase n) CAN_STORE_SLOT 4).set (canBase n) CAN_STORE_RXN (60 - s.canTxn n)
  else s

/-- CAN_OPEN's changes in one step, and the opening (R304). -/
def State.canOpenSet (s : State) (n : Nat) (e : CmdEntry) (p : CanPhase) (fd xl : Option CanPhase) : State :=
  let b := canBase n
  let put (s : State) (o : Nat) (x : Option CanPhase) : State :=
    match x with | some q => s.wr (b + o) (BitVec.ofNat 32 q.word) | none => s
  let t := put (put (put s 0x10 (some p)) 0x14 fd) 0x18 xl
  let t := (t.wr (b + 0x1C) (s.tdcConfig n e fd xl)).wr (b + 0x20) (s.xlConfig n e xl)
  let t := ((t.xlLayout n (bitAt (e.arg 12 1) 2)).wr b (s.openCtrl n e)).canLagWritten n
  (t.openDo n).heldEval n

/-- CAN_OPEN (R329) opens a controller. -/
def execCanOpen (k : CmdKey) (s : State) : Host.Outcome State Fault Refusal :=
  s.run fun s => s.command k 0x0700 (plen 20) fun s e =>
    let n := e.idx
    match samplePoint (e.arg 16 2) 800, samplePoint (e.arg 18 2) 750 with
    | some nsp, some dsp =>
      if e.arg 12 1 = 0 ∨ 7 < e.arg 12 1 ∨ 3 < e.arg 13 1 ∨ 7 < e.arg 14 1 ∨ 15 < e.arg 15 1 then .no s 0x22
      else if s.canOpen n then .no s 0x24
      else
        match openPhases e nsp dsp with
        | none => .no s 0x0701
        | some (p, fd, xl) =>
          if !s.canFits n then .no s 0x0705
          else
            let t := s.canOpenSet n e p fd xl
            .done 0 (t.shown (wordOffs (canBase n + 0x10) 5)) t
    | _, _ => .no s 0x22

/-! ### CAN_CLOSE, CAN_SET_TIMING, CAN_SET_STORE, CAN_STATUS, CAN_PAIR -/

/-- CAN_CLOSE closes a controller; it waits for a frame in progress (R305). -/
def execCanClose (k : CmdKey) (s : State) : Host.Outcome State Fault Refusal :=
  s.run fun s => s.command k 0x0701 (plen 0) fun s e =>
    let n := e.idx
    if !s.canOpen n then .no s 0x0703
    else if s.canBusy n then .wait (.unit n 0) (s.closeBegin n)
    else
      let bs := (List.range 32).filter fun b => s.txbState n b == 1 || s.txbState n b == 2
      .done 0 (leBytes 4 bs.length) (s.closeBegin n)

/-- CAN_SET_TIMING (R329) writes the timing images (R299). -/
def execCanSetTiming (k : CmdKey) (s : State) : Host.Outcome State Fault Refusal :=
  s.run fun s => s.command k 0x8700 (plen 20) fun s e =>
    if s.canOpen e.idx then .no s 0x24
    else if 100000 < nomBit2 (BitVec.ofNat 32 (e.arg 0 4)) then .no s 0x0701
    else .yes (s.regWrites 2 (e.images (wordOffs (canBase e.idx + 0x10) 5)))

/-- CAN_SET_STORE sets the message store's layout (R309). -/
def execCanSetStore (k : CmdKey) (s : State) : Host.Outcome State Fault Refusal :=
  s.run fun s => s.command k 0x8701 (plen 8) fun s e =>
    let b := canBase e.idx
    let code := [64, 256, 512, 1024, 2048].idxOf (e.arg 0 2)
    if s.canOpen e.idx then .no s 0x24
    else if 5 ≤ code ∨ e.arg 2 1 = 0 ∨ 32 < e.arg 2 1 ∨ e.arg 3 1 ≠ 0 ∨ e.arg 4 2 = 0 ∨ 256 < e.arg 4 2 ∨ e.arg 6 2 ≠ 0 then .no s 0x22
    else if !canLayoutOk (e.arg 0 2) (e.arg 2 1) (e.arg 4 2) then .no s 0x0705
    else .done 0 (s.shown [b + 0x28]) (s.wr (b + 0x24) (BitVec.ofNat 32 (code + 2 ^ 8 * e.arg 2 1 + 2 ^ 16 * e.arg 4 2)))

/-- CAN_STATUS (R329) returns a controller's state and counters. -/
def execCanStatus (k : CmdKey) (s : State) : Host.Outcome State Fault Refusal :=
  s.run fun s => s.command k 0x0706 (plen 0) fun s e =>
    let b := canBase e.idx
    .done 0 (s.shown ([b, b + 4, b + 8, b + 0x48, b + 0x4C, b + 0x2C] ++ wordOffs (b + 0x80) 16)) s

/-- CAN_PAIR pairs a controller with a channel (R307). -/
def execCanPair (k : CmdKey) (s : State) : Host.Outcome State Fault Refusal :=
  s.run fun s => s.command k 0x0707 (plen 4) fun s e =>
    let c := e.arg 0 1
    if e.arg 1 3 ≠ 0 ∨ (c ≠ 255 ∧ s.nPch ≤ c) then .no s 0x22
    else let r := s.pairWith e.idx c; .done 0 (leBytes 4 r.1) r.2

/-! ### CAN_TX, CAN_CANCEL -/

/-- The registers of a buffer as CAN_TX fills them. -/
def State.txFill (s : State) (n : Nat) (e : CmdEntry) : State :=
  let k := txbBase n (e.arg 0 1)
  let f := e.arg 1 1
  let w (s : State) (o v : Nat) : State := s.wr (k + o) (BitVec.ofNat 32 v)
  let fmt := e.arg 2 1 + 4 * (f / 8 % 2) + 8 * (f % 2) + 16 * (f / 2 % 2) + 32 * (f / 16 % 2) + 2 ^ 8 * e.arg 10 1 + 2 ^ 16 * e.arg 11 1
  let t := w (w (w (w s 0 (e.arg 4 4 + 2 ^ 30 * (f / 4 % 2))) 4 fmt) 8 (e.arg 8 2)) 0xC (e.arg 12 4)
  w (w (w t 0x10 (e.arg 22 4)) 0x14 (e.arg 16 4)) 0x18 (e.arg 20 2)

/-- Whether the fixed parameters of CAN_TX are in range (Table 11.9). -/
def canTxOk (e : CmdEntry) : Bool :=
  let tt := bitAt (e.arg 1 1) 1
  decide (e.arg 1 1 < 64 ∧ e.arg 2 1 ≤ 2 ∧ e.arg 3 1 = 0 ∧ e.arg 4 4 < 2 ^ 30 ∧ e.arg 26 6 = 0 ∧ e.arg 22 4 < nsPerSec)
    && (tt || e.arg 16 10 == 0)

/-- CAN_TX submits a frame (R318, R319). -/
def execCanTx (k : CmdKey) (s : State) : Host.Outcome State Fault Refusal :=
  s.run fun s => s.command k 0x0702 (fun n => decide (32 ≤ n)) fun s e =>
    let n := e.idx
    let b := e.arg 0 1
    let rtr := bitAt (e.arg 1 1) 2
    let len := e.arg 8 2
    if e.ps.length ≠ 32 + (if rtr then 0 else len) then .no s 0x21
    else if !canTxOk e ∨ s.canTxn n ≤ b then .no s 0x22
    else
      match s.submitBad n b (e.arg 2 1) rtr len with
      | some st => .no s st
      | none =>
        let t := s.txFill n e
        let t := if rtr then t else t.txData n b (e.arg 2 1) (e.ps.drop 32)
        let t := t.txAccept n b
        if bitAt (e.arg 1 1) 5 then .wait (.unit n b) t
        else .done 0 (leBytes 4 (t.get (txbBase n b) CAN_TXB_STAT_SUBMITS)) t

/-- CAN_CANCEL cancels a submission (R322). -/
def execCanCancel (k : CmdKey) (s : State) : Host.Outcome State Fault Refusal :=
  s.run fun s => s.command k 0x0703 (plen 4) fun s e =>
    if s.canTxn e.idx ≤ e.arg 0 1 ∨ e.arg 1 3 ≠ 0 then .no s 0x22
    else
      let r := s.txCancel e.idx (e.arg 0 1)
      .done 0 (leBytes 4 r.1) (r.2.txMapsAfter e.idx)

/-! ### Filters and the time master -/

/-- Whether a filter element of CAN_FILTER_LOAD is one of Table 11.4: no reserved bit, and all zero under TYPE 0. -/
def elementOk (e : CmdEntry) (i : Nat) : Bool :=
  let w (j : Nat) : Nat := e.arg (8 + 16 * i + 4 * j) 4
  decide (w 1 < 2 ^ 29 ∧ w 2 < 2 ^ 27) && !bitAt (w 2) 3
    && (w 0 / 2 ^ 30 != 0 || (w 0 == 0 && w 1 == 0 && w 2 == 0 && w 3 == 0))

/-- CAN_FILTER_LOAD loads a filter set (R312). -/
def execCanFilterLoad (k : CmdKey) (s : State) : Host.Outcome State Fault Refusal :=
  s.run fun s => s.command k 0x0704 (fun n => n % 16 == 8) fun s e =>
    let n := e.idx
    let cnt := e.arg 2 2
    if 7 < e.arg 0 1 ∨ 1 < e.arg 1 1 ∨ 64 < cnt ∨ e.arg 4 4 ≠ 0 then .no s 0x22
    else if e.ps.length ≠ 8 + 16 * cnt then .no s 0x21
    else if !(List.range cnt).all (elementOk e) then .no s 0x22
    else
      let t := s.fltLoad n (e.arg 0 1) (e.ps.drop 8)
      .yes (if e.arg 1 1 = 1 then t.set (canBase n) CAN_CTRL_FSET (e.arg 0 1) else t)

/-- CAN_TIME_MASTER starts or stops the time reference master (R324, R325). -/
def execCanTimeMaster (k : CmdKey) (s : State) : Host.Outcome State Fault Refusal :=
  s.run fun s => s.command k 0x0705 (plen 16) fun s e =>
    let n := e.idx
    let b := canBase n
    if 1 < e.arg 0 1 ∨ 1 < e.arg 1 1 ∨ e.arg 2 2 ≠ 0 ∨ 2 ^ 30 ≤ e.arg 4 4 ∨ e.arg 8 4 < 100 ∨ 1000000 < e.arg 8 4 ∨ e.arg 12 4 ≠ 0 then
      .no s 0x22
    else if !s.canOpen n then .no s 0x0703
    else if s.canMode n = 1 then .no s 0x24
    else if e.arg 0 1 = 1 ∧ !s.timeValid then .no s 0x40
    else
      let t := ((s.set b CAN_TREF_CTRL_FORMAT (e.arg 1 1)).wr (b + 0x34) (BitVec.ofNat 32 (e.arg 4 4))).wr (b + 0x38) (BitVec.ofNat 32 (e.arg 8 4))
      .yes (if e.arg 0 1 = 1 then (t.trefStart n).trefAnew n else if t.flag b CAN_TREF_CTRL_EN then t.trefStop n else t)

end Sys2Proof.Machine
end

