-- ==== Sys2Proof/Machine/CmdFlask.lean ====
section
/-! DEFINITION. Command rows of groups 0x08 and 0x09: Flasks and discrete lines (R346 to R353, R365 to R371). -/

namespace Sys2Proof.Machine

open Sys2Proof (CmdKey)

/-! ### Flasks -/

/-- The engines a Flask command names (R352): MASK under SUB 0xFF; the selector's engine otherwise, MASK being 0. -/
def CmdEntry.engines (e : CmdEntry) (mask : Nat) : Option Nat :=
  let sub := unitSub e.unit
  if sub = 255 then some mask else if mask = 0 then some (2 ^ sub) else none

/-- The reply to a refused load (R353), from the code FLASK_PLOAD_STAT would show. -/
def loadStatus (r : Nat) : Nat := if r = 5 then 0x0306 else if r = 4 then 0x0802 else if r = 3 then 0x0801 else 0x31

/-- FLASK_LOAD queues a Pattern load, which answers it as it commits (R346, R347). -/
def execFlaskLoad (k : CmdKey) (s : State) : Host.Outcome State Fault Refusal :=
  s.run fun s => s.command k 0x0800 (plen 12) fun s e =>
    let f := e.idx
    match e.engines (e.arg 2 1) with
    | none => .no s 0x22
    | some mask =>
      let fl := e.arg 1 1
      if 1 < e.arg 0 1 ∨ 3 < fl ∨ e.arg 3 1 ≠ 0 ∨ 1023 < e.arg 8 2 ∨ e.arg 10 2 ≠ 0 then .no s 0x22
      else
        match s.loadCheck f (e.arg 0 1 == 1) (e.arg 4 4) (e.arg 8 2) mask (bitAt fl 0) (bitAt fl 1) true with
        | .inl r => .no s (loadStatus r)
        | .inr l => .wait (.unit f 0) (s.setFlask f { s.flask f with loads := (s.flask f).loads ++ [l] })

/-- FLASK_START starts engines, or arms them for a moment of ring time (R348). -/
def execFlaskStart (k : CmdKey) (s : State) : Host.Outcome State Fault Refusal :=
  s.run fun s => s.command k 0x0801 (plen 16) fun s e =>
    let f := e.idx
    let fl := e.arg 1 1
    let at_ := if bitAt fl 1 then e.stampAt 4 else some 0
    match e.engines (e.arg 0 1), at_ with
    | some mask, some at_ =>
      if 3 < fl ∨ e.arg 2 2 ≠ 0 ∨ e.arg 14 2 ≠ 0 then .no s 0x22
      else if (setBitsOf mask 8).any (fun i => !s.flag (ecBase f i) EC_PROG_LOADED) then .no s 0x0803
      else if bitAt fl 1 ∧ !s.timeValid then .no s 0x40
      else if bitAt fl 1 ∧ at_ < s.ring + 10000 then .no s 0x0402
      else
        let named := (setBitsOf mask 8).filter fun i => !(s.eng f i).running
        .done 0 (leBytes 4 ((named.map fun i => 2 ^ i).sum))
          ((s.engStart f mask (bitAt fl 0) (if bitAt fl 1 then some at_ else none)).driveKeep f)
    | _, _ => .no s 0x22

/-- FLASK_STOP stops engines; it waits for the engine-cycle boundary of those that run (R349). -/
def execFlaskStop (k : CmdKey) (s : State) : Host.Outcome State Fault Refusal :=
  s.run fun s => s.command k 0x0802 (plen 4) fun s e =>
    let f := e.idx
    match e.engines (e.arg 0 1) with
    | none => .no s 0x22
    | some mask =>
      if 1 < e.arg 1 1 ∨ e.arg 2 2 ≠ 0 then .no s 0x22
      else
        let live := (setBitsOf mask 8).filter fun i => !s.engStopped f i
        let hit := (live.map fun i => 2 ^ i).sum
        let t := s.engStop f mask (e.arg 1 1 == 1)
        if live.any fun i => (t.eng f i).running then .wait (.unit f hit) t else .done 0 (t.stopResult f hit) t

/-- The record FLASK_STATUS gives of one engine (Table 12.8). -/
def State.engRecord (s : State) (f e : Nat) : List Byte := s.shown (wordOffs (ecBase f e + 0x10) 11) ++ leBytes 4 0

/-- FLASK_STATUS (R352) returns the state of a Flask's engines. -/
def execFlaskStatus (k : CmdKey) (s : State) : Host.Outcome State Fault Refusal :=
  s.run fun s => s.command k 0x0803 (plen 0) fun s e =>
    let f := e.idx
    let sub := unitSub e.unit
    let es := if sub = 255 then List.range 8 else [sub]
    .done 0 (s.shown [flaskBase f, flaskBase f + FLASK_TALLY_T0.off] ++ es.flatMap fun i => s.engRecord f i) s

/-- FLASK_ENGINE_SET (R352) writes an engine's settings (R347). -/
def execFlaskEngineSet (k : CmdKey) (s : State) : Host.Outcome State Fault Refusal :=
  s.run fun s => s.command k 0x8800 (plen 16) fun s e =>
    let f := e.idx
    let i := unitSub e.unit
    if i = 255 ∨ !streamOk (e.arg 8 4) then .no s 0x22
    else if !s.engStopped f i then .no s 0x31
    else .yes (s.regWrites 2 (e.images (wordOffs (ecBase f i) 4)))

/-! ### Discrete lines -/

/-- Whether the parameters of DIO_CONFIG are in range (Table 13.7, R370). -/
def dioConfigOk (e : CmdEntry) : Bool :=
  let j := e.idx
  decide (e.arg 0 1 ≤ 3 ∧ e.arg 1 1 ≤ 2 ∧ e.arg 2 1 < 4 ∧ e.arg 3 1 < 8 ∧ e.arg 4 1 ≤ 2 ∧ e.arg 5 1 ≤ 2 ∧ e.arg 6 1 ≤ 1 ∧ e.arg 7 1 ≤ 1)
    && decide (e.arg 8 4 ≤ 100000000 ∧ e.arg 8 4 % 10 = 0)
    && (if j < 16 then decide (e.arg 12 2 ≤ 3300 ∧ e.arg 14 2 < e.arg 12 2) else e.arg 6 1 == 0)

/-- The words DIO_CONFIG writes; PWM and PWM_GEN keep their values. -/
def State.dioConfigWords (s : State) (e : CmdEntry) : List (Nat × Nat) :=
  let b := lineBase e.idx
  let keep := 2 ^ 12 * s.get b DIO_LCFG_PWM + 2 ^ 16 * s.get b DIO_LCFG_PWM_GEN
  let cfg := e.arg 0 1 + 4 * e.arg 1 1 + 16 * e.arg 2 1 + 64 * e.arg 3 1 + 512 * e.arg 6 1 + 1024 * e.arg 5 1 + 8192 * e.arg 7 1 + keep
  let cmp := if e.idx < 16 then [(b + 8, e.arg 12 2 + 2 ^ 16 * e.arg 14 2)] else []
  (b + 4, e.arg 4 1 + 2 ^ 8 * (e.arg 8 4 / 10)) :: cmp ++ [(b, cfg)]

/-- DIO_CONFIG (R370) sets a line's mode, electrical properties, filter and thresholds (R356 to R361). -/
def execDioConfig (k : CmdKey) (s : State) : Host.Outcome State Fault Refusal :=
  s.run fun s => s.command k 0x0900 (plen 16) fun s e =>
    if !dioConfigOk e then .no s 0x22
    else if s.lineSafety e.idx then .no s 0x60
    else .yes (s.regWrites 2 (s.dioConfigWords e))

/-- DIO_OUTPUT (R370) writes a line's output latch (R363). -/
def execDioOutput (k : CmdKey) (s : State) : Host.Outcome State Fault Refusal :=
  s.run fun s => s.command k 0x0901 (plen 4) fun s e =>
    let j := e.idx
    let a := e.arg 0 1
    if 2 < a ∨ e.arg 1 3 ≠ 0 then .no s 0x22
    else if s.lineSafety j then .no s 0x60
    else if s.lineMode j < 2 ∨ s.wired j then .no s 0x24
    else .yes (s.outLine j (if a = 0 then false else if a = 1 then true else !s.latch j) a)

/-- An entry of a bank is cancelled by its ID (R370); the firing of one that is due stands (Table 13.6). -/
def State.schedCancel (s : State) (b id : Nat) : Option State :=
  let x := s.bank b
  if x.sched.any fun e => e.id == id && decide (s.dioNow b < e.at_) then some (s.setBank b { x with sched := x.sched.filter fun e => e.id != id }) else none

/-- DIO_SCHEDULE (R370) places or cancels a scheduled output (R365). -/
def execDioSchedule (k : CmdKey) (s : State) : Host.Outcome State Fault Refusal :=
  s.run fun s => s.command k 0x0902 (plen 20) fun s e =>
    let j := e.idx
    let add := e.arg 0 1 == 1
    let fl := e.arg 2 1
    let at_ := e.stampAt 8
    if (!add ∧ e.arg 0 1 ≠ 2) ∨ e.arg 3 1 ≠ 0 ∨ e.arg 6 2 ≠ 0 ∨ e.arg 18 2 ≠ 0 ∨ (add ∧ (2 < e.arg 1 1 ∨ 1 < fl ∨ at_.isNone)) then
      .no s 0x22
    else if s.lineSafety j then .no s 0x60
    else if add then
      let t := at_.getD 0
      if 64 ≤ (s.bank (j / 64)).sched.length then .no s 0x0901
      else if t < s.ring + 10000 then .no s 0x0402
      else if fl = 1 ∧ !s.timeValid then .no s 0x40
      else let r := s.schedAdd j (e.arg 1 1) t (fl == 1); .done 0 (leBytes 4 r.1) r.2
    else
      match s.schedCancel (j / 64) (e.arg 4 2) with
      | some t => .yes t
      | none => .no s 0x0403

/-- The writes of DIO_PWM: the staged values, the commit, and the line's attachment (R370). -/
def State.pwmWrites (s : State) (e : CmdEntry) : List (Nat × Nat) :=
  let j := e.idx
  let g := pwmBase (j / 64) (e.arg 0 1)
  let w := (s.rd (lineBase j)).toNat
  let off := w - 2 ^ 12 * s.get (lineBase j) DIO_LCFG_PWM
  let cfg := if e.arg 1 1 = 1 then off - 2 ^ 16 * s.get (lineBase j) DIO_LCFG_PWM_GEN + 2 ^ 12 + 2 ^ 16 * e.arg 0 1 else off
  [(g, e.arg 4 4), (g + 4, e.arg 8 4), (g + 8, e.arg 12 4), (g + 12, 1), (lineBase j, cfg)]

/-- DIO_PWM (R370) sets a generator and attaches the line to it, or detaches it (R367). -/
def execDioPwm (k : CmdKey) (s : State) : Host.Outcome State Fault Refusal :=
  s.run fun s => s.command k 0x0903 (plen 16) fun s e =>
    let j := e.idx
    let p := e.arg 4 4
    if 15 < e.arg 0 1 ∨ 1 < e.arg 1 1 ∨ e.arg 2 2 ≠ 0 ∨ p < 1000 ∨ nsPerSec < p ∨ p < e.arg 8 4 ∨ p < e.arg 12 4 then .no s 0x22
    else if s.lineSafety j then .no s 0x60
    else if s.lineMode j < 2 then .no s 0x24
    else .yes (s.regWrites 2 (s.pwmWrites e))

/-- DIO_STATUS (R370) returns a bank's levels, outputs, queue state and counters. -/
def execDioStatus (k : CmdKey) (s : State) : Host.Outcome State Fault Refusal :=
  s.run fun s => s.command k 0x0904 (plen 0) fun s e =>
    let b := dioBase e.idx
    .done 0 (s.shown ([b + 0x10, b + 0x14, b + 0x18, b + 0x1C, b + 0x20, b + 0x24, b + 0x48] ++ wordOffs (b + 0x80) 8)) s

/-- DIO_SET (R370) writes the images of a line's registers. -/
def execDioSet (k : CmdKey) (s : State) : Host.Outcome State Fault Refusal :=
  s.run fun s => s.command k 0x8900 (plen 12) fun s e =>
    if s.lineSafety e.idx then .no s 0x60 else .yes (s.regWrites 2 (e.images (wordOffs (lineBase e.idx) 3)))

end Sys2Proof.Machine
end

