-- ==== Sys2Proof/Machine/CmdPower.lean ====
section
/-! DEFINITION. Command rows of groups 0x0A, 0x0B and 0x0C: power channels and feeds, USB, USB PD (R399 to R401, R416,
R431, R443 to R453). -/

namespace Sys2Proof.Machine

open Sys2Proof (CmdKey)

/-! ### Power -/

/-- Whether EN of a channel is not the host's: an emergency state or an SF-P hold is in force (R384, R470). -/
def State.pchOwned (s : State) (c : Nat) : Bool := s.pchEmerg c || s.pchHold c

/-- PCH_ON (R399) commands a channel on (R384); with WAIT it waits for ON. -/
def execPchOn (k : CmdKey) (s : State) : Host.Outcome State Fault Refusal :=
  s.run fun s => s.command k 0x0A00 (plen 4) fun s e =>
    let c := e.idx
    if 1 < e.arg 0 1 ∨ e.arg 1 3 ≠ 0 then .no s 0x22
    else if s.pchOwned c then .done 0x60 (s.pchResult c) s
    else if s.sys.stby.isSome then .no s 0x24
    else if s.pchState c = 7 then .done 0x0A01 (s.pchResult c) s
    else
      let t := s.writeEn c true
      if e.arg 0 1 = 0 ∨ t.pchState c = 5 then .done 0 (t.pchResult c) t else .wait (.unit c 0) t

/-- PCH_OFF (R399) commands a channel off. -/
def execPchOff (k : CmdKey) (s : State) : Host.Outcome State Fault Refusal :=
  s.run fun s => s.command k 0x0A01 (plen 0) fun s e =>
    let c := e.idx
    if s.pchOwned c then .done 0x60 (s.pchResult c) s
    else let t := s.writeEn c false; .done 0 (t.pchResult c) t

/-- The fields PCH_CONFIG sets, with the value and the range of each (Table 14.8). -/
def pchConfigFields (e : CmdEntry) : List (Fld × Nat × Nat × Nat) :=
  [(PCH_RETRY_MAX, e.arg 1 1, 0, 15), (PCH_SHUNT_UOHM, e.arg 2 2, 500, 20000), (PCH_LIMITS0_FAST_MA, e.arg 4 4, 0, 1048575),
   (PCH_LIMITS1_SLOW_MA, e.arg 8 4, 0, 1048575), (PCH_LIMITS2_RAMP_MA, e.arg 12 4, 0, 1048575),
   (PCH_LIMITS1_SLOW_MS, e.arg 16 2, 1, 1000), (PCH_RAMP_RATE_VMS, e.arg 18 1, 1, 200), (PCH_RAMP_MAX_MS, e.arg 20 2, 10, 1000),
   (PCH_GATE_RISE_US, e.arg 22 2, 100, 10000), (PCH_INSERT_MS, e.arg 24 2, 0, 10000), (PCH_RETRY_MS, e.arg 26 2, 100, 60000),
   (PCH_STRESS_LIMIT_MJ, e.arg 28 2, 50, 20000), (PCH_STRESS_TAU_MS, e.arg 30 2, 10, 10000), (PCH_PIMG_MS, e.arg 32 2, 1, 1000)]

/-- PCH_CONFIG (R399) sets a stopped channel (R386 to R393). -/
def execPchConfig (k : CmdKey) (s : State) : Host.Outcome State Fault Refusal :=
  s.run fun s => s.command k 0x0A02 (plen 36) fun s e =>
    let c := e.idx
    let fs := pchConfigFields e
    let b := pchBase c
    if 3 < e.arg 0 1 ∨ e.arg 19 1 ≠ 0 ∨ e.arg 34 2 ≠ 0 ∨ !fs.all (fun f => decide (f.2.2.1 ≤ f.2.1 ∧ f.2.1 ≤ f.2.2.2))
        ∨ !pchLimitsOk (e.arg 2 2) (e.arg 4 4) (e.arg 8 4) (e.arg 12 4) then .no s 0x22
    else if s.pchSafety c then .no s 0x60
    else if !s.pchStopped c then .no s 0x24
    else
      let t := fs.foldl (fun (s : State) f => s.set b f.1 f.2.1) s
      .yes ((t.set b PCH_CTRL_PRES_EN (e.arg 0 1 % 2)).set b PCH_CTRL_SAFE_ON (e.arg 0 1 / 2))

/-- PCH_STATUS (R399) returns a channel's state, measurements and counters. -/
def execPchStatus (k : CmdKey) (s : State) : Host.Outcome State Fault Refusal :=
  s.run fun s => s.command k 0x0A03 (plen 0) fun s e =>
    let b := pchBase e.idx
    .done 0 (s.shown ([b + 4, b + 0x10, b + 0x14, b + 0x18] ++ wordOffs (b + 0x80) 9)) s

/-- PCH_RETRY_RESET clears the retry count, unless the FET is too hot (R393). -/
def execPchRetryReset (k : CmdKey) (s : State) : Host.Outcome State Fault Refusal :=
  s.run fun s => s.command k 0x0A04 (plen 0) fun s e =>
    let c := e.idx
    if s.get (pchBase c) PCH_STRESS_LIMIT_MJ * 100000000 < 4 * (s.pch c).stress then .no s 0x0A03
    else .done 0 (leBytes 4 (s.get (pchBase c) PCH_STAT_RETRY_CNT)) (s.retryReset c)

/-- Whether the parameters of FEED_CONFIG are in range (R377, Table 14.8). -/
def feedConfigOk (e : CmdEntry) : Bool :=
  let uv := e.arg 0 2
  let ov := e.arg 2 2
  let hy := e.arg 4 2
  let p := [e.arg 12 1, e.arg 13 1, e.arg 14 1]
  decide (18000 ≤ uv ∧ uv ≤ 60000 ∧ uv % 100 = 0 ∧ 18000 ≤ ov ∧ ov ≤ 60000 ∧ ov % 100 = 0 ∧ hy ≤ 2000 ∧ hy % 100 = 0)
    && decide (1 ≤ e.arg 6 2 ∧ e.arg 6 2 ≤ 10000 ∧ 1 ≤ e.arg 8 2 ∧ e.arg 8 2 ≤ 1000 ∧ e.arg 10 1 ≤ 1 ∧ e.arg 11 1 = 0)
    && decide (e.arg 15 1 = 0 ∧ 20 ≤ e.arg 16 2 ∧ e.arg 16 2 ≤ 500 ∧ e.arg 18 2 = 0 ∧ uv + 2 * hy < ov)
    && [0, 1, 2].all fun f => p.contains f

/-- FEED_CONFIG (R399) sets a feed's window, and the order and dead time of all feeds. -/
def execFeedConfig (k : CmdKey) (s : State) : Host.Outcome State Fault Refusal :=
  s.run fun s => s.command k 0x0A05 (plen 20) fun s e =>
    let b := feedBase e.idx
    if !feedConfigOk e then .no s 0x22
    else
      .yes (s.regWrites 2 [(b, e.arg 0 2 + 2 ^ 16 * e.arg 2 2), (b + 4, e.arg 6 2 + 2 ^ 16 * e.arg 8 2), (b + 8, e.arg 4 2),
        (b + 0xC, e.arg 10 1), (feedReg, e.arg 12 1 + 2 ^ 4 * e.arg 13 1 + 2 ^ 8 * e.arg 14 1), (feedReg + 4, e.arg 16 2)])

/-- FEED_STATUS (R399) returns the selector's state. -/
def execFeedStatus (k : CmdKey) (s : State) : Host.Outcome State Fault Refusal :=
  s.run fun s => s.command k 0x0A06 (plen 0) fun s _ =>
    if s.fenced (.pedie 0) then .no s 0x30
    else
      .done 0 (s.shown [feedReg + 8, feedReg, feedBase 0 + 0x10, feedBase 1 + 0x10, feedBase 2 + 0x10, feedReg + 0x40, feedReg + 0x44]) s

/-- PCH_SET (R399) writes the images of a channel's registers. -/
def execPchSet (k : CmdKey) (s : State) : Host.Outcome State Fault Refusal :=
  s.run fun s => s.command k 0x8A00 (plen 44) fun s e =>
    let b := pchBase e.idx
    if s.pchSafety e.idx then .no s 0x60
    else .yes (s.regWrites 2 (e.images (b :: wordOffs (b + 0x20) 10)))

/-! ### USB -/

/-- USB_STATUS (R431) returns the hub's state and counters. -/
def execUsbStatus (k : CmdKey) (s : State) : Host.Outcome State Fault Refusal :=
  s.run fun s => s.command k 0x0B00 (plen 0) fun s _ =>
    let ports := [1, 2, 3, 4, 5, 6, 7, 8, 9].map usbPort
    .done 0 (s.shown ([usbBase + 0x10, usbBase + 0x14] ++ ports ++ ports.map (· + 4) ++ wordOffs (usbBase + 0x40) 11)) s

/-- USB_PORT_POWER locks a downstream port off, or releases it (R411). -/
def execUsbPortPower (k : CmdKey) (s : State) : Host.Outcome State Fault Refusal :=
  s.run fun s => s.command k 0x0B01 (plen 4) fun s e =>
    let p := e.idx
    if 1 < e.arg 0 1 ∨ e.arg 1 3 ≠ 0 then .no s 0x22
    else if p = 9 then .no s 0x0B01
    else let t := s.portLock p (e.arg 0 1 == 1); .done 0 (leBytes 4 (b2n (t.pbit p 8))) t

/-- USB_TEST_MODE puts a downstream port in a test mode, or ends it (R416). -/
def execUsbTestMode (k : CmdKey) (s : State) : Host.Outcome State Fault Refusal :=
  s.run fun s => s.command k 0x0B02 (plen 4) fun s e =>
    let p := e.idx
    if 5 < e.arg 0 1 ∨ e.arg 1 3 ≠ 0 then .no s 0x22
    else if p = 9 then .no s 0x0B01
    else if s.upState = 3 then .no s 0x0B02
    else if !s.portsQuiet p then .no s 0x24
    else .yes (if e.arg 0 1 = 0 then s.portTestEnd p else s.portTest p (e.arg 0 1))

/-- USB_SET (R431) writes the images of the hub's registers. -/
def execUsbSet (k : CmdKey) (s : State) : Host.Outcome State Fault Refusal :=
  s.run fun s => s.command k 0x8B00 (plen 24) fun s e =>
    .yes (s.regWrites 2 (e.images [usbBase, usbBase + 4, usbBase + 8, usbBase + 0x14, usbBase + 0x18, usbBase + 0x1C]))

/-! ### USB PD -/

/-- PD_STATUS (R453) returns a port's state, its partner's offer and its counters. -/
def execPdStatus (k : CmdKey) (s : State) : Host.Outcome State Fault Refusal :=
  s.run fun s => s.command k 0x0C00 (plen 0) fun s e =>
    let b := pdBase e.idx
    let os := (s.pd_ e.idx).pdos.take 11
    let pdos := (List.range 11).flatMap fun i => leBytes 4 (os.getD i 0)
    .done 0 (s.shown (wordOffs b 4) ++ leBytes 4 os.length ++ pdos ++ s.shown (wordOffs (b + 0x80) 11)) s

/-- PD_REQUEST makes the sink port's explicit choice (R443). -/
def execPdRequest (k : CmdKey) (s : State) : Host.Outcome State Fault Refusal :=
  s.run fun s => s.command k 0x0C01 (plen 8) fun s e =>
    if e.arg 1 1 ≠ 0 ∨ e.arg 6 2 ≠ 0 then .no s 0x22 else s.pdRequest e.idx (e.arg 0 1) (e.arg 2 2) (e.arg 4 2)

/-- PD_SWAP asks the partner for a swap of roles (R446). -/
def execPdSwap (k : CmdKey) (s : State) : Host.Outcome State Fault Refusal :=
  s.run fun s => s.command k 0x0C02 (plen 4) fun s e =>
    if e.arg 1 3 ≠ 0 then .no s 0x22 else s.pdSwap e.idx (e.arg 0 1)

/-- A policy image that passed R450 is taken: copied to partition 9 when it came from elsewhere, and run under R451. -/
def State.policyTake (s : State) (bs : List Byte) (copy : Bool) : CmdRes :=
  let t := if copy then s.store (s.partBase 9) bs else s
  let t := ({ t with pd := { t.pd with barred := false } }).policyEval
  .done 0 (leBytes 4 (leAt bs 8 4)) (t.evt pdAll PD_GEVT 1)

/-- PD_POLICY_LOAD (R453) loads a policy image (R449 to R451). -/
def execPdPolicyLoad (k : CmdKey) (s : State) : Host.Outcome State Fault Refusal :=
  s.run fun s => s.command k 0x0C03 (plen 12) fun s e =>
    let off := e.arg 4 4
    let len := e.arg 8 4
    if 1 < e.arg 0 1 ∨ e.arg 1 3 ≠ 0 then .no s 0x22
    else if e.arg 0 1 = 0 then
      (if s.policyCause s.policyImage (s.partSize 9) ≠ 0 then .no s 0x0C06 else s.policyTake s.policyImage false)
    else if !s.inHost off len then .no s 0x0306
    else if s.policyCause (s.load off len) (s.partSize 9) ≠ 0 ∨ leAt (s.load off len) 12 4 + 96 ≠ len then .no s 0x0C06
    else s.policyTake (s.load off len) true

/-- PD_SET (R453) writes the images of a port's registers. -/
def execPdSet (k : CmdKey) (s : State) : Host.Outcome State Fault Refusal :=
  s.run fun s => s.command k 0x8C00 (plen 68) fun s e =>
    let b := pdBase e.idx
    let first := e.arg 24 4
    if first / 2 ^ 14 % 4 ≠ 1 ∨ first / 2 ^ 16 ≠ 5000 then .no s 0x22
    else .yes (s.regWrites 2 (e.images (b :: wordOffs (b + 0x18) 5 ++ wordOffs (b + 0x40) 11)))

end Sys2Proof.Machine
end

