-- ==== Sys2Proof/Machine/CmdSafe.lean ====
section
/-! DEFINITION. Command rows of groups 0x0D, 0x0E and 0x0F: safety functions, faults, updates and calibration (R466 to
R479, R496 to R499, R522 to R536). -/

namespace Sys2Proof.Machine

open Sys2Proof (CmdKey)

/-! ### Safety -/

/-- SAFE_STATUS (R479) returns the Crucible's state and counters. -/
def execSafeStatus (k : CmdKey) (s : State) : Host.Outcome State Fault Refusal :=
  s.run fun s => s.command k 0x0D00 (plen 0) fun s _ =>
    .done 0 (s.shown ([crucBase, sfBase 0, sfBase 1, sfBase 2, assayBase 0, assayBase 1, assayBase 2] ++ wordOffs (crucBase + 0x40) 10)) s

/-- Result of SAFE_ARM: REASON and the item at fault. -/
def armResult (r : Nat × Nat) : List Byte := leBytes 1 r.1 ++ leBytes 1 r.2 ++ leBytes 2 0

/-- SAFE_ARM arms a safety function (R466). -/
def execSafeArm (k : CmdKey) (s : State) : Host.Outcome State Fault Refusal :=
  s.run fun s => s.command k 0x0D01 (plen 0) fun s e =>
    let i := e.idx
    if s.sfArmed i then .done 0 (armResult (0, 255)) s
    else if (s.sfCheck i).1 ≠ 0 then .done 0x0D01 (armResult (s.sfCheck i)) s
    else if s.singleLane ∨ s.sys.stby.isSome then .no s 0x24
    else .done 0 (armResult (0, 255)) (s.sfArm i)

/-- SAFE_DISARM disarms a safety function (R479). -/
def execSafeDisarm (k : CmdKey) (s : State) : Host.Outcome State Fault Refusal :=
  s.run fun s => s.command k 0x0D02 (plen 0) fun s e =>
    let i := e.idx
    if !s.sfArmed i then .yes s
    else if (if i = 2 then !s.cruc.holds.isEmpty else s.sfTriggered i) then .no s 0x0D02
    else .yes (s.sfDisarm i)

/-- SAFE_EMERGENCY triggers SF-E, or releases a function (R468, R471). -/
def execSafeEmergency (k : CmdKey) (s : State) : Host.Outcome State Fault Refusal :=
  s.run fun s => s.command k 0x0D03 (plen 4) fun s e =>
    let i := e.idx
    let op := e.arg 0 1
    if (op ≠ 1 ∧ op ≠ 2) ∨ e.arg 1 3 ≠ 0 ∨ (op = 1 ∧ i ≠ 0) then .no s 0x22
    else if !s.sfArmed i then .no s 0x0D03
    else if op = 2 then
      (if s.sfDemanded i then .no s 0x0D04 else let t := s.sfRelease i; .done 0 (t.sfCtrlBytes i) t)
    else
      let t := s.sfTrigger 0 1 s.crucNow
      if t.flag (sfBase 0) SF_CTRL_SAFE then .done 0 (t.sfCtrlBytes 0) t else .wait (.unit 0 0) t

/-- LANE_REJOIN brings a fenced lane back; `cls` is the class its foreground Assay fails on, 0 for none (R464). -/
def execLaneRejoin (k : CmdKey) (cls : Fin 7) (s : State) : Host.Outcome State Fault Refusal :=
  s.run fun s => s.command k 0x0D04 (plen 0) fun s e => s.rejoin e.idx cls.val

/-- ASSAY_RUN (R479) runs the foreground Assay of a fenced lane, or gives the last background result (R461). -/
def execAssayRun (k : CmdKey) (cls : Fin 7) (s : State) : Host.Outcome State Fault Refusal :=
  s.run fun s => s.command k 0x0D05 (plen 0) fun s e => let r := s.assayRun e.idx cls.val; .done 0 r.1 r.2

/-- The registers of set `i` that SAFE_SET names, in order. -/
def safeSetOffs (i : Nat) : List Nat :=
  let b := sfBase i
  if i = 2 then [b + 4, b + 8] ++ wordOffs (crucBase + 0x400) 64
  else [b + 4, b + 8, b + 0xC, b + 0x10] ++ wordOffs (b + 0x20) 8 ++ wordOffs (b + 0x40) 8

/-- SAFE_SET (R479) writes the images of a disarmed function's registers. -/
def execSafeSet (k : CmdKey) (s : State) : Host.Outcome State Fault Refusal :=
  s.run fun s => s.command k 0x8D00 (fun n => n == 80 || n == 264) fun s e =>
    let offs := safeSetOffs e.idx
    if e.ps.length ≠ 4 * offs.length then .no s 0x21
    else if s.sfArmed e.idx then .no s 0x60
    else .yes (s.regWrites 2 (e.images offs))

/-! ### Faults -/

/-- The first `n` records of the fault log from an index on that belong to the classes asked for. -/
def State.faultPick (s : State) (classes n first : Nat) : List (List Byte) :=
  let pos := s.get faultBase FAULT_LOG_POS_INDEX
  let full := s.fault.logFull
  let skip := logSkip full pos first
  let held := (List.range (logHeld full pos - skip)).map fun i => s.load (s.faultLogAt (logOldest full pos + skip + i)) 32
  (held.filter fun r => classes == 0 || bitAt classes (leAt r 0 1 % 4)).take n

/-- FAULT_READ (R498) returns records of the fault log (R487). -/
def execFaultRead (k : CmdKey) (s : State) : Host.Outcome State Fault Refusal :=
  s.run fun s => s.command k 0x0E00 (plen 8) fun s e =>
    let pos := s.get faultBase FAULT_LOG_POS_INDEX
    let n := e.arg 4 2
    if n = 0 ∨ 127 < n ∨ 15 < e.arg 6 1 ∨ e.arg 7 1 ≠ 0 then .no s 0x22
    else
      let rs := s.faultPick (e.arg 6 1) n (e.arg 0 4)
      .done 0 (leBytes 4 (logOldest s.fault.logFull pos) ++ leBytes 4 pos ++ s.shown [faultBase + FAULT_LOG_OVWR.off] ++ leBytes 4 rs.length ++ rs.flatten) s

/-- FAULT_ACK acknowledges records (R497). -/
def execFaultAck (k : CmdKey) (s : State) : Host.Outcome State Fault Refusal :=
  s.run fun s => s.command k 0x0E01 (plen 8) fun s e =>
    let op := e.arg 0 1
    let a := e.arg 2 2
    let b := e.arg 4 2
    if op = 0 ∨ 3 < op ∨ e.arg 1 1 ≠ 0 ∨ e.arg 6 2 ≠ 0 then .no s 0x22
    else if op = 1 ∧ !s.fault.unacked.any (fun u => u.2.1 == a) then .no s 0x0E01
    else
      let pick (q : Nat) : Bool := op == 3 || (op == 1 && q == a) || (op == 2 && decide ((q + 65536 - a) % 65536 ≤ (b + 65536 - a) % 65536))
      let r := s.ackFaults pick
      .done 0 (leBytes 2 r.1 ++ leBytes 2 (min 65535 r.2.fault.unacked.length)) r.2

/-- Whether a KIND is Fatal-class. -/
def fatalCode (code : Nat) : Bool := match FaultKind.ofCode code with | some f => f.cls == .fatal | none => false

/-- FAULT_INJECT injects a fault; it waits for its record, but of a Fatal kind it only arms the injection (R496, R498). -/
def execFaultInject (k : CmdKey) (s : State) : Host.Outcome State Fault Refusal :=
  s.run fun s => s.command k 0x0E02 (plen 12) fun s e =>
    let code := e.arg 0 1
    let src := e.arg 2 2
    let st := s.injectCheck code src
    if e.arg 1 1 ≠ 0 ∨ e.arg 10 2 ≠ 0 then .no s 0x22
    else if st ≠ 0 then .no s st
    else if fatalCode code then
      .done 0 (leBytes 4 0) { s with sys := { s.sys with fatal := some (s.uptime + 100000, code, src, e.arg 4 6) } }
    else .wait (.unit 0 0) (s.inject code src (e.arg 4 6))

/-- FAULT_SET (R498) writes the images of FAULT_CTRL and FAULT_IE. -/
def execFaultSet (k : CmdKey) (s : State) : Host.Outcome State Fault Refusal :=
  s.run fun s => s.command k 0x8E00 (plen 8) fun s e => .yes (s.regWrites 2 (e.images [faultBase + 0x2C, faultBase + 0x28]))

/-! ### Updates and calibration -/

/-- The bytes a staging command brings, or why it is refused (Table 20.9). -/
def State.stageData (s : State) (e : CmdEntry) (flags most : Nat) : Nat ⊕ List Byte :=
  let len := e.arg 8 4
  let host := e.arg 0 1 == 1
  if e.ps.length ≠ 16 + (if host then 0 else len) then .inl 0x21
  else if 1 < e.arg 0 1 ∨ flags < e.arg 1 1 ∨ e.arg 2 2 ≠ 0 ∨ most < e.arg 4 4 + len then .inl 0x22
  else if host ∧ !s.inHost (e.arg 12 4) len then .inl 0x0306
  else if s.updBusy then .inl 0x0F06
  else .inr (if host then s.load (e.arg 12 4) len else e.ps.drop 16)

/-- UPD_STAGE writes image bytes into partition 10 (R522). -/
def execUpdStage (k : CmdKey) (s : State) : Host.Outcome State Fault Refusal :=
  s.run fun s => s.command k 0x0F00 (fun n => decide (16 ≤ n)) fun s e =>
    match s.stageData e 1 (8 * 2 ^ 20) with
    | .inl st => .no s st
    | .inr bs =>
      let t := s.stageBytes 0 (e.arg 4 4) bs (bitAt (e.arg 1 1) 0)
      .done 0 (leBytes 4 t.upd.blocks.length) t

/-- UPD_VERIFY checks the staged image (R524). -/
def execUpdVerify (k : CmdKey) (s : State) : Host.Outcome State Fault Refusal :=
  s.run fun s => s.command k 0x0F01 (plen 0) fun s _ => s.updVerify

/-- UPD_ACTIVATE_AT plans an activation, or cancels it (R526, R527). -/
def execUpdActivateAt (k : CmdKey) (s : State) : Host.Outcome State Fault Refusal :=
  s.run fun s => s.command k 0x0F02 (plen 16) fun s e =>
    let fl := e.arg 0 1
    if 3 < fl ∨ e.arg 1 3 ≠ 0 ∨ e.arg 14 2 ≠ 0 then .no s 0x22
    else
      match e.stampAt 4 with
      | none => .no s 0x22
      | some at_ =>
        if at_ = 0 then s.actCancel
        else if fl = 0 then .no s 0x22
        else s.actSet (bitAt fl 0) (bitAt fl 1) at_

/-- UPD_STATUS (R536) returns the UPD block. -/
def execUpdStatus (k : CmdKey) (s : State) : Host.Outcome State Fault Refusal :=
  s.run fun s => s.command k 0x0F03 (plen 0) fun s _ =>
    .done 0 (s.shown (wordOffs updBase 16 ++ wordOffs (updBase + 0x80) 5)) s

/-- What END finds wrong with a staged bundle (R529, Table 20.3); 0 when nothing. -/
def State.bundleStatus (s : State) : Nat :=
  let bs := s.bundleFrom s.bundleAt
  if !blocksIn s.upd.bblocks bs.length ∨ !s.bundleOk bs ∨ 3 < leAt bs 4 2 then 0x0F01 else s.updRefusal none

/-- BUNDLE_STAGE writes bundle bytes into the upper half of partition 10, and with END checks the bundle (R522, R529). -/
def execBundleStage (k : CmdKey) (s : State) : Host.Outcome State Fault Refusal :=
  s.run fun s => s.command k 0x0F04 (fun n => decide (16 ≤ n)) fun s e =>
    match s.stageData e 3 bundleSlot with
    | .inl st => .no s st
    | .inr bs =>
      let t := s.stageBytes 1 (e.arg 4 4) bs (bitAt (e.arg 1 1) 0)
      let r := leBytes 4 t.upd.bblocks.length
      if !bitAt (e.arg 1 1) 1 then .done 0 r t
      else if t.bundleStatus ≠ 0 then .no (s.countRefusal t.bundleStatus) t.bundleStatus
      else .done 0 r (t.set updBase UPD_STAT_BUNDLE_STAGED 1)

/-- CALIB_READ (R536) returns bytes of the calibration set in use (R533). -/
def execCalibRead (k : CmdKey) (s : State) : Host.Outcome State Fault Refusal :=
  s.run fun s => s.command k 0x0F05 (plen 4) fun s e =>
    let off := e.arg 0 2
    let len := e.arg 2 2
    if len = 0 ∨ 4080 < len ∨ 4096 < off + len then .no s 0x22
    else .done 0 (((calBytes s.upd.calib).drop off).take len) s

/-- CALIB_WRITE starts the MTP write of a changed calibration set, which ends 50 ms later (R534). -/
def execCalibWrite (k : CmdKey) (s : State) : Host.Outcome State Fault Refusal :=
  s.run fun s => s.command k 0x8F00 (fun n => decide (8 ≤ n)) fun s e =>
    let off := e.arg 0 2
    let len := e.arg 2 2
    if e.ps.length ≠ 8 + len then .no s 0x21
    else if off < 16 ∨ 4096 < off + len ∨ e.arg 4 4 ≠ 0 then .no s 0x22
    else if [0, 1, 2].any s.sfArmed then .no s 0x24
    else if 1000 ≤ leAt (calBytes s.upd.array) 8 4 then .no s 0x0F04
    else .wait (.unit 0 0) (s.withUpd fun u => { u with calWrite := some (s.calibMade off (e.ps.drop 8), s.uptime + 50000000) })

/-- Result of OWNER_LOCK: UPD_OWNER. -/
def State.ownerShown (s : State) : List Byte := s.shown [updBase + 0x10]

/-- What an owner-key signature of OP 3 covers (R532): the die serial, then UPD_NONCE. -/
def State.ownerMessage (s : State) : List Byte :=
  dieSerial ++ leBytes 4 (s.get updBase UPD_NONCE_LO) ++ leBytes 4 (s.get updBase UPD_NONCE_HI)

/-- Whether a signature is the owner key's over that message. -/
def State.ownerSigned (s : State) (sig : List Byte) : Bool :=
  match s.upd.ownerKey with | some p => sigOk p sig s.ownerMessage | none => false

/-- LOCK and BUNDLE_SIG as WHICH names them take a value. -/
def State.ownerBits (s : State) (which : Nat) (v : Bool) : State :=
  s.withUpd fun u =>
    { u with lock := if bitAt which 0 then v else u.lock, sigOnly := if bitAt which 1 then v else u.sigOnly }

/-- OWNER_LOCK programs the owner key, sets a bit of the owner record, or clears one with the owner's signature (R532). -/
def execOwnerLock (k : CmdKey) (s : State) : Host.Outcome State Fault Refusal :=
  s.run fun s => s.command k 0x8F01 (plen 68) fun s e =>
    let op := e.arg 0 1
    let which := e.arg 1 1
    let key := e.ps.drop 4
    if op = 0 ∨ 3 < op ∨ 3 < which ∨ e.arg 2 2 ≠ 0 then .no s 0x22
    else if op = 1 then
      (if s.upd.ownerKey.isSome then .no s 0x0F05
       else let t := s.withUpd fun u => { u with ownerKey := some key }; .done 0 t.ownerShown t)
    else if op = 2 then let t := s.ownerBits which true; .done 0 t.ownerShown t
    else if !s.ownerSigned key then .no s 0x0F01
    else let t := (s.ownerBits which false).newNonce; .done 0 t.ownerShown t

end Sys2Proof.Machine
end

