-- ==== Sys2Proof/Machine/ExecCore.lean ====
section
/-! DEFINITION. The meanings of the rows of the spaces, the islands' clocks and links, the Sprue queues, the fabric and the
command transports (chapters 1 to 4). -/

namespace Sys2Proof.Machine

/-! ### What a row runs under -/

/-- A row of a part that HELD stops (R494, Table 18.6). -/
def State.runLive (s : State) (f : State → State) : Host.Outcome State Fault Refusal :=
  s.run fun s => if s.inHeld then s else f s

/-- A row of power-edge die `d` (R16, R375): the die is powered, whether or not the main die runs. -/
def State.runDie (s : State) (d : Nat) (f : State → State) : Host.Outcome State Fault Refusal :=
  s.runAon fun s => if (s.die d).powered ∧ s.unitPresent (.pedie d) then f s else s

/-- A row of string power channel `c`: the variant has it (R4), and its die is powered. -/
def State.runPch (s : State) (c : Nat) (f : State → State) : Host.Outcome State Fault Refusal :=
  s.runDie (c / 32) fun s => if c < s.nPch then f s else s

/-- A row of the ring island: after REFCLK_LOST it has no clock (R13). -/
def State.runRing (s : State) (f : State → State) : Host.Outcome State Fault Refusal :=
  s.run fun s => if s.flag aonBase AON_STAT_REFCLK_OK then f s else s

/-- A row of Ethernet port `p`: a ring port goes on in HELD while it has a clock (R13), a local port sends and delivers
nothing there (Table 18.6). -/
def State.runPort (s : State) (p : Nat) (f : State → State) : Host.Outcome State Fault Refusal :=
  if p < 2 then s.runRing f else s.runLive f

/-- The node an initiator writes from: this hub's own, or the ring peer's. -/
def State.whoNode (s : State) : Who → Nat
  | .ring n _ => n.toNat
  | _ => s.nodeId

/-- Whether an initiator came by a ring port (R48). -/
def whoRing : Who → Bool
  | .ring _ _ => true
  | _ => false

/-- A write of one register word by an initiator (R46, R54). -/
def State.writeBy (s : State) (who : Who) (a : Nat) (w : Word) : State :=
  s.spaceWrite (s.whoNode who) (whoCode who) 0 a (leBytes 4 w.toNat) (whoRing who)

/-- A read of one register word by an initiator, its data given out (R46). -/
def State.readBy (s : State) (who : Who) (a : Nat) : State :=
  let r := s.spaceRead (whoCode who) 0 a 4 (whoRing who)
  r.2.2.emit (.readData r.1 r.2.1)

/-! ### Registers, clocks and links -/

/-- REGISTER_WRITE (R6, R7, R8, R35, R39, R46). -/
def execRegisterWrite (who : Who) (addr : BitVec 32) (value : Word) (s : State) : Host.Outcome State Fault Refusal :=
  s.runLive fun s => s.writeBy who addr.toNat value

/-- REFCLK_LOST (R13). -/
def execRefclkLost (offFreq : Bool) (ppm : BitVec 32) (s : State) : Host.Outcome State Fault Refusal :=
  s.run fun s => s.refclkLost offFreq ppm

/-- TIME_REPLICA_ALIGN (R14). -/
def execTimeReplicaAlign (isl : Fin 23) (err : BitVec 32) (s : State) : Host.Outcome State Fault Refusal :=
  s.run fun s => s.replicaCheck isl.val err.toInt

/-- LINK_FRAME_SEND (R16, R17). -/
def execLinkFrameSend (die : Fin 2) (received : Bool) (s : State) : Host.Outcome State Fault Refusal :=
  s.run fun s =>
    if s.unitPresent (.pedie die.val) then s.linkFrame die.val (received && (s.die die.val).powered) else s

/-- PEDIE_LINK_TIMEOUT (R16), whether or not the main die runs; a die in Standby has switched its link supervision off
(R512). -/
def execPedieLinkTimeout (die : Fin 2) (s : State) : Host.Outcome State Fault Refusal :=
  s.runAon fun s => if s.unitPresent (.pedie die.val) ∧ !s.sys.standby then s.linkTimeout8 die.val else s

/-- PEDIE_LINK_LOST_EXPIRE (R17). -/
def execPedieLinkLostExpire (die : Fin 2) (s : State) : Host.Outcome State Fault Refusal :=
  s.run fun s => if s.unitPresent (.pedie die.val) then s.linkLost die.val else s

/-- PEDIE_LINK_RESTORE (R17, R398). -/
def execPedieLinkRestore (die : Fin 2) (s : State) : Host.Outcome State Fault Refusal :=
  s.run fun s => if (s.die die.val).powered ∧ s.unitPresent (.pedie die.val) then s.linkBack die.val else s

/-- SAFE_STATE_RELEASE (R17, R376, R398). -/
def execSafeStateRelease (die : Fin 2) (s : State) : Host.Outcome State Fault Refusal :=
  s.runLive fun s => if (s.die die.val).powered ∧ s.unitPresent (.pedie die.val) then s.dieRelease die.val else s

/-! ### Sprue queues -/

/-- A row of Sprue queue `q`, which the variant has (R75). -/
def State.runQueue (s : State) (q : Nat) (f : State → State) : Host.Outcome State Fault Refusal :=
  s.run fun s => if s.queuePresent q then f s else s

/-- SPRUE_WORD_WRITE (R76, R80 to R83); nothing but the voter writes q 32 (R75). -/
def execSprueWordWrite (q : Fin 44) (bytes : List Byte) (eop poison : Bool) (s : State) :
    Host.Outcome State Fault Refusal :=
  s.runQueue q.val fun s => if q.val = 32 then s else s.sprueWrite q.val bytes eop poison

/-- SPRUE_WORD_READ (R77, R82 to R84). -/
def execSprueWordRead (q : Fin 44) (upset : Option (Fin 512)) (s : State) : Host.Outcome State Fault Refusal :=
  s.runQueue q.val fun s => s.sprueReadWord q.val (upset.map (·.val))

/-- SPRUE_PECK_RETURN (R77): the Pecks on their way reach the producer. -/
def execSpruePeckReturn (q : Fin 44) (s : State) : Host.Outcome State Fault Refusal :=
  s.runQueue q.val fun s => s.peckReturn q.val

/-- SPRUE_INJ_PAR (R89): a write of SPRUE_CTRL with INJ_PAR set. -/
def execSprueInjPar (q : Fin 44) (s : State) : Host.Outcome State Fault Refusal :=
  s.runLive fun s => s.regWrite 2 (queueBase q.val + 0x10) 1#32

/-- SPRUE_MAX_RST (R89): a write of SPRUE_CTRL with MAX_RST set. -/
def execSprueMaxRst (q : Fin 44) (s : State) : Host.Outcome State Fault Refusal :=
  s.runLive fun s => s.regWrite 2 (queueBase q.val + 0x10) 2#32

/-! ### Fabric -/

/-- FABRIC_WRITE_RX (R54). -/
def execFabricWriteRx (f : FabRx) (s : State) : Host.Outcome State Fault Refusal :=
  s.runLive fun s => s.fabRx f 1

/-- FABRIC_READ_RX (R55, R46, R48, R53), after the store's upsets. -/
def execFabricReadRx (f : FabRx) (upsets : List (Nat × Bool)) (s : State) : Host.Outcome State Fault Refusal :=
  s.runLive fun s => (s.upset upsets).fabRx f 2

/-- FABRIC_CAS_RX (R55), after the store's upsets. -/
def execFabricCasRx (f : FabRx) (upsets : List (Nat × Bool)) (s : State) : Host.Outcome State Fault Refusal :=
  s.runLive fun s => (s.upset upsets).fabRx f 5

/-- FABRIC_RESP_RX (R60, R61). -/
def execFabricRespRx (f : FabRx) (s : State) : Host.Outcome State Fault Refusal :=
  s.runLive fun s => s.fabRx f 3

/-- FABRIC_MESSAGE_RX (R57). -/
def execFabricMessageRx (f : FabRx) (s : State) : Host.Outcome State Fault Refusal :=
  s.runLive fun s => s.fabRx f 4

/-- FAB_UNDELIVERED_RETURN (R56). -/
def execFabUndeliveredReturn (r : FabReturn) (s : State) : Host.Outcome State Fault Refusal :=
  s.runLive fun s => s.undelivered r.frame r.dst.toNat

/-- FAB_SLOT_GRANT (R58). -/
def execFabSlotGrant (s : State) : Host.Outcome State Fault Refusal := s.runLive fun s => s.slotGrant

/-- FAB_READ_TIMEOUT (R59). -/
def execFabReadTimeout (slot : Fin 256) (s : State) : Host.Outcome State Fault Refusal :=
  s.runLive fun s => s.readTimeout slot.val

/-- SLOT_QUARANTINE_END (R59). -/
def execSlotQuarantineEnd (slot : Fin 256) (s : State) : Host.Outcome State Fault Refusal :=
  s.runLive fun s => s.quarantineEnd slot.val

/-- FAB_REORDER_EXPIRE (R64). -/
def execFabReorderExpire (s : State) : Host.Outcome State Fault Refusal := s.runLive fun s => s.reorderExpire

/-! ### Command transports -/

/-- CMD_DOORBELL (R91, R93, R94). -/
def execCmdDoorbell (len : BitVec 13) (s : State) : Host.Outcome State Fault Refusal :=
  s.runLive fun s => s.doorbell len.toNat

/-- CMD_RPL_POP (R92). -/
def execCmdRplPop (s : State) : Host.Outcome State Fault Refusal := s.runLive fun s => s.rplPop

/-- The island a command's unit is in, where it can be gated (R511). -/
def unitGate (u : Nat) : Option Nat :=
  let i := unitIndex u
  match unitKind u with
  | 1 => some (4 + i / 16) | 2 => some (4 + i) | 3 => some (8 + i) | 4 => some (16 + i / 64) | 5 => some (16 + i)
  | 12 => some 19 | 13 => some 20 | _ => none

/-- The island of a command that has started is awake (R511). -/
def State.wakeUnit (s : State) (u : Nat) : State :=
  match unitGate u with
  | some i => if s.sys.gated.contains i then s.islandAwake i else s
  | none => s

/-- A command starts, and its unit's island wakes with it (R111, R511). -/
def State.startWoken (s : State) (k : CmdKey) : State :=
  let t := s.start k
  match s.entry k with
  | some e => if e.phase = .accepted ∧ (t.entry k).any (·.running) then t.wakeUnit (pktUnit e.packet) else t
  | none => t

/-- COMMAND_START (R111, R112, R511). -/
def execCommandStart (k : CmdKey) (s : State) : Host.Outcome State Fault Refusal := s.runLive fun s => s.startWoken k

/-- The bound of PCH_ON's wait: TIMEOUT with the channel's result, and a CMD_OVERRUN record (R120, R395). -/
def State.pchOverrun (s : State) (k : CmdKey) (e : CmdEntry) : State :=
  match e.phase with
  | .executing at_ _ =>
    if s.uptime < at_ + s.bound e then s
    else
      (s.reply k 0x70 (s.pchResult (unitIndex (pktUnit e.packet)))).raise .cmdOverrun srcHub 0
        (leBytes 2 (pktOp e.packet) ++ leBytes 2 (pktTag e.packet) ++ leBytes 1 (xportCode k.transport))
  | _ => s

/-- The bound of a loop test: TIMEOUT, and the ports it used go back (R120, R156). -/
def State.loopOverrun (s : State) (k : CmdKey) (e : CmdEntry) : State :=
  match e.phase with
  | .executing at_ (some (.unit a b)) =>
    if s.uptime < at_ + s.bound e then s else (s.overrun k).loopOver (loopPorts a b)
  | _ => s.overrun k

/-- A command's execution bound by its opcode (R120, R142, R156). -/
def State.boundExpire (s : State) (k : CmdKey) : State :=
  match s.entry k with
  | none => s
  | some e =>
    if pktOp e.packet = 0x0201 then (if s.ringNet.enum.isSome then s.enumExpire else s.overrun k)
    else if pktOp e.packet = 0x0203 then s.loopOverrun k e
    else if pktOp e.packet = 0x0A00 then s.pchOverrun k e
    else s.overrun k

/-- EXECUTION_BOUND_EXPIRE (R120). -/
def execExecutionBoundExpire (k : CmdKey) (s : State) : Host.Outcome State Fault Refusal :=
  s.runLive fun s => s.boundExpire k

/-- REMOTE_TIMEOUT (R108). -/
def execRemoteTimeout (k : CmdKey) (s : State) : Host.Outcome State Fault Refusal :=
  s.runLive fun s => s.remoteTimeout k

/-- REMOTE_TAG_HOLD_END (R108). -/
def execRemoteTagHoldEnd (k : CmdKey) (s : State) : Host.Outcome State Fault Refusal :=
  s.runLive fun s => s.tagHoldEnd k

/-- BROADCAST_WINDOW_CLOSE (R109). -/
def execBroadcastWindowClose (k : CmdKey) (s : State) : Host.Outcome State Fault Refusal :=
  s.runLive fun s => s.bcastEnd k

end Sys2Proof.Machine
end

