-- ==== Sys2Proof/Machine/ExecNet.lean ====
section
/-! DEFINITION. The meanings of the rows of the ring, the MACs and the scheduler (chapters 5 to 7). -/

namespace Sys2Proof.Machine

/-! ### Ring links -/

/-- PORT_BLOCK_LOCK (R127, R128). -/
def execPortBlockLock (p : Fin 2) (s : State) : Host.Outcome State Fault Refusal := s.runRing fun s => s.blockLock p.val

/-- LINK_TIMEOUT (R127). -/
def execLinkTimeout (p : Fin 2) (s : State) : Host.Outcome State Fault Refusal := s.runRing fun s => s.linkTimeout p.val

/-- RATE_CHANGE_APPLY (R129). -/
def execRateChangeApply (p : Fin 2) (s : State) : Host.Outcome State Fault Refusal := s.runRing fun s => s.rateChange p.val

/-- HELLO_SEND (R140). -/
def execHelloSend (p : Fin 2) (s : State) : Host.Outcome State Fault Refusal := s.runRing fun s => s.helloSend p.val

/-- HELLO_RX (R140). -/
def execHelloRx (p : Fin 2) (hello : List Byte) (s : State) : Host.Outcome State Fault Refusal :=
  s.runRing fun s => s.helloRx p.val hello

/-- HELLO_MISS (R140). -/
def execHelloMiss (p : Fin 2) (s : State) : Host.Outcome State Fault Refusal := s.runRing fun s => s.helloMiss p.val

/-- HEAL_HOLD_END (R155). -/
def execHealHoldEnd (p : Fin 2) (s : State) : Host.Outcome State Fault Refusal := s.runRing fun s => s.healEnd p.val

/-- RING_BREAK_DECLARE (R151). -/
def execRingBreakDeclare (p : Fin 2) (cause : Fin 4) (s : State) : Host.Outcome State Fault Refusal :=
  s.runRing fun s => s.breakDeclare p.val cause.val

/-- SEGMENT_NOTICE_APPLY (R152). -/
def execSegmentNoticeApply (s : State) : Host.Outcome State Fault Refusal := s.runRing fun s => s.segDue

/-- SPLIT_PATH_HOLD_END (R155). -/
def execSplitPathHoldEnd (c : Fin 1024) (s : State) : Host.Outcome State Fault Refusal :=
  s.runRing fun s => s.pathHoldEnd c.val

/-! ### Ring frames -/

/-- RING_FRAME_RX (R134 to R137, R166). -/
def execRingFrameRx (p : Fin 2) (frame : List Byte) (fcs : Fin 3) (s : State) : Host.Outcome State Fault Refusal :=
  s.runRing fun s => s.ringRx p.val frame fcs.val

/-- DD_FORGET (R137). -/
def execDdForget (n : Nat) (s : State) : Host.Outcome State Fault Refusal := s.runRing fun s => s.ddForget n

/-- SEQ_COUNTER_FREE (R132). -/
def execSeqCounterFree (n : Nat) (s : State) : Host.Outcome State Fault Refusal := s.runRing fun s => s.seqFree n

/-- FOREIGN_CLEAR (R147). -/
def execForeignClear (s : State) : Host.Outcome State Fault Refusal := s.runRing fun s => s.foreignClear

/-- ENUMERATION_FRAME_RX (R142). -/
def execEnumerationFrameRx (frame : List Byte) (s : State) : Host.Outcome State Fault Refusal :=
  s.runRing fun s => s.enumRx frame

/-- ENUMERATION_BOUND_EXPIRE (R142). -/
def execEnumerationBoundExpire (s : State) : Host.Outcome State Fault Refusal := s.runLive fun s => s.enumExpire

/-- NODE_CFG_FIXED_WRITE (R141): RING_NODE_CFG written with FIXED = 1, and a supervision frame sent. -/
def execNodeCfgFixedWrite (id : BitVec 8) (s : State) : Host.Outcome State Fault Refusal :=
  s.runLive fun s => s.regWrite 2 ringWide (BitVec.ofNat 32 ((s.rd ringWide).toNat / 512 * 512 + 256 + id.toNat))

/-- SUPERVISION_SEND (R145). -/
def execSupervisionSend (s : State) : Host.Outcome State Fault Refusal := s.runRing fun s => s.supervision

/-- SUPERVISION_RX (R146). -/
def execSupervisionRx (p : Fin 2) (frame : List Byte) (s : State) : Host.Outcome State Fault Refusal :=
  s.runRing fun s => if isSup frame then s.ringRx p.val frame 0 else s

/-- RING_MAP_EXPIRE (R146). -/
def execRingMapExpire (node : Fin 256) (s : State) : Host.Outcome State Fault Refusal :=
  s.runRing fun s => s.mapExpire node.val

/-! ### MACs -/

/-- MAC_FRAME_RX (R161, R168, R174). -/
def execMacFrameRx (p : Fin 6) (mf : MacRx) (s : State) : Host.Outcome State Fault Refusal :=
  s.runPort p.val fun s => s.macRx p.val mf

/-- EGRESS_FRAME_START (R199). -/
def execEgressFrameStart (p : Fin 6) (s : State) : Host.Outcome State Fault Refusal :=
  s.runPort p.val fun s => s.egressStart p.val

/-- EGRESS_FRAME_END (R192). -/
def execEgressFrameEnd (p : Fin 6) (s : State) : Host.Outcome State Fault Refusal :=
  s.runPort p.val fun s => s.egressEnd p.val

/-- MPACKET_PREEMPT (R169). -/
def execMpacketPreempt (p : Fin 6) (s : State) : Host.Outcome State Fault Refusal :=
  s.runPort p.val fun s => s.preemptLine p.val

/-- VERIFY_RX (R172). -/
def execVerifyRx (p : Fin 6) (s : State) : Host.Outcome State Fault Refusal :=
  s.runPort p.val fun s => if s.receives p.val then s.verifyRx p.val else s

/-- RESPOND_RX (R172). -/
def execRespondRx (p : Fin 6) (s : State) : Host.Outcome State Fault Refusal :=
  s.runPort p.val fun s => if s.receives p.val then s.respondRx p.val else s

/-- VERIFY_TIMEOUT (R172). -/
def execVerifyTimeout (p : Fin 6) (s : State) : Host.Outcome State Fault Refusal :=
  s.runPort p.val fun s => s.verifyTimeout p.val

/-- PAUSE_RX (R174, R176, R177). -/
def execPauseRx (l : Fin 4) (quanta : BitVec 16) (s : State) : Host.Outcome State Fault Refusal :=
  s.runLive fun s => s.pauseRx (l.val + 2) quanta.toNat

/-- The pause of a port ends once its time is over (R176). -/
def State.pauseOver (s : State) (p : Nat) : State :=
  if (s.mac p).pauseEnd ≠ 0 ∧ (s.mac p).pauseEnd ≤ s.uptime then s.setPause p 0 else s

/-- PAUSE_TIMER_EXPIRE (R176). -/
def execPauseTimerExpire (l : Fin 4) (s : State) : Host.Outcome State Fault Refusal :=
  s.run fun s => s.pauseOver (l.val + 2)

/-- PAUSE_XOFF (R178). -/
def execPauseXoff (l : Fin 4) (s : State) : Host.Outcome State Fault Refusal := s.runLive fun s => s.pauseXoff (l.val + 2)

/-- PAUSE_REFRESH (R178). -/
def execPauseRefresh (l : Fin 4) (s : State) : Host.Outcome State Fault Refusal :=
  s.runLive fun s => s.pauseRefresh (l.val + 2)

/-- PAUSE_XON (R178). -/
def execPauseXon (l : Fin 4) (s : State) : Host.Outcome State Fault Refusal := s.runLive fun s => s.pauseXon (l.val + 2)

/-- LMAC_LINK_CHANGE (R179); a link is kept in HELD too (Table 18.6). -/
def execLmacLinkChange (l : Fin 4) (control : BitVec 16) (s : State) : Host.Outcome State Fault Refusal :=
  s.run fun s => s.lmacControl (l.val + 2) control.toNat

/-! ### Scheduler -/

/-- TXD_PUSH (R190): a write of the command word of a context's descriptor window. -/
def execTxdPush (who : Who) (c : Fin 1024) (cmd : Word) (s : State) : Host.Outcome State Fault Refusal :=
  s.runLive fun s => s.writeBy who (0x88004 + 8 * c.val) cmd

/-- DESCRIPTOR_JUDGE (R191). -/
def execDescriptorJudge (c : Fin 1024) (s : State) : Host.Outcome State Fault Refusal :=
  s.runLive fun s => s.judgeDescr c.val

/-- CTX_CLOSE_WRITE (R193). -/
def execCtxCloseWrite (c : Fin 1024) (s : State) : Host.Outcome State Fault Refusal :=
  s.runLive fun s => if s.flag (ctxBase c.val) CTX_CTRL_EN then s.ctxClose c.val else s

/-- GATE_EDGE (R203). -/
def execGateEdge (p : Fin 6) (s : State) : Host.Outcome State Fault Refusal := s.runPort p.val fun s => s.gateEdge p.val

/-- GATE_HOLD_ASSERT (R205). -/
def execGateHoldAssert (p : Fin 6) (s : State) : Host.Outcome State Fault Refusal :=
  s.runPort p.val fun s => s.holdAssert p.val

/-- FRAME_WINDOW_EXPIRE (R206). -/
def execFrameWindowExpire (p : Fin 6) (tc : Fin 8) (s : State) : Host.Outcome State Fault Refusal :=
  s.runPort p.val fun s => s.windowExpire p.val tc.val

/-- SCHED_CONFIG_CHANGE (R207, R209). -/
def execSchedConfigChange (p : Fin 6) (s : State) : Host.Outcome State Fault Refusal :=
  s.runLive fun s => s.configChange p.val

/-- SWAP_LATCH (R208). -/
def execSwapLatch (p : Fin 6) (s : State) : Host.Outcome State Fault Refusal := s.runPort p.val fun s => s.swapLatch p.val

/-- GCL_SWAP (R207). -/
def execGclSwap (p : Fin 6) (s : State) : Host.Outcome State Fault Refusal := s.runPort p.val fun s => s.gclSwap p.val

end Sys2Proof.Machine
end

