-- ==== Sys2Proof/Machine/ExecTime.lean ====
section
/-! DEFINITION. The meanings of the rows of ring time, the event ledger, the process image and the host bridge (chapters 8
to 10). -/

namespace Sys2Proof.Machine

/-! ### Time messages -/

/-- Whether ring port `p` runs an external loop test (R156), during which it exchanges peer delay (R220). -/
def State.loopedOut (s : State) (p : Nat) : Bool :=
  decide (p < 2) && s.pstate p == 4 && s.get (ringBase p) RING_PCTRL_LOOP == 2

/-- Whether port `p` receives peer-delay messages (R220). -/
def State.hearsPeer (s : State) (p : Nat) : Bool :=
  s.receives p || (s.loopedOut p && s.flag (macBase p) MAC_MCTRL_RX_EN)

/-- A peer-delay message received on port `p`: taken where PTP is on and its domain, version and type are right, else counted
(R218). -/
def State.peerMsg (s : State) (p : Nat) (m : PtpRx) (f : State → State) : State :=
  if !(s.ptpOn p && s.hearsPeer p) then s else if s.ptpGood m.bytes then f s else s.bump timeBase TIME_PTP_DISCARD

/-- Whether an interval of a message (Table 8.2) has passed since it was last sent; `sent` is one more than that uptime,
0 for never. -/
def State.intervalOver (s : State) (f : Fld) (sent : Nat) : Bool :=
  sent == 0 || decide (sent + logNs (toSigned 8 (s.get timeBase f)) ≤ s.uptime + 1)

/-- SYNC_RX (R218, R221, R226). -/
def execSyncRx (p : Fin 6) (m : PtpRx) (s : State) : Host.Outcome State Fault Refusal :=
  s.runPort p.val fun s => s.syncRx p.val m

/-- FOLLOW_UP_RX (R221). -/
def execFollowUpRx (p : Fin 6) (m : PtpRx) (s : State) : Host.Outcome State Fault Refusal :=
  s.runPort p.val fun s => s.followUpRx p.val m

/-- ANNOUNCE_RX (R223). -/
def execAnnounceRx (p : Fin 6) (m : PtpRx) (s : State) : Host.Outcome State Fault Refusal :=
  s.runPort p.val fun s => s.announceRx p.val m

/-- PDELAY_REQ_RX (R219); a hub in HELD goes on answering (R222). -/
def execPdelayReqRx (p : Fin 6) (m : PtpRx) (s : State) : Host.Outcome State Fault Refusal :=
  s.runPort p.val fun s => s.peerMsg p.val m fun s => s.pdelayReq p.val m

/-- PDELAY_RESP_RX (R219, R220). -/
def execPdelayRespRx (p : Fin 6) (m : PtpRx) (s : State) : Host.Outcome State Fault Refusal :=
  s.runPort p.val fun s => s.peerMsg p.val m fun s => s.pdelayResp p.val m (s.canSend p.val)

/-- A port starts its next exchange once the peer delay interval has passed (R219): a ring port in UP or in an external loop
test, a local port with link (R220). -/
def State.pdelayDue (s : State) (p : Nat) : State :=
  if s.ptpOn p ∧ (s.canSend p ∨ s.loopedOut p) ∧ s.intervalOver TIME_MSG_INT_LOG_PDELAY (s.peer p).sentAt then s.pdelaySend p else s

/-- PDELAY_SEND (R219). -/
def execPdelaySend (p : Fin 6) (s : State) : Host.Outcome State Fault Refusal :=
  s.runPort p.val fun s => s.pdelayDue p.val

/-- A master sends its next Sync once the sync interval has passed (R223, R225). -/
def State.syncDue (s : State) (p : Nat) : State :=
  if s.sendsSync p ∧ s.intervalOver TIME_MSG_INT_LOG_SYNC (Tbl.get (fun _ => 0) s.time.syncSent p) then s.sendSync p else s

/-- SYNC_SEND (R223, R225); a hub in HELD relays only (R222). -/
def execSyncSend (p : Fin 6) (s : State) : Host.Outcome State Fault Refusal := s.runLive fun s => s.syncDue p.val

/-- The dataset an Announce carries (R223, R225): the grandmaster's own, else the selected master's one step further. -/
def State.announceData (s : State) : Option PtpData :=
  if s.timeState = 4 then some s.ownData else s.time.master.map fun d => { d with steps := d.steps + 1 }

/-- A master sends its next Announce once the announce interval has passed. -/
def State.announceDue (s : State) (p : Nat) : State :=
  match s.announceData with
  | some d =>
    if s.sendsSync p ∧ s.intervalOver TIME_MSG_INT_LOG_ANNOUNCE (Tbl.get (fun _ => 0) s.time.annSent p) then s.sendAnnounce p d
    else s
  | none => s

/-- The next Announce is due: what a TIME_ROLE set takes effect with it (R238). -/
def State.announceNext (s : State) (p : Nat) : State :=
  if s.sendsSync p ∧ s.intervalOver TIME_MSG_INT_LOG_ANNOUNCE (Tbl.get (fun _ => 0) s.time.annSent p) then
    s.roleTaken.announceDue p
  else s

/-- ANNOUNCE_SEND (R223, R225). -/
def execAnnounceSend (p : Fin 6) (s : State) : Host.Outcome State Fault Refusal := s.runLive fun s => s.announceNext p.val

/-- ANNOUNCE_TIMEOUT (R223, R224). -/
def execAnnounceTimeout (s : State) : Host.Outcome State Fault Refusal := s.runRing fun s => s.announceTimeout

/-- SYNC_TIMEOUT (R226). -/
def execSyncTimeout (s : State) : Host.Outcome State Fault Refusal := s.runRing fun s => s.syncTimeout

/-- HOLDOVER_END (R228). -/
def execHoldoverEnd (s : State) : Host.Outcome State Fault Refusal := s.runRing fun s => s.holdoverEnd

/-- SLEW_DONE (R215). -/
def execSlewDone (s : State) : Host.Outcome State Fault Refusal := s.run fun s => s.slewDone

/-- TIME_ACCEPT_JUMP (R230). -/
def execTimeAcceptJump (s : State) : Host.Outcome State Fault Refusal := s.runLive fun s => s.acceptJump

/-- TSQ_POP (R234): a read of the whole front entry, which covers the pop word. -/
def execTsqPop (p : Fin 6) (who : Who) (s : State) : Host.Outcome State Fault Refusal :=
  s.runLive fun s =>
    let r := s.spaceRead (whoCode who) 0 (timePort p.val + 0x30) 16 (whoRing who)
    r.2.2.emit (.readData r.1 r.2.1)

/-- ACTION_FIRE (R235, R236). -/
def execActionFire (id : BitVec 16) (s : State) : Host.Outcome State Fault Refusal :=
  s.runLive fun s => s.actionFire id.toNat

/-! ### Ledger and process image -/

/-- WATERMARK_FRAME_SEND (R247). -/
def execWatermarkFrameSend (c : Fin 1024) (s : State) : Host.Outcome State Fault Refusal :=
  s.runLive fun s => s.watermarkSend c.val

/-- LEDGER_FRAME_RX (R246 to R250). -/
def execLedgerFrameRx (frame : List Byte) (s : State) : Host.Outcome State Fault Refusal :=
  s.runLive fun s => s.ledgerRx frame false

/-- LEDGER_RELEASE (R251, R252). -/
def execLedgerRelease (s : State) : Host.Outcome State Fault Refusal := s.runLive fun s => s.releaseNext.subsSettle

/-- SSEQ_GAP_EXPIRE (R255). -/
def execSseqGapExpire (sub : Fin 256) (s : State) : Host.Outcome State Fault Refusal :=
  s.runLive fun s => s.gapExpire sub.val

/-- A subscription whose watermark is older than the horizon becomes LAGGING; a LAGGING local one whose watermark has
reached F returns to normal (R252). -/
def State.lagJudge (s : State) (i : Nat) : State :=
  if s.subUsed i ∧ !s.lagging i ∧ s.subWm i + s.horizon < s.storeNow then s.setLagging i else s.localReturn i

/-- SUBSCRIPTION_LAGGING (R252). -/
def execSubscriptionLagging (sub : Fin 256) (s : State) : Host.Outcome State Fault Refusal :=
  s.runLive fun s => s.lagJudge sub.val

/-- PIMG_PUBLISH (R265). -/
def execPimgPublish (c : Fin 1024) (s : State) : Host.Outcome State Fault Refusal :=
  s.runLive fun s => s.pimgPublish c.val

/-- IMAGE_FRAME_RX (R265). -/
def execImageFrameRx (frame : List Byte) (s : State) : Host.Outcome State Fault Refusal :=
  s.runLive fun s => s.ledgerRx frame true

/-- SLOT_STALE (R266). -/
def execSlotStale (slot : Fin 16384) (s : State) : Host.Outcome State Fault Refusal :=
  s.runLive fun s => s.slotExpire slot.val

/-- PIMG_MAP_SELECT (R262): a write of PIMG_MAP_SEL. -/
def execPimgMapSelect (slot : BitVec 14) (s : State) : Host.Outcome State Fault Refusal :=
  s.runLive fun s => s.regWrite 2 (pimgBase + 0x8) (slot.setWidth 32)

/-- PIMG_MAP_COMMIT (R262): a write of PIMG_MAP_W3. -/
def execPimgMapCommit (w3 : Word) (s : State) : Host.Outcome State Fault Refusal :=
  s.runLive fun s => s.regWrite 2 (pimgBase + 0x1C) w3

/-! ### Host bridge -/

/-- XSPI_READ (R271, R278, R280); in HELD a few words are still served (Table 18.6). -/
def execXspiRead (t : XspiTx) (s : State) : Host.Outcome State Fault Refusal := s.run fun s => s.xspiRead t false

/-- XSPI_WRITE (R273). -/
def execXspiWrite (t : XspiTx) (s : State) : Host.Outcome State Fault Refusal := s.run fun s => s.xspiWrite t

/-- XSPI_CAS (R278). -/
def execXspiCas (t : XspiTx) (s : State) : Host.Outcome State Fault Refusal := s.run fun s => s.xspiRead t true

/-- XSPI_STATUS (R274). -/
def execXspiStatus (s : State) : Host.Outcome State Fault Refusal := s.run fun s => s.xspiStatus

/-- POSTED_WRITE_ISSUE (R273). -/
def execPostedWriteIssue (s : State) : Host.Outcome State Fault Refusal := s.run fun s => s.writeIssue

/-- LADLE_FETCH_DONE (R278). -/
def execLadleFetchDone (l : Fin 32) (s : State) : Host.Outcome State Fault Refusal := s.run fun s => s.ladleFetch l.val

/-- LADLE_DISCARD (R280, R282, R286). -/
def execLadleDiscard (l : Fin 32) (s : State) : Host.Outcome State Fault Refusal := s.run fun s => s.ladleDiscard l.val

end Sys2Proof.Machine
end

