-- ==== Sys2Proof/Machine/ExecUnit.lean ====
section
/-! DEFINITION. The meanings of the rows of the CAN controllers, the Flasks and the discrete lines (chapters 11 to 13). -/

namespace Sys2Proof.Machine

/-! ### CAN controllers -/

/-- A row of CAN controller `n`, which the variant has (R4). -/
def State.runCan (s : State) (n : Nat) (f : State → State) : Host.Outcome State Fault Refusal :=
  s.runLive fun s => if n < s.nCan then f s else s

/-- A row of the bus or the clock of CAN controller `n`: on a fenced island it does nothing (Table 1.5). -/
def State.runCanBus (s : State) (n : Nat) (f : State → State) : Host.Outcome State Fault Refusal :=
  s.runCan n fun s => if s.fenced (.canIsl (n / 16)) then s else f s

/-- CAN_FRAME_RX (R311, R313, R316). -/
def execCanFrameRx (c : Fin 64) (f : CanRx) (s : State) : Host.Outcome State Fault Refusal :=
  s.runCanBus c.val fun s => s.canFrameRx c.val f

/-- CAN_TX_COMPLETE (R321). -/
def execCanTxComplete (c : Fin 64) (s : State) : Host.Outcome State Fault Refusal :=
  s.runCanBus c.val fun s => s.txComplete c.val

/-- CAN_ARB_LOST (R321). -/
def execCanArbLost (c : Fin 64) (s : State) : Host.Outcome State Fault Refusal := s.runCanBus c.val fun s => s.arbLost c.val

/-- CAN_ERROR (R308). -/
def execCanError (c : Fin 64) (e : CanErr) (s : State) : Host.Outcome State Fault Refusal :=
  s.runCanBus c.val fun s => s.canError c.val e

/-- CAN_RECOVERY_DONE (R308). -/
def execCanRecoveryDone (c : Fin 64) (s : State) : Host.Outcome State Fault Refusal :=
  s.runCanBus c.val fun s => s.canRecovered c.val

/-- An opened controller has seen 11 recessive bits (R304). -/
def State.canJoin (s : State) (n : Nat) : State :=
  if s.canOpen n then s.set (canBase n) CAN_STAT_INTEGRATING 0 else s

/-- CAN_INTEGRATION_DONE (R304). -/
def execCanIntegrationDone (c : Fin 64) (s : State) : Host.Outcome State Fault Refusal :=
  s.runCanBus c.val fun s => s.canJoin c.val

/-- The frame a closing controller waited for, not its own, is over (R305). -/
def State.closeOver (s : State) (n : Nat) : State :=
  if (s.can n).closing ∧ (s.can n).active.isNone then s.frameOver n else s

/-- CAN_CLOSE_DONE (R305). -/
def execCanCloseDone (c : Fin 64) (s : State) : Host.Outcome State Fault Refusal :=
  s.runCanBus c.val fun s => s.closeOver c.val

/-- CAN_TT_INSTANT (R320). -/
def execCanTtInstant (c : Fin 64) (b : Fin 32) (s : State) : Host.Outcome State Fault Refusal :=
  s.runCanBus c.val fun s => s.ttInstant c.val b.val

/-- CAN_SETTLE_END (R306). -/
def execCanSettleEnd (c : Fin 64) (s : State) : Host.Outcome State Fault Refusal := s.runCanBus c.val fun s => s.heldEval c.val

/-- CAN_LAG_FALL (R317). -/
def execCanLagFall (c : Fin 64) (s : State) : Host.Outcome State Fault Refusal := s.runCan c.val fun s => s.canLagFall c.val

/-- TREF_INSTANT (R324, R325). -/
def execTrefInstant (c : Fin 64) (s : State) : Host.Outcome State Fault Refusal := s.runCanBus c.val fun s => s.trefInstant c.val

/-- CAN_TXMAP_PERIOD (R327). -/
def execCanTxmapPeriod (c : Fin 64) (m : Fin 16) (s : State) : Host.Outcome State Fault Refusal :=
  s.runCanBus c.val fun s => s.txMapDue c.val m.val

/-- CAN_START_OF_FRAME (R319, R320). -/
def execCanStartOfFrame (c : Fin 64) (s : State) : Host.Outcome State Fault Refusal :=
  s.runCanBus c.val fun s => s.startOfFrame c.val

/-- CAN_EN_OPEN (R304): CAN_CTRL written with EN = 1. -/
def execCanEnOpen (c : Fin 64) (s : State) : Host.Outcome State Fault Refusal :=
  s.runCan c.val fun s => s.regWrite 2 (canBase c.val) (s.rd (canBase c.val) ||| 1#32)

/-- CAN_EN_CLOSE (R305): CAN_CTRL written with EN = 0. -/
def execCanEnClose (c : Fin 64) (s : State) : Host.Outcome State Fault Refusal :=
  s.runCan c.val fun s => s.regWrite 2 (canBase c.val) (s.rd (canBase c.val) &&& 0xFFFFFFFE#32)

/-- CAN_RECOVER (R308): CAN_CTRL written with RECOVER = 1. -/
def execCanRecover (c : Fin 64) (s : State) : Host.Outcome State Fault Refusal :=
  s.runCan c.val fun s => s.regWrite 2 (canBase c.val) (s.rd (canBase c.val) ||| 0x100#32)

/-- CAN_TXB_SUBMIT (R318): CAN_TXB_CMD written with SUBMIT = 1. -/
def execCanTxbSubmit (c : Fin 64) (b : Fin 32) (s : State) : Host.Outcome State Fault Refusal :=
  s.runCan c.val fun s => s.regWrite 2 (txbBase c.val b.val + 0x20) 1#32

/-- CAN_TXB_CANCEL (R322): CAN_TXB_CMD written with CANCEL = 1. -/
def execCanTxbCancel (c : Fin 64) (b : Fin 32) (s : State) : Host.Outcome State Fault Refusal :=
  s.runCan c.val fun s => s.regWrite 2 (txbBase c.val b.val + 0x20) 2#32

/-- CAN_FLT_COPY (R312): CAN_FLT_CMD written with GO = 1. -/
def execCanFltCopy (c : Fin 64) (cmd : Word) (s : State) : Host.Outcome State Fault Refusal :=
  s.runCan c.val fun s => s.regWrite 2 (canBase c.val + 0x54) cmd

/-- CAN_TREF_ENABLE (R324): CAN_TREF_CTRL written with EN = 1. -/
def execCanTrefEnable (c : Fin 64) (s : State) : Host.Outcome State Fault Refusal :=
  s.runCan c.val fun s => s.regWrite 2 (canBase c.val + 0x30) (s.rd (canBase c.val + 0x30) ||| 1#32)

/-- CAN_RXQ_POP (R315). -/
def execCanRxqPop (c : Fin 64) (who : Who) (s : State) : Host.Outcome State Fault Refusal :=
  s.runCan c.val fun s => s.readBy who (canBase c.val + 0xF0)

/-- CAN_TXEQ_POP (R323). -/
def execCanTxeqPop (c : Fin 64) (who : Who) (s : State) : Host.Outcome State Fault Refusal :=
  s.runCan c.val fun s => s.readBy who (canBase c.val + 0xF4)

/-! ### Flasks -/

/-- A row of Flask `f`, which the variant has (R4). -/
def State.runFlask (s : State) (f : Nat) (g : State → State) : Host.Outcome State Fault Refusal :=
  s.runLive fun s => if f < s.nFlask then g s else s

/-- GO (Table 12.2): what it comes to in a cycle. -/
def flaskGoBody (_f _e : Nat) (s : State) (w : Nat) : FlaskRes := .jump (fw w 0 10) s

/-- GO, one engine cycle (R336, R335, R344). -/
def execFlaskGo (f e : Fin 8) (x : FlaskIn) (s : State) : Host.Outcome State Fault Refusal :=
  s.runFlask f.val fun s => s.engCycle f.val e.val 0x00 x (flaskGoBody f.val e.val)

/-- IF (Table 12.2): what it comes to in a cycle. -/
def flaskIfBody (f e : Nat) (s : State) (w : Nat) : FlaskRes :=
  if s.flaskCond f e (fw w 23 4) (fw w 20 3) then .jump (fw w 0 10) s else .next s

/-- IF, one engine cycle (R336, R335, R344). -/
def execFlaskIf (f e : Fin 8) (x : FlaskIn) (s : State) : Host.Outcome State Fault Refusal :=
  s.runFlask f.val fun s => s.engCycle f.val e.val 0x01 x (flaskIfBody f.val e.val)

/-- LOOP (Table 12.2): what it comes to in a cycle. -/
def flaskLoopBody (f e : Nat) (s : State) (w : Nat) : FlaskRes := s.flaskLoop f e w

/-- LOOP, one engine cycle (R336, R335, R344). -/
def execFlaskLoop (f e : Fin 8) (x : FlaskIn) (s : State) : Host.Outcome State Fault Refusal :=
  s.runFlask f.val fun s => s.engCycle f.val e.val 0x02 x (flaskLoopBody f.val e.val)

/-- SETK (Table 12.2): what it comes to in a cycle. -/
def flaskSetkBody (f e : Nat) (s : State) (w : Nat) : FlaskRes :=
  .next (s.set (ecBase f e) (if fw w 20 1 = 0 then EC_K_K0 else EC_K_K1) (fw w 0 16))

/-- SETK, one engine cycle (R336, R335, R344). -/
def execFlaskSetk (f e : Fin 8) (x : FlaskIn) (s : State) : Host.Outcome State Fault Refusal :=
  s.runFlask f.val fun s => s.engCycle f.val e.val 0x03 x (flaskSetkBody f.val e.val)

/-- HOLD (Table 12.2): what it comes to in a cycle. -/
def flaskHoldBody (f e : Nat) (s : State) (w : Nat) : FlaskRes :=
  if s.laneLevel f e (fw w 20 3) == (fw w 24 1 == 1) then .next s else .stall 1

/-- HOLD, one engine cycle (R336, R335, R344). -/
def execFlaskHold (f e : Fin 8) (x : FlaskIn) (s : State) : Host.Outcome State Fault Refusal :=
  s.runFlask f.val fun s => s.engCycle f.val e.val 0x04 x (flaskHoldBody f.val e.val)

/-- DRIVE (Table 12.2): what it comes to in a cycle. -/
def flaskDriveBody (f e : Nat) (s : State) (w : Nat) : FlaskRes := .next (s.flaskDrive f e w)

/-- DRIVE, one engine cycle (R336, R335, R344). -/
def execFlaskDrive (f e : Fin 8) (x : FlaskIn) (s : State) : Host.Outcome State Fault Refusal :=
  s.runFlask f.val fun s => s.engCycle f.val e.val 0x05 x (flaskDriveBody f.val e.val)

/-- SEND (Table 12.2): what it comes to in a cycle. -/
def flaskSendBody (f e : Nat) (s : State) (w : Nat) : FlaskRes := s.flaskSend f e w

/-- SEND, one engine cycle (R336, R339, R335, R344). -/
def execFlaskSend (f e : Fin 8) (x : FlaskIn) (s : State) : Host.Outcome State Fault Refusal :=
  s.runFlask f.val fun s => s.engCycle f.val e.val 0x06 x (flaskSendBody f.val e.val)

/-- TAKE (Table 12.2): what it comes to in a cycle. -/
def flaskTakeBody (f e : Nat) (s : State) (w : Nat) : FlaskRes :=
  s.flaskAppend f e ((setBitsOf (fw w 16 8) 8).map (s.laneLevel f e))

/-- TAKE, one engine cycle (R336, R339, R335, R344). -/
def execFlaskTake (f e : Fin 8) (x : FlaskIn) (s : State) : Host.Outcome State Fault Refusal :=
  s.runFlask f.val fun s => s.engCycle f.val e.val 0x07 x (flaskTakeBody f.val e.val)

/-- DRAW (Table 12.2): what it comes to in a cycle. -/
def flaskDrawBody (f e : Nat) (s : State) (w : Nat) : FlaskRes := s.flaskDraw f e w

/-- DRAW, one engine cycle (R336, R339, R335, R344). -/
def execFlaskDraw (f e : Fin 8) (x : FlaskIn) (s : State) : Host.Outcome State Fault Refusal :=
  s.runFlask f.val fun s => s.engCycle f.val e.val 0x08 x (flaskDrawBody f.val e.val)

/-- FEED (Table 12.2): what it comes to in a cycle. -/
def flaskFeedBody (f e : Nat) (s : State) (w : Nat) : FlaskRes := s.flaskFeed f e w

/-- FEED, one engine cycle (R336, R339, R335, R344). -/
def execFlaskFeed (f e : Fin 8) (x : FlaskIn) (s : State) : Host.Outcome State Fault Refusal :=
  s.runFlask f.val fun s => s.engCycle f.val e.val 0x09 x (flaskFeedBody f.val e.val)

/-- SEAL (Table 12.2): what it comes to in a cycle. -/
def flaskSealBody (f e : Nat) (s : State) (_w : Nat) : FlaskRes := s.flaskSeal f e

/-- SEAL, one engine cycle (R336, R340, R335, R344). -/
def execFlaskSeal (f e : Fin 8) (x : FlaskIn) (s : State) : Host.Outcome State Fault Refusal :=
  s.runFlask f.val fun s => s.engCycle f.val e.val 0x0A x (flaskSealBody f.val e.val)

/-- DROP (Table 12.2): what it comes to in a cycle. -/
def flaskDropBody (f e : Nat) (s : State) (_w : Nat) : FlaskRes := .next (s.set (ecBase f e) EC_STAT_TDN 0)

/-- DROP, one engine cycle (R336, R335, R344). -/
def execFlaskDrop (f e : Fin 8) (x : FlaskIn) (s : State) : Host.Outcome State Fault Refusal :=
  s.runFlask f.val fun s => s.engCycle f.val e.val 0x0B x (flaskDropBody f.val e.val)

/-- LOAD (Table 12.2): what it comes to in a cycle. -/
def flaskLoadImmBody (f e : Nat) (s : State) (w : Nat) : FlaskRes := .next (s.setWreg f e (fw w 20 2) (fw w 0 20))

/-- LOAD, one engine cycle (R336, R335, R344). -/
def execFlaskLoadImm (f e : Fin 8) (x : FlaskIn) (s : State) : Host.Outcome State Fault Refusal :=
  s.runFlask f.val fun s => s.engCycle f.val e.val 0x0C x (flaskLoadImmBody f.val e.val)

/-- ALU (Table 12.2): what it comes to in a cycle. -/
def flaskAluBody (f e : Nat) (s : State) (w : Nat) : FlaskRes := .next (s.flaskAlu f e w)

/-- ALU, one engine cycle (R336, R335, R344). -/
def execFlaskAlu (f e : Fin 8) (x : FlaskIn) (s : State) : Host.Outcome State Fault Refusal :=
  s.runFlask f.val fun s => s.engCycle f.val e.val 0x0D x (flaskAluBody f.val e.val)

/-- PINS (Table 12.2): what it comes to in a cycle. -/
def flaskPinsBody (f e : Nat) (s : State) (w : Nat) : FlaskRes := .next (s.setWreg f e (fw w 20 2) (s.pinLevels f))

/-- PINS, one engine cycle (R336, R337, R335, R344). -/
def execFlaskPins (f e : Fin 8) (x : FlaskIn) (s : State) : Host.Outcome State Fault Refusal :=
  s.runFlask f.val fun s => s.engCycle f.val e.val 0x0E x (flaskPinsBody f.val e.val)

/-- STAMP (Table 12.2): what it comes to in a cycle. -/
def flaskStampBody (f e : Nat) (s : State) (w : Nat) : FlaskRes := s.flaskStamp f e w

/-- STAMP, one engine cycle (R341, R335, R344). -/
def execFlaskStamp (f e : Fin 8) (x : FlaskIn) (s : State) : Host.Outcome State Fault Refusal :=
  s.runFlask f.val fun s => s.engCycle f.val e.val 0x0F x (flaskStampBody f.val e.val)

/-- AT (Table 12.2): what it comes to in a cycle. -/
def flaskAtBody (f e : Nat) (s : State) (w : Nat) : FlaskRes := s.flaskAt f e w

/-- AT, one engine cycle (R342, R335, R344). -/
def execFlaskAt (f e : Fin 8) (x : FlaskIn) (s : State) : Host.Outcome State Fault Refusal :=
  s.runFlask f.val fun s => s.engCycle f.val e.val 0x10 x (flaskAtBody f.val e.val)

/-- TALLY (Table 12.2): what it comes to in a cycle. -/
def flaskTallyBody (f _e : Nat) (s : State) (w : Nat) : FlaskRes := s.flaskTally f w

/-- TALLY, one engine cycle (R343, R335, R344). -/
def execFlaskTally (f e : Fin 8) (x : FlaskIn) (s : State) : Host.Outcome State Fault Refusal :=
  s.runFlask f.val fun s => s.engCycle f.val e.val 0x11 x (flaskTallyBody f.val e.val)

/-- GOI (Table 12.2): what it comes to in a cycle. -/
def flaskGoiBody (f e : Nat) (s : State) (w : Nat) : FlaskRes := .jump (s.wreg f e (fw w 20 2) % 1024) s

/-- GOI, one engine cycle (R336, R335, R344). -/
def execFlaskGoi (f e : Fin 8) (x : FlaskIn) (s : State) : Host.Outcome State Fault Refusal :=
  s.runFlask f.val fun s => s.engCycle f.val e.val 0x12 x (flaskGoiBody f.val e.val)

/-- ENGINE_ARMED_START (R348). -/
def execEngineArmedStart (f : Fin 8) (s : State) : Host.Outcome State Fault Refusal :=
  s.runFlask f.val fun s => s.engArmed f.val

/-- ENGINE_STOP_TAKEN (R349). -/
def execEngineStopTaken (f e : Fin 8) (s : State) : Host.Outcome State Fault Refusal :=
  s.runFlask f.val fun s => s.engStopTaken f.val e.val

/-- FLASK_GO_START (R348): FLASK_GO written with START. -/
def execFlaskGoStart (f : Fin 8) (mask : BitVec 8) (s : State) : Host.Outcome State Fault Refusal :=
  s.runFlask f.val fun s => s.regWrite 2 (flaskBase f.val + 0x04) (BitVec.ofNat 32 mask.toNat)

/-- FLASK_GO_STOP (R349): FLASK_GO written with STOP. -/
def execFlaskGoStop (f : Fin 8) (mask : BitVec 8) (s : State) : Host.Outcome State Fault Refusal :=
  s.runFlask f.val fun s => s.regWrite 2 (flaskBase f.val + 0x04) (BitVec.ofNat 32 (256 * mask.toNat))

/-- FLASK_TXQ_PUSH (R340). -/
def execFlaskTxqPush (f e : Fin 8) (value : Word) (s : State) : Host.Outcome State Fault Refusal :=
  s.runFlask f.val fun s => s.regWrite 2 (flaskBase f.val + 0x120 + 4 * e.val) value

/-- FLASK_RXQ_POP (R340). -/
def execFlaskRxqPop (f e : Fin 8) (who : Who) (s : State) : Host.Outcome State Fault Refusal :=
  s.runFlask f.val fun s => s.readBy who (flaskBase f.val + 0x100 + 4 * e.val)

/-- FLASK_TALLY_POST (R343): FLASK_TALLY_CMD written with POST. -/
def execFlaskTallyPost (f : Fin 8) (mask : BitVec 8) (s : State) : Host.Outcome State Fault Refusal :=
  s.runFlask f.val fun s => s.regWrite 2 (flaskBase f.val + 0x1C) (BitVec.ofNat 32 mask.toNat)

/-- FLASK_TALLY_CLR (R343): FLASK_TALLY_CMD written with CLR. -/
def execFlaskTallyClr (f : Fin 8) (mask : BitVec 8) (s : State) : Host.Outcome State Fault Refusal :=
  s.runFlask f.val fun s => s.regWrite 2 (flaskBase f.val + 0x1C) (BitVec.ofNat 32 (256 * mask.toNat))

/-- FLASK_PLOAD (R346): FLASK_PLOAD_CMD written. -/
def execFlaskPload (f : Fin 8) (cmd : Word) (s : State) : Host.Outcome State Fault Refusal :=
  s.runFlask f.val fun s => s.regWrite 2 (flaskBase f.val + 0x24) cmd

/-- PATTERN_LOAD_COMMIT (R347). -/
def execPatternLoadCommit (f : Fin 8) (s : State) : Host.Outcome State Fault Refusal :=
  s.runFlask f.val fun s => s.loadCommit f.val

/-! ### Discrete lines -/

/-- A row of discrete line `j`, which the variant has (R4). -/
def State.runLine (s : State) (j : Nat) (f : State → State) : Host.Outcome State Fault Refusal :=
  s.run fun s => if j < s.nDio then f s else s

/-- A row of DIO bank `b`, which the variant has (R4), stopped in HELD (Table 18.6). -/
def State.runBank (s : State) (b : Nat) (f : State → State) : Host.Outcome State Fault Refusal :=
  s.runLive fun s => if 64 * b < s.nDio then f s else s

/-- The pad of a line in HELD shows its level, and no event forms (Table 18.6). -/
def State.padSees (s : State) (j : Nat) (level : Bool) : State :=
  if s.inHeld then s.setLine j { s.line j with pad := level } else s.crossing j level

/-- DIO_CROSSING (R357, R360). -/
def execDioCrossing (j : Fin 192) (level : Bool) (s : State) : Host.Outcome State Fault Refusal :=
  s.runLine j.val fun s => s.padSees j.val level

/-- DIO_FILTER_DECIDE (R357, R358). -/
def execDioFilterDecide (j : Fin 192) (s : State) : Host.Outcome State Fault Refusal :=
  s.runLine j.val fun s => if s.inHeld then s else s.lineDecide j.val

/-- DIO_LAG_FALL (R359). -/
def execDioLagFall (b : Fin 3) (s : State) : Host.Outcome State Fault Refusal := s.runBank b.val fun s => s.bankLagFall b.val

/-- DIO_OUT_SET (R363). -/
def execDioOutSet (b : Fin 3) (half : Bool) (mask : Word) (s : State) : Host.Outcome State Fault Refusal :=
  s.runBank b.val fun s => s.regWrite 2 (dioBase b.val + 0x28 + 4 * b2n half) mask

/-- DIO_OUT_CLR (R363). -/
def execDioOutClr (b : Fin 3) (half : Bool) (mask : Word) (s : State) : Host.Outcome State Fault Refusal :=
  s.runBank b.val fun s => s.regWrite 2 (dioBase b.val + 0x30 + 4 * b2n half) mask

/-- DIO_OUT_TGL (R363). -/
def execDioOutTgl (b : Fin 3) (half : Bool) (mask : Word) (s : State) : Host.Outcome State Fault Refusal :=
  s.runBank b.val fun s => s.regWrite 2 (dioBase b.val + 0x38 + 4 * b2n half) mask

/-- DIO_OUT_WRITE (R363). -/
def execDioOutWrite (b : Fin 3) (half : Bool) (value : Word) (s : State) : Host.Outcome State Fault Refusal :=
  s.runBank b.val fun s => s.regWrite 2 (dioBase b.val + 0x20 + 4 * b2n half) value

/-- DIO_READBACK_MISMATCH (R364). -/
def execDioReadbackMismatch (j : Fin 192) (s : State) : Host.Outcome State Fault Refusal :=
  s.runLine j.val fun s => if s.inHeld ∨ s.fenced (.dioBank (j.val / 64)) then s else s.readback j.val

/-- DIO_SCHED_FIRE (R365). -/
def execDioSchedFire (b : Fin 3) (s : State) : Host.Outcome State Fault Refusal := s.runBank b.val fun s => s.schedFire b.val

/-- DIO_SCHED_GO (R365): DIO_SCHED_CMD written. -/
def execDioSchedGo (b : Fin 3) (cmd : Word) (s : State) : Host.Outcome State Fault Refusal :=
  s.runBank b.val fun s => s.regWrite 2 (dioBase b.val + 0x6C) cmd

/-- PWM_PERIOD_START (R367). -/
def execPwmPeriodStart (b : Fin 3) (g : Fin 16) (s : State) : Host.Outcome State Fault Refusal :=
  s.runBank b.val fun s => s.genStart b.val g.val

/-- PWM_ON_END (R367). -/
def execPwmOnEnd (b : Fin 3) (g : Fin 16) (s : State) : Host.Outcome State Fault Refusal :=
  s.runBank b.val fun s => s.genOnEnd b.val g.val

/-- DIO_PWM_CTRL_WRITE (R367). -/
def execDioPwmCtrlWrite (b : Fin 3) (g : Fin 16) (value : Word) (s : State) : Host.Outcome State Fault Refusal :=
  s.runBank b.val fun s => s.regWrite 2 (pwmBase b.val g.val + 0x0C) value

/-- DIO_EVQ_POP (R362). -/
def execDioEvqPop (b : Fin 3) (who : Who) (s : State) : Host.Outcome State Fault Refusal :=
  s.runBank b.val fun s => s.readBy who (dioBase b.val + 0xF0)

end Sys2Proof.Machine
end

