-- ==== Sys2Proof/Machine/ExecPower.lean ====
section
/-! DEFINITION. The meanings of the rows of the feeds and the string power channels (chapter 14). They belong to the
power-edge dies, which go on in HELD (R19, Table 18.6). -/

namespace Sys2Proof.Machine

/-! ### Feeds -/

/-- FEED_SAMPLE (R377 to R379, R381). -/
def execFeedSample (mv : FeedMv) (s : State) : Host.Outcome State Fault Refusal :=
  s.runDie 0 fun s => s.feedSample mv.a.toNat mv.b.toNat mv.bat.toNat

/-- FEED_BREAK_CONFIRM (R378). -/
def execFeedBreakConfirm (s : State) : Host.Outcome State Fault Refusal := s.runDie 0 fun s => s.feedConfirm

/-- FEED_DEAD_TIME_END (R378, R381). -/
def execFeedDeadTimeEnd (s : State) : Host.Outcome State Fault Refusal := s.runDie 0 fun s => s.feedMake

/-- FEED_BREAK_TIMEOUT (R380). -/
def execFeedBreakTimeout (vgs : Word) (s : State) : Host.Outcome State Fault Refusal :=
  s.runDie 0 fun s => s.feedStuck vgs.toNat

/-- FEED_PIMG_PERIOD (R382): the store island takes the values. -/
def execFeedPimgPeriod (s : State) : Host.Outcome State Fault Refusal :=
  s.run fun s => if (s.die 0).powered then s.feedPeriod else s

/-- FEED_PRIO_WRITE (R378). -/
def execFeedPrioWrite (value : Word) (s : State) : Host.Outcome State Fault Refusal :=
  s.runLive fun s => s.regWrite 2 feedReg value

/-! ### Channels -/

/-- PRESENCE_CHANGE (R385). -/
def execPresenceChange (c : Fin 64) (present : Bool) (s : State) : Host.Outcome State Fault Refusal :=
  s.runPch c.val fun s => s.presence c.val present

/-- INSERT_DELAY_END (R386). -/
def execInsertDelayEnd (c : Fin 64) (s : State) : Host.Outcome State Fault Refusal := s.runPch c.val fun s => s.insertEnd c.val

/-- RAMP_END (R387). -/
def execRampEnd (c : Fin 64) (m : ChSample) (s : State) : Host.Outcome State Fault Refusal :=
  s.runPch c.val fun s => (s.pchSample c.val m.ma m.mv).rampEnd c.val

/-- RAMP_TIMEOUT (R387). -/
def execRampTimeout (c : Fin 64) (m : ChSample) (s : State) : Host.Outcome State Fault Refusal :=
  s.runPch c.val fun s => (s.pchSample c.val m.ma m.mv).rampTimeout c.val

/-- GATE_ON (R388). -/
def execGateOn (c : Fin 64) (m : ChSample) (s : State) : Host.Outcome State Fault Refusal :=
  s.runPch c.val fun s => (s.pchSample c.val m.ma m.mv).gateOn c.val

/-- GATE_RISE_TIMEOUT (R388). -/
def execGateRiseTimeout (c : Fin 64) (vgs : Word) (s : State) : Host.Outcome State Fault Refusal :=
  s.runPch c.val fun s => s.gateTimeout c.val vgs.toNat

/-- FAST_TRIP (R389). -/
def execFastTrip (c : Fin 64) (m : ChSample) (s : State) : Host.Outcome State Fault Refusal :=
  s.runPch c.val fun s => (s.pchSample c.val m.ma m.mv).fastTrip c.val

/-- SLOW_OVERCURRENT (R390). -/
def execSlowOvercurrent (c : Fin 64) (m : ChSample) (s : State) : Host.Outcome State Fault Refusal :=
  s.runPch c.val fun s => (s.pchSample c.val m.ma m.mv).slowOver c.val

/-- FET_STRESS_LIMIT (R391). -/
def execFetStressLimit (c : Fin 64) (m : ChSample) (s : State) : Host.Outcome State Fault Refusal :=
  s.runPch c.val fun s => (s.pchSample c.val m.ma m.mv).stressLimit c.val

/-- FET_SHORT_DETECT (R392). -/
def execFetShortDetect (c : Fin 64) (m : ChSample) (s : State) : Host.Outcome State Fault Refusal :=
  s.runPch c.val fun s => (s.pchSample c.val m.ma m.mv).fetShort c.val

/-- FET_SHORT_CLEAR (R392). -/
def execFetShortClear (c : Fin 64) (m : ChSample) (s : State) : Host.Outcome State Fault Refusal :=
  s.runPch c.val fun s => (s.pchSample c.val m.ma m.mv).fetShortClear c.val

/-- RETRY_TIME_END (R393, R394). -/
def execRetryTimeEnd (c : Fin 64) (s : State) : Host.Outcome State Fault Refusal := s.runPch c.val fun s => s.retryEnd c.val

/-- RETRY_COUNT_CLEAR (R393). -/
def execRetryCountClear (c : Fin 64) (s : State) : Host.Outcome State Fault Refusal := s.runPch c.val fun s => s.retryClear c.val

/-- The 1 ms means of a channel; those of the feeds are taken with channel 0's. -/
def State.measureAll (s : State) (c : Nat) (ms : List ChSample) : State :=
  let t := s.measure c ms
  if c = 0 then t.feedMeans else t

/-- MEASUREMENT_UPDATE (R391, R396). -/
def execMeasurementUpdate (c : Fin 64) (ms : List ChSample) (s : State) : Host.Outcome State Fault Refusal :=
  s.runPch c.val fun s => s.measureAll c.val ms

/-- A channel writes its slots once PIMG_MS has passed (R397). -/
def State.pchImageDue (s : State) (c : Nat) : State :=
  if (s.die (c / 32)).powered ∧ c < s.nPch ∧
      (s.pch c).imageAt + 1000000 * s.get (pchBase c) PCH_PIMG_MS ≤ s.uptime then s.pchImage c
  else s

/-- PCH_PIMG_PERIOD (R397): the store island takes the value. -/
def execPchPimgPeriod (c : Fin 64) (s : State) : Host.Outcome State Fault Refusal := s.run fun s => s.pchImageDue c.val

/-- PCH_EN_WRITE (R384): PCH_CTRL written with EN. -/
def execPchEnWrite (who : Who) (c : Fin 64) (en : Bool) (s : State) : Host.Outcome State Fault Refusal :=
  s.runLive fun s => s.writeBy who (pchBase c.val) (putBits (s.rd (pchBase c.val)) 0 1 (b2n en))

end Sys2Proof.Machine
end

