-- ==== Sys2Proof/Machine/ExecUsb.lean ====
section
/-! DEFINITION. The meanings of the rows of the USB hub and of power negotiation (chapters 15 and 16). -/

namespace Sys2Proof.Machine

/-! ### Hub and ports -/

/-- USB_VBUS_CHANGE (R403). -/
def execUsbVbusChange (up : Bool) (s : State) : Host.Outcome State Fault Refusal := s.run fun s => s.usbVbus up

/-- SET_PORT_RESET (R405) of port `p` + 1. -/
def execSetPortReset (p : Fin 8) (s : State) : Host.Outcome State Fault Refusal :=
  s.runLive fun s => s.hubRequest fun s => s.portReset (p.val + 1)

/-- PORT_RESET_DONE (R405). -/
def execPortResetDone (p : Fin 8) (hs : Bool) (s : State) : Host.Outcome State Fault Refusal :=
  s.runLive fun s => s.portResetDone (p.val + 1) hs

/-- SET_PORT_POWER (R409). -/
def execSetPortPower (p : Fin 9) (s : State) : Host.Outcome State Fault Refusal :=
  s.runLive fun s => s.hubRequest fun s => s.setPower (p.val + 1)

/-- CLEAR_PORT_POWER (R409). -/
def execClearPortPower (p : Fin 9) (s : State) : Host.Outcome State Fault Refusal :=
  s.runLive fun s => s.hubRequest fun s => s.clearPower (p.val + 1)

/-- PORT_POWER_GOOD (R409). -/
def execPortPowerGood (p : Fin 8) (s : State) : Host.Outcome State Fault Refusal :=
  s.runLive fun s => s.powerGood (p.val + 1)

/-- PORT_OC_FILTER_EXPIRE (R410). -/
def execPortOcFilterExpire (p : Fin 8) (low : Bool) (s : State) : Host.Outcome State Fault Refusal :=
  s.runLive fun s => s.overCurrent (p.val + 1) low

/-- PORT_CONNECT_CHANGE (R408, R413). -/
def execPortConnectChange (p : Fin 9) (connected low : Bool) (s : State) : Host.Outcome State Fault Refusal :=
  s.runLive fun s => s.portConnect (p.val + 1) connected low

/-- SET_PORT_SUSPEND (R412). -/
def execSetPortSuspend (p : Fin 9) (s : State) : Host.Outcome State Fault Refusal :=
  s.runLive fun s => s.hubRequest fun s => s.portSuspend (p.val + 1)

/-- CLEAR_PORT_SUSPEND (R413). -/
def execClearPortSuspend (p : Fin 9) (s : State) : Host.Outcome State Fault Refusal :=
  s.runLive fun s => s.hubRequest fun s => s.portResume (p.val + 1) true

/-- PORT_RESUME_DONE (R413). -/
def execPortResumeDone (p : Fin 9) (s : State) : Host.Outcome State Fault Refusal :=
  s.runLive fun s => s.portResumeDone (p.val + 1)

/-- HUB_SUSPEND (R412). -/
def execHubSuspend (s : State) : Host.Outcome State Fault Refusal := s.runLive fun s => s.hubSuspend

/-- DEVICE_WAKE (R413). -/
def execDeviceWake (p : Fin 9) (s : State) : Host.Outcome State Fault Refusal := s.runLive fun s => s.deviceWake (p.val + 1)

/-- HOST_RESUME (R413, R415). -/
def execHostResume (s : State) : Host.Outcome State Fault Refusal := s.runLive fun s => s.hostResume

/-- MGMT_REMOTE_WAKE (R414). -/
def execMgmtRemoteWake (s : State) : Host.Outcome State Fault Refusal := s.runLive fun s => s.wakeQueue

/-- SET_PORT_TEST (R416). -/
def execSetPortTest (p : Fin 8) (mode : BitVec 8) (s : State) : Host.Outcome State Fault Refusal :=
  s.runLive fun s => s.hubRequest fun s => s.setPortTest (p.val + 1) mode.toNat

/-- SET_TEST_MODE (R416). -/
def execSetTestMode (mode : BitVec 8) (s : State) : Host.Outcome State Fault Refusal :=
  s.runLive fun s => s.hubRequest fun s => s.setTest mode.toNat

/-! ### Transaction translators -/

/-- SPLIT_START (R405, R407). -/
def execSplitStart (p : Fin 8) (x : SplitTx) (s : State) : Host.Outcome State Fault Refusal :=
  s.runLive fun s => s.splitStart (p.val + 1) x

/-- COMPLETE_SPLIT (R407). -/
def execCompleteSplit (p : Fin 8) (x : SplitTx) (s : State) : Host.Outcome State Fault Refusal :=
  s.runLive fun s => s.splitComplete (p.val + 1) x

/-- TT_AGE_OUT (R407). -/
def execTtAgeOut (p : Fin 8) (ep : BitVec 12) (s : State) : Host.Outcome State Fault Refusal :=
  s.runLive fun s => s.ttAge (p.val + 1) ep.toNat

/-- CLEAR_TT_BUFFER (R407). -/
def execClearTtBuffer (p : Fin 8) (x : SplitTx) (s : State) : Host.Outcome State Fault Refusal :=
  s.runLive fun s => s.hubRequest fun s => s.ttClearBuffer (p.val + 1) x.ep.toNat

/-- RESET_TT (R408). -/
def execResetTt (p : Fin 8) (s : State) : Host.Outcome State Fault Refusal :=
  s.runLive fun s => s.hubRequest fun s => s.ttReset (p.val + 1)

/-- GET_TT_STATE (R404): the hub does not support it, nor Stop_TT. -/
def execGetTtState (_p : Fin 8) (s : State) : Host.Outcome State Fault Refusal :=
  s.runLive fun s => s.hubRequest fun s => s.stall

/-! ### Control transfers and resets -/

/-- SETUP_PACKET (R404, R417, R428). -/
def execSetupPacket (u : UsbSetup) (s : State) : Host.Outcome State Fault Refusal :=
  s.runLive fun s => s.setup u fun s => s.anyRequest u

/-- SET_CONFIGURATION (R426). -/
def execSetConfiguration (u : UsbSetup) (s : State) : Host.Outcome State Fault Refusal :=
  s.runLive fun s => s.setup u fun s => s.setConfig u.hub u.val.toNat

/-- SET_INTERFACE (R426). -/
def execSetInterface (u : UsbSetup) (s : State) : Host.Outcome State Fault Refusal :=
  s.runLive fun s => s.setup u fun s => s.setIface u.hub u.idx.toNat u.val.toNat

/-- SET_ENDPOINT_HALT (R427). -/
def execSetEndpointHalt (u : UsbSetup) (s : State) : Host.Outcome State Fault Refusal :=
  s.runLive fun s => s.setup u fun s => s.setHalt u.hub u.idx.toNat

/-- CLEAR_ENDPOINT_HALT (R426, R427). -/
def execClearEndpointHalt (u : UsbSetup) (s : State) : Host.Outcome State Fault Refusal :=
  s.runLive fun s => s.setup u fun s => s.clearHalt u.hub u.idx.toNat

/-- BUS_RESET (R429): of the upstream port, or of port 9. -/
def execBusReset (upstream hs : Bool) (s : State) : Host.Outcome State Fault Refusal :=
  s.runLive fun s => if upstream then s.upReset hs else s.port9Reset

/-- USB_MGMT_CONNECT (R417): USB_MGMT written with CONNECT = 1. -/
def execUsbMgmtConnect (s : State) : Host.Outcome State Fault Refusal :=
  s.runLive fun s => s.regWrite 2 (usbBase + 0x14)
    (putBits (s.rd (usbBase + 0x14)) USB_MGMT_CONNECT.lo USB_MGMT_CONNECT.width 1)

/-- USB_MGMT_DISCONNECT (R417): USB_MGMT written with CONNECT = 0. -/
def execUsbMgmtDisconnect (s : State) : Host.Outcome State Fault Refusal :=
  s.runLive fun s => s.regWrite 2 (usbBase + 0x14)
    (putBits (s.rd (usbBase + 0x14)) USB_MGMT_CONNECT.lo USB_MGMT_CONNECT.width 0)

/-! ### Endpoints of the management device -/

/-- EP1_OUT_TRANSFER (R419). -/
def execEp1OutTransfer (toggle : Bool) (bytes : List Byte) (s : State) : Host.Outcome State Fault Refusal :=
  s.runLive fun s => s.ep1Out toggle bytes

/-- EP1_IN_TRANSFER (R419). -/
def execEp1InTransfer (acked : Bool) (s : State) : Host.Outcome State Fault Refusal := s.runLive fun s => s.ep1In acked

/-- EP2_OUT_TRANSFER (R420, R421). -/
def execEp2OutTransfer (toggle : Bool) (bytes : List Byte) (s : State) : Host.Outcome State Fault Refusal :=
  s.runLive fun s => s.ep2Out toggle bytes

/-- EP2_IN_TRANSFER (R420). -/
def execEp2InTransfer (acked : Bool) (s : State) : Host.Outcome State Fault Refusal := s.runLive fun s => s.ep2In acked

/-- EP3_IN_TRANSFER (R423). -/
def execEp3InTransfer (acked : Bool) (s : State) : Host.Outcome State Fault Refusal := s.runLive fun s => s.ep3In acked

/-- EVENT_REPORT_QUEUE (R423). -/
def execEventReportQueue (s : State) : Host.Outcome State Fault Refusal := s.runLive fun s => s.reportQueue

/-- EP4_IN_TRANSFER (R425). -/
def execEp4InTransfer (s : State) : Host.Outcome State Fault Refusal := s.runLive fun s => s.ep4In

/-! ### Power negotiation -/

/-- TYPEC_ATTACH (R439). -/
def execTypecAttach (p : Fin 3) (a : TypecAttach) (s : State) : Host.Outcome State Fault Refusal :=
  s.runLive fun s => s.attach p.val a.source a.cc2

/-- DRP_TOGGLE (R439). -/
def execDrpToggle (p : Fin 3) (s : State) : Host.Outcome State Fault Refusal := s.runLive fun s => s.drpToggle p.val

/-- TYPEC_DETACH (R440, R441). -/
def execTypecDetach (p : Fin 3) (mv : BitVec 16) (s : State) : Host.Outcome State Fault Refusal :=
  s.runLive fun s => s.detach p.val mv.toNat

/-- VBUS_DISCHARGE_DONE (R440). -/
def execVbusDischargeDone (p : Fin 3) (s : State) : Host.Outcome State Fault Refusal :=
  s.runLive fun s => s.discharged p.val

/-- TRANSITION_START (R437). -/
def execTransitionStart (p : Fin 3) (s : State) : Host.Outcome State Fault Refusal := s.runLive fun s => s.transStart p.val

/-- VSET_TRIM (R437). -/
def execVsetTrim (p : Fin 3) (mv : BitVec 16) (s : State) : Host.Outcome State Fault Refusal :=
  s.runLive fun s => s.vsetTrim p.val mv.toNat

/-- TRANSITION_TIMEOUT (R437). -/
def execTransitionTimeout (p : Fin 3) (pg : Bool) (mv : BitVec 16) (s : State) : Host.Outcome State Fault Refusal :=
  s.runLive fun s => s.converterFault p.val pg mv.toNat

/-- ISNS_SAMPLE (R438). -/
def execIsnsSample (p : Fin 3) (ma mv : BitVec 16) (s : State) : Host.Outcome State Fault Refusal :=
  s.runLive fun s => s.isnsSample p.val ma.toNat mv.toNat

/-- SOURCE_CAPABILITIES_RX (R443). -/
def execSourceCapabilitiesRx (p : Fin 3) (m : PdRx) (s : State) : Host.Outcome State Fault Refusal :=
  s.runLive fun s => s.capsRx p.val m.objs

/-- REQUEST_RX (R442). -/
def execRequestRx (p : Fin 3) (m : PdRx) (s : State) : Host.Outcome State Fault Refusal :=
  s.runLive fun s => s.requestRx p.val m.objs

/-- EPR_MODE_RX (R442). -/
def execEprModeRx (p : Fin 3) (m : PdRx) (s : State) : Host.Outcome State Fault Refusal :=
  s.runLive fun s => s.eprModeRx p.val m.objs

/-- EPR_KEEPALIVE_RX (R444). -/
def execEprKeepaliveRx (p : Fin 3) (s : State) : Host.Outcome State Fault Refusal := s.runLive fun s => s.keepAliveRx p.val

/-- PPS_REQUEST_SEND (R444). -/
def execPpsRequestSend (p : Fin 3) (s : State) : Host.Outcome State Fault Refusal := s.runLive fun s => s.ppsRequest p.val

/-- EPR_KEEPALIVE_SEND (R444). -/
def execEprKeepaliveSend (p : Fin 3) (s : State) : Host.Outcome State Fault Refusal :=
  s.runLive fun s => s.keepAliveSend p.val

/-- KEEPALIVE_TIMEOUT (R444). -/
def execKeepaliveTimeout (p : Fin 3) (s : State) : Host.Outcome State Fault Refusal :=
  s.runLive fun s => s.keepAliveTimeout p.val

/-- HARD_RESET_RX (R444). -/
def execHardResetRx (p : Fin 3) (s : State) : Host.Outcome State Fault Refusal := s.runLive fun s => s.hardResetRx p.val

/-- SOFT_RESET_RX (R444). -/
def execSoftResetRx (p : Fin 3) (s : State) : Host.Outcome State Fault Refusal := s.runLive fun s => s.softResetRx p.val

/-- PR_SWAP_RX (R446). -/
def execPrSwapRx (p : Fin 3) (s : State) : Host.Outcome State Fault Refusal := s.runLive fun s => s.swapRx p.val 1

/-- DR_SWAP_RX (R446). -/
def execDrSwapRx (p : Fin 3) (s : State) : Host.Outcome State Fault Refusal := s.runLive fun s => s.swapRx p.val 2

/-- VCONN_SWAP_RX (R446). -/
def execVconnSwapRx (p : Fin 3) (s : State) : Host.Outcome State Fault Refusal := s.runLive fun s => s.swapRx p.val 3

/-- ACCEPT_RX (R443, R446). -/
def execAcceptRx (p : Fin 3) (ans : Fin 3) (s : State) : Host.Outcome State Fault Refusal :=
  s.runLive fun s => s.answerRx p.val ans.val

/-- PS_RDY_RX (R437, R446). -/
def execPsRdyRx (p : Fin 3) (s : State) : Host.Outcome State Fault Refusal := s.runLive fun s => s.psRdyRx p.val

/-- FRS_SIGNAL_RX (R447). -/
def execFrsSignalRx (p : Fin 3) (s : State) : Host.Outcome State Fault Refusal := s.runLive fun s => s.frsRx p.val

/-- FRS_SOURCE_LOSS (R447). -/
def execFrsSourceLoss (s : State) : Host.Outcome State Fault Refusal := s.runLive fun s => s.frsLoss

/-- DISCOVER_IDENTITY_RX (R435). -/
def execDiscoverIdentityRx (p : Fin 3) (m : PdRx) (s : State) : Host.Outcome State Fault Refusal :=
  s.runLive fun s => s.cableRx p.val m.objs

/-- GOODCRC_TIMEOUT (R444). -/
def execGoodcrcTimeout (p : Fin 3) (s : State) : Host.Outcome State Fault Refusal :=
  s.runLive fun s => s.goodCrcTimeout p.val

/-- POLICY_WDOG_EXPIRE (R449). -/
def execPolicyWdogExpire (s : State) : Host.Outcome State Fault Refusal := s.runLive fun s => s.policyWdog

end Sys2Proof.Machine
end

