-- ==== Sys2Proof/Machine/ExecSys.lean ====
section
/-! DEFINITION. The meanings of the rows of the Crucible, fault collection, start-up and power, updates and the test access
port (chapters 17 to 21). -/

namespace Sys2Proof.Machine

/-! ### Crucible -/

/-- SAFETY_INPUT (R457, R468). -/
def execSafetyInput (s : State) : Host.Outcome State Fault Refusal := s.runLive fun s => s.safetyInput

/-- SAFETY_TICK (R457). -/
def execSafetyTick (s : State) : Host.Outcome State Fault Refusal := s.runLive fun s => s.safetyTick

/-- SAFE_CONFIRM (R467). -/
def execSafeConfirm (sf : Fin 3) (s : State) : Host.Outcome State Fault Refusal := s.runLive fun s => s.sfConfirm sf.val

/-- OUTPUT_TRANSACTION (R458, R462). -/
def execOutputTransaction (t : LaneWords) (s : State) : Host.Outcome State Fault Refusal := s.runLive fun s => s.vote t

/-- VOTE_HOLD_END (R459). -/
def execVoteHoldEnd (s : State) : Host.Outcome State Fault Refusal := s.runLive fun s => s.voteHoldEnd

/-- ASSAY_SLICE (R461). -/
def execAssaySlice (l : Fin 3) (cls : Fin 7) (last : Bool) (s : State) : Host.Outcome State Fault Refusal :=
  s.runLive fun s => s.assaySlice l.val cls.val last

/-- The class each lane's Assay found. -/
def laneClasses (c0 c1 c2 : Fin 7) (l : Nat) : Nat := if l = 0 then c0.val else if l = 1 then c1.val else c2.val

/-- DUAL_ASSAY_DONE (R462). -/
def execDualAssayDone (c0 c1 c2 : Fin 7) (s : State) : Host.Outcome State Fault Refusal :=
  s.runLive fun s => s.dualDone (laneClasses c0 c1 c2)

/-- LANE_RESYNC_DONE (R464). -/
def execLaneResyncDone (l : Fin 3) (s : State) : Host.Outcome State Fault Refusal := s.runLive fun s => s.resyncDone l.val

/-- INPUT_TEST_PULSE (R469). -/
def execInputTestPulse (s : State) : Host.Outcome State Fault Refusal := s.runLive fun s => s.testPulse

/-- INPUT_TEST_CHECK (R469). -/
def execInputTestCheck (s : State) : Host.Outcome State Fault Refusal := s.runLive fun s => s.testCheck

/-- TRIP_TEST (R470). -/
def execTripTest (c : Fin 64) (cmp : Fin 2) (fail : Bool) (s : State) : Host.Outcome State Fault Refusal :=
  s.runLive fun s => if (s.die (c.val / 32)).powered then s.tripTest c.val cmp.val fail else s

/-- SAFETY_RESUME (R473). -/
def execSafetyResume (s : State) : Host.Outcome State Fault Refusal := s.runLive fun s => s.safetyResume

/-! ### Fault collection -/

/-- The collector takes its next fault; a FAULT_INJECT that waits for this record is answered with its SEQ (R485, R498). -/
def State.collectWake (s : State) : State :=
  match firstRaised (s.fault.latches ++ s.fault.intake) with
  | none => s
  | some r =>
    let seq := s.get faultBase FAULT_SEQ_NEXT
    if r.forced then s.collectNext.wake 0x0E02 0 0 0 (leBytes 2 seq ++ leBytes 2 0) else s.collectNext

/-- FAULT_COLLECT (R485 to R490). -/
def execFaultCollect (s : State) : Host.Outcome State Fault Refusal := s.run fun s => s.collectWake

/-- FAULT_POP (R488): HELD goes on serving xSPI reads of the FAULT block (Table 18.6). -/
def execFaultPop (who : Who) (s : State) : Host.Outcome State Fault Refusal :=
  s.run fun s => if s.inHeld ∧ who ≠ .xspi then s else s.readBy who (faultBase + 0x10)

/-- FAULT_FORCE_KEY (R496). -/
def execFaultForceKey (key : BitVec 8) (s : State) : Host.Outcome State Fault Refusal :=
  s.runLive fun s => s.regWrite 2 (faultBase + 0x100) (key.setWidth 32)

/-- FAULT_FORCE (R496, R565). -/
def execFaultForce (value : Word) (s : State) : Host.Outcome State Fault Refusal :=
  s.runLive fun s => s.regWrite 2 (faultBase + 0x104) value

/-- ISLAND_WATCHDOG (R491) of the USB, Policy or Host island. -/
def execIslandWatchdog (isl : Fin 3) (cause : Fin 3) (s : State) : Host.Outcome State Fault Refusal :=
  s.runLive fun s => s.islandHang (19 + isl.val) cause.val

/-- ISLAND_RESTART (R491). -/
def execIslandRestart (isl : Fin 3) (s : State) : Host.Outcome State Fault Refusal :=
  s.runLive fun s => s.islandStart (19 + isl.val)

/-! ### Start-up, reset and power -/

/-- POWER_ON (R502 to R505). -/
def execPowerOn (e : BootEnv) (s : State) : Host.Outcome State Fault Refusal :=
  if e.cold then s.runCold fun s => s.powerOn e else s.runAon fun s => s.powerOn e

/-- The next packet of the boot script is taken (R113, R507): one after the other, each at its own offset. One cut short stops
the script. -/
def State.scriptPacket (s : State) : State :=
  match s.cmd.script with
  | [] => s
  | p :: rest =>
    if !s.cmd.scriptRun ∨ s.cmd.entries.any (fun e => e.key.transport == .boot) then s
    else
      let c := { s.cmd with script := rest, scriptAt := s.cmd.scriptNext, scriptNext := s.cmd.scriptNext + (p.length + 3) / 4 * 4 }
      let t := { s with cmd := c }
      if p.length < 16 ∨ p.length < 16 + pktPlen p then t.scriptStop (pktOp p) 0x21 else t.accept .boot 0 0 p

/-- BOOT_SCRIPT_PACKET (R113, R507). -/
def execBootScriptPacket (s : State) : Host.Outcome State Fault Refusal := s.runLive fun s => s.scriptPacket

/-- READY_SET (R504). -/
def execReadySet (s : State) : Host.Outcome State Fault Refusal := s.runLive fun s => s.scriptDone

/-- BROWNOUT (R503). -/
def execBrownout (s : State) : Host.Outcome State Fault Refusal := s.runAon fun s => s.brownout

/-- WARM_RESET (R509, R510). -/
def execWarmReset (e : BootEnv) (s : State) : Host.Outcome State Fault Refusal := s.run fun s => s.warmReset e

/-- ISLAND_GATE (R511). -/
def execIslandGate (isl : Fin 23) (s : State) : Host.Outcome State Fault Refusal := s.runLive fun s => s.islandGate isl.val

/-- ISLAND_WAKE (R511). -/
def execIslandWake (isl : Fin 23) (s : State) : Host.Outcome State Fault Refusal := s.runLive fun s => s.islandWake isl.val

/-- STANDBY_ENTRY (R512). -/
def execStandbyEntry (s : State) : Host.Outcome State Fault Refusal := s.runLive fun s => s.standbyEntry

/-- STANDBY_WAKE (R513). -/
def execStandbyWake (src : Fin 8) (s : State) : Host.Outcome State Fault Refusal := s.runAon fun s => s.standbyWake src.val

/-- WAKE_SUPPLY_READY (R513): VAON has stood through Standby, so the start is never one after the loss of every supply. -/
def execWakeSupplyReady (e : BootEnv) (s : State) : Host.Outcome State Fault Refusal :=
  s.runAon fun s => s.wakeReady { e with cold := false }

/-- AON_TIME_WRITE (R514). -/
def execAonTimeWrite (s : State) : Host.Outcome State Fault Refusal := s.run fun s => s.aonTimeWrite

/-- PEDIE_SUPPLY_RISE (R376, R501). -/
def execPedieSupplyRise (die : Fin 2) (s : State) : Host.Outcome State Fault Refusal :=
  s.runAon fun s => if s.unitPresent (.pedie die.val) then s.supplyRise die.val else s

/-- TEMPERATURE_READING (R545). -/
def execTemperatureReading (t0 t1 : Word) (s : State) : Host.Outcome State Fault Refusal :=
  s.run fun s => s.temperatures t0 t1

/-! ### Updates and calibration -/

/-- UPD_RESERVE_WRITE_DONE (R524). -/
def execUpdReserveWriteDone (s : State) : Host.Outcome State Fault Refusal := s.runLive fun s => s.reserveDone

/-- UPD_ACTIVATION (R526, R527). -/
def execUpdActivation (s : State) : Host.Outcome State Fault Refusal := s.runLive fun s => s.actWatch.activate

/-- COPY_BLOCK (R528). -/
def execCopyBlock (s : State) : Host.Outcome State Fault Refusal := s.runLive fun s => s.copyBlock

/-- CALIB_MTP_WRITE_DONE (R534). -/
def execCalibMtpWriteDone (s : State) : Host.Outcome State Fault Refusal := s.runLive fun s => s.calibDone

/-! ### Test access port -/

/-- TAP_BYPASS (R561). -/
def execTapBypass (tdi : BitVec 1) (s : State) : Host.Outcome State Fault Refusal :=
  s.runAon fun s => s.tapBypass (tdi.getLsbD 0)

/-- TAP_IDCODE (R561, Table 21.12). -/
def execTapIdcode (s : State) : Host.Outcome State Fault Refusal := s.runAon fun s => (s.tapIr 1).emit (.tdo s.tapId)

/-- TAP_SAMPLE_PRELOAD (R561). -/
def execTapSamplePreload (v : List Bool) (s : State) : Host.Outcome State Fault Refusal := s.runAon fun s => s.tapSample v

/-- TAP_EXTEST (R562). -/
def execTapExtest (s : State) : Host.Outcome State Fault Refusal := s.runAon fun s => s.tapIr 0

/-- TAP_CLAMP (R562). -/
def execTapClamp (s : State) : Host.Outcome State Fault Refusal := s.runAon fun s => s.tapIr 3

/-- TAP_HIGHZ (R562). -/
def execTapHighz (s : State) : Host.Outcome State Fault Refusal := s.runAon fun s => s.tapIr 4

end Sys2Proof.Machine
end

