-- ==== Sys2Proof/Machine/Dispatch.lean ====
section
/-! DEFINITION. The dispatch: one arm per command of the block, each one direct call of its meaning. -/

namespace Sys2Proof.Machine

/-- The effect of a command on everything but the queue of waiting commands. -/
def exec (i : Instr) (s : State) : Host.Outcome State Fault Refusal :=
  match i with
  | .registerWrite who addr value => Sys2Proof.Machine.execRegisterWrite who addr value s
  | .refclkLost offFreq ppm => Sys2Proof.Machine.execRefclkLost offFreq ppm s
  | .timeReplicaAlign isl err => Sys2Proof.Machine.execTimeReplicaAlign isl err s
  | .linkFrameSend die received => Sys2Proof.Machine.execLinkFrameSend die received s
  | .pedieLinkTimeout die => Sys2Proof.Machine.execPedieLinkTimeout die s
  | .pedieLinkLostExpire die => Sys2Proof.Machine.execPedieLinkLostExpire die s
  | .pedieLinkRestore die => Sys2Proof.Machine.execPedieLinkRestore die s
  | .safeStateRelease die => Sys2Proof.Machine.execSafeStateRelease die s
  | .sprueWordWrite q bytes eop poison => Sys2Proof.Machine.execSprueWordWrite q bytes eop poison s
  | .sprueWordRead q upset => Sys2Proof.Machine.execSprueWordRead q upset s
  | .spruePeckReturn q => Sys2Proof.Machine.execSpruePeckReturn q s
  | .sprueInjPar q => Sys2Proof.Machine.execSprueInjPar q s
  | .sprueMaxRst q => Sys2Proof.Machine.execSprueMaxRst q s
  | .fabricWriteRx f => Sys2Proof.Machine.execFabricWriteRx f s
  | .fabricReadRx f upsets => Sys2Proof.Machine.execFabricReadRx f upsets s
  | .fabricCasRx f upsets => Sys2Proof.Machine.execFabricCasRx f upsets s
  | .fabricRespRx f => Sys2Proof.Machine.execFabricRespRx f s
  | .fabricMessageRx f => Sys2Proof.Machine.execFabricMessageRx f s
  | .fabUndeliveredReturn r => Sys2Proof.Machine.execFabUndeliveredReturn r s
  | .fabSlotGrant => Sys2Proof.Machine.execFabSlotGrant s
  | .fabReadTimeout slot => Sys2Proof.Machine.execFabReadTimeout slot s
  | .slotQuarantineEnd slot => Sys2Proof.Machine.execSlotQuarantineEnd slot s
  | .fabReorderExpire => Sys2Proof.Machine.execFabReorderExpire s
  | .cmdDoorbell len => Sys2Proof.Machine.execCmdDoorbell len s
  | .cmdRplPop => Sys2Proof.Machine.execCmdRplPop s
  | .commandStart k => Sys2Proof.Machine.execCommandStart k s
  | .executionBoundExpire k => Sys2Proof.Machine.execExecutionBoundExpire k s
  | .remoteTimeout k => Sys2Proof.Machine.execRemoteTimeout k s
  | .remoteTagHoldEnd k => Sys2Proof.Machine.execRemoteTagHoldEnd k s
  | .broadcastWindowClose k => Sys2Proof.Machine.execBroadcastWindowClose k s
  | .sysNop k => Sys2Proof.Machine.execSysNop k s
  | .sysIdentify k => Sys2Proof.Machine.execSysIdentify k s
  | .sysAbort k => Sys2Proof.Machine.execSysAbort k s
  | .cmdLogRead k => Sys2Proof.Machine.execCmdLogRead k s
  | .sysUnfence k code => Sys2Proof.Machine.execSysUnfence k code s
  | .sysWarmReset k => Sys2Proof.Machine.execSysWarmReset k s
  | .sysPowerState k => Sys2Proof.Machine.execSysPowerState k s
  | .sysRegWriteList k => Sys2Proof.Machine.execSysRegWriteList k s
  | .sysRegReadList k => Sys2Proof.Machine.execSysRegReadList k s
  | .storePartRead k => Sys2Proof.Machine.execStorePartRead k s
  | .storePartDefault k => Sys2Proof.Machine.execStorePartDefault k s
  | .storePartition k => Sys2Proof.Machine.execStorePartition k s
  | .portBlockLock p => Sys2Proof.Machine.execPortBlockLock p s
  | .linkTimeout p => Sys2Proof.Machine.execLinkTimeout p s
  | .rateChangeApply p => Sys2Proof.Machine.execRateChangeApply p s
  | .helloSend p => Sys2Proof.Machine.execHelloSend p s
  | .helloRx p hello => Sys2Proof.Machine.execHelloRx p hello s
  | .helloMiss p => Sys2Proof.Machine.execHelloMiss p s
  | .healHoldEnd p => Sys2Proof.Machine.execHealHoldEnd p s
  | .ringBreakDeclare p cause => Sys2Proof.Machine.execRingBreakDeclare p cause s
  | .segmentNoticeApply => Sys2Proof.Machine.execSegmentNoticeApply s
  | .splitPathHoldEnd c => Sys2Proof.Machine.execSplitPathHoldEnd c s
  | .ringFrameRx p frame fcs => Sys2Proof.Machine.execRingFrameRx p frame fcs s
  | .ddForget n => Sys2Proof.Machine.execDdForget n s
  | .seqCounterFree n => Sys2Proof.Machine.execSeqCounterFree n s
  | .foreignClear => Sys2Proof.Machine.execForeignClear s
  | .enumerationFrameRx frame => Sys2Proof.Machine.execEnumerationFrameRx frame s
  | .enumerationBoundExpire => Sys2Proof.Machine.execEnumerationBoundExpire s
  | .nodeCfgFixedWrite id => Sys2Proof.Machine.execNodeCfgFixedWrite id s
  | .supervisionSend => Sys2Proof.Machine.execSupervisionSend s
  | .supervisionRx p frame => Sys2Proof.Machine.execSupervisionRx p frame s
  | .ringMapExpire node => Sys2Proof.Machine.execRingMapExpire node s
  | .ringStatus k => Sys2Proof.Machine.execRingStatus k s
  | .ringEnumerate k => Sys2Proof.Machine.execRingEnumerate k s
  | .ringPortConfig k => Sys2Proof.Machine.execRingPortConfig k s
  | .ringLoopTest k intact errors lo hi => Sys2Proof.Machine.execRingLoopTest k intact errors lo hi s
  | .ringPortSet k => Sys2Proof.Machine.execRingPortSet k s
  | .macFrameRx p mf => Sys2Proof.Machine.execMacFrameRx p mf s
  | .egressFrameStart p => Sys2Proof.Machine.execEgressFrameStart p s
  | .egressFrameEnd p => Sys2Proof.Machine.execEgressFrameEnd p s
  | .mpacketPreempt p => Sys2Proof.Machine.execMpacketPreempt p s
  | .verifyRx p => Sys2Proof.Machine.execVerifyRx p s
  | .respondRx p => Sys2Proof.Machine.execRespondRx p s
  | .verifyTimeout p => Sys2Proof.Machine.execVerifyTimeout p s
  | .pauseRx l quanta => Sys2Proof.Machine.execPauseRx l quanta s
  | .pauseTimerExpire l => Sys2Proof.Machine.execPauseTimerExpire l s
  | .pauseXoff l => Sys2Proof.Machine.execPauseXoff l s
  | .pauseRefresh l => Sys2Proof.Machine.execPauseRefresh l s
  | .pauseXon l => Sys2Proof.Machine.execPauseXon l s
  | .lmacLinkChange l control => Sys2Proof.Machine.execLmacLinkChange l control s
  | .lmacConfig k => Sys2Proof.Machine.execLmacConfig k s
  | .statsRead k => Sys2Proof.Machine.execStatsRead k s
  | .txdPush who c cmd => Sys2Proof.Machine.execTxdPush who c cmd s
  | .descriptorJudge c => Sys2Proof.Machine.execDescriptorJudge c s
  | .ctxCloseWrite c => Sys2Proof.Machine.execCtxCloseWrite c s
  | .gateEdge p => Sys2Proof.Machine.execGateEdge p s
  | .gateHoldAssert p => Sys2Proof.Machine.execGateHoldAssert p s
  | .frameWindowExpire p tc => Sys2Proof.Machine.execFrameWindowExpire p tc s
  | .schedConfigChange p => Sys2Proof.Machine.execSchedConfigChange p s
  | .swapLatch p => Sys2Proof.Machine.execSwapLatch p s
  | .gclSwap p => Sys2Proof.Machine.execGclSwap p s
  | .streamOpen k => Sys2Proof.Machine.execStreamOpen k s
  | .streamClose k => Sys2Proof.Machine.execStreamClose k s
  | .gclLoad k => Sys2Proof.Machine.execGclLoad k s
  | .streamSet k => Sys2Proof.Machine.execStreamSet k s
  | .meterSet k => Sys2Proof.Machine.execMeterSet k s
  | .syncRx p m => Sys2Proof.Machine.execSyncRx p m s
  | .followUpRx p m => Sys2Proof.Machine.execFollowUpRx p m s
  | .announceRx p m => Sys2Proof.Machine.execAnnounceRx p m s
  | .pdelayReqRx p m => Sys2Proof.Machine.execPdelayReqRx p m s
  | .pdelayRespRx p m => Sys2Proof.Machine.execPdelayRespRx p m s
  | .pdelaySend p => Sys2Proof.Machine.execPdelaySend p s
  | .syncSend p => Sys2Proof.Machine.execSyncSend p s
  | .announceSend p => Sys2Proof.Machine.execAnnounceSend p s
  | .announceTimeout => Sys2Proof.Machine.execAnnounceTimeout s
  | .syncTimeout => Sys2Proof.Machine.execSyncTimeout s
  | .holdoverEnd => Sys2Proof.Machine.execHoldoverEnd s
  | .slewDone => Sys2Proof.Machine.execSlewDone s
  | .timeAcceptJump => Sys2Proof.Machine.execTimeAcceptJump s
  | .tsqPop p who => Sys2Proof.Machine.execTsqPop p who s
  | .actionFire id => Sys2Proof.Machine.execActionFire id s
  | .timeStatus k => Sys2Proof.Machine.execTimeStatus k s
  | .timeRole k => Sys2Proof.Machine.execTimeRole k s
  | .timeSchedule k => Sys2Proof.Machine.execTimeSchedule k s
  | .timeCancel k => Sys2Proof.Machine.execTimeCancel k s
  | .timeSet k => Sys2Proof.Machine.execTimeSet k s
  | .watermarkFrameSend c => Sys2Proof.Machine.execWatermarkFrameSend c s
  | .ledgerFrameRx frame => Sys2Proof.Machine.execLedgerFrameRx frame s
  | .ledgerRelease => Sys2Proof.Machine.execLedgerRelease s
  | .sseqGapExpire sub => Sys2Proof.Machine.execSseqGapExpire sub s
  | .pimgPublish c => Sys2Proof.Machine.execPimgPublish c s
  | .imageFrameRx frame => Sys2Proof.Machine.execImageFrameRx frame s
  | .slotStale slot => Sys2Proof.Machine.execSlotStale slot s
  | .pimgMapSelect slot => Sys2Proof.Machine.execPimgMapSelect slot s
  | .pimgMapCommit w3 => Sys2Proof.Machine.execPimgMapCommit w3 s
  | .subscribe k => Sys2Proof.Machine.execSubscribe k s
  | .unsubscribe k => Sys2Proof.Machine.execUnsubscribe k s
  | .ledgerConfig k => Sys2Proof.Machine.execLedgerConfig k s
  | .pimgMap k => Sys2Proof.Machine.execPimgMap k s
  | .ledgerSet k => Sys2Proof.Machine.execLedgerSet k s
  | .xspiRead t => Sys2Proof.Machine.execXspiRead t s
  | .xspiWrite t => Sys2Proof.Machine.execXspiWrite t s
  | .xspiCas t => Sys2Proof.Machine.execXspiCas t s
  | .xspiStatus => Sys2Proof.Machine.execXspiStatus s
  | .postedWriteIssue => Sys2Proof.Machine.execPostedWriteIssue s
  | .ladleFetchDone l => Sys2Proof.Machine.execLadleFetchDone l s
  | .ladleDiscard l => Sys2Proof.Machine.execLadleDiscard l s
  | .bridgeStatus k => Sys2Proof.Machine.execBridgeStatus k s
  | .bridgeWindow k => Sys2Proof.Machine.execBridgeWindow k s
  | .salvageRead k => Sys2Proof.Machine.execSalvageRead k s
  | .bridgeSet k => Sys2Proof.Machine.execBridgeSet k s
  | .canFrameRx c f => Sys2Proof.Machine.execCanFrameRx c f s
  | .canTxComplete c => Sys2Proof.Machine.execCanTxComplete c s
  | .canArbLost c => Sys2Proof.Machine.execCanArbLost c s
  | .canError c e => Sys2Proof.Machine.execCanError c e s
  | .canRecoveryDone c => Sys2Proof.Machine.execCanRecoveryDone c s
  | .canIntegrationDone c => Sys2Proof.Machine.execCanIntegrationDone c s
  | .canCloseDone c => Sys2Proof.Machine.execCanCloseDone c s
  | .canTtInstant c b => Sys2Proof.Machine.execCanTtInstant c b s
  | .canSettleEnd c => Sys2Proof.Machine.execCanSettleEnd c s
  | .canLagFall c => Sys2Proof.Machine.execCanLagFall c s
  | .trefInstant c => Sys2Proof.Machine.execTrefInstant c s
  | .canTxmapPeriod c m => Sys2Proof.Machine.execCanTxmapPeriod c m s
  | .canEnOpen c => Sys2Proof.Machine.execCanEnOpen c s
  | .canEnClose c => Sys2Proof.Machine.execCanEnClose c s
  | .canRecover c => Sys2Proof.Machine.execCanRecover c s
  | .canTxbSubmit c b => Sys2Proof.Machine.execCanTxbSubmit c b s
  | .canTxbCancel c b => Sys2Proof.Machine.execCanTxbCancel c b s
  | .canFltCopy c cmd => Sys2Proof.Machine.execCanFltCopy c cmd s
  | .canTrefEnable c => Sys2Proof.Machine.execCanTrefEnable c s
  | .canRxqPop c who => Sys2Proof.Machine.execCanRxqPop c who s
  | .canTxeqPop c who => Sys2Proof.Machine.execCanTxeqPop c who s
  | .canOpen k => Sys2Proof.Machine.execCanOpen k s
  | .canClose k => Sys2Proof.Machine.execCanClose k s
  | .canTx k => Sys2Proof.Machine.execCanTx k s
  | .canCancel k => Sys2Proof.Machine.execCanCancel k s
  | .canFilterLoad k => Sys2Proof.Machine.execCanFilterLoad k s
  | .canTimeMaster k => Sys2Proof.Machine.execCanTimeMaster k s
  | .canStatus k => Sys2Proof.Machine.execCanStatus k s
  | .canPair k => Sys2Proof.Machine.execCanPair k s
  | .canSetTiming k => Sys2Proof.Machine.execCanSetTiming k s
  | .canSetStore k => Sys2Proof.Machine.execCanSetStore k s
  | .flaskGo f e x => Sys2Proof.Machine.execFlaskGo f e x s
  | .flaskIf f e x => Sys2Proof.Machine.execFlaskIf f e x s
  | .flaskLoop f e x => Sys2Proof.Machine.execFlaskLoop f e x s
  | .flaskSetk f e x => Sys2Proof.Machine.execFlaskSetk f e x s
  | .flaskHold f e x => Sys2Proof.Machine.execFlaskHold f e x s
  | .flaskDrive f e x => Sys2Proof.Machine.execFlaskDrive f e x s
  | .flaskSend f e x => Sys2Proof.Machine.execFlaskSend f e x s
  | .flaskTake f e x => Sys2Proof.Machine.execFlaskTake f e x s
  | .flaskDraw f e x => Sys2Proof.Machine.execFlaskDraw f e x s
  | .flaskFeed f e x => Sys2Proof.Machine.execFlaskFeed f e x s
  | .flaskSeal f e x => Sys2Proof.Machine.execFlaskSeal f e x s
  | .flaskDrop f e x => Sys2Proof.Machine.execFlaskDrop f e x s
  | .flaskLoadImm f e x => Sys2Proof.Machine.execFlaskLoadImm f e x s
  | .flaskAlu f e x => Sys2Proof.Machine.execFlaskAlu f e x s
  | .flaskPins f e x => Sys2Proof.Machine.execFlaskPins f e x s
  | .flaskStamp f e x => Sys2Proof.Machine.execFlaskStamp f e x s
  | .flaskAt f e x => Sys2Proof.Machine.execFlaskAt f e x s
  | .flaskTally f e x => Sys2Proof.Machine.execFlaskTally f e x s
  | .flaskGoi f e x => Sys2Proof.Machine.execFlaskGoi f e x s
  | .engineArmedStart f => Sys2Proof.Machine.execEngineArmedStart f s
  | .engineStopTaken f e => Sys2Proof.Machine.execEngineStopTaken f e s
  | .flaskGoStart f mask => Sys2Proof.Machine.execFlaskGoStart f mask s
  | .flaskGoStop f mask => Sys2Proof.Machine.execFlaskGoStop f mask s
  | .flaskTxqPush f e value => Sys2Proof.Machine.execFlaskTxqPush f e value s
  | .flaskRxqPop f e who => Sys2Proof.Machine.execFlaskRxqPop f e who s
  | .flaskTallyPost f mask => Sys2Proof.Machine.execFlaskTallyPost f mask s
  | .flaskTallyClr f mask => Sys2Proof.Machine.execFlaskTallyClr f mask s
  | .flaskPload f cmd => Sys2Proof.Machine.execFlaskPload f cmd s
  | .patternLoadCommit f => Sys2Proof.Machine.execPatternLoadCommit f s
  | .flaskLoad k => Sys2Proof.Machine.execFlaskLoad k s
  | .flaskStart k => Sys2Proof.Machine.execFlaskStart k s
  | .flaskStop k => Sys2Proof.Machine.execFlaskStop k s
  | .flaskStatus k => Sys2Proof.Machine.execFlaskStatus k s
  | .flaskEngineSet k => Sys2Proof.Machine.execFlaskEngineSet k s
  | .dioCrossing j level => Sys2Proof.Machine.execDioCrossing j level s
  | .dioFilterDecide j => Sys2Proof.Machine.execDioFilterDecide j s
  | .dioLagFall b => Sys2Proof.Machine.execDioLagFall b s
  | .dioOutSet b half mask => Sys2Proof.Machine.execDioOutSet b half mask s
  | .dioOutClr b half mask => Sys2Proof.Machine.execDioOutClr b half mask s
  | .dioOutTgl b half mask => Sys2Proof.Machine.execDioOutTgl b half mask s
  | .dioOutWrite b half value => Sys2Proof.Machine.execDioOutWrite b half value s
  | .dioReadbackMismatch j => Sys2Proof.Machine.execDioReadbackMismatch j s
  | .dioSchedFire b => Sys2Proof.Machine.execDioSchedFire b s
  | .dioSchedGo b cmd => Sys2Proof.Machine.execDioSchedGo b cmd s
  | .pwmPeriodStart b g => Sys2Proof.Machine.execPwmPeriodStart b g s
  | .pwmOnEnd b g => Sys2Proof.Machine.execPwmOnEnd b g s
  | .dioPwmCtrlWrite b g value => Sys2Proof.Machine.execDioPwmCtrlWrite b g value s
  | .dioEvqPop b who => Sys2Proof.Machine.execDioEvqPop b who s
  | .dioConfig k => Sys2Proof.Machine.execDioConfig k s
  | .dioOutput k => Sys2Proof.Machine.execDioOutput k s
  | .dioSchedule k => Sys2Proof.Machine.execDioSchedule k s
  | .dioPwm k => Sys2Proof.Machine.execDioPwm k s
  | .dioStatus k => Sys2Proof.Machine.execDioStatus k s
  | .dioSet k => Sys2Proof.Machine.execDioSet k s
  | .feedSample mv => Sys2Proof.Machine.execFeedSample mv s
  | .feedBreakConfirm => Sys2Proof.Machine.execFeedBreakConfirm s
  | .feedDeadTimeEnd => Sys2Proof.Machine.execFeedDeadTimeEnd s
  | .feedBreakTimeout vgs => Sys2Proof.Machine.execFeedBreakTimeout vgs s
  | .feedPimgPeriod => Sys2Proof.Machine.execFeedPimgPeriod s
  | .feedPrioWrite value => Sys2Proof.Machine.execFeedPrioWrite value s
  | .presenceChange c present => Sys2Proof.Machine.execPresenceChange c present s
  | .insertDelayEnd c => Sys2Proof.Machine.execInsertDelayEnd c s
  | .rampEnd c m => Sys2Proof.Machine.execRampEnd c m s
  | .rampTimeout c m => Sys2Proof.Machine.execRampTimeout c m s
  | .gateOn c m => Sys2Proof.Machine.execGateOn c m s
  | .gateRiseTimeout c vgs => Sys2Proof.Machine.execGateRiseTimeout c vgs s
  | .fastTrip c m => Sys2Proof.Machine.execFastTrip c m s
  | .slowOvercurrent c m => Sys2Proof.Machine.execSlowOvercurrent c m s
  | .fetStressLimit c m => Sys2Proof.Machine.execFetStressLimit c m s
  | .fetShortDetect c m => Sys2Proof.Machine.execFetShortDetect c m s
  | .fetShortClear c m => Sys2Proof.Machine.execFetShortClear c m s
  | .retryTimeEnd c => Sys2Proof.Machine.execRetryTimeEnd c s
  | .retryCountClear c => Sys2Proof.Machine.execRetryCountClear c s
  | .measurementUpdate c ms => Sys2Proof.Machine.execMeasurementUpdate c ms s
  | .pchPimgPeriod c => Sys2Proof.Machine.execPchPimgPeriod c s
  | .pchEnWrite who c en => Sys2Proof.Machine.execPchEnWrite who c en s
  | .pchOn k => Sys2Proof.Machine.execPchOn k s
  | .pchOff k => Sys2Proof.Machine.execPchOff k s
  | .pchConfig k => Sys2Proof.Machine.execPchConfig k s
  | .pchStatus k => Sys2Proof.Machine.execPchStatus k s
  | .pchRetryReset k => Sys2Proof.Machine.execPchRetryReset k s
  | .feedConfig k => Sys2Proof.Machine.execFeedConfig k s
  | .feedStatus k => Sys2Proof.Machine.execFeedStatus k s
  | .pchSet k => Sys2Proof.Machine.execPchSet k s
  | .usbVbusChange up => Sys2Proof.Machine.execUsbVbusChange up s
  | .setPortReset p => Sys2Proof.Machine.execSetPortReset p s
  | .portResetDone p hs => Sys2Proof.Machine.execPortResetDone p hs s
  | .setPortPower p => Sys2Proof.Machine.execSetPortPower p s
  | .clearPortPower p => Sys2Proof.Machine.execClearPortPower p s
  | .portPowerGood p => Sys2Proof.Machine.execPortPowerGood p s
  | .portOcFilterExpire p low => Sys2Proof.Machine.execPortOcFilterExpire p low s
  | .setPortSuspend p => Sys2Proof.Machine.execSetPortSuspend p s
  | .clearPortSuspend p => Sys2Proof.Machine.execClearPortSuspend p s
  | .portResumeDone p => Sys2Proof.Machine.execPortResumeDone p s
  | .hubSuspend => Sys2Proof.Machine.execHubSuspend s
  | .deviceWake p => Sys2Proof.Machine.execDeviceWake p s
  | .hostResume => Sys2Proof.Machine.execHostResume s
  | .mgmtRemoteWake => Sys2Proof.Machine.execMgmtRemoteWake s
  | .setPortTest p mode => Sys2Proof.Machine.execSetPortTest p mode s
  | .setTestMode mode => Sys2Proof.Machine.execSetTestMode mode s
  | .splitStart p x => Sys2Proof.Machine.execSplitStart p x s
  | .completeSplit p x => Sys2Proof.Machine.execCompleteSplit p x s
  | .ttAgeOut p ep => Sys2Proof.Machine.execTtAgeOut p ep s
  | .clearTtBuffer p x => Sys2Proof.Machine.execClearTtBuffer p x s
  | .resetTt p => Sys2Proof.Machine.execResetTt p s
  | .getTtState p => Sys2Proof.Machine.execGetTtState p s
  | .setupPacket u => Sys2Proof.Machine.execSetupPacket u s
  | .setConfiguration u => Sys2Proof.Machine.execSetConfiguration u s
  | .setInterface u => Sys2Proof.Machine.execSetInterface u s
  | .setEndpointHalt u => Sys2Proof.Machine.execSetEndpointHalt u s
  | .clearEndpointHalt u => Sys2Proof.Machine.execClearEndpointHalt u s
  | .busReset upstream hs => Sys2Proof.Machine.execBusReset upstream hs s
  | .usbMgmtConnect => Sys2Proof.Machine.execUsbMgmtConnect s
  | .usbMgmtDisconnect => Sys2Proof.Machine.execUsbMgmtDisconnect s
  | .ep1OutTransfer toggle bytes => Sys2Proof.Machine.execEp1OutTransfer toggle bytes s
  | .ep1InTransfer acked => Sys2Proof.Machine.execEp1InTransfer acked s
  | .ep2OutTransfer toggle bytes => Sys2Proof.Machine.execEp2OutTransfer toggle bytes s
  | .ep2InTransfer acked => Sys2Proof.Machine.execEp2InTransfer acked s
  | .ep3InTransfer acked => Sys2Proof.Machine.execEp3InTransfer acked s
  | .eventReportQueue => Sys2Proof.Machine.execEventReportQueue s
  | .ep4InTransfer => Sys2Proof.Machine.execEp4InTransfer s
  | .usbStatus k => Sys2Proof.Machine.execUsbStatus k s
  | .usbPortPower k => Sys2Proof.Machine.execUsbPortPower k s
  | .usbTestMode k => Sys2Proof.Machine.execUsbTestMode k s
  | .usbSet k => Sys2Proof.Machine.execUsbSet k s
  | .typecAttach p a => Sys2Proof.Machine.execTypecAttach p a s
  | .drpToggle p => Sys2Proof.Machine.execDrpToggle p s
  | .typecDetach p mv => Sys2Proof.Machine.execTypecDetach p mv s
  | .vbusDischargeDone p => Sys2Proof.Machine.execVbusDischargeDone p s
  | .transitionStart p => Sys2Proof.Machine.execTransitionStart p s
  | .vsetTrim p mv => Sys2Proof.Machine.execVsetTrim p mv s
  | .transitionTimeout p pg mv => Sys2Proof.Machine.execTransitionTimeout p pg mv s
  | .isnsSample p ma mv => Sys2Proof.Machine.execIsnsSample p ma mv s
  | .sourceCapabilitiesRx p m => Sys2Proof.Machine.execSourceCapabilitiesRx p m s
  | .requestRx p m => Sys2Proof.Machine.execRequestRx p m s
  | .eprModeRx p m => Sys2Proof.Machine.execEprModeRx p m s
  | .eprKeepaliveRx p => Sys2Proof.Machine.execEprKeepaliveRx p s
  | .ppsRequestSend p => Sys2Proof.Machine.execPpsRequestSend p s
  | .eprKeepaliveSend p => Sys2Proof.Machine.execEprKeepaliveSend p s
  | .keepaliveTimeout p => Sys2Proof.Machine.execKeepaliveTimeout p s
  | .hardResetRx p => Sys2Proof.Machine.execHardResetRx p s
  | .softResetRx p => Sys2Proof.Machine.execSoftResetRx p s
  | .prSwapRx p => Sys2Proof.Machine.execPrSwapRx p s
  | .drSwapRx p => Sys2Proof.Machine.execDrSwapRx p s
  | .vconnSwapRx p => Sys2Proof.Machine.execVconnSwapRx p s
  | .frsSignalRx p => Sys2Proof.Machine.execFrsSignalRx p s
  | .frsSourceLoss => Sys2Proof.Machine.execFrsSourceLoss s
  | .discoverIdentityRx p m => Sys2Proof.Machine.execDiscoverIdentityRx p m s
  | .policyWdogExpire => Sys2Proof.Machine.execPolicyWdogExpire s
  | .pdStatus k => Sys2Proof.Machine.execPdStatus k s
  | .pdRequest k => Sys2Proof.Machine.execPdRequest k s
  | .pdSwap k => Sys2Proof.Machine.execPdSwap k s
  | .pdPolicyLoad k => Sys2Proof.Machine.execPdPolicyLoad k s
  | .pdSet k => Sys2Proof.Machine.execPdSet k s
  | .safetyInput => Sys2Proof.Machine.execSafetyInput s
  | .safetyTick => Sys2Proof.Machine.execSafetyTick s
  | .safeConfirm sf => Sys2Proof.Machine.execSafeConfirm sf s
  | .outputTransaction t => Sys2Proof.Machine.execOutputTransaction t s
  | .voteHoldEnd => Sys2Proof.Machine.execVoteHoldEnd s
  | .assaySlice l cls last => Sys2Proof.Machine.execAssaySlice l cls last s
  | .dualAssayDone c0 c1 c2 => Sys2Proof.Machine.execDualAssayDone c0 c1 c2 s
  | .laneResyncDone l => Sys2Proof.Machine.execLaneResyncDone l s
  | .inputTestPulse => Sys2Proof.Machine.execInputTestPulse s
  | .inputTestCheck => Sys2Proof.Machine.execInputTestCheck s
  | .tripTest c cmp fail => Sys2Proof.Machine.execTripTest c cmp fail s
  | .safetyResume => Sys2Proof.Machine.execSafetyResume s
  | .safeStatus k => Sys2Proof.Machine.execSafeStatus k s
  | .safeArm k => Sys2Proof.Machine.execSafeArm k s
  | .safeDisarm k => Sys2Proof.Machine.execSafeDisarm k s
  | .safeEmergency k => Sys2Proof.Machine.execSafeEmergency k s
  | .laneRejoin k cls => Sys2Proof.Machine.execLaneRejoin k cls s
  | .assayRun k cls => Sys2Proof.Machine.execAssayRun k cls s
  | .safeSet k => Sys2Proof.Machine.execSafeSet k s
  | .faultCollect => Sys2Proof.Machine.execFaultCollect s
  | .faultPop who => Sys2Proof.Machine.execFaultPop who s
  | .faultForceKey key => Sys2Proof.Machine.execFaultForceKey key s
  | .faultForce value => Sys2Proof.Machine.execFaultForce value s
  | .islandWatchdog isl cause => Sys2Proof.Machine.execIslandWatchdog isl cause s
  | .islandRestart isl => Sys2Proof.Machine.execIslandRestart isl s
  | .faultRead k => Sys2Proof.Machine.execFaultRead k s
  | .faultAck k => Sys2Proof.Machine.execFaultAck k s
  | .faultInject k => Sys2Proof.Machine.execFaultInject k s
  | .faultSet k => Sys2Proof.Machine.execFaultSet k s
  | .powerOn e => Sys2Proof.Machine.execPowerOn e s
  | .bootScriptPacket => Sys2Proof.Machine.execBootScriptPacket s
  | .readySet => Sys2Proof.Machine.execReadySet s
  | .brownout => Sys2Proof.Machine.execBrownout s
  | .warmReset e => Sys2Proof.Machine.execWarmReset e s
  | .islandGate isl => Sys2Proof.Machine.execIslandGate isl s
  | .islandWake isl => Sys2Proof.Machine.execIslandWake isl s
  | .standbyEntry => Sys2Proof.Machine.execStandbyEntry s
  | .standbyWake src => Sys2Proof.Machine.execStandbyWake src s
  | .wakeSupplyReady e => Sys2Proof.Machine.execWakeSupplyReady e s
  | .aonTimeWrite => Sys2Proof.Machine.execAonTimeWrite s
  | .updReserveWriteDone => Sys2Proof.Machine.execUpdReserveWriteDone s
  | .updActivation => Sys2Proof.Machine.execUpdActivation s
  | .copyBlock => Sys2Proof.Machine.execCopyBlock s
  | .calibMtpWriteDone => Sys2Proof.Machine.execCalibMtpWriteDone s
  | .updStage k => Sys2Proof.Machine.execUpdStage k s
  | .updVerify k => Sys2Proof.Machine.execUpdVerify k s
  | .updActivateAt k => Sys2Proof.Machine.execUpdActivateAt k s
  | .updStatus k => Sys2Proof.Machine.execUpdStatus k s
  | .bundleStage k => Sys2Proof.Machine.execBundleStage k s
  | .calibRead k => Sys2Proof.Machine.execCalibRead k s
  | .calibWrite k => Sys2Proof.Machine.execCalibWrite k s
  | .ownerLock k => Sys2Proof.Machine.execOwnerLock k s
  | .tapBypass tdi => Sys2Proof.Machine.execTapBypass tdi s
  | .tapIdcode => Sys2Proof.Machine.execTapIdcode s
  | .tapSamplePreload v => Sys2Proof.Machine.execTapSamplePreload v s
  | .tapExtest => Sys2Proof.Machine.execTapExtest s
  | .tapClamp => Sys2Proof.Machine.execTapClamp s
  | .tapHighz => Sys2Proof.Machine.execTapHighz s
  | .canStartOfFrame c => Sys2Proof.Machine.execCanStartOfFrame c s
  | .portConnectChange p connected low => Sys2Proof.Machine.execPortConnectChange p connected low s
  | .subscriptionLagging sub => Sys2Proof.Machine.execSubscriptionLagging sub s
  | .acceptRx p ans => Sys2Proof.Machine.execAcceptRx p ans s
  | .psRdyRx p => Sys2Proof.Machine.execPsRdyRx p s
  | .goodcrcTimeout p => Sys2Proof.Machine.execGoodcrcTimeout p s
  | .pedieSupplyRise die => Sys2Proof.Machine.execPedieSupplyRise die s
  | .temperatureReading t0 t1 => Sys2Proof.Machine.execTemperatureReading t0 t1 s

end Sys2Proof.Machine
end

