-- ==== Sys2Proof/Safety.lean ====
section
/-! DEFINITION. What counts as a well-kept state of the hub, in the terms the statements use. -/

namespace Sys2Proof.Machine

/-- The shared store is in its canonical form: addresses strictly rising, no byte listed that reads 0. -/
abbrev Memory.wf (s : State) : Prop := Tbl.wf (fun _ => 0#8) s.mem = true

/-- The register file is in its canonical form: offsets strictly rising, no word listed that holds its reset value. -/
abbrev Registers.wf (s : State) : Prop := Tbl.wf regReset s.regs = true

/-- Both sparse files are in their canonical form, so that equal contents are equal data. -/
def State.Inv (s : State) : Prop := Memory.wf s ∧ Registers.wf s

/-- No reaction of an earlier command still waits. -/
def State.Calm (s : State) : Prop := s.calm = true

/-- The main die runs, outside HELD, and nothing of an earlier command still waits. -/
def State.Ready (s : State) : Prop := s.sys.up = true ∧ s.inHeld = false ∧ s.Calm

/-- The main die runs, outside HELD (R493, R502). -/
def State.Live (s : State) : Prop := s.sys.up = true ∧ s.inHeld = false

/-- The main die runs and its ring island has a clock (R13). -/
def State.Clocked (s : State) : Prop := s.sys.up = true ∧ s.flag aonBase AON_STAT_REFCLK_OK = true

/-- Ethernet port `p` runs: a ring port while its island has a clock (R13), a local port outside HELD (Table 18.6). -/
def State.PortRuns (s : State) (p : Nat) : Prop := if p < 2 then s.Clocked else s.Live

/-- A fabric frame of transaction type `type` that arrives by a ring port, is meant for this hub, is well made, and is the next
one of its source (R45, R52, R63). -/
def State.InTurn (s : State) (f : FabRx) (type : Nat) : Prop :=
  let h := fabHead f.bytes
  s.fabOn = true ∧ f.port.val < 2 ∧ s.hasNode = true ∧ fabBad true f.bytes = false ∧ s.fabNodeBad h = false ∧ h.type = type
    ∧ ¬ (h.src = s.nodeId ∧ nodeOf h.addr = 255) ∧ (s.expected (fabKey h) = 65536 ∨ s.expected (fabKey h) = h.seq)

/-- What stands before a frame in turn takes effect: its SEQ is the last one taken, and it is counted (R63). -/
def State.turnTaken (s : State) (f : FabRx) : State :=
  let h := fabHead f.bytes
  (s.setExpected (fabKey h) ((h.seq + 1) % 65536)).bump fabBase FAB_RX_FRAMES

/-- The command `e` with key `k`, opcode `op` and `len` parameter bytes executes on this hub, not as a DRY_RUN, and waits for
nothing (R111, Table 4.3). -/
def State.Executes (s : State) (k : CmdKey) (op len : Nat) (e : CmdEntry) : Prop :=
  s.Live ∧ s.entry k = some e ∧ pktOp e.packet = op ∧ pktPlen e.packet = len ∧ e.dry = false
    ∧ ∃ at_, e.phase = .executing at_ none

/-- Command row `i`, of a command `e` with key `k`, opcode `op` and `len` parameter bytes that executes in `s`, completes: what
stands after it is the effect `t` with the reply of status `st` and result `res` (R97, R111). -/
def State.Completes (s : State) (k : CmdKey) (e : CmdEntry) (i : Instr) (op len st : Nat) (res : List Byte) (t : State) : Prop :=
  s.Executes k op len e → exec i s = .next (s.after (t.reply k st res))

/-- Command row `i` comes to a wait `w` after its effect `t`: its reply is another row's. -/
def State.Waits (s : State) (k : CmdKey) (e : CmdEntry) (i : Instr) (op len : Nat) (w : WaitKind) (t : State) : Prop :=
  ∀ at_, s.Executes k op len e → e.phase = .executing at_ none →
    exec i s = .next (s.after (t.setEntry k fun e => { e with phase := .executing at_ (some w) }))

/-- Rows that need no main die: the supplies, the AON island, the power-edge dies and the test access port. -/
def runsOffDie (i : Instr) : Bool :=
  match i with
  | .pedieLinkTimeout .. | .feedSample .. | .feedBreakConfirm .. | .feedDeadTimeEnd .. | .feedBreakTimeout ..
  | .presenceChange .. | .insertDelayEnd .. | .rampEnd .. | .rampTimeout .. | .gateOn .. | .gateRiseTimeout .. | .fastTrip ..
  | .slowOvercurrent .. | .fetStressLimit .. | .fetShortDetect .. | .fetShortClear .. | .retryTimeEnd ..
  | .retryCountClear .. | .measurementUpdate .. | .powerOn .. | .brownout .. | .standbyWake .. | .wakeSupplyReady ..
  | .tapBypass .. | .tapIdcode .. | .tapSamplePreload .. | .tapExtest .. | .tapClamp .. | .tapHighz .. | .pedieSupplyRise .. => true
  | _ => false

/-- Rows of parts that HELD leaves at work, in whole or in part (Table 18.6). -/
def runsInHeld (i : Instr) : Bool :=
  match i with
  | .refclkLost .. | .timeReplicaAlign .. | .linkFrameSend .. | .pedieLinkTimeout .. | .pedieLinkLostExpire ..
  | .pedieLinkRestore .. | .sprueWordWrite .. | .sprueWordRead .. | .spruePeckReturn .. | .portBlockLock .. | .linkTimeout ..
  | .rateChangeApply .. | .helloSend .. | .helloRx .. | .helloMiss .. | .healHoldEnd .. | .ringBreakDeclare ..
  | .segmentNoticeApply .. | .splitPathHoldEnd .. | .ringFrameRx .. | .ddForget .. | .seqCounterFree .. | .foreignClear ..
  | .enumerationFrameRx .. | .supervisionSend .. | .supervisionRx .. | .ringMapExpire .. | .macFrameRx ..
  | .egressFrameStart .. | .egressFrameEnd .. | .mpacketPreempt .. | .verifyRx .. | .respondRx .. | .verifyTimeout ..
  | .pauseTimerExpire .. | .lmacLinkChange .. | .gateEdge .. | .gateHoldAssert .. | .frameWindowExpire .. | .swapLatch ..
  | .gclSwap .. | .syncRx .. | .followUpRx .. | .announceRx .. | .pdelayReqRx .. | .pdelayRespRx .. | .pdelaySend ..
  | .announceTimeout .. | .syncTimeout .. | .holdoverEnd .. | .slewDone .. | .xspiRead .. | .xspiWrite .. | .xspiCas ..
  | .xspiStatus .. | .postedWriteIssue .. | .ladleFetchDone .. | .ladleDiscard .. | .dioCrossing .. | .dioFilterDecide ..
  | .dioReadbackMismatch .. | .feedSample .. | .feedBreakConfirm .. | .feedDeadTimeEnd .. | .feedBreakTimeout ..
  | .feedPimgPeriod .. | .presenceChange .. | .insertDelayEnd .. | .rampEnd .. | .rampTimeout .. | .gateOn ..
  | .gateRiseTimeout .. | .fastTrip .. | .slowOvercurrent .. | .fetStressLimit .. | .fetShortDetect .. | .fetShortClear ..
  | .retryTimeEnd .. | .retryCountClear .. | .measurementUpdate .. | .pchPimgPeriod .. | .usbVbusChange .. | .faultCollect ..
  | .faultPop .. | .powerOn .. | .brownout .. | .warmReset .. | .standbyWake .. | .wakeSupplyReady .. | .aonTimeWrite ..
  | .copyBlock .. | .tapBypass .. | .tapIdcode .. | .tapSamplePreload .. | .tapExtest .. | .tapClamp .. | .tapHighz ..
  | .pedieSupplyRise .. | .temperatureReading .. => true
  | _ => false

end Sys2Proof.Machine
end

