-- ==== Sys2Proof/Certificates/Slice0/Obligations.lean ====
section
/-! DEFINITION. The statements for the provers: what the hub's rows and commands leave, what holds of every step, and numbered
rules of the spec on data. Most have the form: where a row's conditions hold, exec answers the next state with this effect.
`s.after t` is what stands after effect `t`: the reactions that wait in `t`, if any, then `t` itself. -/

open Sys2Proof Sys2Proof.Machine

/-! ### The step, and what holds of every command -/

/-- A step takes the command at the front of the queue and runs it with the rest of the queue; with none waiting the hub idles
for one tick of its counter, 2 ns (the model's choice, log entry 2). -/
def Obligations.StepRunsFront : Prop :=
  ∀ (s : State),
    (∀ (c : Instr) (rest : List Instr), step { s with pending := c :: rest } = exec c { s with pending := rest })
    ∧ (s.pending = [] → step s = .next s.idle)

/-- Every step completes, whatever the command, its operands and the state: no row stops the machine. It takes one command off
the queue and lets no command change the rest of it, the variant or the time; and it keeps both sparse files canonical. -/
def Obligations.EveryStepCompletes : Prop :=
  ∀ (s : State), s.Inv → ∃ t, step s = .next t ∧ t.Inv ∧ t.variant = s.variant ∧ t.pending = s.pending.tail
    ∧ t.uptime = (if s.pending = [] then s.uptime + 2 else s.uptime)

/-- Every command of every form completes (R4, R7, R92 give even a refused one its effect): from every state, whatever its
operands, it answers a next state, whose queue, variant and time are those it was given and whose sparse files are canonical. -/
def Obligations.EveryCommandCompletes : Prop :=
  ∀ (c : Instr) (s : State), s.Inv →
    ∃ t, exec c s = .next t ∧ t.Inv ∧ t.variant = s.variant ∧ t.pending = s.pending ∧ t.uptime = s.uptime

/-- The state after reset: nothing waits, every register word holds its reset value, the store reads zero, and the hub is neither
up nor in HELD. -/
def Obligations.ResetHolds : Prop :=
  State.reset.Inv ∧ State.reset.Calm ∧ State.reset.pending = [] ∧ State.reset.sys.up = false ∧ State.reset.inHeld = false
    ∧ (∀ a, State.reset.rd a = regReset a) ∧ (∀ a, State.reset.byteAt a = 0#8)

/-- HELD is left only by a power-on after the loss of every supply (R495): every other step, whatever its command, leaves a hub
in HELD in HELD. -/
def Obligations.HeldStays : Prop :=
  ∀ (s t : State), s.inHeld = true → step s = .next t →
    (∀ (e : BootEnv) (rest : List Instr), s.pending = .powerOn e :: rest → e.cold = false) → t.inHeld = true

/-- In HELD a row of any part that HELD stops leaves a calm state exactly as it was (R494, Table 18.6): no command runs, no frame
of a local port passes, no CAN controller, Flask, DIO bank or USB port acts. -/
def Obligations.StopsInHeld : Prop :=
  ∀ (s : State) (i : Instr), s.inHeld = true → s.Calm → s.Inv → runsInHeld i = false → exec i s = .next s

/-- With the main die down, every row but those of the supplies, the AON island, the power-edge dies and the test access port
leaves the hub exactly as it was (R501, R502). -/
def Obligations.StopsDown : Prop :=
  ∀ (s : State) (i : Instr), s.sys.up = false → s.Inv → runsOffDie i = false → exec i s = .next s

/-! ### Numbered rules on data -/

/-- A fabric address has three fields: bits 47 to 40 the node ID, 39 to 32 the space, 31 to 0 the offset (R41). -/
def Obligations.AddressFields : Prop :=
  (∀ (a : BitVec 48),
    nodeOf a.toNat = (a.extractLsb' 40 8).toNat ∧ spaceOf a.toNat = (a.extractLsb' 32 8).toNat
      ∧ a.toNat % 2 ^ 32 = (a.extractLsb' 0 32).toNat
      ∧ fabAddr (nodeOf a.toNat) (spaceOf a.toNat) (a.toNat % 2 ^ 32) = a.toNat)
  ∧ (∀ (node space : BitVec 8) (off : BitVec 32),
    fabAddr node.toNat space.toNat off.toNat = (node ++ space ++ off).toNat)

/-- CRC-32C (R95): bit by bit, least significant bit first, with the reflected polynomial 0x82F6_3B78, initial value and final
XOR 0xFFFF_FFFF; its check value; and the reply's CRC field, little-endian, over the reply with that field zero. -/
def Obligations.CrcParameters : Prop :=
  (∀ (bs : List Byte),
    let bits := bs.flatMap fun b => (List.range 8).map fun i => b.getLsbD i
    let r := bits.foldl (fun (c : BitVec 32) b => if (c.getLsbD 0 != b) then (c >>> 1) ^^^ 0x82F63B78#32 else c >>> 1) 0xFFFFFFFF#32
    crc32c bs = (r ^^^ 0xFFFFFFFF#32).toNat)
  ∧ crc32c ((List.range 9).map fun i => BitVec.ofNat 8 (0x31 + i)) = 0xE3069283
  ∧ (∀ (s : State) (op tag status : Nat) (res : List Byte),
    let p := s.replyBytes op tag status res
    leAt p 12 4 = crc32c (zeroAt p 12 4))

/-- The merge orders Ordered records by STAMP, then NODE, then UNIT, then SSEQ, each as an unsigned number (R249): the record
released next is a held one that no other held one comes before. -/
def Obligations.MergeOrder : Prop :=
  (∀ (a b : LRec), a.before b = true ↔
    a.stamp < b.stamp ∨ (a.stamp = b.stamp ∧ (a.node < b.node ∨ (a.node = b.node ∧ (a.unit < b.unit ∨ (a.unit = b.unit
      ∧ a.sseq < b.sseq))))))
  ∧ (∀ (hs : List (LRec × Nat × Nat)), hs ≠ [] →
    ∃ m, firstHeld hs = some m ∧ m ∈ hs ∧ ∀ h ∈ hs, h.1.before m.1 = false)

/-- A notice that finds the queue of 128 full is discarded, counted in FAULT_QOVF, and sets FAULT_EVT.QUEUE_OVF; the record
itself stays in the log (R489). -/
def Obligations.NoticeOverflow : Prop :=
  ∀ (s : State) (r : Raised), s.fault.notices.length = 128 → (r.cls = .note → s.get faultBase FAULT_CTRL_NOTE_Q ≠ 0) →
    let t := s.collect r
    let i := s.get faultBase FAULT_LOG_POS_INDEX
    let head := faultHead r.cls r.kind r.source r.forced s.fault.loss r.suspect false
    t.fault.notices = s.fault.notices
      ∧ t.get faultBase FAULT_QOVF = (s.get faultBase FAULT_QOVF + 1) % 2 ^ 32
      ∧ (t.get faultBase FAULT_EVT).testBit 3 = true
      ∧ t.load (s.faultLogAt i) 32 = faultRecord head r.addr r.stamp (s.get faultBase FAULT_SEQ_NEXT) r.detail

/-- Each port's transmit-timestamp queue holds 16 entries; a stamp that finds it full is discarded, counted in TIME_PORT_TS_OVF,
and sets TIME_EVT.TSQ_OVF; one that enters sets TIME_EVT.TSQ_NONEMPTY (R233). -/
def Obligations.StampQueue : Prop :=
  ∀ (s : State) (p seq ctx stamp : Nat) (suspect early preempted : Bool), p < 6 → (s.tsq p).length ≤ 16 →
    let t := s.pushTs p seq ctx stamp suspect early preempted
    let e := leBytes 4 (seq % 65536 + 65536 * ctx) ++ stampBytes stamp
      ++ leBytes 1 (b2n suspect + 2 * b2n early + 4 * b2n preempted) ++ [0#8]
    (t.tsq p).length ≤ 16 ∧ (∀ q, q ≠ p → t.tsq q = s.tsq q)
    ∧ ((s.tsq p).length < 16 → t.tsq p = s.tsq p ++ [e] ∧ (t.get timeBase TIME_EVT).testBit 5 = true
      ∧ t.get (timePort p) TIME_PORT_TS_OVF = s.get (timePort p) TIME_PORT_TS_OVF)
    ∧ ((s.tsq p).length = 16 → t.tsq p = s.tsq p ∧ (t.get timeBase TIME_EVT).testBit 6 = true
      ∧ t.get (timePort p) TIME_PORT_TS_OVF = (s.get (timePort p) TIME_PORT_TS_OVF + 1) % 2 ^ 32)

/-! ### Registers, memory, and what a command leaves alone -/

/-- What a write does to one field, by its access code (R6, R7): RO, WO and W1S fields keep their value here, RW and RWS take the
written bits, W1C clears each bit written 1, RWL takes them while its unit is stopped and otherwise keeps its value, the
write being refused when it would change it. No bit outside the field changes. -/
def Obligations.FieldAccess : Prop :=
  ∀ (locked : Bool) (w old : Word) (no : Bool) (f : FieldSpec), f.fld.lo + f.fld.width ≤ 32 → f.clamp = .any →
    let r := fieldTake locked 0 w (old, no) f
    let v := bitsOf r.1 f.fld.lo f.fld.width
    let was := bitsOf old f.fld.lo f.fld.width
    let new := bitsOf w f.fld.lo f.fld.width
    (∀ j, (j < f.fld.lo ∨ f.fld.lo + f.fld.width ≤ j) → r.1.getLsbD j = old.getLsbD j)
    ∧ ((f.acc = .ro ∨ f.acc = .wo ∨ f.acc = .w1s) → v = was ∧ r.2 = no)
    ∧ ((f.acc = .rw ∨ f.acc = .rws) → v = new ∧ r.2 = no)
    ∧ (f.acc = .w1c → (∀ j < f.fld.width, v.testBit j = (was.testBit j && !new.testBit j)) ∧ r.2 = no)
    ∧ (f.acc = .rwl → (locked = false → v = new ∧ r.2 = no) ∧ (locked = true → v = was ∧ (r.2 = true ↔ no = true ∨ new ≠ was)))

/-- A write of one register word changes no other register word and no byte of the store, unless it is refused; and no bit of the
word that belongs to no field of its table. -/
def Obligations.RegisterWriteFrame : Prop :=
  ∀ (s : State) (init a : Nat) (w : Word),
    let r := (regFields a).foldl (fieldTake (s.rwlRuns a) (roHere a) w) (s.rd a, false)
    let t := s.fieldsWrite init a w
    r.2 = false →
      t.rd a = r.1 ∧ (∀ b, b ≠ a → t.rd b = s.rd b) ∧ (∀ c, t.byteAt c = s.byteAt c) ∧ t.cmd = s.cmd ∧ t.fault = s.fault
      ∧ (∀ j, j < 32 → (∀ f ∈ regFields a, j < f.fld.lo ∨ f.fld.lo + f.fld.width ≤ j) → (t.rd a).getLsbD j = (s.rd a).getLsbD j)

/-- Bytes stored are read back, every other byte of the store reads as before, every register word too, and the store keeps its
canonical form. -/
def Obligations.StoreThenLoad : Prop :=
  ∀ (s : State) (a : Nat) (bs : List Byte),
    let t := s.store a bs
    t.load a bs.length = bs ∧ (∀ i (h : i < bs.length), t.byteAt (a + i) = bs[i])
      ∧ (∀ c, (c < a ∨ a + bs.length ≤ c) → t.byteAt c = s.byteAt c) ∧ (∀ b, t.rd b = s.rd b) ∧ (Memory.wf s → Memory.wf t)

/-- The status commands change nothing but what a reply changes (R92, R97, R118, R122): on a calm hub such a command of the xSPI
port stores its record of 32 bytes in partition 8 and no other byte, changes no register word but CMD_LOG_HEAD and
CMD_LOG_OVWR, and puts its reply at the back of the reply queue. -/
def Obligations.StatusCommandFrame : Prop :=
  ∀ (s : State) (k : CmdKey) (e : CmdEntry) (i : Instr) (op : Nat),
    (i, op) ∈ [(Instr.sysNop k, 0x0000), (.sysIdentify k, 0x0001), (.storePartRead k, 0x0100), (.ringStatus k, 0x0200),
      (.statsRead k, 0x0304), (.timeStatus k, 0x0400), (.bridgeStatus k, 0x0600), (.canStatus k, 0x0706), (.flaskStatus k, 0x0803),
      (.dioStatus k, 0x0904), (.pchStatus k, 0x0A03), (.usbStatus k, 0x0B00), (.pdStatus k, 0x0C00), (.safeStatus k, 0x0D00),
      (.updStatus k, 0x0F03)] →
    s.Calm → s.Inv → s.Executes k op 0 e → k.transport = .xspi → e.mute = false → e.ownBcast = false →
    s.get cmdBase CMD_LOG_OVWR + 1 ≠ 2 ^ 31 →
    ∃ t r, exec i s = .next t
      ∧ (let at_ := s.partBase 8 + 32 * (s.get cmdBase CMD_LOG_HEAD_INDEX % 16384)
         (∀ c, (c < at_ ∨ at_ + 32 ≤ c) → t.byteAt c = s.byteAt c))
      ∧ (∀ a, a ≠ cmdBase + CMD_LOG_HEAD_INDEX.off → a ≠ cmdBase + CMD_LOG_OVWR.off → t.rd a = s.rd a)
      ∧ t.cmd.xspi = s.cmd.xspi ++ [r] ∧ r.key = k ∧ leAt r.bytes 0 2 = op ∧ leAt r.bytes 2 2 = pktTag e.packet ∧ leAt r.bytes 6 2 = 0

/-! ### Rows of the main die, the Sprue queues, the fabric and the command protocol (chapters 1 to 4) -/

/-- REGISTER_WRITE (R6, R39, R46, R54): one that its space's rules refuse is discarded and recorded; a word that the map holds,
present, unfenced and awake takes the write as its block defines; an unmapped word is recorded; a fenced one is counted. -/
def Obligations.RegisterWriteTakes : Prop :=
  ∀ (s : State) (who : Who) (a : BitVec 32) (w : Word), s.Live →
    (s.writeStatus 0 a.toNat 4 (whoRing who) ≠ 0 → exec (.registerWrite who a w) s = .next (s.after
      (s.writeRefused (s.whoNode who) (whoCode who) (fabAddr s.nodeId 0 a.toNat) (s.writeStatus 0 a.toNat 4 (whoRing who)))))
    ∧ (s.writeStatus 0 a.toNat 4 (whoRing who) = 0 →
      (regMapped a.toNat = false →
      exec (.registerWrite who a w) s = .next (s.after (s.unmapped (whoCode who) a.toNat 1)))
    ∧ (regMapped a.toNat = true → s.regPresent a.toNat = false → exec (.registerWrite who a w) s = .next (s.after s))
    ∧ (regMapped a.toNat = true → s.regPresent a.toNat = true →
      (s.regFenced a.toNat = true → exec (.registerWrite who a w) s = .next (s.after (s.bump 0 SYS_FENCE_WDROP)))
      ∧ (s.regFenced a.toNat = false →
        (mailWindow a.toNat = true → whoCode who ≠ 0 → exec (.registerWrite who a w) s
          = .next (s.after (s.writeRefused s.nodeId (whoCode who) (s.regAddr a.toNat) stNotPermitted)))
        ∧ ((mailWindow a.toNat = false ∨ whoCode who = 0) →
          ((s.regGated a.toNat = false ∨ 2 ≤ whoCode who) → exec (.registerWrite who a w) s
            = .next (s.after ((s.wakeFor a.toNat).regApply (whoCode who) a.toNat w)))
          ∧ (∀ i, s.regGated a.toNat = true → whoCode who < 2 → regIsland a.toNat = some i → exec (.registerWrite who a w) s
            = .next (s.after (({ s with sys := { s.sys with waits := s.sys.waits ++ [(i, a.toNat, w.toNat, whoCode who)] } } :
              State).islandCall i)))))))

/-- REFCLK_LOST and TIME_REPLICA_ALIGN (R13, R14): the loss of the clock is shown and raised; a replica within 1 ns is reloaded
and counts anew, another is reloaded, suspect, and counted; an island without a replica has nothing to check. The link rows
of a power-edge die (R16, R17, R398): a frame that arrives keeps the link, 8 µs without one set the safe-state latch, 1 ms
without one raises PEDIE_LINK_LOST, the first frame after a gap ends it, and 10 ms of a valid link release the latch. -/
def Obligations.ClockAndLinkRows : Prop :=
  (∀ (s : State), s.sys.up = true →
     (∀ (off : Bool) (ppm : BitVec 32), exec (.refclkLost off ppm) s
       = .next (s.after ((s.set aonBase AON_STAT_REFCLK_OK 0).raise .refclkLost (srcIsland 22) 0
           (leBytes 1 (b2n off) ++ leBytes 4 (if off then ppm.toNat else 0)))))
     ∧ (∀ (i : Fin 23) (err : BitVec 32), s.hasReplica i.val = false → exec (.timeReplicaAlign i err) s = .next (s.after s))
     ∧ (∀ (i : Fin 23) (err : BitVec 32), s.hasReplica i.val = true → -1 ≤ err.toInt → err.toInt ≤ 1 →
       let y : Replica := { err := err.toInt }
       exec (.timeReplicaAlign i err) s = .next (s.after { s with replicas := Tbl.put (fun _ => {}) s.replicas i.val y }))
     ∧ (∀ (i : Fin 23) (err : BitVec 32), s.hasReplica i.val = true → 1 < err.toInt ∨ err.toInt < -1 →
       (s.replica i.val).fails < 2 →
       let n := (s.replica i.val).fails + 1
       let y : Replica := { err := err.toInt, fails := n, suspect := true }
       exec (.timeReplicaAlign i err) s
         = .next (s.after (({ s with replicas := Tbl.put (fun _ => {}) s.replicas i.val y } : State).raise .timeReplica
             (srcIsland i.val) 0 (leBytes 4 (ofSigned 32 err.toInt) ++ leBytes 1 n))))
     ∧ (∀ (i : Fin 23) (err : BitVec 32), s.hasReplica i.val = true → 1 < err.toInt ∨ err.toInt < -1 →
       2 ≤ (s.replica i.val).fails →
       let y : Replica := { err := err.toInt, fails := 3, suspect := true }
       exec (.timeReplicaAlign i err) s
         = .next (s.after (({ s with replicas := Tbl.put (fun _ => {}) s.replicas i.val y } : State).raise
             (if 4 ≤ i.val ∧ i.val ≤ 18 then .timeReplicaFence else .timeReplicaLost)
             (srcIsland i.val) 0 (leBytes 4 (ofSigned 32 err.toInt) ++ leBytes 1 3)))))
  ∧ (∀ (s : State) (d : Fin 2), s.unitPresent (.pedie d.val) = true →
       (s.sys.up = true → (s.die d.val).powered = true → (s.die d.val).gap = false →
         exec (.linkFrameSend d true) s
           = .next (s.after ((s.emit (.linkFrame d.val (s.linkBytes d.val))).setDie d.val
               { s.die d.val with frameAt := s.uptime })))
       ∧ (s.sys.up = true → exec (.linkFrameSend d false) s = .next (s.after (s.emit (.linkFrame d.val (s.linkBytes d.val)))))
       ∧ ((s.die d.val).gap = false → s.sys.standby = false → (s.die d.val).frameAt + 8000 ≤ s.uptime →
         exec (.pedieLinkTimeout d) s
           = .next (s.after ((s.setDie d.val { s.die d.val with gap := true }).dieLatch d.val 2)))
       ∧ (s.sys.up = true → (s.die d.val).gap = true → (s.die d.val).frameAt + 1000000 ≤ s.uptime →
         s.fenced (.pedie d.val) = false →
         exec (.pedieLinkLostExpire d) s = .next (s.after (s.raise .pedieLinkLost (srcIsland (23 + d.val)) 0 [])))
       ∧ (s.sys.up = true → (s.die d.val).powered = true → (s.die d.val).gap = true →
         (s.die d.val).frameAt + 1000000 ≤ s.uptime →
         exec (.pedieLinkRestore d) s
           = .next (s.after (s.setDie d.val { s.die d.val with gap := false, frameAt := s.uptime, backAt := s.uptime })))
       ∧ (s.Live → (s.die d.val).powered = true → (s.die d.val).latch = true → (s.die d.val).gap = false →
         (s.die d.val).backAt + 10000000 ≤ s.uptime → s.dieRequired d.val = false → s.fenced (.pedie d.val) = false →
         exec (.safeStateRelease d) s
           = .next (s.after (((s.setDie d.val { s.die d.val with latch := false }).each (s.dieChannels d.val)
               fun s c => s.pchFollow c 0)))))

/-- The producer's and the consumer's side of a Sprue queue (R76, R77, R80 to R84): a full word or an end mark is placed, a part
of a word is packed, a read of a word whose parity holds takes the front word and sends one Peck back, q 33's to the three
lanes at once, and the Pecks on their way return. Only the voter writes q 32. A complete word at the write end of a Sprue
queue (R76, R79, R86): without a Peck it is discarded, counted in SPRUE_OVERRUN and charged; with the read end stopped it is
discarded and counted in SPRUE_FLUSHED; otherwise it joins the chain at its end with its parity, inverted where that is armed
(R82). SPRUE_INJ_PAR and SPRUE_MAX_RST (R89): a write of SPRUE_CTRL arms inverted parity for the next word, or sets
SPRUE_MAXLVL.MAX to the level. -/
def Obligations.SprueRows : Prop :=
  (∀ (s : State) (q : Fin 44), s.sys.up = true → s.queuePresent q.val = true →
     (∀ (bs : List Byte) (eop poison : Bool), (s.queue q.val).writeRuns = true → q.val ≠ 32 →
       (let p := (s.queue q.val).packing ++ bs.take (sprueWrite q.val)
        exec (.sprueWordWrite q bs eop poison) s
          = .next (s.after
              (if eop ∨ sprueRead q.val ≤ p.length then
                (s.setQueue q.val { s.queue q.val with packing := [], packPois := false, openPkt := !eop }).spruePlace q.val
                  { bytes := p ++ List.replicate (sprueRead q.val - p.length) 0#8, vb := p.length, eop := eop,
                    poison := (s.queue q.val).packPois || poison, par := [] }
              else s.setQueue q.val { s.queue q.val with packing := p, packPois := (s.queue q.val).packPois || poison,
                                                         openPkt := true }))))
     ∧ (∀ (w : SprueWord) (rest : List SprueWord), (s.queue q.val).chain = w :: rest → w.parOk = true →
       exec (.sprueWordRead q none) s
         = .next (s.after (((((s.setQueue q.val { s.queue q.val with
               chain := rest, crossing := (s.queue q.val).crossing + 1
               fails := (s.queue q.val).fails.filter fun t => s.uptime < t + 1000000 }).bump (queueBase q.val)
                 SPRUE_WORDS).emit (.sprueWord q.val w.bytes w.vb w.eop w.poison)).presentWord q.val w).sprueSample q.val)))
     ∧ (∀ (bs : List Byte) (eop poison : Bool), q.val = 32 → exec (.sprueWordWrite q bs eop poison) s = .next (s.after s))
     ∧ exec (.spruePeckReturn q) s
         = .next (s.after ((s.setQueue q.val { s.queue q.val with crossing := 0 }).closePacket q.val)))
  ∧ (∀ (s : State) (q : Nat) (w : SprueWord),
       ((s.queue q).readRuns = false → s.spruePlace q w = s.bump (queueBase q) SPRUE_FLUSHED)
       ∧ ((s.queue q).readRuns = true → (s.queue q).pecks q = 0 →
         s.spruePlace q w = (s.bump (queueBase q) SPRUE_OVERRUN).sprueCharge q 1)
       ∧ ((s.queue q).readRuns = true → (s.queue q).pecks q ≠ 0 → w.poison = false →
         ((s.spruePlace q w).queue q).chain
           = (s.queue q).chain ++ [{ w with
               par := if (s.queue q).injNext then (sprueParity w.bytes w.vb w.eop w.poison).map (! ·)
                 else sprueParity w.bytes w.vb w.eop w.poison
               forced := (s.queue q).injForced }]))
  ∧ (∀ (s : State) (q : Fin 44), s.Live → s.queuePresent q.val = true →
       exec (.sprueInjPar q) s
         = .next (s.after ((s.fieldsWrite 2 (queueBase q.val + 0x10) 1#32).setQueue q.val
             { (s.fieldsWrite 2 (queueBase q.val + 0x10) 1#32).queue q.val with injNext := true }))
       ∧ exec (.sprueMaxRst q) s
         = .next (s.after ((s.fieldsWrite 2 (queueBase q.val + 0x10) 2#32).set (queueBase q.val) SPRUE_MAXLVL_MAX
             ((s.fieldsWrite 2 (queueBase q.val + 0x10) 2#32).queue q.val).level)))

/-- WRITE, READ, CAS, RESP and MESSAGE frames in their turn (R54, R55, R57, R60, R63): each takes its effect on this hub's own
targets or on the transaction slot it answers, and what was held behind it follows. Transaction slots and frames that come
back (R56, R58, R59, R61, R64): a waiting request gets a free slot and is handed on; a slot whose request left the hub a read
timeout ago, with no answer at that moment, ends with TIMEOUT, its generation retired, and is kept from use for 4 ms; a frame
of this hub sent to a node that comes back is counted and recorded once, and ends the remote command it carried; after the
reorder hold a gap is declared lost. -/
def Obligations.FabricRows : Prop :=
  (∀ (s : State) (f : FabRx) (ups : List (Nat × Bool)), s.Live →
     let h := fabHead f.bytes
     let k := fabKey h
     let u := s.upset ups
     let t := u.turnTaken f
     (s.InTurn f 1 → h.len ≤ (s.turnTaken f).maxPay →
       exec (.fabricWriteRx f) s
         = .next (s.after (((s.turnTaken f).spaceWrite h.src h.init (spaceOf h.addr) (offsetOf h.addr) h.payload
             true).fabFollow 64 k)))
     ∧ (u.inHeld = false → u.InTurn f 2 → h.len ≤ t.maxPay → t.fitsRing h.len = true →
       (let r := t.spaceRead h.init (spaceOf h.addr) (offsetOf h.addr) h.len true
        exec (.fabricReadRx f ups) s = .next (s.after ((r.2.2.respond h r.1 r.2.1).fabFollow 64 k))))
     ∧ (u.inHeld = false → u.InTurn f 5 →
       (let r := t.spaceCas (spaceOf h.addr) (offsetOf h.addr) h.payload
        exec (.fabricCasRx f ups) s = .next (s.after ((r.2.2.respond h r.1 r.2.1).fabFollow 64 k))))
     ∧ (s.InTurn f 3 →
       (let t := s.turnTaken f
        let x := t.slot (h.tid % 256)
        x.inUse = true → x.gen = h.tid / 256 → x.node = h.src → x.addr = h.addr →
        exec (.fabricRespRx f) s
          = .next (s.after (((t.setSlot (h.tid % 256) { x with inUse := false }).clientDone x.client x.init x.addr h.status
              h.payload).fabFollow 64 k))))
     ∧ (s.InTurn f 4 → spaceOf h.addr = 4 → offsetOf h.addr = 0 →
       exec (.fabricMessageRx f) s
         = .next (s.after (((s.turnTaken f).messageIn h.src h.init h.addr h.payload).fabFollow 64 k))))
  ∧ (∀ (s : State), s.Live →
       (∀ (q : FabReq) (rest : List FabReq) (i : Nat), s.fab.waiting = q :: rest → s.freeSlot = some i →
         let x := s.slot i
         let t := ({ s with fab := { s.fab with waiting := rest } } : State).setSlot i
           { x with inUse := true, node := nodeOf q.addr, addr := q.addr, len := q.len, init := q.init, client := q.client,
                    sentAt := none }
         exec .fabSlotGrant s
           = .next (s.after (t.sendFab (nodeOf q.addr) (if q.cas = [] then 2 else 5) 0
               (if q.cas = [] then q.len else q.cas.length) (i + 256 * x.gen) q.init q.addr q.cas)))
       ∧ (∀ (i : Fin 256) (at_ : Nat), (s.slot i.val).inUse = true → (s.slot i.val).sentAt = some at_ →
         at_ + 10000 * s.get fabBase FAB_TIMEOUT_TICKS ≤ s.uptime → s.respComes i.val = false →
         let x := s.slot i.val
         exec (.fabReadTimeout i) s
           = .next (s.after (((s.setSlot i.val { x with inUse := false, gen := (x.gen + 1) % 16,
                                                         quarUntil := some (s.uptime + 4000000) }).bump fabBase
                 FAB_TIMEOUTS).clientDone x.client x.init x.addr stTimeout [])))
       ∧ (∀ (i : Fin 256) (t : Nat), (s.slot i.val).quarUntil = some t → t ≤ s.uptime →
         exec (.slotQuarantineEnd i) s = .next (s.after (s.setSlot i.val { s.slot i.val with quarUntil := none })))
       ∧ (∀ (x : HeldFrame), s.oldestHeld = some x →
         x.heldAt + 1000 * max 1 (s.get fabBase FAB_REORDER_HOLD) ≤ s.uptime →
         exec .fabReorderExpire s = .next (s.after (s.fabLoseTo 64 x)))
       ∧ (∀ (f : FabRx) (dst : BitVec 8), let h := fabHead f.bytes
         s.hasNode = true → fabBad true f.bytes = false → h.src = s.nodeId → dst.toNat ≠ 0 → dst.toNat ≠ 255 →
         dst.toNat ≠ s.nodeId → (h.type = 3 ∨ dst.toNat = nodeOf h.addr) → f.port.val < 2 →
         s.fab.returned.contains (dst.toNat, h.seq) = false →
         let u := (({ s with fab := { s.fab with returned := (dst.toNat, h.seq) :: s.fab.returned } } :
           State).bump fabBase FAB_UNDELIVERED).raise .fabNoDest srcHub h.addr (leBytes 1 h.type)
         exec (.fabUndeliveredReturn ⟨f, dst⟩) s
           = .next (s.after (if h.type = 4 then u.remoteLost dst.toNat h.init h.payload else u))))

/-- The xSPI mailbox (R91, R92, R102): a doorbell sets BUSY and hands the packet in the window to the checks of Table 4.6, or is
lost while BUSY or RPL_FULL stands; a pop delivers the front reply and frees its tag. -/
def Obligations.MailboxRows : Prop :=
  ∀ (s : State), s.Live →
    (∀ (len : BitVec 13), s.cmdBusy = false → s.rplFull = false →
      exec (.cmdDoorbell len) s
        = .next (s.after (s.setBusy.accept .xspi 0 0
            ((List.range len.toNat).map fun i => Tbl.get (fun _ => 0#8) s.cmd.window i))))
    ∧ (∀ (len : BitVec 13), s.cmdBusy = true ∨ s.rplFull = true →
      exec (.cmdDoorbell len) s
        = .next (s.after ((s.bump cmdBase CMD_DOORBELL_LOST).raise .cmdDoorbellLost srcHub 0 (leBytes 2 len.toNat))))
    ∧ (∀ (r : Reply) (rest : List Reply) (e : CmdEntry), s.cmd.xspi = r :: rest → r.answers = true →
      s.entry r.key = some e → e.phase = .replied →
      exec .cmdRplPop s
        = .next (s.after ((({ s with cmd := { s.cmd with xspi := rest } } : State).emit (.xspiReply r.bytes)).dropEntry
            r.key)))

/-- The life of a command (R108, R109, R111, R112, R120): once the ROM's scans have taken it and nothing holds it back, it starts
on its unfenced unit; at its bound it ends with TIMEOUT and a CMD_OVERRUN record; a remote one ends with TIMEOUT and keeps
its tag for 64 s; the tag is free once its reply was delivered; a broadcast closes with one reply. -/
def Obligations.CommandLife : Prop :=
  ∀ (s : State) (k : CmdKey) (e : CmdEntry), s.Live → s.entry k = some e →
    (∀ (e' : CmdEntry), let t := State.scanTo (s.cmd.entries.length + 1) k s
      e.phase = .accepted → t.entry k = some e' → e'.phase = .accepted → t.mayStart e' = true →
      t.remoteOf k e'.packet = none → t.fencedFor e'.packet = false →
      (∀ i, unitGate (pktUnit e.packet) = some i → t.sys.gated.contains i = false) →
      exec (.commandStart k) s
        = .next (s.after (t.setEntry k fun e => { e with phase := .executing t.uptime none })))
    ∧ (∀ (at_ : Nat) (w : Option WaitKind), e.phase = .executing at_ w → at_ + s.bound e ≤ s.uptime →
      pktOp e.packet ≠ 0x0201 → pktOp e.packet ≠ 0x0203 → pktOp e.packet ≠ 0x0A00 →
      exec (.executionBoundExpire k) s
        = .next (s.after ((s.reply k 0x70 []).raise .cmdOverrun srcHub 0
            (leBytes 2 (pktOp e.packet) ++ leBytes 2 (pktTag e.packet) ++ leBytes 1 (xportCode k.transport)))))
    ∧ (∀ (n sent : Nat), e.phase = .remote n sent → sent + 10000000 * s.get cmdBase CMD_REMOTE_TMO_TICKS ≤ s.uptime →
      s.replyComes e = false →
      exec (.remoteTimeout k) s
        = .next (s.after ((s.replyWith k 0x70 32 []).setEntry k
            fun e => { e with phase := .held (s.uptime + 64 * nsPerSec) false })))
    ∧ (∀ (u : Nat), e.phase = .held u true → u ≤ s.uptime →
      exec (.remoteTagHoldEnd k) s = .next (s.after (s.dropEntry k)))
    ∧ (∀ (c : Nat) (self : Bool) (rs : List (Nat × Nat)), e.phase = .broadcast c self rs → c ≤ s.uptime →
      exec (.broadcastWindowClose k) s
        = .next (s.after (s.replyWith k (s.bcastClose self rs).1 32 (s.bcastClose self rs).2)))

/-! ### Rows of the ring, the MACs, the scheduler and time (chapters 5 to 8) -/

/-- The rows of a ring port (R127, R129, R140, R151, R155): lock, the link timeout, an announced rate change, hellos sent, missed
and heard, the end of the heal hold, and a break, of which a port that lost lock tells the far end. Frames that arrive from
the ring (R131, R134, R137, R142, R146, R161, R221): a tagged frame of 64 bytes to the port's maximum is counted and goes on
as the hub's own, a supervision frame, or data, but for time messages; an untagged one of no kind that carries no tag is
counted; an enumeration frame is passed on or ends the run. -/
def Obligations.RingPortRows : Prop :=
  (∀ (s : State) (p : Fin 2), s.Clocked →
     let b := ringBase p.val
     let x := s.rport p.val
     (s.pstate p.val = 1 → s.flag b RING_PSTAT_BLOCK_LOCK = false → s.get b RING_PSTAT_RATE_NOW = s.get b RING_PCTRL_RATE →
       (let fec := s.get b RING_PSTAT_RATE_NOW == 0 && s.flag b RING_PCTRL_FEC
        exec (.portBlockLock p) s
          = .next (s.after (((s.set b RING_PSTAT_BLOCK_LOCK 1).set b RING_PSTAT_FEC_ALIGN (b2n fec)).set b
              RING_PSTAT_FEC_NOW (b2n fec)))))
     ∧ (s.pstate p.val = 1 → s.flag b RING_PSTAT_BLOCK_LOCK = false →
       x.seekAt + 10000000 * s.get b RING_LINK_TMO_TICKS ≤ s.uptime →
       (let t := (s.bump b RING_LINK_TMO_CNT).setRport p.val { x with seekAt := s.uptime }
        exec (.linkTimeout p) s
          = .next (s.after (t.set b RING_PSTAT_RATE_NOW
              (if s.flag b RING_PCTRL_FALLBACK then 1 - s.get b RING_PSTAT_RATE_NOW else s.get b RING_PCTRL_RATE)))))
     ∧ (∀ (r t : Nat), x.ownChange = some (r, t) → t ≤ s.ring →
       (let u := ((s.setRport p.val { x with ownChange := none }).set b RING_PCTRL_RATE r).evt b RING_PEVT 5
        exec (.rateChangeApply p) s = .next (s.after (if s.portRuns p.val then u.seekRate p.val 3 r else u))))
     ∧ (s.hellos p.val = true → x.helloSent + s.helloNs ≤ s.uptime →
       exec (.helloSend p) s
         = .next (s.after ((s.sendCtl p.val (s.ctlFrame (s.helloBody p.val))).setRport p.val
             { (s.rport p.val) with helloSent := s.uptime })))
     ∧ (∀ (f : List Byte), s.hellos p.val = true → s.isCtl f 1 = true → s.pstate p.val ≠ 1 → leAt f 18 1 = 0 →
       (let t := (s.noteEpoch p.val (if bitAt (leAt f 16 1) 0 then leAt f 15 1 else 0) (leAt f 17 1)).set b
          RING_PSTAT_HELLO_OK 1
        exec (.helloRx p f) s
          = .next (s.after (t.setRport p.val { (t.rport p.val) with helloAt := s.uptime, missed := 0,
                                                                    nbFallback := some (bitAt (leAt f 16 1) 3) }))))
     ∧ (s.pstate p.val = 3 → x.helloAt + (x.missed + 1) * s.helloNs ≤ s.uptime →
       (let t := (s.setRport p.val { x with missed := x.missed + 1, holdAt := s.uptime }).bump b RING_HELLO_MISS
        exec (.helloMiss p) s
          = .next (s.after (if s.get ringWide RING_HELLO_MISSMAX ≤ x.missed + 1 then t.seek p.val 2 else t))))
     ∧ (s.pstate p.val = 2 → x.holdAt + 1000000 * s.get ringWide RING_HEAL_HOLD_MS ≤ s.uptime →
       exec (.healHoldEnd p) s
         = .next (s.after (((s.set b RING_PSTAT_STATE 3).evt b RING_PEVT 3).ownNotice p.val false
             (s.get b RING_PSTAT_NEIGHBOUR))))
     ∧ (∀ (cause : Fin 4), s.pstate p.val = 3 → cause.val ≠ 2 →
       exec (.ringBreakDeclare p cause) s
         = .next (s.after ((if cause.val = 0 then s.emit (.remoteFault p.val) else s).seek p.val cause.val))))
  ∧ (∀ (s : State) (p : Fin 2) (f : List Byte), s.Clocked → s.ringUp p.val = true →
       s.flag (macBase p.val) MAC_MCTRL_RX_EN = true → 60 ≤ f.length →
       let b := ringBase p.val
       (beAt f 12 2 = 0x892F → lsduOk f = true → f.length + 4 ≤ s.maxFrame p.val f → etherOf (unTag f) = 0x88F7 →
         exec (.ringFrameRx p f 0) s = .next (s.after (s.bump b RING_RX_FRAMES)))
       ∧ (beAt f 12 2 = 0x892F → lsduOk f = true → f.length + 4 ≤ s.maxFrame p.val f → etherOf (unTag f) ≠ 0x88F7 →
         isSup f = false →
         s.ownSource (srcMacOf f) = false →
         exec (.ringFrameRx p f 0) s = .next (s.after ((s.bump b RING_RX_FRAMES).dataRx p.val f 0)))
       ∧ (beAt f 12 2 = 0x892F → lsduOk f = true → f.length + 4 ≤ s.maxFrame p.val f → etherOf (unTag f) ≠ 0x88F7 →
         isSup f = false → s.ownSource (srcMacOf f) = true →
         exec (.ringFrameRx p f 0) s = .next (s.after ((s.bump b RING_RX_FRAMES).bump b RING_SELF_REMOVED)))
       ∧ (beAt f 12 2 ≠ 0x892F → s.untaggedOk f = false →
         ∀ (fcs : Fin 3), exec (.ringFrameRx p f fcs) s = .next (s.after (s.bump b RING_UNTAGGED)))
       ∧ (beAt f 12 2 = 0x892F → lsduOk f = true → f.length + 4 ≤ s.maxFrame p.val f → isSup f = true →
         s.ownSource (srcMacOf f) = false →
         exec (.supervisionRx p f) s = .next (s.after ((s.bump b RING_RX_FRAMES).supRx p.val f 0)))
       ∧ (s.enumTakes f = true → s.enumBack f = false → exec (.enumerationFrameRx f) s = .next (s.after (s.enumPass f)))
       ∧ (s.enumTakes f = true → s.enumBack f = true →
         exec (.enumerationFrameRx f) s = .next (s.after (if s.inHeld then s else s.enumDone f))))

/-- The tables of the ring (R132, R137, R141, R142, R145, R146, R147, R152, R155): what is forgotten when, the supervision frame
of each millisecond, a fixed node ID, and the end of an enumeration that found no closed ring. FOREIGN_CLEAR (R147, R150): 3
s after the last frame of a foreign node RING_STAT.FOREIGN clears, and with it TIME_STAT.FOREIGN_PATH and the Twin form of
Split streams; before that it stays. -/
def Obligations.RingTableRows : Prop :=
  (∀ (s : State), s.Clocked →
     (∀ (n : Nat) (e : DupEntry), Tbl.get (fun _ => none) s.ringNet.dup n = some e →
       e.at_ + 1000000 * s.get ringWide RING_DD_FORGET_MS ≤ s.uptime →
       exec (.ddForget n) s = .next (s.after (s.setDup n none)))
     ∧ (∀ (n c at_ : Nat), Tbl.get (fun _ => none) s.ringNet.txSeq n = some (c, at_) → at_ + 2 * nsPerSec ≤ s.uptime →
       exec (.seqCounterFree n) s
         = .next (s.after { s with ringNet := { s.ringNet with txSeq := Tbl.put (fun _ => none) s.ringNet.txSeq n none } }))
     ∧ (∀ (node : Fin 256), s.inMap node.val = true → node.val ≠ s.nodeId → (s.note node.val).at_ + 3000000 ≤ s.uptime →
       exec (.ringMapExpire node) s = .next (s.after (s.mapDrop node.val)))
     ∧ (∀ (n : SegNotice), firstNotice s.ringNet.notices = some n → n.applyAt ≤ s.ring →
       exec .segmentNoticeApply s
         = .next (s.after (({ s with ringNet := { s.ringNet with notices := s.ringNet.notices.erase n } } :
             State).segApply n)))
     ∧ (∀ (c : Fin 1024), exec (.splitPathHoldEnd c) s = .next (s.after (s.pathHoldEnd c.val)))
     ∧ (∀ (c : Fin 1024) (n t : Nat), n < 256 →
       ((s.ringNet.paths.map (·.1)).filter fun k => k / 256 == c.val) = [256 * c.val + n] →
       (s.path c.val n).hold = some t → t ≤ s.uptime →
       s.pathHoldEnd c.val
         = ((s.setPath c.val n { s.path c.val n with hold := none, wait := 0 }).headMarks 0).headMarks 1)
     ∧ (s.supervises = true → s.ringNet.supAt ≤ s.uptime → s.ringNet.own = [] →
       (let t := (s.sendSup none).mapSelf
        exec .supervisionSend s
          = .next (s.after { t with ringNet := { t.ringNet with own := [], supAt := s.uptime + 1000000 } })))
     ∧ (∀ (id : BitVec 8), s.inHeld = false →
       exec (.nodeCfgFixedWrite id) s
         = .next (s.after (s.fieldsWrite 2 ringWide
             (BitVec.ofNat 32 ((s.rd ringWide).toNat / 512 * 512 + 256 + id.toNat))).nodeCfgWritten))
     ∧ (∀ (r : EnumRun) (e : CmdEntry) (at_ : Nat) (w : Option WaitKind), s.inHeld = false → s.ringNet.enum = some r →
       s.entry r.key = some e → e.phase = .executing at_ w → at_ + s.bound e ≤ s.uptime →
       exec .enumerationBoundExpire s
         = .next (s.after (({ s with ringNet := { s.ringNet with enum := none } } : State).reply r.key 0x0201
             (enumResult 0 (if s.fixedId then 0 else e.arg 0 1) 1)))))
  ∧ (∀ (s : State), s.Clocked → s.Calm → s.Inv → s.flag ringWide RING_STAT_FOREIGN = true →
       (s.uptime < s.ringNet.foreignAt + 3 * nsPerSec → exec .foreignClear s = .next s)
       ∧ (s.ringNet.foreignAt + 3 * nsPerSec ≤ s.uptime →
         ∃ t, exec .foreignClear s = .next t ∧ t.get ringWide RING_STAT_FOREIGN = 0
           ∧ t.get ringWide RING_STAT_SPLIT_AS_TWIN = 0 ∧ t.ringNet.foreign = []
           ∧ t.get timeBase TIME_STAT_FOREIGN_PATH = 0 ∧ t.mem = s.mem
           ∧ ∀ a, a ≠ ringWide + RING_STAT_FOREIGN.off → a ≠ timeBase + TIME_STAT_FOREIGN_PATH.off → t.rd a = s.rd a))

/-- The rows of a port's MAC (R161, R168, R169, R171, R172, R192, R199): a whole frame is judged; an mPacket of a bad length is
only that, else it starts a frame, goes on with one, or has no known delimiter; an idle egress port starts what its scheduler
picks, a frame that is out leaves the line, a preemptable one ends with an mCRC, and preemption is verified. PAUSE on a local
port (R174, R176, R178, R179): a PAUSE received loads the timer, its end resumes sending, the level's marks send PAUSE
frames, and a USXGMII control word sets the link. -/
def Obligations.MacRows : Prop :=
  (∀ (s : State) (p : Fin 6), s.PortRuns p.val →
     let b := macBase p.val
     let x := s.eport p.val
     (∀ (m : MacRx), s.receives p.val = true →
       (m.smd = 0xD5 → exec (.macFrameRx p m) s = .next (s.after (s.macJudge p.val m.bytes m.check)))
       ∧ (∀ (k : Nat), m.smd ≠ 0xD5 → smdIndex smdStarts m.smd = some k →
         (∀ t, s.lengthBad p.val m.bytes m.check = some t → exec (.macFrameRx p m) s = .next (s.after t))
         ∧ (s.lengthBad p.val m.bytes m.check = none → exec (.macFrameRx p m) s = .next (s.after (s.startRx p.val k m))))
       ∧ (∀ (k : Nat), m.smd ≠ 0xD5 → smdIndex smdStarts m.smd = none → smdIndex smdConts m.smd = some k →
         (∀ t, s.lengthBad p.val m.bytes m.check = some t → exec (.macFrameRx p m) s = .next (s.after t))
         ∧ (s.lengthBad p.val m.bytes m.check = none → exec (.macFrameRx p m) s = .next (s.after (s.contRx p.val k m))))
       ∧ (m.smd ≠ 0xD5 → smdIndex smdStarts m.smd = none → smdIndex smdConts m.smd = none → m.smd ≠ 0x07 → m.smd ≠ 0x19 →
         exec (.macFrameRx p m) s = .next (s.after (s.bump b MAC_SMD_ERR))))
     ∧ (x.line = none → s.pick p.val = none → exec (.egressFrameStart p) s = .next (s.after s))
     ∧ (∀ (tc : Nat) (k : Cand), x.line = none → s.pick p.val = some (tc, .cand k) →
       exec (.egressFrameStart p) s = .next (s.after (s.startCand p.val tc k)))
     ∧ (∀ (tc : Nat) (f : CtlFrame), x.line = none → s.pick p.val = some (tc, .ctl f) →
       exec (.egressFrameStart p) s = .next (s.after (s.startCtl p.val f)))
     ∧ (∀ (tc : Nat) (l : Line), x.line = none → s.pick p.val = some (tc, .cont l) →
       exec (.egressFrameStart p) s
         = .next (s.after (s.setEport p.val { x with line := some { l with since := s.uptime }, held := none })))
     ∧ (∀ (l : Line), x.line = some l →
       (8 + (l.bytes.length - l.sent) + 4) * s.byteTime p.val ≤ (s.uptime - l.since) * 100 →
       exec (.egressFrameEnd p) s = .next (s.after ((s.lineEnd p.val).boundary p.val)))
     ∧ (∀ (l : Line), x.line = some l → l.express = false → s.preemptActive p.val = true →
       s.lineWanted p.val = true →
       64 * (1 + s.get b MAC_PREEMPT_ADD_FRAG) - 4 ≤ s.sentNow p.val l →
       64 ≤ l.bytes.length + 4 - (l.sent + s.sentNow p.val l) →
       (let n := s.sentNow p.val l
        let t := ((s.setEport p.val { x with line := none,
                                             held := some { l with sent := l.sent + n, frags := l.frags + 1 } }).emit
          (.frame p.val l.smd l.frag ((l.bytes.drop l.sent).take n ++ checkBytes 0xFFFF (l.bytes.take (l.sent + n))))).bump b
            MAC_FRAG_TX
        exec (.mpacketPreempt p) s
          = .next (s.after (if x.hold then t.bump (schedBase p.val) SCHED_HOLDS else t))))
     ∧ (s.receives p.val = true → s.flag b MAC_PREEMPT_EN = true →
       exec (.verifyRx p) s = .next (s.after (s.sendOwn p.val 0x19 .none (List.replicate 60 0#8))))
     ∧ (s.receives p.val = true → s.flag b MAC_PREEMPT_EN = false →
       exec (.verifyRx p) s = .next (s.after (s.bump b MAC_SMD_ERR))
       ∧ exec (.respondRx p) s = .next (s.after (s.bump b MAC_SMD_ERR)))
     ∧ (s.receives p.val = true → s.flag b MAC_PREEMPT_EN = true → s.get b MAC_PSTAT_VERIFY_STATE = 2 →
       exec (.respondRx p) s
         = .next (s.after ((s.set b MAC_PSTAT_VERIFY_STATE 3).set b MAC_PSTAT_ACTIVE 1)))
     ∧ (s.get b MAC_PSTAT_VERIFY_STATE = 2 → s.verifyWaits p.val = false →
       (s.mac p.val).verifyAt + 1000000 * s.get b MAC_PREEMPT_VERIFY_MS ≤ s.uptime →
       exec (.verifyTimeout p) s
         = .next (s.after (if (s.mac p.val).tries < s.get b MAC_PREEMPT_VERIFY_LIMIT then s.sendVerify p.val
             else (s.set b MAC_PSTAT_VERIFY_STATE 4).raise .preemptVerifyFail (srcPort p.val) 0
               (leBytes 1 (s.mac p.val).tries)))))
  ∧ (∀ (s : State) (l : Fin 4), s.Live →
       let p := l.val + 2
       let b := macBase p
       (∀ (q : BitVec 16), s.receives p = true → s.flag b MAC_PAUSE_RX_EN = true →
         exec (.pauseRx l q) s
           = .next (s.after ((s.bump b MAC_PAUSE_RX).setPause p
               (if q = 0 then 0 else s.uptime + s.quantaNs p q.toNat))))
       ∧ (∀ (q : BitVec 16), s.receives p = true → s.flag b MAC_PAUSE_RX_EN = false →
         exec (.pauseRx l q) s = .next (s.after (s.bump b MAC_PAUSE_IGNORED)))
       ∧ ((s.mac p).pauseEnd ≠ 0 → (s.mac p).pauseEnd ≤ s.uptime →
         exec (.pauseTimerExpire l) s = .next (s.after (s.setPause p 0)))
       ∧ (s.canSend p = true → s.flag b MAC_PAUSE_TX_EN = true → (s.mac p).xoff = false →
         1024 * s.get b MAC_PAUSE_MARK_XOFF_KIB ≤ s.rxLevel p →
         exec (.pauseXoff l) s = .next (s.after (s.sendPause p (s.txQuanta p))))
       ∧ (s.canSend p = true → s.flag b MAC_PAUSE_TX_EN = true → (s.mac p).xoff = true →
         1024 * s.get b MAC_PAUSE_MARK_XON_KIB ≤ s.rxLevel p →
         (s.mac p).pauseAt + s.quantaNs p (s.txQuanta p) / 2 ≤ s.uptime →
         exec (.pauseRefresh l) s = .next (s.after (s.sendPause p (s.txQuanta p))))
       ∧ (s.canSend p = true → s.flag b MAC_PAUSE_TX_EN = true → (s.mac p).xoff = true →
         s.rxLevel p < 1024 * s.get b MAC_PAUSE_MARK_XON_KIB →
         exec (.pauseXon l) s = .next (s.after (s.sendPause p 0)))
       ∧ (∀ (w : BitVec 16), s.flag b LMAC_USX_AN_EN = false →
         exec (.lmacLinkChange l w) s
           = .next (s.after (((((s.set b LMAC_USX_LINK (w.toNat / 32768 % 2)).set b LMAC_USX_SPEED
               (usxSpeed (w.toNat / 512 % 8))).set b LMAC_USX_DUPLEX_FULL (w.toNat / 4096 % 2)).set b
                 LMAC_USX_AN_DONE 1).lmacApply p))))

/-- Contexts and descriptors (R190, R191, R193, R265): a write of SCHED_TXD_CMD pushes a descriptor; the context judges the
oldest one, ENQ_SEQ moves on for a descriptor the host pushed, and an image frame it refuses is counted; a closed context
discards and counts the frames it has queued, but for what is on a line. -/
def Obligations.ContextRows : Prop :=
  ∀ (s : State) (c : Fin 1024), s.Live →
    let b := ctxBase c.val
    (∀ (who : Who) (w : Word), exec (.txdPush who c w) s
        = .next (s.after (s.pushDescr c.val { bytes := none, addr := (s.rd (0x88000 + 8 * c.val)).toNat,
                                              len := bitsOf w 0 14, yellow := w.getLsbD 14 })))
    ∧ (s.waitingDescr c.val = [] → exec (.descriptorJudge c) s = .next (s.after s))
    ∧ (∀ (d : Descr) (rest : List Descr), s.waitingDescr c.val = d :: rest →
      (let t : State := { s with inbox := Tbl.put (fun _ => []) s.inbox c.val rest }
       let n := (s.get b CTX_SEQ_ENQ_SEQ + 1) % 65536
       let v := t.judge c.val d (s.get b CTX_SEQ_ENQ_SEQ)
       let u := if d.bytes.isNone then (t.judge c.val d n).set b CTX_SEQ_ENQ_SEQ n
         else if c.val = 0 then v.notQueued (s.cq 0) d else v
       exec (.descriptorJudge c) s
         = .next (s.after (if s.isImageFrame d ∧ u.get b CTX_ENQ_REFUSED ≠ s.get b CTX_ENQ_REFUSED then
             u.bump pimgBase PIMG_PUB_REFUSED else u))))
    ∧ (s.flag b CTX_CTRL_EN = true →
      (let q := s.cq c.val
       let stay := (q.filter fun f => f.todo != f.left).map fun f => { f with left := f.left - f.todo, todo := 0 }
       let t := (((s.flushNotes c.val).setCq c.val stay).set b CTX_CTRL_EN 0).bumpBy b CTX_FLUSHED
         (q.filter fun f => f.todo != 0).length
       exec (.ctxCloseWrite c) s
         = .next (s.after ((t.set b CTX_STAT_QLEVEL stay.length).each allPorts fun t p => t.leafDrop p c.val))))
    ∧ (s.flag b CTX_CTRL_EN = false → exec (.ctxCloseWrite c) s = .next (s.after s))

/-- Gate lists (R203, R205 to R209): an edge that is due is passed, to the next entry or a new cycle, and releases a hold that
leaves some preemptable class open; a hold is asserted ahead of a closing edge of the list or of a swap; a frame that stays
the head of its class a whole cycle is dropped; and an admin list is asked for, latched 10 µs before its swap, and taken. -/
def Obligations.GateRows : Prop :=
  ∀ (s : State) (p : Fin 6), s.PortRuns p.val → s.Live →
    let b := schedBase p.val
    let x := s.eport p.val
    (let e := s.edgeAt p.val
     let y := if s.cycleEnd p.val ≤ e then { x with entry := 0, entryAt := e, cycleAt := e, still := none }
       else { x with entry := x.entry + 1, entryAt := e }
     let t := s.setEport p.val y
     e ≤ s.ring →
     exec (.gateEdge p) s
       = .next (s.after (if t.opensPreemptable p.val (t.gates p.val) then t.setEport p.val { y with hold := false } else t)))
    ∧ (s.ring < s.edgeAt p.val → exec (.gateEdge p) s = .next (s.after s))
    ∧ (s.flag b SCHED_PCTRL_GATE_EN = true → s.preemptActive p.val = true →
      ((List.range 8).any fun c => !s.isExpress p.val c && bitAt (s.gates p.val) c && !bitAt (s.nextGates p.val) c) = true →
      s.nextEdge p.val ≤ s.ring + s.holdAdv p.val →
      exec (.gateHoldAssert p) s = .next (s.after ((s.setEport p.val { x with hold := true }).preemptLine p.val)))
    ∧ (∀ (tc : Fin 8), (Tbl.get (fun _ => (0, 0)) x.head tc.val).1 ≠ 0 →
      (Tbl.get (fun _ => (0, 0)) x.head tc.val).2 + s.get b SCHED_OPER_CYCLE_NS ≤ s.uptime + 1 →
      (∀ (f : CtlFrame) (rest : List CtlFrame), tc.val = 7 → x.ctl = f :: rest →
        exec (.frameWindowExpire p tc) s
          = .next (s.after ((s.setEport p.val { x with ctl := rest }).windowDrop p.val 7 Config.noContext.toNat
              (f.bytes.length + 4))))
      ∧ (∀ (k : Cand), tc.val ≠ 7 ∨ x.ctl = [] → s.headOf p.val tc.val = some k →
        (let f := s.finish p.val tc.val k
         let g := s.inputFinish p.val tc.val k
         let len := k.len p.val
         (∀ r, k = .transit r →
           exec (.frameWindowExpire p tc) s
             = .next (s.after (((s.setEport p.val { x with transit := x.transit.erase r }).chosen p.val tc.val k f g).windowDrop
                 p.val tc.val Config.noContext.toNat len)))
         ∧ (∀ n q, k = .ctx n q →
           exec (.frameWindowExpire p tc) s
             = .next (s.after ((((((((s.ctxStart p.val n q.uid).chosen p.val tc.val k f g).wakeCtx p.val n).leaveMark p.val n q
                 false).ctxEnd p.val n q.uid false)).windowDrop p.val tc.val n len).bump (ctxBase n) CTX_WINDOW_DROP))))))
    ∧ (s.adminBase p.val = 0 ∨ s.timeValid = true →
      exec (.schedConfigChange p) s = .next (s.after (s.swapRequest p.val)))
    ∧ (s.adminBase p.val ≠ 0 → s.timeValid = false →
      exec (.schedConfigChange p) s = .next (s.after (s.bump b SCHED_GCL_WDROP)))
    ∧ (s.flag b SCHED_PCTRL_CONFIG_PENDING = true → s.flag b SCHED_PCTRL_SWAP_LATCHED = false →
      x.swapAt ≤ s.ring + 10000 →
      exec (.swapLatch p) s
        = .next (s.after ((s.set b SCHED_PCTRL_SWAP_LATCHED 1).setEport p.val
            { x with latched := some (s.adminList p.val, s.get b SCHED_ADMIN_CYCLE_NS, s.get b SCHED_ADMIN_EXT_NS,
                                      s.adminBase p.val) })))
    ∧ (∀ (l : List (Nat × Nat)) (cycle ext base : Nat), x.latched = some (l, cycle, ext, base) →
      s.flag b SCHED_PCTRL_CONFIG_PENDING = true → s.flag b SCHED_PCTRL_SWAP_LATCHED = true → x.swapAt ≤ s.ring →
      (let u := (((s.writeOper p.val 0 l).set b SCHED_OPER_CYCLE_NS cycle).set b SCHED_OPER_EXT_NS ext).set b
         SCHED_OPER_LEN l.length
       let v := (((u.set b SCHED_PCTRL_CONFIG_PENDING 0).set b SCHED_PCTRL_SWAP_LATCHED 0).bump b SCHED_SWAPS).evt b
         SCHED_PCEVT 0
       let y := { x with entry := 0, entryAt := x.swapAt, cycleAt := x.swapAt, base := base, still := none,
                         latched := none }
       let t := v.setEport p.val y
       exec (.gclSwap p) s
         = .next (s.after (if t.opensPreemptable p.val (t.gates p.val) then t.setEport p.val { y with hold := false } else t))))

/-- Messages received (R218, R219, R220, R221, R223, R226): one that is not taken is discarded, and counted where its domain,
version or type is wrong; a Sync is noted, relayed and, one-step on the LMAC slave port, judged; a Follow_Up is relayed for
its Sync, which is judged; an Announce is relayed one step further and enters the selection; a Pdelay_Req is answered; a
Pdelay_Resp is kept for its Follow_Up, which completes the exchange. What a Sync's offset does (R227, R229, R230) once the
mode in force is the one written: within ±STEP_THR a hub in HOLDOVER corrects and is LOCKED at once; beyond it, a hub in
Forerunner mode that has ever been LOCKED refuses the jump and counts it. -/
def Obligations.TimeMessages : Prop :=
  (∀ (s : State) (p : Fin 6) (m : PtpRx), s.PortRuns p.val →
     (s.ptpTaken p.val m.bytes = false →
       (let t := if s.ptpOn p.val = true ∧ s.receives p.val = true ∧ s.ptpGood m.bytes = false then s.bump timeBase TIME_PTP_DISCARD else s
        exec (.syncRx p m) s = .next (s.after t) ∧ exec (.followUpRx p m) s = .next (s.after t)
          ∧ exec (.announceRx p m) s = .next (s.after t)))
     ∧ (s.ptpTaken p.val m.bytes = true →
       (let t := (if s.mayFollow p.val m.bytes = true then s.noteSync p.val (ptpLog m.bytes) else s).setSyncWait p.val
          (some { seq := ptpSeq m.bytes, ingress := m.ingress })
        let u := if p.val < 2 ∧ t.asCapable (1 - p.val) = true then
            t.sendPtp (1 - p.val) (.relay p.val (ptpSeq m.bytes)) (putBe (putBe m.bytes 6 2 0x0200) 28 2 (2 - p.val)) else t
        let here := bitAt (leAt m.bytes 6 1) 1 = false ∧ p.val = u.slavePort ∧ u.mayFollow p.val m.bytes = true
          ∧ u.followPort p.val = true
        (here → exec (.syncRx p m) s
          = .next (s.after (u.takeSync p.val m.ingress (ptpStamp m.bytes 34) (ptpCorr m.bytes))))
        ∧ (¬ here → exec (.syncRx p m) s = .next (s.after u))))
     ∧ (s.ptpTaken p.val m.bytes = true →
       (s.syncWaitAt p.val = none → exec (.followUpRx p m) s = .next (s.after s))
       ∧ (∀ (w : SyncWait), s.syncWaitAt p.val = some w →
         (w.seq ≠ ptpSeq m.bytes ∨ w.follow.isSome = true → exec (.followUpRx p m) s = .next (s.after s))
         ∧ (w.seq = ptpSeq m.bytes → w.follow = none →
           (let t := s.followRelay p.val w m.bytes
            (t.mayFollow p.val m.bytes = true ∧ t.followPort p.val = true → exec (.followUpRx p m) s
              = .next (s.after (t.takeSync p.val w.ingress (ptpStamp m.bytes 34) (ptpCorr m.bytes))))
            ∧ (t.mayFollow p.val m.bytes = false ∨ t.followPort p.val = false →
              exec (.followUpRx p m) s = .next (s.after t))))))
     ∧ (s.ptpTaken p.val m.bytes = true →
       (let d := announceData m.bytes
        let t := if p.val < 2 ∧ s.asCapable (1 - p.val) = true then
            s.sendPtp (1 - p.val) .none (putBe (putBe m.bytes 61 2 (d.steps + 1)) 28 2 (2 - p.val)) else s
        (p.val < 2 → exec (.announceRx p m) s = .next (s.after (t.announce p.val d (ptpLog m.bytes) false)))
        ∧ (2 ≤ p.val → p.val = s.slavePort →
          exec (.announceRx p m) s = .next (s.after (t.announce p.val d (ptpLog m.bytes) true)))
        ∧ (2 ≤ p.val → p.val ≠ s.slavePort → exec (.announceRx p m) s = .next (s.after s))))
     ∧ (s.ptpOn p.val = false ∨ s.hearsPeer p.val = false →
       exec (.pdelayReqRx p m) s = .next (s.after s) ∧ exec (.pdelayRespRx p m) s = .next (s.after s))
     ∧ (s.ptpOn p.val = true → s.hearsPeer p.val = true → s.ptpGood m.bytes = false →
       exec (.pdelayReqRx p m) s = .next (s.after (s.bump timeBase TIME_PTP_DISCARD))
       ∧ exec (.pdelayRespRx p m) s = .next (s.after (s.bump timeBase TIME_PTP_DISCARD)))
     ∧ (s.ptpOn p.val = true → s.hearsPeer p.val = true → s.ptpGood m.bytes = true →
       exec (.pdelayReqRx p m) s = .next (s.after (s.pdelayReq p.val m))
       ∧ ((s.peer p.val).waiting = none → exec (.pdelayRespRx p m) s = .next (s.after s))
       ∧ (∀ (seq t1 since : Nat), (s.peer p.val).waiting = some (seq, t1, since) →
         (seq ≠ ptpSeq m.bytes → exec (.pdelayRespRx p m) s = .next (s.after s))
         ∧ (seq = ptpSeq m.bytes → ptpType m.bytes = 3 → exec (.pdelayRespRx p m) s
           = .next (s.after (s.setPeer p.val { s.peer p.val with
               resp := some (ptpStamp m.bytes 34, m.ingress - s.get (timePort p.val) TIME_PORT_RX_LAT_NS) })))
         ∧ (seq = ptpSeq m.bytes → ptpType m.bytes ≠ 3 → (s.peer p.val).resp = none →
           exec (.pdelayRespRx p m) s = .next (s.after s))
         ∧ (∀ (t2 t4 : Nat), seq = ptpSeq m.bytes → ptpType m.bytes ≠ 3 → (s.peer p.val).resp = some (t2, t4) →
           exec (.pdelayRespRx p m) s
             = .next (s.after (s.pdelayDone p.val t1 t2 (ptpStamp m.bytes 34) t4 (s.canSend p.val)))))))
  ∧ (∀ (s : State) (off : Int), s.time.mode = s.get timeBase TIME_CTRL_MODE → s.time.accept = false →
       let u := s.takeMode.showOffset off
       (u.timeState = 3 → off.natAbs ≤ u.get timeBase TIME_STEP_THR_NS →
         s.judgeSync off
           = (((({ u with time := { u.time with accept := false, confirm := [] } } : State).set timeBase
               TIME_STAT_JUMP_REFUSED 0)).correctBy off).setTimeState 2)
       ∧ (s.time.mode = 1 → s.time.everLocked = true → u.get timeBase TIME_STEP_THR_NS < off.natAbs →
         s.judgeSync off = u.refuseJump off))

/-- Messages sent when their interval has passed (R219, R220, R223, R225, R238): a port in an external loop test exchanges peer
delay too; what a TIME_ROLE set is in force from the Announce on. What runs out in the time island (R215, R223, R224, R226,
R228, R230): an external grandmaster or a master silent for ANN_TMO intervals is none any more, which makes a
grandmaster-capable hub grandmaster; no Sync on either ring port ends LOCKED in HOLDOVER and ACQUIRING in FREERUN, and on one
of them moves to the other; the holdover bound ends in FREERUN, a slew consumed stops; a refused jump may be accepted. -/
def Obligations.TimeTimers : Prop :=
  (∀ (s : State) (p : Fin 6),
     (s.PortRuns p.val → s.ptpOn p.val = true → s.canSend p.val = true ∨ s.loopedOut p.val = true →
       s.intervalOver TIME_MSG_INT_LOG_PDELAY (s.peer p.val).sentAt = true →
       exec (.pdelaySend p) s = .next (s.after (s.pdelaySend p.val)))
     ∧ (s.Live → s.sendsSync p.val = true →
       s.intervalOver TIME_MSG_INT_LOG_SYNC (Tbl.get (fun _ => 0) s.time.syncSent p.val) = true →
       exec (.syncSend p) s = .next (s.after (s.sendSync p.val)))
     ∧ (s.Live → s.sendsSync p.val = false →
       exec (.syncSend p) s = .next (s.after s) ∧ exec (.announceSend p) s = .next (s.after s))
     ∧ (∀ (d : PtpData), s.Live → s.roleTaken.announceData = some d → s.sendsSync p.val = true →
       s.intervalOver TIME_MSG_INT_LOG_ANNOUNCE (Tbl.get (fun _ => 0) s.time.annSent p.val) = true →
       exec (.announceSend p) s = .next (s.after (s.roleTaken.sendAnnounce p.val d))))
  ∧ (∀ (s : State), s.Clocked → s.Live →
       (let t := if s.annSilent s.time.extAt s.time.extLog = true then ({ s with time := { s.time with ext := none } } : State) else s
        (s.annSilent s.time.annAt s.time.annLog = false ∨ s.timeState = 4 → exec .announceTimeout s = .next (s.after t))
        ∧ (s.annSilent s.time.annAt s.time.annLog = true → s.timeState ≠ 4 →
          (let u : State := { t with time := { t.time with master := none } }
           (s.flag timeBase TIME_CTRL_ROLE = true → exec .announceTimeout s
             = .next (s.after (((u.gmChange u.clockId).set timeBase TIME_STAT_SYNC_PORT 3).setTimeState 4)))
           ∧ (s.flag timeBase TIME_CTRL_ROLE = false → exec .announceTimeout s = .next (s.after u)))))
       ∧ (∀ (p : Fin 2), s.get timeBase TIME_STAT_SYNC_PORT = p.val → s.syncFresh p.val = false → s.syncFresh (1 - p.val) = true →
         exec .syncTimeout s
           = .next (s.after ((s.set timeBase TIME_STAT_SYNC_PORT (1 - p.val)).bump timeBase TIME_PATH_SWITCH)))
       ∧ (∀ (p : Fin 2), s.get timeBase TIME_STAT_SYNC_PORT = p.val → s.syncFresh 0 = false → s.syncFresh 1 = false →
         s.timeState = 2 ∨ s.timeState = 1 →
         exec .syncTimeout s
           = .next (s.after (((s.bump timeBase TIME_SYNC_TMO).set timeBase TIME_STAT_SYNC_PORT 3).setTimeState
               (if s.timeState = 2 then 3 else 0))))
       ∧ (s.timeState = 3 → s.time.holdAt + s.get timeBase TIME_HOLD_MS * 1000000 ≤ s.uptime →
         exec .holdoverEnd s
           = .next (s.after (((s.setTimeState 0).evt timeBase TIME_EVT 4).raise .timeHoldoverEnd (srcIsland 2) 0
               (leBytes 4 ((s.uptime - s.time.holdAt) / 1000000)))))
       ∧ (s.time.slew = 0 → exec .slewDone s = .next (s.after { s with time := { s.time with slewing := false } }))
       ∧ (s.flag timeBase TIME_STAT_JUMP_REFUSED = true →
         exec .timeAcceptJump s
           = .next (s.after (({ s with time := { s.time with accept := true } } : State).set timeBase TIME_STAT_JUMP_REFUSED 0)))
       ∧ (s.flag timeBase TIME_STAT_JUMP_REFUSED = false → exec .timeAcceptJump s = .next (s.after s)))

/-- ACTION_FIRE and TSQ_POP (R234 to R236): the action that is due first makes its writes in order; a read of the whole front
entry gives it out and takes it from the queue. -/
def Obligations.ActionRows : Prop :=
  ∀ (s : State), s.Live →
    (∀ (id : BitVec 16) (i : Nat) (a : Action), (s.actionList.find? fun p => p.2.id == id.toNat) = some (i, a) →
      a.due ≤ s.ring → s.actionBefore a = false → a.late = false → a.validOnly = false →
      exec (.actionFire id) s
        = .next (s.after (((s.setAction i (a.next s.ring)).evt timeBase TIME_EVT 7).regWrites 2 a.writes)))
    ∧ (∀ (p : Fin 6) (who : Who),
      (let r := s.spaceRead (whoCode who) 0 (timePort p.val + 0x30) 16 (whoRing who)
       exec (.tsqPop p who) s = .next (s.after (r.2.2.emit (.readData r.1 r.2.1)))))

/-! ### Rows of the ledger, the image, the bridge, CAN, Flasks and discrete lines (chapters 9 to 13) -/

/-- The ledger's rows (R246 to R248, R251, R252, R255): a watermark frame is due in an Ordered context, a frame is taken, a
malformed one counted, the first held record leaves once every watermark has passed it, a gap held for the horizon is lost, a
subscription falls behind. The merge releases one record at a time, and only one that may leave (R251): a record whose stamp
a watermark does not yet reach stays held until the horizon expires. -/
def Obligations.LedgerRows : Prop :=
  (∀ (s : State), s.Live →
     (∀ (c : Fin 1024), s.flag ledgerBase LEDGER_CTRL_EN = true → (s.pubSources c.val).isEmpty = false →
       s.flag (ctxBase c.val) CTX_CTRL_FAST = false →
       Tbl.get (fun _ => 0) s.ledger.sentAt c.val + 1000 * clampNat 1 10 (s.get ledgerBase LEDGER_CFG_WM_INT_US)
         ≤ s.uptime + 1 →
       exec (.watermarkFrameSend c) s = .next (s.after (s.publish c.val [])))
     ∧ (∀ (c : Fin 1024), s.flag ledgerBase LEDGER_CTRL_EN = false ∨ s.pubSources c.val = [] ∨ s.flag (ctxBase c.val) CTX_CTRL_FAST = true →
       exec (.watermarkFrameSend c) s = .next (s.after s))
     ∧ (∀ (f : List Byte) (node : Nat) (b : List Byte), ledgerNode f = some node → s.ledgerBody f = some b →
       s.ledgerTakes node = true → bodyOk b = true → leAt b 0 1 % 16 = 0 → s.flag ledgerBase LEDGER_CTRL_EN = true →
       exec (.ledgerFrameRx f) s = .next (s.after (s.takeLedger b)))
     ∧ (∀ (f : List Byte) (node : Nat) (b : List Byte), ledgerNode f = some node → s.ledgerBody f = some b →
       s.ledgerTakes node = true → bodyOk b = false →
       exec (.ledgerFrameRx f) s = .next (s.after (s.bump ledgerBase LEDGER_BAD_FRAME)))
     ∧ (∀ (f : List Byte), ledgerNode f = none ∨ s.ledgerBody f = none →
       exec (.ledgerFrameRx f) s = .next (s.after s) ∧ exec (.imageFrameRx f) s = .next (s.after s))
     ∧ (s.ledger.hold = [] → exec .ledgerRelease s = .next (s.after s.subsSettle))
     ∧ (∀ (h : LRec × Nat × Nat), firstHeld s.ledger.hold = some h → (s.mayRelease h.1).1 = true →
       exec .ledgerRelease s = .next (s.after (s.releaseRec h).subsSettle))
     ∧ (∀ (h : LRec × Nat × Nat), firstHeld s.ledger.hold = some h → (s.mayRelease h.1).1 = false →
       (s.mayRelease h.1).2 = true →
       exec .ledgerRelease s = .next (s.after ((s.releaseRec h).bump ledgerBase LEDGER_FORCED).subsSettle))
     ∧ (∀ (i : Fin 256), s.subUsed i.val = true → s.lagging i.val = false → s.subWm i.val + s.horizon < s.storeNow →
       exec (.subscriptionLagging i) s
         = .next (s.after ((s.set (subBase i.val) SUB_CFG_LAGGING 1).evt ledgerBase LEDGER_EVT 4)))
     ∧ (∀ (i : Fin 256), ((s.sub i.val).ahead.find? fun a => decide (a.2.1 + s.horizon ≤ s.uptime)) = none →
       exec (.sseqGapExpire i) s = .next (s.after s))
     ∧ (∀ (i : Fin 256) (a : Nat × Nat × Nat),
       ((s.sub i.val).ahead.find? fun a => decide (a.2.1 + s.horizon ≤ s.uptime)) = some a →
       (let x := s.sub i.val
        let b := x.ahead.foldl (fun m b => if sseqAhead m.1 b.1 then b else m) a
        let n := (b.1 + 2 ^ 32 - x.next) % 2 ^ 32
        let r := advance x.ahead.length b.1 x.ahead
        let t := (s.bumpBy ledgerBase LEDGER_GAP n).remoteMarker i.val 2 b.2.2 n x.next
        exec (.sseqGapExpire i) s
          = .next (s.after ((t.setSub i.val { x with next := r.1, ahead := r.2, lost := x.lost ++ sseqRun x.next n }).settleWm
              i.val)))))
  ∧ (∀ (s : State) (h : LRec × Nat × Nat), firstHeld s.ledger.hold = some h →
       ((∃ i ∈ s.subsInUse, s.lagging i = false ∧ s.subHolds i h.1.stamp = true ∧ s.subWm i < h.1.stamp) →
         s.storeNow < h.1.stamp + s.horizon → s.releaseNext = s)
       ∧ ((∀ i ∈ s.subsInUse, s.lagging i = true ∨ s.subHolds i h.1.stamp = false ∨ h.1.stamp ≤ s.subWm i) →
         s.releaseNext = s.releaseRec h))

/-- The process image's rows (R262, R265, R266): a context's slots are published, an image frame is taken, a slot that is not
written for STALE_MS goes stale, the staged words are loaded, and a valid map entry is committed. -/
def Obligations.ImageRows : Prop :=
  ∀ (s : State), s.Live →
    (∀ (c : Fin 1024), s.flag pimgBase PIMG_CTRL_EN = true →
      exec (.pimgPublish c) s
        = .next (s.after ((groups21 ((s.pubSlots c.val).length + 1) (s.pubSlots c.val)).foldl
            (fun (s : State) g => s.imageFrame c.val g) s)))
    ∧ (∀ (f : List Byte) (node : Nat) (b : List Byte), ledgerNode f = some node → s.ledgerBody f = some b →
      s.ledgerTakes node = true → bodyOk b = true → leAt b 0 1 % 16 = 1 →
      exec (.imageFrameRx f) s = .next (s.after (s.takeImage b)))
    ∧ (∀ (n : Fin 16384), (s.slotMap n.val).staleMs ≠ 0 → max (s.slotMap n.val).wrote (s.slotMap n.val).setAt ≠ 0 →
      bitAt (s.slotStatus n.val) 2 = false →
      max (s.slotMap n.val).wrote (s.slotMap n.val).setAt + 1000000 * (s.slotMap n.val).staleMs ≤ s.uptime + 1 →
      exec (.slotStale n) s = .next (s.after (s.slotStale n.val)))
    ∧ (∀ (n : BitVec 14),
      (let t := s.fieldsWrite 2 (pimgBase + 8) (n.setWidth 32)
       let m := t.slotMap (t.get pimgBase PIMG_MAP_SEL_SLOT)
       exec (.pimgMapSelect n) s
         = .next (s.after ((((t.wr (pimgBase + 0x10) (BitVec.ofNat 32 m.w0)).wr (pimgBase + 0x14)
             (BitVec.ofNat 32 m.w1)).wr (pimgBase + 0x18) (BitVec.ofNat 32 m.w2)).wr (pimgBase + 0x1C)
               (BitVec.ofNat 32 m.w3)))))
    ∧ (∀ (w : Word),
      (let t := s.fieldsWrite 2 (pimgBase + 0x1C) w
       let n := t.get pimgBase PIMG_MAP_SEL_SLOT
       let m := t.stagedMap
       exec (.pimgMapCommit w) s
         = .next (s.after (if t.mapValid m.1 m.2.1 m.2.2.1 m.2.2.2 then t.slotMapSet n m.1 m.2.1 m.2.2.1 m.2.2.2
             else t.raise .pimgMapBad (srcIsland 1) 0 (leBytes 2 n)))))

/-- xSPI transactions (R273, R275 to R278, Table 10.2): a status read, a write posted, a read or a CAS of a good shape looked up
among the Ladles, and what a malformed one leaves. The bridge's own work (R273, R280, R281, R282, R286): the write at the
front of the queue is issued, a local fetch is served, and a READY Ladle that nobody collects ends: read-sensitive data is
salvaged, a prefetched one freed, another freed and counted. -/
def Obligations.BridgeRows : Prop :=
  (∀ (s : State) (t : XspiTx), s.Live → s.hostDown = false → t.opcodeOk = true →
     let len := t.len.toNat
     let u := s.bump bridgeBase BRIDGE_XSPI_RD
     (∀ (code : Nat), xspiShape len false = some code →
       exec (.xspiRead t) s = .next (s.after (u.xspiAnswer false false code [] t.clocked)))
     ∧ (∀ (code : Nat), xspiShape len true = some code →
       exec (.xspiCas t) s = .next (s.after (u.xspiAnswer false false code [] t.clocked)))
     ∧ (xspiShape len false = none →
       exec (.xspiRead t) s = .next (s.after (u.xspiFind t.addr.toNat len [] t.clocked)))
     ∧ (xspiShape len true = none →
       exec (.xspiCas t) s
         = .next (s.after (u.xspiFind t.addr.toNat len (t.data.take len ++ t.swap.take len) t.clocked)))
     ∧ (len ≠ 0 → len ≤ 256 → len ≤ t.data.length → s.bridge.writes.length < 64 →
       exec (.xspiWrite t) s
         = .next (s.after ((s.postWrite 0 t.addr.toNat (t.data.take len)).bump bridgeBase BRIDGE_XSPI_WR)))
     ∧ (len ≠ 0 → len ≤ 256 → len ≤ t.data.length → 64 ≤ s.bridge.writes.length →
       exec (.xspiWrite t) s
         = .next (s.after (((s.bump bridgeBase BRIDGE_WQ_DROP).evt bridgeBase BRIDGE_EVT 1).raise .bridgeWqDrop (srcIsland 21)
             (s.faultAddr t.addr.toNat) (leBytes 1 0))))
     ∧ (len = 0 ∨ 256 < len → exec (.xspiWrite t) s = .next (s.after (s.bump bridgeBase BRIDGE_XSPI_BADCMD)))
     ∧ (len ≠ 0 → len ≤ 256 → t.data.length < len →
       exec (.xspiWrite t) s = .next (s.after (s.bump bridgeBase BRIDGE_XSPI_SHORT)))
     ∧ exec .xspiStatus s
       = .next (s.after (s.emit (.xspiData (s.statusByte false false 0)
           (leBytes 1 (64 - s.bridge.writes.length) ++ leBytes 1 (s.ladlesFree 0).length
             ++ leBytes 1 ((List.range 8).filter fun k => (s.salv k).held && (s.salv k).init == 0).length
             ++ leBytes 1 s.hirqs)))))
  ∧ (∀ (s : State), s.Live →
       (∀ (w : PostedWrite) (rest : List PostedWrite), s.bridge.writes = w :: rest →
         exec .postedWriteIssue s
           = .next (s.after ((({ s with bridge := { s.bridge with writes := rest } } : State).localWrite w.init w.addr
               w.data).writeGone w)))
       ∧ (∀ (l : Fin 32), (let x := s.ladle l.val
          x.st = .fetching → x.sent = false → x.after = 0 → s.isLocal x.addr = true →
          spaceOf x.addr ≠ 0 ∨ s.regGated (offsetOf x.addr) = false →
          (let r := if x.cas = [] then s.spaceRead x.init (spaceOf x.addr) (offsetOf x.addr) x.len false
             else s.spaceCas (spaceOf x.addr) (offsetOf x.addr) x.cas
           let t := r.2.2.ladleReady l.val r.1 r.2.1
           (x.gone = false → exec (.ladleFetchDone l) s = .next (s.after t))
           ∧ (x.gone = true → exec (.ladleFetchDone l) s
             = .next (s.after (if x.sensitive = true then t.ladleSalvage l.val else t.ladleFree l.val))))))
       ∧ (∀ (l : Fin 32), (s.ladle l.val).st = .ready →
         (s.ladle l.val).readyAt + 1000 * s.get bridgeBase BRIDGE_DISCARD_US ≤ s.uptime → s.collectComes l.val = false →
         ((s.ladle l.val).sensitive = true → exec (.ladleDiscard l) s = .next (s.after (s.ladleSalvage l.val)))
         ∧ ((s.ladle l.val).sensitive = false → (s.ladle l.val).prefetched = true →
           exec (.ladleDiscard l) s = .next (s.after (s.ladleFree l.val)))
         ∧ ((s.ladle l.val).sensitive = false → (s.ladle l.val).prefetched = false →
           exec (.ladleDiscard l) s
             = .next (s.after (((s.ladleFree l.val).bump bridgeBase BRIDGE_DISCARDS).evt bridgeBase BRIDGE_EVT 2)))))

/-- The bus of a CAN controller (R304 to R306, R308, R313, R317, R319 to R321): a frame of the bus is counted, filtered and ends;
an own frame starts from the pending buffer that goes first, completes or loses arbitration; an error is counted; the
controller joins, leaves and recovers; on a fenced island none of these does anything. -/
def Obligations.CanBusRows : Prop :=
  ∀ (s : State) (c : Fin 64), s.Live → c.val < s.nCan →
    let n := c.val
    let b := canBase n
    let x := s.can n
    exec (.canLagFall c) s
      = .next (s.after ((s.setCan n { x with lagFalls := (lagFall s.uptime (s.lag (0x10 + n)) x.lagFalls).2 }).setLag
          (0x10 + n) (lagFall s.uptime (s.lag (0x10 + n)) x.lagFalls).1))
    ∧ (s.fenced (.canIsl (n / 16)) = true →
      ∀ (f : CanRx) (e : CanErr) (k : Fin 32) (m : Fin 16) (i : Instr),
        i ∈ [.canFrameRx c f, .canTxComplete c, .canArbLost c, .canError c e, .canRecoveryDone c, .canIntegrationDone c,
             .canCloseDone c, .canTtInstant c k, .canSettleEnd c, .trefInstant c, .canTxmapPeriod c m, .canStartOfFrame c] →
        exec i s = .next (s.after s))
    ∧ (s.fenced (.canIsl (n / 16)) = false →
    (∀ (f : CanRx), s.canOpen n = true ∨ x.closing = true → s.flag b CAN_STAT_INTEGRATING = false → s.get b CAN_STAT_ESTATE ≠ 2 →
      s.canMode n ≠ 2 → x.active = none →
      exec (.canFrameRx c f) s = .next (s.after ((((if bitAt (s.get b CAN_CTRL_FMT) f.fmt.val then s.ecntReceived n else s).canReceive n f
        (canGrain (if s.flag b CAN_CTRL_STAMP_AT then s.canNow n else s.canNow n - f.age))).frameOver n))))
    ∧ (∀ (f : CanRx), (s.canOpen n = false ∧ x.closing = false) ∨ s.flag b CAN_STAT_INTEGRATING = true
        ∨ s.get b CAN_STAT_ESTATE = 2 ∨ s.canMode n = 2 ∨ x.active.isSome = true →
      exec (.canFrameRx c f) s = .next (s.after s))
    ∧ (s.mayTransmit n = false ∨ x.tref = none ∧ s.pendingBuf n = none → exec (.canStartOfFrame c) s = .next (s.after s))
    ∧ (∀ (i : Nat), s.mayTransmit n = true → x.tref = none → s.pendingBuf n = some i →
      (let t := (s.setCan n { x with active := some i, sof := canGrain (s.canNow n) }).set (txbBase n i) CAN_TXB_STAT_STATE 3
       exec (.canStartOfFrame c) s
         = .next (s.after ((t.set b CAN_STAT_TX_ACTIVE 1).emit (.canFrame n (canWire (s.txFrame n i)))))))
    ∧ (∀ (m : TrefMsg), s.mayTransmit n = true → x.tref = some m →
      (let t := s.setCan n { x with tref := none, trefBus := some m, active := some 32, sof := canGrain (s.canNow n) }
       exec (.canStartOfFrame c) s
         = .next (s.after ((t.set b CAN_STAT_TX_ACTIVE 1).emit (.canFrame n (canWire (s.trefFrame n m)))))))
    ∧ (∀ (i : Nat), x.active = some i → i < 32 →
      (let stamp := if s.flag b CAN_CTRL_STAMP_AT then canGrain (s.canNow n) else x.sof
       let t := ((s.bump b CAN_TX_FRAMES).ecntSent n).set (txbBase n i) CAN_TXB_STAMP_STAMP (shortStamp stamp)
       let t := (if t.flag b CAN_CTRL_TX_LEDGER then t.canRecord n 3 (s.txFrame n i) stamp i else t).txbEnd n i 1
       exec (.canTxComplete c) s
         = .next (s.after (((if t.canMode n = 2 ∨ t.canMode n = 3 then t.canReceive n (s.txFrame n i) stamp else t).frameOver n).txMapsAfter n))))
    ∧ (∀ (m : TrefMsg), x.active = some 32 → x.trefBus = some m →
      (let stamp := if s.flag b CAN_CTRL_STAMP_AT then canGrain (s.canNow n) else x.sof
       let t := ((s.bump b CAN_TX_FRAMES).ecntSent n).trefSent n
       exec (.canTxComplete c) s
         = .next (s.after (((if t.canMode n = 2 ∨ t.canMode n = 3 then t.canReceive n (s.trefFrame n m) stamp else t).frameOver n).txMapsAfter n))))
    ∧ (x.active = none → exec (.canTxComplete c) s = .next (s.after s) ∧ exec (.canArbLost c) s = .next (s.after s))
    ∧ (∀ (i : Nat), x.active = some i →
      (let t := (s.bump b CAN_ARB_LOST).txFailed n 3
       let t := t.setCan n { t.can n with active := none, trefBus := none }
       exec (.canArbLost c) s
         = .next (s.after (((t.set b CAN_STAT_TX_ACTIVE 0).set b CAN_STAT_RX_ACTIVE 1).txMapsAfter n))))
    ∧ (∀ (e : CanErr), s.canOpen n = true ∨ x.closing = true → s.flag b CAN_STAT_INTEGRATING = false → s.get b CAN_STAT_ESTATE ≠ 2 →
      exec (.canError c e) s = .next (s.after (((
        (if x.active.isSome then (s.bump b (errCounter e.kind.val)).ecntAdd n (if e.exempt then e.plus8 * 8 else 8 + e.plus8 * 8) 0
         else (s.bump b (errCounter e.kind.val)).ecntAdd n 0 (1 + e.plus8 * 8)).txFailed n 4).frameOver n).txMapsAfter n)))
    ∧ (s.flag b CAN_STAT_RECOVERING = true →
      exec (.canRecoveryDone c) s = .next (s.after (((((s.set b CAN_STAT_RECOVERING 0).set b CAN_ECNT_TEC 0).set b
        CAN_ECNT_REC 0)).setEstate n 0)))
    ∧ (s.canOpen n = true → exec (.canIntegrationDone c) s = .next (s.after (s.set b CAN_STAT_INTEGRATING 0)))
    ∧ (x.closing = true → x.active = none → exec (.canCloseDone c) s = .next (s.after (s.frameOver n)))
    ∧ (∀ (i : Fin 32), s.txbState n i.val = 1 → s.txbAt n i.val ≤ s.canNow n → s.canHeld n = false →
      s.get b CAN_STAT_ESTATE ≠ 2 →
      exec (.canTtInstant c i) s = .next (s.after (s.set (txbBase n i.val) CAN_TXB_STAT_STATE 2)))
    ∧ (∀ (i : Fin 32), s.txbState n i.val = 1 → s.txbAt n i.val ≤ s.canNow n → s.canHeld n = true ∨ s.get b CAN_STAT_ESTATE = 2 →
      exec (.canTtInstant c i) s
        = .next (s.after ((s.set (txbBase n i.val) CAN_TXB_STAT_STATE 2).set (txbBase n i.val) CAN_TXB_STAT_TT_LATE 1)))
    ∧ (s.canWantsHeld n = s.canHeld n ∨ s.canWantsHeld n = true ∧ s.canBusy n = true →
      exec (.canSettleEnd c) s = .next (s.after s))
    ∧ (s.canWantsHeld n ≠ s.canHeld n → s.canWantsHeld n = false ∨ s.canBusy n = false →
      exec (.canSettleEnd c) s
        = .next (s.after ((s.set b CAN_STAT_HELD (b2n (s.canWantsHeld n))).evt b CAN_EVT 7)))
    ∧ (s.flag b CAN_TREF_CTRL_EN = true → x.trefIdx < s.canNow n / s.trefPeriod n →
      (let i := s.canNow n / s.trefPeriod n
       let m : TrefMsg := { cycle := s.get b CAN_TREF_CYCLE_CYCLE, at_ := i * s.trefPeriod n, first := x.first }
       let t := if x.tref.isSome then ((s.bump b CAN_TREF_MISS).evt b CAN_EVT 6).trefEnd n 2 else s
       exec (.trefInstant c) s
         = .next (s.after ((t.setCan n { t.can n with tref := some m, first := false, trefIdx := i }).set b CAN_TREF_CYCLE_CYCLE
             (s.get b CAN_TREF_CYCLE_CYCLE + 1)))))
    ∧ (∀ (m : Fin 16), s.flag (txmapBase n m.val) CAN_TXMAP0_EN = true →
      s.flag (txmapBase n m.val) CAN_TXMAP1_MODE = true →
      Tbl.get (fun _ => 0) x.mapIdx m.val < s.canNow n / s.txMapPeriod n m.val →
      (let t := s.setCan n { x with mapIdx := Tbl.put (fun _ => 0) x.mapIdx m.val (s.canNow n / s.txMapPeriod n m.val) }
       (t.txMapSlot n m.val = none → exec (.canTxmapPeriod c m) s = .next (s.after t))
       ∧ (∀ (slot : Nat), t.txMapSlot n m.val = some slot →
         (t.txbBusy n (t.get (txmapBase n m.val) CAN_TXMAP0_BUF) = false →
           exec (.canTxmapPeriod c m) s = .next (s.after (t.txTake n m.val slot)))
         ∧ (t.txbBusy n (t.get (txmapBase n m.val) CAN_TXMAP0_BUF) = true →
           exec (.canTxmapPeriod c m) s = .next (s.after (t.bump b CAN_TX_REFUSED)))))))

/-- The CAN rows that are one register write by the hub (R304, R305, R308, R312, R318, R322, R324): on a present and unfenced
controller, awake from there on, each takes effect as the register's block defines; on a fenced one it is counted as dropped.
Opening and closing (R304, R305, R308): a controller opened joins the bus with its error counters at 0 and its receive queue
empty; closing an idle one cancels its waiting and pending buffers at once, and a busy one runs its frame to the end first; a
cancel of a frame on the bus is only marked late. -/
def Obligations.CanWriteRows : Prop :=
  (∀ (s : State) (c : Fin 64), s.Live → c.val < s.nCan →
     let n := c.val
     let b := canBase n
     let u := s.wakeFor b
     (s.fenced (.canIsl (n / 16)) = false →
       exec (.canEnOpen c) s = .next (s.after (u.writeCanCtrl 2 n b (s.rd b ||| 1#32)))
       ∧ exec (.canEnClose c) s = .next (s.after (u.writeCanCtrl 2 n b (s.rd b &&& 0xFFFFFFFE#32)))
       ∧ exec (.canRecover c) s = .next (s.after (u.writeCanCtrl 2 n b (s.rd b ||| 0x100#32)))
       ∧ (∀ (i : Fin 32), i.val < u.canTxn n → u.txbBusy n i.val = false →
         exec (.canTxbSubmit c i) s = .next (s.after ((u.txSubmit n i.val).txMapsAfter n)))
       ∧ (∀ (i : Fin 32), i.val < u.canTxn n → u.txbBusy n i.val = true →
         exec (.canTxbSubmit c i) s = .next (s.after ((u.bump b CAN_TX_REFUSED).txMapsAfter n)))
       ∧ (∀ (i : Fin 32), u.canTxn n ≤ i.val →
         exec (.canTxbSubmit c i) s = .next (s.after u) ∧ exec (.canTxbCancel c i) s = .next (s.after u))
       ∧ (∀ (i : Fin 32), i.val < u.canTxn n →
         exec (.canTxbCancel c i) s = .next (s.after ((u.txCancel n i.val).2.txMapsAfter n)))
       ∧ (∀ (cmd : Word), exec (.canFltCopy c cmd) s = .next (s.after (u.fltCopy n cmd)))
       ∧ exec (.canTrefEnable c) s
           = .next (s.after ((u.fieldsTake 2 (b + 0x30) (putBits (s.rd (b + 0x30) ||| 1#32) 0 1 (u.get b CAN_TREF_CTRL_EN))
               (s.rd (b + 0x30) ||| 1#32)).trefStart n)))
     ∧ (s.fenced (.canIsl (n / 16)) = true →
       ∀ (k : Fin 32) (w : Word) (i : Instr),
         i ∈ [.canEnOpen c, .canEnClose c, .canRecover c, .canTxbSubmit c k, .canTxbCancel c k, .canFltCopy c w, .canTrefEnable c] →
         exec i s = .next (s.after (s.bump 0 SYS_FENCE_WDROP))))
  ∧ (∀ (s : State) (n : Nat), n < 64 →
       (s.canOpen n = true → s.openDo n = s)
       ∧ (s.canFits n = false → s.openDo n = s)
       ∧ (s.canOpen n = false → s.closeBegin n = s)
       ∧ (s.canOpen n = true → s.canBusy n = false →
         (s.set (canBase n) CAN_CTRL_EN 0).canBusy n = false →
         s.closeBegin n = (s.set (canBase n) CAN_CTRL_EN 0).closeFinish n)
       ∧ (∀ b, s.txbState n b = 3 → s.txCancel n b = (1, s.set (txbBase n b) CAN_TXB_STAT_CANCEL_LATE 1))
       ∧ (∀ b, s.txbState n b = 2 → s.txCancel n b = (0, s.txbEnd n b 2))
       ∧ (∀ b, s.txbState n b = 0 ∨ s.txbState n b = 4 → s.txCancel n b = (2, s)))

/-- The instructions of a Pattern (Table 12.2, R335, R336, R339 to R343): what one engine cycle comes to in each. The next
address is the one after, or LOW after HIGH; a jump outside the program is a bad jump; a stalled instruction stays. The
arithmetic of ALU (Table 12.2): the eight operations modulo 2^32, on an immediate or on another work register. -/
def Obligations.FlaskInstructions : Prop :=
  (∀ (s : State) (f e : Fin 8) (x : FlaskIn), s.Live → f.val < s.nFlask → (s.eng f.val e.val).running = true →
     (s.eng f.val e.val).stopReq = none → s.fenced (.flask f.val) = false → x.flipped = false →
     let k := ecBase f.val e.val
     let pc := s.pc f.val e.val
     let w := Tbl.get (fun _ => 0) (s.flask f.val).pmem pc
     let t := (s.clashCount f.val).setFlask f.val { (s.clashCount f.val).flask f.val with pads := x.pins.toNat }
     let stall (n : Nat) : State := s.after (t.set k EC_STAT_STALL_KIND n)
     let next (u : State) : State := s.after
       (u.engAt f.val e.val (if pc = u.get k EC_PROG_HIGH then u.get k EC_PROG_LOW else (pc + 1) % 1024))
     let jump (a : Nat) (u : State) : State := s.after
       (if a < u.get k EC_PROG_LOW ∨ u.get k EC_PROG_HIGH < a then u.badJump f.val e.val a else u.engAt f.val e.val a)
     (flaskOp w = 0x00 → exec (.flaskGo f e x) s = .next (jump (fw w 0 10) t))
     ∧ (flaskOp w = 0x01 → exec (.flaskIf f e x) s
         = .next (if t.flaskCond f.val e.val (fw w 23 4) (fw w 20 3) then jump (fw w 0 10) t else next t))
     ∧ (flaskOp w = 0x02 →
         let fld := if fw w 20 1 = 0 then EC_K_K0 else EC_K_K1
         exec (.flaskLoop f e x) s
           = .next (if 0 < t.get k fld then jump (fw w 0 10) (t.set k fld (t.get k fld - 1)) else next t))
     ∧ (flaskOp w = 0x03 → exec (.flaskSetk f e x) s
         = .next (next (t.set k (if fw w 20 1 = 0 then EC_K_K0 else EC_K_K1) (fw w 0 16))))
     ∧ (flaskOp w = 0x04 → exec (.flaskHold f e x) s
         = .next (if t.laneLevel f.val e.val (fw w 20 3) == (fw w 24 1 == 1) then next t else stall 1))
     ∧ (flaskOp w = 0x05 → exec (.flaskDrive f e x) s = .next (next (t.flaskDrive f.val e.val w)))
     ∧ (flaskOp w = 0x06 →
         let ks := setBitsOf (fw w 16 8) 8
         let r := t.txBitsTake f.val e.val ks.length
         exec (.flaskSend f e x) s = .next (if t.txBits f.val e.val < ks.length then stall 2
           else next (r.2.set k EC_LSTATE_LATCH (putLanes (r.2.get k EC_LSTATE_LATCH) ks r.1))))
     ∧ (flaskOp w = 0x07 →
         let bs := (setBitsOf (fw w 16 8) 8).map (t.laneLevel f.val e.val)
         exec (.flaskTake f e x) s
           = .next (if 32 ≤ t.get k EC_STAT_RAN + bs.length ∧ t.rxStalls f.val e.val = true then stall 3
               else next (t.rxBits f.val e.val bs)))
     ∧ (flaskOp w = 0x08 →
         let r := t.txBitsTake f.val e.val (fw w 0 6)
         exec (.flaskDraw f e x) s = .next (if t.txBits f.val e.val < fw w 0 6 then stall 2
           else next (r.2.setWreg f.val e.val (fw w 20 2) (bitsValue (t.flag k EC_STREAM_TX_LSB) r.1))))
     ∧ (flaskOp w = 0x09 →
         let v := if fw w 20 3 < 4 then t.wreg f.val e.val (fw w 20 3) else if fw w 20 3 = 4 then 0 else 2 ^ 32 - 1
         let bs := valueBits (t.flag k EC_STREAM_RX_LSB) (fw w 0 6) v
         exec (.flaskFeed f e x) s
           = .next (if 32 ≤ t.get k EC_STAT_RAN + bs.length ∧ t.rxStalls f.val e.val = true then stall 3
               else next (t.rxBits f.val e.val bs)))
     ∧ (flaskOp w = 0x0A → exec (.flaskSeal f e x) s
         = .next (if t.get k EC_STAT_RAN = 0 then next t else if t.rxStalls f.val e.val = true then stall 3
             else next (((t.rxPlace f.val e.val (t.rd (k + 0x2C)).toNat).wr (k + 0x2C) 0#32).set k EC_STAT_RAN 0)))
     ∧ (flaskOp w = 0x0B → exec (.flaskDrop f e x) s = .next (next (t.set k EC_STAT_TDN 0)))
     ∧ (flaskOp w = 0x0C → exec (.flaskLoadImm f e x) s = .next (next (t.setWreg f.val e.val (fw w 20 2) (fw w 0 20))))
     ∧ (flaskOp w = 0x0D → exec (.flaskAlu f e x) s = .next (next (t.flaskAlu f.val e.val w)))
     ∧ (flaskOp w = 0x0E → exec (.flaskPins f e x) s = .next (next (t.setWreg f.val e.val (fw w 20 2) (t.pinLevels f.val))))
     ∧ (flaskOp w = 0x0F → exec (.flaskStamp f e x) s
         = .next (if fw w 24 1 = 0 then next (t.setWreg f.val e.val (fw w 20 2) (shortStamp (t.flaskNow f.val)))
             else if t.rxStalls f.val e.val = true then stall 3
             else next (t.rxPlace f.val e.val (shortStamp (t.flaskNow f.val)))))
     ∧ (flaskOp w = 0x10 →
         let past := (2 * shortStamp (t.flaskNow f.val) + 2 ^ 33 - 2 * t.wreg f.val e.val (fw w 20 2)) % 2 ^ 33
         let c := 5 * (t.get k EC_CLK_DIV + 1)
         exec (.flaskAt f e x) s
           = .next (if 2 ^ 32 ≤ (past + c) % 2 ^ 33 then stall 4
               else if c < past ∧ past < 2 ^ 32 then
                 next ((t.bump (ecCnt f.val e.val) EC_AT_LATE).evt (flaskBase f.val) FLASK_EVT 21)
               else next t))
     ∧ (flaskOp w = 0x11 →
         let i := fw w 0 3
         exec (.flaskTally f e x) s
           = .next (if fw w 24 2 = 0 then
                 next (if 4 ≤ i then (t.tallyPost f.val i).evt (flaskBase f.val) FLASK_EVT (12 + i) else t.tallyPost f.val i)
               else if fw w 24 2 = 1 then
                 (if t.tally f.val i = 0 then stall 5 else next (t.setTally f.val i (t.tally f.val i - 1)))
               else next (t.setTally f.val i 0)))
     ∧ (flaskOp w = 0x12 → exec (.flaskGoi f e x) s
         = .next (jump (t.wreg f.val e.val (fw w 20 2) % 1024) t)))
  ∧ (∀ (s : State) (f e w : Nat),
       let d := fw w 20 2
       let a := BitVec.ofNat 32 (s.wreg f e d)
       let v := BitVec.ofNat 32 (if fw w 23 1 = 1 then fw w 0 16 else s.wreg f e (fw w 18 2))
       (s.flaskAlu f e w).wreg f e d = (match fw w 24 3 with
         | 0 => a + v | 1 => a - v | 2 => a &&& v | 3 => a ||| v | 4 => a ^^^ v | 5 => v
         | 6 => a <<< (v.toNat % 32) | _ => a >>> (v.toNat % 32)).toNat
       ∧ (∀ n, n < 4 → n ≠ d → (s.flaskAlu f e w).wreg f e n = s.wreg f e n)
       ∧ (s.flaskAlu f e w).mem = s.mem)

/-- A Flask's control rows (R340, R343, R344, R346 to R349): engines start and stop, a word of bad parity is recorded, the queues
and tallies take a write by the hub, and a Pattern load commits. -/
def Obligations.FlaskControlRows : Prop :=
  ∀ (s : State) (f : Fin 8), s.Live → f.val < s.nFlask →
    let b := flaskBase f.val
    let u := s.wakeFor b
    (let u := s.clashCount f.val
     exec (.engineArmedStart f) s
       = .next (s.after (u.each ((List.range 8).filter fun e =>
           match (u.eng f.val e).armed with | some a => decide (a ≤ u.flaskNow f.val) | none => false)
             fun s e => s.engRun f.val e)))
    ∧ (∀ (e : Fin 8) (safe : Bool), (s.eng f.val e.val).stopReq = some safe → (s.eng f.val e.val).running = true →
      (let t := (s.clashCount f.val).engHalt f.val e.val 1
       exec (.engineStopTaken f e) s
         = .next (s.after (((if safe then t.engSafe f.val e.val else t).driveKeep f.val).stopWake f.val))))
    ∧ (∀ (i : Instr) (e : Fin 8) (x : FlaskIn), i ∈ [.flaskGo f e x, .flaskIf f e x, .flaskLoop f e x, .flaskSetk f e x,
        .flaskHold f e x, .flaskDrive f e x, .flaskSend f e x, .flaskTake f e x, .flaskDraw f e x, .flaskFeed f e x,
        .flaskSeal f e x, .flaskDrop f e x, .flaskLoadImm f e x, .flaskAlu f e x, .flaskPins f e x, .flaskStamp f e x,
        .flaskAt f e x, .flaskTally f e x, .flaskGoi f e x] →
      (s.eng f.val e.val).running = true → (s.eng f.val e.val).stopReq = none → s.fenced (.flask f.val) = false →
      x.flipped = true →
      exec i s = .next (s.after (s.raise .flaskPmemParity (srcIsland (8 + f.val)) 0 (leBytes 2 (s.pc f.val e.val)))))
    ∧ (s.fenced (.flask f.val) = false →
      (∀ (m : BitVec 8), exec (.flaskGoStart f m) s
        = .next (s.after (((u.engStop f.val 0 false)).engStart f.val m.toNat false none)))
      ∧ (∀ (m : BitVec 8), exec (.flaskGoStop f m) s
        = .next (s.after ((u.engStop f.val m.toNat false).engStart f.val 0 false none)))
      ∧ (∀ (e : Fin 8) (w : Word), u.flag (ecBase f.val e.val) EC_STREAM_TXSRC = false →
        (u.eng f.val e.val).txq.length < u.txCap f.val e.val →
        exec (.flaskTxqPush f e w) s = .next (s.after
          (u.setEng f.val e.val { u.eng f.val e.val with txq := (u.eng f.val e.val).txq ++ [w.toNat] })))
      ∧ (∀ (e : Fin 8) (w : Word), u.flag (ecBase f.val e.val) EC_STREAM_TXSRC = true
          ∨ u.txCap f.val e.val ≤ (u.eng f.val e.val).txq.length →
        exec (.flaskTxqPush f e w) s = .next (s.after ((u.bump (ecCnt f.val e.val) EC_TXQ_DROP).evt b FLASK_EVT 22)))
      ∧ (∀ (m : BitVec 8), exec (.flaskTallyPost f m) s
        = .next (s.after (u.each (setBitsOf m.toNat 8) fun s t => s.tallyPost f.val t)))
      ∧ (∀ (m : BitVec 8), exec (.flaskTallyClr f m) s
        = .next (s.after (u.each (setBitsOf m.toNat 8) fun s t => s.setTally f.val t 0)))
      ∧ (∀ (cmd : Word) (l : PLoad), cmd.getLsbD 31 = true → u.flag b FLASK_PLOAD_STAT_BUSY = false →
        u.loadCheck f.val (cmd.getLsbD 24) (u.get b FLASK_PLOAD_SRC_OFFSET) (bitsOf cmd 0 10) (bitsOf cmd 16 8)
          (cmd.getLsbD 25) (cmd.getLsbD 26) false = .inr l →
        exec (.flaskPload f cmd) s = .next (s.after ((u.setFlask f.val
          { u.flask f.val with loads := (u.flask f.val).loads ++ [l] }).set b FLASK_PLOAD_STAT_BUSY 1)))
      ∧ (∀ (cmd : Word) (r : Nat), cmd.getLsbD 31 = true → u.flag b FLASK_PLOAD_STAT_BUSY = false →
        u.loadCheck f.val (cmd.getLsbD 24) (u.get b FLASK_PLOAD_SRC_OFFSET) (bitsOf cmd 0 10) (bitsOf cmd 16 8)
          (cmd.getLsbD 25) (cmd.getLsbD 26) false = .inl r →
        exec (.flaskPload f cmd) s = .next (s.after (u.set b FLASK_PLOAD_STAT_RESULT r))))
    ∧ ((s.flask f.val).loads = [] → exec (.patternLoadCommit f) s = .next (s.after s))
    ∧ (∀ (l : PLoad) (rest : List PLoad), (s.flask f.val).loads = l :: rest →
      (let t := s.setFlask f.val { s.flask f.val with loads := rest }
       let t := if l.byCmd = true then t else t.set b FLASK_PLOAD_STAT_BUSY 0
       let n := leAt l.image 6 2
       (t.loadBlocked f.val l.mask l.dest n = true → exec (.patternLoadCommit f) s
         = .next (s.after (if l.byCmd = true then t.wake 0x0800 f.val 0 0x31 [] else t.set b FLASK_PLOAD_STAT_RESULT 2)))
       ∧ (t.loadBlocked f.val l.mask l.dest n = false →
         (let t := t.pmemPut f.val l.dest ((patWords l.image).map (relocate l.dest))
          let t := ((t.each (setBitsOf l.mask 8) fun s e => s.loadEngine f.val e l).driveKeep f.val).bump b FLASK_LOADS
          exec (.patternLoadCommit f) s
            = .next (s.after (if l.byCmd = true then
                t.wake 0x0800 f.val 0 0 (leBytes 2 n ++ leBytes 2 (leAt l.image 8 2 + l.dest))
              else t.set b FLASK_PLOAD_STAT_RESULT 1))))))

/-- The rows of the discrete lines (R357 to R360, R363 to R365, R367, R368): a pad crosses and its filter decides, an immediate
write reaches the latches, an entry is scheduled or refused and fires, a driven pad that reads back wrong is counted and
reported, and a generator starts its period, with the values committed before it, and ends its on-time. The latches (R363,
R368): an immediate write of a line of the part sets its latch, or inverts it; on a safety-designated line nothing is written
but the discard's record. -/
def Obligations.DioRows : Prop :=
  (∀ (s : State), s.Live →
     (∀ (j : Fin 192) (level : Bool), j.val < s.nDio →
       (let t := s.setLine j.val { s.line j.val with pad := level }
        exec (.dioCrossing j level) s
          = .next (s.after (if t.fenced (.dioBank (j.val / 64)) then t else t.lineSees j.val))))
     ∧ (∀ (j : Fin 192) (x : Transition), j.val < s.nDio → (s.line j.val).trans = some x → x.began + x.time ≤ s.uptime →
       exec (.dioFilterDecide j) s
         = .next (s.after (if s.lineLevel j.val = x.level then s.lineAccept j.val x else s.lineReject j.val)))
     ∧ (∀ (j : Fin 192), j.val < s.nDio → (s.line j.val).trans = none → exec (.dioFilterDecide j) s = .next (s.after s))
     ∧ (∀ (j : Fin 192) (v : Bool), j.val < s.nDio → s.fenced (.dioBank (j.val / 64)) = false →
       s.lineDrive j.val = some v → (s.line j.val).pad = !v →
       (let b := j.val / 64
        let t := (s.bump (dioBase b) DIO_READBACK_ERR).evt (dioBase b) DIO_EVT 4
        let d := leBytes 1 (b2n v) ++ leBytes 1 (b2n !v)
        (t.lineSafety j.val = true →
          exec (.dioReadbackMismatch j) s = .next (s.after (t.raiseAs .safety .dioReadback (srcLine j.val) 0 d)))
        ∧ (t.lineSafety j.val = false → t.mayReport (t.bank b).rbAt = true →
          exec (.dioReadbackMismatch j) s
            = .next (s.after ((t.setBank b { t.bank b with rbAt := some t.uptime }).raiseAs .note .dioReadback (srcLine j.val) 0 d)))
        ∧ (t.lineSafety j.val = false → t.mayReport (t.bank b).rbAt = false →
          exec (.dioReadbackMismatch j) s = .next (s.after t))))
     ∧ (∀ (j : Fin 192), j.val < s.nDio → s.fenced (.dioBank (j.val / 64)) = false →
       s.lineDrive j.val = none ∨ s.lineDrive j.val = some (s.line j.val).pad →
       exec (.dioReadbackMismatch j) s = .next (s.after s))
     ∧ (∀ (b : Fin 3), 64 * b.val < s.nDio →
       let k := b.val
       let u := s.wakeFor (dioBase k)
       (let r := lagFall s.uptime (s.lag k) (s.bank k).lagFalls
        exec (.dioLagFall b) s
          = .next (s.after ((s.setBank k { s.bank k with lagFalls := r.2 }).setLag k r.1)))
       ∧ (∀ (e : DioEntry), firstEntry (s.bank k).sched = some e → e.at_ ≤ s.dioNow k →
         exec (.dioSchedFire b) s = .next (s.after (s.entryFire k e)))
       ∧ (∀ (g : Fin 16), s.flag (pwmBase k g.val) DIO_PWM_CTRL_EN = true → s.genIndex k g.val ≠ (s.gen k g.val).last →
         (let t := match (s.gen k g.val).pend with
            | some (p, on, ph, at_) => if at_ < s.uptime then s.genTake k g.val (p, on, ph) else s
            | none => s
          let y : PwmGen := { t.gen k g.val with last := t.genIndex k g.val, startAt := t.dioNow k,
                                                 out := decide (0 < (t.gen k g.val).on) }
          exec (.pwmPeriodStart b g) s = .next (s.after (t.setGen k g.val y))))
       ∧ (∀ (g : Fin 16), s.flag (pwmBase k g.val) DIO_PWM_CTRL_EN = false →
         exec (.pwmPeriodStart b g) s = .next (s.after s))
       ∧ (∀ (g : Fin 16), (s.gen k g.val).out = true → (s.gen k g.val).on < (s.gen k g.val).period →
         (s.gen k g.val).startAt + (s.gen k g.val).on ≤ s.dioNow k →
         exec (.pwmOnEnd b g) s = .next (s.after (s.setGen k g.val { s.gen k g.val with out := false })))
       ∧ (s.fenced (.dioBank k) = false →
         (∀ (h : Bool) (m : Word),
           exec (.dioOutSet b h m) s = .next (s.after (u.outWrite k h 0 m))
           ∧ exec (.dioOutClr b h m) s = .next (s.after (u.outWrite k h 1 m))
           ∧ exec (.dioOutTgl b h m) s = .next (s.after (u.outWrite k h 2 m))
           ∧ exec (.dioOutWrite b h m) s = .next (s.after (u.outWrite k h 3 m)))
         ∧ (∀ (cmd : Word),
           let j := 64 * k + bitsOf cmd 0 6
           (cmd.getLsbD 31 = false ∨ u.nDio ≤ j → exec (.dioSchedGo b cmd) s = .next (s.after u))
           ∧ (cmd.getLsbD 31 = true → j < u.nDio → u.lineSafety j = true →
             exec (.dioSchedGo b cmd) s = .next (s.after ((u.safeDrop j cmd.toNat).schedStat k 3 0)))
           ∧ (cmd.getLsbD 31 = true → j < u.nDio → u.lineSafety j = false → bitsOf cmd 8 2 = 3 →
             exec (.dioSchedGo b cmd) s = .next (s.after (u.schedStat k 3 0)))
           ∧ (cmd.getLsbD 31 = true → j < u.nDio → u.lineSafety j = false → bitsOf cmd 8 2 ≠ 3 → 64 ≤ (u.bank k).sched.length →
             exec (.dioSchedGo b cmd) s = .next (s.after (u.schedStat k 2 0)))
           ∧ (cmd.getLsbD 31 = true → j < u.nDio → u.lineSafety j = false → bitsOf cmd 8 2 ≠ 3 → (u.bank k).sched.length < 64 →
             (let r := u.schedAdd j (bitsOf cmd 8 2) (u.schedAt k) (cmd.getLsbD 12)
              exec (.dioSchedGo b cmd) s = .next (s.after (r.2.schedStat k 1 r.1)))))
         ∧ (∀ (g : Fin 16) (w : Word),
           exec (.dioPwmCtrlWrite b g w) s = .next (s.after (u.genWrite k g.val (w.getLsbD 0)))))))
  ∧ (∀ (s : State) (b : Nat) (h : Bool) (i : Nat), i < 32 →
       let j := 64 * b + 32 * b2n h + i
       let m : Word := BitVec.ofNat 32 (2 ^ i)
       j < s.nDio →
       (s.lineSafety j = false →
         s.outWrite b h 0 m = s.outLine j true m.toNat
         ∧ s.outWrite b h 1 m = s.outLine j false m.toNat
         ∧ s.outWrite b h 2 m = s.outLine j (!s.latch j) m.toNat)
       ∧ (s.lineSafety j = true → ∀ op, op < 3 → s.outWrite b h op m = s.safeDrop j m.toNat))

/-- The pop rows (R283, R315, R323, R340, R362, R488): a local initiator's read gives out the front word and takes it from its
queue; a fabric READ that came in by a ring port answers NOT_PERMITTED and takes nothing. -/
def Obligations.PopRows : Prop :=
  ∀ (s : State) (who : Who), s.Live →
    let word (a : Nat) (pop : State → State) : State :=
      let t := (s.wakeFor a).regTouch a
      (pop t).emit (.readData 0 (leBytes 4 (t.regWord a).toNat))
    let kept : State := s.emit (.readData stNotPermitted [])
    (∀ (c : Fin 64), c.val < s.nCan → s.fenced (.canIsl (c.val / 16)) = false →
      exec (.canRxqPop c who) s
        = .next (s.after (if whoRing who then kept else word (canBase c.val + 0xF0) fun t => t.rxqPop c.val)))
    ∧ (∀ (c : Fin 64), c.val < s.nCan → s.fenced (.canIsl (c.val / 16)) = false →
      exec (.canTxeqPop c who) s = .next (s.after (if whoRing who then kept else word (canBase c.val + 0xF4) fun t =>
        t.setCan c.val { t.can c.val with txeq := (t.can c.val).txeq.drop 1 })))
    ∧ (∀ (f e : Fin 8), f.val < s.nFlask → s.fenced (.flask f.val) = false →
      exec (.flaskRxqPop f e who) s = .next (s.after (if whoRing who then kept else
        word (flaskBase f.val + 0x100 + 4 * e.val) fun t => t.engPop f.val e.val)))
    ∧ (∀ (b : Fin 3), 64 * b.val < s.nDio → s.fenced (.dioBank b.val) = false →
      exec (.dioEvqPop b who) s = .next (s.after (if whoRing who then kept else
        word (dioBase b.val + 0xF0) fun t => t.setBank b.val { t.bank b.val with evq := (t.bank b.val).evq.drop 1 })))
    ∧ exec (.faultPop who) s = .next (s.after (if whoRing who then kept else word (faultBase + 0x10) fun t =>
        { t with fault := { t.fault with notices := t.fault.notices.drop 1 } }))

/-! ### Rows of power, USB, PD, safety, faults and updates (chapters 14 to 20) -/

/-- The feed rows (R377 to R382): a sample is taken by the three feeds and judged, a break is confirmed, the new feed is made
after the dead time, a switch that does not fall is stuck, and the priority takes a new order. -/
def Obligations.FeedRows : Prop :=
  ∀ (s : State), (s.die 0).powered = true →
    (∀ (mv : FeedMv),
      (let t := ((s.feedTake 0 mv.a.toNat).feedTake 1 mv.b.toNat).feedTake 2 mv.bat.toNat
       let turned := [0, 1, 2].filter fun f => t.feedJudge f != t.qualified f
       let u := turned.foldl (fun (u : State) f => u.feedChange f (t.feedJudge f)) t
       let x := u.feed u.selected
       let high := u.flag feedReg FEED_STAT_UV_HOLD = true ∧ x.above = true
         ∧ ∃ o, x.outSince = some o ∧ o + 1000 * u.get (feedBase u.selected) FEED_QUAL_DISQ_US ≤ u.uptime
       (turned = [] → ¬ high → exec (.feedSample mv) s = .next (s.after u))
       ∧ (turned ≠ [] ∨ high → exec (.feedSample mv) s = .next (s.after (u.feedSelect 1)))))
    ∧ (∀ (since : Nat), s.power.sel.phase = .breaking since → s.power.sel.next ≠ 3 →
      (let y : FeedSel := { s.power.sel with phase := .dead s.uptime }
       exec .feedBreakConfirm s = .next (s.after ((s.set feedReg FEED_STAT_STUCK 0).setSel y))))
    ∧ (∀ (since : Nat), s.power.sel.phase = .breaking since → s.power.sel.next = 3 →
      exec .feedBreakConfirm s
        = .next (s.after (((s.set feedReg FEED_STAT_STUCK 0).feedDone 3 s.power.sel.cause s.power.sel.stamp).feedSelect 6)))
    ∧ (∀ (since : Nat), s.power.sel.phase = .dead since → since + 1000 * s.get feedReg FEED_DEAD_US ≤ s.uptime →
      s.qualified s.power.sel.next = true →
      exec .feedDeadTimeEnd s
        = .next (s.after ((s.feedDone s.power.sel.next s.power.sel.cause s.power.sel.stamp).feedSelect
            (if s.power.sel.moved then 4 else 1))))
    ∧ (∀ (since : Nat), s.power.sel.phase = .dead since → since + 1000 * s.get feedReg FEED_DEAD_US ≤ s.uptime →
      s.qualified s.power.sel.next = false →
      exec .feedDeadTimeEnd s
        = .next (s.after (s.feedDone ((if s.flag feedReg FEED_STAT_FROZEN then none else s.bestFeed).getD 3) s.power.sel.cause
            s.power.sel.stamp)))
    ∧ (∀ (since : Nat) (vgs : Word), s.power.sel.phase = .breaking since → since + 100000 ≤ s.uptime →
      exec (.feedBreakTimeout vgs) s = .next (s.after (s.stuckFound vgs.toNat)))
    ∧ (s.sys.up = true → exec .feedPimgPeriod s
        = .next (s.after (s.each ([0, 1, 2].filter fun f => decide ((s.feed f).imageAt + 100000000 ≤ s.uptime))
            fun s f => s.feedImage f)))
    ∧ (∀ (v : Word), s.Live → s.fenced (.pedie 0) = false →
      (let a := v.toNat % 4
       let b := v.toNat / 16 % 4
       let c := v.toNat / 256 % 4
       exec (.feedPrioWrite v) s = .next (s.after
         (if a = 3 ∨ b = 3 ∨ c = 3 ∨ a = b ∨ a = c ∨ b = c then s.raise .feedPrioBad srcHub 0 (leBytes 4 v.toNat)
          else (((s.set feedReg FEED_PRIO_FIRST a).set feedReg FEED_PRIO_SECOND b).set feedReg FEED_PRIO_THIRD c).feedMoved.feedSelect 4))))

/-- The rows of a string power channel (R385 to R397): presence, insertion, ramp, gate, trips, stress, FET short, retries,
measurement, slots and enable. Each row's sample is the channel's last. Trips (R393, R394): a trip with retries left counts
one and waits, one without them latches the channel; the trip's counter and its fault record come first, and a retry reset of
the same instant applies last (R395). What a channel wants when it is commanded on (R383, R386): no load, WAIT_LOAD; a load
younger than INSERT_MS, INSERT; no selected and qualified feed, WAIT_FEED; otherwise RAMP. A channel whose commanded state is
off goes to OFF unless it is LATCHED. -/
def Obligations.ChannelRows : Prop :=
  (∀ (s : State) (c : Fin 64), (s.die (c.val / 32)).powered = true → c.val < s.nPch →
     let n := c.val
     let b := pchBase n
     (∀ (there : Bool), s.flag b PCH_CTRL_PRES_EN = true → s.pchGate n = false → s.flag b PCH_STAT_FET_SHORT = false →
       s.flag b PCH_STAT_PRESENT = !there →
       (let t := s.setPch n { s.pch n with load := if there then some s.uptime else none }
        let cause := if there then 13 else 12
        exec (.presenceChange c there) s = .next (s.after
          ((((t.set b PCH_STAT_PRESENT (b2n there)).evt b PCH_EVT 4).pchRecord n cause).pchFollow n cause))))
     ∧ (∀ (there : Bool), s.flag b PCH_STAT_PRESENT = there → exec (.presenceChange c there) s = .next (s.after s))
     ∧ (s.pchState n = 2 → exec (.insertDelayEnd c) s = .next (s.after (s.pchFollow n 13)))
     ∧ (∀ (m : ChSample),
       let t := s.pchSample n m.ma m.mv
       (t.pchState n = 4 → (t.pch n).rising = none →
         (t.feed (t.get feedReg FEED_STAT_SELECTED)).mv ≤ m.mv.toNat + 1000 →
         exec (.rampEnd c m) s = .next (s.after (t.setPch n { t.pch n with rising := some t.uptime })))
       ∧ (t.pchState n = 4 → (t.pch n).rising = none →
         (t.pch n).since + 1000000 * t.get b PCH_RAMP_MAX_MS ≤ t.uptime →
         exec (.rampTimeout c m) s = .next (s.after (t.pchTrip n 8)))
       ∧ (∀ (r : Nat), t.pchState n = 4 → (t.pch n).rising = some r →
         exec (.gateOn c m) s = .next (s.after (t.pchEnter n 5 4)))
       ∧ (t.pchState n = 4 → exec (.fastTrip c m) s = .next (s.after (t.pchTrip n 5)))
       ∧ (t.pchState n = 5 → exec (.fastTrip c m) s = .next (s.after (t.pchTrip n 6)))
       ∧ (t.pchState n ≠ 4 → t.pchState n ≠ 5 → exec (.fastTrip c m) s = .next (s.after ((t.pchLateTrip n 5 (·.state == 4)).pchLateTrip n 6
         (·.state == 5))))
       ∧ (t.pchState n = 5 → (t.get b PCH_LIMITS1_SLOW_MA : Int) < m.ma.toInt →
         exec (.slowOvercurrent c m) s = .next (s.after (t.pchTrip n 7)))
       ∧ (t.pchGate n = true → t.get b PCH_STRESS_LIMIT_MJ * 100000000 < (t.pch n).stress →
         exec (.fetStressLimit c m) s = .next (s.after
           (((t.bump b PCH_LATCHES).raise .pchFetStress (srcPch n) 0 (leBytes 4 (t.pch n).mj)).pchLatch n 10)))
       ∧ (t.pchGate n = false → t.flag b PCH_STAT_FET_SHORT = false → (t.pch n).offAt + 101000000 ≤ t.uptime →
         12000 < m.mv.toNat →
         exec (.fetShortDetect c m) s = .next (s.after
           (((((t.set b PCH_STAT_FET_SHORT 1).evt b PCH_EVT 3).bump b PCH_FET_SHORTS).pchRecord n 17).raise .pchFetShort
             (srcPch n) 0 (leBytes 4 m.mv.toNat))))
       ∧ (t.flag b PCH_STAT_FET_SHORT = true → m.mv.toNat < 12000 →
         exec (.fetShortClear c m) s = .next (s.after ((t.set b PCH_STAT_FET_SHORT 0).pchRecord n 18))))
     ∧ (∀ (r : Nat) (vgs : Word), s.pchState n = 4 → (s.pch n).rising = some r →
       r + 1000 * s.get b PCH_GATE_RISE_US ≤ s.uptime →
       exec (.gateRiseTimeout c vgs) s = .next (s.after
         (((s.bump b PCH_FET_OPENS).raise .pchFetOpen (srcPch n) 0 (leBytes 4 vgs.toNat)).pchLatch n 9)))
     ∧ (s.pchState n = 6 → (s.pch n).retryEnd ≤ s.uptime →
       exec (.retryTimeEnd c) s = .next (s.after (s.pchEnter n (if s.pchCommanded n then s.pchWants n else 0)
         (if s.pchCommanded n = true ∧ s.pchWants n = 4 then 3 else 15))))
     ∧ (s.pchState n = 5 → (s.pch n).since + 60 * nsPerSec ≤ s.uptime →
       exec (.retryCountClear c) s = .next (s.after (s.set b PCH_STAT_RETRY_CNT 0)))
     ∧ (∀ (ms : List ChSample), ms ≠ [] →
       exec (.measurementUpdate c ms) s = .next (s.after (if n = 0 then (s.measure n ms).feedMeans else s.measure n ms)))
     ∧ (s.sys.up = true → (s.pch n).imageAt + 1000000 * s.get b PCH_PIMG_MS ≤ s.uptime →
       exec (.pchPimgPeriod c) s = .next (s.after (s.pchImage n)))
     ∧ (∀ (who : Who) (en : Bool), s.Live → s.fenced (.pedie (n / 32)) = false →
       exec (.pchEnWrite who c en) s
         = .next (s.after (s.writePchCtrl (whoCode who) n b (putBits (s.rd b) 0 1 (b2n en))))))
  ∧ (∀ (s : State) (c cause : Nat),
       let b := pchBase c
       let n := s.get b PCH_STAT_RETRY_CNT
       let t := s.tripRecord c cause (s.pchState c) (s.retryAfter c)
       (n < s.get b PCH_RETRY_MAX →
         (let u := t.set b PCH_STAT_RETRY_CNT (n + 1)
          let till := u.uptime + 1000000 * u.get b PCH_RETRY_MS
          s.pchTrip c cause = ((u.setPch c { u.pch c with retryEnd := till, trip := some (u.uptime, n) }).pchEnter c 6
           cause).tripReset c))
       ∧ (s.get b PCH_RETRY_MAX ≤ n →
         s.pchTrip c cause = ((((t.setPch c { t.pch c with trip := some (t.uptime, n) }).bump b PCH_LATCHES).raise
           .pchRetryExhausted (srcPch c) 0 (leBytes 1 cause)).pchEnter c 7 11).tripReset c))
  ∧ (∀ (s : State) (c cause : Nat),
       (s.pchLoad c = none → s.pchWants c = 1)
       ∧ (∀ t, s.pchLoad c = some t → s.uptime < t + 1000000 * s.get (pchBase c) PCH_INSERT_MS → s.pchWants c = 2)
       ∧ (∀ t, s.pchLoad c = some t → t + 1000000 * s.get (pchBase c) PCH_INSERT_MS ≤ s.uptime →
         s.pchWants c = if s.feedThere then 4 else 3)
       ∧ (s.pchCommanded c = true → 4 ≤ s.pchState c → s.pchFollow c cause = s)
       ∧ (s.pchCommanded c = true → s.pchState c < 4 →
         s.pchFollow c cause = s.pchEnter c (s.pchWants c) (if s.pchWants c = 4 then 3 else cause))
       ∧ (s.pchCommanded c = false → s.pchState c = 0 → s.pchFollow c cause = s)
       ∧ (s.pchCommanded c = false → s.pchState c ≠ 0 → s.pchState c ≠ 7 → s.pchFollow c cause = s.pchOff c cause))

/-- The rows of the hub's ports (R403, R405, R408 to R413): power, connection, over-current, reset, suspension and resume of a
port, and of the whole hub. The requests the USB host makes of the hub (R404, R405, R407 to R409, R412, R413, R416): in the
configured state each takes effect after it has abandoned a control transfer in progress; in another reachable state the hub
stalls. -/
def Obligations.UsbPortRows : Prop :=
  (∀ (s : State), s.Live → s.usbLive = true →
     (∀ (up : Bool), exec (.usbVbusChange up) s
       = .next (s.after (if up then s.set usbBase USB_STAT_VBUS 1 else (s.set usbBase USB_STAT_VBUS 0).usbDetach)))
     ∧ (∀ (p : Fin 8), let n := p.val + 1
       (s.pbit n 8 = true → (s.uport n).good = false →
         (s.uport n).pwrAt + 2000000 * max 1 (s.get usbBase USB_HUBCFG_PWRGOOD_2MS) ≤ s.uptime →
         exec (.portPowerGood p) s = .next (s.after ((s.setUport n { s.uport n with good := true }).showConnect n)))
       ∧ (s.pbit n 3 = true →
         exec (.portOcFilterExpire p false) s = .next (s.after (((s.setPbit n 3 false).pchange n 3).wakeHost 0)))
       ∧ (s.pbit n 8 = true ∨ s.pbit n 3 = false →
         (let t := (((((s.setPbit n 3 true).setUport n { s.uport n with ocOff := true }).portOff n).pchange n 3).bump
            (usbPort n) USB_PORT_OC).evt usbBase USB_EVT 3
          (s.mayReport (s.uport n).ocAt = false → exec (.portOcFilterExpire p true) s = .next (s.after (t.wakeHost 0)))
          ∧ (s.mayReport (s.uport n).ocAt = true → exec (.portOcFilterExpire p true) s = .next (s.after
            (((t.setUport n { t.uport n with ocAt := some s.uptime }).raise .usbPortOc (srcUsb n) 0 []).wakeHost 0)))))
       ∧ (s.pbit n 3 = false → exec (.portOcFilterExpire p false) s = .next (s.after s))
       ∧ (s.pbit n 8 = false → s.pbit n 3 = true → exec (.portOcFilterExpire p true) s = .next (s.after s))
       ∧ (s.pbit n 8 = false → exec (.portPowerGood p) s = .next (s.after s))
       ∧ (∀ (t : Nat) (hs : Bool), (s.uport n).resetAt = some t → t + 15000000 ≤ s.uptime →
         exec (.portResetDone p hs) s = .next (s.after
           (((((((s.setPbit n 4 false).setPbit n 1 true).setPbit n 9 (s.uport n).low).setPbit n 10
             (hs && s.upHs && !(s.uport n).low))).setUport n { s.uport n with resetAt := none }).pchange n 4))))
     ∧ (∀ (p : Fin 9) (there low : Bool), p.val < 8 →
       (let t := s.setUport (p.val + 1) { s.uport (p.val + 1) with there := there, low := low }
        exec (.portConnectChange p there low) s = .next (s.after
          (if t.pbit (p.val + 1) 8 && (t.uport (p.val + 1)).good then (t.showConnect (p.val + 1)).wakeHost 0 else t))))
     ∧ (∀ (there low : Bool), exec (.portConnectChange 8 there low) s = .next (s.after s))
     ∧ (∀ (p : Fin 9), let n := p.val + 1
       (∀ (t : Nat) (host : Bool), (s.uport n).resume = some (t, host) → t + 20000000 ≤ s.uptime →
         (let u := (((s.setUport n { s.uport n with resume := none }).setPbit n 2 false).setPbit n 1 true)
          let u := (u.pchange n 2).bump (usbPort n) USB_PORT_RESUMES
          exec (.portResumeDone p) s = .next (s.after (if n = 9 then u.mgmtResume else u))))
       ∧ (s.upState = 4 → exec (.deviceWake p) s = .next (s.after (s.wakeHost n)))
       ∧ (s.upState ≠ 4 → s.pbit n 2 = true → (s.uport n).resume = none →
         exec (.deviceWake p) s = .next (s.after (s.setUport n { s.uport n with resume := some (s.uptime, false) })))
       ∧ (∀ (t : Nat), s.upState ≠ 4 → s.pbit n 2 = true → (s.uport n).resume = some (t, true) →
         exec (.deviceWake p) s = .next (s.after ((s.setUport n { s.uport n with resume := some (t, true) }).bump usbBase
           USB_RWAKE_MERGED)))
       ∧ (s.upState ≠ 4 → s.pbit n 2 = false ∨ (∃ t, (s.uport n).resume = some (t, false)) ∧ s.pbit n 2 = true →
         exec (.deviceWake p) s = .next (s.after s)))
     ∧ (s.upState ≠ 0 → s.upState ≠ 4 →
       (let t := (s.withUsb fun u => { u with hubPrev := s.upState }).set usbBase USB_STAT_UP_STATE 4
        let t := (t.bump usbBase USB_SUSPENDS).evt usbBase USB_EVT 1
        (t.mgmtState = 0 ∨ t.mgmtState = 4 → exec .hubSuspend s = .next (s.after t))
        ∧ (t.mgmtState ≠ 0 → t.mgmtState ≠ 4 → exec .hubSuspend s = .next (s.after
          ((t.withUsb fun u => { u with mgmtPrev := t.mgmtState, suspAt := t.uptime }).set usbBase USB_MGMT_STATE 4)))))
     ∧ (s.upState = 0 ∨ s.upState = 4 → exec .hubSuspend s = .next (s.after s))
     ∧ (s.upState ≠ 4 → exec .hostResume s = .next (s.after s))
     ∧ (s.upState = 4 →
       (let w := (s.usb.upK.map (·.2)).getD 0
        let woke := if s.pbit w 1 ∨ s.pbit w 2 then w else 0
        let t := (s.withUsb fun u => { u with upK := none }).set usbBase USB_STAT_UP_STATE s.usb.hubPrev
        let t := t.evt usbBase USB_EVT 2
        let t := t.each ([1, 2, 3, 4, 5, 6, 7, 8, 9].filter fun p => p != woke && s.pbit p 1 && !s.pbit p 2) fun s p =>
          s.bump (usbPort p) USB_PORT_RESUMES
        let t := if t.pbit 9 2 then t else t.mgmtResume
        exec .hostResume s
          = .next (s.after (if woke = 0 then t else t.setUport woke { t.uport woke with resume := some (t.uptime, true) })))))
  ∧ (∀ (s : State), s.Live → s.usbLive = true → s.upState ≠ 0 → s.upState ≠ 4 →
       let t := s.ctrlAbandon true
       (s.upState = 3 →
         (∀ (p : Fin 8), let n := p.val + 1
           (t.pbit n 8 = true → t.pbit n 0 = true →
             (let u := ((t.setPbit n 4 true).setPbit n 1 false).setPbit n 2 false
              exec (.setPortReset p) s
                = .next (s.after ((u.setUport n { u.uport n with resetAt := some u.uptime, resume := none }).ttClear n))))
           ∧ (t.pbit n 8 = false ∨ t.pbit n 0 = false → exec (.setPortReset p) s = .next (s.after t))
           ∧ (∀ (m : BitVec 8), m.toNat = 0 ∨ 5 < m.toNat ∨ t.portsQuiet 0 = false →
             exec (.setPortTest p m) s = .next (s.after t.stall))
           ∧ (∀ (m : BitVec 8), 1 ≤ m.toNat → m.toNat ≤ 5 → t.portsQuiet 0 = true →
             exec (.setPortTest p m) s
               = .next (s.after ((t.setPbit n 11 true).setUport n { t.uport n with test := m.toNat })))
           ∧ (∀ (x : SplitTx), exec (.clearTtBuffer p x) s = .next (s.after (t.setTt (t.ttOf n)
               { t.tt (t.ttOf n) with non := (t.tt (t.ttOf n)).non.filter fun e => e.2 != x.ep.toNat })))
           ∧ exec (.resetTt p) s = .next (s.after (t.setTt (t.ttOf n) {}))
           ∧ exec (.getTtState p) s = .next (s.after t.stall))
         ∧ (∀ (p : Fin 9), p.val < 8 → let n := p.val + 1
           exec (.setPortPower p) s = .next (s.after (((t.set (usbPort n) USB_PORT_CTRL_PWR_REQ 1).setUport n
             { t.uport n with ocOff := false }).portPower n))
           ∧ exec (.clearPortPower p) s = .next (s.after ((t.set (usbPort n) USB_PORT_CTRL_PWR_REQ 0).portPower n))
           ∧ (t.pbit n 1 = true → exec (.setPortSuspend p) s = .next (s.after (t.setPbit n 2 true)))
           ∧ (t.pbit n 1 = false → exec (.setPortSuspend p) s = .next (s.after t)))
         ∧ (exec (.setPortPower 8) s = .next (s.after t) ∧ exec (.clearPortPower 8) s = .next (s.after t)
           ∧ (t.mgmtState ≠ 0 → t.mgmtState ≠ 4 → exec (.setPortSuspend 8) s = .next (s.after
             (((t.setPbit 9 2 true).withUsb fun u => { u with mgmtPrev := t.mgmtState, suspAt := t.uptime }).set
               usbBase USB_MGMT_STATE 4)))
           ∧ (t.mgmtState = 0 ∨ t.mgmtState = 4 → exec (.setPortSuspend 8) s = .next (s.after t)))
         ∧ (∀ (p : Fin 9), let n := p.val + 1
           (t.pbit n 2 = true → (t.uport n).resume = none →
             exec (.clearPortSuspend p) s = .next (s.after (t.setUport n { t.uport n with resume := some (t.uptime, true) })))
           ∧ (∀ (a : Nat), t.pbit n 2 = true → (t.uport n).resume = some (a, false) →
             exec (.clearPortSuspend p) s = .next (s.after ((t.setUport n { t.uport n with resume := some (a, true) }).bump
               usbBase USB_RWAKE_MERGED)))
           ∧ (t.pbit n 2 = false → exec (.clearPortSuspend p) s = .next (s.after t)))
         ∧ (∀ (m : BitVec 8), m.toNat = 0 ∨ 5 < m.toNat → exec (.setTestMode m) s = .next (s.after t.stall))
         ∧ (∀ (m : BitVec 8), 1 ≤ m.toNat → m.toNat ≤ 5 →
           exec (.setTestMode m) s = .next (s.after (t.set usbBase USB_STAT_TEST m.toNat))))
       ∧ (s.upState ≠ 3 →
         (∀ (p : Fin 8) (x : SplitTx) (m : BitVec 8) (i : Instr),
           i ∈ [.setPortReset p, .setPortTest p m, .clearTtBuffer p x, .resetTt p, .getTtState p, .setTestMode m] →
           exec i s = .next (s.after t.stall))
         ∧ (∀ (p : Fin 9) (i : Instr), i ∈ [.setPortPower p, .clearPortPower p, .setPortSuspend p, .clearPortSuspend p] →
           exec i s = .next (s.after t.stall))))

/-- Split transactions (R407): a periodic one is kept while the translator has room, a non-periodic one takes one of two buffers,
a complete-split answers by what has become of it, and one that did not finish in its frame has aged. Control transfers and
resets (R417, R426 to R429): a SETUP that runs to its end abandons the transfer before it and takes effect; one that does not
leaves its transfer in progress; halts, configurations and interfaces as the device's state allows; a bus reset resets what
lies below it. -/
def Obligations.UsbTransferRows : Prop :=
  (∀ (s : State) (p : Fin 8) (x : SplitTx), s.Live → s.upHs = true → s.upState = 3 →
     let n := p.val + 1
     let tt := s.tt (s.ttOf n)
     let ep := x.ep.toNat
     let live := tt.per.filter fun e => !e.aged
     (s.pbit n 1 = true → x.periodic = true → live.length < 16 → (live.map (·.len)).sum + x.len.toNat ≤ 1880 →
       exec (.splitStart p x) s = .next (s.after
         (s.setTt (s.ttOf n) { tt with per := tt.per ++ [⟨n, ep, x.len.toNat, s.usbFrame, false⟩] })))
     ∧ (s.pbit n 1 = true → x.periodic = true → 16 ≤ live.length ∨ 1880 < (live.map (·.len)).sum + x.len.toNat →
       exec (.splitStart p x) s = .next (s.after (s.bump (usbPort n) USB_TT_PER_OVF)))
     ∧ (s.pbit n 1 = true → x.periodic = false → tt.non.length < 2 →
       exec (.splitStart p x) s = .next (s.after
         ((s.setTt (s.ttOf n) { tt with non := tt.non ++ [(n, ep)] }).emit (.usbShake ep 0))))
     ∧ (s.pbit n 1 = true → x.periodic = false → 2 ≤ tt.non.length →
       exec (.splitStart p x) s = .next (s.after (s.emit (.usbShake ep 1))))
     ∧ (x.periodic = false → tt.non.contains (n, ep) = true →
       exec (.completeSplit p x) s = .next (s.after (match x.result with
         | none => s.emit (.usbShake ep 3)
         | some bs => (s.setTt (s.ttOf n) { tt with non := tt.non.erase (n, ep) }).splitAnswer ep bs)))
     ∧ (∀ (e : TtEntry), x.periodic = true → (tt.per.find? fun e => e.port == n && e.ep == ep) = some e →
       (let gone := s.setTt (s.ttOf n) { tt with per := tt.per.erase e }
        (e.aged = true → exec (.completeSplit p x) s = .next (s.after (gone.emit (.usbShake ep 4))))
        ∧ (e.aged = false → exec (.completeSplit p x) s = .next (s.after (match x.result with
          | none => s.emit (.usbShake ep 3)
          | some bs => gone.splitAnswer ep bs)))))
     ∧ ((x.periodic = false ∧ tt.non.contains (n, ep) = false)
         ∨ (x.periodic = true ∧ (tt.per.find? fun e => e.port == n && e.ep == ep) = none) →
       exec (.completeSplit p x) s = .next (s.after s))
     ∧ (s.pbit n 1 = false → exec (.splitStart p x) s = .next (s.after s))
     ∧ ((tt.per.find? fun e => e.port == n && e.ep == ep && !e.aged && decide (e.frame < s.usbFrame)) = none →
       exec (.ttAgeOut p x.ep) s = .next (s.after s))
     ∧ (∀ (e : TtEntry),
       (tt.per.find? fun e => e.port == n && e.ep == ep && !e.aged && decide (e.frame < s.usbFrame)) = some e →
       exec (.ttAgeOut p x.ep) s = .next (s.after ((s.setTt (s.ttOf n)
         { tt with per := tt.per.map fun y => if y = e then { y with aged := true } else y }).bump (usbPort n) USB_TT_AGED))))
  ∧ (∀ (s : State) (u : UsbSetup), s.Live →
       let t := s.ctrlAbandon u.hub
       let ep := epCode u.hub u.idx.toNat
       (s.setupReaches u.hub = true → u.whole = true →
         exec (.setupPacket u) s = .next (s.after
           (if u.rt.toNat / 32 % 4 = 1 ∧ u.hub = true then t.classRequest u else t.stdRequest u))
         ∧ (u.hub = false → u.val.toNat ≤ 1 → 2 ≤ t.mgmtState →
           (let v := (((t.epsFresh [0x01, 0x81, 0x02, 0x82, 0x83, 0x84]).set usbBase USB_MGMT_STATE (2 + u.val.toNat)).set usbBase
              USB_MGMT_ISO_ALT 0).withUsb fun x => { x with due := [] }
            exec (.setConfiguration u) s = .next (s.after (if t.mgmtState = 2 then v.dropReports else v))))
         ∧ (u.hub = true → u.val.toNat ≤ 1 → 2 ≤ t.upState →
           exec (.setConfiguration u) s = .next (s.after (((t.epsFresh [0x181]).set usbBase USB_STAT_UP_STATE
             (2 + u.val.toNat)).set usbBase USB_STAT_MULTI_TT 0)))
         ∧ (1 < u.val.toNat ∨ t.devState u.hub < 2 → exec (.setConfiguration u) s = .next (s.after t.stall))
         ∧ (u.hub = false → t.mgmtState = 3 → u.idx.toNat = 1 → u.val.toNat ≤ 1 →
           exec (.setInterface u) s = .next (s.after (((t.epsFresh [0x84]).set usbBase USB_MGMT_ISO_ALT u.val.toNat).withUsb
             fun x => { x with due := [] })))
         ∧ (u.hub = false → t.mgmtState = 3 → u.idx.toNat = 0 → u.val.toNat = 0 →
           exec (.setInterface u) s = .next (s.after (t.epsFresh [0x01, 0x81, 0x02, 0x82, 0x83])))
         ∧ (u.hub = true → t.upState = 3 → u.idx.toNat = 0 → u.val.toNat ≤ b2n t.upHs →
           exec (.setInterface u) s = .next (s.after ((t.epsFresh [0x181]).set usbBase USB_STAT_MULTI_TT u.val.toNat)))
         ∧ (t.devState u.hub ≠ 3 ∨ 1 < u.idx.toNat ∨ 1 < u.val.toNat ∨ (u.hub = true ∧ u.idx.toNat = 1) →
           exec (.setInterface u) s = .next (s.after t.stall))
         ∧ (t.devState u.hub = 3 → epThere u.hub ep = true →
           exec (.setEndpointHalt u) s = .next (s.after (t.withUsb fun x =>
             { x with halted := if x.halted.contains ep then x.halted else x.halted ++ [ep] }))
           ∧ exec (.clearEndpointHalt u) s = .next (s.after (t.epsFresh [ep])))
         ∧ (t.devState u.hub = 3 → epThere u.hub ep = false → ∀ i ∈ [Instr.setEndpointHalt u, .clearEndpointHalt u],
           exec i s = .next (s.after t.stall)))
       ∧ (s.setupReaches u.hub = true → u.whole = false →
         ∀ i ∈ [Instr.setupPacket u, .setConfiguration u, .setInterface u, .setEndpointHalt u, .clearEndpointHalt u],
           exec i s = .next (s.after (t.withUsb fun x =>
             if u.hub then { x with hubCtrl := true } else { x with mgmtCtrl := true })))
       ∧ (∀ (hs : Bool), s.usbPull = true →
         (let v := (((s.hubReset).mgmtReset.set usbBase USB_STAT_UP_STATE 1).set usbBase USB_STAT_UP_HS (b2n hs))
          let on := s.flag usbBase USB_MGMT_CONNECT
          let v := (v.set (usbPort 9) USB_PORT_STAT_CHANGE 0).set usbBase USB_MGMT_STATE (b2n on)
          let v := if on then v.mgmtShow true else v.set (usbPort 9) USB_PORT_STAT_STATUS 256
          exec (.busReset true hs) s
            = .next (s.after (((v.bump usbBase USB_UP_RESETS).evt usbBase USB_EVT 0).evt usbBase USB_EVT 5))))
       ∧ (∀ (hs : Bool), s.upState = 3 → s.usbLive = true → s.flag usbBase USB_MGMT_CONNECT = true →
         (let v := s.set (usbPort 9) USB_PORT_STAT_STATUS (256 + 3 + 1024 * b2n s.upHs)
          exec (.busReset false hs) s = .next (s.after
            (((((v.setUport 9 {}).pchange 9 4).mgmtReset).set usbBase USB_MGMT_STATE 1).evt usbBase USB_EVT 5)))))

/-- The endpoints of the management device (R414, R419 to R425, R427): an OUT transfer in sequence is acknowledged and taken, a
repeated one only acknowledged, one without room held back, one on a halted endpoint stalled; an IN transfer gives the front
of its queue, and an acknowledged one takes it away; a stream transfer carries the slots that are due; and the device
connects, reports and wakes. -/
def Obligations.UsbEndpointRows : Prop :=
  ∀ (s : State), s.Live →
    (s.epLive = true →
      (∀ (b : Bool) (bs : List Byte),
        (s.epHalted 0x01 = true → exec (.ep1OutTransfer b bs) s = .next (s.after (s.emit (.usbShake 0x01 2))))
        ∧ (s.epHalted 0x81 = true → exec (.ep1InTransfer b) s = .next (s.after (s.emit (.usbShake 0x81 2))))
        ∧ (s.epHalted 0x82 = true → exec (.ep2InTransfer b) s = .next (s.after (s.emit (.usbShake 0x82 2))))
        ∧ (s.epHalted 0x83 = true → exec (.ep3InTransfer b) s = .next (s.after (s.emit (.usbShake 0x83 2))))
        ∧ (s.epHalted 0x81 = false → s.cmd.usb = [] → exec (.ep1InTransfer b) s = .next (s.after (s.emit (.usbShake 0x81 1))))
        ∧ (s.epHalted 0x82 = false → s.usb.resps = [] → exec (.ep2InTransfer b) s = .next (s.after (s.emit (.usbShake 0x82 1))))
        ∧ (s.epHalted 0x83 = false → s.usb.reports = [] → exec (.ep3InTransfer b) s = .next (s.after (s.emit (.usbShake 0x83 1)))))
      ∧ (∀ (bs : List Byte), s.epHalted 0x01 = false → s.usb.rx.length < 2 →
        exec (.ep1OutTransfer (s.epToggle 0x01) bs) s = .next (s.after
          ((((s.emit (.usbShake 0x01 0)).toggleBy 0x01 (packets bs.length s.bulkMax)).withUsb fun u =>
            { u with rx := u.rx ++ [bs] }).usbTake))
        ∧ exec (.ep1OutTransfer (!s.epToggle 0x01) bs) s = .next (s.after (s.emit (.usbShake 0x01 0))))
      ∧ (∀ (bs : List Byte), s.epHalted 0x02 = false → s.usb.reqs.length < 16 → s.usb.write = none →
        exec (.ep2OutTransfer (s.epToggle 0x02) bs) s = .next (s.after
          (((s.emit (.usbShake 0x02 0)).toggleBy 0x02 (packets bs.length s.bulkMax)).usbRequest bs))
        ∧ exec (.ep2OutTransfer (!s.epToggle 0x02) bs) s = .next (s.after (s.emit (.usbShake 0x02 0))))
      ∧ (∀ (b : Bool) (bs : List Byte), s.epHalted 0x02 = false → 16 ≤ s.usb.reqs.length ∨ s.usb.write.isSome = true →
        exec (.ep2OutTransfer b bs) s = .next (s.after (s.emit (.usbShake 0x02 1))))
      ∧ (∀ (b : Bool) (bs : List Byte), s.epHalted 0x01 = false → 2 ≤ s.usb.rx.length →
        exec (.ep1OutTransfer b bs) s = .next (s.after (s.emit (.usbShake 0x01 1))))
      ∧ (∀ (b : Bool) (bs : List Byte), s.epHalted 0x02 = true →
        exec (.ep2OutTransfer b bs) s = .next (s.after (s.emit (.usbShake 0x02 2))))
      ∧ (∀ (r : Reply) (rest : List Reply), s.cmd.usb = r :: rest → s.epHalted 0x81 = false →
        exec (.ep1InTransfer true) s = .next (s.after
          ((s.emit (.usbIn 1 r.bytes)).toggleBy 0x81 (packets r.bytes.length s.bulkMax)).replyGone)
        ∧ exec (.ep1InTransfer false) s = .next (s.after (s.emit (.usbIn 1 r.bytes))))
      ∧ (∀ (r : UsbResp) (rest : List UsbResp), s.usb.resps = r :: rest → s.epHalted 0x82 = false →
        exec (.ep2InTransfer true) s = .next (s.after
          ((s.emit (.usbIn 2 r.bytes)).toggleBy 0x82 (packets r.bytes.length s.bulkMax)).respGone)
        ∧ exec (.ep2InTransfer false) s = .next (s.after (s.emit (.usbIn 2 r.bytes))))
      ∧ (∀ (r : Nat × Nat × Nat) (rest : List (Nat × Nat × Nat)), s.usb.reports = r :: rest → s.epHalted 0x83 = false →
        (let bs := leBytes 4 r.1 ++ leBytes 1 r.2.1 ++ leBytes 1 0 ++ leBytes 2 r.2.2
         exec (.ep3InTransfer true) s = .next (s.after
           (((s.emit (.usbIn 3 bs)).toggleBy 0x83 (packets bs.length 8)).withUsb fun u =>
             { u with reports := u.reports.drop 1 }))
         ∧ exec (.ep3InTransfer false) s = .next (s.after (s.emit (.usbIn 3 bs)))))
      ∧ (s.flag usbBase USB_MGMT_ISO_ALT = false → exec .ep4InTransfer s = .next (s.after s))
      ∧ (s.flag usbBase USB_MGMT_ISO_ALT = true →
        (let now := s.dueSlots.take (if s.upHs then 15 else 14)
         let left := s.dueSlots.length - now.length
         let table : Tbl (Option Nat) := s.streamed.foldl (fun m n =>
           Tbl.put (fun _ => none) m n (some (if now.contains n then s.dueNext n else s.dueOf n))) []
         let r := now.foldl (fun (acc : List Byte × State) n =>
           let x := acc.2.slotTake n
           (acc.1 ++ leBytes 2 n ++ leBytes 2 0 ++ x.1, x.2)) ([], s)
         exec .ep4InTransfer s = .next (s.after ((((r.2.emit (.usbIn 4
           ((leBytes 2 s.usb.isoSeq ++ leBytes 1 now.length ++ leBytes 1 (b2n (decide (0 < left)))) ++ r.1))).withUsb fun u =>
             { u with due := table, isoSeq := (u.isoSeq + 1) % 65536 }).bump usbBase USB_ISO_PKTS).bumpBy usbBase
               USB_ISO_DEFER left)))))
    ∧ (s.epLive = false → ∀ (b : Bool) (bs : List Byte) (i : Instr),
      i ∈ [.ep1OutTransfer b bs, .ep1InTransfer b, .ep2OutTransfer b bs, .ep2InTransfer b, .ep3InTransfer b, .ep4InTransfer] →
      exec i s = .next (s.after s))
    ∧ (s.usbLive = false ∨ s.freshPend = 0 → exec .eventReportQueue s = .next (s.after s)
      ∧ exec .mgmtRemoteWake s = .next (s.after s))
    ∧ (s.usbLive = true → s.freshPend ≠ 0 → s.mgmtState ≠ 4 ∨ s.flag usbBase USB_MGMT_WAKE_EN = false
        ∨ s.flag usbBase USB_MGMT_MRWAKE = false ∨ s.uptime < s.usb.suspAt + 5000000 →
      exec .eventReportQueue s = .next (s.after (s.report 0)) ∧ exec .mgmtRemoteWake s = .next (s.after s))
    ∧ (s.usbLive = true → s.mgmtState = 4 → s.usb.suspAt + 5000000 ≤ s.uptime → s.flag usbBase USB_MGMT_MRWAKE = true →
      s.flag usbBase USB_MGMT_WAKE_EN = true → s.freshPend ≠ 0 →
      exec .mgmtRemoteWake s = .next (s.after ((s.report 1).deviceWake 9))
      ∧ exec .eventReportQueue s = .next (s.after ((s.report 1).deviceWake 9)))
    ∧ (let w (v : Nat) := putBits (s.rd (usbBase + 0x14)) USB_MGMT_CONNECT.lo USB_MGMT_CONNECT.width v
       exec .usbMgmtConnect s = .next (s.after ((s.wakeFor usbBase).writeUsb 2 (usbBase + 0x14) (w 1)))
       ∧ exec .usbMgmtDisconnect s = .next (s.after ((s.wakeFor usbBase).writeUsb 2 (usbBase + 0x14) (w 0))))
    ∧ (s.flag usbBase USB_MGMT_CONNECT = false →
      s.mgmtConnect true = (s.set usbBase USB_MGMT_CONNECT 1).mgmtShow true)
    ∧ (s.flag usbBase USB_MGMT_CONNECT = true →
      s.mgmtConnect false = (((s.set usbBase USB_MGMT_CONNECT 0).mgmtReset).set usbBase USB_MGMT_STATE 0).mgmtShow false)

/-- Attach, detach and resets of a negotiation port (R435, R439, R440, R444, R449): a partner attaches or leaves, a DRP port
toggles, VBUS discharges, and messages, resets and the policy's watchdog run out. -/
def Obligations.PdPortRows : Prop :=
  ∀ (s : State) (q : Fin 3), s.Live → s.pdLive = true →
    let p := q.val
    let b := pdBase p
    let x := s.pd_ p
    (∀ (a : TypecAttach), s.flag b PD_PCFG_EN = true → s.tcState p = 0 → s.roleOk p a.source = true →
      (let t := ((s.set b PD_PSTAT_TC_STATE (if a.source then 2 else 3)).set b PD_PSTAT_POLARITY (b2n a.cc2)).set b
         PD_PSTAT_PWR_SRC (b2n a.source)
       let t := (t.set b PD_PSTAT_DFP (b2n a.source)).set b PD_PSTAT_VCONN_SRC (b2n a.source)
       let t := (t.evt b PD_EVT 0).bump b PD_ATTACHES
       let y : PdPort := { t.pd_ p with disch := a.source, starting := a.source, snkEn := !a.source, leaving := false,
                                        msgId := 0, pdos := [], choice := none, frs := false }
       exec (.typecAttach q a) s = .next (s.after (t.setPd p y))))
    ∧ (s.flag b PD_PCFG_EN = true → s.get b PD_PCFG_ROLES = 2 → s.polImage = true → s.tcState p = 0 →
      x.rpAt + 37500000 ≤ s.uptime →
      exec (.drpToggle q) s = .next (s.after (s.setPd p { x with rp := !x.rp, rpAt := s.uptime })))
    ∧ (∀ (mv : BitVec 16),
      (let t := (s.pdAbandon p 0x0C05).evt b PD_EVT 1
       let t := if s.flag b PD_PSTAT_IN_TRANSITION = true then
           ((t.bump b PD_DETACH_XSN).evt b PD_EVT 6).raise .pdDetachInTransition (srcPd p) 0
             (leBytes 2 x.target ++ leBytes 2 mv.toNat) else t
       let t := (t.contractOff p).set b PD_PSTAT_VCONN_SRC 0
       let y : PdPort := { t.pd_ p with srcEn := false, snkEn := false, disch := true, starting := false, leaving := true,
                                        target := mv.toNat }
       (s.pdSource p = true → exec (.typecDetach q mv) s = .next (s.after (t.setPd p y)))
       ∧ (s.pdSource p = false → s.pdSink p = true → exec (.typecDetach q mv) s = .next (s.after (t.pdUnattached p 0)))
       ∧ (s.pdSource p = false → s.pdSink p = false → exec (.typecDetach q mv) s = .next (s.after s))))
    ∧ (x.disch = true → x.leaving = true ∨ s.tcState p = 5 →
      exec (.vbusDischargeDone q) s = .next (s.after (s.pdUnattached p (if s.flag b PD_PCFG_EN then 0 else 6))))
    ∧ (x.disch = true → x.leaving = false → s.tcState p ≠ 5 → x.starting = true →
      exec (.vbusDischargeDone q) s = .next (s.after (s.sourceOn p)))
    ∧ (x.disch = true → x.leaving = false → s.tcState p ≠ 5 → x.starting = false →
      exec (.vbusDischargeDone q) s = .next (s.after (s.setPd p { x with disch := false })))
    ∧ (∀ (m : PdRx), s.pdSource p = true → bitsOf (m.objs.headD 0) 6 2 = 1 →
      (let v := m.objs.getD 4 0
       let t := (s.set b PD_PSTAT_CABLE_5A (b2n (bitsOf v 5 2 == 2))).set b PD_PSTAT_CABLE_EPR (b2n (bitsOf v 9 2 == 3))
       exec (.discoverIdentityRx q m) s = .next (s.after (if (t.pd_ p).srcEn then t.sendCaps p else t))))
    ∧ (∀ (m : PdRx), s.pdSource p = false ∨ bitsOf (m.objs.headD 0) 6 2 ≠ 1 →
      exec (.discoverIdentityRx q m) s = .next (s.after s))
    ∧ (s.pdSource p = true ∨ s.pdSink p = true → exec (.hardResetRx q) s = .next (s.after (s.hardReset p)))
    ∧ (s.pdSource p = true ∨ s.pdSink p = true → exec (.softResetRx q) s = .next (s.after
        (let t := ((s.bump b PD_SOFT_RESETS).setPd p { x with msgId := 0 }).pdControl p msgAccept
         if t.pdSource p then t.sendCaps p else t)))
    ∧ (s.pdSource p = false → s.pdSink p = false →
      exec (.hardResetRx q) s = .next (s.after s) ∧ exec (.softResetRx q) s = .next (s.after s))
    ∧ (x.msg = none → exec (.goodcrcTimeout q) s = .next (s.after s))
    ∧ (s.polImage = false → exec .policyWdogExpire s = .next (s.after s))
    ∧ (∀ (bs : List Byte) (n : Nat), x.msg = some (bs, n) → n < 3 →
      exec (.goodcrcTimeout q) s = .next (s.after ((s.emit (.pdMsg p bs)).setPd p { x with msg := some (bs, n + 1) })))
    ∧ (∀ (bs : List Byte) (n : Nat), x.msg = some (bs, n) → 3 ≤ n →
      exec (.goodcrcTimeout q) s = .next (s.after ((s.setPd p { x with msg := none }).bump b PD_MSG_DISCARD)))
    ∧ (s.polImage = true →
      (let t : State := { s with pd := { s.pd with barred := true } }
       exec .policyWdogExpire s = .next (s.after ((((t.bump pdAll PD_POL_RESTARTS).evt pdAll PD_GEVT 0).raise .pdPolicyWdog
         (srcIsland 20) 0 (leBytes 4 s.pd.imgVer)).runPolicy false 4 0))))

/-- Contracts of a source and of a sink port (R437, R438, R442 to R444): offers are asked for and granted or rejected, the
converter moves and is trimmed, faults and over-current end in a Hard Reset, and keep-alives keep a contract. Role swaps
(R446 to R448): a data-role swap of UPC0 as DFP is granted, a swap is told to wait while another is in progress, of two
requests that collide the source's goes on, an answer goes on with, repeats or ends the hub's own request, PS_RDY completes
it, and a fast role swap takes or gives the source role. -/
def Obligations.PdContractRows : Prop :=
  (∀ (s : State) (q : Fin 3), s.Live → s.pdLive = true →
     let p := q.val
     let b := pdBase p
     let x := s.pd_ p
     (∀ (m : PdRx), s.pdSource p = true →
       (let t := s.setPd p { x with reqAt := s.uptime }
        exec (.requestRx q m) s = .next (s.after
          (match t.judgeRequest p ((m.objs.headD 0).toNat) with
           | none => t.pdControl p msgReject
           | some (k, v, a) =>
             (t.pdControl p msgAccept).setPd p { (t.pdControl p msgAccept).pd_ p with
               trans := some ⟨v, a, k, (t.pdControl p msgAccept).uptime, none⟩ }))))
     ∧ (∀ (y : PdTrans), x.trans = some y → y.started = none → y.at_ + 30000000 ≤ s.uptime →
       exec (.transitionStart q) s = .next (s.after (((s.setPd p { x with trans := some { y with started := some s.uptime } }).set b
         PD_PSTAT_IN_TRANSITION 1).setTarget p y.mv)))
     ∧ (∀ (y : PdTrans) (mv : BitVec 16), x.srcEn = true → s.inWindow p mv.toNat = true → x.trans = some y →
       y.started.isSome = true →
       (let t := (s.setPd p { x with trans := none }).set b PD_PSTAT_IN_TRANSITION 0
        exec (.vsetTrim q mv) s = .next (s.after (((t.pdControl p msgPsRdy).contractOn p y.mv y.ma y.kind).polLate p))))
     ∧ (∀ (mv : BitVec 16), x.srcEn = false ∨ s.inWindow p mv.toNat = true ∧ x.trans = none →
       exec (.vsetTrim q mv) s = .next (s.after s))
     ∧ (∀ (mv : BitVec 16), x.srcEn = true → s.inWindow p mv.toNat = false →
       (let r := s.takeFree
        exec (.vsetTrim q mv) s = .next (s.after (r.2.setPd p { r.2.pd_ p with duty := (Sys2Proof.Config.pdTrim r.1).toNat }))))
     ∧ (∀ (pg : Bool) (mv : BitVec 16),
       let late := ∃ y t, x.trans = some y ∧ y.started = some t ∧ t + 1000000 * s.get b PD_XCFG_TRANS_MS ≤ s.uptime
       (x.srcEn = true → pg = true ∨ late →
         exec (.transitionTimeout q pg mv) s = .next (s.after ((((((s.bump b PD_CONV_FAULTS).evt b PD_EVT 8).raise .pdConverter
           (srcPd p) 0 (leBytes 2 x.target ++ leBytes 2 mv.toNat ++ leBytes 1 (b2n pg))).emit (.pdMsg p [])).hardReset p))))
       ∧ (x.srcEn = false ∨ (pg = false ∧ ¬ late) → exec (.transitionTimeout q pg mv) s = .next (s.after s)))
     ∧ (∀ (ma mv : BitVec 16),
       let t := s.pdMean p mv.toNat ma.toNat
       (t.pdLive = false ∨ t.pdSource p = false ∨ (t.pd_ p).srcEn = false ∨ t.flag b PD_PSTAT_CONTRACT = false →
         exec (.isnsSample q ma mv) s = .next (s.after t))
       ∧ (t.pdLive = true → t.pdSource p = true → (t.pd_ p).srcEn = true → t.flag b PD_PSTAT_CONTRACT = true →
         t.get b PD_PSTAT_KIND = 1 →
         (ma.toNat < t.get b PD_CONTRACT_MA → exec (.isnsSample q ma mv) s = .next (s.after (t.set b PD_PSTAT_CL 0)))
         ∧ (t.get b PD_CONTRACT_MA ≤ ma.toNat →
           (let r := t.takeFree
            exec (.isnsSample q ma mv) s = .next (s.after ((r.2.setPd p { t.pd_ p with
              duty := (Sys2Proof.Config.pdTrim r.1).toNat }).set b PD_PSTAT_CL 1)))))
       ∧ (t.pdLive = true → t.pdSource p = true → (t.pd_ p).srcEn = true → t.flag b PD_PSTAT_CONTRACT = true →
       t.get b PD_PSTAT_KIND ≠ 1 →
       (t.get b PD_XCFG_OCP_PCT * t.get b PD_CONTRACT_MA < ma.toNat * 100 →
         t.uptime < (t.pd_ p).ocSince.getD t.uptime + 1000000 * t.get b PD_XCFG_OCP_MS →
         exec (.isnsSample q ma mv) s
           = .next (s.after (t.setPd p { t.pd_ p with ocSince := some ((t.pd_ p).ocSince.getD t.uptime) })))
       ∧ (ma.toNat * 100 ≤ t.get b PD_XCFG_OCP_PCT * t.get b PD_CONTRACT_MA →
         exec (.isnsSample q ma mv) s = .next (s.after (t.setPd p { t.pd_ p with ocSince := none })))
       ∧ (∀ (since : Nat), t.get b PD_XCFG_OCP_PCT * t.get b PD_CONTRACT_MA < ma.toNat * 100 → (t.pd_ p).ocSince = some since →
         since + 1000000 * t.get b PD_XCFG_OCP_MS ≤ t.uptime →
         exec (.isnsSample q ma mv) s = .next (s.after ((((((t.bump b PD_OCP).evt b PD_EVT 7).raise .pdOcp (srcPd p) 0
           (leBytes 2 (t.get b PD_CONTRACT_MA) ++ leBytes 2 ma.toNat)).emit (.pdMsg p [])).hardReset p))))))
     ∧ (∀ (m : PdRx), s.pdSink p = true →
       (let t := s.setPd p { x with pdos := (m.objs.take 11).map (·.toNat),
                                    frs := ((m.objs.take 11).map (·.toNat)).headD 0 / 2 ^ 23 % 4 != 0 }
        exec (.sourceCapabilitiesRx q m) s = .next (s.after (t.sinkRequest p))))
     ∧ (∀ (m : PdRx), (s.pdSource p = true ∨ s.pdSink p = true) → (m.objs.headD 0).toNat / 2 ^ 24 = 5 →
       exec (.eprModeRx q m) s = .next (s.after (s.set b PD_PSTAT_EPR_MODE 0)))
     ∧ (∀ (m : PdRx),
       (let act := (m.objs.headD 0).toNat / 2 ^ 24
        let t := (s.set b PD_PSTAT_EPR_MODE 1).setPd p { x with kaAt := s.uptime }
        (s.pdSink p = true → act = 3 → s.polImage = true → exec (.eprModeRx q m) s = .next (s.after t))
        ∧ (s.pdSink p = true → act ≠ 5 → act ≠ 3 ∨ s.polImage = false → exec (.eprModeRx q m) s = .next (s.after s))
        ∧ (s.pdSource p = true → s.pdSink p = false → act = 1 → s.eprOk p = true →
          exec (.eprModeRx q m) s = .next (s.after ((t.pdData p 10 [3 * 2 ^ 24]).sendCaps p)))
        ∧ (s.pdSource p = true → s.pdSink p = false → act = 1 → s.eprOk p = false →
          exec (.eprModeRx q m) s = .next (s.after (s.pdData p 10 [4 * 2 ^ 24])))
        ∧ (s.pdSource p = true → s.pdSink p = false → act ≠ 1 → act ≠ 5 → exec (.eprModeRx q m) s = .next (s.after s))))
     ∧ (s.pdSource p = true → s.flag b PD_PSTAT_EPR_MODE = true →
       exec (.eprKeepaliveRx q) s
         = .next (s.after ((s.setPd p { x with kaAt := s.uptime }).pdExt p 16 (leBytes 1 4 ++ leBytes 1 0))))
     ∧ (s.pdSink p = true → s.flag b PD_PSTAT_CONTRACT = true → s.get b PD_PSTAT_KIND = 1 → x.reqAt + 8 * nsPerSec ≤ s.uptime →
       exec (.ppsRequestSend q) s
         = .next (s.after (s.sendRequest p 1 (s.get b PD_CONTRACT_MV) (s.get b PD_CONTRACT_MA) 0)))
     ∧ (s.pdSink p = true → s.flag b PD_PSTAT_EPR_MODE = true → x.kaAt + 400000000 ≤ s.uptime →
       exec (.eprKeepaliveSend q) s
         = .next (s.after ((s.setPd p { x with kaAt := s.uptime }).pdExt p 16 (leBytes 1 3 ++ leBytes 1 0))))
     ∧ (s.pdSource p = true → (s.flag b PD_PSTAT_EPR_MODE = true ∧ x.kaAt + nsPerSec ≤ s.uptime)
         ∨ (s.flag b PD_PSTAT_CONTRACT = true ∧ s.get b PD_PSTAT_KIND = 1 ∧ x.reqAt + 15 * nsPerSec ≤ s.uptime) →
       exec (.keepaliveTimeout q) s = .next (s.after ((s.emit (.pdMsg p [])).hardReset p))))
  ∧ (∀ (s : State) (q : Fin 3), s.Live → s.pdLive = true →
       let p := q.val
       let b := pdBase p
       let x := s.pd_ p
       let come (f : Nat → State) : Prop := exec (.prSwapRx q) s = .next (s.after (f 1))
         ∧ exec (.drSwapRx q) s = .next (s.after (f 2)) ∧ exec (.vconnSwapRx q) s = .next (s.after (f 3))
       (s.pdSource p = false → s.pdSink p = false → come fun _ => s)
       ∧ (s.pdSource p = true ∨ s.pdSink p = true →
         (x.swap = none → come fun k => if (s.swapVerdict p k).1 then
             ((s.swapVerdict p k).2.pdControl p msgAccept).swapGo p ⟨k, false, true, 0, false⟩
           else (s.swapVerdict p k).2.pdControl p msgReject)
         ∧ (∀ (w : PdSwap), x.swap = some w → w.own = false ∨ w.taken = true ∨ s.pdSource p = true →
           come fun _ => s.pdControl p msgWait)
         ∧ (∀ (w : PdSwap), x.swap = some w → w.own = true → w.taken = false → s.pdSource p = false →
           (let t := (s.bump b PD_SWAP_YIELDS).setPd p { x with swap := none }
            come fun k => if (t.swapVerdict p k).1 then
               ((t.swapVerdict p k).2.pdControl p msgAccept).swapGo p ⟨k, false, true, 0, true⟩
             else ((t.swapVerdict p k).2.pdControl p msgReject).wakeSwap p 0x0C04)))
       ∧ ((s.swapVerdict p 2).1 = (p == 0 && s.flag b PD_PSTAT_DFP))
       ∧ (∀ (w : PdSwap), x.swap = some w → w.own = true → w.taken = false →
         exec (.acceptRx q 0) s = .next (s.after (s.swapGo p w))
         ∧ exec (.acceptRx q 1) s = .next (s.after (((s.setPd p { x with swap := none }).wakeSwap p 0x0C03).polLate p))
         ∧ (w.waits < 2 → exec (.acceptRx q 2) s = .next (s.after
           ((s.setPd p { x with swap := some { w with waits := w.waits + 1 } }).pdControl p (swapMsg w.kind))))
         ∧ (2 ≤ w.waits → exec (.acceptRx q 2) s
           = .next (s.after (((s.setPd p { x with swap := none }).wakeSwap p 0x0C03).polLate p))))
       ∧ (∀ (a : PdAsk), x.swap = none → x.ask = some a → a.taken = false →
         exec (.acceptRx q 0) s = .next (s.after (s.setPd p { x with ask := some { a with taken := true } }))
         ∧ exec (.acceptRx q 1) s = .next (s.after ((s.setPd p { x with ask := none }).wakeRequest p 0x0C03))
         ∧ (a.waits < 2 → exec (.acceptRx q 2) s = .next (s.after (s.sendRequest p a.kind a.mv a.ma (a.waits + 1))))
         ∧ (2 ≤ a.waits → exec (.acceptRx q 2) s = .next (s.after ((s.setPd p { x with ask := none }).wakeRequest p 0x0C03))))
       ∧ (x.swap = none → x.ask = none → exec (.psRdyRx q) s = .next (s.after s)
         ∧ ∀ ans, exec (.acceptRx q ans) s = .next (s.after s))
       ∧ (∀ (w : PdSwap), x.swap = some w → w.taken = true →
         (w.kind = 1 → s.pdSource p = true → exec (.psRdyRx q) s = .next (s.after ((s.becomeSink p true).swapDone p w)))
         ∧ (w.kind = 1 → s.pdSource p = false → exec (.psRdyRx q) s
           = .next (s.after ((((s.becomeSource p).pdControl p msgPsRdy).swapDone p w).sendCaps p)))
         ∧ (w.kind = 3 → exec (.psRdyRx q) s = .next (s.after ((s.set b PD_PSTAT_VCONN_SRC 0).swapDone p w)))
         ∧ (w.kind = 4 → exec (.psRdyRx q) s = .next (s.after ((s.setPd p { x with snkEn := true }).swapDone p w))))
       ∧ (∀ (a : PdAsk), x.swap = none → x.ask = some a → a.taken = true →
         (let t := ((s.setPd p { x with ask := none }).contractOn p a.mv a.ma a.kind).wakeRequest p 0
          exec (.psRdyRx q) s = .next (s.after (if t.polImage = true ∧ t.flag b PD_PCFG_EPR_EN = true
              ∧ t.flag b PD_PSTAT_EPR_MODE = false ∧ bitAt (x.pdos.headD 0) 23 = true then t.pdData p 10 [2 ^ 24] else t))))
       ∧ (s.frsOn p = false ∨ s.pdSink p = false ∨ s.deadBatt p = true → exec (.frsSignalRx q) s = .next (s.after s))
       ∧ (s.frsOn 0 = false ∨ s.pdSource 0 = false ∨ (s.pd_ 0).srcEn = false → exec .frsSourceLoss s = .next (s.after s))
       ∧ (s.frsOn p = true → s.pdSink p = true → s.deadBatt p = false →
         exec (.frsSignalRx q) s
           = .next (s.after (((((s.frsCount p).becomeSource p).pdControl p msgFrSwap).sendCaps p))))
       ∧ (s.frsOn 0 = true → s.pdSource 0 = true → (s.pd_ 0).srcEn = true →
         (let t := ((s.frsCount 0).emit (.pdMsg 0 [0xFF#8])).becomeSink 0 false
          exec .frsSourceLoss s
            = .next (s.after (t.setPd 0 { t.pd_ 0 with swap := some ⟨4, false, true, 0, false⟩ })))))

/-- The safety functions' rows (R457, R467 to R470, R473): an input or a tick triggers, the units confirm, the tested inputs
pulse and are checked, a trip test fails, and the functions resume after a warm reset. A trigger (R467): only an armed
function that runs and is not triggered yet is triggered; its cause, count and event, its output lines, its channels, and its
record. One found while the Crucible's outputs are held waits (R459). -/
def Obligations.SafetyRows : Prop :=
  (∀ (s : State), s.Live →
     (∀ (j stamp : Nat) (level : Bool) (rest : List (Nat × Nat × Bool)), s.sfRuns = true →
       s.flag crucBase CRUC_STAT_RESYNC = false → s.cruc.inputs = (j, stamp, level) :: rest →
       (let t := s.withCruc fun c => { c with inputs := rest }
        exec .safetyInput s = .next (s.after
          (if t.sfInputs.any fun k => bitsOf (t.sfInWord k) 0 8 == j && (t.sfInWord k).getLsbD 9 == level
           then t.sfTrigger 1 4 stamp else t))))
     ∧ (s.sfRuns = false ∨ s.flag crucBase CRUC_STAT_RESYNC = true ∨ s.cruc.inputs = [] →
       exec .safetyInput s = .next (s.after s))
     ∧ (s.ringLost = true → exec .safetyTick s = .next (s.after (s.sfTrigger 0 2 s.crucNow)))
     ∧ (s.ringLost = false → s.hbLapsed = true → exec .safetyTick s = .next (s.after (s.sfTrigger 0 3 s.crucNow)))
     ∧ (s.ringLost = false → s.hbLapsed = false → exec .safetyTick s = .next (s.after s))
     ∧ (∀ (sf : Fin 3),
       (s.cruc.confirm.contains sf.val = false ∨ s.sfRuns = false → exec (.safeConfirm sf) s = .next (s.after s))
       ∧ (s.cruc.confirm.contains sf.val = true → s.sfRuns = true →
         (let t := s.withCruc fun c => { c with confirm := c.confirm.filter (· != sf.val) }
          (sf.val < 2 → s.sfTriggered sf.val = false → exec (.safeConfirm sf) s = .next (s.after t))
          ∧ (sf.val < 2 → s.sfTriggered sf.val = true →
            (let u := ((t.set (sfBase sf.val) SF_CTRL_SAFE 1).evt crucBase CRUC_EVT 4).sfRecord sf.val 2 t.crucNow
             exec (.safeConfirm sf) s = .next (s.after (u.wake 0x0D03 sf.val 0 0 (u.sfCtrlBytes sf.val)))))
          ∧ (sf.val = 2 → s.cruc.holds = [] → exec (.safeConfirm sf) s = .next (s.after t))
          ∧ (sf.val = 2 → s.cruc.holds ≠ [] →
            (let u := t.withCruc fun c => { c with holds := c.holds.map fun h => (h.1, h.2.1, true) }
             exec (.safeConfirm sf) s = .next (s.after (if s.flag (sfBase 2) SF_CTRL_SAFE = true then u
               else (u.set (sfBase 2) SF_CTRL_SAFE 1).evt crucBase CRUC_EVT 4)))))))
     ∧ (s.sfArmed 1 = true → s.sfRuns = true → s.sfTested ≠ [] → s.cruc.pulse = none →
       s.cruc.pulseAt + 1000 * s.get (sfBase 1) SF_PARAM0_LOW ≤ s.uptime →
       exec .inputTestPulse s
         = .next (s.after (s.withCruc fun c => { c with pulse := some s.uptime, pulseAt := s.uptime })))
     ∧ (s.sfArmed 1 = false ∨ s.sfRuns = false ∨ s.sfTested = [] ∨ s.cruc.pulse.isSome = true
         ∨ s.uptime < s.cruc.pulseAt + 1000 * s.get (sfBase 1) SF_PARAM0_LOW →
       exec .inputTestPulse s = .next (s.after s))
     ∧ ((∀ at_, s.cruc.pulse = some at_ → s.sfArmed 1 = false ∨ s.sfRuns = false
         ∨ s.uptime < at_ + 1000 * s.get (sfBase 1) SF_PARAM0_HIGH) →
       exec .inputTestCheck s = .next (s.after s))
     ∧ (∀ (at_ : Nat), s.cruc.pulse = some at_ → s.sfArmed 1 = true → s.sfRuns = true →
       at_ + 1000 * s.get (sfBase 1) SF_PARAM0_HIGH ≤ s.uptime →
       exec .inputTestCheck s
         = .next (s.after ((s.each s.sfTested fun s k => s.testJudge k).withCruc fun c => { c with pulse := none })))
     ∧ (∀ (c : Fin 64) (cmp : Fin 2) (bad : Bool), (s.die (c.val / 32)).powered = false ∨ s.nPch ≤ c.val
         ∨ s.fenced (.pedie (c.val / 32)) = true →
       exec (.tripTest c cmp bad) s = .next (s.after s))
     ∧ (∀ (c : Fin 64) (cmp : Fin 2), (s.die (c.val / 32)).powered = true → c.val < s.nPch → s.fenced (.pedie (c.val / 32)) = false →
       (s.cruc.tripBad.contains (2 * c.val + cmp.val) = true → exec (.tripTest c cmp true) s = .next (s.after s))
       ∧ (s.cruc.tripBad.contains (2 * c.val + cmp.val) = false →
         exec (.tripTest c cmp true) s = .next (s.after ((s.withCruc fun x =>
           { x with tripBad := x.tripBad ++ [2 * c.val + cmp.val] }).raise .pedieTripTest (srcPch c.val) 0 (leBytes 1 cmp.val))))
       ∧ exec (.tripTest c cmp false) s = .next (s.after (s.withCruc fun x =>
           { x with tripBad := x.tripBad.filter (· != 2 * c.val + cmp.val) })))
     ∧ (s.cruc.paused = false → exec .safetyResume s = .next (s.after s))
     ∧ (s.cruc.paused = true →
       (let t := s.withCruc fun c => { c with paused := false, later := [], waits := [], pulse := none, pulseAt := s.uptime }
        let t := s.cruc.copies.foldl (fun (t : State) c =>
          let u := ((t.wr (lineBase c.line) c.lcfg).wr (lineBase c.line + 4) c.lfilt).wr (lineBase c.line + 8) c.lcmp
          (u.setLatch c.line c.latch).lineWritten c.line (t.lineMode c.line)) t
        let t := if t.sfDemands then t.sfTrigger 1 4 t.crucNow else t
        let t := if t.sfBankDown then t.sfTrigger 1 6 t.crucNow else t
        let t := if t.singleLane then (t.sfTrigger 0 7 t.crucNow).sfTrigger 1 7 t.crucNow else t
        exec .safetyResume s = .next (s.after (t.actOn s.cruc.waits s.cruc.later)))))
  ∧ (∀ (s : State) (i cause stamp : Nat), i < 2 →
       (s.sfArmed i = false ∨ s.sfTriggered i = true ∨ s.sfRuns = false → s.sfTrigger i cause stamp = s)
       ∧ (s.sfArmed i = true → s.sfTriggered i = false → s.sfRuns = true → s.votesWait = true →
         s.sfTrigger i cause stamp = s.withCruc fun c => { c with waits := c.waits ++ [(i, cause, stamp)] })
       ∧ (s.sfArmed i = true → s.sfTriggered i = false → s.sfRuns = true → s.votesWait = false →
         (let b := sfBase i
          let t := ((s.set b SF_CTRL_TRIGGERED 1).set b SF_CTRL_SAFE 0).set b SF_CTRL_CAUSE cause
          let t := (t.bump crucBase (if i = 0 then SF_TRIGGERS_E else SF_TRIGGERS_A)).evt crucBase CRUC_EVT 3
          let t := (t.withCruc fun c => { c with confirm := c.confirm ++ [i] }).linesDrop (s.sfOutLines i)
          let t := t.each ((s.sfChannels i).filter fun c => decide (c < s.nPch)) fun s c => s.pchFollow c 1
          s.sfTrigger i cause stamp = t.sfRecord i 1 stamp)))

/-- The lanes (R458, R459, R461, R462, R464): three equal words are issued, a dissenting lane is outvoted and fenced, three
different words raise CRUC_NO_MAJORITY; a vote hold ends; Assay slices, the foreground Assays of a disagreement, and a lane
that has been loaded. -/
def Obligations.LaneRows : Prop :=
  ∀ (s : State), s.Live →
    (∀ (t : LaneWords), s.lanes = [0, 1, 2] →
      (t.w0 = t.w1 → t.w1 = t.w2 → exec (.outputTransaction t) s = .next (s.after (s.issue t.w0)))
      ∧ (t.w0 = t.w1 → t.w1 ≠ t.w2 → exec (.outputTransaction t) s = .next (s.after (s.dissent 2 t.w0)))
      ∧ (t.w0 ≠ t.w1 → t.w0 = t.w2 → exec (.outputTransaction t) s = .next (s.after (s.dissent 1 t.w0)))
      ∧ (t.w0 ≠ t.w1 → t.w0 ≠ t.w2 → t.w1 = t.w2 → exec (.outputTransaction t) s = .next (s.after (s.dissent 0 t.w1)))
      ∧ (t.w0 ≠ t.w1 → t.w0 ≠ t.w2 → t.w1 ≠ t.w2 →
        exec (.outputTransaction t) s = .next (s.after (s.raise .crucNoMajority (srcIsland 3) 0 []))))
    ∧ (∀ (t : LaneWords) (a b : Nat), s.lanes = [a, b] →
      exec (.outputTransaction t) s = .next (s.after
        (if laneWord t a = laneWord t b then s.issue (laneWord t a) else s.dualDiffer a (laneWord t a) b (laneWord t b))))
    ∧ (∀ (t : LaneWords) (a : Nat), s.lanes = [a] → exec (.outputTransaction t) s = .next (s.after (s.issue (laneWord t a))))
    ∧ (∀ (t : LaneWords), s.lanes = [] → exec (.outputTransaction t) s = .next (s.after s))
    ∧ (s.cruc.holdAt = none → exec .voteHoldEnd s = .next (s.after s))
    ∧ (∀ (l : Fin 3) (cls : Fin 7) (last : Bool), s.inControl l.val = false ∨ s.votesWait = true →
      exec (.assaySlice l cls last) s = .next (s.after s))
    ∧ (∀ (l : Fin 3), s.cruc.resync ≠ some l.val → exec (.laneResyncDone l) s = .next (s.after s))
    ∧ (∀ (c0 c1 c2 : Fin 7), s.cruc.dual = none → exec (.dualAssayDone c0 c1 c2) s = .next (s.after s))
    ∧ (∀ (at_ : Nat), s.cruc.holdAt = some at_ →
      exec .voteHoldEnd s = .next (s.after (((s.set crucBase CRUC_HOLD_LAST_CYCLES (min 64 ((s.uptime - at_) * 2 / 5))).withCruc
        fun c => { c with holdAt := none }).issueHeld)))
    ∧ (∀ (l : Fin 3), s.inControl l.val = true → s.votesWait = false →
      let b := assayBase l.val
      (exec (.assaySlice l 0 true) s = .next (s.after ((((s.set b CRUC_ASSAY_PASS 1).set b CRUC_ASSAY_VALID 1).set b
        CRUC_ASSAY_FAIL_CLASS 0).set b CRUC_ASSAY_CYCLES (s.get b CRUC_ASSAY_CYCLES + 1))))
      ∧ exec (.assaySlice l 0 false) s = .next (s.after s)
      ∧ (∀ (cls : Fin 7) (last : Bool) (x y : Nat), cls ≠ 0 → s.lanes = [x, y] →
        exec (.assaySlice l cls last) s = .next (s.after (s.dualDiffer x none y none)))
      ∧ (∀ (cls : Fin 7) (last : Bool) (x : Nat), cls ≠ 0 → s.lanes = [x] →
        exec (.assaySlice l cls last) s = .next (s.after ((((s.set b CRUC_ASSAY_PASS 0).set b CRUC_ASSAY_FAIL_CLASS
          cls.val).bump crucBase CRUC_ASSAY_FAILS).evt crucBase CRUC_EVT 2 |>.raise .crucNoLane (srcIsland 3) 0
            (leBytes 1 (classMask [cls.val])))))
      ∧ (∀ (cls : Fin 7) (last : Bool), cls ≠ 0 → s.lanes = [0, 1, 2] →
        exec (.assaySlice l cls last) s = .next (s.after ((((((s.set b CRUC_ASSAY_PASS 0).set b CRUC_ASSAY_FAIL_CLASS
          cls.val).bump crucBase CRUC_ASSAY_FAILS).evt crucBase CRUC_EVT 2).dissentHold l.val).raise .crucAssayFail
            (srcLane l.val) 0 (leBytes 1 cls.val)))))
    ∧ (∀ (c0 c1 c2 : Fin 7) (a b : Nat) (wa wb : Option LaneWord), s.cruc.dual = some (a, wa, b, wb) →
      let cls := laneClasses c0 c1 c2
      let t := (((s.set crucBase CRUC_STAT_ASSAY_HOLD 0).withCruc fun c => { c with dual := none }).assayResult a
        (cls a)).assayResult b (cls b)
      (cls a = 0 → cls b = 0 →
        exec (.dualAssayDone c0 c1 c2) s = .next (s.after (t.raise .crucDualUnresolved (srcIsland 3) 0 [])))
      ∧ (cls a ≠ 0 → cls b = 0 → exec (.dualAssayDone c0 c1 c2) s = .next (s.after
          (((t.raise .crucAssayFail (srcLane a) 0 (leBytes 1 (cls a))).issue wb).issueHeld)))
      ∧ (cls a = 0 → cls b ≠ 0 → exec (.dualAssayDone c0 c1 c2) s = .next (s.after
          (((t.raise .crucAssayFail (srcLane b) 0 (leBytes 1 (cls b))).issue wa).issueHeld)))
      ∧ (cls a ≠ 0 → cls b ≠ 0 → exec (.dualAssayDone c0 c1 c2) s = .next (s.after
          (t.raise .crucNoLane (srcIsland 3) 0 (leBytes 1 (classMask [cls a, cls b]))))))
    ∧ (∀ (l : Fin 3), s.cruc.resync = some l.val →
      (let t := (s.set crucBase CRUC_STAT_RESYNC 0).withCruc fun c => { c with resync := none }
       let t := (t.setFence (.lane l.val) false).set crucBase CRUC_STAT_LANES (setBit (t.get crucBase CRUC_STAT_LANES) l.val true)
       let t := ((t.laneMode).bump crucBase CRUC_REJOINS).fenceMarker (.lane l.val) true
       exec (.laneResyncDone l) s = .next (s.after (t.issueHeld.wake 0x0D04 l.val 0 0 (leBytes 4 1)))))

/-- The fault rows (R485, R491, R496): the collector takes the first fault in its order, the injection key opens for one write,
and a watchdog resets its island, which starts again after 1 ms. -/
def Obligations.FaultRows : Prop :=
  ∀ (s : State), s.Live →
    (∀ (r : Raised), firstRaised (s.fault.latches ++ s.fault.intake) = some r → r.forced = false →
      (let f := { s.fault with latches := s.fault.latches.erase r, intake := s.fault.intake.erase r }
       exec .faultCollect s = .next (s.after (({ s with fault := f } : State).collect r))))
    ∧ (∀ (r : Raised), firstRaised (s.fault.latches ++ s.fault.intake) = some r → r.forced = true →
      (let f := { s.fault with latches := s.fault.latches.erase r, intake := s.fault.intake.erase r }
       exec .faultCollect s = .next (s.after ((({ s with fault := f } : State).collect r).wake 0x0E02 0 0 0
         (leBytes 2 (s.get faultBase FAULT_SEQ_NEXT) ++ leBytes 2 0)))))
    ∧ (firstRaised (s.fault.latches ++ s.fault.intake) = none → exec .faultCollect s = .next (s.after s))
    ∧ (∀ (key : BitVec 8), exec (.faultForceKey key) s
        = .next (s.after { s with fault := { s.fault with keyOpen := key == 0xA5#8 } }))
    ∧ (∀ (w : Word),
      let t : State := { s with fault := { s.fault with keyOpen := false } }
      let code := bitsOf w 0 8
      let src := bitsOf w 8 12
      exec (.faultForce w) s = .next (s.after
        (if s.fault.keyOpen = true ∧ w.getLsbD 31 = true ∧ t.injectCheck code src = 0 then t.inject code src 0 else t)))
    ∧ (∀ (i cause : Fin 3), (s.isl (19 + i.val)).givenUp = false → (s.isl (19 + i.val)).inReset = false →
      exec (.islandWatchdog i cause) s
        = .next (s.after (s.raise .islandHang (srcIsland (19 + i.val)) 0 (leBytes 1 cause.val))))
    ∧ (∀ (i cause : Fin 3), (s.isl (19 + i.val)).givenUp = true ∨ (s.isl (19 + i.val)).inReset = true →
      exec (.islandWatchdog i cause) s = .next (s.after s))
    ∧ (∀ (i : Fin 3), (s.isl (19 + i.val)).inReset = false ∨ (s.isl (19 + i.val)).givenUp = true
        ∨ s.uptime < (s.isl (19 + i.val)).since + 1000000 → exec (.islandRestart i) s = .next (s.after s))
    ∧ (∀ (i : Fin 3), (s.isl (19 + i.val)).inReset = true → (s.isl (19 + i.val)).givenUp = false →
      (s.isl (19 + i.val)).since + 1000000 ≤ s.uptime →
      (let t := (s.setIsl (19 + i.val) { s.isl (19 + i.val) with inReset := false }).queuesStart (islandQueues (19 + i.val))
       exec (.islandRestart i) s = .next (s.after (if i.val = 1 then t.policyEval.pdRestart else t))))

/-- The rows of boot, warm reset and power states (R376, R501, R503 to R514): each boots, resets, gates, wakes, enters or leaves
Standby as its condition stands. -/
def Obligations.PowerRows : Prop :=
  ∀ (s : State),
    (∀ (e : BootEnv), e.cold = true →
      exec (.powerOn e) s = .next (({ s with fault := {} } : State).after (s.boot e 0)))
    ∧ (∀ (e : BootEnv), e.cold = false →
      exec (.powerOn e) s = .next (s.after (s.boot e (if s.sys.fresh then 0 else if s.sys.brown then 2 else 1))))
    ∧ (s.sys.standby = true → exec .brownout s = .next (s.after s))
    ∧ (s.sys.standby = false →
      exec .brownout s = .next (s.after (((s.bump aonBase AON_BOR_CNT).set aonBase AON_RST_CAUSE_CAUSE 2).withSys fun x =>
        { x with up := false, brown := true, stby := none })))
    ∧ (∀ (e : BootEnv), s.sys.up = true → s.sys.warm = false → s.inHeld = false → s.sys.standby = false →
      (let cause := s.warmCause
       let t := (((s.warmCancel).warmParts.warmUnits).usbIslandReset true).pdIslandReset true
       let t := (t.slotsZero).started cause
       let t := (t.set 0 SYS_BOOT_STAT_STEP 3).selfTests e.fails warmTested
       let t := (((t.set 0 SYS_BOOT_STAT_STEP 4).calibLoad false).reclaimId.activated).policyEval
       exec (.warmReset e) s = .next (s.after (((t.set 0 SYS_BOOT_STAT_STEP 6).loadBundle false).stepSeven))))
    ∧ (∀ (e : BootEnv), s.sys.up = true → s.sys.warm = true ∨ s.inHeld = true ∨ s.sys.standby = true →
      exec (.warmReset e) s = .next (s.after s))
    ∧ (s.Live → s.cmd.scriptRun = false ∨ (s.cmd.entries.any fun e => e.key.transport == .boot) = true →
      exec .bootScriptPacket s = .next (s.after s) ∧ exec .readySet s = .next (s.after s))
    ∧ (s.Live → s.cmd.scriptRun = true → (s.cmd.entries.any fun e => e.key.transport == .boot) = false →
      (∀ (p : List Byte) (rest : List (List Byte)), s.cmd.script = p :: rest→
        (let c := { s.cmd with script := rest, scriptAt := s.cmd.scriptNext,
                               scriptNext := s.cmd.scriptNext + (p.length + 3) / 4 * 4 }
         exec .bootScriptPacket s = .next (s.after (if p.length < 16 + pktPlen p then
             ({ s with cmd := c } : State).scriptStop (pktOp p) 0x21 else ({ s with cmd := c } : State).accept .boot 0 0 p)))
        ∧ exec .readySet s = .next (s.after s))
      ∧ (s.cmd.script = [] → exec .bootScriptPacket s = .next (s.after s))
      ∧ (s.cmd.script = [] →
        exec .readySet s = .next (s.after
          ((({ s with cmd := { s.cmd with scriptRun := false } } : State).set 0 SYS_BOOT_STAT_SCRIPT 1).readySet))))
    ∧ (∀ (i : Fin 23), s.Live →
      (let since := Tbl.get (fun _ => 0) s.sys.idle i.val
       let due := s.get 0 SYS_PWR_STATE = 1 ∧ gateIslands.contains i.val = true ∧ s.gateCond i.val = true
         ∧ s.sys.gated.contains i.val = false ∧ since ≠ 0 ∧ since + 1000000 ≤ s.uptime + 1
       (due → exec (.islandGate i) s = .next (s.after (s.withSys fun x =>
         { x with gated := x.gated ++ [i.val], idle := Tbl.put (fun _ => 0) x.idle i.val 0 })))
       ∧ (¬ due → exec (.islandGate i) s = .next (s.after s)))
      ∧ (s.sys.waking.contains i.val = false → exec (.islandWake i) s = .next (s.after s))
      ∧ (s.sys.waking.contains i.val = true → exec (.islandWake i) s = .next (s.after (s.islandAwake i.val))))
    ∧ (∀ (t : Nat), s.Live → s.sys.stby = some t → t ≤ s.uptime →
      exec .standbyEntry s = .next (s.after (if s.standbyOk then s.standbyGo
        else (s.set 0 SYS_PWR_STBY_CANCELLED 1).stbyCancel)))
    ∧ (s.Live → (∀ t, s.sys.stby = some t → s.uptime < t) → exec .standbyEntry s = .next (s.after s))
    ∧ (∀ (src : Fin 8), bitAt (s.get aonBase AON_WAKE_EN_EN) src.val = true → s.sys.stby.isSome = true → s.sys.up = true →
      exec (.standbyWake src) s = .next (s.after (s.bump aonBase AON_WAKES).stbyCancel))
    ∧ (∀ (src : Fin 8), bitAt (s.get aonBase AON_WAKE_EN_EN) src.val = false
        ∨ ((s.sys.stby = none ∨ s.sys.up = false) ∧ (s.sys.standby = false ∨ s.sys.wokeAt.isSome = true)) →
      exec (.standbyWake src) s = .next (s.after s))
    ∧ (∀ (e : BootEnv), (∀ t, s.sys.wokeAt = some t → s.sys.standby = false ∨ s.uptime < t + 1000000) →
      exec (.wakeSupplyReady e) s = .next (s.after s))
    ∧ (s.sys.up = true → s.timeValid = false ∨ s.sys.aonSec = some (s.ring / nsPerSec) →
      exec .aonTimeWrite s = .next (s.after s))
    ∧ (∀ (src : Fin 8), bitAt (s.get aonBase AON_WAKE_EN_EN) src.val = true → s.sys.stby = none → s.sys.standby = true →
      s.sys.wokeAt = none →
      exec (.standbyWake src) s = .next (s.after (((s.bump aonBase AON_WAKES).set aonBase AON_WAKE_SRC_SRC (2 ^ src.val)).withSys
        fun x => { x with wokeAt := some s.uptime })))
    ∧ (∀ (e : BootEnv) (t : Nat), s.sys.wokeAt = some t → s.sys.standby = true → t + 1000000 ≤ s.uptime →
      exec (.wakeSupplyReady e) s = .next (s.after (s.boot { e with cold := false } 3)))
    ∧ (s.sys.up = true → s.timeValid = true → s.sys.aonSec ≠ some (s.ring / nsPerSec) →
      exec .aonTimeWrite s = .next (s.after (((s.setAon (s.ring * 32768 / nsPerSec)).set aonBase AON_STAT_TIME_VALID 1).withSys
        fun x => { x with aonSec := some (s.ring / nsPerSec) })))
    ∧ (∀ (d : Fin 2), s.unitPresent (.pedie d.val) = false → exec (.pedieSupplyRise d) s = .next (s.after s))
    ∧ (∀ (d : Fin 2), s.unitPresent (.pedie d.val) = true →
      (let x : DieUnit := { powered := true, risen := true, frameAt := s.uptime }
       let t := (s.setDie d.val x).resetRange (pchBase (32 * d.val)) (pchBase (32 * d.val + 32)) fun _ => false
       let t := t.each (t.dieChannels d.val) fun s c => s.setPch c {}
       let u := t.resetRange 0x440000 0x450000 fun _ => false
       (d.val = 1 → exec (.pedieSupplyRise d) s = .next (s.after t))
       ∧ (d.val = 0 → exec (.pedieSupplyRise d) s
         = .next (s.after { u with power := { u.power with feeds := [], sel := {} } }))))
    ∧ (∀ (t0 t1 : Word), s.sys.up = true →
      (let main := bitsOf t0 0 16
       let t := s.set 0 SYS_TEMP0_MAIN main
       let t := if toSigned 16 (s.get 0 SYS_TEMP0_MAIN_MAX) < toSigned 16 main then t.set 0 SYS_TEMP0_MAIN_MAX main else t
       let pe (d : Nat) := if s.fenced (.pedie d) ∨ s.unitPresent (.pedie d) = false then 0x8000 else bitsOf t1 (16 * d) 16
       exec (.temperatureReading t0 t1) s = .next (s.after ((t.set 0 SYS_TEMP1_PE0 (pe 0)).set 0 SYS_TEMP1_PE1 (pe 1)))))

/-- The rows of updates, calibration and the test access port (R524, R526 to R528, R534, R561, R562). -/
def Obligations.UpdateRows : Prop :=
  ∀ (s : State),
    (∀ (bs : List Byte), s.Live → s.upd.writing = some bs →
      (let t := (s.set updBase UPD_STAT_IMG_WRITE 0).withUpd fun u => { u with writing := none, reserve := bs }
       exec .updReserveWriteDone s = .next (s.after
         ((if t.get updBase UPD_STAT_STATE = 2 then t.updState 3 else t).evt updBase UPD_EVT 0))))
    ∧ (s.Live → s.upd.writing = none → exec .updReserveWriteDone s = .next (s.after s))
    ∧ (s.Live → s.actPending = false → exec .updActivation s = .next (s.after s))
    ∧ (s.Live → s.actPending = true →
      (let w := s.actWatch
       (w.timeValid = false ∨ w.crucNow < w.actAt → exec .updActivation s = .next (s.after w))
       ∧ (w.timeValid = true → w.actAt ≤ w.crucNow →
         (let img := w.flag updBase UPD_ACT_FLAGS_IMAGE
          let bun := w.flag updBase UPD_ACT_FLAGS_BUNDLE
          let t := if w.upd.late = true then (w.raise .updActivateMissed srcHub 0
            (leBytes 4 (min (2 ^ 32 - 1) ((w.crucNow - w.actAt) / 1000)))).evt updBase UPD_EVT 3 else w
          let st := t.updRefusal (if img then some (imgSec t.upd.reserve) else none)
          (st ≠ 0 → exec .updActivation s = .next (s.after ((t.countRefusal st).evt updBase UPD_EVT 2).actEnd))
          ∧ (st = 0 →
            (let v := t.bump updBase UPD_ACTIVATIONS
             let x := v.actEnd.withUpd fun u =>
               { u with acting := true, late := v.upd.late, slot := if bun then 1 - u.slot else u.slot,
                        copying := if img then some 0 else u.copying }
             let y := if bun = true then x.set updBase UPD_STAT_BUNDLE_STAGED 0 else x
             exec .updActivation s
               = .next (s.after { y with cmd := { y.cmd with warmResetAt := some (y.uptime + 100000) } })))))))
    ∧ (s.Live → s.upd.copying = none ∨ s.copyGoes = false → exec .copyBlock s = .next (s.after s))
    ∧ (s.Live → (∀ m end_, s.upd.calWrite = some (m, end_) → s.uptime < end_) →
      exec .calibMtpWriteDone s = .next (s.after s))
    ∧ (∀ (n : Nat), s.Live → s.upd.copying = some n → s.copyGoes = true →
      n + 1 < copyBlocks s.upd.reserve →
      exec .copyBlock s = .next (s.after ((s.set updBase UPD_COPY_DONE (n + 1)).withUpd fun u =>
        { u with running := s.upd.reserve.take (65536 * (n + 1)) ++ s.upd.running.drop (65536 * (n + 1)),
                 copying := some (n + 1) })))
    ∧ (∀ (n : Nat), s.Live → s.upd.copying = some n → s.copyGoes = true →
      copyBlocks s.upd.reserve ≤ n + 1 →
      (let r := s.upd.reserve
       let t := (s.set updBase UPD_COPY_DONE (n + 1)).withUpd fun u => { u with running := r, copying := some (n + 1) }
       let t := t.withUpd fun u => { u with copying := none, rollback := max u.rollback (imgSec r) }
       let t := if t.actPending then t.withUpd fun u => { u with prior := 0 } else t.updState 0
       exec .copyBlock s = .next (s.after ((t.set updBase UPD_STAT_IMG_WRITE 0).evt updBase UPD_EVT 4))))
    ∧ (∀ (m : Tbl Byte) (end_ : Nat), s.Live → s.upd.calWrite = some (m, end_) → end_ ≤ s.uptime →
      (let t := (s.withUpd fun u => { u with array := m, calib := m, calWrite := none }).set calibBase CALIB_STAT_DEFAULT 0
       let t := t.set 0 SYS_BOOT_STAT_CALIB_DEFAULT 0
       exec .calibMtpWriteDone s = .next (s.after (t.wake 0x8F00 0 0 0
         (leBytes 4 (leNat ((List.range 4).map fun i => Tbl.get (fun _ => 0#8) m (8 + i))))))))
    ∧ (∀ (b : BitVec 1),
      (let t := (s.tapIr 0xFF).emit (.tdo [s.tap.bypass])
       exec (.tapBypass b) s = .next (s.after { t with tap := { t.tap with bypass := b.getLsbD 0 } })))
    ∧ exec .tapIdcode s = .next (s.after ((s.tapIr 1).emit (.tdo s.tapId)))
    ∧ (∀ (v : List Bool),
      (let r := s.takeFree
       let t := (r.2.tapIr 2).emit (.tdo ((List.range v.length).map (Sys2Proof.Config.padLevel r.1)))
       exec (.tapSamplePreload v) s = .next (s.after { t with tap := { t.tap with boundary := v } })))
    ∧ exec .tapExtest s = .next (s.after { s with tap := { s.tap with
        ir := 0, force := if s.sys.pwron then none else some 0 } })
    ∧ exec .tapClamp s = .next (s.after { s with tap := { s.tap with
        ir := 3, force := if s.sys.pwron then none else some 3 } })
    ∧ exec .tapHighz s = .next (s.after { s with tap := { s.tap with
        ir := 4, force := if s.sys.pwron then none else some 4 } })

/-! ### Commands (chapter 4 and the command tables of each chapter) -/

/-- The commands of groups 0x00 and 0x01 (R34, R114, R122 to R124, R516): each completes with the status and the result the spec
gives it, and leaves the effect it is ordered for. The commands that read the log, write and read register lists, and lay the
store out (R118, R122 to R124): a register list is written in order; a partition takes its range unless it is a fixed one,
the range is taken, or its owner runs. -/
def Obligations.SystemCommands : Prop :=
  (∀ (s : State) (k : CmdKey) (e : CmdEntry),
     s.Completes k e (.sysNop k) 0x0000 0 0 [] s
     ∧ s.Completes k e (.sysIdentify k) 0x0001 0 0 s.identity s
     ∧ (∀ (e2 : CmdEntry), e.arg 0 2 ≠ 0 → e.arg 2 2 = 0 → s.entry { k with tag := e.arg 0 2 } = some e2 → e2.phase = .accepted →
       pktOp e2.packet ≠ 2 → s.Completes k e (.sysAbort k) 0x0002 4 0 [] (s.abortOne e2))
     ∧ (e.arg 0 2 ≠ 0 → e.arg 2 2 = 0 → s.entry { k with tag := e.arg 0 2 } = none →
       s.Completes k e (.sysAbort k) 0x0002 4 0x10 [] s)
     ∧ (e.arg 0 2 ≠ 0 → e.arg 2 2 = 0 →
       s.Completes k e (.sysAbort k) 0x0002 4 (s.abort k (e.arg 0 2)).1 [] (s.abort k (e.arg 0 2)).2)
     ∧ (e.arg 0 2 = 0 ∨ e.arg 2 2 ≠ 0 → s.Completes k e (.sysAbort k) 0x0002 4 0x22 [] s)
     ∧ (∀ (code : BitVec 16), unfenceUnit e.unit = none → s.Completes k e (.sysUnfence k code) 0x0004 0 0x22 [] s)
     ∧ (s.flag updBase UPD_STAT_IMG_WRITE = true → s.Completes k e (.sysWarmReset k) 0x0005 0 0x24 [] s)
     ∧ (2 < e.arg 0 1 ∨ e.arg 1 3 ≠ 0 ∨ e.arg 5 3 ≠ 0 ∨ e.arg 14 2 ≠ 0 →
       s.Completes k e (.sysPowerState k) 0x0006 16 0x22 [] s)
     ∧ (e.arg 0 1 = 2 → e.arg 1 3 = 0 → e.arg 5 3 = 0 → e.arg 14 2 = 0 →
       (let t := s.set 0 SYS_PWR_STBY_CANCELLED 0
        let r := t.powerTo 2 (e.arg 4 1) (e.arg 8 6)
        (t.get 0 SYS_PWR_STATE = 2 → s.Completes k e (.sysPowerState k) 0x0006 16 0 (leBytes 4 2) t)
        ∧ (t.get 0 SYS_PWR_STATE ≠ 2 → r.1 = 0 →
          s.Completes k e (.sysPowerState k) 0x0006 16 0 (leBytes 4 (r.2.get 0 SYS_PWR_STATE)) r.2)
        ∧ (t.get 0 SYS_PWR_STATE ≠ 2 → r.1 ≠ 0 → s.Completes k e (.sysPowerState k) 0x0006 16 r.1 [] t)))
     ∧ (∀ (code : BitVec 16) (u : FenceUnit), unfenceUnit e.unit = some u →
       (s.fenced u = false → s.Completes k e (.sysUnfence k code) 0x0004 0 0 (leBytes 1 0) s)
       ∧ (s.fenced u = true → s.unfenceCode u code.toNat = 0 →
         s.Completes k e (.sysUnfence k code) 0x0004 0 0 (leBytes 1 1) (s.unfence u))
       ∧ (s.fenced u = true → s.unfenceCode u code.toNat ≠ 0 →
         s.Completes k e (.sysUnfence k code) 0x0004 0 0xF0 []
           (s.raise .selftestFail (selfSource u) 0 (leBytes 2 (s.unfenceCode u code.toNat)))))
     ∧ (s.flag updBase UPD_STAT_IMG_WRITE = false →
       s.Completes k e (.sysWarmReset k) 0x0005 0 0 []
         { s with cmd := { s.cmd with warmResetAt := some (s.uptime + 1000000) } })
     ∧ (e.arg 0 1 < 2 → e.arg 1 3 = 0 → e.arg 5 3 = 0 → e.arg 14 2 = 0 →
       (let t := (s.set 0 SYS_PWR_STBY_CANCELLED 0).withSys fun x => { x with named := true }
        (t.get 0 SYS_PWR_STATE = e.arg 0 1 →
          s.Completes k e (.sysPowerState k) 0x0006 16 0 (leBytes 4 (t.get 0 SYS_PWR_STATE)) t)
        ∧ (t.get 0 SYS_PWR_STATE < 2 → t.get 0 SYS_PWR_STATE ≠ e.arg 0 1 → (e.arg 0 1 = 1 → t.economyOk = true) →
          s.Completes k e (.sysPowerState k) 0x0006 16 0 (leBytes 4 ((t.powerState (e.arg 0 1)).get 0 SYS_PWR_STATE))
            (t.powerState (e.arg 0 1)))
        ∧ (t.get 0 SYS_PWR_STATE = 2 ∨ (e.arg 0 1 = 1 ∧ t.get 0 SYS_PWR_STATE ≠ 1 ∧ t.economyOk = false) →
          s.Completes k e (.sysPowerState k) 0x0006 16 0x24 [] t))))
  ∧ (∀ (s : State) (k : CmdKey) (e : CmdEntry) (n : Nat),
       (1 ≤ e.arg 4 2 → e.arg 4 2 ≤ 127 → e.arg 6 2 = 0 →
         (let head := s.get cmdBase CMD_LOG_HEAD_INDEX
          s.Completes k e (.cmdLogRead k) 0x0003 8 0
            (leBytes 4 (logOldest s.cmd.logFull head) ++ leBytes 4 head ++ s.shown [0x1064] ++ leBytes 4 0 ++ s.logRecords (e.arg 0 4) (e.arg 4 2)) s))
       ∧ (e.arg 4 2 = 0 ∨ 127 < e.arg 4 2 ∨ e.arg 6 2 ≠ 0 → s.Completes k e (.cmdLogRead k) 0x0003 8 0x22 [] s)
       ∧ (let l := (List.range (e.ps.length / 8)).map fun i => (e.arg (8 * i) 4, e.arg (8 * i + 4) 4)
          n % 8 = 0 → 8 ≤ n → (∀ p ∈ l, listOffset p.1 = true) →
          s.Completes k e (.sysRegWriteList k) 0x8000 n 0 [] (s.regWrites 2 l))
       ∧ (let l := (List.range (e.ps.length / 8)).map fun i => (e.arg (8 * i) 4, e.arg (8 * i + 4) 4)
          n % 8 = 0 → 8 ≤ n → (∃ p ∈ l, listOffset p.1 = false) → s.Completes k e (.sysRegWriteList k) 0x8000 n 0x22 [] s)
       ∧ (let l := (List.range (e.ps.length / 4)).map fun i => e.arg (4 * i) 4
          n % 4 = 0 → 4 ≤ n → (∀ a ∈ l, listOffset a = true ∧ popWord a = false) →
          s.Completes k e (.sysRegReadList k) 0x8001 n 0 (s.romReads l).1 (s.romReads l).2)
       ∧ (let l := (List.range (e.ps.length / 4)).map fun i => e.arg (4 * i) 4
          n % 4 = 0 → 4 ≤ n →
          ((∃ a ∈ l, listOffset a = false) → s.Completes k e (.sysRegReadList k) 0x8001 n 0x22 [] s)
          ∧ ((∀ a ∈ l, listOffset a = true) → (∃ a ∈ l, popWord a = true) →
            s.Completes k e (.sysRegReadList k) 0x8001 n 0x24 [] s))
       ∧ ((∃ p < 16, s.partMoves p (partDefault p).1 (partDefault p).2 = true ∧ s.partStopped p = false) →
         s.Completes k e (.storePartDefault k) 0x0101 0 0x24 [] s)
       ∧ s.Completes k e (.storePartRead k) 0x0100 0 0 (s.shown (wordOffs 0x100 16)) s
       ∧ ((∀ p < 16, s.partMoves p (partDefault p).1 (partDefault p).2 = true → s.partStopped p = true) →
         s.Completes k e (.storePartDefault k) 0x0101 0 0 []
           (s.each (List.range 16) fun s p => s.partSet p (partDefault p).1 (partDefault p).2))
       ∧ (let p := e.arg 0 1
          let first := e.arg 2 2
          let count := e.arg 4 2
          (e.arg 1 1 ≠ 0 → s.Completes k e (.storePartition k) 0x8100 6 0x22 [] s)
          ∧ (e.arg 1 1 = 0 → s.partRefused p first count ≠ 0 →
            s.Completes k e (.storePartition k) 0x8100 6 (s.partRefused p first count) [] s)
          ∧ (e.arg 1 1 = 0 →
          (s.partRefused p first count = 0 →
            s.Completes k e (.storePartition k) 0x8100 6 0 [] (s.partSet p first count))
          ∧ (p = 0 ∨ p = 7 ∨ p = 8 → s.Completes k e (.storePartition k) 0x8100 6 0x24 [] s))))

/-- The ring and MAC commands (R142, R156, R182): each answers, waits, or writes its registers in the order of its parameters.
The commands on stream contexts and gate lists (R203, R207, R210): context 0 cannot be opened or closed; an open context
cannot be opened again; a gate list takes effect by the swap it asks for, whose moment it returns. -/
def Obligations.RingCommands : Prop :=
  (∀ (s : State) (k : CmdKey) (e : CmdEntry),
     s.Completes k e (.ringStatus k) 0x0200 0 0 (s.shown [0x2F014, 0x20004, 0x30004] ++ leBytes 2 s.ringNet.foreign.length
       ++ leBytes 2 0 ++ s.shown (wordOffs 0x2F800 508)) s
     ∧ (let first := e.arg 0 1
        (first = 0 ∨ first = 255 ∨ 1 < e.arg 1 1 ∨ e.arg 2 2 ≠ 0 → s.Completes k e (.ringEnumerate k) 0x0201 4 0x22 [] s)
        ∧ (first ≠ 0 → first ≠ 255 → e.arg 1 1 ≤ 1 → e.arg 2 2 = 0 →
        (s.ringUp 0 = true → s.Waits k e (.ringEnumerate k) 0x0201 4 (.unit first (e.arg 1 1)) (s.enumStart first (e.arg 1 1) k))
        ∧ (s.ringUp 0 = false → s.Completes k e (.ringEnumerate k) 0x0201 4 0x24 (enumResult 0 0 0) s)))
     ∧ ((∃ i < 4, 1 < e.arg i 1) → s.Completes k e (.ringPortConfig k) 0x0202 4 0x22 [] s)
     ∧ ((∀ i < 4, e.arg i 1 ≤ 1) →
       (s.pstate e.idx ≠ 4 → s.rateOnly e = true → s.Completes k e (.ringPortConfig k) 0x0202 4 0 []
         ((s.regWrite 2 (ringBase e.idx) (BitVec.ofNat 32 (e.arg 0 1 + 2 * s.get (ringBase e.idx) RING_PCTRL_RATE + 4 * e.arg 2 1
           + 8 * e.arg 3 1))).announceRate e.idx (e.arg 1 1)))
       ∧ (s.pstate e.idx ≠ 4 → s.rateOnly e = false → s.Completes k e (.ringPortConfig k) 0x0202 4 0 []
         (s.regWrite 2 (ringBase e.idx) (BitVec.ofNat 32 (e.arg 0 1 + 2 * e.arg 1 1 + 4 * e.arg 2 1 + 8 * e.arg 3 1))))
       ∧ (s.pstate e.idx = 4 → s.Completes k e (.ringPortConfig k) 0x0202 4 0x24 [] s))
     ∧ (∀ (intact errors lo hi : BitVec 32),
       let mode := e.arg 0 1
       let ps := loopPorts e.idx mode
       (mode = 1 ∨ mode = 2) → e.arg 1 1 ≤ 1 → 64 ≤ e.arg 2 2 → e.arg 2 2 ≤ s.get (ringBase e.idx) RING_MAXFRM_BYTES →
       1 ≤ e.arg 4 4 → e.arg 4 4 ≤ 1000000 → (e.arg 1 1 = 1 ∨ ∀ p ∈ ps, s.ringUp p = false) →
       s.Waits k e (.ringLoopTest k intact errors lo hi) 0x0203 8 (.unit e.idx mode)
         (ps.foldl (fun (s : State) p => s.loopTake p mode) s))
     ∧ (∀ (intact errors lo hi : BitVec 32),
       let bad := e.arg 0 1 = 0 ∨ 2 < e.arg 0 1 ∨ 1 < e.arg 1 1 ∨ e.arg 2 2 < 64
         ∨ s.get (ringBase e.idx) RING_MAXFRM_BYTES < e.arg 2 2 ∨ e.arg 4 4 = 0 ∨ 1000000 < e.arg 4 4
       (bad → s.Completes k e (.ringLoopTest k intact errors lo hi) 0x0203 8 0x22 [] s)
       ∧ (¬ bad → e.arg 1 1 = 0 → (∃ p ∈ loopPorts e.idx (e.arg 0 1), s.ringUp p = true) →
         s.Completes k e (.ringLoopTest k intact errors lo hi) 0x0203 8 0x0203 [] s))
     ∧ (e.ukind = 9 → e.ps.length = 20 → s.Completes k e (.ringPortSet k) 0x8200 20 0x21 [] s)
     ∧ (e.ukind ≠ 9 → e.ps.length = 16 → s.Completes k e (.ringPortSet k) 0x8200 16 0x21 [] s)
     ∧ (lmacConfigOk e = false → s.Completes k e (.lmacConfig k) 0x0303 16 0x22 [] s)
     ∧ (∀ (intact errors lo hi : BitVec 32) (p mode : Nat), s.Live → s.waiting k 0x0203 = some (e, p, mode) →
       exec (.ringLoopTest k intact errors lo hi) s
         = .next (s.after (s.loopEnd e p mode intact.toNat errors.toNat lo.toNat hi.toNat)))
     ∧ (let b := ringBase e.idx
        e.ukind = 9 → e.ps.length = 16 → s.Completes k e (.ringPortSet k) 0x8200 16 0 []
          (s.regWrites 2 [(b + 0x18, e.arg 0 4), (b + 0x14, e.arg 4 4), (b + 0x10, e.arg 8 4), (b, e.arg 12 4)]))
     ∧ (e.ukind ≠ 9 → e.ps.length = 20 → s.Completes k e (.ringPortSet k) 0x8200 20 0 []
          (s.regWrites 2 (e.images (wordOffs 0x2F000 5))))
     ∧ (let b := macBase e.port
        let ctrl := [(b, 3 * e.arg 0 1), (b + 8, b2n (e.arg 1 1 != 0) + 2 * b2n (e.arg 1 1 == 2) + 4 * e.arg 2 1
          + 2 ^ 8 * e.arg 3 1 + 2 ^ 16 * e.arg 14 1 + 2 ^ 24 * e.arg 15 1)]
        let pause := [(b + 0x10, e.arg 4 1 + 2 * e.arg 5 1 + 2 ^ 16 * e.arg 8 2), (b + 0x14, e.arg 10 2 + 2 ^ 16 * e.arg 12 2),
          (b + 0x24, e.arg 6 2)]
        lmacConfigOk e = true → s.Completes k e (.lmacConfig k) 0x0303 16 0 []
          (s.regWrites 2 (if e.ukind = 9 then ctrl else ctrl ++ pause)))
     ∧ (e.ukind = 11 → s.Completes k e (.statsRead k) 0x0304 0 0 (s.shown (wordOffs (ctxBase e.idx + 0x1C) 9)) s)
     ∧ (let b := macBase e.port
        e.ukind ≠ 11 → s.Completes k e (.statsRead k) 0x0304 0 0 (s.shown (wordOffs (b + 0x40) 22 ++ [b + 0x1C])
          ++ if e.ukind = 9 then s.shown (wordOffs (ringBase e.idx + 0x40) 20) else []) s))
  ∧ (∀ (s : State) (k : CmdKey) (e : CmdEntry) (n : Nat),
       let b := ctxBase e.idx
       (e.idx = 0 → s.Completes k e (.streamOpen k) 0x0300 16 0x0309 [] s ∧ s.Completes k e (.streamClose k) 0x0301 0 0x0309 [] s)
       ∧ (e.idx ≠ 0 →
         (s.flag b CTX_CTRL_EN = true → s.Completes k e (.streamOpen k) 0x0300 16 0x24 [] s)
         ∧ (s.flag b CTX_CTRL_EN = false → streamOpenOk e = false → s.Completes k e (.streamOpen k) 0x0300 16 0x22 [] s)
         ∧ (s.flag b CTX_CTRL_EN = false → streamOpenOk e = true → s.Completes k e (.streamOpen k) 0x0300 16 0 [] (s.streamOpen e))
         ∧ s.Completes k e (.streamClose k) 0x0301 0 0 (leBytes 4 ((s.cq e.idx).filter fun f => f.todo != 0).length)
           (s.ctxClose e.idx)
         ∧ s.Completes k e (.streamSet k) 0x8300 28 0 [] (s.regWrites 2 (e.images (wordOffs b 7))))
       ∧ (let w := BitVec.ofNat 32 (e.arg 0 4)
          e.idx = 0 → s.Completes k e (.streamSet k) 0x8300 28 0 [] (s.regWrites 2
            [(b, (putBits (putBits (s.rd b) 4 3 (bitsOf w 4 3)) 16 8 (bitsOf w 16 8)).toNat), (b + 8, e.arg 8 4)]))
       ∧ (let most := s.largestMax (s.get b CTX_CTRL_PORTS)
          let fits := e.arg 0 4 ≤ e.arg 4 4 ∧ most ≤ e.arg 8 4 ∧ e.arg 8 4 ≤ burstMax ∧ most ≤ e.arg 12 4
            ∧ e.arg 12 4 ≤ burstMax ∧ e.arg 16 1 < 32 ∧ e.arg 17 3 = 0
          (¬ fits → s.Completes k e (.meterSet k) 0x8301 20 0x22 [] s)
          ∧ (fits → s.Completes k e (.meterSet k) 0x8301 20 0 [] (s.regWrites 2 [(b + 0xC, e.arg 0 4), (b + 0x10, e.arg 4 4),
            (b + 0x14, min 65535 (in64 (e.arg 8 4)) + 2 ^ 16 * min 65535 (in64 (e.arg 12 4))), (b + 0x18, e.arg 16 1)])))
       ∧ (n % 8 = 0 → 24 ≤ n →
         (let m := e.arg 14 2
          let latched := s.flag (schedBase e.port) SCHED_PCTRL_SWAP_LATCHED = true
          (m = 0 ∨ 256 < m → s.Completes k e (.gclLoad k) 0x0302 n 0x22 [] s)
          ∧ (1 ≤ m → m ≤ 256 → e.ps.length ≠ 24 + 8 * m → s.Completes k e (.gclLoad k) 0x0302 n 0x21 [] s)
          ∧ (1 ≤ m → m ≤ 256 → e.ps.length = 24 + 8 * m →
            (gclOk e m = false → s.Completes k e (.gclLoad k) 0x0302 n 0x22 [] s)
            ∧ (gclOk e m = true → s.timeValid = false → s.Completes k e (.gclLoad k) 0x0302 n 0x40 [] s)
            ∧ (gclOk e m = true → s.timeValid = true → latched → s.Completes k e (.gclLoad k) 0x0302 n 0x030A [] s))))
       ∧ (let m := e.arg 14 2
          let t := s.gclLoad e.port e m
          1 ≤ m → m ≤ 256 → n = 24 + 8 * m → e.ps.length = n → gclOk e m = true → s.timeValid = true →
          s.flag (schedBase e.port) SCHED_PCTRL_SWAP_LATCHED = false →
          s.Completes k e (.gclLoad k) 0x0302 n 0 (stampBytes (t.eport e.port).swapAt ++ leBytes 2 0) t))

/-- The time commands (R214, R215, R235, R237, R238): status, role, a timed action placed or withdrawn, and the counter set,
stepped or slewed by a hub that is not synchronised to another. -/
def Obligations.TimeCommands : Prop :=
  ∀ (s : State) (k : CmdKey) (e : CmdEntry) (n : Nat),
    s.Completes k e (.timeStatus k) 0x0400 0 0 s.timeStatus s
    ∧ (let w := e.arg 0 1 + 2 * e.arg 1 1 + 4 * e.arg 7 1 + 2 ^ 4 * e.arg 5 1 + 2 ^ 8 * e.arg 6 1 + 2 ^ 16 * e.arg 2 1
         + 2 ^ 24 * e.arg 3 1
       let fits := e.arg 0 1 ≤ 1 ∧ e.arg 1 1 ≤ 1 ∧ e.arg 5 1 ≤ 4 ∧ e.arg 6 1 ≤ 127 ∧ e.arg 7 1 ≤ 1
       (¬ fits → s.Completes k e (.timeRole k) 0x0401 8 0x22 [] s)
       ∧ (fits → s.Completes k e (.timeRole k) 0x0401 8 0 []
         ((s.roleHold.set timeBase TIME_CLOCKQ_CLOCK_CLASS (e.arg 4 1)).regWrite 2 timeBase (BitVec.ofNat 32 w))))
    ∧ (n % 8 = 4 → 20 ≤ n →
      (let m := e.arg 11 1
       (m = 0 ∨ 16 < m → s.Completes k e (.timeSchedule k) 0x0402 n 0x22 [] s)
       ∧ (1 ≤ m → m ≤ 16 → e.ps.length ≠ 20 + 8 * m → s.Completes k e (.timeSchedule k) 0x0402 n 0x21 [] s)
       ∧ (1 ≤ m → m ≤ 16 → e.ps.length = 20 + 8 * m → scheduleOk e = false →
         s.Completes k e (.timeSchedule k) 0x0402 n 0x22 [] s)))
    ∧ (e.arg 2 2 ≠ 0 → s.Completes k e (.timeCancel k) 0x0403 4 0x22 [] s)
    ∧ ((s.timeState = 0 ∨ s.timeState = 4) → e.arg 1 3 ≠ 0 → s.Completes k e (.timeSet k) 0x8400 16 0x22 [] s)
    ∧ (let m := e.arg 11 1
       let at_ := e.arg 0 6 * nsPerSec + e.arg 6 4
       let placed := s.placeAction at_ (e.arg 12 4) (e.arg 16 4) (e.arg 10 1 == 1) (scheduleWrites e)
       1 ≤ m → m ≤ 16 → n = 20 + 8 * m → e.ps.length = n → scheduleOk e = true →
       (placed = none → s.Completes k e (.timeSchedule k) 0x0402 n 0x0401 [] s)
       ∧ (∀ (id : Nat) (t : State), placed = some (id, t) →
         (at_ < s.ring + 10000 → s.Completes k e (.timeSchedule k) 0x0402 n 0x0402 [] s)
         ∧ (s.ring + 10000 ≤ at_ → e.arg 10 1 = 1 → s.timeValid = false →
           s.Completes k e (.timeSchedule k) 0x0402 n 0x40 [] s)
         ∧ (s.ring + 10000 ≤ at_ → (e.arg 10 1 = 1 → s.timeValid = true) →
           s.Completes k e (.timeSchedule k) 0x0402 n 0 (leBytes 4 id) t)))
    ∧ (let found := s.actionList.find? fun p => p.2.id == e.arg 0 2
       e.arg 2 2 = 0 →
       (found = none → s.Completes k e (.timeCancel k) 0x0403 4 0x0403 [] s)
       ∧ (∀ p, found = some p →
         (s.ring < p.2.due → s.Completes k e (.timeCancel k) 0x0403 4 0 (leBytes 4 p.2.fired) (s.setAction p.1 none))
         ∧ (p.2.due ≤ s.ring → p.2.period = 0 → s.Completes k e (.timeCancel k) 0x0403 4 0x0403 [] s)
         ∧ (p.2.due ≤ s.ring → p.2.period ≠ 0 →
           s.Completes k e (.timeCancel k) 0x0403 4 0 (leBytes 4 (p.2.fired + 1))
             (s.setAction p.1 (some { p.2 with repeat_ := p.2.fired + 1 })))))
    ∧ (s.timeState ≠ 0 → s.timeState ≠ 4 → s.Completes k e (.timeSet k) 0x8400 16 0x24 [] s)
    ∧ ((s.timeState = 0 ∨ s.timeState = 4) → e.arg 1 3 = 0 →
      (∀ (t : State), s.timeSet e = some t → s.Completes k e (.timeSet k) 0x8400 16 0 [] t)
      ∧ (s.timeSet e = none → s.Completes k e (.timeSet k) 0x8400 16 0x22 [] s))

/-- The commands on the ledger and the process image (R248, R262, R268): a subscription takes the lowest free place, begins at
its start, and ends as ordered; triggers and map entries are set in one step. The commands on the bridge (R284, R290, R293,
R294): windows, wires and routes are set in one step, and a held Salvage slot is read and, when asked, freed. -/
def Obligations.LedgerCommands : Prop :=
  (∀ (s : State) (k : CmdKey) (e : CmdEntry),
     (let t := s.freeSubs
      let node := e.arg 0 1
      let c := e.arg 1 1
      let own := node == 0 || (t.hasNode && node == t.nodeId)
      let start := e.arg 4 6 * nsPerSec + e.arg 10 4
      let at_ := if start = 0 then t.storeNow + t.horizon else start
      node ≠ 255 → e.arg 2 2 = 0 → e.arg 14 2 = 0 → e.arg 10 4 < nsPerSec → (if own then t.sourceOk c else sourceCode c) = true →
      ((∀ i < 256, t.subUsed i = true) → s.Completes k e (.subscribe k) 0x0500 16 0x0501 [] t)
      ∧ (∀ i < 256, t.subUsed i = false → (∀ j < i, t.subUsed j = true) →
        ((t.findSub node c own).isSome = true → s.Completes k e (.subscribe k) 0x0500 16 0x0502 [] t)
        ∧ (t.findSub node c own = none → (start ≠ 0 → t.storeNow ≤ start ∧ t.timeValid = true) →
          s.Completes k e (.subscribe k) 0x0500 16 0 (leBytes 4 i ++ stampBytes at_ ++ leBytes 2 0) (t.subscribe i node c at_))))
     ∧ (let i := e.arg 0 2
        let stop := e.arg 4 6 * nsPerSec + e.arg 10 4
        let at_ := if stop = 0 then s.storeNow else stop
        e.arg 2 2 = 0 → e.arg 14 2 = 0 → e.arg 10 4 < nsPerSec → i < 256 →
        (s.subUsed i = false → s.Completes k e (.unsubscribe k) 0x0501 16 0x0503 [] s)
        ∧ (s.subUsed i = true → (stop ≠ 0 → s.storeNow ≤ stop) →
          s.Completes k e (.unsubscribe k) 0x0501 16 0 (stampBytes at_ ++ leBytes 2 0) (s.setSubEnd i at_).freeSubs))
     ∧ (e.ps.length = 8 →
       (e.arg 0 1 = 1 → 1 ≤ e.arg 1 1 → e.arg 1 1 ≤ 10 → 2 ≤ e.arg 4 4 → e.arg 4 4 ≤ 10000 → e.arg 2 2 < s.partCount 4 →
         (s.flag ledgerBase LEDGER_CTRL_EN = true → e.arg 2 2 = s.get ledgerBase LEDGER_FAST_INGOTS) →
         s.Completes k e (.ledgerConfig k) 0x0502 8 0 [] (((s.set ledgerBase LEDGER_CFG_WM_INT_US (e.arg 1 1)).set
           ledgerBase LEDGER_CFG_HORIZON_US (e.arg 4 4)).set ledgerBase LEDGER_FAST_INGOTS (e.arg 2 2)))
       ∧ (e.arg 0 1 = 2 → s.sourceOk (e.arg 1 1) = true → (e.arg 2 2 = 0 ∨ (5 ≤ e.arg 2 2 ∧ e.arg 2 2 ≤ 1023)) →
         e.arg 4 1 ≤ 1 → e.arg 5 3 = 0 → s.Completes k e (.ledgerConfig k) 0x0502 8 0 []
           (s.regWrite 2 (ledgerBase + 0x400 + 4 * e.arg 1 1) (BitVec.ofNat 32 (e.arg 2 2 + 2 ^ 12 * e.arg 4 1))))
       ∧ (e.arg 0 1 = 3 → e.arg 1 1 ≤ 1 → e.arg 2 6 = 0 →
         s.Completes k e (.ledgerConfig k) 0x0502 8 0 [] (s.regWrite 2 ledgerBase (BitVec.ofNat 32 (e.arg 1 1)))))
     ∧ (let b := trigBase (e.arg 1 1)
        let words := (List.range 20).map fun i => (b + 4 * i, e.arg (4 + 4 * i) 4)
        let put (s : State) (p : Nat × Nat) : State := s.fieldsWrite 2 p.1 (BitVec.ofNat 32 p.2)
        e.ps.length = 84 → e.arg 0 1 = 4 → e.arg 1 1 ≤ 31 → e.arg 2 2 = 0 → e.arg 8 1 % 16 ≤ 11 →
        s.Completes k e (.ledgerConfig k) 0x0502 84 0 []
          (put ((words.filter fun p => p.1 != b + 4).foldl put (s.set b TRIG_MATCH1_EN 0)) (b + 4, e.arg 8 4)))
     ∧ s.Completes k e (.ledgerSet k) 0x8500 16 0 [] (s.regWrites 2 (e.images (wordOffs ledgerBase 4)))
     ∧ (let n := e.idx
        let m := s.slotMap n
        n < s.slotCount → e.arg 1 3 = 0 →
        (e.arg 0 1 = 1 → s.mapValid (e.arg 4 4) (e.arg 8 4) (e.arg 12 4) (e.arg 16 4) = true → s.Completes k e (.pimgMap k) 0x0503 20
          0 [] (s.slotMapSet n (e.arg 4 4) (e.arg 8 4) (e.arg 12 4) (e.arg 16 4)))
        ∧ (e.arg 0 1 = 2 → s.Completes k e (.pimgMap k) 0x0503 20 0 (leBytes 4 m.w0 ++ leBytes 4 m.w1 ++ leBytes 4 m.w2 ++ leBytes 4 m.w3) s)
        ∧ (e.arg 0 1 = 3 → s.Completes k e (.pimgMap k) 0x0503 20 0 [] (s.slotMapSet n 0 0 0 0))))
  ∧ (∀ (s : State) (k : CmdKey) (e : CmdEntry),
       s.Completes k e (.bridgeStatus k) 0x0600 0 0 (s.shown ([0x60100C, 0x60102C] ++ wordOffs 0x601040 11)
           ++ s.shown ((List.range 32).flatMap fun l => wordOffs (0x601100 + 16 * l) 3)
           ++ s.shown ((List.range 8).flatMap fun l => wordOffs (0x601400 + 16 * l) 3)) s
       ∧ (let b := 0x601500 + 0x10 * e.arg 1 1
          let size := e.arg 8 4
          e.arg 0 1 = 1 → e.arg 1 1 ≤ 7 → e.arg 2 1 ≤ 3 → e.arg 3 1 ≤ 1 → e.arg 4 4 % 4 = 0 → 4 ≤ size → size ≤ 65536 → size % 4 = 0 →
          e.arg 4 4 + size ≤ s.spaceSize (e.arg 2 1) →
          s.Completes k e (.bridgeWindow k) 0x0601 12 0 [] ((s.set b BRIDGE_UWIN_CFG_EN 0).regWrites 2
            [(b + 4, e.arg 4 4), (b + 8, size), (b, e.arg 2 1 + 2 ^ 16 * e.arg 3 1)]))
       ∧ (let t := s.wr (wireBase (e.arg 1 1)) (BitVec.ofNat 32 (e.arg 4 1 + 2 ^ 8 * e.arg 3 1 + 2 ^ 9 * e.arg 2 1
            + 2 ^ 12 * e.arg 5 1 + 2 ^ 16 * e.arg 6 1))
          e.arg 0 1 = 2 → e.arg 1 1 ≤ 7 → e.arg 2 1 ≤ 1 → e.arg 3 1 ≤ 1 → e.arg 5 1 ≤ 2 → e.arg 7 5 = 0 → e.arg 4 1 < s.nDio →
          (e.arg 5 1 = 2 → e.arg 6 1 < s.nDio ∧ s.lineSafety (e.arg 6 1) = false) → (e.arg 5 1 = 1 → e.arg 6 1 ≤ 3) →
          s.lineSafety (e.arg 4 1) = false → (e.arg 2 1 = 1 → t.wireReason (e.arg 1 1) = 0) →
          s.Completes k e (.bridgeWindow k) 0x0601 12 0 [] t.wiresEval)
       ∧ (let t := s.wr 0x601020 (putBits (s.rd 0x601020) (e.arg 1 1) 1 (e.arg 2 1))
          let m := if e.arg 1 1 < 16 then 0x601024 else 0x601028
          e.arg 0 1 = 3 → e.arg 1 1 ≤ 30 → e.arg 2 1 ≤ 1 → e.arg 3 1 ≤ 3 → e.arg 4 8 = 0 →
          s.Completes k e (.bridgeWindow k) 0x0601 12 0 [] (t.wr m (putBits (t.rd m) (2 * (e.arg 1 1 % 16)) 2 (e.arg 3 1))))
       ∧ (let x := s.salv (e.arg 0 1)
          e.arg 0 1 ≤ 7 → e.arg 1 1 ≤ 1 → e.arg 2 2 = 0 →
          (x.held = false → s.Completes k e (.salvageRead k) 0x0602 4 0x0602 [] s)
          ∧ (x.held = true → s.Completes k e (.salvageRead k) 0x0602 4 0
            (leBytes 1 x.init ++ leBytes 1 x.code ++ leBytes 2 x.len ++ leBytes 6 x.addr ++ leBytes 2 0
              ++ leBytes 4 (shortStamp x.stamp) ++ (x.data ++ List.replicate x.len 0#8).take x.len)
            (if e.arg 1 1 = 1 then s.salvDrop (e.arg 0 1) else s)))
       ∧ s.Completes k e (.bridgeSet k) 0x8600 28 0 []
         (s.regWrites 2 (e.images [0x601000, 0x601004, 0x601008, 0x601020, 0x601024, 0x601028, 0x601030])))

/-- The CAN commands (R299, R300, R305, R307, R309, R312, R318, R322, R325, R329): a controller is opened, closed, timed and laid
out; frames are submitted and cancelled; filters, pairing and the time master are set. -/
def Obligations.CanCommands : Prop :=
  ∀ (s : State) (k : CmdKey) (e : CmdEntry) (len : Nat),
    let n := e.idx
    let b := canBase n
    (∀ (nsp dsp : Nat) (p : CanPhase) (fd xl : Option CanPhase),
      samplePoint (e.arg 16 2) 800 = some nsp → samplePoint (e.arg 18 2) 750 = some dsp → 1 ≤ e.arg 12 1 → e.arg 12 1 ≤ 7 →
      e.arg 13 1 ≤ 3 → e.arg 14 1 ≤ 7 → e.arg 15 1 ≤ 15 → s.canOpen n = false →
      openPhases e nsp dsp = some (p, fd, xl) → s.canFits n = true →
      s.Completes k e (.canOpen k) 0x0700 20 0 ((s.canOpenSet n e p fd xl).shown (wordOffs (b + 0x10) 5)) (s.canOpenSet n e p fd xl))
    ∧ (s.canOpen n = false → s.Completes k e (.canClose k) 0x0701 0 0x0703 [] s)
    ∧ (s.canOpen n = true → s.canBusy n = true → s.Waits k e (.canClose k) 0x0701 0 (.unit n 0) (s.closeBegin n))
    ∧ (s.canOpen n = true → s.canBusy n = false → s.Completes k e (.canClose k) 0x0701 0 0
      (leBytes 4 ((List.range 32).filter fun i => s.txbState n i == 1 || s.txbState n i == 2).length) (s.closeBegin n))
    ∧ (s.canOpen n = false →
      (nomBit2 (BitVec.ofNat 32 (e.arg 0 4)) ≤ 100000 →
        s.Completes k e (.canSetTiming k) 0x8700 20 0 [] (s.regWrites 2 (e.images (wordOffs (b + 0x10) 5))))
      ∧ (∀ code, code < 5 → e.arg 0 2 = [64, 256, 512, 1024, 2048].getD code 0 → 1 ≤ e.arg 2 1 → e.arg 2 1 ≤ 32 → e.arg 3 1 = 0 →
        1 ≤ e.arg 4 2 → e.arg 4 2 ≤ 256 → e.arg 6 2 = 0 → canLayoutOk (e.arg 0 2) (e.arg 2 1) (e.arg 4 2) = true →
        s.Completes k e (.canSetStore k) 0x8701 8 0 (s.shown [b + 0x28])
          (s.wr (b + 0x24) (BitVec.ofNat 32 (code + 2 ^ 8 * e.arg 2 1 + 2 ^ 16 * e.arg 4 2)))))
    ∧ s.Completes k e (.canStatus k) 0x0706 0 0
      (s.shown ([b, b + 4, b + 8, b + 0x48, b + 0x4C, b + 0x2C] ++ wordOffs (b + 0x80) 16)) s
    ∧ (e.arg 1 3 = 0 → (e.arg 0 1 = 255 ∨ e.arg 0 1 < s.nPch) →
      s.Completes k e (.canPair k) 0x0707 4 0 (leBytes 4 (s.pairWith n (e.arg 0 1)).1) (s.pairWith n (e.arg 0 1)).2)
    ∧ (let i := e.arg 0 1
       let rtr := bitAt (e.arg 1 1) 2
       let t := s.txFill n e
       let t := (if rtr then t else t.txData n i (e.arg 2 1) (e.ps.drop 32)).txAccept n i
       e.ps.length = len → len = 32 + (if rtr then 0 else e.arg 8 2) → canTxOk e = true → i < s.canTxn n →
       (∀ st, s.submitBad n i (e.arg 2 1) rtr (e.arg 8 2) = some st → s.Completes k e (.canTx k) 0x0702 len st [] s)
       ∧ (s.submitBad n i (e.arg 2 1) rtr (e.arg 8 2) = none →
         (bitAt (e.arg 1 1) 5 = true → s.Waits k e (.canTx k) 0x0702 len (.unit n i) t)
         ∧ (bitAt (e.arg 1 1) 5 = false →
           s.Completes k e (.canTx k) 0x0702 len 0 (leBytes 4 (t.get (txbBase n i) CAN_TXB_STAT_SUBMITS)) t)))
    ∧ (e.arg 0 1 < s.canTxn n → e.arg 1 3 = 0 → s.Completes k e (.canCancel k) 0x0703 4 0
      (leBytes 4 (s.txCancel n (e.arg 0 1)).1) ((s.txCancel n (e.arg 0 1)).2.txMapsAfter n))
    ∧ (let cnt := e.arg 2 2
       let t := s.fltLoad n (e.arg 0 1) (e.ps.drop 8)
       e.arg 0 1 ≤ 7 → e.arg 1 1 ≤ 1 → cnt ≤ 64 → e.arg 4 4 = 0 → e.ps.length = len → len = 8 + 16 * cnt →
       (∀ i < cnt, elementOk e i = true) →
       s.Completes k e (.canFilterLoad k) 0x0704 len 0 [] (if e.arg 1 1 = 1 then t.set b CAN_CTRL_FSET (e.arg 0 1) else t))
    ∧ (let t := ((s.set b CAN_TREF_CTRL_FORMAT (e.arg 1 1)).wr (b + 0x34) (BitVec.ofNat 32 (e.arg 4 4))).wr (b + 0x38)
         (BitVec.ofNat 32 (e.arg 8 4))
       e.arg 0 1 ≤ 1 → e.arg 1 1 ≤ 1 → e.arg 2 2 = 0 → e.arg 4 4 < 2 ^ 30 → 100 ≤ e.arg 8 4 → e.arg 8 4 ≤ 1000000 → e.arg 12 4 = 0 →
       s.canOpen n = true → s.canMode n ≠ 1 →
       (e.arg 0 1 = 1 → s.timeValid = true → s.Completes k e (.canTimeMaster k) 0x0705 16 0 [] ((t.trefStart n).trefAnew n))
       ∧ (e.arg 0 1 = 0 → s.Completes k e (.canTimeMaster k) 0x0705 16 0 []
         (if t.flag b CAN_TREF_CTRL_EN then t.trefStop n else t)))

/-- The commands on Flasks (R346 to R349, R352, R353): a load is judged and queued, engines start at once or at a moment of ring
time, a stop waits for the engine-cycle boundary of those that run, and settings are written to a stopped engine only. The
commands on discrete lines (R356 to R371): a line of an armed safety function is refused with SAFETY_OWNED; otherwise the
line is configured, driven, scheduled or attached to a generator as its mode allows. -/
def Obligations.UnitCommands : Prop :=
  (∀ (s : State) (k : CmdKey) (e : CmdEntry),
     let f := e.idx
     let i := unitSub e.unit
     (∀ mask, e.engines (e.arg 2 1) = some mask → e.arg 0 1 ≤ 1 → e.arg 1 1 ≤ 3 → e.arg 3 1 = 0 → e.arg 8 2 ≤ 1023 → e.arg 10 2 = 0 →
       (let check := s.loadCheck f (e.arg 0 1 == 1) (e.arg 4 4) (e.arg 8 2) mask (bitAt (e.arg 1 1) 0) (bitAt (e.arg 1 1) 1) true
        (∀ l, check = .inr l → s.Waits k e (.flaskLoad k) 0x0800 12 (.unit f 0)
          (s.setFlask f { s.flask f with loads := (s.flask f).loads ++ [l] }))
        ∧ (∀ r, check = .inl r → s.Completes k e (.flaskLoad k) 0x0800 12 (loadStatus r) [] s)))
     ∧ (∀ mask, e.engines (e.arg 0 1) = some mask → e.arg 2 2 = 0 → e.arg 14 2 = 0 →
       (let named := (setBitsOf mask 8).filter fun i => !(s.eng f i).running
        let loaded := ∀ i ∈ setBitsOf mask 8, s.flag (ecBase f i) EC_PROG_LOADED = true
        (loaded → (e.arg 1 1 = 0 ∨ e.arg 1 1 = 1) → s.Completes k e (.flaskStart k) 0x0801 16 0 (leBytes 4 ((named.map fun i => 2 ^ i).sum))
          ((s.engStart f mask (bitAt (e.arg 1 1) 0) none).driveKeep f))
        ∧ (∀ at_, loaded → (e.arg 1 1 = 2 ∨ e.arg 1 1 = 3) → e.stampAt 4 = some at_ → s.timeValid = true → s.ring + 10000 ≤ at_ →
          s.Completes k e (.flaskStart k) 0x0801 16 0 (leBytes 4 ((named.map fun i => 2 ^ i).sum))
            ((s.engStart f mask (bitAt (e.arg 1 1) 0) (some at_)).driveKeep f))
        ∧ (¬ loaded → (e.arg 1 1 = 0 ∨ e.arg 1 1 = 1) → s.Completes k e (.flaskStart k) 0x0801 16 0x0803 [] s)))
     ∧ (∀ mask, e.engines (e.arg 0 1) = some mask → e.arg 1 1 ≤ 1 → e.arg 2 2 = 0 →
       (let live := (setBitsOf mask 8).filter fun i => !s.engStopped f i
        let hit := (live.map fun i => 2 ^ i).sum
        let t := s.engStop f mask (e.arg 1 1 == 1)
        ((∃ i ∈ live, (t.eng f i).running = true) → s.Waits k e (.flaskStop k) 0x0802 4 (.unit f hit) t)
        ∧ ((∀ i ∈ live, (t.eng f i).running = false) → s.Completes k e (.flaskStop k) 0x0802 4 0 (t.stopResult f hit) t)))
     ∧ s.Completes k e (.flaskStatus k) 0x0803 0 0 (s.shown [flaskBase f, flaskBase f + FLASK_TALLY_T0.off]
         ++ (if i = 255 then List.range 8 else [i]).flatMap fun i => s.engRecord f i) s
     ∧ (i ≠ 255 → streamOk (e.arg 8 4) = true →
       (s.engStopped f i = true → s.Completes k e (.flaskEngineSet k) 0x8800 16 0 [] (s.regWrites 2 (e.images (wordOffs (ecBase f i) 4))))
       ∧ (s.engStopped f i = false → s.Completes k e (.flaskEngineSet k) 0x8800 16 0x31 [] s)))
  ∧ (∀ (s : State) (k : CmdKey) (e : CmdEntry),
       let j := e.idx
       let bank := s.bank (j / 64)
       (s.lineSafety j = true →
         s.Completes k e (.dioSet k) 0x8900 12 0x60 [] s
         ∧ (dioConfigOk e = true → s.Completes k e (.dioConfig k) 0x0900 16 0x60 [] s)
         ∧ (e.arg 0 1 ≤ 2 → e.arg 1 3 = 0 → s.Completes k e (.dioOutput k) 0x0901 4 0x60 [] s))
       ∧ (s.lineSafety j = false →
         (dioConfigOk e = true → s.Completes k e (.dioConfig k) 0x0900 16 0 [] (s.regWrites 2 (s.dioConfigWords e)))
         ∧ (e.arg 0 1 ≤ 2 → e.arg 1 3 = 0 →
           ((s.lineMode j < 2 ∨ s.wired j = true) → s.Completes k e (.dioOutput k) 0x0901 4 0x24 [] s)
           ∧ (2 ≤ s.lineMode j → s.wired j = false → s.Completes k e (.dioOutput k) 0x0901 4 0 []
             (s.outLine j (if e.arg 0 1 = 0 then false else if e.arg 0 1 = 1 then true else !s.latch j) (e.arg 0 1))))
         ∧ (∀ at_, e.arg 0 1 = 1 → e.arg 1 1 ≤ 2 → e.arg 2 1 ≤ 1 → e.arg 3 1 = 0 → e.arg 6 2 = 0 → e.arg 18 2 = 0 →
           e.stampAt 8 = some at_ →
           (let r := s.schedAdd j (e.arg 1 1) at_ (e.arg 2 1 == 1)
            (64 ≤ bank.sched.length → s.Completes k e (.dioSchedule k) 0x0902 20 0x0901 [] s)
            ∧ (bank.sched.length < 64 → at_ < s.ring + 10000 → s.Completes k e (.dioSchedule k) 0x0902 20 0x0402 [] s)
            ∧ (bank.sched.length < 64 → s.ring + 10000 ≤ at_ → (e.arg 2 1 = 1 → s.timeValid = true) →
              s.Completes k e (.dioSchedule k) 0x0902 20 0 (leBytes 4 r.1) r.2)))
         ∧ (e.arg 0 1 = 2 → e.arg 3 1 = 0 → e.arg 6 2 = 0 → e.arg 18 2 = 0 →
           (let id := e.arg 4 2
            ((∀ x ∈ bank.sched, x.id = id → x.at_ ≤ s.dioNow (j / 64)) → s.Completes k e (.dioSchedule k) 0x0902 20 0x0403 [] s)
            ∧ ((∃ x ∈ bank.sched, x.id = id ∧ s.dioNow (j / 64) < x.at_) → s.Completes k e (.dioSchedule k) 0x0902 20 0 []
              (s.setBank (j / 64) { bank with sched := bank.sched.filter fun x => x.id != id }))))
         ∧ (let p := e.arg 4 4
            e.arg 0 1 ≤ 15 → e.arg 1 1 ≤ 1 → e.arg 2 2 = 0 → 1000 ≤ p → p ≤ nsPerSec → e.arg 8 4 ≤ p → e.arg 12 4 ≤ p →
            (s.lineMode j < 2 → s.Completes k e (.dioPwm k) 0x0903 16 0x24 [] s)
            ∧ (2 ≤ s.lineMode j → s.Completes k e (.dioPwm k) 0x0903 16 0 [] (s.regWrites 2 (s.pwmWrites e))))
         ∧ s.Completes k e (.dioSet k) 0x8900 12 0 [] (s.regWrites 2 (e.images (wordOffs (lineBase j) 3))))
       ∧ (let b := dioBase j
          s.Completes k e (.dioStatus k) 0x0904 0 0
            (s.shown ([b + 0x10, b + 0x14, b + 0x18, b + 0x1C, b + 0x20, b + 0x24, b + 0x48] ++ wordOffs (b + 0x80) 8)) s))

/-- The commands on power channels and feeds (R377, R384 to R393, R399): a channel an emergency state or an SF-P hold owns is
refused; PCH_ON with WAIT replies only when the channel is ON; settings are taken by a stopped channel. The commands on USB
and USB PD (R411, R416, R431, R443, R446, R449 to R453): internal port 9 is refused; a test mode needs a suspended hub;
PD_REQUEST and PD_SWAP wait for the partner; a policy image is taken only when it is whole. -/
def Obligations.PowerCommands : Prop :=
  (∀ (s : State) (k : CmdKey) (e : CmdEntry),
     let c := e.idx
     let b := pchBase c
     (e.arg 0 1 ≤ 1 → e.arg 1 3 = 0 →
       (s.pchOwned c = true → s.Completes k e (.pchOn k) 0x0A00 4 0x60 (s.pchResult c) s)
       ∧ (s.pchOwned c = false → s.sys.stby = none →
         (let t := s.writeEn c true
          (s.pchState c = 7 → s.Completes k e (.pchOn k) 0x0A00 4 0x0A01 (s.pchResult c) s)
          ∧ (s.pchState c ≠ 7 → (e.arg 0 1 = 0 ∨ t.pchState c = 5) → s.Completes k e (.pchOn k) 0x0A00 4 0 (t.pchResult c) t)
          ∧ (s.pchState c ≠ 7 → e.arg 0 1 = 1 → t.pchState c ≠ 5 → s.Waits k e (.pchOn k) 0x0A00 4 (.unit c 0) t))))
     ∧ (s.pchOwned c = true → s.Completes k e (.pchOff k) 0x0A01 0 0x60 (s.pchResult c) s)
     ∧ (s.pchOwned c = false → s.Completes k e (.pchOff k) 0x0A01 0 0 ((s.writeEn c false).pchResult c) (s.writeEn c false))
     ∧ (let fs := pchConfigFields e
        let t := fs.foldl (fun (s : State) f => s.set b f.1 f.2.1) s
        e.arg 0 1 ≤ 3 → e.arg 19 1 = 0 → e.arg 34 2 = 0 → (∀ f ∈ fs, f.2.2.1 ≤ f.2.1 ∧ f.2.1 ≤ f.2.2.2) →
        pchLimitsOk (e.arg 2 2) (e.arg 4 4) (e.arg 8 4) (e.arg 12 4) = true →
        (s.pchSafety c = true → s.Completes k e (.pchConfig k) 0x0A02 36 0x60 [] s)
        ∧ (s.pchSafety c = false → s.pchStopped c = false → s.Completes k e (.pchConfig k) 0x0A02 36 0x24 [] s)
        ∧ (s.pchSafety c = false → s.pchStopped c = true → s.Completes k e (.pchConfig k) 0x0A02 36 0 []
          ((t.set b PCH_CTRL_PRES_EN (e.arg 0 1 % 2)).set b PCH_CTRL_SAFE_ON (e.arg 0 1 / 2))))
     ∧ s.Completes k e (.pchStatus k) 0x0A03 0 0 (s.shown ([b + 4, b + 0x10, b + 0x14, b + 0x18] ++ wordOffs (b + 0x80) 9)) s
     ∧ (s.get b PCH_STRESS_LIMIT_MJ * 100000000 < 4 * (s.pch c).stress → s.Completes k e (.pchRetryReset k) 0x0A04 0 0x0A03 [] s)
     ∧ (4 * (s.pch c).stress ≤ s.get b PCH_STRESS_LIMIT_MJ * 100000000 →
       s.Completes k e (.pchRetryReset k) 0x0A04 0 0 (leBytes 4 (s.get b PCH_STAT_RETRY_CNT)) (s.retryReset c))
     ∧ (let a := feedBase c
        feedConfigOk e = true → s.Completes k e (.feedConfig k) 0x0A05 20 0 [] (s.regWrites 2
          [(a, e.arg 0 2 + 2 ^ 16 * e.arg 2 2), (a + 4, e.arg 6 2 + 2 ^ 16 * e.arg 8 2), (a + 8, e.arg 4 2), (a + 0xC, e.arg 10 1),
           (feedReg, e.arg 12 1 + 2 ^ 4 * e.arg 13 1 + 2 ^ 8 * e.arg 14 1), (feedReg + 4, e.arg 16 2)]))
     ∧ (s.fenced (.pedie 0) = false → s.Completes k e (.feedStatus k) 0x0A06 0 0
       (s.shown [feedReg + 8, feedReg, feedBase 0 + 0x10, feedBase 1 + 0x10, feedBase 2 + 0x10, feedReg + 0x40, feedReg + 0x44]) s)
     ∧ (s.fenced (.pedie 0) = true → s.Completes k e (.feedStatus k) 0x0A06 0 0x30 [] s)
     ∧ (s.pchSafety c = true → s.Completes k e (.pchSet k) 0x8A00 44 0x60 [] s)
     ∧ (s.pchSafety c = false → s.Completes k e (.pchSet k) 0x8A00 44 0 [] (s.regWrites 2 (e.images (b :: wordOffs (b + 0x20) 10)))))
  ∧ (∀ (s : State) (k : CmdKey) (e : CmdEntry),
       let p := e.idx
       (let ports := [1, 2, 3, 4, 5, 6, 7, 8, 9].map usbPort
        s.Completes k e (.usbStatus k) 0x0B00 0 0
          (s.shown ([usbBase + 0x10, usbBase + 0x14] ++ ports ++ ports.map (· + 4) ++ wordOffs (usbBase + 0x40) 11)) s)
       ∧ (let t := s.portLock p (e.arg 0 1 == 1)
          e.arg 0 1 ≤ 1 → e.arg 1 3 = 0 →
          (p = 9 → s.Completes k e (.usbPortPower k) 0x0B01 4 0x0B01 [] s)
          ∧ (p ≠ 9 → s.Completes k e (.usbPortPower k) 0x0B01 4 0 (leBytes 4 (b2n (t.pbit p 8))) t))
       ∧ (e.arg 0 1 ≤ 5 → e.arg 1 3 = 0 →
         (p = 9 → s.Completes k e (.usbTestMode k) 0x0B02 4 0x0B01 [] s)
         ∧ (p ≠ 9 → s.upState = 3 → s.Completes k e (.usbTestMode k) 0x0B02 4 0x0B02 [] s)
         ∧ (p ≠ 9 → s.upState ≠ 3 → s.portsQuiet p = true → s.Completes k e (.usbTestMode k) 0x0B02 4 0 []
           (if e.arg 0 1 = 0 then s.portTestEnd p else s.portTest p (e.arg 0 1))))
       ∧ s.Completes k e (.usbSet k) 0x8B00 24 0 []
         (s.regWrites 2 (e.images [usbBase, usbBase + 4, usbBase + 8, usbBase + 0x14, usbBase + 0x18, usbBase + 0x1C]))
       ∧ (let b := pdBase p
          let os := (s.pd_ p).pdos.take 11
          s.Completes k e (.pdStatus k) 0x0C00 0 0 (s.shown (wordOffs b 4) ++ leBytes 4 os.length
            ++ ((List.range 11).flatMap fun i => leBytes 4 (os.getD i 0)) ++ s.shown (wordOffs (b + 0x80) 11)) s)
       ∧ (let kind := e.arg 0 1
          let mv := e.arg 2 2
          let ma := e.arg 4 2
          let t := s.setPd p { s.pd_ p with choice := some (kind, mv, ma) }
          e.arg 1 1 = 0 → e.arg 6 2 = 0 → kind ≤ 2 → pdRangeOk kind mv ma = true →
          (s.pdSink p = false → s.Completes k e (.pdRequest k) 0x0C01 8 0x0C01 [] s)
          ∧ (s.pdSink p = true → (s.pd_ p).pdos ≠ [] →
            (kind = 1 → s.flag (pdBase p) PD_PCFG_PPS_EN = true) → (s.covers p kind mv ma).isSome = true →
            s.Waits k e (.pdRequest k) 0x0C01 8 (.unit p 0) (t.sendRequest p kind mv ma 0)))
       ∧ (let kind := e.arg 0 1
          let t := s.setPd p { s.pd_ p with swap := some ⟨kind, true, false, 0, false⟩ }
          e.arg 1 3 = 0 → 1 ≤ kind → kind ≤ 3 → (s.pdSource p = true ∨ s.pdSink p = true) → s.flag (pdBase p) PD_PSTAT_CONTRACT = true →
          (kind = 2 → p = 0 ∧ s.flag (pdBase p) PD_PSTAT_DFP = true) → (kind = 1 → s.deadBatt p = false ∧ s.polImage = true) →
          ((s.pd_ p).swap.isSome = true → s.Completes k e (.pdSwap k) 0x0C02 4 0x0C03 [] s)
          ∧ ((s.pd_ p).swap = none → s.Waits k e (.pdSwap k) 0x0C02 4 (.unit p 0) (t.pdControl p (swapMsg kind))))
       ∧ (let bs := s.policyImage
          let t := ({ s with pd := { s.pd with barred := false } } : State).policyEval
          e.arg 0 1 = 0 → e.arg 1 3 = 0 →
          (s.policyCause bs (s.partSize 9) = 0 →
            s.Completes k e (.pdPolicyLoad k) 0x0C03 12 0 (leBytes 4 (leAt bs 8 4)) (t.evt pdAll PD_GEVT 1))
          ∧ (s.policyCause bs (s.partSize 9) ≠ 0 → s.Completes k e (.pdPolicyLoad k) 0x0C03 12 0x0C06 [] s))
       ∧ (let len := e.arg 8 4
          let bs := s.load (e.arg 4 4) len
          let t := s.store (s.partBase 9) bs
          e.arg 0 1 = 1 → e.arg 1 3 = 0 →
          (s.inHost (e.arg 4 4) len = false → s.Completes k e (.pdPolicyLoad k) 0x0C03 12 0x0306 [] s)
          ∧ (s.inHost (e.arg 4 4) len = true → s.policyCause bs (s.partSize 9) = 0 → leAt bs 12 4 + 96 = len →
            s.Completes k e (.pdPolicyLoad k) 0x0C03 12 0 (leBytes 4 (leAt bs 8 4))
              ((({ t with pd := { t.pd with barred := false } } : State).policyEval).evt pdAll PD_GEVT 1)))
       ∧ (let b := pdBase p
          let first := e.arg 24 4
          first / 2 ^ 14 % 4 = 1 → first / 2 ^ 16 = 5000 → s.Completes k e (.pdSet k) 0x8C00 68 0 []
            (s.regWrites 2 (e.images (b :: wordOffs (b + 0x18) 5 ++ wordOffs (b + 0x40) 11)))))

/-- The safety commands (R34, R461, R464, R466, R468, R471, R479): arming passes its checks or names the failing one; a triggered
function is not disarmed; SAFE_EMERGENCY replies when the function is SAFE; LANE_REJOIN waits for the load. The fault
commands (R487, R496 to R498): the log is read and acknowledged; an injection answers with its record, or, for a Fatal kind,
is armed for 100 µs later. -/
def Obligations.SafetyCommands : Prop :=
  (∀ (s : State) (k : CmdKey) (e : CmdEntry) (cls : Fin 7),
     let i := e.idx
     s.Completes k e (.safeStatus k) 0x0D00 0 0
       (s.shown ([crucBase, sfBase 0, sfBase 1, sfBase 2, assayBase 0, assayBase 1, assayBase 2] ++ wordOffs (crucBase + 0x40) 10)) s
     ∧ (s.sfArmed i = true → s.Completes k e (.safeArm k) 0x0D01 0 0 (armResult (0, 255)) s)
     ∧ (s.sfArmed i = false → (s.sfCheck i).1 ≠ 0 → s.Completes k e (.safeArm k) 0x0D01 0 0x0D01 (armResult (s.sfCheck i)) s)
     ∧ (s.sfArmed i = false → (s.sfCheck i).1 = 0 →
       ((s.singleLane = true ∨ s.sys.stby.isSome = true) → s.Completes k e (.safeArm k) 0x0D01 0 0x24 [] s)
       ∧ (s.singleLane = false → s.sys.stby = none → s.Completes k e (.safeArm k) 0x0D01 0 0 (armResult (0, 255)) (s.sfArm i)))
     ∧ (s.sfArmed i = false → s.Completes k e (.safeDisarm k) 0x0D02 0 0 [] s)
     ∧ (let busy := if i = 2 then !s.cruc.holds.isEmpty else s.sfTriggered i
        s.sfArmed i = true →
        (busy = true → s.Completes k e (.safeDisarm k) 0x0D02 0 0x0D02 [] s)
        ∧ (busy = false → s.Completes k e (.safeDisarm k) 0x0D02 0 0 [] (s.sfDisarm i)))
     ∧ (e.arg 0 1 = 2 → e.arg 1 3 = 0 →
       (s.sfArmed i = false → s.Completes k e (.safeEmergency k) 0x0D03 4 0x0D03 [] s)
       ∧ (s.sfArmed i = true → s.sfDemanded i = true → s.Completes k e (.safeEmergency k) 0x0D03 4 0x0D04 [] s)
       ∧ (s.sfArmed i = true → s.sfDemanded i = false →
         s.Completes k e (.safeEmergency k) 0x0D03 4 0 ((s.sfRelease i).sfCtrlBytes i) (s.sfRelease i)))
     ∧ (let t := s.sfTrigger 0 1 s.crucNow
        e.arg 0 1 = 1 → e.arg 1 3 = 0 → i = 0 → s.sfArmed 0 = true →
        (t.flag (sfBase 0) SF_CTRL_SAFE = true → s.Completes k e (.safeEmergency k) 0x0D03 4 0 (t.sfCtrlBytes 0) t)
        ∧ (t.flag (sfBase 0) SF_CTRL_SAFE = false → s.Waits k e (.safeEmergency k) 0x0D03 4 (.unit 0 0) t))
     ∧ (s.fenced (.lane i) = false → s.Completes k e (.laneRejoin k cls) 0x0D04 0 0 (leBytes 4 0) s)
     ∧ (let t := s.assayResult i cls.val
        s.fenced (.lane i) = true →
        (cls ≠ 0 → s.Completes k e (.laneRejoin k cls) 0x0D04 0 0xF0 []
          (t.raise .selftestFail (srcLane i) 0 (leBytes 2 (0x100 + cls.val))))
        ∧ (cls = 0 → s.Waits k e (.laneRejoin k cls) 0x0D04 0 (.unit i 0)
          ((t.set crucBase CRUC_STAT_RESYNC 1).withCruc fun c => { c with resync := some i })))
     ∧ s.Completes k e (.assayRun k cls) 0x0D05 0 0 (s.assayRun i cls.val).1 (s.assayRun i cls.val).2
     ∧ (let offs := safeSetOffs i
        (i = 2 → e.ps.length = 264 →
          (s.sfArmed i = false → s.Completes k e (.safeSet k) 0x8D00 264 0 [] (s.regWrites 2 (e.images offs)))
          ∧ (s.sfArmed i = true → s.Completes k e (.safeSet k) 0x8D00 264 0x60 [] s))
        ∧ (i ≠ 2 → e.ps.length = 80 →
          (s.sfArmed i = false → s.Completes k e (.safeSet k) 0x8D00 80 0 [] (s.regWrites 2 (e.images offs)))
          ∧ (s.sfArmed i = true → s.Completes k e (.safeSet k) 0x8D00 80 0x60 [] s))))
  ∧ (∀ (s : State) (k : CmdKey) (e : CmdEntry),
       (let pos := s.get faultBase FAULT_LOG_POS_INDEX
        let rs := s.faultPick (e.arg 6 1) (e.arg 4 2) (e.arg 0 4)
        1 ≤ e.arg 4 2 → e.arg 4 2 ≤ 127 → e.arg 6 1 ≤ 15 → e.arg 7 1 = 0 → s.Completes k e (.faultRead k) 0x0E00 8 0
          (leBytes 4 (logOldest s.fault.logFull pos) ++ leBytes 4 pos ++ s.shown [faultBase + FAULT_LOG_OVWR.off] ++ leBytes 4 rs.length ++ rs.flatten) s)
       ∧ (let a := e.arg 2 2
          let b := e.arg 4 2
          let answer (pick : Nat → Bool) : Prop := s.Completes k e (.faultAck k) 0x0E01 8 0
            (leBytes 2 (s.ackFaults pick).1 ++ leBytes 2 (min 65535 (s.ackFaults pick).2.fault.unacked.length)) (s.ackFaults pick).2
          e.arg 1 1 = 0 → e.arg 6 2 = 0 →
          (e.arg 0 1 = 1 → (∀ u ∈ s.fault.unacked, u.2.1 ≠ a) → s.Completes k e (.faultAck k) 0x0E01 8 0x0E01 [] s)
          ∧ (e.arg 0 1 = 1 → (∃ u ∈ s.fault.unacked, u.2.1 = a) → answer fun q => q == a)
          ∧ (e.arg 0 1 = 2 → answer fun q => decide ((q + 65536 - a) % 65536 ≤ (b + 65536 - a) % 65536))
          ∧ (e.arg 0 1 = 3 → answer fun _ => true))
       ∧ (let code := e.arg 0 1
          let src := e.arg 2 2
          e.arg 1 1 = 0 → e.arg 10 2 = 0 →
          (s.injectCheck code src ≠ 0 → s.Completes k e (.faultInject k) 0x0E02 12 (s.injectCheck code src) [] s)
          ∧ (s.injectCheck code src = 0 → fatalCode code = true → s.Completes k e (.faultInject k) 0x0E02 12 0 (leBytes 4 0)
            { s with sys := { s.sys with fatal := some (s.uptime + 100000, code, src, e.arg 4 6) } })
          ∧ (s.injectCheck code src = 0 → fatalCode code = false →
            s.Waits k e (.faultInject k) 0x0E02 12 (.unit 0 0) (s.inject code src (e.arg 4 6))))
       ∧ s.Completes k e (.faultSet k) 0x8E00 8 0 [] (s.regWrites 2 (e.images [faultBase + 0x2C, faultBase + 0x28])))

/-- The update and calibration commands (R522, R524, R526, R527, R529, R532 to R536): bytes are staged, an image verified, an
activation planned or withdrawn, calibration read and written, and the owner record changed, each unless its condition fails. -/
def Obligations.UpdateCommands : Prop :=
  ∀ (s : State) (k : CmdKey) (e : CmdEntry) (n : Nat),
    (∀ bs, 16 ≤ n → s.stageData e 1 (8 * 2 ^ 20) = .inr bs →
      (let t := s.stageBytes 0 (e.arg 4 4) bs (bitAt (e.arg 1 1) 0)
       s.Completes k e (.updStage k) 0x0F00 n 0 (leBytes 4 t.upd.blocks.length) t))
    ∧ (∀ bs, 16 ≤ n → s.stageData e 3 bundleSlot = .inr bs →
      (let t := s.stageBytes 1 (e.arg 4 4) bs (bitAt (e.arg 1 1) 0)
       let r := leBytes 4 t.upd.bblocks.length
       (bitAt (e.arg 1 1) 1 = false → s.Completes k e (.bundleStage k) 0x0F04 n 0 r t)
       ∧ (bitAt (e.arg 1 1) 1 = true → t.bundleStatus = 0 →
         s.Completes k e (.bundleStage k) 0x0F04 n 0 r (t.set updBase UPD_STAT_BUNDLE_STAGED 1))
       ∧ (bitAt (e.arg 1 1) 1 = true → t.bundleStatus ≠ 0 →
         s.Completes k e (.bundleStage k) 0x0F04 n t.bundleStatus [] (s.countRefusal t.bundleStatus))))
    ∧ (s.updBusy = true → s.Completes k e (.updVerify k) 0x0F01 0 0x0F06 [] s)
    ∧ (s.updBusy = false → s.verifyStatus ≠ 0 → s.Completes k e (.updVerify k) 0x0F01 0 s.verifyStatus []
      ((s.countRefusal s.verifyStatus).bump updBase UPD_VERIFY_FAILS))
    ∧ (let bs := s.stagedImage
       s.updBusy = false → s.verifyStatus = 0 →
       s.Completes k e (.updVerify k) 0x0F01 0 0 (leBytes 4 (imgVersion bs) ++ leBytes 1 (imgSec bs) ++ leBytes 3 0)
         (((s.updState 2).set updBase UPD_STAT_IMG_WRITE 1).withUpd fun u => { u with writing := some bs, reserve := [] }))
    ∧ (e.arg 0 1 ≤ 3 → e.arg 1 3 = 0 → e.arg 14 2 = 0 → e.stampAt 4 = some 0 →
      (s.actPending = true → s.actDue = false → s.Completes k e (.updActivateAt k) 0x0F02 16 0 (leBytes 12 0) s.actEnd)
      ∧ (s.actPending = false ∨ s.actDue = true → s.Completes k e (.updActivateAt k) 0x0F02 16 0x0403 [] s))
    ∧ (∀ at_, 1 ≤ e.arg 0 1 → e.arg 0 1 ≤ 3 → e.arg 1 3 = 0 → e.arg 14 2 = 0 → e.stampAt 4 = some at_ → at_ ≠ 0 →
      (let img := bitAt (e.arg 0 1) 0
       let bun := bitAt (e.arg 0 1) 1
       let t := if bun then s.writeInactive (s.bundleFrom s.bundleAt) else s
       let t := if s.actPending then t else t.withUpd fun u => { u with prior := s.get updBase UPD_STAT_STATE }
       let t := ((t.setActAt at_).set updBase UPD_ACT_FLAGS_IMAGE (b2n img)).set updBase UPD_ACT_FLAGS_BUNDLE (b2n bun)
       (img = true → s.imgVerified = true) → (bun = true → s.flag updBase UPD_STAT_BUNDLE_STAGED = true) →
       s.updRefusal (if img then some (imgSec s.upd.reserve) else none) = 0 → s.timeValid = true → s.crucNow + 100000000 ≤ at_ →
       s.Completes k e (.updActivateAt k) 0x0F02 16 0 (stampBytes at_ ++ leBytes 2 0)
         ((t.updState 4).withUpd fun u => { u with late := false })))
    ∧ s.Completes k e (.updStatus k) 0x0F03 0 0 (s.shown (wordOffs updBase 16 ++ wordOffs (updBase + 0x80) 5)) s
    ∧ (1 ≤ e.arg 2 2 → e.arg 2 2 ≤ 4080 → e.arg 0 2 + e.arg 2 2 ≤ 4096 →
      s.Completes k e (.calibRead k) 0x0F05 4 0 (((calBytes s.upd.calib).drop (e.arg 0 2)).take (e.arg 2 2)) s)
    ∧ (e.ps.length = n → n = 8 + e.arg 2 2 → 16 ≤ e.arg 0 2 → e.arg 0 2 + e.arg 2 2 ≤ 4096 → e.arg 4 4 = 0 →
      (∀ i < 3, s.sfArmed i = false) → leAt (calBytes s.upd.array) 8 4 < 1000 →
      s.Waits k e (.calibWrite k) 0x8F00 n (.unit 0 0)
        (s.withUpd fun u => { u with calWrite := some (s.calibMade (e.arg 0 2) (e.ps.drop 8), s.uptime + 50000000) }))
    ∧ (let which := e.arg 1 1
       let key := e.ps.drop 4
       let t1 := s.withUpd fun u => { u with ownerKey := some key }
       let t2 := s.ownerBits which true
       let t3 := (s.ownerBits which false).newNonce
       which ≤ 3 → e.arg 2 2 = 0 →
       (e.arg 0 1 = 1 → s.upd.ownerKey = none → s.Completes k e (.ownerLock k) 0x8F01 68 0 t1.ownerShown t1)
       ∧ (e.arg 0 1 = 1 → s.upd.ownerKey ≠ none → s.Completes k e (.ownerLock k) 0x8F01 68 0x0F05 [] s)
       ∧ (e.arg 0 1 = 2 → s.Completes k e (.ownerLock k) 0x8F01 68 0 t2.ownerShown t2)
       ∧ (e.arg 0 1 = 3 → s.ownerSigned key = true → s.Completes k e (.ownerLock k) 0x8F01 68 0 t3.ownerShown t3)
       ∧ (e.arg 0 1 = 3 → s.ownerSigned key = false → s.Completes k e (.ownerLock k) 0x8F01 68 0x0F01 [] s))
end

