-- ==== Sys2Proof/Laws/Tables.lean ====
section
/-! SUPPORT. Laws of the sparse tables: what a write leaves to be read, and that every operation keeps the canonical form. -/

namespace Sys2Proof.Machine

variable {α : Type}

/-- Every listed key is above `k`. -/
def Tbl.above (k : Nat) (m : Tbl α) : Prop := ∀ p ∈ m, k < p.1

theorem Tbl.sorted_cons {k : Nat} {v : α} {m : Tbl α} :
    Tbl.sorted ((k, v) :: m) = true ↔ Tbl.above k m ∧ Tbl.sorted m = true := by
  induction m generalizing k v with
  | nil => simp [Tbl.sorted, Tbl.above]
  | cons p m ih =>
    obtain ⟨k', v'⟩ := p
    simp only [Tbl.sorted, Bool.and_eq_true, decide_eq_true_eq]
    constructor
    · rintro ⟨h, hs⟩
      refine ⟨?_, hs⟩
      intro q hq
      rcases List.mem_cons.mp hq with rfl | hq
      · exact h
      · exact lt_trans h ((ih.mp hs).1 q hq)
    · rintro ⟨h, hs⟩
      exact ⟨h _ (List.mem_cons_self ..), hs⟩

theorem Tbl.get_of_above {d : Nat → α} {k : Nat} {m : Tbl α} (h : Tbl.above k m) : Tbl.get d m k = d k := by
  induction m with
  | nil => rfl
  | cons p m ih =>
    obtain ⟨k', v'⟩ := p
    have h1 : k < k' := h (k', v') (List.mem_cons_self ..)
    rw [Tbl.get, if_neg (by omega)]
    exact ih fun q hq => h q (List.mem_cons_of_mem _ hq)

theorem Tbl.above_filter {k : Nat} {m : Tbl α} (f : Nat × α → Bool) (h : Tbl.above k m) : Tbl.above k (m.filter f) :=
  fun p hp => h p (List.mem_filter.mp hp).1

theorem Tbl.sorted_filter {m : Tbl α} (f : Nat × α → Bool) (h : Tbl.sorted m = true) : Tbl.sorted (m.filter f) = true := by
  induction m with
  | nil => rfl
  | cons p m ih =>
    obtain ⟨k, v⟩ := p
    obtain ⟨ha, hs⟩ := Tbl.sorted_cons.mp h
    rw [List.filter_cons]
    split
    · exact Tbl.sorted_cons.mpr ⟨Tbl.above_filter f ha, ih hs⟩
    · exact ih hs

theorem Tbl.above_insert {k j : Nat} {v : α} {m : Tbl α} (hj : j < k) (h : Tbl.above j m) : Tbl.above j (m.insert k v) := by
  induction m with
  | nil => intro p hp; rcases List.mem_singleton.mp hp with rfl; exact hj
  | cons p m ih =>
    obtain ⟨k', v'⟩ := p
    have h' : Tbl.above j m := fun q hq => h q (List.mem_cons_of_mem _ hq)
    have hk : j < k' := h _ (List.mem_cons_self ..)
    unfold Tbl.insert
    split
    · intro q hq
      rcases List.mem_cons.mp hq with rfl | hq
      · exact hj
      · exact h q hq
    · split
      · intro q hq
        rcases List.mem_cons.mp hq with rfl | hq
        · exact hj
        · exact h' q hq
      · intro q hq
        rcases List.mem_cons.mp hq with rfl | hq
        · exact hk
        · exact ih h' q hq

theorem Tbl.sorted_insert {k : Nat} {v : α} {m : Tbl α} (h : Tbl.sorted m = true) : Tbl.sorted (m.insert k v) = true := by
  induction m with
  | nil => rfl
  | cons p m ih =>
    obtain ⟨k', v'⟩ := p
    obtain ⟨ha, hs⟩ := Tbl.sorted_cons.mp h
    unfold Tbl.insert
    split
    · rename_i hlt
      refine Tbl.sorted_cons.mpr ⟨?_, h⟩
      intro q hq
      rcases List.mem_cons.mp hq with rfl | hq
      · exact hlt
      · exact lt_trans hlt (ha q hq)
    · split
      · rename_i heq
        exact Tbl.sorted_cons.mpr ⟨heq ▸ ha, hs⟩
      · rename_i hn hne
        exact Tbl.sorted_cons.mpr ⟨Tbl.above_insert (by omega) ha, ih hs⟩

theorem Tbl.mem_insert {k : Nat} {v : α} {m : Tbl α} {p : Nat × α} (h : p ∈ m.insert k v) : p = (k, v) ∨ p ∈ m := by
  induction m with
  | nil => exact .inl (List.mem_singleton.mp h)
  | cons q m ih =>
    obtain ⟨k', v'⟩ := q
    unfold Tbl.insert at h
    split at h
    · exact List.mem_cons.mp h
    · split at h
      · rcases List.mem_cons.mp h with h | h
        · exact .inl h
        · exact .inr (List.mem_cons_of_mem _ h)
      · rcases List.mem_cons.mp h with h | h
        · exact .inr (h ▸ List.mem_cons_self ..)
        · rcases ih h with h | h
          · exact .inl h
          · exact .inr (List.mem_cons_of_mem _ h)

/-- A write keeps the canonical form. -/
theorem Tbl.wf_put [DecidableEq α] {d : Nat → α} {m : Tbl α} (k : Nat) (v : α) (h : Tbl.wf d m = true) :
    Tbl.wf d (m.put d k v) = true := by
  simp only [Tbl.wf, Bool.and_eq_true, List.all_eq_true] at h ⊢
  unfold Tbl.put
  split
  · exact ⟨Tbl.sorted_filter _ h.1, fun p hp => h.2 p (List.mem_filter.mp hp).1⟩
  · rename_i hv
    refine ⟨Tbl.sorted_insert h.1, fun p hp => ?_⟩
    rcases Tbl.mem_insert hp with rfl | hp
    · simpa using hv
    · exact h.2 p hp

/-- Any table brought to the canonical form has it. -/
theorem Tbl.wf_tidy [DecidableEq α] (d : Nat → α) (m : Tbl α) : Tbl.wf d (Tbl.tidy d m) = true := by
  induction m with
  | nil => rfl
  | cons p m ih => exact Tbl.wf_put _ _ ih

theorem Tbl.insert_of_above {k : Nat} {v : α} {m : Tbl α} (h : Tbl.above k m) : m.insert k v = (k, v) :: m := by
  cases m with
  | nil => rfl
  | cons p m => rw [Tbl.insert, if_pos (h p (List.mem_cons_self ..))]

/-- A table in the canonical form is as it is. -/
theorem Tbl.tidy_of_wf [DecidableEq α] {d : Nat → α} {m : Tbl α} (h : Tbl.wf d m = true) : Tbl.tidy d m = m := by
  induction m with
  | nil => rfl
  | cons p m ih =>
    obtain ⟨k, v⟩ := p
    simp only [Tbl.wf, Bool.and_eq_true, List.all_eq_true] at h
    obtain ⟨ha, hs⟩ := Tbl.sorted_cons.mp h.1
    have hm : Tbl.wf d m = true := by
      simp only [Tbl.wf, Bool.and_eq_true, List.all_eq_true]
      exact ⟨hs, fun q hq => h.2 q (List.mem_cons_of_mem _ hq)⟩
    have hv : v ≠ d k := by simpa using h.2 (k, v) (List.mem_cons_self ..)
    rw [Tbl.tidy, ih hm, Tbl.put, if_neg hv, Tbl.insert_of_above ha]

theorem Tbl.get_insert_same {d : Nat → α} {m : Tbl α} (k : Nat) (v : α) : Tbl.get d (m.insert k v) k = v := by
  induction m with
  | nil => simp [Tbl.insert, Tbl.get]
  | cons p m ih =>
    obtain ⟨k', v'⟩ := p
    unfold Tbl.insert
    split
    · simp [Tbl.get]
    · split
      · simp [Tbl.get]
      · rename_i hn hne
        simp [Tbl.get, hne, ih]

theorem Tbl.get_insert_other {d : Nat → α} {m : Tbl α} {k j : Nat} (v : α) (h : j ≠ k) :
    Tbl.get d (m.insert k v) j = Tbl.get d m j := by
  induction m with
  | nil => simp [Tbl.insert, Tbl.get, h]
  | cons p m ih =>
    obtain ⟨k', v'⟩ := p
    unfold Tbl.insert
    split
    · simp [Tbl.get, h]
    · split
      · rename_i hk
        subst hk
        simp [Tbl.get, h]
      · simp only [Tbl.get, ih]

theorem Tbl.get_erase_same {d : Nat → α} {m : Tbl α} (k : Nat) : Tbl.get d (m.erase k) k = d k := by
  induction m with
  | nil => rfl
  | cons p m ih =>
    obtain ⟨k', v'⟩ := p
    rw [Tbl.erase, List.filter_cons]
    split
    · rename_i hk
      have hk : ¬ k = k' := fun e => by simp [e] at hk
      rw [Tbl.get, if_neg hk]
      exact ih
    · exact ih

theorem Tbl.get_erase_other {d : Nat → α} {m : Tbl α} {k j : Nat} (h : j ≠ k) : Tbl.get d (m.erase k) j = Tbl.get d m j := by
  induction m with
  | nil => rfl
  | cons p m ih =>
    obtain ⟨k', v'⟩ := p
    rw [Tbl.erase, List.filter_cons]
    split
    · simp only [Tbl.get]
      split
      · rfl
      · exact ih
    · rename_i hk
      have hk : k' = k := by simpa using hk
      rw [Tbl.get, if_neg (by omega)]
      exact ih

/-- A key reads as it was written. -/
@[simp] theorem Tbl.get_put_same [DecidableEq α] {d : Nat → α} {m : Tbl α} (k : Nat) (v : α) : Tbl.get d (m.put d k v) k = v := by
  unfold Tbl.put
  split
  · rename_i h
    rw [Tbl.get_erase_same, h]
  · exact Tbl.get_insert_same k v

/-- Another key reads as before. -/
theorem Tbl.get_put_other [DecidableEq α] {d : Nat → α} {m : Tbl α} {k j : Nat} (v : α) (h : j ≠ k) :
    Tbl.get d (m.put d k v) j = Tbl.get d m j := by
  unfold Tbl.put
  split
  · exact Tbl.get_erase_other h
  · exact Tbl.get_insert_other v h

end Sys2Proof.Machine
end

