-- ==== Sys2Proof/Laws/Regs.lean ====
section
/-! SUPPORT. Laws of register words, register fields and the shared store: a read after a write, and what a write leaves
alone. -/

namespace Sys2Proof.Machine

/-! ### Bits of a word -/

theorem bitsOf_lt (w : Word) (lo n : Nat) : bitsOf w lo n < 2 ^ n := (w.extractLsb' lo n).isLt

theorem putBits_getLsbD (w : Word) (lo n v i : Nat) :
    (putBits w lo n v).getLsbD i =
      if lo ≤ i ∧ i < lo + n ∧ i < 32 then v.testBit (i - lo) else w.getLsbD i := by
  unfold putBits
  simp only [BitVec.getLsbD_or, BitVec.getLsbD_and, BitVec.getLsbD_not, BitVec.getLsbD_shiftLeft, BitVec.getLsbD_setWidth,
    BitVec.getLsbD_allOnes, BitVec.getLsbD_ofNat]
  by_cases h32 : i < 32
  · by_cases hlo : lo ≤ i
    · by_cases hn : i < lo + n
      · have h1 : i - lo < n := by omega
        have h2 : i - lo < 32 := by omega
        have h3 : ¬ i < lo := by omega
        simp [h32, hlo, hn, h1, h2, h3]
      · have h1 : ¬ i - lo < n := by omega
        simp [h32, hlo, hn, h1]
    · have h3 : i < lo := by omega
      simp [h32, hlo, h3]
  · have : w.getLsbD i = false := BitVec.getLsbD_of_ge _ _ (by omega)
    simp [h32, this]

/-- A field reads as the low bits of what was put there. -/
theorem bitsOf_putBits_same (w : Word) (lo n v : Nat) (h : lo + n ≤ 32) : bitsOf (putBits w lo n v) lo n = v % 2 ^ n := by
  have : (putBits w lo n v).extractLsb' lo n = BitVec.ofNat n v := by
    apply BitVec.eq_of_getLsbD_eq
    intro i hi
    have hk : lo + i < 32 := by omega
    have h2 : lo + i - lo = i := by omega
    rw [BitVec.getLsbD_extractLsb', putBits_getLsbD, BitVec.getLsbD_ofNat, if_pos ⟨by omega, by omega, hk⟩, h2]
  rw [bitsOf, this, BitVec.toNat_ofNat]

/-- A field that lies apart from the one put reads as before. -/
theorem bitsOf_putBits_other (w : Word) (lo n v lo' n' : Nat) (h : lo' + n' ≤ lo ∨ lo + n ≤ lo') :
    bitsOf (putBits w lo n v) lo' n' = bitsOf w lo' n' := by
  have : (putBits w lo n v).extractLsb' lo' n' = w.extractLsb' lo' n' := by
    apply BitVec.eq_of_getLsbD_eq
    intro i hi
    have hk : ¬ (lo ≤ lo' + i ∧ lo' + i < lo + n ∧ lo' + i < 32) := by omega
    simp only [BitVec.getLsbD_extractLsb', putBits_getLsbD, if_neg hk]
  rw [bitsOf, this, bitsOf]

/-! ### Registers -/

@[simp] theorem rd_wr_same (s : State) (a : Nat) (w : Word) : (s.wr a w).rd a = w := by simp [State.rd, State.wr]

theorem rd_wr_other (s : State) {a b : Nat} (w : Word) (h : b ≠ a) : (s.wr a w).rd b = s.rd b := by
  simp only [State.rd, State.wr, Tbl.get_put_other w h]

/-- A field reads as it was set. -/
theorem get_set_same (s : State) (base : Nat) (f : Fld) (v : Nat) (h : f.lo + f.width ≤ 32) :
    (s.set base f v).get base f = v % 2 ^ f.width := by
  simp only [State.get, State.set, rd_wr_same, bitsOf_putBits_same _ _ _ _ h]

/-- A field of another register word reads as before. -/
theorem get_set_word (s : State) (base base' : Nat) (f g : Fld) (v : Nat) (h : base' + g.off ≠ base + f.off) :
    (s.set base f v).get base' g = s.get base' g := by
  simp only [State.get, State.set, rd_wr_other s _ h]

/-- A field of the same register word that lies apart reads as before. -/
theorem get_set_bits (s : State) (base base' : Nat) (f g : Fld) (v : Nat) (he : base' + g.off = base + f.off)
    (h : g.lo + g.width ≤ f.lo ∨ f.lo + f.width ≤ g.lo) : (s.set base f v).get base' g = s.get base' g := by
  simp only [State.get, State.set, he, rd_wr_same, bitsOf_putBits_other _ _ _ _ _ _ h]

theorem get_lt (s : State) (base : Nat) (f : Fld) : s.get base f < 2 ^ f.width := bitsOf_lt _ _ _

/-- A counter that stays below bit 31 rises by `n` and nothing else changes. -/
theorem bumpAt_small (s : State) (a n : Nat) (h : (s.rd a).toNat + n < 2 ^ 31) :
    s.bumpAt a n = s.wr a (BitVec.ofNat 32 ((s.rd a).toNat + n)) := by
  unfold State.bumpAt
  rw [if_neg (by omega)]

/-! ### The shared store -/

/-- Writing bytes keeps the canonical form. -/
theorem memWrite_wf (bs : List Byte) : ∀ (m : Tbl Byte) (a : Nat), Tbl.wf (fun _ => 0#8) m = true →
    Tbl.wf (fun _ => 0#8) (memWrite m a bs) = true := by
  induction bs with
  | nil => intro m a h; exact h
  | cons b bs ih => intro m a h; exact ih _ _ (Tbl.wf_put _ _ h)

/-- A byte outside those written reads as before. -/
theorem memWrite_other (bs : List Byte) : ∀ (m : Tbl Byte) (a j : Nat), j < a ∨ a + bs.length ≤ j →
    Tbl.get (fun _ => 0#8) (memWrite m a bs) j = Tbl.get (fun _ => 0#8) m j := by
  induction bs with
  | nil => intro m a j _; rfl
  | cons b bs ih =>
    intro m a j h
    rw [memWrite, ih _ _ _ (by simp only [List.length_cons] at h; omega)]
    exact Tbl.get_put_other _ (by simp only [List.length_cons] at h; omega)

/-- A byte written reads as written. -/
theorem memWrite_same (bs : List Byte) : ∀ (m : Tbl Byte) (a k : Nat) (h : k < bs.length),
    Tbl.get (fun _ => 0#8) (memWrite m a bs) (a + k) = bs[k] := by
  induction bs with
  | nil => intro m a k h; simp at h
  | cons b bs ih =>
    intro m a k h
    rw [memWrite]
    cases k with
    | zero => rw [memWrite_other _ _ _ _ (by omega)]; simp
    | succ k =>
      have hk : k < bs.length := by simpa using h
      have e : a + (k + 1) = a + 1 + k := by omega
      rw [e, ih _ _ _ hk]
      simp

theorem store_wf (s : State) (a : Nat) (bs : List Byte) (h : Tbl.wf (fun _ => 0#8) s.mem = true) :
    Tbl.wf (fun _ => 0#8) (s.store a bs).mem = true := memWrite_wf _ _ _ h

theorem byteAt_store_other (s : State) (a j : Nat) (bs : List Byte) (h : j < a ∨ a + bs.length ≤ j) :
    (s.store a bs).byteAt j = s.byteAt j := memWrite_other _ _ _ _ h

theorem byteAt_store_same (s : State) (a k : Nat) (bs : List Byte) (h : k < bs.length) :
    (s.store a bs).byteAt (a + k) = bs[k] := memWrite_same _ _ _ _ h

/-- A register write keeps the canonical form of the register file. -/
theorem wr_wf (s : State) (a : Nat) (w : Word) (h : Tbl.wf regReset s.regs = true) : Tbl.wf regReset (s.wr a w).regs = true :=
  Tbl.wf_put _ _ h

end Sys2Proof.Machine
end

