-- ==== Sys2Proof/Laws/Outcome.lean ====
section
/-! SUPPORT. What an outcome is: every row answers a next state, by one of three ways to run, and what stands after a row keeps
the queue, the time, the variant, the canonical forms and the HELD latch. -/

namespace Sys2Proof.Machine

/-! ### Settling -/

theorem settleFor_calm (n : Nat) (s : State) (h : s.calm = true) : s.settleFor n = s := by
  cases n with
  | zero => rfl
  | succ n => rw [State.settleFor, if_pos h]

/-- Where nothing waits there is no reaction. -/
theorem settle_calm (s : State) (h : s.calm = true) : s.settle = s := settleFor_calm _ _ h

/-! ### What stands after a row -/

@[simp] theorem after_pending (s t : State) : (s.after t).pending = s.pending := rfl
@[simp] theorem after_variant (s t : State) : (s.after t).variant = s.variant := rfl
@[simp] theorem after_uptime (s t : State) : (s.after t).uptime = s.uptime := rfl

theorem after_mem_wf (s t : State) : Tbl.wf (fun _ => 0#8) (s.after t).mem = true := Tbl.wf_tidy _ _
theorem after_regs_wf (s t : State) : Tbl.wf regReset (s.after t).regs = true := Tbl.wf_tidy _ _

/-- After any row both sparse files are in their canonical form. -/
theorem after_inv (s t : State) : (s.after t).Inv := ⟨after_mem_wf s t, after_regs_wf s t⟩

/-- A hub in HELD is in HELD after a row. -/
theorem after_held (s t : State) (h : s.inHeld = true) : (s.after t).inHeld = true := by
  have h' : s.fault.held = true := h
  show (s.fault.held || _) = true
  rw [h', Bool.true_or]

/-- A row whose effect leaves nothing waiting, with both files canonical, leaves just that effect. -/
theorem after_calm (s t : State) (hc : t.calm = true) (hm : Tbl.wf (fun _ => 0#8) t.mem = true)
    (hr : Tbl.wf regReset t.regs = true) :
    s.after t = { t with variant := s.variant, pending := s.pending, uptime := s.uptime
                         fault := { t.fault with held := s.fault.held || t.fault.held } } := by
  unfold State.after
  simp only [settle_calm t hc, ite_self, Tbl.tidy_of_wf hm, Tbl.tidy_of_wf hr]

/-- A row without effect leaves a calm canonical state as it was. -/
theorem after_self (s : State) (hc : s.calm = true) (hi : s.Inv) : s.after s = s := by
  rw [after_calm s s hc hi.1 hi.2]
  simp

/-! ### Rows that run -/

theorem run_up {s : State} (f : State → State) (h : s.sys.up = true) : s.run f = .next (s.after (f s)) := by
  rw [State.run, if_pos h]

/-- With the main die down a row of the main die has no effect. -/
theorem run_down {s : State} (f : State → State) (h : s.sys.up = false) : s.run f = .next (s.after s) := by
  rw [State.run, h, if_neg (by decide)]

theorem run_live {s : State} (f : State → State) (h : s.Live) : s.runLive f = .next (s.after (f s)) := by
  rw [State.runLive, run_up _ h.1, h.2, if_neg (by decide)]

/-- In HELD a row of a part that HELD stops has no effect (R494). -/
theorem run_live_held {s : State} (f : State → State) (h : s.inHeld = true) : s.runLive f = .next (s.after s) := by
  simp only [State.runLive, State.run, h, if_true, ite_self]

theorem run_ring {s : State} (f : State → State) (h : s.Clocked) : s.runRing f = .next (s.after (f s)) := by
  rw [State.runRing, run_up _ h.1, if_pos h.2]

theorem run_port {s : State} (p : Nat) (f : State → State) (h : s.PortRuns p) : s.runPort p f = .next (s.after (f s)) := by
  unfold State.PortRuns at h
  unfold State.runPort
  split at h
  · rename_i hp; rw [if_pos hp, run_ring _ h]
  · rename_i hp; rw [if_neg hp, run_live _ h]

theorem run_die {s : State} (d : Nat) (f : State → State) (hp : (s.die d).powered = true)
    (hu : s.unitPresent (.pedie d) = true) : s.runDie d f = .next (s.after (f s)) := by
  rw [State.runDie, State.runAon, if_pos ⟨hp, hu⟩]

theorem run_pch {s : State} (c : Nat) (f : State → State) (hp : (s.die (c / 32)).powered = true)
    (hu : s.unitPresent (.pedie (c / 32)) = true) (hc : c < s.nPch) : s.runPch c f = .next (s.after (f s)) := by
  rw [State.runPch, run_die _ _ hp hu, if_pos hc]

/-- A command that executes and comes to a reply leaves its effect and the reply. -/
theorem run_command {s t : State} {k : CmdKey} {op n st : Nat} {e : CmdEntry} {res : List Byte} {len : Nat → Bool}
    {f : State → CmdEntry → CmdRes} (h : s.Executes k op n e) (hl : len n = true) (hf : f s e = .done st res t) :
    s.run (fun s => s.command k op len f) = .next (s.after (t.reply k st res)) := by
  obtain ⟨⟨hu, hh⟩, he, ho, hn, hd, at_, hp⟩ := h
  rw [run_up _ hu]
  unfold State.command
  simp [he, ho, hh, hp, hn, hl, hf, hd]

/-- A command that executes and comes to a wait leaves its effect and waits. -/
theorem run_command_wait {s t : State} {k : CmdKey} {op n at_ : Nat} {e : CmdEntry} {w : WaitKind} {len : Nat → Bool}
    {f : State → CmdEntry → CmdRes} (h : s.Executes k op n e) (hp : e.phase = .executing at_ none) (hl : len n = true)
    (hf : f s e = .wait w t) :
    s.run (fun s => s.command k op len f)
      = .next (s.after (t.setEntry k fun e => { e with phase := .executing at_ (some w) })) := by
  obtain ⟨⟨hu, hh⟩, he, ho, hn, hd, at', hp'⟩ := h
  rw [run_up _ hu]
  unfold State.command
  simp [he, ho, hh, hp, hn, hl, hf, hd]

/-! ### The ways to run -/

/-- The ways a row runs. -/
inductive Runs (s : State) : Host.Outcome State Fault Refusal → Prop where
  | run (f : State → State) : Runs s (s.run f)
  | aon (f : State → State) : Runs s (s.runAon f)
  | cold (f : State → State) : Runs s (s.runCold f)

theorem runs_run (s : State) (f : State → State) : Runs s (s.run f) := .run f
theorem runs_live (s : State) (f : State → State) : Runs s (s.runLive f) := .run _
theorem runs_ring (s : State) (f : State → State) : Runs s (s.runRing f) := .run _
theorem runs_aon (s : State) (f : State → State) : Runs s (s.runAon f) := .aon f

theorem runs_port (s : State) (p : Nat) (f : State → State) : Runs s (s.runPort p f) := by
  unfold State.runPort
  split
  · exact .run _
  · exact .run _

/-- A run answers a next state with the queue, the variant and the time as they were and both files canonical. -/
theorem Runs.next {s : State} {o : Host.Outcome State Fault Refusal} (h : Runs s o) :
    ∃ t, o = .next t ∧ t.pending = s.pending ∧ t.variant = s.variant ∧ t.uptime = s.uptime ∧ t.Inv := by
  cases h with
  | run f => exact ⟨_, rfl, rfl, rfl, rfl, after_inv _ _⟩
  | aon f => exact ⟨_, rfl, rfl, rfl, rfl, after_inv _ _⟩
  | cold f => exact ⟨_, rfl, rfl, rfl, rfl, after_inv _ _⟩

end Sys2Proof.Machine
end

