-- ==== Sys2Proof/Laws/State.lean ====
section
/-! SUPPORT. What each plain update of the state does to each field, so that no proof unfolds a record update. -/

namespace Sys2Proof.Machine

/-! ### wr -/

@[simp] theorem wr_variant (s : State) (a : Nat) (w : Word) : (s.wr a w).variant = s.variant := rfl
@[simp] theorem wr_pending (s : State) (a : Nat) (w : Word) : (s.wr a w).pending = s.pending := rfl
@[simp] theorem wr_regs (s : State) (a : Nat) (w : Word) : (s.wr a w).regs = Tbl.put regReset s.regs a w := rfl
@[simp] theorem wr_mem (s : State) (a : Nat) (w : Word) : (s.wr a w).mem = s.mem := rfl
@[simp] theorem wr_memErr (s : State) (a : Nat) (w : Word) : (s.wr a w).memErr = s.memErr := rfl
@[simp] theorem wr_uptime (s : State) (a : Nat) (w : Word) : (s.wr a w).uptime = s.uptime := rfl
@[simp] theorem wr_ring (s : State) (a : Nat) (w : Word) : (s.wr a w).ring = s.ring := rfl
@[simp] theorem wr_ringFrac (s : State) (a : Nat) (w : Word) : (s.wr a w).ringFrac = s.ringFrac := rfl
@[simp] theorem wr_outs (s : State) (a : Nat) (w : Word) : (s.wr a w).outs = s.outs := rfl
@[simp] theorem wr_halfs (s : State) (a : Nat) (w : Word) : (s.wr a w).halfs = s.halfs := rfl
@[simp] theorem wr_freeCount (s : State) (a : Nat) (w : Word) : (s.wr a w).freeCount = s.freeCount := rfl
@[simp] theorem wr_replicas (s : State) (a : Nat) (w : Word) : (s.wr a w).replicas = s.replicas := rfl
@[simp] theorem wr_sprue (s : State) (a : Nat) (w : Word) : (s.wr a w).sprue = s.sprue := rfl
@[simp] theorem wr_fab (s : State) (a : Nat) (w : Word) : (s.wr a w).fab = s.fab := rfl
@[simp] theorem wr_cmd (s : State) (a : Nat) (w : Word) : (s.wr a w).cmd = s.cmd := rfl
@[simp] theorem wr_bridge (s : State) (a : Nat) (w : Word) : (s.wr a w).bridge = s.bridge := rfl
@[simp] theorem wr_fault (s : State) (a : Nat) (w : Word) : (s.wr a w).fault = s.fault := rfl
@[simp] theorem wr_islands (s : State) (a : Nat) (w : Word) : (s.wr a w).islands = s.islands := rfl
@[simp] theorem wr_ledger (s : State) (a : Nat) (w : Word) : (s.wr a w).ledger = s.ledger := rfl
@[simp] theorem wr_pimg (s : State) (a : Nat) (w : Word) : (s.wr a w).pimg = s.pimg := rfl
@[simp] theorem wr_inbox (s : State) (a : Nat) (w : Word) : (s.wr a w).inbox = s.inbox := rfl
@[simp] theorem wr_time (s : State) (a : Nat) (w : Word) : (s.wr a w).time = s.time := rfl
@[simp] theorem wr_ringNet (s : State) (a : Nat) (w : Word) : (s.wr a w).ringNet = s.ringNet := rfl
@[simp] theorem wr_sched (s : State) (a : Nat) (w : Word) : (s.wr a w).sched = s.sched := rfl
@[simp] theorem wr_cans (s : State) (a : Nat) (w : Word) : (s.wr a w).cans = s.cans := rfl
@[simp] theorem wr_flasks (s : State) (a : Nat) (w : Word) : (s.wr a w).flasks = s.flasks := rfl
@[simp] theorem wr_lines (s : State) (a : Nat) (w : Word) : (s.wr a w).lines = s.lines := rfl
@[simp] theorem wr_banks (s : State) (a : Nat) (w : Word) : (s.wr a w).banks = s.banks := rfl
@[simp] theorem wr_power (s : State) (a : Nat) (w : Word) : (s.wr a w).power = s.power := rfl
@[simp] theorem wr_cruc (s : State) (a : Nat) (w : Word) : (s.wr a w).cruc = s.cruc := rfl
@[simp] theorem wr_usb (s : State) (a : Nat) (w : Word) : (s.wr a w).usb = s.usb := rfl
@[simp] theorem wr_pd (s : State) (a : Nat) (w : Word) : (s.wr a w).pd = s.pd := rfl
@[simp] theorem wr_sys (s : State) (a : Nat) (w : Word) : (s.wr a w).sys = s.sys := rfl
@[simp] theorem wr_tap (s : State) (a : Nat) (w : Word) : (s.wr a w).tap = s.tap := rfl
@[simp] theorem wr_upd (s : State) (a : Nat) (w : Word) : (s.wr a w).upd = s.upd := rfl

/-! ### set -/

@[simp] theorem set_variant (s : State) (b : Nat) (f : Fld) (v : Nat) : (s.set b f v).variant = s.variant := rfl
@[simp] theorem set_pending (s : State) (b : Nat) (f : Fld) (v : Nat) : (s.set b f v).pending = s.pending := rfl
@[simp] theorem set_mem (s : State) (b : Nat) (f : Fld) (v : Nat) : (s.set b f v).mem = s.mem := rfl
@[simp] theorem set_memErr (s : State) (b : Nat) (f : Fld) (v : Nat) : (s.set b f v).memErr = s.memErr := rfl
@[simp] theorem set_uptime (s : State) (b : Nat) (f : Fld) (v : Nat) : (s.set b f v).uptime = s.uptime := rfl
@[simp] theorem set_ring (s : State) (b : Nat) (f : Fld) (v : Nat) : (s.set b f v).ring = s.ring := rfl
@[simp] theorem set_ringFrac (s : State) (b : Nat) (f : Fld) (v : Nat) : (s.set b f v).ringFrac = s.ringFrac := rfl
@[simp] theorem set_outs (s : State) (b : Nat) (f : Fld) (v : Nat) : (s.set b f v).outs = s.outs := rfl
@[simp] theorem set_halfs (s : State) (b : Nat) (f : Fld) (v : Nat) : (s.set b f v).halfs = s.halfs := rfl
@[simp] theorem set_freeCount (s : State) (b : Nat) (f : Fld) (v : Nat) : (s.set b f v).freeCount = s.freeCount := rfl
@[simp] theorem set_replicas (s : State) (b : Nat) (f : Fld) (v : Nat) : (s.set b f v).replicas = s.replicas := rfl
@[simp] theorem set_sprue (s : State) (b : Nat) (f : Fld) (v : Nat) : (s.set b f v).sprue = s.sprue := rfl
@[simp] theorem set_fab (s : State) (b : Nat) (f : Fld) (v : Nat) : (s.set b f v).fab = s.fab := rfl
@[simp] theorem set_cmd (s : State) (b : Nat) (f : Fld) (v : Nat) : (s.set b f v).cmd = s.cmd := rfl
@[simp] theorem set_bridge (s : State) (b : Nat) (f : Fld) (v : Nat) : (s.set b f v).bridge = s.bridge := rfl
@[simp] theorem set_fault (s : State) (b : Nat) (f : Fld) (v : Nat) : (s.set b f v).fault = s.fault := rfl
@[simp] theorem set_islands (s : State) (b : Nat) (f : Fld) (v : Nat) : (s.set b f v).islands = s.islands := rfl
@[simp] theorem set_ledger (s : State) (b : Nat) (f : Fld) (v : Nat) : (s.set b f v).ledger = s.ledger := rfl
@[simp] theorem set_pimg (s : State) (b : Nat) (f : Fld) (v : Nat) : (s.set b f v).pimg = s.pimg := rfl
@[simp] theorem set_inbox (s : State) (b : Nat) (f : Fld) (v : Nat) : (s.set b f v).inbox = s.inbox := rfl
@[simp] theorem set_time (s : State) (b : Nat) (f : Fld) (v : Nat) : (s.set b f v).time = s.time := rfl
@[simp] theorem set_ringNet (s : State) (b : Nat) (f : Fld) (v : Nat) : (s.set b f v).ringNet = s.ringNet := rfl
@[simp] theorem set_sched (s : State) (b : Nat) (f : Fld) (v : Nat) : (s.set b f v).sched = s.sched := rfl
@[simp] theorem set_cans (s : State) (b : Nat) (f : Fld) (v : Nat) : (s.set b f v).cans = s.cans := rfl
@[simp] theorem set_flasks (s : State) (b : Nat) (f : Fld) (v : Nat) : (s.set b f v).flasks = s.flasks := rfl
@[simp] theorem set_lines (s : State) (b : Nat) (f : Fld) (v : Nat) : (s.set b f v).lines = s.lines := rfl
@[simp] theorem set_banks (s : State) (b : Nat) (f : Fld) (v : Nat) : (s.set b f v).banks = s.banks := rfl
@[simp] theorem set_power (s : State) (b : Nat) (f : Fld) (v : Nat) : (s.set b f v).power = s.power := rfl
@[simp] theorem set_cruc (s : State) (b : Nat) (f : Fld) (v : Nat) : (s.set b f v).cruc = s.cruc := rfl
@[simp] theorem set_usb (s : State) (b : Nat) (f : Fld) (v : Nat) : (s.set b f v).usb = s.usb := rfl
@[simp] theorem set_pd (s : State) (b : Nat) (f : Fld) (v : Nat) : (s.set b f v).pd = s.pd := rfl
@[simp] theorem set_sys (s : State) (b : Nat) (f : Fld) (v : Nat) : (s.set b f v).sys = s.sys := rfl
@[simp] theorem set_tap (s : State) (b : Nat) (f : Fld) (v : Nat) : (s.set b f v).tap = s.tap := rfl
@[simp] theorem set_upd (s : State) (b : Nat) (f : Fld) (v : Nat) : (s.set b f v).upd = s.upd := rfl

/-! ### orBit -/

@[simp] theorem orBit_variant (s : State) (a b : Nat) : (s.orBit a b).variant = s.variant := rfl
@[simp] theorem orBit_pending (s : State) (a b : Nat) : (s.orBit a b).pending = s.pending := rfl
@[simp] theorem orBit_mem (s : State) (a b : Nat) : (s.orBit a b).mem = s.mem := rfl
@[simp] theorem orBit_memErr (s : State) (a b : Nat) : (s.orBit a b).memErr = s.memErr := rfl
@[simp] theorem orBit_uptime (s : State) (a b : Nat) : (s.orBit a b).uptime = s.uptime := rfl
@[simp] theorem orBit_ring (s : State) (a b : Nat) : (s.orBit a b).ring = s.ring := rfl
@[simp] theorem orBit_ringFrac (s : State) (a b : Nat) : (s.orBit a b).ringFrac = s.ringFrac := rfl
@[simp] theorem orBit_outs (s : State) (a b : Nat) : (s.orBit a b).outs = s.outs := rfl
@[simp] theorem orBit_halfs (s : State) (a b : Nat) : (s.orBit a b).halfs = s.halfs := rfl
@[simp] theorem orBit_freeCount (s : State) (a b : Nat) : (s.orBit a b).freeCount = s.freeCount := rfl
@[simp] theorem orBit_replicas (s : State) (a b : Nat) : (s.orBit a b).replicas = s.replicas := rfl
@[simp] theorem orBit_sprue (s : State) (a b : Nat) : (s.orBit a b).sprue = s.sprue := rfl
@[simp] theorem orBit_fab (s : State) (a b : Nat) : (s.orBit a b).fab = s.fab := rfl
@[simp] theorem orBit_cmd (s : State) (a b : Nat) : (s.orBit a b).cmd = s.cmd := rfl
@[simp] theorem orBit_bridge (s : State) (a b : Nat) : (s.orBit a b).bridge = s.bridge := rfl
@[simp] theorem orBit_fault (s : State) (a b : Nat) : (s.orBit a b).fault = s.fault := rfl
@[simp] theorem orBit_islands (s : State) (a b : Nat) : (s.orBit a b).islands = s.islands := rfl
@[simp] theorem orBit_ledger (s : State) (a b : Nat) : (s.orBit a b).ledger = s.ledger := rfl
@[simp] theorem orBit_pimg (s : State) (a b : Nat) : (s.orBit a b).pimg = s.pimg := rfl
@[simp] theorem orBit_inbox (s : State) (a b : Nat) : (s.orBit a b).inbox = s.inbox := rfl
@[simp] theorem orBit_time (s : State) (a b : Nat) : (s.orBit a b).time = s.time := rfl
@[simp] theorem orBit_ringNet (s : State) (a b : Nat) : (s.orBit a b).ringNet = s.ringNet := rfl
@[simp] theorem orBit_sched (s : State) (a b : Nat) : (s.orBit a b).sched = s.sched := rfl
@[simp] theorem orBit_cans (s : State) (a b : Nat) : (s.orBit a b).cans = s.cans := rfl
@[simp] theorem orBit_flasks (s : State) (a b : Nat) : (s.orBit a b).flasks = s.flasks := rfl
@[simp] theorem orBit_lines (s : State) (a b : Nat) : (s.orBit a b).lines = s.lines := rfl
@[simp] theorem orBit_banks (s : State) (a b : Nat) : (s.orBit a b).banks = s.banks := rfl
@[simp] theorem orBit_power (s : State) (a b : Nat) : (s.orBit a b).power = s.power := rfl
@[simp] theorem orBit_cruc (s : State) (a b : Nat) : (s.orBit a b).cruc = s.cruc := rfl
@[simp] theorem orBit_usb (s : State) (a b : Nat) : (s.orBit a b).usb = s.usb := rfl
@[simp] theorem orBit_pd (s : State) (a b : Nat) : (s.orBit a b).pd = s.pd := rfl
@[simp] theorem orBit_sys (s : State) (a b : Nat) : (s.orBit a b).sys = s.sys := rfl
@[simp] theorem orBit_tap (s : State) (a b : Nat) : (s.orBit a b).tap = s.tap := rfl
@[simp] theorem orBit_upd (s : State) (a b : Nat) : (s.orBit a b).upd = s.upd := rfl

/-! ### evt -/

@[simp] theorem evt_variant (s : State) (b : Nat) (f : Fld) (n : Nat) : (s.evt b f n).variant = s.variant := rfl
@[simp] theorem evt_pending (s : State) (b : Nat) (f : Fld) (n : Nat) : (s.evt b f n).pending = s.pending := rfl
@[simp] theorem evt_mem (s : State) (b : Nat) (f : Fld) (n : Nat) : (s.evt b f n).mem = s.mem := rfl
@[simp] theorem evt_memErr (s : State) (b : Nat) (f : Fld) (n : Nat) : (s.evt b f n).memErr = s.memErr := rfl
@[simp] theorem evt_uptime (s : State) (b : Nat) (f : Fld) (n : Nat) : (s.evt b f n).uptime = s.uptime := rfl
@[simp] theorem evt_ring (s : State) (b : Nat) (f : Fld) (n : Nat) : (s.evt b f n).ring = s.ring := rfl
@[simp] theorem evt_ringFrac (s : State) (b : Nat) (f : Fld) (n : Nat) : (s.evt b f n).ringFrac = s.ringFrac := rfl
@[simp] theorem evt_outs (s : State) (b : Nat) (f : Fld) (n : Nat) : (s.evt b f n).outs = s.outs := rfl
@[simp] theorem evt_halfs (s : State) (b : Nat) (f : Fld) (n : Nat) : (s.evt b f n).halfs = s.halfs := rfl
@[simp] theorem evt_freeCount (s : State) (b : Nat) (f : Fld) (n : Nat) : (s.evt b f n).freeCount = s.freeCount := rfl
@[simp] theorem evt_replicas (s : State) (b : Nat) (f : Fld) (n : Nat) : (s.evt b f n).replicas = s.replicas := rfl
@[simp] theorem evt_sprue (s : State) (b : Nat) (f : Fld) (n : Nat) : (s.evt b f n).sprue = s.sprue := rfl
@[simp] theorem evt_fab (s : State) (b : Nat) (f : Fld) (n : Nat) : (s.evt b f n).fab = s.fab := rfl
@[simp] theorem evt_cmd (s : State) (b : Nat) (f : Fld) (n : Nat) : (s.evt b f n).cmd = s.cmd := rfl
@[simp] theorem evt_bridge (s : State) (b : Nat) (f : Fld) (n : Nat) : (s.evt b f n).bridge = s.bridge := rfl
@[simp] theorem evt_fault (s : State) (b : Nat) (f : Fld) (n : Nat) : (s.evt b f n).fault = s.fault := rfl
@[simp] theorem evt_islands (s : State) (b : Nat) (f : Fld) (n : Nat) : (s.evt b f n).islands = s.islands := rfl
@[simp] theorem evt_ledger (s : State) (b : Nat) (f : Fld) (n : Nat) : (s.evt b f n).ledger = s.ledger := rfl
@[simp] theorem evt_pimg (s : State) (b : Nat) (f : Fld) (n : Nat) : (s.evt b f n).pimg = s.pimg := rfl
@[simp] theorem evt_inbox (s : State) (b : Nat) (f : Fld) (n : Nat) : (s.evt b f n).inbox = s.inbox := rfl
@[simp] theorem evt_time (s : State) (b : Nat) (f : Fld) (n : Nat) : (s.evt b f n).time = s.time := rfl
@[simp] theorem evt_ringNet (s : State) (b : Nat) (f : Fld) (n : Nat) : (s.evt b f n).ringNet = s.ringNet := rfl
@[simp] theorem evt_sched (s : State) (b : Nat) (f : Fld) (n : Nat) : (s.evt b f n).sched = s.sched := rfl
@[simp] theorem evt_cans (s : State) (b : Nat) (f : Fld) (n : Nat) : (s.evt b f n).cans = s.cans := rfl
@[simp] theorem evt_flasks (s : State) (b : Nat) (f : Fld) (n : Nat) : (s.evt b f n).flasks = s.flasks := rfl
@[simp] theorem evt_lines (s : State) (b : Nat) (f : Fld) (n : Nat) : (s.evt b f n).lines = s.lines := rfl
@[simp] theorem evt_banks (s : State) (b : Nat) (f : Fld) (n : Nat) : (s.evt b f n).banks = s.banks := rfl
@[simp] theorem evt_power (s : State) (b : Nat) (f : Fld) (n : Nat) : (s.evt b f n).power = s.power := rfl
@[simp] theorem evt_cruc (s : State) (b : Nat) (f : Fld) (n : Nat) : (s.evt b f n).cruc = s.cruc := rfl
@[simp] theorem evt_usb (s : State) (b : Nat) (f : Fld) (n : Nat) : (s.evt b f n).usb = s.usb := rfl
@[simp] theorem evt_pd (s : State) (b : Nat) (f : Fld) (n : Nat) : (s.evt b f n).pd = s.pd := rfl
@[simp] theorem evt_sys (s : State) (b : Nat) (f : Fld) (n : Nat) : (s.evt b f n).sys = s.sys := rfl
@[simp] theorem evt_tap (s : State) (b : Nat) (f : Fld) (n : Nat) : (s.evt b f n).tap = s.tap := rfl
@[simp] theorem evt_upd (s : State) (b : Nat) (f : Fld) (n : Nat) : (s.evt b f n).upd = s.upd := rfl

/-! ### emit -/

@[simp] theorem emit_variant (s : State) (o : Out) : (s.emit o).variant = s.variant := rfl
@[simp] theorem emit_pending (s : State) (o : Out) : (s.emit o).pending = s.pending := rfl
@[simp] theorem emit_regs (s : State) (o : Out) : (s.emit o).regs = s.regs := rfl
@[simp] theorem emit_mem (s : State) (o : Out) : (s.emit o).mem = s.mem := rfl
@[simp] theorem emit_memErr (s : State) (o : Out) : (s.emit o).memErr = s.memErr := rfl
@[simp] theorem emit_uptime (s : State) (o : Out) : (s.emit o).uptime = s.uptime := rfl
@[simp] theorem emit_ring (s : State) (o : Out) : (s.emit o).ring = s.ring := rfl
@[simp] theorem emit_ringFrac (s : State) (o : Out) : (s.emit o).ringFrac = s.ringFrac := rfl
@[simp] theorem emit_outs (s : State) (o : Out) : (s.emit o).outs = o :: s.outs := rfl
@[simp] theorem emit_halfs (s : State) (o : Out) : (s.emit o).halfs = s.halfs := rfl
@[simp] theorem emit_freeCount (s : State) (o : Out) : (s.emit o).freeCount = s.freeCount := rfl
@[simp] theorem emit_replicas (s : State) (o : Out) : (s.emit o).replicas = s.replicas := rfl
@[simp] theorem emit_sprue (s : State) (o : Out) : (s.emit o).sprue = s.sprue := rfl
@[simp] theorem emit_fab (s : State) (o : Out) : (s.emit o).fab = s.fab := rfl
@[simp] theorem emit_cmd (s : State) (o : Out) : (s.emit o).cmd = s.cmd := rfl
@[simp] theorem emit_bridge (s : State) (o : Out) : (s.emit o).bridge = s.bridge := rfl
@[simp] theorem emit_fault (s : State) (o : Out) : (s.emit o).fault = s.fault := rfl
@[simp] theorem emit_islands (s : State) (o : Out) : (s.emit o).islands = s.islands := rfl
@[simp] theorem emit_ledger (s : State) (o : Out) : (s.emit o).ledger = s.ledger := rfl
@[simp] theorem emit_pimg (s : State) (o : Out) : (s.emit o).pimg = s.pimg := rfl
@[simp] theorem emit_inbox (s : State) (o : Out) : (s.emit o).inbox = s.inbox := rfl
@[simp] theorem emit_time (s : State) (o : Out) : (s.emit o).time = s.time := rfl
@[simp] theorem emit_ringNet (s : State) (o : Out) : (s.emit o).ringNet = s.ringNet := rfl
@[simp] theorem emit_sched (s : State) (o : Out) : (s.emit o).sched = s.sched := rfl
@[simp] theorem emit_cans (s : State) (o : Out) : (s.emit o).cans = s.cans := rfl
@[simp] theorem emit_flasks (s : State) (o : Out) : (s.emit o).flasks = s.flasks := rfl
@[simp] theorem emit_lines (s : State) (o : Out) : (s.emit o).lines = s.lines := rfl
@[simp] theorem emit_banks (s : State) (o : Out) : (s.emit o).banks = s.banks := rfl
@[simp] theorem emit_power (s : State) (o : Out) : (s.emit o).power = s.power := rfl
@[simp] theorem emit_cruc (s : State) (o : Out) : (s.emit o).cruc = s.cruc := rfl
@[simp] theorem emit_usb (s : State) (o : Out) : (s.emit o).usb = s.usb := rfl
@[simp] theorem emit_pd (s : State) (o : Out) : (s.emit o).pd = s.pd := rfl
@[simp] theorem emit_sys (s : State) (o : Out) : (s.emit o).sys = s.sys := rfl
@[simp] theorem emit_tap (s : State) (o : Out) : (s.emit o).tap = s.tap := rfl
@[simp] theorem emit_upd (s : State) (o : Out) : (s.emit o).upd = s.upd := rfl

/-! ### setQueue -/

@[simp] theorem setQueue_variant (s : State) (q : Nat) (x : SprueQ) : (s.setQueue q x).variant = s.variant := rfl
@[simp] theorem setQueue_pending (s : State) (q : Nat) (x : SprueQ) : (s.setQueue q x).pending = s.pending := rfl
@[simp] theorem setQueue_regs (s : State) (q : Nat) (x : SprueQ) : (s.setQueue q x).regs = s.regs := rfl
@[simp] theorem setQueue_mem (s : State) (q : Nat) (x : SprueQ) : (s.setQueue q x).mem = s.mem := rfl
@[simp] theorem setQueue_memErr (s : State) (q : Nat) (x : SprueQ) : (s.setQueue q x).memErr = s.memErr := rfl
@[simp] theorem setQueue_uptime (s : State) (q : Nat) (x : SprueQ) : (s.setQueue q x).uptime = s.uptime := rfl
@[simp] theorem setQueue_ring (s : State) (q : Nat) (x : SprueQ) : (s.setQueue q x).ring = s.ring := rfl
@[simp] theorem setQueue_ringFrac (s : State) (q : Nat) (x : SprueQ) : (s.setQueue q x).ringFrac = s.ringFrac := rfl
@[simp] theorem setQueue_outs (s : State) (q : Nat) (x : SprueQ) : (s.setQueue q x).outs = s.outs := rfl
@[simp] theorem setQueue_halfs (s : State) (q : Nat) (x : SprueQ) : (s.setQueue q x).halfs = s.halfs := rfl
@[simp] theorem setQueue_freeCount (s : State) (q : Nat) (x : SprueQ) : (s.setQueue q x).freeCount = s.freeCount := rfl
@[simp] theorem setQueue_replicas (s : State) (q : Nat) (x : SprueQ) : (s.setQueue q x).replicas = s.replicas := rfl
@[simp] theorem setQueue_sprue (s : State) (q : Nat) (x : SprueQ) : (s.setQueue q x).sprue = Tbl.put (fun _ => {}) s.sprue q x := rfl
@[simp] theorem setQueue_fab (s : State) (q : Nat) (x : SprueQ) : (s.setQueue q x).fab = s.fab := rfl
@[simp] theorem setQueue_cmd (s : State) (q : Nat) (x : SprueQ) : (s.setQueue q x).cmd = s.cmd := rfl
@[simp] theorem setQueue_bridge (s : State) (q : Nat) (x : SprueQ) : (s.setQueue q x).bridge = s.bridge := rfl
@[simp] theorem setQueue_fault (s : State) (q : Nat) (x : SprueQ) : (s.setQueue q x).fault = s.fault := rfl
@[simp] theorem setQueue_islands (s : State) (q : Nat) (x : SprueQ) : (s.setQueue q x).islands = s.islands := rfl
@[simp] theorem setQueue_ledger (s : State) (q : Nat) (x : SprueQ) : (s.setQueue q x).ledger = s.ledger := rfl
@[simp] theorem setQueue_pimg (s : State) (q : Nat) (x : SprueQ) : (s.setQueue q x).pimg = s.pimg := rfl
@[simp] theorem setQueue_inbox (s : State) (q : Nat) (x : SprueQ) : (s.setQueue q x).inbox = s.inbox := rfl
@[simp] theorem setQueue_time (s : State) (q : Nat) (x : SprueQ) : (s.setQueue q x).time = s.time := rfl
@[simp] theorem setQueue_ringNet (s : State) (q : Nat) (x : SprueQ) : (s.setQueue q x).ringNet = s.ringNet := rfl
@[simp] theorem setQueue_sched (s : State) (q : Nat) (x : SprueQ) : (s.setQueue q x).sched = s.sched := rfl
@[simp] theorem setQueue_cans (s : State) (q : Nat) (x : SprueQ) : (s.setQueue q x).cans = s.cans := rfl
@[simp] theorem setQueue_flasks (s : State) (q : Nat) (x : SprueQ) : (s.setQueue q x).flasks = s.flasks := rfl
@[simp] theorem setQueue_lines (s : State) (q : Nat) (x : SprueQ) : (s.setQueue q x).lines = s.lines := rfl
@[simp] theorem setQueue_banks (s : State) (q : Nat) (x : SprueQ) : (s.setQueue q x).banks = s.banks := rfl
@[simp] theorem setQueue_power (s : State) (q : Nat) (x : SprueQ) : (s.setQueue q x).power = s.power := rfl
@[simp] theorem setQueue_cruc (s : State) (q : Nat) (x : SprueQ) : (s.setQueue q x).cruc = s.cruc := rfl
@[simp] theorem setQueue_usb (s : State) (q : Nat) (x : SprueQ) : (s.setQueue q x).usb = s.usb := rfl
@[simp] theorem setQueue_pd (s : State) (q : Nat) (x : SprueQ) : (s.setQueue q x).pd = s.pd := rfl
@[simp] theorem setQueue_sys (s : State) (q : Nat) (x : SprueQ) : (s.setQueue q x).sys = s.sys := rfl
@[simp] theorem setQueue_tap (s : State) (q : Nat) (x : SprueQ) : (s.setQueue q x).tap = s.tap := rfl
@[simp] theorem setQueue_upd (s : State) (q : Nat) (x : SprueQ) : (s.setQueue q x).upd = s.upd := rfl

/-! ### setEntries -/

@[simp] theorem setEntries_variant (s : State) (es : List CmdEntry) : (s.setEntries es).variant = s.variant := rfl
@[simp] theorem setEntries_pending (s : State) (es : List CmdEntry) : (s.setEntries es).pending = s.pending := rfl
@[simp] theorem setEntries_regs (s : State) (es : List CmdEntry) : (s.setEntries es).regs = s.regs := rfl
@[simp] theorem setEntries_mem (s : State) (es : List CmdEntry) : (s.setEntries es).mem = s.mem := rfl
@[simp] theorem setEntries_memErr (s : State) (es : List CmdEntry) : (s.setEntries es).memErr = s.memErr := rfl
@[simp] theorem setEntries_uptime (s : State) (es : List CmdEntry) : (s.setEntries es).uptime = s.uptime := rfl
@[simp] theorem setEntries_ring (s : State) (es : List CmdEntry) : (s.setEntries es).ring = s.ring := rfl
@[simp] theorem setEntries_ringFrac (s : State) (es : List CmdEntry) : (s.setEntries es).ringFrac = s.ringFrac := rfl
@[simp] theorem setEntries_outs (s : State) (es : List CmdEntry) : (s.setEntries es).outs = s.outs := rfl
@[simp] theorem setEntries_halfs (s : State) (es : List CmdEntry) : (s.setEntries es).halfs = s.halfs := rfl
@[simp] theorem setEntries_freeCount (s : State) (es : List CmdEntry) : (s.setEntries es).freeCount = s.freeCount := rfl
@[simp] theorem setEntries_replicas (s : State) (es : List CmdEntry) : (s.setEntries es).replicas = s.replicas := rfl
@[simp] theorem setEntries_sprue (s : State) (es : List CmdEntry) : (s.setEntries es).sprue = s.sprue := rfl
@[simp] theorem setEntries_fab (s : State) (es : List CmdEntry) : (s.setEntries es).fab = s.fab := rfl
@[simp] theorem setEntries_cmd (s : State) (es : List CmdEntry) : (s.setEntries es).cmd = { s.cmd with entries := es } := rfl
@[simp] theorem setEntries_bridge (s : State) (es : List CmdEntry) : (s.setEntries es).bridge = s.bridge := rfl
@[simp] theorem setEntries_fault (s : State) (es : List CmdEntry) : (s.setEntries es).fault = s.fault := rfl
@[simp] theorem setEntries_islands (s : State) (es : List CmdEntry) : (s.setEntries es).islands = s.islands := rfl
@[simp] theorem setEntries_ledger (s : State) (es : List CmdEntry) : (s.setEntries es).ledger = s.ledger := rfl
@[simp] theorem setEntries_pimg (s : State) (es : List CmdEntry) : (s.setEntries es).pimg = s.pimg := rfl
@[simp] theorem setEntries_inbox (s : State) (es : List CmdEntry) : (s.setEntries es).inbox = s.inbox := rfl
@[simp] theorem setEntries_time (s : State) (es : List CmdEntry) : (s.setEntries es).time = s.time := rfl
@[simp] theorem setEntries_ringNet (s : State) (es : List CmdEntry) : (s.setEntries es).ringNet = s.ringNet := rfl
@[simp] theorem setEntries_sched (s : State) (es : List CmdEntry) : (s.setEntries es).sched = s.sched := rfl
@[simp] theorem setEntries_cans (s : State) (es : List CmdEntry) : (s.setEntries es).cans = s.cans := rfl
@[simp] theorem setEntries_flasks (s : State) (es : List CmdEntry) : (s.setEntries es).flasks = s.flasks := rfl
@[simp] theorem setEntries_lines (s : State) (es : List CmdEntry) : (s.setEntries es).lines = s.lines := rfl
@[simp] theorem setEntries_banks (s : State) (es : List CmdEntry) : (s.setEntries es).banks = s.banks := rfl
@[simp] theorem setEntries_power (s : State) (es : List CmdEntry) : (s.setEntries es).power = s.power := rfl
@[simp] theorem setEntries_cruc (s : State) (es : List CmdEntry) : (s.setEntries es).cruc = s.cruc := rfl
@[simp] theorem setEntries_usb (s : State) (es : List CmdEntry) : (s.setEntries es).usb = s.usb := rfl
@[simp] theorem setEntries_pd (s : State) (es : List CmdEntry) : (s.setEntries es).pd = s.pd := rfl
@[simp] theorem setEntries_sys (s : State) (es : List CmdEntry) : (s.setEntries es).sys = s.sys := rfl
@[simp] theorem setEntries_tap (s : State) (es : List CmdEntry) : (s.setEntries es).tap = s.tap := rfl
@[simp] theorem setEntries_upd (s : State) (es : List CmdEntry) : (s.setEntries es).upd = s.upd := rfl

/-! ### setSlot -/

@[simp] theorem setSlot_variant (s : State) (i : Nat) (x : FabSlot) : (s.setSlot i x).variant = s.variant := rfl
@[simp] theorem setSlot_pending (s : State) (i : Nat) (x : FabSlot) : (s.setSlot i x).pending = s.pending := rfl
@[simp] theorem setSlot_regs (s : State) (i : Nat) (x : FabSlot) : (s.setSlot i x).regs = s.regs := rfl
@[simp] theorem setSlot_mem (s : State) (i : Nat) (x : FabSlot) : (s.setSlot i x).mem = s.mem := rfl
@[simp] theorem setSlot_memErr (s : State) (i : Nat) (x : FabSlot) : (s.setSlot i x).memErr = s.memErr := rfl
@[simp] theorem setSlot_uptime (s : State) (i : Nat) (x : FabSlot) : (s.setSlot i x).uptime = s.uptime := rfl
@[simp] theorem setSlot_ring (s : State) (i : Nat) (x : FabSlot) : (s.setSlot i x).ring = s.ring := rfl
@[simp] theorem setSlot_ringFrac (s : State) (i : Nat) (x : FabSlot) : (s.setSlot i x).ringFrac = s.ringFrac := rfl
@[simp] theorem setSlot_outs (s : State) (i : Nat) (x : FabSlot) : (s.setSlot i x).outs = s.outs := rfl
@[simp] theorem setSlot_halfs (s : State) (i : Nat) (x : FabSlot) : (s.setSlot i x).halfs = s.halfs := rfl
@[simp] theorem setSlot_freeCount (s : State) (i : Nat) (x : FabSlot) : (s.setSlot i x).freeCount = s.freeCount := rfl
@[simp] theorem setSlot_replicas (s : State) (i : Nat) (x : FabSlot) : (s.setSlot i x).replicas = s.replicas := rfl
@[simp] theorem setSlot_sprue (s : State) (i : Nat) (x : FabSlot) : (s.setSlot i x).sprue = s.sprue := rfl
@[simp] theorem setSlot_fab (s : State) (i : Nat) (x : FabSlot) : (s.setSlot i x).fab = { s.fab with slots := Tbl.put (fun _ => {}) s.fab.slots i x } := rfl
@[simp] theorem setSlot_cmd (s : State) (i : Nat) (x : FabSlot) : (s.setSlot i x).cmd = s.cmd := rfl
@[simp] theorem setSlot_bridge (s : State) (i : Nat) (x : FabSlot) : (s.setSlot i x).bridge = s.bridge := rfl
@[simp] theorem setSlot_fault (s : State) (i : Nat) (x : FabSlot) : (s.setSlot i x).fault = s.fault := rfl
@[simp] theorem setSlot_islands (s : State) (i : Nat) (x : FabSlot) : (s.setSlot i x).islands = s.islands := rfl
@[simp] theorem setSlot_ledger (s : State) (i : Nat) (x : FabSlot) : (s.setSlot i x).ledger = s.ledger := rfl
@[simp] theorem setSlot_pimg (s : State) (i : Nat) (x : FabSlot) : (s.setSlot i x).pimg = s.pimg := rfl
@[simp] theorem setSlot_inbox (s : State) (i : Nat) (x : FabSlot) : (s.setSlot i x).inbox = s.inbox := rfl
@[simp] theorem setSlot_time (s : State) (i : Nat) (x : FabSlot) : (s.setSlot i x).time = s.time := rfl
@[simp] theorem setSlot_ringNet (s : State) (i : Nat) (x : FabSlot) : (s.setSlot i x).ringNet = s.ringNet := rfl
@[simp] theorem setSlot_sched (s : State) (i : Nat) (x : FabSlot) : (s.setSlot i x).sched = s.sched := rfl
@[simp] theorem setSlot_cans (s : State) (i : Nat) (x : FabSlot) : (s.setSlot i x).cans = s.cans := rfl
@[simp] theorem setSlot_flasks (s : State) (i : Nat) (x : FabSlot) : (s.setSlot i x).flasks = s.flasks := rfl
@[simp] theorem setSlot_lines (s : State) (i : Nat) (x : FabSlot) : (s.setSlot i x).lines = s.lines := rfl
@[simp] theorem setSlot_banks (s : State) (i : Nat) (x : FabSlot) : (s.setSlot i x).banks = s.banks := rfl
@[simp] theorem setSlot_power (s : State) (i : Nat) (x : FabSlot) : (s.setSlot i x).power = s.power := rfl
@[simp] theorem setSlot_cruc (s : State) (i : Nat) (x : FabSlot) : (s.setSlot i x).cruc = s.cruc := rfl
@[simp] theorem setSlot_usb (s : State) (i : Nat) (x : FabSlot) : (s.setSlot i x).usb = s.usb := rfl
@[simp] theorem setSlot_pd (s : State) (i : Nat) (x : FabSlot) : (s.setSlot i x).pd = s.pd := rfl
@[simp] theorem setSlot_sys (s : State) (i : Nat) (x : FabSlot) : (s.setSlot i x).sys = s.sys := rfl
@[simp] theorem setSlot_tap (s : State) (i : Nat) (x : FabSlot) : (s.setSlot i x).tap = s.tap := rfl
@[simp] theorem setSlot_upd (s : State) (i : Nat) (x : FabSlot) : (s.setSlot i x).upd = s.upd := rfl

/-! ### setLadle -/

@[simp] theorem setLadle_variant (s : State) (l : Nat) (x : Ladle) : (s.setLadle l x).variant = s.variant := rfl
@[simp] theorem setLadle_pending (s : State) (l : Nat) (x : Ladle) : (s.setLadle l x).pending = s.pending := rfl
@[simp] theorem setLadle_regs (s : State) (l : Nat) (x : Ladle) : (s.setLadle l x).regs = s.regs := rfl
@[simp] theorem setLadle_mem (s : State) (l : Nat) (x : Ladle) : (s.setLadle l x).mem = s.mem := rfl
@[simp] theorem setLadle_memErr (s : State) (l : Nat) (x : Ladle) : (s.setLadle l x).memErr = s.memErr := rfl
@[simp] theorem setLadle_uptime (s : State) (l : Nat) (x : Ladle) : (s.setLadle l x).uptime = s.uptime := rfl
@[simp] theorem setLadle_ring (s : State) (l : Nat) (x : Ladle) : (s.setLadle l x).ring = s.ring := rfl
@[simp] theorem setLadle_ringFrac (s : State) (l : Nat) (x : Ladle) : (s.setLadle l x).ringFrac = s.ringFrac := rfl
@[simp] theorem setLadle_outs (s : State) (l : Nat) (x : Ladle) : (s.setLadle l x).outs = s.outs := rfl
@[simp] theorem setLadle_halfs (s : State) (l : Nat) (x : Ladle) : (s.setLadle l x).halfs = s.halfs := rfl
@[simp] theorem setLadle_freeCount (s : State) (l : Nat) (x : Ladle) : (s.setLadle l x).freeCount = s.freeCount := rfl
@[simp] theorem setLadle_replicas (s : State) (l : Nat) (x : Ladle) : (s.setLadle l x).replicas = s.replicas := rfl
@[simp] theorem setLadle_sprue (s : State) (l : Nat) (x : Ladle) : (s.setLadle l x).sprue = s.sprue := rfl
@[simp] theorem setLadle_fab (s : State) (l : Nat) (x : Ladle) : (s.setLadle l x).fab = s.fab := rfl
@[simp] theorem setLadle_cmd (s : State) (l : Nat) (x : Ladle) : (s.setLadle l x).cmd = s.cmd := rfl
@[simp] theorem setLadle_bridge (s : State) (l : Nat) (x : Ladle) : (s.setLadle l x).bridge = { s.bridge with ladles := Tbl.put (fun _ => {}) s.bridge.ladles l x } := rfl
@[simp] theorem setLadle_fault (s : State) (l : Nat) (x : Ladle) : (s.setLadle l x).fault = s.fault := rfl
@[simp] theorem setLadle_islands (s : State) (l : Nat) (x : Ladle) : (s.setLadle l x).islands = s.islands := rfl
@[simp] theorem setLadle_ledger (s : State) (l : Nat) (x : Ladle) : (s.setLadle l x).ledger = s.ledger := rfl
@[simp] theorem setLadle_pimg (s : State) (l : Nat) (x : Ladle) : (s.setLadle l x).pimg = s.pimg := rfl
@[simp] theorem setLadle_inbox (s : State) (l : Nat) (x : Ladle) : (s.setLadle l x).inbox = s.inbox := rfl
@[simp] theorem setLadle_time (s : State) (l : Nat) (x : Ladle) : (s.setLadle l x).time = s.time := rfl
@[simp] theorem setLadle_ringNet (s : State) (l : Nat) (x : Ladle) : (s.setLadle l x).ringNet = s.ringNet := rfl
@[simp] theorem setLadle_sched (s : State) (l : Nat) (x : Ladle) : (s.setLadle l x).sched = s.sched := rfl
@[simp] theorem setLadle_cans (s : State) (l : Nat) (x : Ladle) : (s.setLadle l x).cans = s.cans := rfl
@[simp] theorem setLadle_flasks (s : State) (l : Nat) (x : Ladle) : (s.setLadle l x).flasks = s.flasks := rfl
@[simp] theorem setLadle_lines (s : State) (l : Nat) (x : Ladle) : (s.setLadle l x).lines = s.lines := rfl
@[simp] theorem setLadle_banks (s : State) (l : Nat) (x : Ladle) : (s.setLadle l x).banks = s.banks := rfl
@[simp] theorem setLadle_power (s : State) (l : Nat) (x : Ladle) : (s.setLadle l x).power = s.power := rfl
@[simp] theorem setLadle_cruc (s : State) (l : Nat) (x : Ladle) : (s.setLadle l x).cruc = s.cruc := rfl
@[simp] theorem setLadle_usb (s : State) (l : Nat) (x : Ladle) : (s.setLadle l x).usb = s.usb := rfl
@[simp] theorem setLadle_pd (s : State) (l : Nat) (x : Ladle) : (s.setLadle l x).pd = s.pd := rfl
@[simp] theorem setLadle_sys (s : State) (l : Nat) (x : Ladle) : (s.setLadle l x).sys = s.sys := rfl
@[simp] theorem setLadle_tap (s : State) (l : Nat) (x : Ladle) : (s.setLadle l x).tap = s.tap := rfl
@[simp] theorem setLadle_upd (s : State) (l : Nat) (x : Ladle) : (s.setLadle l x).upd = s.upd := rfl

/-! ### setCan -/

@[simp] theorem setCan_variant (s : State) (n : Nat) (x : CanUnit) : (s.setCan n x).variant = s.variant := rfl
@[simp] theorem setCan_pending (s : State) (n : Nat) (x : CanUnit) : (s.setCan n x).pending = s.pending := rfl
@[simp] theorem setCan_regs (s : State) (n : Nat) (x : CanUnit) : (s.setCan n x).regs = s.regs := rfl
@[simp] theorem setCan_mem (s : State) (n : Nat) (x : CanUnit) : (s.setCan n x).mem = s.mem := rfl
@[simp] theorem setCan_memErr (s : State) (n : Nat) (x : CanUnit) : (s.setCan n x).memErr = s.memErr := rfl
@[simp] theorem setCan_uptime (s : State) (n : Nat) (x : CanUnit) : (s.setCan n x).uptime = s.uptime := rfl
@[simp] theorem setCan_ring (s : State) (n : Nat) (x : CanUnit) : (s.setCan n x).ring = s.ring := rfl
@[simp] theorem setCan_ringFrac (s : State) (n : Nat) (x : CanUnit) : (s.setCan n x).ringFrac = s.ringFrac := rfl
@[simp] theorem setCan_outs (s : State) (n : Nat) (x : CanUnit) : (s.setCan n x).outs = s.outs := rfl
@[simp] theorem setCan_halfs (s : State) (n : Nat) (x : CanUnit) : (s.setCan n x).halfs = s.halfs := rfl
@[simp] theorem setCan_freeCount (s : State) (n : Nat) (x : CanUnit) : (s.setCan n x).freeCount = s.freeCount := rfl
@[simp] theorem setCan_replicas (s : State) (n : Nat) (x : CanUnit) : (s.setCan n x).replicas = s.replicas := rfl
@[simp] theorem setCan_sprue (s : State) (n : Nat) (x : CanUnit) : (s.setCan n x).sprue = s.sprue := rfl
@[simp] theorem setCan_fab (s : State) (n : Nat) (x : CanUnit) : (s.setCan n x).fab = s.fab := rfl
@[simp] theorem setCan_cmd (s : State) (n : Nat) (x : CanUnit) : (s.setCan n x).cmd = s.cmd := rfl
@[simp] theorem setCan_bridge (s : State) (n : Nat) (x : CanUnit) : (s.setCan n x).bridge = s.bridge := rfl
@[simp] theorem setCan_fault (s : State) (n : Nat) (x : CanUnit) : (s.setCan n x).fault = s.fault := rfl
@[simp] theorem setCan_islands (s : State) (n : Nat) (x : CanUnit) : (s.setCan n x).islands = s.islands := rfl
@[simp] theorem setCan_ledger (s : State) (n : Nat) (x : CanUnit) : (s.setCan n x).ledger = s.ledger := rfl
@[simp] theorem setCan_pimg (s : State) (n : Nat) (x : CanUnit) : (s.setCan n x).pimg = s.pimg := rfl
@[simp] theorem setCan_inbox (s : State) (n : Nat) (x : CanUnit) : (s.setCan n x).inbox = s.inbox := rfl
@[simp] theorem setCan_time (s : State) (n : Nat) (x : CanUnit) : (s.setCan n x).time = s.time := rfl
@[simp] theorem setCan_ringNet (s : State) (n : Nat) (x : CanUnit) : (s.setCan n x).ringNet = s.ringNet := rfl
@[simp] theorem setCan_sched (s : State) (n : Nat) (x : CanUnit) : (s.setCan n x).sched = s.sched := rfl
@[simp] theorem setCan_cans (s : State) (n : Nat) (x : CanUnit) : (s.setCan n x).cans = Tbl.put (fun _ => {}) s.cans n x := rfl
@[simp] theorem setCan_flasks (s : State) (n : Nat) (x : CanUnit) : (s.setCan n x).flasks = s.flasks := rfl
@[simp] theorem setCan_lines (s : State) (n : Nat) (x : CanUnit) : (s.setCan n x).lines = s.lines := rfl
@[simp] theorem setCan_banks (s : State) (n : Nat) (x : CanUnit) : (s.setCan n x).banks = s.banks := rfl
@[simp] theorem setCan_power (s : State) (n : Nat) (x : CanUnit) : (s.setCan n x).power = s.power := rfl
@[simp] theorem setCan_cruc (s : State) (n : Nat) (x : CanUnit) : (s.setCan n x).cruc = s.cruc := rfl
@[simp] theorem setCan_usb (s : State) (n : Nat) (x : CanUnit) : (s.setCan n x).usb = s.usb := rfl
@[simp] theorem setCan_pd (s : State) (n : Nat) (x : CanUnit) : (s.setCan n x).pd = s.pd := rfl
@[simp] theorem setCan_sys (s : State) (n : Nat) (x : CanUnit) : (s.setCan n x).sys = s.sys := rfl
@[simp] theorem setCan_tap (s : State) (n : Nat) (x : CanUnit) : (s.setCan n x).tap = s.tap := rfl
@[simp] theorem setCan_upd (s : State) (n : Nat) (x : CanUnit) : (s.setCan n x).upd = s.upd := rfl

/-! ### setFlask -/

@[simp] theorem setFlask_variant (s : State) (f : Nat) (x : FlaskUnit) : (s.setFlask f x).variant = s.variant := rfl
@[simp] theorem setFlask_pending (s : State) (f : Nat) (x : FlaskUnit) : (s.setFlask f x).pending = s.pending := rfl
@[simp] theorem setFlask_regs (s : State) (f : Nat) (x : FlaskUnit) : (s.setFlask f x).regs = s.regs := rfl
@[simp] theorem setFlask_mem (s : State) (f : Nat) (x : FlaskUnit) : (s.setFlask f x).mem = s.mem := rfl
@[simp] theorem setFlask_memErr (s : State) (f : Nat) (x : FlaskUnit) : (s.setFlask f x).memErr = s.memErr := rfl
@[simp] theorem setFlask_uptime (s : State) (f : Nat) (x : FlaskUnit) : (s.setFlask f x).uptime = s.uptime := rfl
@[simp] theorem setFlask_ring (s : State) (f : Nat) (x : FlaskUnit) : (s.setFlask f x).ring = s.ring := rfl
@[simp] theorem setFlask_ringFrac (s : State) (f : Nat) (x : FlaskUnit) : (s.setFlask f x).ringFrac = s.ringFrac := rfl
@[simp] theorem setFlask_outs (s : State) (f : Nat) (x : FlaskUnit) : (s.setFlask f x).outs = s.outs := rfl
@[simp] theorem setFlask_halfs (s : State) (f : Nat) (x : FlaskUnit) : (s.setFlask f x).halfs = s.halfs := rfl
@[simp] theorem setFlask_freeCount (s : State) (f : Nat) (x : FlaskUnit) : (s.setFlask f x).freeCount = s.freeCount := rfl
@[simp] theorem setFlask_replicas (s : State) (f : Nat) (x : FlaskUnit) : (s.setFlask f x).replicas = s.replicas := rfl
@[simp] theorem setFlask_sprue (s : State) (f : Nat) (x : FlaskUnit) : (s.setFlask f x).sprue = s.sprue := rfl
@[simp] theorem setFlask_fab (s : State) (f : Nat) (x : FlaskUnit) : (s.setFlask f x).fab = s.fab := rfl
@[simp] theorem setFlask_cmd (s : State) (f : Nat) (x : FlaskUnit) : (s.setFlask f x).cmd = s.cmd := rfl
@[simp] theorem setFlask_bridge (s : State) (f : Nat) (x : FlaskUnit) : (s.setFlask f x).bridge = s.bridge := rfl
@[simp] theorem setFlask_fault (s : State) (f : Nat) (x : FlaskUnit) : (s.setFlask f x).fault = s.fault := rfl
@[simp] theorem setFlask_islands (s : State) (f : Nat) (x : FlaskUnit) : (s.setFlask f x).islands = s.islands := rfl
@[simp] theorem setFlask_ledger (s : State) (f : Nat) (x : FlaskUnit) : (s.setFlask f x).ledger = s.ledger := rfl
@[simp] theorem setFlask_pimg (s : State) (f : Nat) (x : FlaskUnit) : (s.setFlask f x).pimg = s.pimg := rfl
@[simp] theorem setFlask_inbox (s : State) (f : Nat) (x : FlaskUnit) : (s.setFlask f x).inbox = s.inbox := rfl
@[simp] theorem setFlask_time (s : State) (f : Nat) (x : FlaskUnit) : (s.setFlask f x).time = s.time := rfl
@[simp] theorem setFlask_ringNet (s : State) (f : Nat) (x : FlaskUnit) : (s.setFlask f x).ringNet = s.ringNet := rfl
@[simp] theorem setFlask_sched (s : State) (f : Nat) (x : FlaskUnit) : (s.setFlask f x).sched = s.sched := rfl
@[simp] theorem setFlask_cans (s : State) (f : Nat) (x : FlaskUnit) : (s.setFlask f x).cans = s.cans := rfl
@[simp] theorem setFlask_flasks (s : State) (f : Nat) (x : FlaskUnit) : (s.setFlask f x).flasks = Tbl.put (fun _ => {}) s.flasks f x := rfl
@[simp] theorem setFlask_lines (s : State) (f : Nat) (x : FlaskUnit) : (s.setFlask f x).lines = s.lines := rfl
@[simp] theorem setFlask_banks (s : State) (f : Nat) (x : FlaskUnit) : (s.setFlask f x).banks = s.banks := rfl
@[simp] theorem setFlask_power (s : State) (f : Nat) (x : FlaskUnit) : (s.setFlask f x).power = s.power := rfl
@[simp] theorem setFlask_cruc (s : State) (f : Nat) (x : FlaskUnit) : (s.setFlask f x).cruc = s.cruc := rfl
@[simp] theorem setFlask_usb (s : State) (f : Nat) (x : FlaskUnit) : (s.setFlask f x).usb = s.usb := rfl
@[simp] theorem setFlask_pd (s : State) (f : Nat) (x : FlaskUnit) : (s.setFlask f x).pd = s.pd := rfl
@[simp] theorem setFlask_sys (s : State) (f : Nat) (x : FlaskUnit) : (s.setFlask f x).sys = s.sys := rfl
@[simp] theorem setFlask_tap (s : State) (f : Nat) (x : FlaskUnit) : (s.setFlask f x).tap = s.tap := rfl
@[simp] theorem setFlask_upd (s : State) (f : Nat) (x : FlaskUnit) : (s.setFlask f x).upd = s.upd := rfl

/-! ### setLine -/

@[simp] theorem setLine_variant (s : State) (j : Nat) (x : DioLine) : (s.setLine j x).variant = s.variant := rfl
@[simp] theorem setLine_pending (s : State) (j : Nat) (x : DioLine) : (s.setLine j x).pending = s.pending := rfl
@[simp] theorem setLine_regs (s : State) (j : Nat) (x : DioLine) : (s.setLine j x).regs = s.regs := rfl
@[simp] theorem setLine_mem (s : State) (j : Nat) (x : DioLine) : (s.setLine j x).mem = s.mem := rfl
@[simp] theorem setLine_memErr (s : State) (j : Nat) (x : DioLine) : (s.setLine j x).memErr = s.memErr := rfl
@[simp] theorem setLine_uptime (s : State) (j : Nat) (x : DioLine) : (s.setLine j x).uptime = s.uptime := rfl
@[simp] theorem setLine_ring (s : State) (j : Nat) (x : DioLine) : (s.setLine j x).ring = s.ring := rfl
@[simp] theorem setLine_ringFrac (s : State) (j : Nat) (x : DioLine) : (s.setLine j x).ringFrac = s.ringFrac := rfl
@[simp] theorem setLine_outs (s : State) (j : Nat) (x : DioLine) : (s.setLine j x).outs = s.outs := rfl
@[simp] theorem setLine_halfs (s : State) (j : Nat) (x : DioLine) : (s.setLine j x).halfs = s.halfs := rfl
@[simp] theorem setLine_freeCount (s : State) (j : Nat) (x : DioLine) : (s.setLine j x).freeCount = s.freeCount := rfl
@[simp] theorem setLine_replicas (s : State) (j : Nat) (x : DioLine) : (s.setLine j x).replicas = s.replicas := rfl
@[simp] theorem setLine_sprue (s : State) (j : Nat) (x : DioLine) : (s.setLine j x).sprue = s.sprue := rfl
@[simp] theorem setLine_fab (s : State) (j : Nat) (x : DioLine) : (s.setLine j x).fab = s.fab := rfl
@[simp] theorem setLine_cmd (s : State) (j : Nat) (x : DioLine) : (s.setLine j x).cmd = s.cmd := rfl
@[simp] theorem setLine_bridge (s : State) (j : Nat) (x : DioLine) : (s.setLine j x).bridge = s.bridge := rfl
@[simp] theorem setLine_fault (s : State) (j : Nat) (x : DioLine) : (s.setLine j x).fault = s.fault := rfl
@[simp] theorem setLine_islands (s : State) (j : Nat) (x : DioLine) : (s.setLine j x).islands = s.islands := rfl
@[simp] theorem setLine_ledger (s : State) (j : Nat) (x : DioLine) : (s.setLine j x).ledger = s.ledger := rfl
@[simp] theorem setLine_pimg (s : State) (j : Nat) (x : DioLine) : (s.setLine j x).pimg = s.pimg := rfl
@[simp] theorem setLine_inbox (s : State) (j : Nat) (x : DioLine) : (s.setLine j x).inbox = s.inbox := rfl
@[simp] theorem setLine_time (s : State) (j : Nat) (x : DioLine) : (s.setLine j x).time = s.time := rfl
@[simp] theorem setLine_ringNet (s : State) (j : Nat) (x : DioLine) : (s.setLine j x).ringNet = s.ringNet := rfl
@[simp] theorem setLine_sched (s : State) (j : Nat) (x : DioLine) : (s.setLine j x).sched = s.sched := rfl
@[simp] theorem setLine_cans (s : State) (j : Nat) (x : DioLine) : (s.setLine j x).cans = s.cans := rfl
@[simp] theorem setLine_flasks (s : State) (j : Nat) (x : DioLine) : (s.setLine j x).flasks = s.flasks := rfl
@[simp] theorem setLine_lines (s : State) (j : Nat) (x : DioLine) : (s.setLine j x).lines = Tbl.put (fun _ => {}) s.lines j x := rfl
@[simp] theorem setLine_banks (s : State) (j : Nat) (x : DioLine) : (s.setLine j x).banks = s.banks := rfl
@[simp] theorem setLine_power (s : State) (j : Nat) (x : DioLine) : (s.setLine j x).power = s.power := rfl
@[simp] theorem setLine_cruc (s : State) (j : Nat) (x : DioLine) : (s.setLine j x).cruc = s.cruc := rfl
@[simp] theorem setLine_usb (s : State) (j : Nat) (x : DioLine) : (s.setLine j x).usb = s.usb := rfl
@[simp] theorem setLine_pd (s : State) (j : Nat) (x : DioLine) : (s.setLine j x).pd = s.pd := rfl
@[simp] theorem setLine_sys (s : State) (j : Nat) (x : DioLine) : (s.setLine j x).sys = s.sys := rfl
@[simp] theorem setLine_tap (s : State) (j : Nat) (x : DioLine) : (s.setLine j x).tap = s.tap := rfl
@[simp] theorem setLine_upd (s : State) (j : Nat) (x : DioLine) : (s.setLine j x).upd = s.upd := rfl

/-! ### setBank -/

@[simp] theorem setBank_variant (s : State) (b : Nat) (x : DioBank) : (s.setBank b x).variant = s.variant := rfl
@[simp] theorem setBank_pending (s : State) (b : Nat) (x : DioBank) : (s.setBank b x).pending = s.pending := rfl
@[simp] theorem setBank_regs (s : State) (b : Nat) (x : DioBank) : (s.setBank b x).regs = s.regs := rfl
@[simp] theorem setBank_mem (s : State) (b : Nat) (x : DioBank) : (s.setBank b x).mem = s.mem := rfl
@[simp] theorem setBank_memErr (s : State) (b : Nat) (x : DioBank) : (s.setBank b x).memErr = s.memErr := rfl
@[simp] theorem setBank_uptime (s : State) (b : Nat) (x : DioBank) : (s.setBank b x).uptime = s.uptime := rfl
@[simp] theorem setBank_ring (s : State) (b : Nat) (x : DioBank) : (s.setBank b x).ring = s.ring := rfl
@[simp] theorem setBank_ringFrac (s : State) (b : Nat) (x : DioBank) : (s.setBank b x).ringFrac = s.ringFrac := rfl
@[simp] theorem setBank_outs (s : State) (b : Nat) (x : DioBank) : (s.setBank b x).outs = s.outs := rfl
@[simp] theorem setBank_halfs (s : State) (b : Nat) (x : DioBank) : (s.setBank b x).halfs = s.halfs := rfl
@[simp] theorem setBank_freeCount (s : State) (b : Nat) (x : DioBank) : (s.setBank b x).freeCount = s.freeCount := rfl
@[simp] theorem setBank_replicas (s : State) (b : Nat) (x : DioBank) : (s.setBank b x).replicas = s.replicas := rfl
@[simp] theorem setBank_sprue (s : State) (b : Nat) (x : DioBank) : (s.setBank b x).sprue = s.sprue := rfl
@[simp] theorem setBank_fab (s : State) (b : Nat) (x : DioBank) : (s.setBank b x).fab = s.fab := rfl
@[simp] theorem setBank_cmd (s : State) (b : Nat) (x : DioBank) : (s.setBank b x).cmd = s.cmd := rfl
@[simp] theorem setBank_bridge (s : State) (b : Nat) (x : DioBank) : (s.setBank b x).bridge = s.bridge := rfl
@[simp] theorem setBank_fault (s : State) (b : Nat) (x : DioBank) : (s.setBank b x).fault = s.fault := rfl
@[simp] theorem setBank_islands (s : State) (b : Nat) (x : DioBank) : (s.setBank b x).islands = s.islands := rfl
@[simp] theorem setBank_ledger (s : State) (b : Nat) (x : DioBank) : (s.setBank b x).ledger = s.ledger := rfl
@[simp] theorem setBank_pimg (s : State) (b : Nat) (x : DioBank) : (s.setBank b x).pimg = s.pimg := rfl
@[simp] theorem setBank_inbox (s : State) (b : Nat) (x : DioBank) : (s.setBank b x).inbox = s.inbox := rfl
@[simp] theorem setBank_time (s : State) (b : Nat) (x : DioBank) : (s.setBank b x).time = s.time := rfl
@[simp] theorem setBank_ringNet (s : State) (b : Nat) (x : DioBank) : (s.setBank b x).ringNet = s.ringNet := rfl
@[simp] theorem setBank_sched (s : State) (b : Nat) (x : DioBank) : (s.setBank b x).sched = s.sched := rfl
@[simp] theorem setBank_cans (s : State) (b : Nat) (x : DioBank) : (s.setBank b x).cans = s.cans := rfl
@[simp] theorem setBank_flasks (s : State) (b : Nat) (x : DioBank) : (s.setBank b x).flasks = s.flasks := rfl
@[simp] theorem setBank_lines (s : State) (b : Nat) (x : DioBank) : (s.setBank b x).lines = s.lines := rfl
@[simp] theorem setBank_banks (s : State) (b : Nat) (x : DioBank) : (s.setBank b x).banks = Tbl.put (fun _ => {}) s.banks b x := rfl
@[simp] theorem setBank_power (s : State) (b : Nat) (x : DioBank) : (s.setBank b x).power = s.power := rfl
@[simp] theorem setBank_cruc (s : State) (b : Nat) (x : DioBank) : (s.setBank b x).cruc = s.cruc := rfl
@[simp] theorem setBank_usb (s : State) (b : Nat) (x : DioBank) : (s.setBank b x).usb = s.usb := rfl
@[simp] theorem setBank_pd (s : State) (b : Nat) (x : DioBank) : (s.setBank b x).pd = s.pd := rfl
@[simp] theorem setBank_sys (s : State) (b : Nat) (x : DioBank) : (s.setBank b x).sys = s.sys := rfl
@[simp] theorem setBank_tap (s : State) (b : Nat) (x : DioBank) : (s.setBank b x).tap = s.tap := rfl
@[simp] theorem setBank_upd (s : State) (b : Nat) (x : DioBank) : (s.setBank b x).upd = s.upd := rfl

/-! ### setPch -/

@[simp] theorem setPch_variant (s : State) (c : Nat) (x : PchUnit) : (s.setPch c x).variant = s.variant := rfl
@[simp] theorem setPch_pending (s : State) (c : Nat) (x : PchUnit) : (s.setPch c x).pending = s.pending := rfl
@[simp] theorem setPch_regs (s : State) (c : Nat) (x : PchUnit) : (s.setPch c x).regs = s.regs := rfl
@[simp] theorem setPch_mem (s : State) (c : Nat) (x : PchUnit) : (s.setPch c x).mem = s.mem := rfl
@[simp] theorem setPch_memErr (s : State) (c : Nat) (x : PchUnit) : (s.setPch c x).memErr = s.memErr := rfl
@[simp] theorem setPch_uptime (s : State) (c : Nat) (x : PchUnit) : (s.setPch c x).uptime = s.uptime := rfl
@[simp] theorem setPch_ring (s : State) (c : Nat) (x : PchUnit) : (s.setPch c x).ring = s.ring := rfl
@[simp] theorem setPch_ringFrac (s : State) (c : Nat) (x : PchUnit) : (s.setPch c x).ringFrac = s.ringFrac := rfl
@[simp] theorem setPch_outs (s : State) (c : Nat) (x : PchUnit) : (s.setPch c x).outs = s.outs := rfl
@[simp] theorem setPch_halfs (s : State) (c : Nat) (x : PchUnit) : (s.setPch c x).halfs = s.halfs := rfl
@[simp] theorem setPch_freeCount (s : State) (c : Nat) (x : PchUnit) : (s.setPch c x).freeCount = s.freeCount := rfl
@[simp] theorem setPch_replicas (s : State) (c : Nat) (x : PchUnit) : (s.setPch c x).replicas = s.replicas := rfl
@[simp] theorem setPch_sprue (s : State) (c : Nat) (x : PchUnit) : (s.setPch c x).sprue = s.sprue := rfl
@[simp] theorem setPch_fab (s : State) (c : Nat) (x : PchUnit) : (s.setPch c x).fab = s.fab := rfl
@[simp] theorem setPch_cmd (s : State) (c : Nat) (x : PchUnit) : (s.setPch c x).cmd = s.cmd := rfl
@[simp] theorem setPch_bridge (s : State) (c : Nat) (x : PchUnit) : (s.setPch c x).bridge = s.bridge := rfl
@[simp] theorem setPch_fault (s : State) (c : Nat) (x : PchUnit) : (s.setPch c x).fault = s.fault := rfl
@[simp] theorem setPch_islands (s : State) (c : Nat) (x : PchUnit) : (s.setPch c x).islands = s.islands := rfl
@[simp] theorem setPch_ledger (s : State) (c : Nat) (x : PchUnit) : (s.setPch c x).ledger = s.ledger := rfl
@[simp] theorem setPch_pimg (s : State) (c : Nat) (x : PchUnit) : (s.setPch c x).pimg = s.pimg := rfl
@[simp] theorem setPch_inbox (s : State) (c : Nat) (x : PchUnit) : (s.setPch c x).inbox = s.inbox := rfl
@[simp] theorem setPch_time (s : State) (c : Nat) (x : PchUnit) : (s.setPch c x).time = s.time := rfl
@[simp] theorem setPch_ringNet (s : State) (c : Nat) (x : PchUnit) : (s.setPch c x).ringNet = s.ringNet := rfl
@[simp] theorem setPch_sched (s : State) (c : Nat) (x : PchUnit) : (s.setPch c x).sched = s.sched := rfl
@[simp] theorem setPch_cans (s : State) (c : Nat) (x : PchUnit) : (s.setPch c x).cans = s.cans := rfl
@[simp] theorem setPch_flasks (s : State) (c : Nat) (x : PchUnit) : (s.setPch c x).flasks = s.flasks := rfl
@[simp] theorem setPch_lines (s : State) (c : Nat) (x : PchUnit) : (s.setPch c x).lines = s.lines := rfl
@[simp] theorem setPch_banks (s : State) (c : Nat) (x : PchUnit) : (s.setPch c x).banks = s.banks := rfl
@[simp] theorem setPch_power (s : State) (c : Nat) (x : PchUnit) : (s.setPch c x).power = { s.power with chans := Tbl.put (fun _ => {}) s.power.chans c x } := rfl
@[simp] theorem setPch_cruc (s : State) (c : Nat) (x : PchUnit) : (s.setPch c x).cruc = s.cruc := rfl
@[simp] theorem setPch_usb (s : State) (c : Nat) (x : PchUnit) : (s.setPch c x).usb = s.usb := rfl
@[simp] theorem setPch_pd (s : State) (c : Nat) (x : PchUnit) : (s.setPch c x).pd = s.pd := rfl
@[simp] theorem setPch_sys (s : State) (c : Nat) (x : PchUnit) : (s.setPch c x).sys = s.sys := rfl
@[simp] theorem setPch_tap (s : State) (c : Nat) (x : PchUnit) : (s.setPch c x).tap = s.tap := rfl
@[simp] theorem setPch_upd (s : State) (c : Nat) (x : PchUnit) : (s.setPch c x).upd = s.upd := rfl

/-! ### setDie -/

@[simp] theorem setDie_variant (s : State) (d : Nat) (x : DieUnit) : (s.setDie d x).variant = s.variant := rfl
@[simp] theorem setDie_pending (s : State) (d : Nat) (x : DieUnit) : (s.setDie d x).pending = s.pending := rfl
@[simp] theorem setDie_regs (s : State) (d : Nat) (x : DieUnit) : (s.setDie d x).regs = s.regs := rfl
@[simp] theorem setDie_mem (s : State) (d : Nat) (x : DieUnit) : (s.setDie d x).mem = s.mem := rfl
@[simp] theorem setDie_memErr (s : State) (d : Nat) (x : DieUnit) : (s.setDie d x).memErr = s.memErr := rfl
@[simp] theorem setDie_uptime (s : State) (d : Nat) (x : DieUnit) : (s.setDie d x).uptime = s.uptime := rfl
@[simp] theorem setDie_ring (s : State) (d : Nat) (x : DieUnit) : (s.setDie d x).ring = s.ring := rfl
@[simp] theorem setDie_ringFrac (s : State) (d : Nat) (x : DieUnit) : (s.setDie d x).ringFrac = s.ringFrac := rfl
@[simp] theorem setDie_outs (s : State) (d : Nat) (x : DieUnit) : (s.setDie d x).outs = s.outs := rfl
@[simp] theorem setDie_halfs (s : State) (d : Nat) (x : DieUnit) : (s.setDie d x).halfs = s.halfs := rfl
@[simp] theorem setDie_freeCount (s : State) (d : Nat) (x : DieUnit) : (s.setDie d x).freeCount = s.freeCount := rfl
@[simp] theorem setDie_replicas (s : State) (d : Nat) (x : DieUnit) : (s.setDie d x).replicas = s.replicas := rfl
@[simp] theorem setDie_sprue (s : State) (d : Nat) (x : DieUnit) : (s.setDie d x).sprue = s.sprue := rfl
@[simp] theorem setDie_fab (s : State) (d : Nat) (x : DieUnit) : (s.setDie d x).fab = s.fab := rfl
@[simp] theorem setDie_cmd (s : State) (d : Nat) (x : DieUnit) : (s.setDie d x).cmd = s.cmd := rfl
@[simp] theorem setDie_bridge (s : State) (d : Nat) (x : DieUnit) : (s.setDie d x).bridge = s.bridge := rfl
@[simp] theorem setDie_fault (s : State) (d : Nat) (x : DieUnit) : (s.setDie d x).fault = s.fault := rfl
@[simp] theorem setDie_islands (s : State) (d : Nat) (x : DieUnit) : (s.setDie d x).islands = s.islands := rfl
@[simp] theorem setDie_ledger (s : State) (d : Nat) (x : DieUnit) : (s.setDie d x).ledger = s.ledger := rfl
@[simp] theorem setDie_pimg (s : State) (d : Nat) (x : DieUnit) : (s.setDie d x).pimg = s.pimg := rfl
@[simp] theorem setDie_inbox (s : State) (d : Nat) (x : DieUnit) : (s.setDie d x).inbox = s.inbox := rfl
@[simp] theorem setDie_time (s : State) (d : Nat) (x : DieUnit) : (s.setDie d x).time = s.time := rfl
@[simp] theorem setDie_ringNet (s : State) (d : Nat) (x : DieUnit) : (s.setDie d x).ringNet = s.ringNet := rfl
@[simp] theorem setDie_sched (s : State) (d : Nat) (x : DieUnit) : (s.setDie d x).sched = s.sched := rfl
@[simp] theorem setDie_cans (s : State) (d : Nat) (x : DieUnit) : (s.setDie d x).cans = s.cans := rfl
@[simp] theorem setDie_flasks (s : State) (d : Nat) (x : DieUnit) : (s.setDie d x).flasks = s.flasks := rfl
@[simp] theorem setDie_lines (s : State) (d : Nat) (x : DieUnit) : (s.setDie d x).lines = s.lines := rfl
@[simp] theorem setDie_banks (s : State) (d : Nat) (x : DieUnit) : (s.setDie d x).banks = s.banks := rfl
@[simp] theorem setDie_power (s : State) (d : Nat) (x : DieUnit) : (s.setDie d x).power = { s.power with dies := Tbl.put (fun _ => {}) s.power.dies d x } := rfl
@[simp] theorem setDie_cruc (s : State) (d : Nat) (x : DieUnit) : (s.setDie d x).cruc = s.cruc := rfl
@[simp] theorem setDie_usb (s : State) (d : Nat) (x : DieUnit) : (s.setDie d x).usb = s.usb := rfl
@[simp] theorem setDie_pd (s : State) (d : Nat) (x : DieUnit) : (s.setDie d x).pd = s.pd := rfl
@[simp] theorem setDie_sys (s : State) (d : Nat) (x : DieUnit) : (s.setDie d x).sys = s.sys := rfl
@[simp] theorem setDie_tap (s : State) (d : Nat) (x : DieUnit) : (s.setDie d x).tap = s.tap := rfl
@[simp] theorem setDie_upd (s : State) (d : Nat) (x : DieUnit) : (s.setDie d x).upd = s.upd := rfl

/-! ### setPd -/

@[simp] theorem setPd_variant (s : State) (p : Nat) (x : PdPort) : (s.setPd p x).variant = s.variant := rfl
@[simp] theorem setPd_pending (s : State) (p : Nat) (x : PdPort) : (s.setPd p x).pending = s.pending := rfl
@[simp] theorem setPd_regs (s : State) (p : Nat) (x : PdPort) : (s.setPd p x).regs = s.regs := rfl
@[simp] theorem setPd_mem (s : State) (p : Nat) (x : PdPort) : (s.setPd p x).mem = s.mem := rfl
@[simp] theorem setPd_memErr (s : State) (p : Nat) (x : PdPort) : (s.setPd p x).memErr = s.memErr := rfl
@[simp] theorem setPd_uptime (s : State) (p : Nat) (x : PdPort) : (s.setPd p x).uptime = s.uptime := rfl
@[simp] theorem setPd_ring (s : State) (p : Nat) (x : PdPort) : (s.setPd p x).ring = s.ring := rfl
@[simp] theorem setPd_ringFrac (s : State) (p : Nat) (x : PdPort) : (s.setPd p x).ringFrac = s.ringFrac := rfl
@[simp] theorem setPd_outs (s : State) (p : Nat) (x : PdPort) : (s.setPd p x).outs = s.outs := rfl
@[simp] theorem setPd_halfs (s : State) (p : Nat) (x : PdPort) : (s.setPd p x).halfs = s.halfs := rfl
@[simp] theorem setPd_freeCount (s : State) (p : Nat) (x : PdPort) : (s.setPd p x).freeCount = s.freeCount := rfl
@[simp] theorem setPd_replicas (s : State) (p : Nat) (x : PdPort) : (s.setPd p x).replicas = s.replicas := rfl
@[simp] theorem setPd_sprue (s : State) (p : Nat) (x : PdPort) : (s.setPd p x).sprue = s.sprue := rfl
@[simp] theorem setPd_fab (s : State) (p : Nat) (x : PdPort) : (s.setPd p x).fab = s.fab := rfl
@[simp] theorem setPd_cmd (s : State) (p : Nat) (x : PdPort) : (s.setPd p x).cmd = s.cmd := rfl
@[simp] theorem setPd_bridge (s : State) (p : Nat) (x : PdPort) : (s.setPd p x).bridge = s.bridge := rfl
@[simp] theorem setPd_fault (s : State) (p : Nat) (x : PdPort) : (s.setPd p x).fault = s.fault := rfl
@[simp] theorem setPd_islands (s : State) (p : Nat) (x : PdPort) : (s.setPd p x).islands = s.islands := rfl
@[simp] theorem setPd_ledger (s : State) (p : Nat) (x : PdPort) : (s.setPd p x).ledger = s.ledger := rfl
@[simp] theorem setPd_pimg (s : State) (p : Nat) (x : PdPort) : (s.setPd p x).pimg = s.pimg := rfl
@[simp] theorem setPd_inbox (s : State) (p : Nat) (x : PdPort) : (s.setPd p x).inbox = s.inbox := rfl
@[simp] theorem setPd_time (s : State) (p : Nat) (x : PdPort) : (s.setPd p x).time = s.time := rfl
@[simp] theorem setPd_ringNet (s : State) (p : Nat) (x : PdPort) : (s.setPd p x).ringNet = s.ringNet := rfl
@[simp] theorem setPd_sched (s : State) (p : Nat) (x : PdPort) : (s.setPd p x).sched = s.sched := rfl
@[simp] theorem setPd_cans (s : State) (p : Nat) (x : PdPort) : (s.setPd p x).cans = s.cans := rfl
@[simp] theorem setPd_flasks (s : State) (p : Nat) (x : PdPort) : (s.setPd p x).flasks = s.flasks := rfl
@[simp] theorem setPd_lines (s : State) (p : Nat) (x : PdPort) : (s.setPd p x).lines = s.lines := rfl
@[simp] theorem setPd_banks (s : State) (p : Nat) (x : PdPort) : (s.setPd p x).banks = s.banks := rfl
@[simp] theorem setPd_power (s : State) (p : Nat) (x : PdPort) : (s.setPd p x).power = s.power := rfl
@[simp] theorem setPd_cruc (s : State) (p : Nat) (x : PdPort) : (s.setPd p x).cruc = s.cruc := rfl
@[simp] theorem setPd_usb (s : State) (p : Nat) (x : PdPort) : (s.setPd p x).usb = s.usb := rfl
@[simp] theorem setPd_pd (s : State) (p : Nat) (x : PdPort) : (s.setPd p x).pd = { s.pd with ports := Tbl.put (fun _ => {}) s.pd.ports p x } := rfl
@[simp] theorem setPd_sys (s : State) (p : Nat) (x : PdPort) : (s.setPd p x).sys = s.sys := rfl
@[simp] theorem setPd_tap (s : State) (p : Nat) (x : PdPort) : (s.setPd p x).tap = s.tap := rfl
@[simp] theorem setPd_upd (s : State) (p : Nat) (x : PdPort) : (s.setPd p x).upd = s.upd := rfl

/-! ### withSys -/

@[simp] theorem withSys_variant (s : State) (f : SysBlock → SysBlock) : (s.withSys f).variant = s.variant := rfl
@[simp] theorem withSys_pending (s : State) (f : SysBlock → SysBlock) : (s.withSys f).pending = s.pending := rfl
@[simp] theorem withSys_regs (s : State) (f : SysBlock → SysBlock) : (s.withSys f).regs = s.regs := rfl
@[simp] theorem withSys_mem (s : State) (f : SysBlock → SysBlock) : (s.withSys f).mem = s.mem := rfl
@[simp] theorem withSys_memErr (s : State) (f : SysBlock → SysBlock) : (s.withSys f).memErr = s.memErr := rfl
@[simp] theorem withSys_uptime (s : State) (f : SysBlock → SysBlock) : (s.withSys f).uptime = s.uptime := rfl
@[simp] theorem withSys_ring (s : State) (f : SysBlock → SysBlock) : (s.withSys f).ring = s.ring := rfl
@[simp] theorem withSys_ringFrac (s : State) (f : SysBlock → SysBlock) : (s.withSys f).ringFrac = s.ringFrac := rfl
@[simp] theorem withSys_outs (s : State) (f : SysBlock → SysBlock) : (s.withSys f).outs = s.outs := rfl
@[simp] theorem withSys_halfs (s : State) (f : SysBlock → SysBlock) : (s.withSys f).halfs = s.halfs := rfl
@[simp] theorem withSys_freeCount (s : State) (f : SysBlock → SysBlock) : (s.withSys f).freeCount = s.freeCount := rfl
@[simp] theorem withSys_replicas (s : State) (f : SysBlock → SysBlock) : (s.withSys f).replicas = s.replicas := rfl
@[simp] theorem withSys_sprue (s : State) (f : SysBlock → SysBlock) : (s.withSys f).sprue = s.sprue := rfl
@[simp] theorem withSys_fab (s : State) (f : SysBlock → SysBlock) : (s.withSys f).fab = s.fab := rfl
@[simp] theorem withSys_cmd (s : State) (f : SysBlock → SysBlock) : (s.withSys f).cmd = s.cmd := rfl
@[simp] theorem withSys_bridge (s : State) (f : SysBlock → SysBlock) : (s.withSys f).bridge = s.bridge := rfl
@[simp] theorem withSys_fault (s : State) (f : SysBlock → SysBlock) : (s.withSys f).fault = s.fault := rfl
@[simp] theorem withSys_islands (s : State) (f : SysBlock → SysBlock) : (s.withSys f).islands = s.islands := rfl
@[simp] theorem withSys_ledger (s : State) (f : SysBlock → SysBlock) : (s.withSys f).ledger = s.ledger := rfl
@[simp] theorem withSys_pimg (s : State) (f : SysBlock → SysBlock) : (s.withSys f).pimg = s.pimg := rfl
@[simp] theorem withSys_inbox (s : State) (f : SysBlock → SysBlock) : (s.withSys f).inbox = s.inbox := rfl
@[simp] theorem withSys_time (s : State) (f : SysBlock → SysBlock) : (s.withSys f).time = s.time := rfl
@[simp] theorem withSys_ringNet (s : State) (f : SysBlock → SysBlock) : (s.withSys f).ringNet = s.ringNet := rfl
@[simp] theorem withSys_sched (s : State) (f : SysBlock → SysBlock) : (s.withSys f).sched = s.sched := rfl
@[simp] theorem withSys_cans (s : State) (f : SysBlock → SysBlock) : (s.withSys f).cans = s.cans := rfl
@[simp] theorem withSys_flasks (s : State) (f : SysBlock → SysBlock) : (s.withSys f).flasks = s.flasks := rfl
@[simp] theorem withSys_lines (s : State) (f : SysBlock → SysBlock) : (s.withSys f).lines = s.lines := rfl
@[simp] theorem withSys_banks (s : State) (f : SysBlock → SysBlock) : (s.withSys f).banks = s.banks := rfl
@[simp] theorem withSys_power (s : State) (f : SysBlock → SysBlock) : (s.withSys f).power = s.power := rfl
@[simp] theorem withSys_cruc (s : State) (f : SysBlock → SysBlock) : (s.withSys f).cruc = s.cruc := rfl
@[simp] theorem withSys_usb (s : State) (f : SysBlock → SysBlock) : (s.withSys f).usb = s.usb := rfl
@[simp] theorem withSys_pd (s : State) (f : SysBlock → SysBlock) : (s.withSys f).pd = s.pd := rfl
@[simp] theorem withSys_sys (s : State) (f : SysBlock → SysBlock) : (s.withSys f).sys = f s.sys := rfl
@[simp] theorem withSys_tap (s : State) (f : SysBlock → SysBlock) : (s.withSys f).tap = s.tap := rfl
@[simp] theorem withSys_upd (s : State) (f : SysBlock → SysBlock) : (s.withSys f).upd = s.upd := rfl

/-! ### withUsb -/

@[simp] theorem withUsb_variant (s : State) (f : UsbBlock → UsbBlock) : (s.withUsb f).variant = s.variant := rfl
@[simp] theorem withUsb_pending (s : State) (f : UsbBlock → UsbBlock) : (s.withUsb f).pending = s.pending := rfl
@[simp] theorem withUsb_regs (s : State) (f : UsbBlock → UsbBlock) : (s.withUsb f).regs = s.regs := rfl
@[simp] theorem withUsb_mem (s : State) (f : UsbBlock → UsbBlock) : (s.withUsb f).mem = s.mem := rfl
@[simp] theorem withUsb_memErr (s : State) (f : UsbBlock → UsbBlock) : (s.withUsb f).memErr = s.memErr := rfl
@[simp] theorem withUsb_uptime (s : State) (f : UsbBlock → UsbBlock) : (s.withUsb f).uptime = s.uptime := rfl
@[simp] theorem withUsb_ring (s : State) (f : UsbBlock → UsbBlock) : (s.withUsb f).ring = s.ring := rfl
@[simp] theorem withUsb_ringFrac (s : State) (f : UsbBlock → UsbBlock) : (s.withUsb f).ringFrac = s.ringFrac := rfl
@[simp] theorem withUsb_outs (s : State) (f : UsbBlock → UsbBlock) : (s.withUsb f).outs = s.outs := rfl
@[simp] theorem withUsb_halfs (s : State) (f : UsbBlock → UsbBlock) : (s.withUsb f).halfs = s.halfs := rfl
@[simp] theorem withUsb_freeCount (s : State) (f : UsbBlock → UsbBlock) : (s.withUsb f).freeCount = s.freeCount := rfl
@[simp] theorem withUsb_replicas (s : State) (f : UsbBlock → UsbBlock) : (s.withUsb f).replicas = s.replicas := rfl
@[simp] theorem withUsb_sprue (s : State) (f : UsbBlock → UsbBlock) : (s.withUsb f).sprue = s.sprue := rfl
@[simp] theorem withUsb_fab (s : State) (f : UsbBlock → UsbBlock) : (s.withUsb f).fab = s.fab := rfl
@[simp] theorem withUsb_cmd (s : State) (f : UsbBlock → UsbBlock) : (s.withUsb f).cmd = s.cmd := rfl
@[simp] theorem withUsb_bridge (s : State) (f : UsbBlock → UsbBlock) : (s.withUsb f).bridge = s.bridge := rfl
@[simp] theorem withUsb_fault (s : State) (f : UsbBlock → UsbBlock) : (s.withUsb f).fault = s.fault := rfl
@[simp] theorem withUsb_islands (s : State) (f : UsbBlock → UsbBlock) : (s.withUsb f).islands = s.islands := rfl
@[simp] theorem withUsb_ledger (s : State) (f : UsbBlock → UsbBlock) : (s.withUsb f).ledger = s.ledger := rfl
@[simp] theorem withUsb_pimg (s : State) (f : UsbBlock → UsbBlock) : (s.withUsb f).pimg = s.pimg := rfl
@[simp] theorem withUsb_inbox (s : State) (f : UsbBlock → UsbBlock) : (s.withUsb f).inbox = s.inbox := rfl
@[simp] theorem withUsb_time (s : State) (f : UsbBlock → UsbBlock) : (s.withUsb f).time = s.time := rfl
@[simp] theorem withUsb_ringNet (s : State) (f : UsbBlock → UsbBlock) : (s.withUsb f).ringNet = s.ringNet := rfl
@[simp] theorem withUsb_sched (s : State) (f : UsbBlock → UsbBlock) : (s.withUsb f).sched = s.sched := rfl
@[simp] theorem withUsb_cans (s : State) (f : UsbBlock → UsbBlock) : (s.withUsb f).cans = s.cans := rfl
@[simp] theorem withUsb_flasks (s : State) (f : UsbBlock → UsbBlock) : (s.withUsb f).flasks = s.flasks := rfl
@[simp] theorem withUsb_lines (s : State) (f : UsbBlock → UsbBlock) : (s.withUsb f).lines = s.lines := rfl
@[simp] theorem withUsb_banks (s : State) (f : UsbBlock → UsbBlock) : (s.withUsb f).banks = s.banks := rfl
@[simp] theorem withUsb_power (s : State) (f : UsbBlock → UsbBlock) : (s.withUsb f).power = s.power := rfl
@[simp] theorem withUsb_cruc (s : State) (f : UsbBlock → UsbBlock) : (s.withUsb f).cruc = s.cruc := rfl
@[simp] theorem withUsb_usb (s : State) (f : UsbBlock → UsbBlock) : (s.withUsb f).usb = f s.usb := rfl
@[simp] theorem withUsb_pd (s : State) (f : UsbBlock → UsbBlock) : (s.withUsb f).pd = s.pd := rfl
@[simp] theorem withUsb_sys (s : State) (f : UsbBlock → UsbBlock) : (s.withUsb f).sys = s.sys := rfl
@[simp] theorem withUsb_tap (s : State) (f : UsbBlock → UsbBlock) : (s.withUsb f).tap = s.tap := rfl
@[simp] theorem withUsb_upd (s : State) (f : UsbBlock → UsbBlock) : (s.withUsb f).upd = s.upd := rfl

/-! ### withCruc -/

@[simp] theorem withCruc_variant (s : State) (f : CrucBlock → CrucBlock) : (s.withCruc f).variant = s.variant := rfl
@[simp] theorem withCruc_pending (s : State) (f : CrucBlock → CrucBlock) : (s.withCruc f).pending = s.pending := rfl
@[simp] theorem withCruc_regs (s : State) (f : CrucBlock → CrucBlock) : (s.withCruc f).regs = s.regs := rfl
@[simp] theorem withCruc_mem (s : State) (f : CrucBlock → CrucBlock) : (s.withCruc f).mem = s.mem := rfl
@[simp] theorem withCruc_memErr (s : State) (f : CrucBlock → CrucBlock) : (s.withCruc f).memErr = s.memErr := rfl
@[simp] theorem withCruc_uptime (s : State) (f : CrucBlock → CrucBlock) : (s.withCruc f).uptime = s.uptime := rfl
@[simp] theorem withCruc_ring (s : State) (f : CrucBlock → CrucBlock) : (s.withCruc f).ring = s.ring := rfl
@[simp] theorem withCruc_ringFrac (s : State) (f : CrucBlock → CrucBlock) : (s.withCruc f).ringFrac = s.ringFrac := rfl
@[simp] theorem withCruc_outs (s : State) (f : CrucBlock → CrucBlock) : (s.withCruc f).outs = s.outs := rfl
@[simp] theorem withCruc_halfs (s : State) (f : CrucBlock → CrucBlock) : (s.withCruc f).halfs = s.halfs := rfl
@[simp] theorem withCruc_freeCount (s : State) (f : CrucBlock → CrucBlock) : (s.withCruc f).freeCount = s.freeCount := rfl
@[simp] theorem withCruc_replicas (s : State) (f : CrucBlock → CrucBlock) : (s.withCruc f).replicas = s.replicas := rfl
@[simp] theorem withCruc_sprue (s : State) (f : CrucBlock → CrucBlock) : (s.withCruc f).sprue = s.sprue := rfl
@[simp] theorem withCruc_fab (s : State) (f : CrucBlock → CrucBlock) : (s.withCruc f).fab = s.fab := rfl
@[simp] theorem withCruc_cmd (s : State) (f : CrucBlock → CrucBlock) : (s.withCruc f).cmd = s.cmd := rfl
@[simp] theorem withCruc_bridge (s : State) (f : CrucBlock → CrucBlock) : (s.withCruc f).bridge = s.bridge := rfl
@[simp] theorem withCruc_fault (s : State) (f : CrucBlock → CrucBlock) : (s.withCruc f).fault = s.fault := rfl
@[simp] theorem withCruc_islands (s : State) (f : CrucBlock → CrucBlock) : (s.withCruc f).islands = s.islands := rfl
@[simp] theorem withCruc_ledger (s : State) (f : CrucBlock → CrucBlock) : (s.withCruc f).ledger = s.ledger := rfl
@[simp] theorem withCruc_pimg (s : State) (f : CrucBlock → CrucBlock) : (s.withCruc f).pimg = s.pimg := rfl
@[simp] theorem withCruc_inbox (s : State) (f : CrucBlock → CrucBlock) : (s.withCruc f).inbox = s.inbox := rfl
@[simp] theorem withCruc_time (s : State) (f : CrucBlock → CrucBlock) : (s.withCruc f).time = s.time := rfl
@[simp] theorem withCruc_ringNet (s : State) (f : CrucBlock → CrucBlock) : (s.withCruc f).ringNet = s.ringNet := rfl
@[simp] theorem withCruc_sched (s : State) (f : CrucBlock → CrucBlock) : (s.withCruc f).sched = s.sched := rfl
@[simp] theorem withCruc_cans (s : State) (f : CrucBlock → CrucBlock) : (s.withCruc f).cans = s.cans := rfl
@[simp] theorem withCruc_flasks (s : State) (f : CrucBlock → CrucBlock) : (s.withCruc f).flasks = s.flasks := rfl
@[simp] theorem withCruc_lines (s : State) (f : CrucBlock → CrucBlock) : (s.withCruc f).lines = s.lines := rfl
@[simp] theorem withCruc_banks (s : State) (f : CrucBlock → CrucBlock) : (s.withCruc f).banks = s.banks := rfl
@[simp] theorem withCruc_power (s : State) (f : CrucBlock → CrucBlock) : (s.withCruc f).power = s.power := rfl
@[simp] theorem withCruc_cruc (s : State) (f : CrucBlock → CrucBlock) : (s.withCruc f).cruc = f s.cruc := rfl
@[simp] theorem withCruc_usb (s : State) (f : CrucBlock → CrucBlock) : (s.withCruc f).usb = s.usb := rfl
@[simp] theorem withCruc_pd (s : State) (f : CrucBlock → CrucBlock) : (s.withCruc f).pd = s.pd := rfl
@[simp] theorem withCruc_sys (s : State) (f : CrucBlock → CrucBlock) : (s.withCruc f).sys = s.sys := rfl
@[simp] theorem withCruc_tap (s : State) (f : CrucBlock → CrucBlock) : (s.withCruc f).tap = s.tap := rfl
@[simp] theorem withCruc_upd (s : State) (f : CrucBlock → CrucBlock) : (s.withCruc f).upd = s.upd := rfl

/-! ### withUpd -/

@[simp] theorem withUpd_variant (s : State) (f : UpdBlock → UpdBlock) : (s.withUpd f).variant = s.variant := rfl
@[simp] theorem withUpd_pending (s : State) (f : UpdBlock → UpdBlock) : (s.withUpd f).pending = s.pending := rfl
@[simp] theorem withUpd_regs (s : State) (f : UpdBlock → UpdBlock) : (s.withUpd f).regs = s.regs := rfl
@[simp] theorem withUpd_mem (s : State) (f : UpdBlock → UpdBlock) : (s.withUpd f).mem = s.mem := rfl
@[simp] theorem withUpd_memErr (s : State) (f : UpdBlock → UpdBlock) : (s.withUpd f).memErr = s.memErr := rfl
@[simp] theorem withUpd_uptime (s : State) (f : UpdBlock → UpdBlock) : (s.withUpd f).uptime = s.uptime := rfl
@[simp] theorem withUpd_ring (s : State) (f : UpdBlock → UpdBlock) : (s.withUpd f).ring = s.ring := rfl
@[simp] theorem withUpd_ringFrac (s : State) (f : UpdBlock → UpdBlock) : (s.withUpd f).ringFrac = s.ringFrac := rfl
@[simp] theorem withUpd_outs (s : State) (f : UpdBlock → UpdBlock) : (s.withUpd f).outs = s.outs := rfl
@[simp] theorem withUpd_halfs (s : State) (f : UpdBlock → UpdBlock) : (s.withUpd f).halfs = s.halfs := rfl
@[simp] theorem withUpd_freeCount (s : State) (f : UpdBlock → UpdBlock) : (s.withUpd f).freeCount = s.freeCount := rfl
@[simp] theorem withUpd_replicas (s : State) (f : UpdBlock → UpdBlock) : (s.withUpd f).replicas = s.replicas := rfl
@[simp] theorem withUpd_sprue (s : State) (f : UpdBlock → UpdBlock) : (s.withUpd f).sprue = s.sprue := rfl
@[simp] theorem withUpd_fab (s : State) (f : UpdBlock → UpdBlock) : (s.withUpd f).fab = s.fab := rfl
@[simp] theorem withUpd_cmd (s : State) (f : UpdBlock → UpdBlock) : (s.withUpd f).cmd = s.cmd := rfl
@[simp] theorem withUpd_bridge (s : State) (f : UpdBlock → UpdBlock) : (s.withUpd f).bridge = s.bridge := rfl
@[simp] theorem withUpd_fault (s : State) (f : UpdBlock → UpdBlock) : (s.withUpd f).fault = s.fault := rfl
@[simp] theorem withUpd_islands (s : State) (f : UpdBlock → UpdBlock) : (s.withUpd f).islands = s.islands := rfl
@[simp] theorem withUpd_ledger (s : State) (f : UpdBlock → UpdBlock) : (s.withUpd f).ledger = s.ledger := rfl
@[simp] theorem withUpd_pimg (s : State) (f : UpdBlock → UpdBlock) : (s.withUpd f).pimg = s.pimg := rfl
@[simp] theorem withUpd_inbox (s : State) (f : UpdBlock → UpdBlock) : (s.withUpd f).inbox = s.inbox := rfl
@[simp] theorem withUpd_time (s : State) (f : UpdBlock → UpdBlock) : (s.withUpd f).time = s.time := rfl
@[simp] theorem withUpd_ringNet (s : State) (f : UpdBlock → UpdBlock) : (s.withUpd f).ringNet = s.ringNet := rfl
@[simp] theorem withUpd_sched (s : State) (f : UpdBlock → UpdBlock) : (s.withUpd f).sched = s.sched := rfl
@[simp] theorem withUpd_cans (s : State) (f : UpdBlock → UpdBlock) : (s.withUpd f).cans = s.cans := rfl
@[simp] theorem withUpd_flasks (s : State) (f : UpdBlock → UpdBlock) : (s.withUpd f).flasks = s.flasks := rfl
@[simp] theorem withUpd_lines (s : State) (f : UpdBlock → UpdBlock) : (s.withUpd f).lines = s.lines := rfl
@[simp] theorem withUpd_banks (s : State) (f : UpdBlock → UpdBlock) : (s.withUpd f).banks = s.banks := rfl
@[simp] theorem withUpd_power (s : State) (f : UpdBlock → UpdBlock) : (s.withUpd f).power = s.power := rfl
@[simp] theorem withUpd_cruc (s : State) (f : UpdBlock → UpdBlock) : (s.withUpd f).cruc = s.cruc := rfl
@[simp] theorem withUpd_usb (s : State) (f : UpdBlock → UpdBlock) : (s.withUpd f).usb = s.usb := rfl
@[simp] theorem withUpd_pd (s : State) (f : UpdBlock → UpdBlock) : (s.withUpd f).pd = s.pd := rfl
@[simp] theorem withUpd_sys (s : State) (f : UpdBlock → UpdBlock) : (s.withUpd f).sys = s.sys := rfl
@[simp] theorem withUpd_tap (s : State) (f : UpdBlock → UpdBlock) : (s.withUpd f).tap = s.tap := rfl
@[simp] theorem withUpd_upd (s : State) (f : UpdBlock → UpdBlock) : (s.withUpd f).upd = f s.upd := rfl

/-! ### setRport -/

@[simp] theorem setRport_variant (s : State) (p : Nat) (x : RingPort) : (s.setRport p x).variant = s.variant := rfl
@[simp] theorem setRport_pending (s : State) (p : Nat) (x : RingPort) : (s.setRport p x).pending = s.pending := rfl
@[simp] theorem setRport_regs (s : State) (p : Nat) (x : RingPort) : (s.setRport p x).regs = s.regs := rfl
@[simp] theorem setRport_mem (s : State) (p : Nat) (x : RingPort) : (s.setRport p x).mem = s.mem := rfl
@[simp] theorem setRport_memErr (s : State) (p : Nat) (x : RingPort) : (s.setRport p x).memErr = s.memErr := rfl
@[simp] theorem setRport_uptime (s : State) (p : Nat) (x : RingPort) : (s.setRport p x).uptime = s.uptime := rfl
@[simp] theorem setRport_ring (s : State) (p : Nat) (x : RingPort) : (s.setRport p x).ring = s.ring := rfl
@[simp] theorem setRport_ringFrac (s : State) (p : Nat) (x : RingPort) : (s.setRport p x).ringFrac = s.ringFrac := rfl
@[simp] theorem setRport_outs (s : State) (p : Nat) (x : RingPort) : (s.setRport p x).outs = s.outs := rfl
@[simp] theorem setRport_halfs (s : State) (p : Nat) (x : RingPort) : (s.setRport p x).halfs = s.halfs := rfl
@[simp] theorem setRport_freeCount (s : State) (p : Nat) (x : RingPort) : (s.setRport p x).freeCount = s.freeCount := rfl
@[simp] theorem setRport_replicas (s : State) (p : Nat) (x : RingPort) : (s.setRport p x).replicas = s.replicas := rfl
@[simp] theorem setRport_sprue (s : State) (p : Nat) (x : RingPort) : (s.setRport p x).sprue = s.sprue := rfl
@[simp] theorem setRport_fab (s : State) (p : Nat) (x : RingPort) : (s.setRport p x).fab = s.fab := rfl
@[simp] theorem setRport_cmd (s : State) (p : Nat) (x : RingPort) : (s.setRport p x).cmd = s.cmd := rfl
@[simp] theorem setRport_bridge (s : State) (p : Nat) (x : RingPort) : (s.setRport p x).bridge = s.bridge := rfl
@[simp] theorem setRport_fault (s : State) (p : Nat) (x : RingPort) : (s.setRport p x).fault = s.fault := rfl
@[simp] theorem setRport_islands (s : State) (p : Nat) (x : RingPort) : (s.setRport p x).islands = s.islands := rfl
@[simp] theorem setRport_ledger (s : State) (p : Nat) (x : RingPort) : (s.setRport p x).ledger = s.ledger := rfl
@[simp] theorem setRport_pimg (s : State) (p : Nat) (x : RingPort) : (s.setRport p x).pimg = s.pimg := rfl
@[simp] theorem setRport_inbox (s : State) (p : Nat) (x : RingPort) : (s.setRport p x).inbox = s.inbox := rfl
@[simp] theorem setRport_time (s : State) (p : Nat) (x : RingPort) : (s.setRport p x).time = s.time := rfl
@[simp] theorem setRport_ringNet (s : State) (p : Nat) (x : RingPort) :
    (s.setRport p x).ringNet = { s.ringNet with ports := Tbl.put (fun _ => {}) s.ringNet.ports p x } := rfl
@[simp] theorem setRport_sched (s : State) (p : Nat) (x : RingPort) : (s.setRport p x).sched = s.sched := rfl
@[simp] theorem setRport_cans (s : State) (p : Nat) (x : RingPort) : (s.setRport p x).cans = s.cans := rfl
@[simp] theorem setRport_flasks (s : State) (p : Nat) (x : RingPort) : (s.setRport p x).flasks = s.flasks := rfl
@[simp] theorem setRport_lines (s : State) (p : Nat) (x : RingPort) : (s.setRport p x).lines = s.lines := rfl
@[simp] theorem setRport_banks (s : State) (p : Nat) (x : RingPort) : (s.setRport p x).banks = s.banks := rfl
@[simp] theorem setRport_power (s : State) (p : Nat) (x : RingPort) : (s.setRport p x).power = s.power := rfl
@[simp] theorem setRport_cruc (s : State) (p : Nat) (x : RingPort) : (s.setRport p x).cruc = s.cruc := rfl
@[simp] theorem setRport_usb (s : State) (p : Nat) (x : RingPort) : (s.setRport p x).usb = s.usb := rfl
@[simp] theorem setRport_pd (s : State) (p : Nat) (x : RingPort) : (s.setRport p x).pd = s.pd := rfl
@[simp] theorem setRport_sys (s : State) (p : Nat) (x : RingPort) : (s.setRport p x).sys = s.sys := rfl
@[simp] theorem setRport_tap (s : State) (p : Nat) (x : RingPort) : (s.setRport p x).tap = s.tap := rfl
@[simp] theorem setRport_upd (s : State) (p : Nat) (x : RingPort) : (s.setRport p x).upd = s.upd := rfl

/-! ### setEport -/

@[simp] theorem setEport_variant (s : State) (p : Nat) (x : EgressPort) : (s.setEport p x).variant = s.variant := rfl
@[simp] theorem setEport_pending (s : State) (p : Nat) (x : EgressPort) : (s.setEport p x).pending = s.pending := rfl
@[simp] theorem setEport_regs (s : State) (p : Nat) (x : EgressPort) : (s.setEport p x).regs = s.regs := rfl
@[simp] theorem setEport_mem (s : State) (p : Nat) (x : EgressPort) : (s.setEport p x).mem = s.mem := rfl
@[simp] theorem setEport_memErr (s : State) (p : Nat) (x : EgressPort) : (s.setEport p x).memErr = s.memErr := rfl
@[simp] theorem setEport_uptime (s : State) (p : Nat) (x : EgressPort) : (s.setEport p x).uptime = s.uptime := rfl
@[simp] theorem setEport_ring (s : State) (p : Nat) (x : EgressPort) : (s.setEport p x).ring = s.ring := rfl
@[simp] theorem setEport_ringFrac (s : State) (p : Nat) (x : EgressPort) : (s.setEport p x).ringFrac = s.ringFrac := rfl
@[simp] theorem setEport_outs (s : State) (p : Nat) (x : EgressPort) : (s.setEport p x).outs = s.outs := rfl
@[simp] theorem setEport_halfs (s : State) (p : Nat) (x : EgressPort) : (s.setEport p x).halfs = s.halfs := rfl
@[simp] theorem setEport_freeCount (s : State) (p : Nat) (x : EgressPort) : (s.setEport p x).freeCount = s.freeCount := rfl
@[simp] theorem setEport_replicas (s : State) (p : Nat) (x : EgressPort) : (s.setEport p x).replicas = s.replicas := rfl
@[simp] theorem setEport_sprue (s : State) (p : Nat) (x : EgressPort) : (s.setEport p x).sprue = s.sprue := rfl
@[simp] theorem setEport_fab (s : State) (p : Nat) (x : EgressPort) : (s.setEport p x).fab = s.fab := rfl
@[simp] theorem setEport_cmd (s : State) (p : Nat) (x : EgressPort) : (s.setEport p x).cmd = s.cmd := rfl
@[simp] theorem setEport_bridge (s : State) (p : Nat) (x : EgressPort) : (s.setEport p x).bridge = s.bridge := rfl
@[simp] theorem setEport_fault (s : State) (p : Nat) (x : EgressPort) : (s.setEport p x).fault = s.fault := rfl
@[simp] theorem setEport_islands (s : State) (p : Nat) (x : EgressPort) : (s.setEport p x).islands = s.islands := rfl
@[simp] theorem setEport_ledger (s : State) (p : Nat) (x : EgressPort) : (s.setEport p x).ledger = s.ledger := rfl
@[simp] theorem setEport_pimg (s : State) (p : Nat) (x : EgressPort) : (s.setEport p x).pimg = s.pimg := rfl
@[simp] theorem setEport_inbox (s : State) (p : Nat) (x : EgressPort) : (s.setEport p x).inbox = s.inbox := rfl
@[simp] theorem setEport_time (s : State) (p : Nat) (x : EgressPort) : (s.setEport p x).time = s.time := rfl
@[simp] theorem setEport_ringNet (s : State) (p : Nat) (x : EgressPort) : (s.setEport p x).ringNet = s.ringNet := rfl
@[simp] theorem setEport_sched (s : State) (p : Nat) (x : EgressPort) :
    (s.setEport p x).sched = { s.sched with ports := Tbl.put (fun _ => {}) s.sched.ports p x } := rfl
@[simp] theorem setEport_cans (s : State) (p : Nat) (x : EgressPort) : (s.setEport p x).cans = s.cans := rfl
@[simp] theorem setEport_flasks (s : State) (p : Nat) (x : EgressPort) : (s.setEport p x).flasks = s.flasks := rfl
@[simp] theorem setEport_lines (s : State) (p : Nat) (x : EgressPort) : (s.setEport p x).lines = s.lines := rfl
@[simp] theorem setEport_banks (s : State) (p : Nat) (x : EgressPort) : (s.setEport p x).banks = s.banks := rfl
@[simp] theorem setEport_power (s : State) (p : Nat) (x : EgressPort) : (s.setEport p x).power = s.power := rfl
@[simp] theorem setEport_cruc (s : State) (p : Nat) (x : EgressPort) : (s.setEport p x).cruc = s.cruc := rfl
@[simp] theorem setEport_usb (s : State) (p : Nat) (x : EgressPort) : (s.setEport p x).usb = s.usb := rfl
@[simp] theorem setEport_pd (s : State) (p : Nat) (x : EgressPort) : (s.setEport p x).pd = s.pd := rfl
@[simp] theorem setEport_sys (s : State) (p : Nat) (x : EgressPort) : (s.setEport p x).sys = s.sys := rfl
@[simp] theorem setEport_tap (s : State) (p : Nat) (x : EgressPort) : (s.setEport p x).tap = s.tap := rfl
@[simp] theorem setEport_upd (s : State) (p : Nat) (x : EgressPort) : (s.setEport p x).upd = s.upd := rfl

/-! ### setMac -/

@[simp] theorem setMac_variant (s : State) (p : Nat) (x : MacBlock) : (s.setMac p x).variant = s.variant := rfl
@[simp] theorem setMac_pending (s : State) (p : Nat) (x : MacBlock) : (s.setMac p x).pending = s.pending := rfl
@[simp] theorem setMac_regs (s : State) (p : Nat) (x : MacBlock) : (s.setMac p x).regs = s.regs := rfl
@[simp] theorem setMac_mem (s : State) (p : Nat) (x : MacBlock) : (s.setMac p x).mem = s.mem := rfl
@[simp] theorem setMac_memErr (s : State) (p : Nat) (x : MacBlock) : (s.setMac p x).memErr = s.memErr := rfl
@[simp] theorem setMac_uptime (s : State) (p : Nat) (x : MacBlock) : (s.setMac p x).uptime = s.uptime := rfl
@[simp] theorem setMac_ring (s : State) (p : Nat) (x : MacBlock) : (s.setMac p x).ring = s.ring := rfl
@[simp] theorem setMac_ringFrac (s : State) (p : Nat) (x : MacBlock) : (s.setMac p x).ringFrac = s.ringFrac := rfl
@[simp] theorem setMac_outs (s : State) (p : Nat) (x : MacBlock) : (s.setMac p x).outs = s.outs := rfl
@[simp] theorem setMac_halfs (s : State) (p : Nat) (x : MacBlock) : (s.setMac p x).halfs = s.halfs := rfl
@[simp] theorem setMac_freeCount (s : State) (p : Nat) (x : MacBlock) : (s.setMac p x).freeCount = s.freeCount := rfl
@[simp] theorem setMac_replicas (s : State) (p : Nat) (x : MacBlock) : (s.setMac p x).replicas = s.replicas := rfl
@[simp] theorem setMac_sprue (s : State) (p : Nat) (x : MacBlock) : (s.setMac p x).sprue = s.sprue := rfl
@[simp] theorem setMac_fab (s : State) (p : Nat) (x : MacBlock) : (s.setMac p x).fab = s.fab := rfl
@[simp] theorem setMac_cmd (s : State) (p : Nat) (x : MacBlock) : (s.setMac p x).cmd = s.cmd := rfl
@[simp] theorem setMac_bridge (s : State) (p : Nat) (x : MacBlock) : (s.setMac p x).bridge = s.bridge := rfl
@[simp] theorem setMac_fault (s : State) (p : Nat) (x : MacBlock) : (s.setMac p x).fault = s.fault := rfl
@[simp] theorem setMac_islands (s : State) (p : Nat) (x : MacBlock) : (s.setMac p x).islands = s.islands := rfl
@[simp] theorem setMac_ledger (s : State) (p : Nat) (x : MacBlock) : (s.setMac p x).ledger = s.ledger := rfl
@[simp] theorem setMac_pimg (s : State) (p : Nat) (x : MacBlock) : (s.setMac p x).pimg = s.pimg := rfl
@[simp] theorem setMac_inbox (s : State) (p : Nat) (x : MacBlock) : (s.setMac p x).inbox = s.inbox := rfl
@[simp] theorem setMac_time (s : State) (p : Nat) (x : MacBlock) : (s.setMac p x).time = s.time := rfl
@[simp] theorem setMac_ringNet (s : State) (p : Nat) (x : MacBlock) : (s.setMac p x).ringNet = s.ringNet := rfl
@[simp] theorem setMac_sched (s : State) (p : Nat) (x : MacBlock) :
    (s.setMac p x).sched = { s.sched with macs := Tbl.put (fun _ => {}) s.sched.macs p x } := rfl
@[simp] theorem setMac_cans (s : State) (p : Nat) (x : MacBlock) : (s.setMac p x).cans = s.cans := rfl
@[simp] theorem setMac_flasks (s : State) (p : Nat) (x : MacBlock) : (s.setMac p x).flasks = s.flasks := rfl
@[simp] theorem setMac_lines (s : State) (p : Nat) (x : MacBlock) : (s.setMac p x).lines = s.lines := rfl
@[simp] theorem setMac_banks (s : State) (p : Nat) (x : MacBlock) : (s.setMac p x).banks = s.banks := rfl
@[simp] theorem setMac_power (s : State) (p : Nat) (x : MacBlock) : (s.setMac p x).power = s.power := rfl
@[simp] theorem setMac_cruc (s : State) (p : Nat) (x : MacBlock) : (s.setMac p x).cruc = s.cruc := rfl
@[simp] theorem setMac_usb (s : State) (p : Nat) (x : MacBlock) : (s.setMac p x).usb = s.usb := rfl
@[simp] theorem setMac_pd (s : State) (p : Nat) (x : MacBlock) : (s.setMac p x).pd = s.pd := rfl
@[simp] theorem setMac_sys (s : State) (p : Nat) (x : MacBlock) : (s.setMac p x).sys = s.sys := rfl
@[simp] theorem setMac_tap (s : State) (p : Nat) (x : MacBlock) : (s.setMac p x).tap = s.tap := rfl
@[simp] theorem setMac_upd (s : State) (p : Nat) (x : MacBlock) : (s.setMac p x).upd = s.upd := rfl

/-! ### setCq -/

@[simp] theorem setCq_variant (s : State) (c : Nat) (q : List QFrame) : (s.setCq c q).variant = s.variant := rfl
@[simp] theorem setCq_pending (s : State) (c : Nat) (q : List QFrame) : (s.setCq c q).pending = s.pending := rfl
@[simp] theorem setCq_regs (s : State) (c : Nat) (q : List QFrame) : (s.setCq c q).regs = s.regs := rfl
@[simp] theorem setCq_mem (s : State) (c : Nat) (q : List QFrame) : (s.setCq c q).mem = s.mem := rfl
@[simp] theorem setCq_memErr (s : State) (c : Nat) (q : List QFrame) : (s.setCq c q).memErr = s.memErr := rfl
@[simp] theorem setCq_uptime (s : State) (c : Nat) (q : List QFrame) : (s.setCq c q).uptime = s.uptime := rfl
@[simp] theorem setCq_ring (s : State) (c : Nat) (q : List QFrame) : (s.setCq c q).ring = s.ring := rfl
@[simp] theorem setCq_ringFrac (s : State) (c : Nat) (q : List QFrame) : (s.setCq c q).ringFrac = s.ringFrac := rfl
@[simp] theorem setCq_outs (s : State) (c : Nat) (q : List QFrame) : (s.setCq c q).outs = s.outs := rfl
@[simp] theorem setCq_halfs (s : State) (c : Nat) (q : List QFrame) : (s.setCq c q).halfs = s.halfs := rfl
@[simp] theorem setCq_freeCount (s : State) (c : Nat) (q : List QFrame) : (s.setCq c q).freeCount = s.freeCount := rfl
@[simp] theorem setCq_replicas (s : State) (c : Nat) (q : List QFrame) : (s.setCq c q).replicas = s.replicas := rfl
@[simp] theorem setCq_sprue (s : State) (c : Nat) (q : List QFrame) : (s.setCq c q).sprue = s.sprue := rfl
@[simp] theorem setCq_fab (s : State) (c : Nat) (q : List QFrame) : (s.setCq c q).fab = s.fab := rfl
@[simp] theorem setCq_cmd (s : State) (c : Nat) (q : List QFrame) : (s.setCq c q).cmd = s.cmd := rfl
@[simp] theorem setCq_bridge (s : State) (c : Nat) (q : List QFrame) : (s.setCq c q).bridge = s.bridge := rfl
@[simp] theorem setCq_fault (s : State) (c : Nat) (q : List QFrame) : (s.setCq c q).fault = s.fault := rfl
@[simp] theorem setCq_islands (s : State) (c : Nat) (q : List QFrame) : (s.setCq c q).islands = s.islands := rfl
@[simp] theorem setCq_ledger (s : State) (c : Nat) (q : List QFrame) : (s.setCq c q).ledger = s.ledger := rfl
@[simp] theorem setCq_pimg (s : State) (c : Nat) (q : List QFrame) : (s.setCq c q).pimg = s.pimg := rfl
@[simp] theorem setCq_inbox (s : State) (c : Nat) (q : List QFrame) : (s.setCq c q).inbox = s.inbox := rfl
@[simp] theorem setCq_time (s : State) (c : Nat) (q : List QFrame) : (s.setCq c q).time = s.time := rfl
@[simp] theorem setCq_ringNet (s : State) (c : Nat) (q : List QFrame) : (s.setCq c q).ringNet = s.ringNet := rfl
@[simp] theorem setCq_sched (s : State) (c : Nat) (q : List QFrame) :
    (s.setCq c q).sched = { s.sched with queues := Tbl.put (fun _ => []) s.sched.queues c q } := rfl
@[simp] theorem setCq_cans (s : State) (c : Nat) (q : List QFrame) : (s.setCq c q).cans = s.cans := rfl
@[simp] theorem setCq_flasks (s : State) (c : Nat) (q : List QFrame) : (s.setCq c q).flasks = s.flasks := rfl
@[simp] theorem setCq_lines (s : State) (c : Nat) (q : List QFrame) : (s.setCq c q).lines = s.lines := rfl
@[simp] theorem setCq_banks (s : State) (c : Nat) (q : List QFrame) : (s.setCq c q).banks = s.banks := rfl
@[simp] theorem setCq_power (s : State) (c : Nat) (q : List QFrame) : (s.setCq c q).power = s.power := rfl
@[simp] theorem setCq_cruc (s : State) (c : Nat) (q : List QFrame) : (s.setCq c q).cruc = s.cruc := rfl
@[simp] theorem setCq_usb (s : State) (c : Nat) (q : List QFrame) : (s.setCq c q).usb = s.usb := rfl
@[simp] theorem setCq_pd (s : State) (c : Nat) (q : List QFrame) : (s.setCq c q).pd = s.pd := rfl
@[simp] theorem setCq_sys (s : State) (c : Nat) (q : List QFrame) : (s.setCq c q).sys = s.sys := rfl
@[simp] theorem setCq_tap (s : State) (c : Nat) (q : List QFrame) : (s.setCq c q).tap = s.tap := rfl
@[simp] theorem setCq_upd (s : State) (c : Nat) (q : List QFrame) : (s.setCq c q).upd = s.upd := rfl

/-! ### setPath -/

@[simp] theorem setPath_variant (s : State) (c n : Nat) (x : SplitPath) : (s.setPath c n x).variant = s.variant := rfl
@[simp] theorem setPath_pending (s : State) (c n : Nat) (x : SplitPath) : (s.setPath c n x).pending = s.pending := rfl
@[simp] theorem setPath_regs (s : State) (c n : Nat) (x : SplitPath) : (s.setPath c n x).regs = s.regs := rfl
@[simp] theorem setPath_mem (s : State) (c n : Nat) (x : SplitPath) : (s.setPath c n x).mem = s.mem := rfl
@[simp] theorem setPath_memErr (s : State) (c n : Nat) (x : SplitPath) : (s.setPath c n x).memErr = s.memErr := rfl
@[simp] theorem setPath_uptime (s : State) (c n : Nat) (x : SplitPath) : (s.setPath c n x).uptime = s.uptime := rfl
@[simp] theorem setPath_ring (s : State) (c n : Nat) (x : SplitPath) : (s.setPath c n x).ring = s.ring := rfl
@[simp] theorem setPath_ringFrac (s : State) (c n : Nat) (x : SplitPath) : (s.setPath c n x).ringFrac = s.ringFrac := rfl
@[simp] theorem setPath_outs (s : State) (c n : Nat) (x : SplitPath) : (s.setPath c n x).outs = s.outs := rfl
@[simp] theorem setPath_halfs (s : State) (c n : Nat) (x : SplitPath) : (s.setPath c n x).halfs = s.halfs := rfl
@[simp] theorem setPath_freeCount (s : State) (c n : Nat) (x : SplitPath) : (s.setPath c n x).freeCount = s.freeCount := rfl
@[simp] theorem setPath_replicas (s : State) (c n : Nat) (x : SplitPath) : (s.setPath c n x).replicas = s.replicas := rfl
@[simp] theorem setPath_sprue (s : State) (c n : Nat) (x : SplitPath) : (s.setPath c n x).sprue = s.sprue := rfl
@[simp] theorem setPath_fab (s : State) (c n : Nat) (x : SplitPath) : (s.setPath c n x).fab = s.fab := rfl
@[simp] theorem setPath_cmd (s : State) (c n : Nat) (x : SplitPath) : (s.setPath c n x).cmd = s.cmd := rfl
@[simp] theorem setPath_bridge (s : State) (c n : Nat) (x : SplitPath) : (s.setPath c n x).bridge = s.bridge := rfl
@[simp] theorem setPath_fault (s : State) (c n : Nat) (x : SplitPath) : (s.setPath c n x).fault = s.fault := rfl
@[simp] theorem setPath_islands (s : State) (c n : Nat) (x : SplitPath) : (s.setPath c n x).islands = s.islands := rfl
@[simp] theorem setPath_ledger (s : State) (c n : Nat) (x : SplitPath) : (s.setPath c n x).ledger = s.ledger := rfl
@[simp] theorem setPath_pimg (s : State) (c n : Nat) (x : SplitPath) : (s.setPath c n x).pimg = s.pimg := rfl
@[simp] theorem setPath_inbox (s : State) (c n : Nat) (x : SplitPath) : (s.setPath c n x).inbox = s.inbox := rfl
@[simp] theorem setPath_time (s : State) (c n : Nat) (x : SplitPath) : (s.setPath c n x).time = s.time := rfl
@[simp] theorem setPath_ringNet (s : State) (c n : Nat) (x : SplitPath) :
    (s.setPath c n x).ringNet = { s.ringNet with paths := Tbl.put (fun _ => {}) s.ringNet.paths (256 * c + n) x } := rfl
@[simp] theorem setPath_sched (s : State) (c n : Nat) (x : SplitPath) : (s.setPath c n x).sched = s.sched := rfl
@[simp] theorem setPath_cans (s : State) (c n : Nat) (x : SplitPath) : (s.setPath c n x).cans = s.cans := rfl
@[simp] theorem setPath_flasks (s : State) (c n : Nat) (x : SplitPath) : (s.setPath c n x).flasks = s.flasks := rfl
@[simp] theorem setPath_lines (s : State) (c n : Nat) (x : SplitPath) : (s.setPath c n x).lines = s.lines := rfl
@[simp] theorem setPath_banks (s : State) (c n : Nat) (x : SplitPath) : (s.setPath c n x).banks = s.banks := rfl
@[simp] theorem setPath_power (s : State) (c n : Nat) (x : SplitPath) : (s.setPath c n x).power = s.power := rfl
@[simp] theorem setPath_cruc (s : State) (c n : Nat) (x : SplitPath) : (s.setPath c n x).cruc = s.cruc := rfl
@[simp] theorem setPath_usb (s : State) (c n : Nat) (x : SplitPath) : (s.setPath c n x).usb = s.usb := rfl
@[simp] theorem setPath_pd (s : State) (c n : Nat) (x : SplitPath) : (s.setPath c n x).pd = s.pd := rfl
@[simp] theorem setPath_sys (s : State) (c n : Nat) (x : SplitPath) : (s.setPath c n x).sys = s.sys := rfl
@[simp] theorem setPath_tap (s : State) (c n : Nat) (x : SplitPath) : (s.setPath c n x).tap = s.tap := rfl
@[simp] theorem setPath_upd (s : State) (c n : Nat) (x : SplitPath) : (s.setPath c n x).upd = s.upd := rfl

/-! ### setPeer -/

@[simp] theorem setPeer_variant (s : State) (p : Nat) (x : PeerDelay) : (s.setPeer p x).variant = s.variant := rfl
@[simp] theorem setPeer_pending (s : State) (p : Nat) (x : PeerDelay) : (s.setPeer p x).pending = s.pending := rfl
@[simp] theorem setPeer_regs (s : State) (p : Nat) (x : PeerDelay) : (s.setPeer p x).regs = s.regs := rfl
@[simp] theorem setPeer_mem (s : State) (p : Nat) (x : PeerDelay) : (s.setPeer p x).mem = s.mem := rfl
@[simp] theorem setPeer_memErr (s : State) (p : Nat) (x : PeerDelay) : (s.setPeer p x).memErr = s.memErr := rfl
@[simp] theorem setPeer_uptime (s : State) (p : Nat) (x : PeerDelay) : (s.setPeer p x).uptime = s.uptime := rfl
@[simp] theorem setPeer_ring (s : State) (p : Nat) (x : PeerDelay) : (s.setPeer p x).ring = s.ring := rfl
@[simp] theorem setPeer_ringFrac (s : State) (p : Nat) (x : PeerDelay) : (s.setPeer p x).ringFrac = s.ringFrac := rfl
@[simp] theorem setPeer_outs (s : State) (p : Nat) (x : PeerDelay) : (s.setPeer p x).outs = s.outs := rfl
@[simp] theorem setPeer_halfs (s : State) (p : Nat) (x : PeerDelay) : (s.setPeer p x).halfs = s.halfs := rfl
@[simp] theorem setPeer_freeCount (s : State) (p : Nat) (x : PeerDelay) : (s.setPeer p x).freeCount = s.freeCount := rfl
@[simp] theorem setPeer_replicas (s : State) (p : Nat) (x : PeerDelay) : (s.setPeer p x).replicas = s.replicas := rfl
@[simp] theorem setPeer_sprue (s : State) (p : Nat) (x : PeerDelay) : (s.setPeer p x).sprue = s.sprue := rfl
@[simp] theorem setPeer_fab (s : State) (p : Nat) (x : PeerDelay) : (s.setPeer p x).fab = s.fab := rfl
@[simp] theorem setPeer_cmd (s : State) (p : Nat) (x : PeerDelay) : (s.setPeer p x).cmd = s.cmd := rfl
@[simp] theorem setPeer_bridge (s : State) (p : Nat) (x : PeerDelay) : (s.setPeer p x).bridge = s.bridge := rfl
@[simp] theorem setPeer_fault (s : State) (p : Nat) (x : PeerDelay) : (s.setPeer p x).fault = s.fault := rfl
@[simp] theorem setPeer_islands (s : State) (p : Nat) (x : PeerDelay) : (s.setPeer p x).islands = s.islands := rfl
@[simp] theorem setPeer_ledger (s : State) (p : Nat) (x : PeerDelay) : (s.setPeer p x).ledger = s.ledger := rfl
@[simp] theorem setPeer_pimg (s : State) (p : Nat) (x : PeerDelay) : (s.setPeer p x).pimg = s.pimg := rfl
@[simp] theorem setPeer_inbox (s : State) (p : Nat) (x : PeerDelay) : (s.setPeer p x).inbox = s.inbox := rfl
@[simp] theorem setPeer_time (s : State) (p : Nat) (x : PeerDelay) :
    (s.setPeer p x).time = { s.time with pd := Tbl.put (fun _ => {}) s.time.pd p x } := rfl
@[simp] theorem setPeer_ringNet (s : State) (p : Nat) (x : PeerDelay) : (s.setPeer p x).ringNet = s.ringNet := rfl
@[simp] theorem setPeer_sched (s : State) (p : Nat) (x : PeerDelay) : (s.setPeer p x).sched = s.sched := rfl
@[simp] theorem setPeer_cans (s : State) (p : Nat) (x : PeerDelay) : (s.setPeer p x).cans = s.cans := rfl
@[simp] theorem setPeer_flasks (s : State) (p : Nat) (x : PeerDelay) : (s.setPeer p x).flasks = s.flasks := rfl
@[simp] theorem setPeer_lines (s : State) (p : Nat) (x : PeerDelay) : (s.setPeer p x).lines = s.lines := rfl
@[simp] theorem setPeer_banks (s : State) (p : Nat) (x : PeerDelay) : (s.setPeer p x).banks = s.banks := rfl
@[simp] theorem setPeer_power (s : State) (p : Nat) (x : PeerDelay) : (s.setPeer p x).power = s.power := rfl
@[simp] theorem setPeer_cruc (s : State) (p : Nat) (x : PeerDelay) : (s.setPeer p x).cruc = s.cruc := rfl
@[simp] theorem setPeer_usb (s : State) (p : Nat) (x : PeerDelay) : (s.setPeer p x).usb = s.usb := rfl
@[simp] theorem setPeer_pd (s : State) (p : Nat) (x : PeerDelay) : (s.setPeer p x).pd = s.pd := rfl
@[simp] theorem setPeer_sys (s : State) (p : Nat) (x : PeerDelay) : (s.setPeer p x).sys = s.sys := rfl
@[simp] theorem setPeer_tap (s : State) (p : Nat) (x : PeerDelay) : (s.setPeer p x).tap = s.tap := rfl
@[simp] theorem setPeer_upd (s : State) (p : Nat) (x : PeerDelay) : (s.setPeer p x).upd = s.upd := rfl

/-! ### setSyncWait -/

@[simp] theorem setSyncWait_variant (s : State) (p : Nat) (w : Option SyncWait) : (s.setSyncWait p w).variant = s.variant := rfl
@[simp] theorem setSyncWait_pending (s : State) (p : Nat) (w : Option SyncWait) : (s.setSyncWait p w).pending = s.pending := rfl
@[simp] theorem setSyncWait_regs (s : State) (p : Nat) (w : Option SyncWait) : (s.setSyncWait p w).regs = s.regs := rfl
@[simp] theorem setSyncWait_mem (s : State) (p : Nat) (w : Option SyncWait) : (s.setSyncWait p w).mem = s.mem := rfl
@[simp] theorem setSyncWait_memErr (s : State) (p : Nat) (w : Option SyncWait) : (s.setSyncWait p w).memErr = s.memErr := rfl
@[simp] theorem setSyncWait_uptime (s : State) (p : Nat) (w : Option SyncWait) : (s.setSyncWait p w).uptime = s.uptime := rfl
@[simp] theorem setSyncWait_ring (s : State) (p : Nat) (w : Option SyncWait) : (s.setSyncWait p w).ring = s.ring := rfl
@[simp] theorem setSyncWait_ringFrac (s : State) (p : Nat) (w : Option SyncWait) : (s.setSyncWait p w).ringFrac = s.ringFrac := rfl
@[simp] theorem setSyncWait_outs (s : State) (p : Nat) (w : Option SyncWait) : (s.setSyncWait p w).outs = s.outs := rfl
@[simp] theorem setSyncWait_halfs (s : State) (p : Nat) (w : Option SyncWait) : (s.setSyncWait p w).halfs = s.halfs := rfl
@[simp] theorem setSyncWait_freeCount (s : State) (p : Nat) (w : Option SyncWait) :
    (s.setSyncWait p w).freeCount = s.freeCount := rfl
@[simp] theorem setSyncWait_replicas (s : State) (p : Nat) (w : Option SyncWait) : (s.setSyncWait p w).replicas = s.replicas := rfl
@[simp] theorem setSyncWait_sprue (s : State) (p : Nat) (w : Option SyncWait) : (s.setSyncWait p w).sprue = s.sprue := rfl
@[simp] theorem setSyncWait_fab (s : State) (p : Nat) (w : Option SyncWait) : (s.setSyncWait p w).fab = s.fab := rfl
@[simp] theorem setSyncWait_cmd (s : State) (p : Nat) (w : Option SyncWait) : (s.setSyncWait p w).cmd = s.cmd := rfl
@[simp] theorem setSyncWait_bridge (s : State) (p : Nat) (w : Option SyncWait) : (s.setSyncWait p w).bridge = s.bridge := rfl
@[simp] theorem setSyncWait_fault (s : State) (p : Nat) (w : Option SyncWait) : (s.setSyncWait p w).fault = s.fault := rfl
@[simp] theorem setSyncWait_islands (s : State) (p : Nat) (w : Option SyncWait) : (s.setSyncWait p w).islands = s.islands := rfl
@[simp] theorem setSyncWait_ledger (s : State) (p : Nat) (w : Option SyncWait) : (s.setSyncWait p w).ledger = s.ledger := rfl
@[simp] theorem setSyncWait_pimg (s : State) (p : Nat) (w : Option SyncWait) : (s.setSyncWait p w).pimg = s.pimg := rfl
@[simp] theorem setSyncWait_inbox (s : State) (p : Nat) (w : Option SyncWait) : (s.setSyncWait p w).inbox = s.inbox := rfl
@[simp] theorem setSyncWait_time (s : State) (p : Nat) (w : Option SyncWait) :
    (s.setSyncWait p w).time = { s.time with syncWait := Tbl.put (fun _ => none) s.time.syncWait p w } := rfl
@[simp] theorem setSyncWait_ringNet (s : State) (p : Nat) (w : Option SyncWait) : (s.setSyncWait p w).ringNet = s.ringNet := rfl
@[simp] theorem setSyncWait_sched (s : State) (p : Nat) (w : Option SyncWait) : (s.setSyncWait p w).sched = s.sched := rfl
@[simp] theorem setSyncWait_cans (s : State) (p : Nat) (w : Option SyncWait) : (s.setSyncWait p w).cans = s.cans := rfl
@[simp] theorem setSyncWait_flasks (s : State) (p : Nat) (w : Option SyncWait) : (s.setSyncWait p w).flasks = s.flasks := rfl
@[simp] theorem setSyncWait_lines (s : State) (p : Nat) (w : Option SyncWait) : (s.setSyncWait p w).lines = s.lines := rfl
@[simp] theorem setSyncWait_banks (s : State) (p : Nat) (w : Option SyncWait) : (s.setSyncWait p w).banks = s.banks := rfl
@[simp] theorem setSyncWait_power (s : State) (p : Nat) (w : Option SyncWait) : (s.setSyncWait p w).power = s.power := rfl
@[simp] theorem setSyncWait_cruc (s : State) (p : Nat) (w : Option SyncWait) : (s.setSyncWait p w).cruc = s.cruc := rfl
@[simp] theorem setSyncWait_usb (s : State) (p : Nat) (w : Option SyncWait) : (s.setSyncWait p w).usb = s.usb := rfl
@[simp] theorem setSyncWait_pd (s : State) (p : Nat) (w : Option SyncWait) : (s.setSyncWait p w).pd = s.pd := rfl
@[simp] theorem setSyncWait_sys (s : State) (p : Nat) (w : Option SyncWait) : (s.setSyncWait p w).sys = s.sys := rfl
@[simp] theorem setSyncWait_tap (s : State) (p : Nat) (w : Option SyncWait) : (s.setSyncWait p w).tap = s.tap := rfl
@[simp] theorem setSyncWait_upd (s : State) (p : Nat) (w : Option SyncWait) : (s.setSyncWait p w).upd = s.upd := rfl

/-! ### setExpected -/

@[simp] theorem setExpected_variant (s : State) (k n : Nat) : (s.setExpected k n).variant = s.variant := rfl
@[simp] theorem setExpected_pending (s : State) (k n : Nat) : (s.setExpected k n).pending = s.pending := rfl
@[simp] theorem setExpected_regs (s : State) (k n : Nat) : (s.setExpected k n).regs = s.regs := rfl
@[simp] theorem setExpected_mem (s : State) (k n : Nat) : (s.setExpected k n).mem = s.mem := rfl
@[simp] theorem setExpected_memErr (s : State) (k n : Nat) : (s.setExpected k n).memErr = s.memErr := rfl
@[simp] theorem setExpected_uptime (s : State) (k n : Nat) : (s.setExpected k n).uptime = s.uptime := rfl
@[simp] theorem setExpected_ring (s : State) (k n : Nat) : (s.setExpected k n).ring = s.ring := rfl
@[simp] theorem setExpected_ringFrac (s : State) (k n : Nat) : (s.setExpected k n).ringFrac = s.ringFrac := rfl
@[simp] theorem setExpected_outs (s : State) (k n : Nat) : (s.setExpected k n).outs = s.outs := rfl
@[simp] theorem setExpected_halfs (s : State) (k n : Nat) : (s.setExpected k n).halfs = s.halfs := rfl
@[simp] theorem setExpected_freeCount (s : State) (k n : Nat) : (s.setExpected k n).freeCount = s.freeCount := rfl
@[simp] theorem setExpected_replicas (s : State) (k n : Nat) : (s.setExpected k n).replicas = s.replicas := rfl
@[simp] theorem setExpected_sprue (s : State) (k n : Nat) : (s.setExpected k n).sprue = s.sprue := rfl
@[simp] theorem setExpected_fab (s : State) (k n : Nat) :
    (s.setExpected k n).fab = { s.fab with rxSeq := Tbl.put (fun _ => 65536) s.fab.rxSeq k n } := rfl
@[simp] theorem setExpected_cmd (s : State) (k n : Nat) : (s.setExpected k n).cmd = s.cmd := rfl
@[simp] theorem setExpected_bridge (s : State) (k n : Nat) : (s.setExpected k n).bridge = s.bridge := rfl
@[simp] theorem setExpected_fault (s : State) (k n : Nat) : (s.setExpected k n).fault = s.fault := rfl
@[simp] theorem setExpected_islands (s : State) (k n : Nat) : (s.setExpected k n).islands = s.islands := rfl
@[simp] theorem setExpected_ledger (s : State) (k n : Nat) : (s.setExpected k n).ledger = s.ledger := rfl
@[simp] theorem setExpected_pimg (s : State) (k n : Nat) : (s.setExpected k n).pimg = s.pimg := rfl
@[simp] theorem setExpected_inbox (s : State) (k n : Nat) : (s.setExpected k n).inbox = s.inbox := rfl
@[simp] theorem setExpected_time (s : State) (k n : Nat) : (s.setExpected k n).time = s.time := rfl
@[simp] theorem setExpected_ringNet (s : State) (k n : Nat) : (s.setExpected k n).ringNet = s.ringNet := rfl
@[simp] theorem setExpected_sched (s : State) (k n : Nat) : (s.setExpected k n).sched = s.sched := rfl
@[simp] theorem setExpected_cans (s : State) (k n : Nat) : (s.setExpected k n).cans = s.cans := rfl
@[simp] theorem setExpected_flasks (s : State) (k n : Nat) : (s.setExpected k n).flasks = s.flasks := rfl
@[simp] theorem setExpected_lines (s : State) (k n : Nat) : (s.setExpected k n).lines = s.lines := rfl
@[simp] theorem setExpected_banks (s : State) (k n : Nat) : (s.setExpected k n).banks = s.banks := rfl
@[simp] theorem setExpected_power (s : State) (k n : Nat) : (s.setExpected k n).power = s.power := rfl
@[simp] theorem setExpected_cruc (s : State) (k n : Nat) : (s.setExpected k n).cruc = s.cruc := rfl
@[simp] theorem setExpected_usb (s : State) (k n : Nat) : (s.setExpected k n).usb = s.usb := rfl
@[simp] theorem setExpected_pd (s : State) (k n : Nat) : (s.setExpected k n).pd = s.pd := rfl
@[simp] theorem setExpected_sys (s : State) (k n : Nat) : (s.setExpected k n).sys = s.sys := rfl
@[simp] theorem setExpected_tap (s : State) (k n : Nat) : (s.setExpected k n).tap = s.tap := rfl
@[simp] theorem setExpected_upd (s : State) (k n : Nat) : (s.setExpected k n).upd = s.upd := rfl

/-! ### setUport -/

@[simp] theorem setUport_variant (s : State) (p : Nat) (x : UsbPort) : (s.setUport p x).variant = s.variant := rfl
@[simp] theorem setUport_pending (s : State) (p : Nat) (x : UsbPort) : (s.setUport p x).pending = s.pending := rfl
@[simp] theorem setUport_regs (s : State) (p : Nat) (x : UsbPort) : (s.setUport p x).regs = s.regs := rfl
@[simp] theorem setUport_mem (s : State) (p : Nat) (x : UsbPort) : (s.setUport p x).mem = s.mem := rfl
@[simp] theorem setUport_memErr (s : State) (p : Nat) (x : UsbPort) : (s.setUport p x).memErr = s.memErr := rfl
@[simp] theorem setUport_uptime (s : State) (p : Nat) (x : UsbPort) : (s.setUport p x).uptime = s.uptime := rfl
@[simp] theorem setUport_ring (s : State) (p : Nat) (x : UsbPort) : (s.setUport p x).ring = s.ring := rfl
@[simp] theorem setUport_ringFrac (s : State) (p : Nat) (x : UsbPort) : (s.setUport p x).ringFrac = s.ringFrac := rfl
@[simp] theorem setUport_outs (s : State) (p : Nat) (x : UsbPort) : (s.setUport p x).outs = s.outs := rfl
@[simp] theorem setUport_halfs (s : State) (p : Nat) (x : UsbPort) : (s.setUport p x).halfs = s.halfs := rfl
@[simp] theorem setUport_freeCount (s : State) (p : Nat) (x : UsbPort) : (s.setUport p x).freeCount = s.freeCount := rfl
@[simp] theorem setUport_replicas (s : State) (p : Nat) (x : UsbPort) : (s.setUport p x).replicas = s.replicas := rfl
@[simp] theorem setUport_sprue (s : State) (p : Nat) (x : UsbPort) : (s.setUport p x).sprue = s.sprue := rfl
@[simp] theorem setUport_fab (s : State) (p : Nat) (x : UsbPort) : (s.setUport p x).fab = s.fab := rfl
@[simp] theorem setUport_cmd (s : State) (p : Nat) (x : UsbPort) : (s.setUport p x).cmd = s.cmd := rfl
@[simp] theorem setUport_bridge (s : State) (p : Nat) (x : UsbPort) : (s.setUport p x).bridge = s.bridge := rfl
@[simp] theorem setUport_fault (s : State) (p : Nat) (x : UsbPort) : (s.setUport p x).fault = s.fault := rfl
@[simp] theorem setUport_islands (s : State) (p : Nat) (x : UsbPort) : (s.setUport p x).islands = s.islands := rfl
@[simp] theorem setUport_ledger (s : State) (p : Nat) (x : UsbPort) : (s.setUport p x).ledger = s.ledger := rfl
@[simp] theorem setUport_pimg (s : State) (p : Nat) (x : UsbPort) : (s.setUport p x).pimg = s.pimg := rfl
@[simp] theorem setUport_inbox (s : State) (p : Nat) (x : UsbPort) : (s.setUport p x).inbox = s.inbox := rfl
@[simp] theorem setUport_time (s : State) (p : Nat) (x : UsbPort) : (s.setUport p x).time = s.time := rfl
@[simp] theorem setUport_ringNet (s : State) (p : Nat) (x : UsbPort) : (s.setUport p x).ringNet = s.ringNet := rfl
@[simp] theorem setUport_sched (s : State) (p : Nat) (x : UsbPort) : (s.setUport p x).sched = s.sched := rfl
@[simp] theorem setUport_cans (s : State) (p : Nat) (x : UsbPort) : (s.setUport p x).cans = s.cans := rfl
@[simp] theorem setUport_flasks (s : State) (p : Nat) (x : UsbPort) : (s.setUport p x).flasks = s.flasks := rfl
@[simp] theorem setUport_lines (s : State) (p : Nat) (x : UsbPort) : (s.setUport p x).lines = s.lines := rfl
@[simp] theorem setUport_banks (s : State) (p : Nat) (x : UsbPort) : (s.setUport p x).banks = s.banks := rfl
@[simp] theorem setUport_power (s : State) (p : Nat) (x : UsbPort) : (s.setUport p x).power = s.power := rfl
@[simp] theorem setUport_cruc (s : State) (p : Nat) (x : UsbPort) : (s.setUport p x).cruc = s.cruc := rfl
@[simp] theorem setUport_usb (s : State) (p : Nat) (x : UsbPort) :
    (s.setUport p x).usb = { s.usb with ports := Tbl.put (fun _ => {}) s.usb.ports p x } := rfl
@[simp] theorem setUport_pd (s : State) (p : Nat) (x : UsbPort) : (s.setUport p x).pd = s.pd := rfl
@[simp] theorem setUport_sys (s : State) (p : Nat) (x : UsbPort) : (s.setUport p x).sys = s.sys := rfl
@[simp] theorem setUport_tap (s : State) (p : Nat) (x : UsbPort) : (s.setUport p x).tap = s.tap := rfl
@[simp] theorem setUport_upd (s : State) (p : Nat) (x : UsbPort) : (s.setUport p x).upd = s.upd := rfl

/-! ### A unit read back -/

@[simp] theorem setQueue_queue (s : State) (q : Nat) (x : SprueQ) : (s.setQueue q x).queue q = x := by simp [State.queue, State.setQueue]
@[simp] theorem setSlot_slot (s : State) (i : Nat) (x : FabSlot) : (s.setSlot i x).slot i = x := by simp [State.slot, State.setSlot]
@[simp] theorem setCan_can (s : State) (n : Nat) (x : CanUnit) : (s.setCan n x).can n = x := by simp [State.can, State.setCan]
@[simp] theorem setFlask_flask (s : State) (f : Nat) (x : FlaskUnit) : (s.setFlask f x).flask f = x := by simp [State.flask, State.setFlask]
@[simp] theorem setLine_line (s : State) (j : Nat) (x : DioLine) : (s.setLine j x).line j = x := by simp [State.line, State.setLine]
@[simp] theorem setBank_bank (s : State) (b : Nat) (x : DioBank) : (s.setBank b x).bank b = x := by simp [State.bank, State.setBank]
@[simp] theorem setPch_pch (s : State) (c : Nat) (x : PchUnit) : (s.setPch c x).pch c = x := by simp [State.pch, State.setPch]
@[simp] theorem setDie_die (s : State) (d : Nat) (x : DieUnit) : (s.setDie d x).die d = x := by simp [State.die, State.setDie]
@[simp] theorem setEport_eport (s : State) (p : Nat) (x : EgressPort) : (s.setEport p x).eport p = x := by simp [State.eport, State.setEport]
@[simp] theorem setMac_mac (s : State) (p : Nat) (x : MacBlock) : (s.setMac p x).mac p = x := by simp [State.mac, State.setMac]
@[simp] theorem setRport_rport (s : State) (p : Nat) (x : RingPort) : (s.setRport p x).rport p = x := by simp [State.rport, State.setRport]
@[simp] theorem setCq_cq (s : State) (c : Nat) (q : List QFrame) : (s.setCq c q).cq c = q := by simp [State.cq, State.setCq]
@[simp] theorem setPeer_peer (s : State) (p : Nat) (x : PeerDelay) : (s.setPeer p x).peer p = x := by simp [State.peer, State.setPeer]
@[simp] theorem setSyncWait_at (s : State) (p : Nat) (w : Option SyncWait) : (s.setSyncWait p w).syncWaitAt p = w := by
  simp [State.syncWaitAt, State.setSyncWait]
@[simp] theorem setUport_uport (s : State) (p : Nat) (x : UsbPort) : (s.setUport p x).uport p = x := by simp [State.uport, State.setUport]

end Sys2Proof.Machine
end

