-- ==== Sys2Proof/WellFormed.lean ====
section
/-! DEFINITION. Which operands a command can carry at all: sizes of frames, packets and words, numbers within their
fields. What the rules judge (a bad frame, a wrong length in a packet, a reserved value) is not decided here: the
machine judges it. -/

namespace Sys2Proof

/-- A tag space and a tag (R103): only the fabric transport tells nodes and initiator codes apart. -/
def CmdKey.ok (k : CmdKey) : Bool :=
  decide (k.tag < 2 ^ 16) && decide (k.node < 256) && decide (k.init < 16)
    && (k.transport == .fabric || (k.node == 0 && k.init == 0))

/-- Bytes of a frame from its destination address to the last byte before the FCS, without an HSR tag (R160, R164). -/
def frameBytesOk (bs : List Byte) : Bool := decide (60 ≤ bs.length ∧ bs.length ≤ 9216)

/-- Bytes between the EtherType and the FCS of a fabric frame: 64 bytes at the least, the HSR tag of a ring frame counted (R49,
R160). -/
def FabRx.ok (f : FabRx) : Bool := decide ((if f.port.val < 2 then 40 else 46) ≤ f.bytes.length ∧ f.bytes.length ≤ 9202)

/-- 8-byte words of the store that show an upset, each named once (R70). -/
def upsetsOk (l : List (Nat × Bool)) : Bool :=
  (l.all fun x => decide (x.1 < 2 ^ 23)) && decide (l.map Prod.fst).Nodup

/-- A frame or mPacket at a MAC (R161, R168). -/
def MacRx.ok (m : MacRx) : Bool :=
  decide (1 ≤ m.bytes.length ∧ m.bytes.length ≤ 16384 ∧ m.smd < 256 ∧ m.frag < 256 ∧ m.check < 3)

/-- A network-time message (R218): at least its header, and a full stamp (R9). -/
def PtpRx.ok (m : PtpRx) : Bool :=
  decide (34 ≤ m.bytes.length ∧ m.bytes.length ≤ 1500 ∧ m.ingress < 2 ^ 48 * 1000000000)

/-- An xSPI transaction (Table 10.2): the compare and swap values of a CAS have one length. -/
def XspiTx.ok (t : XspiTx) : Bool :=
  decide (t.data.length ≤ 65535 ∧ t.swap.length ≤ t.data.length ∧ -1 ≤ t.clocked ∧ t.clocked ≤ 65535)

/-- A CAN frame (R313, Tables 11.5 and 11.6): an identifier of its length, data of its format, no data in a remote
frame. -/
def CanRx.ok (f : CanRx) : Bool :=
  (f.ide || decide (f.id.toNat < 2 ^ 11))
    && decide (f.data.length ≤ (if f.fmt = 0 then 8 else if f.fmt = 1 then 64 else 2048))
    && (f.fmt != 2 || (!f.ide && decide (1 ≤ f.data.length)))
    && (!f.rtr || (f.fmt == 0 && f.data.isEmpty))

/-- A split transaction (R407): a result no longer than the transfer asked for. -/
def SplitTx.ok (x : SplitTx) : Bool :=
  match x.result with | some d => decide (d.length ≤ x.len.toNat) | none => true

/-- Objects of a USB PD message (R434). -/
def PdRx.ok (m : PdRx) : Bool := decide (m.objs.length ≤ 7)

/-- A word of a lane (R458, Table 3.1: q32 is 16 bytes wide), shorter only at the end of a packet (R81). -/
def LaneWord.ok (w : LaneWord) : Bool :=
  decide (1 ≤ w.bytes.length ∧ w.bytes.length ≤ 16) && (w.eop || w.bytes.length == 16)

/-- What a boot meets (R504, Table 18.10): each failing unit once. -/
def BootEnv.ok (e : BootEnv) : Bool :=
  (e.fails.all fun x => decide (x.1 < 32 ∧ x.2 < 2 ^ 16)) && decide (e.fails.map Prod.fst).Nodup

/-- A word for Sprue queue `q` (R76, Table 3.1): as wide as the write side, shorter only at the end of a packet (R81); only
the voter writes q 32 (R75). -/
def sprueWordOk (q : Nat) (bs : List Byte) (eop : Bool) : Bool :=
  let w := (Machine.sprueShape q).1
  q != 32 && decide (1 ≤ bs.length ∧ bs.length ≤ w) && (eop || bs.length == w)

/-- The bytes of one transfer that arrives over USB (R419, R420): a transfer above 4,096 bytes is judged, so more may come. -/
def usbBytesOk (bs : List Byte) : Bool := decide (bs.length ≤ 65536)

/-- Whether a command's operands are ones it can carry. -/
def wellFormed : Instr → Bool
  | .registerWrite _ a _ => decide (a.toNat % 4 = 0)
  | .refclkLost _ _ => true
  | .timeReplicaAlign _ _ => true
  | .linkFrameSend _ _ => true
  | .pedieLinkTimeout _ => true
  | .pedieLinkLostExpire _ => true
  | .pedieLinkRestore _ => true
  | .safeStateRelease _ => true
  | .sprueWordWrite q bs eop _ => sprueWordOk q.val bs eop
  | .sprueWordRead _ _ => true
  | .spruePeckReturn _ => true
  | .sprueInjPar _ => true
  | .sprueMaxRst _ => true
  | .fabricWriteRx f => f.ok
  | .fabricReadRx f upsets => f.ok && upsetsOk upsets
  | .fabricCasRx f upsets => f.ok && upsetsOk upsets
  | .fabricRespRx f => f.ok
  | .fabricMessageRx f => f.ok
  | .fabUndeliveredReturn r => r.frame.ok
  | .fabSlotGrant => true
  | .fabReadTimeout _ => true
  | .slotQuarantineEnd _ => true
  | .fabReorderExpire => true
  | .cmdDoorbell _ => true
  | .cmdRplPop => true
  | .commandStart k => k.ok
  | .executionBoundExpire k => k.ok
  | .remoteTimeout k => k.ok
  | .remoteTagHoldEnd k => k.ok
  | .broadcastWindowClose k => k.ok
  | .sysNop k => k.ok
  | .sysIdentify k => k.ok
  | .sysAbort k => k.ok
  | .cmdLogRead k => k.ok
  | .sysUnfence k _ => k.ok
  | .sysWarmReset k => k.ok
  | .sysPowerState k => k.ok
  | .sysRegWriteList k => k.ok
  | .sysRegReadList k => k.ok
  | .storePartRead k => k.ok
  | .storePartDefault k => k.ok
  | .storePartition k => k.ok
  | .portBlockLock _ => true
  | .linkTimeout _ => true
  | .rateChangeApply _ => true
  | .helloSend _ => true
  | .helloRx _ hello => frameBytesOk hello
  | .helloMiss _ => true
  | .healHoldEnd _ => true
  | .ringBreakDeclare _ _ => true
  | .segmentNoticeApply => true
  | .splitPathHoldEnd _ => true
  | .ringFrameRx _ frame _ => frameBytesOk frame
  | .ddForget n => decide (n < 2 ^ 108)
  | .seqCounterFree n => decide (n < 2 ^ 60)
  | .foreignClear => true
  | .enumerationFrameRx frame => frameBytesOk frame
  | .enumerationBoundExpire => true
  | .nodeCfgFixedWrite _ => true
  | .supervisionSend => true
  | .supervisionRx _ frame => frameBytesOk frame
  | .ringMapExpire _ => true
  | .ringStatus k => k.ok
  | .ringEnumerate k => k.ok
  | .ringPortConfig k => k.ok
  | .ringLoopTest k _ _ _ _ => k.ok
  | .ringPortSet k => k.ok
  | .macFrameRx _ mf => mf.ok
  | .egressFrameStart _ => true
  | .egressFrameEnd _ => true
  | .mpacketPreempt _ => true
  | .verifyRx _ => true
  | .respondRx _ => true
  | .verifyTimeout _ => true
  | .pauseRx _ _ => true
  | .pauseTimerExpire _ => true
  | .pauseXoff _ => true
  | .pauseRefresh _ => true
  | .pauseXon _ => true
  | .lmacLinkChange _ _ => true
  | .lmacConfig k => k.ok
  | .statsRead k => k.ok
  | .txdPush _ _ _ => true
  | .descriptorJudge _ => true
  | .ctxCloseWrite _ => true
  | .gateEdge _ => true
  | .gateHoldAssert _ => true
  | .frameWindowExpire _ _ => true
  | .schedConfigChange _ => true
  | .swapLatch _ => true
  | .gclSwap _ => true
  | .streamOpen k => k.ok
  | .streamClose k => k.ok
  | .gclLoad k => k.ok
  | .streamSet k => k.ok
  | .meterSet k => k.ok
  | .syncRx _ m => m.ok
  | .followUpRx _ m => m.ok
  | .announceRx _ m => m.ok
  | .pdelayReqRx _ m => m.ok
  | .pdelayRespRx _ m => m.ok
  | .pdelaySend _ => true
  | .syncSend _ => true
  | .announceSend _ => true
  | .announceTimeout => true
  | .syncTimeout => true
  | .holdoverEnd => true
  | .slewDone => true
  | .timeAcceptJump => true
  | .tsqPop _ _ => true
  | .actionFire _ => true
  | .timeStatus k => k.ok
  | .timeRole k => k.ok
  | .timeSchedule k => k.ok
  | .timeCancel k => k.ok
  | .timeSet k => k.ok
  | .watermarkFrameSend _ => true
  | .ledgerFrameRx frame => frameBytesOk frame
  | .ledgerRelease => true
  | .sseqGapExpire _ => true
  | .pimgPublish _ => true
  | .imageFrameRx frame => frameBytesOk frame
  | .slotStale _ => true
  | .pimgMapSelect _ => true
  | .pimgMapCommit _ => true
  | .subscribe k => k.ok
  | .unsubscribe k => k.ok
  | .ledgerConfig k => k.ok
  | .pimgMap k => k.ok
  | .ledgerSet k => k.ok
  | .xspiRead t => t.ok
  | .xspiWrite t => t.ok
  | .xspiCas t => t.ok
  | .xspiStatus => true
  | .postedWriteIssue => true
  | .ladleFetchDone _ => true
  | .ladleDiscard _ => true
  | .bridgeStatus k => k.ok
  | .bridgeWindow k => k.ok
  | .salvageRead k => k.ok
  | .bridgeSet k => k.ok
  | .canFrameRx _ f => f.ok
  | .canTxComplete _ => true
  | .canArbLost _ => true
  | .canError _ e => decide (e.plus8 < 32)
  | .canRecoveryDone _ => true
  | .canIntegrationDone _ => true
  | .canCloseDone _ => true
  | .canTtInstant _ _ => true
  | .canSettleEnd _ => true
  | .canLagFall _ => true
  | .trefInstant _ => true
  | .canTxmapPeriod _ _ => true
  | .canEnOpen _ => true
  | .canEnClose _ => true
  | .canRecover _ => true
  | .canTxbSubmit _ _ => true
  | .canTxbCancel _ _ => true
  | .canFltCopy _ _ => true
  | .canTrefEnable _ => true
  | .canRxqPop _ _ => true
  | .canTxeqPop _ _ => true
  | .canOpen k => k.ok
  | .canClose k => k.ok
  | .canTx k => k.ok
  | .canCancel k => k.ok
  | .canFilterLoad k => k.ok
  | .canTimeMaster k => k.ok
  | .canStatus k => k.ok
  | .canPair k => k.ok
  | .canSetTiming k => k.ok
  | .canSetStore k => k.ok
  | .flaskGo _ _ _ => true
  | .flaskIf _ _ _ => true
  | .flaskLoop _ _ _ => true
  | .flaskSetk _ _ _ => true
  | .flaskHold _ _ _ => true
  | .flaskDrive _ _ _ => true
  | .flaskSend _ _ _ => true
  | .flaskTake _ _ _ => true
  | .flaskDraw _ _ _ => true
  | .flaskFeed _ _ _ => true
  | .flaskSeal _ _ _ => true
  | .flaskDrop _ _ _ => true
  | .flaskLoadImm _ _ _ => true
  | .flaskAlu _ _ _ => true
  | .flaskPins _ _ _ => true
  | .flaskStamp _ _ _ => true
  | .flaskAt _ _ _ => true
  | .flaskTally _ _ _ => true
  | .flaskGoi _ _ _ => true
  | .engineArmedStart _ => true
  | .engineStopTaken _ _ => true
  | .flaskGoStart _ _ => true
  | .flaskGoStop _ _ => true
  | .flaskTxqPush _ _ _ => true
  | .flaskRxqPop _ _ _ => true
  | .flaskTallyPost _ _ => true
  | .flaskTallyClr _ _ => true
  | .flaskPload _ _ => true
  | .patternLoadCommit _ => true
  | .flaskLoad k => k.ok
  | .flaskStart k => k.ok
  | .flaskStop k => k.ok
  | .flaskStatus k => k.ok
  | .flaskEngineSet k => k.ok
  | .dioCrossing _ _ => true
  | .dioFilterDecide _ => true
  | .dioLagFall _ => true
  | .dioOutSet _ _ _ => true
  | .dioOutClr _ _ _ => true
  | .dioOutTgl _ _ _ => true
  | .dioOutWrite _ _ _ => true
  | .dioReadbackMismatch _ => true
  | .dioSchedFire _ => true
  | .dioSchedGo _ _ => true
  | .pwmPeriodStart _ _ => true
  | .pwmOnEnd _ _ => true
  | .dioPwmCtrlWrite _ _ _ => true
  | .dioEvqPop _ _ => true
  | .dioConfig k => k.ok
  | .dioOutput k => k.ok
  | .dioSchedule k => k.ok
  | .dioPwm k => k.ok
  | .dioStatus k => k.ok
  | .dioSet k => k.ok
  | .feedSample _ => true
  | .feedBreakConfirm => true
  | .feedDeadTimeEnd => true
  | .feedBreakTimeout _ => true
  | .feedPimgPeriod => true
  | .feedPrioWrite _ => true
  | .presenceChange _ _ => true
  | .insertDelayEnd _ => true
  | .rampEnd _ _ => true
  | .rampTimeout _ _ => true
  | .gateOn _ _ => true
  | .gateRiseTimeout _ _ => true
  | .fastTrip _ _ => true
  | .slowOvercurrent _ _ => true
  | .fetStressLimit _ _ => true
  | .fetShortDetect _ _ => true
  | .fetShortClear _ _ => true
  | .retryTimeEnd _ => true
  | .retryCountClear _ => true
  | .measurementUpdate _ ms => decide (1 ≤ ms.length ∧ ms.length ≤ 100)
  | .pchPimgPeriod _ => true
  | .pchEnWrite _ _ _ => true
  | .pchOn k => k.ok
  | .pchOff k => k.ok
  | .pchConfig k => k.ok
  | .pchStatus k => k.ok
  | .pchRetryReset k => k.ok
  | .feedConfig k => k.ok
  | .feedStatus k => k.ok
  | .pchSet k => k.ok
  | .usbVbusChange _ => true
  | .setPortReset _ => true
  | .portResetDone _ _ => true
  | .setPortPower _ => true
  | .clearPortPower _ => true
  | .portPowerGood _ => true
  | .portOcFilterExpire _ _ => true
  | .setPortSuspend _ => true
  | .clearPortSuspend _ => true
  | .portResumeDone _ => true
  | .hubSuspend => true
  | .deviceWake _ => true
  | .hostResume => true
  | .mgmtRemoteWake => true
  | .setPortTest _ _ => true
  | .setTestMode _ => true
  | .splitStart _ x => x.ok
  | .completeSplit _ x => x.ok
  | .ttAgeOut _ _ => true
  | .clearTtBuffer _ x => x.ok
  | .resetTt _ => true
  | .getTtState _ => true
  | .setupPacket _ => true
  | .setConfiguration _ => true
  | .setInterface _ => true
  | .setEndpointHalt _ => true
  | .clearEndpointHalt _ => true
  | .busReset _ _ => true
  | .usbMgmtConnect => true
  | .usbMgmtDisconnect => true
  | .ep1OutTransfer _ bytes => usbBytesOk bytes
  | .ep1InTransfer _ => true
  | .ep2OutTransfer _ bytes => usbBytesOk bytes
  | .ep2InTransfer _ => true
  | .ep3InTransfer _ => true
  | .eventReportQueue => true
  | .ep4InTransfer => true
  | .usbStatus k => k.ok
  | .usbPortPower k => k.ok
  | .usbTestMode k => k.ok
  | .usbSet k => k.ok
  | .typecAttach _ _ => true
  | .drpToggle _ => true
  | .typecDetach _ _ => true
  | .vbusDischargeDone _ => true
  | .transitionStart _ => true
  | .vsetTrim _ _ => true
  | .transitionTimeout _ _ _ => true
  | .isnsSample _ _ _ => true
  | .sourceCapabilitiesRx _ m => m.ok
  | .requestRx _ m => m.ok
  | .eprModeRx _ m => m.ok
  | .eprKeepaliveRx _ => true
  | .ppsRequestSend _ => true
  | .eprKeepaliveSend _ => true
  | .keepaliveTimeout _ => true
  | .hardResetRx _ => true
  | .softResetRx _ => true
  | .prSwapRx _ => true
  | .drSwapRx _ => true
  | .vconnSwapRx _ => true
  | .frsSignalRx _ => true
  | .frsSourceLoss => true
  | .discoverIdentityRx _ m => m.ok
  | .policyWdogExpire => true
  | .pdStatus k => k.ok
  | .pdRequest k => k.ok
  | .pdSwap k => k.ok
  | .pdPolicyLoad k => k.ok
  | .pdSet k => k.ok
  | .safetyInput => true
  | .safetyTick => true
  | .safeConfirm _ => true
  | .outputTransaction t => [t.w0, t.w1, t.w2].all fun x => x.all LaneWord.ok
  | .voteHoldEnd => true
  | .assaySlice _ _ _ => true
  | .dualAssayDone _ _ _ => true
  | .laneResyncDone _ => true
  | .inputTestPulse => true
  | .inputTestCheck => true
  | .tripTest _ _ _ => true
  | .safetyResume => true
  | .safeStatus k => k.ok
  | .safeArm k => k.ok
  | .safeDisarm k => k.ok
  | .safeEmergency k => k.ok
  | .laneRejoin k _ => k.ok
  | .assayRun k _ => k.ok
  | .safeSet k => k.ok
  | .faultCollect => true
  | .faultPop _ => true
  | .faultForceKey _ => true
  | .faultForce _ => true
  | .islandWatchdog _ _ => true
  | .islandRestart _ => true
  | .faultRead k => k.ok
  | .faultAck k => k.ok
  | .faultInject k => k.ok
  | .faultSet k => k.ok
  | .powerOn e => e.ok
  | .bootScriptPacket => true
  | .readySet => true
  | .brownout => true
  | .warmReset e => e.ok
  | .islandGate _ => true
  | .islandWake _ => true
  | .standbyEntry => true
  | .standbyWake _ => true
  | .wakeSupplyReady e => e.ok
  | .aonTimeWrite => true
  | .updReserveWriteDone => true
  | .updActivation => true
  | .copyBlock => true
  | .calibMtpWriteDone => true
  | .updStage k => k.ok
  | .updVerify k => k.ok
  | .updActivateAt k => k.ok
  | .updStatus k => k.ok
  | .bundleStage k => k.ok
  | .calibRead k => k.ok
  | .calibWrite k => k.ok
  | .ownerLock k => k.ok
  | .tapBypass _ => true
  | .tapIdcode => true
  | .tapSamplePreload _ => true
  | .tapExtest => true
  | .tapClamp => true
  | .tapHighz => true
  | .canStartOfFrame _ => true
  | .portConnectChange _ _ _ => true
  | .subscriptionLagging _ => true
  | .acceptRx _ _ => true
  | .psRdyRx _ => true
  | .goodcrcTimeout _ => true
  | .pedieSupplyRise _ => true
  | .temperatureReading _ _ => true

end Sys2Proof
end

