-- ==== Sys2Proof/Tests/Slice0.lean ====
section
/-! SUPPORT. Tests: what WellFormed refuses, words of the spec's own examples, and for every statement with hypotheses a state
and operands that meet them. -/

namespace Sys2Proof.Tests

set_option Elab.async false

open Sys2Proof Sys2Proof.Machine

/-! ### Small states -/

/-- A hub 100 s after power-on: the main die runs and has its clock. -/
def up : State :=
  { (State.reset.set aonBase AON_STAT_REFCLK_OK 1) with
    uptime := 100000000000, ring := 100000000000, sys := { up := true, pwron := true, fresh := false } }

/-- The same hub in HELD. -/
def held : State := { up with fault := { held := true } }

/-- The same hub with node ID 7. -/
def node : State := (up.set fabBase FAB_NODE_NODE_ID 7).set fabBase FAB_NODE_VALID 1

/-- The key of the tests' commands. -/
def key : CmdKey := { transport := .xspi, node := 0, init := 0, tag := 1 }

/-- A packet: opcode, unit selector and parameters (Table 4.2); its CRC plays no part in the tests that use it. -/
def packet (op unit : Nat) (ps : List Byte) : List Byte :=
  leBytes 2 op ++ leBytes 2 1 ++ leBytes 2 ps.length ++ [0#8, 0#8] ++ leBytes 4 unit ++ leBytes 4 0 ++ ps

/-- An outstanding command in a phase. -/
def entry (op unit : Nat) (ps : List Byte) (ph : CmdPhase) : CmdEntry :=
  { key := key, order := 0, packet := packet op unit ps, stamp := 0, since := 0, phase := ph }

/-- A state with one command that executes. -/
def cmdOn (s : State) (op unit : Nat) (ps : List Byte) (ph : CmdPhase := .executing 0 none) : State :=
  s.setEntries [entry op unit ps ph]

/-- Zero bytes. -/
def zeros (n : Nat) : List Byte := List.replicate n 0#8

/-! ### What WellFormed refuses, and words of the spec -/

theorem test_wf_refuses_register_address :
    wellFormed (.registerWrite .xspi 0x100002 0) = false ∧ wellFormed (.registerWrite .xspi 0x100004 0) = true := by decide

theorem test_wf_refuses_command_key :
    wellFormed (.sysNop { key with tag := 65536 }) = false ∧ wellFormed (.sysNop { key with node := 5 }) = false
    ∧ wellFormed (.sysNop { key with transport := .fabric, init := 16 }) = false
    ∧ wellFormed (.sysNop { key with transport := .fabric, node := 5 }) = true := by decide

/-- A fabric frame of so many bytes. -/
def fabOf (n : Nat) : FabRx := { port := 0, mac := 0, bytes := zeros n }

theorem test_wf_refuses_fabric_frame : wellFormed (.fabricWriteRx (fabOf 39)) = false ∧ wellFormed (.fabricWriteRx (fabOf 40)) = true
    ∧ wellFormed (.fabricWriteRx { fabOf 45 with port := 2 }) = false := by
  decide +kernel

theorem test_wf_refuses_upsets :
    wellFormed (.fabricReadRx (fabOf 46) [(2 ^ 23, true)]) = false ∧ wellFormed (.fabricReadRx (fabOf 46) [(5, true), (5, false)]) = false
    ∧ wellFormed (.fabricReadRx (fabOf 46) [(5, true)]) = true := by decide +kernel

theorem test_wf_refuses_frame : wellFormed (.helloRx 0 (zeros 59)) = false ∧ wellFormed (.helloRx 0 (zeros 60)) = true := by decide +kernel

theorem test_wf_refuses_mpacket :
    wellFormed (.macFrameRx 0 { bytes := [], smd := 0xD5, frag := 0, check := 0 }) = false
    ∧ wellFormed (.macFrameRx 0 { bytes := [1#8], smd := 256, frag := 0, check := 0 }) = false := by decide

theorem test_wf_refuses_time_message :
    wellFormed (.syncRx 0 { bytes := zeros 33, ingress := 0 }) = false
    ∧ wellFormed (.syncRx 0 { bytes := zeros 34, ingress := 2 ^ 48 * 1000000000 }) = false := by decide +kernel

theorem test_wf_refuses_xspi :
    wellFormed (.xspiCas { opcodeOk := true, addr := 0, len := 8, data := zeros 4, swap := zeros 5, clocked := 0 }) = false := by decide

/-- A CAN frame: identifier, IDE, format, remote bit and data. -/
def canOf (id : BitVec 29) (ide : Bool) (fmt : Fin 3) (rtr : Bool) (data : List Byte) : CanRx :=
  { id := id, ide := ide, fmt := fmt, rtr := rtr, brs := false, esi := false, dlc := 0, data := data, sdt := 0, vcid := 0, sec := false
    af := 0, age := 0 }

theorem test_wf_refuses_can_frame :
    wellFormed (.canFrameRx 0 (canOf 2048 false 0 false [])) = false ∧ wellFormed (.canFrameRx 0 (canOf 5 false 0 false (zeros 9))) = false
    ∧ wellFormed (.canFrameRx 0 (canOf 5 true 2 false [1#8])) = false ∧ wellFormed (.canFrameRx 0 (canOf 5 false 0 true [1#8])) = false
    ∧ wellFormed (.canFrameRx 0 (canOf 2048 true 0 false (zeros 8))) = true := by decide

theorem test_wf_refuses_can_error : wellFormed (.canError 0 { kind := 0, plus8 := 32, exempt := false }) = false := by decide

theorem test_wf_refuses_split :
    wellFormed (.splitStart 0 { periodic := true, ep := 0, len := 1, result := some (zeros 2) }) = false := by decide

theorem test_wf_refuses_pd_message : wellFormed (.requestRx 0 { objs := List.replicate 8 0#32 }) = false := by decide

theorem test_wf_refuses_lane_word :
    wellFormed (.outputTransaction { w0 := some { bytes := zeros 17, eop := true }, w1 := none, w2 := none }) = false := by decide

theorem test_wf_refuses_boot :
    wellFormed (.powerOn { cold := true, fails := [(32, 0)], vbus := false }) = false
    ∧ wellFormed (.powerOn { cold := true, fails := [(3, 1), (3, 2)], vbus := false }) = false := by decide

theorem test_wf_refuses_sprue_word :
    wellFormed (.sprueWordWrite 0 [] true false) = false ∧ wellFormed (.sprueWordWrite 0 (zeros 129) true false) = false := by decide +kernel

theorem test_wf_refuses_usb_bytes : wellFormed (.ep1OutTransfer false (zeros 65537)) = false := by
  have h : (zeros 65537).length = 65537 := List.length_replicate
  change usbBytesOk (zeros 65537) = false
  unfold usbBytesOk
  rw [h]
  decide

theorem test_wf_refuses_key_numbers : wellFormed (.ddForget (2 ^ 108)) = false ∧ wellFormed (.seqCounterFree (2 ^ 60)) = false := by decide +kernel

theorem test_wf_refuses_samples : wellFormed (.measurementUpdate 0 []) = false := by decide

/-- The check value of R95, over the ASCII bytes "123456789". -/
theorem test_crc_check_value : crc32c ([0x31, 0x32, 0x33, 0x34, 0x35, 0x36, 0x37, 0x38, 0x39].map fun x => BitVec.ofNat 8 x) = 0xE3069283 := by
  decide +kernel

/-- The example of FIPS 180-4 for SHA-256: the three bytes "abc". -/
theorem test_sha256_abc :
    sha256 [0x61#8, 0x62#8, 0x63#8] = 0xba7816bf8f01cfea414140de5dae2223b00361a396177a9cb410ff61f20015ad := by decide +kernel

/-- With no command waiting the hub idles for one tick (the model's choice, log entry 2). -/
theorem test_idle_tick : step State.reset = .next State.reset.idle ∧ State.reset.idle.uptime = 2 := ⟨rfl, by decide +kernel⟩

/-- A fabric address of R41: node 47, space 0x01, offset 0x0040_0000. -/
theorem test_fabric_address : fabAddr 47 1 0x400000 = 0x2F0100400000 := by decide

/-! ### Witnesses: chapters 1 and 3 -/

theorem test_up_runs : up.Live ∧ up.Clocked ∧ up.Calm ∧ up.Inv := by
  unfold State.Live State.Clocked State.Calm State.Inv; decide +kernel

/-- A register word that is unmapped, absent, fenced, refused, waiting, taken. -/
theorem test_meets_RegisterWriteTakes :
    up.writeStatus 0 0xF00000 4 (whoRing .rom) = 0 ∧ regMapped 0xF00000 = false
    ∧ regMapped 0x13F000 = true ∧ ({ up with variant := .axh7232 } : State).regPresent 0x13F000 = false
    ∧ regMapped 0x100000 = true ∧ up.regPresent 0x100000 = true ∧ (up.set 0 SYS_FENCE_CAN_ISL 1).regFenced 0x100000 = true
    ∧ regMapped 0x8000 = true ∧ up.regFenced 0x8000 = false ∧ mailWindow 0x8000 = true ∧ whoCode .usb ≠ 0
    ∧ mailWindow 0x100000 = false ∧ (up.withSys fun x => { x with gated := [4] }).regGated 0x100000 = true
    ∧ whoCode .xspi < 2 ∧ regIsland 0x100000 = some 4 ∧ up.regGated 0x100000 = false := by decide +kernel

theorem test_meets_ClockAndLinkRows :
    up.sys.up = true ∧ up.hasReplica 2 = false ∧ up.hasReplica 4 = true ∧ -1 ≤ (1 : BitVec 32).toInt ∧ (1 : BitVec 32).toInt ≤ 1 ∧ (-2 : BitVec 32).toInt < -1 ∧ (up.replica 4).fails < 2
    ∧ 2 ≤ ((({ up with replicas := Tbl.put (fun _ => {}) up.replicas 4 { fails := 2 } } : State)).replica 4).fails
    ∧ up.unitPresent (.pedie 0) = true
    ∧ (let s := up.setDie 0 { powered := true }
       (s.die 0).powered = true ∧ (s.die 0).gap = false ∧ s.sys.standby = false ∧ (s.die 0).frameAt + 8000 ≤ s.uptime)
    ∧ (let s := up.setDie 0 { powered := true, gap := true }
       (s.die 0).powered = true ∧ (s.die 0).gap = true ∧ (s.die 0).frameAt + 1000000 ≤ s.uptime ∧ s.fenced (.pedie 0) = false)
    ∧ (let s := up.setDie 0 { powered := true, latch := true }
       (s.die 0).powered = true ∧ (s.die 0).latch = true ∧ (s.die 0).gap = false ∧ s.fenced (.pedie 0) = false ∧ (s.die 0).backAt + 10000000 ≤ s.uptime ∧ s.dieRequired 0 = false) := by decide +kernel

theorem test_meets_SprueRows :
    up.queuePresent 0 = true ∧ (up.queue 0).writeRuns = true ∧ (up.queue 0).readRuns = true ∧ (up.queue 0).pecks 0 ≠ 0
    ∧ (let w : SprueWord := { bytes := [1#8], vb := 1, eop := true, poison := false, par := sprueParity [1#8] 1 true false }
       let s := up.setQueue 0 { up.queue 0 with chain := [w] }
       (s.queue 0).chain = w :: [] ∧ w.parOk = true
       ∧ ((up.setQueue 0 { up.queue 0 with chain := List.replicate 300 w }).queue 0).pecks 0 = 0 ∧ w.poison = false)
    ∧ (32 : Fin 44).val = 32 ∧ (0 : Fin 44).val ≠ 32
    ∧ ((up.setQueue 0 { up.queue 0 with readRuns := false }).queue 0).readRuns = false := by decide +kernel

/-! ### Witnesses: chapters 2 and 4 -/

/-- A fabric frame at Cope from node 9 to this hub, node 7. -/
def fab (type status len tid : Nat) (addr : Nat) (payload : List Byte) : FabRx :=
  { port := 0, mac := 0, bytes := fabHeader type status len tid 9 0 addr 5 ++ payload ++ zeros (24 - payload.length) }

/-- Node 7 with a READ of node 9's address 0x100 under way in slot 3. -/
def reading : State :=
  node.setSlot 3 { node.slot 3 with inUse := true, gen := 2, node := 9, addr := fabAddr 9 0 0x100, len := 4, sentAt := some 0 }

theorem test_meets_FabricRows_frames :
    let h (f : FabRx) := fabHead f.bytes
    node.Live
    ∧ (let f := fab 1 0 4 0 (fabAddr 7 1 0x100) (zeros 4)
       node.InTurn f 1 ∧ (h f).len ≤ (node.turnTaken f).maxPay)
    ∧ (let f := fab 2 0 4 0 (fabAddr 7 1 0x100) []
       let t := (node.upset [(1, false)]).turnTaken f
       (node.upset [(1, false)]).inHeld = false ∧ (node.upset [(1, false)]).InTurn f 2 ∧ (h f).len ≤ t.maxPay ∧ t.fitsRing (h f).len = true)
    ∧ node.InTurn (fab 5 0 8 0 (fabAddr 7 0 0x601000) (zeros 8)) 5
    ∧ (let f := fab 3 0 4 (3 + 256 * 2) (fabAddr 9 0 0x100) (zeros 4)
       let t := reading.turnTaken f
       reading.InTurn f 3 ∧ (t.slot ((h f).tid % 256)).inUse = true ∧ (t.slot ((h f).tid % 256)).gen = (h f).tid / 256
       ∧ (t.slot ((h f).tid % 256)).node = (h f).src ∧ (t.slot ((h f).tid % 256)).addr = (h f).addr)
    ∧ (let f := fab 4 0 16 0 (fabAddr 7 4 0) (zeros 16)
       node.InTurn f 4 ∧ spaceOf (h f).addr = 4 ∧ offsetOf (h f).addr = 0) := by
  unfold State.Live State.InTurn; decide +kernel

theorem test_meets_FabricRows_slots :
    (let q : FabReq := { client := .rom, init := 2, addr := fabAddr 9 0 0x100, len := 4, cas := [] }
     let s : State := { node with fab := { node.fab with waiting := [q] } }
     s.fab.waiting = q :: [] ∧ s.freeSlot = some 0)
    ∧ (reading.slot 3).inUse = true ∧ (reading.slot 3).sentAt = some 0
    ∧ 0 + 10000 * reading.get fabBase FAB_TIMEOUT_TICKS ≤ reading.uptime ∧ reading.respComes 3 = false
    ∧ ((node.setSlot 3 { node.slot 3 with quarUntil := some 5 }).slot 3).quarUntil = some 5
    ∧ (let x : HeldFrame := { src := 9, bcast := false, seq := 6, heldAt := 0, rx := fab 1 0 4 0 (fabAddr 7 1 0x100) (zeros 4) }
       let s : State := { node with fab := { node.fab with held := [x] } }
       s.oldestHeld = some x ∧ x.heldAt + 1000 * max 1 (s.get fabBase FAB_REORDER_HOLD) ≤ s.uptime)
    ∧ (let f : FabRx := { port := 1, mac := 0, bytes := fabHeader 1 0 4 0 7 0 (fabAddr 9 1 0x100) 5 ++ zeros 24 }
       let h := fabHead f.bytes
       let dst : BitVec 8 := 9
       node.hasNode = true ∧ fabBad true f.bytes = false ∧ h.src = node.nodeId ∧ dst.toNat ≠ 0 ∧ dst.toNat ≠ 255
       ∧ dst.toNat ≠ node.nodeId ∧ dst.toNat = nodeOf h.addr ∧ f.port.val < 2
       ∧ node.fab.returned.contains (dst.toNat, h.seq) = false) := by decide +kernel

/-- A reply that answers the tests' command. -/
def answer : Reply := { key := key, answers := true, src := 0, bytes := [] }

theorem test_meets_MailboxRows :
    up.rplFull = false ∧ up.cmdBusy = false ∧ ({ up with cmd := { up.cmd with busyUntil := up.uptime + 1 } } : State).cmdBusy = true
    ∧ ({ up with cmd := { up.cmd with xspi := List.replicate 16 { answer with answers := false } } } : State).rplFull = true
    ∧ (let s := cmdOn { up with cmd := { up.cmd with xspi := [answer] } } 0 0 [] .replied
       s.cmd.xspi = answer :: [] ∧ answer.answers = true ∧ (s.entry key).map (·.phase) = some .replied) := by decide +kernel

theorem test_meets_CommandLife :
    (let s := cmdOn up 0 0 [] .accepted
     let t := State.scanTo (s.cmd.entries.length + 1) key s
     s.entry key = some (entry 0 0 [] .accepted) ∧ (t.entry key).any (fun e => e.phase == .accepted && t.mayStart e) = true
     ∧ t.remoteOf key (packet 0 0 []) = none ∧ t.fencedFor (packet 0 0 []) = false ∧ unitGate 0 = none)
    ∧ (let e := entry 0 0 [] (.executing 0 none)
       (cmdOn up 0 0 []).entry key = some e ∧ 0 + (cmdOn up 0 0 []).bound e ≤ up.uptime ∧ pktOp e.packet = 0)
    ∧ 0 + 10000000 * up.get cmdBase CMD_REMOTE_TMO_TICKS ≤ up.uptime
    ∧ (cmdOn up 0 0 [] (.remote 9 0)).entry key = some (entry 0 0 [] (.remote 9 0))
    ∧ (cmdOn up 0 0 [] (.remote 9 0)).replyComes (entry 0 0 [] (.remote 9 0)) = false
    ∧ (cmdOn up 0 0 [] (.held 5 true)).entry key = some (entry 0 0 [] (.held 5 true)) ∧ 5 ≤ up.uptime
    ∧ (cmdOn up 0 0 [] (.broadcast 5 true [])).entry key = some (entry 0 0 [] (.broadcast 5 true [])) := by decide +kernel

/-! ### Witnesses: chapter 5 -/

/-- Cope in a state of Table 5.2. -/
def portIn (p n : Nat) : State := up.set (ringBase p) RING_PSTAT_STATE n

/-- A tagged frame of 64 bytes with a path, a destination and an inner EtherType. -/
def tagged (ether : Nat) : List Byte :=
  macBytes 0xFFFFFFFFFFFF ++ macBytes 0x020000000009 ++ beBytes 2 0x892F ++ beBytes 2 50 ++ beBytes 2 1 ++ beBytes 2 ether ++ zeros 44

theorem test_meets_RingPortRows_ports :
    (let s := portIn 0 1
     s.pstate 0 = 1 ∧ s.flag (ringBase 0) RING_PSTAT_BLOCK_LOCK = false
     ∧ s.get (ringBase 0) RING_PSTAT_RATE_NOW = s.get (ringBase 0) RING_PCTRL_RATE
     ∧ (s.rport 0).seekAt + 10000000 * s.get (ringBase 0) RING_LINK_TMO_TICKS ≤ s.uptime)
    ∧ ((up.setRport 0 { up.rport 0 with ownChange := some (1, 5) }).rport 0).ownChange = some (1, 5) ∧ 5 ≤ up.ring
    ∧ (let s := portIn 0 3
       let f := s.ctlFrame (s.helloBody 0)
       s.hellos 0 = true ∧ (s.rport 0).helloSent + s.helloNs ≤ s.uptime ∧ s.isCtl f 1 = true ∧ s.pstate 0 ≠ 1 ∧ leAt f 18 1 = 0
       ∧ s.pstate 0 = 3 ∧ (s.rport 0).helloAt + ((s.rport 0).missed + 1) * s.helloNs ≤ s.uptime)
    ∧ (portIn 0 2).pstate 0 = 2
    ∧ ((portIn 0 2).rport 0).holdAt + 1000000 * (portIn 0 2).get ringWide RING_HEAL_HOLD_MS ≤ (portIn 0 2).uptime := by decide +kernel

theorem test_meets_RingPortRows_frames :
    let s := (portIn 0 3).set (macBase 0) MAC_MCTRL_RX_EN 1
    s.ringUp 0 = true ∧ s.flag (macBase 0) MAC_MCTRL_RX_EN = true
    ∧ (let f := tagged 0x0800
       beAt f 12 2 = 0x892F ∧ lsduOk f = true ∧ f.length + 4 ≤ s.maxFrame 0 f ∧ etherOf (unTag f) ≠ 0x88F7 ∧ 60 ≤ f.length
       ∧ isSup f = false ∧ s.ownSource (srcMacOf f) = false
       ∧ ({ s with ringNet := { s.ringNet with prevId := some (0x020000000009, 2 * s.uptime) } } : State).ownSource (srcMacOf f) = true)
    ∧ (let f := zeros 60
       beAt f 12 2 ≠ 0x892F ∧ s.untaggedOk f = false)
    ∧ (let f := tagged 0x88F7
       lsduOk f = true ∧ etherOf (unTag f) = 0x88F7 ∧ f.length + 4 ≤ s.maxFrame 0 f)
    ∧ (let f := tagged 0x88FB
       lsduOk f = true ∧ f.length + 4 ≤ s.maxFrame 0 f ∧ isSup f = true ∧ s.ownSource (srcMacOf f) = false)
    ∧ (let t := s.set (ringBase 1) RING_PSTAT_STATE 3
       let f := t.ctlFrame (enumBody 5 0 9 1 serialLo8 4)
       t.enumTakes f = true ∧ t.enumBack f = false) := by decide +kernel

theorem test_meets_RingPortRows_own :
    let t : State := { up with ringNet := { up.ringNet with enum := some { run := 4, key := key } } }
    t.enumBack (t.ctlFrame (enumBody 5 0 9 1 serialLo8 4)) = true := by
  intro t
  have h : ((t.ctlFrame (enumBody 5 0 9 1 serialLo8 4)).drop 32).take 8 = serialLo8 := by rfl
  have h2 : leAt (t.ctlFrame (enumBody 5 0 9 1 serialLo8 4)) 40 2 = 4 := by decide +kernel
  show (_ == serialLo8 && leAt _ 40 2 == 4) = true
  rw [h, h2]; simp

theorem test_meets_RingTableRows :
    (let e : DupEntry := { high := 1, seen := 1, at_ := 0 }
     Tbl.get (fun _ => none) (up.setDup 5 (some e)).ringNet.dup 5 = some e
     ∧ e.at_ + 1000000 * up.get ringWide RING_DD_FORGET_MS ≤ up.uptime)
    ∧ Tbl.get (fun _ => none) ({ up.ringNet with txSeq := [(5, some (1, 0))] } : RingBlock).txSeq 5 = some (1, 0)
    ∧ 0 + 2 * nsPerSec ≤ up.uptime
    ∧ (let s := node.set (mapBase 9) RING_MAP0_FLAGS 1
       s.inMap 9 = true ∧ 9 ≠ s.nodeId ∧ (s.note 9).at_ + 3000000 ≤ s.uptime)
    ∧ (let n : SegNotice := { seg := 0x0709, brk := true, applyAt := 5, txStamp := 0 }
       firstNotice [n] = some n ∧ n.applyAt ≤ up.ring)
    ∧ (let s := up.setPath 6 9 { up.path 6 9 with hold := some 5 }
       (s.path 6 9).hold = some 5 ∧ ((s.ringNet.paths.map (·.1)).filter fun k => k / 256 == 6) = [256 * 6 + 9])
    ∧ node.supervises = true ∧ node.ringNet.supAt ≤ node.uptime ∧ node.ringNet.own = [] ∧ up.inHeld = false
    ∧ (let e := entry 0x0201 0 [1#8, 0#8, 0#8, 0#8] (.executing 0 (some (.unit 1 0)))
       let s := cmdOn { up with ringNet := { up.ringNet with enum := some { run := 4, key := key } } } 0x0201 0 [1#8, 0#8, 0#8, 0#8]
         (.executing 0 (some (.unit 1 0)))
       s.entry key = some e ∧ 0 + s.bound e ≤ s.uptime)
    ∧ (let s := up.set ringWide RING_STAT_FOREIGN 1
       s.Calm ∧ s.Inv ∧ s.flag ringWide RING_STAT_FOREIGN = true ∧ s.ringNet.foreignAt + 3 * nsPerSec ≤ s.uptime
       ∧ s.uptime < ({ s with ringNet := { s.ringNet with foreignAt := s.uptime } } : State).ringNet.foreignAt + 3 * nsPerSec) := by
  unfold State.Calm State.Inv; decide +kernel

/-! ### Witnesses: chapters 6 and 7 -/

/-- LMAC0 with link, sending and receiving at 1 Gb/s with preemption in use and verified. -/
def lmac : State :=
  let b := macBase 2
  ((((up.set b MAC_MCTRL_TX_EN 1).set b MAC_MCTRL_RX_EN 1).set b MAC_MSTAT_LINK 1).set b MAC_PREEMPT_EN 1).set b MAC_PSTAT_ACTIVE 1

/-- A frame on the line of LMAC0, begun `ago` ns ago. -/
def line (n ago : Nat) : Line :=
  { bytes := zeros n, tc := 0, src := .transit, express := false, sent := 0, frags := 0, since := 100000000000 - ago, stamp := 0 }

/-- LMAC0 with that frame on its line. -/
def onLine (n ago : Nat) : State := lmac.setEport 2 { lmac.eport 2 with line := some (line n ago) }

/-- LMAC0 with a queued frame of context 5 in class 0. -/
def queued : State :=
  let f : QFrame := { bytes := zeros 60, todo := 4, left := 4, sent := false, origin := 6, seq := none, twin := false, enqSeq := 1, uid := 1 }
  let s := (lmac.set (ctxBase 5) CTX_CTRL_EN 1).set (ctxBase 5) CTX_CTRL_PORTS 2
  let t := s.setCq 5 [f]
  t.setEport 2 { t.eport 2 with tags := [(5, 1)], head := [(0, (2, 1))] }

theorem test_meets_MacRows :
    lmac.receives 2 = true
    ∧ smdIndex smdStarts 0xD5 = none ∧ smdIndex smdStarts 0x4C = some 1
    ∧ smdIndex smdStarts 0x9E = none ∧ smdIndex smdConts 0x9E = some 2
    ∧ lmac.lengthBad 2 (zeros 60) 1 = none ∧ (lmac.lengthBad 2 (zeros 59) 1).isSome = true
    ∧ smdIndex smdStarts 0 = none ∧ smdIndex smdConts 0 = none
    ∧ (lmac.eport 2).line = none ∧ lmac.pick 2 = none
    ∧ (let c : CtlFrame := { smd := 0xD5, bytes := zeros 60, note := .none, uid := 1 }
       let s := lmac.setEport 2 { lmac.eport 2 with ctl := [c] }
       (s.eport 2).line = none ∧ s.pick 2 = some (7, .ctl c))
    ∧ (∃ k, (queued.eport 2).line = none ∧ queued.pick 2 = some (0, .cand k))
    ∧ (let s := lmac.setEport 2 { lmac.eport 2 with held := some (line 100 0) }
       (s.eport 2).line = none ∧ s.pick 2 = some (0, .cont (line 100 0)))
    ∧ (let s := onLine 100 100000
       (s.eport 2).line = some (line 100 100000)
       ∧ (8 + (100 - 0) + 4) * s.byteTime 2 ≤ (s.uptime - (line 100 100000).since) * 100)
    ∧ (let s := (onLine 1000 166400).setPause 2 (2 * up.uptime)
       (s.eport 2).line = some (line 1000 166400) ∧ s.preemptActive 2 = true ∧ s.lineWanted 2 = true ∧ (s.eport 2).hold = false
       ∧ 64 * (1 + s.get (macBase 2) MAC_PREEMPT_ADD_FRAG) - 4 ≤ s.sentNow 2 (line 1000 166400)
       ∧ 64 ≤ 1000 + 4 - (0 + s.sentNow 2 (line 1000 166400)))
    ∧ lmac.flag (macBase 2) MAC_PREEMPT_EN = true
    ∧ (let s := lmac.set (macBase 2) MAC_PSTAT_VERIFY_STATE 2
       s.get (macBase 2) MAC_PSTAT_VERIFY_STATE = 2 ∧ s.receives 2 = true ∧ s.verifyWaits 2 = false
       ∧ (s.mac 2).verifyAt + 1000000 * s.get (macBase 2) MAC_PREEMPT_VERIFY_MS ≤ s.uptime)
    ∧ (lmac.set (macBase 2) MAC_PAUSE_RX_EN 1).flag (macBase 2) MAC_PAUSE_RX_EN = true
    ∧ (lmac.set (macBase 2) MAC_PAUSE_RX_EN 0).flag (macBase 2) MAC_PAUSE_RX_EN = false
    ∧ ((lmac.setPause 2 5).mac 2).pauseEnd = 5
    ∧ (let s := (lmac.set (macBase 2) MAC_PAUSE_TX_EN 1).set (macBase 2) MAC_PAUSE_MARK_XOFF_KIB 0
       s.canSend 2 = true ∧ s.flag (macBase 2) MAC_PAUSE_TX_EN = true ∧ (s.mac 2).xoff = false
       ∧ 1024 * s.get (macBase 2) MAC_PAUSE_MARK_XOFF_KIB ≤ s.rxLevel 2)
    ∧ (lmac.set (macBase 2) LMAC_USX_AN_EN 0).flag (macBase 2) LMAC_USX_AN_EN = false := by
  refine ⟨?_, ?_, ?_, ?_, ?_, ?_, ?_, ?_, ?_, ?_, ?_, ?_, ⟨_, ?_, rfl⟩, ?_⟩ <;> decide +kernel

/-- LMAC0 after its XOFF. -/
def paused : State :=
  let s := (lmac.set (macBase 2) MAC_PAUSE_TX_EN 1).set (macBase 2) MAC_PAUSE_MARK_XON_KIB 0
  { s with sched := { s.sched with macs := Tbl.put (fun _ => {}) s.sched.macs 2 { s.mac 2 with xoff := true } } }

theorem test_meets_MacRows_xoff :
    paused.canSend 2 = true ∧ (paused.mac 2).xoff = true
    ∧ 1024 * paused.get (macBase 2) MAC_PAUSE_MARK_XON_KIB ≤ paused.rxLevel 2
    ∧ (paused.mac 2).pauseAt + paused.quantaNs 2 (paused.txQuanta 2) / 2 ≤ paused.uptime
    ∧ (let s := paused.set (macBase 2) MAC_PAUSE_MARK_XON_KIB 1
       s.rxLevel 2 < 1024 * s.get (macBase 2) MAC_PAUSE_MARK_XON_KIB) := by decide +kernel

theorem test_meets_ContextRows :
    up.waitingDescr 5 = []
    ∧ (let d : Descr := { bytes := none, addr := 0, len := 60, yellow := false }
       let s : State := { up with inbox := [(5, [d])] }
       s.waitingDescr 5 = d :: [])
    ∧ (let s := up.set (ctxBase 5) CTX_CTRL_EN 1
       s.flag (ctxBase 5) CTX_CTRL_EN = true)
    ∧ up.flag (ctxBase 5) CTX_CTRL_EN = false := by decide +kernel

/-- LMAC0 with a gate list of two entries, in its first. -/
def gated : State :=
  let b := schedBase 2
  let s := ((lmac.set b SCHED_PCTRL_GATE_EN 1).set b SCHED_OPER_LEN 2).set b SCHED_OPER_CYCLE_NS 1000000
  let t := ((s.set (operEntry 2 0) GCL_GATES_GATES 1).set (operEntry 2 0) GCL_INTERVAL_INTERVAL 500).set (operEntry 2 1) GCL_GATES_GATES 0
  t.setEport 2 { t.eport 2 with entryAt := 99999999000, cycleAt := 99999999000 }

theorem test_meets_GateRows :
    gated.edgeAt 2 ≤ gated.ring
    ∧ (let s := gated.setEport 2 { gated.eport 2 with entryAt := gated.ring, cycleAt := gated.ring }
       s.ring < s.edgeAt 2)
    ∧ gated.flag (schedBase 2) SCHED_PCTRL_GATE_EN = true ∧ gated.preemptActive 2 = true
    ∧ ((List.range 8).any fun c => !gated.isExpress 2 c && bitAt (gated.gates 2) c && !bitAt (gated.nextGates 2) c) = true
    ∧ gated.nextEdge 2 ≤ gated.ring + gated.holdAdv 2
    ∧ (Tbl.get (fun _ => (0, 0)) (queued.eport 2).head 0).1 ≠ 0
    ∧ (Tbl.get (fun _ => (0, 0)) (queued.eport 2).head 0).2 + queued.get (schedBase 2) SCHED_OPER_CYCLE_NS ≤ queued.uptime + 1
    ∧ (let c : CtlFrame := { smd := 0xD5, bytes := zeros 60, note := .none, uid := 1 }
       let s := lmac.setEport 2 { lmac.eport 2 with ctl := [c], head := [(7, (2, 1))] }
       (Tbl.get (fun _ => (0, 0)) (s.eport 2).head 7).1 ≠ 0 ∧ (s.eport 2).ctl = c :: [])
    ∧ (let f : TFrame := { bytes := tagged 0x0800, tc := 0, leaf := 9, uid := 1 }
       let s := lmac.setEport 2 { lmac.eport 2 with transit := [f], head := [(0, (2, 1))] }
       s.headOf 2 0 = some (.transit f))
    ∧ gated.adminBase 2 = 0 ∧ gated.timeValid = false
    ∧ (let s := (gated.wr (schedBase 2 + 8) 1).wr (schedBase 2 + 0xC) 1
       s.adminBase 2 ≠ 0)
    ∧ (let s := gated.set (schedBase 2) SCHED_PCTRL_CONFIG_PENDING 1
       s.flag (schedBase 2) SCHED_PCTRL_CONFIG_PENDING = true ∧ s.flag (schedBase 2) SCHED_PCTRL_SWAP_LATCHED = false
       ∧ (s.eport 2).swapAt ≤ s.ring + 10000)
    ∧ (let s := (gated.set (schedBase 2) SCHED_PCTRL_CONFIG_PENDING 1).set (schedBase 2) SCHED_PCTRL_SWAP_LATCHED 1
       let s := s.setEport 2 { s.eport 2 with latched := some ([(0, 500)], 1000000, 0, 5) }
       (s.eport 2).latched = some ([(0, 500)], 1000000, 0, 5) ∧ s.flag (schedBase 2) SCHED_PCTRL_SWAP_LATCHED = true
       ∧ s.flag (schedBase 2) SCHED_PCTRL_CONFIG_PENDING = true ∧ (s.eport 2).swapAt ≤ s.ring) := by decide +kernel

theorem test_meets_GateRows_window :
    ∃ n q, queued.headOf 2 0 = some (.ctx n q) := ⟨_, _, rfl⟩

/-! ### Witnesses: chapter 8 -/

/-- A PTP message: type, flags' first byte, clockIdentity and sequence (Table 8.1's header). -/
def ptp (type flags clock seq : Nat) : PtpRx :=
  { bytes := leBytes 1 (0x10 + type) ++ [0x12#8] ++ zeros 4 ++ leBytes 1 flags ++ zeros 13 ++ beBytes 8 clock ++ zeros 2
      ++ beBytes 2 seq ++ zeros 40
    ingress := 5 }

/-- Port `p` takes part in PTP and is AS_CAPABLE. -/
def timed (s : State) (p : Nat) : State :=
  (s.set (timePort p) TIME_PORT_CFG_PTP_EN 1).set (timePort p) TIME_PORT_CFG_AS_CAPABLE 1

/-- Cope is UP and receives. -/
def cope : State := (portIn 0 3).set (macBase 0) MAC_MCTRL_RX_EN 1

/-- A message that is not the hub's own is taken at a port whose other conditions hold. -/
theorem taken_other (s : State) (p : Nat) (m : List Byte) (h : (s.ptpOn p && s.receives p && s.ptpGood m && s.asCapable p) = true)
    (hc : ptpClock m ≠ s.clockId) : s.ptpTaken p m = true := by
  simp only [Bool.and_eq_true] at h
  simp [State.ptpTaken, h.1.1.1, h.1.1.2, h.1.2, h.2, hc]

theorem test_meets_TimeMessages_taken (s : State) (p : Nat) (hs : s = timed lmac 2 ∧ p = 2 ∨ s = timed cope 0 ∧ p = 0) :
    ∃ m : PtpRx, s.ptpTaken p m.bytes = true := by
  rcases Nat.eq_zero_or_pos s.clockId with h | h
  · refine ⟨ptp 0 2 1 4, taken_other s p _ ?_ (by rw [h]; decide +kernel)⟩
    rcases hs with ⟨rfl, rfl⟩ | ⟨rfl, rfl⟩ <;> decide +kernel
  · refine ⟨ptp 0 2 0 4, taken_other s p _ ?_ (fun e => Nat.lt_irrefl 0 (by rw [← e] at h; exact absurd h (by decide +kernel)))⟩
    rcases hs with ⟨rfl, rfl⟩ | ⟨rfl, rfl⟩ <;> decide +kernel

/-- LMAC0 is the slave port of an external grandmaster, and a Sync waits for its Follow_Up. -/
def following : State :=
  let d : PtpData := { prio1 := 1, cls := 6, acc := 0, var := 0, prio2 := 0, id := 9, steps := 0, src := 9 }
  let s := (timed lmac 2).set timeBase TIME_CTRL_LMAC_SLAVE 1
  { s with time := { s.time with ext := some d, syncWait := [(2, some { seq := 4, ingress := 5 })] } }

theorem test_meets_TimeMessages :
    (let m := (ptp 0 0 9 4).bytes
     let t := (following.noteSync 2 (ptpLog m)).setSyncWait 2 (some { seq := 4, ingress := 5 })
     following.mayFollow 2 m = true ∧ bitAt (leAt m 6 1) 1 = false ∧ 2 = t.slavePort ∧ t.mayFollow 2 m = true ∧ t.followPort 2 = true
     ∧ bitAt (leAt (ptp 0 2 9 4).bytes 6 1) 1 = true)
    ∧ (let m : PtpRx := { bytes := zeros 60, ingress := 5 }
       let s := timed lmac 2
       up.ptpTaken 2 m.bytes = false ∧ s.ptpOn 2 = true ∧ s.receives 2 = true ∧ s.ptpGood m.bytes = false ∧ s.hearsPeer 2 = true)
    ∧ (let m := (ptp 8 0 9 4).bytes
       let w : SyncWait := { seq := 4, ingress := 5 }
       let t := following.followRelay 2 w m
       up.syncWaitAt 2 = none ∧ following.syncWaitAt 2 = some w ∧ w.seq = ptpSeq m ∧ w.seq ≠ ptpSeq (ptp 8 0 9 5).bytes
       ∧ w.follow = none ∧ t.mayFollow 2 m = true ∧ t.followPort 2 = true
       ∧ (following.followRelay 2 w (ptp 8 0 7 4).bytes).mayFollow 2 (ptp 8 0 7 4).bytes = false)
    ∧ 2 = following.slavePort ∧ 2 ≠ (timed lmac 2).slavePort ∧ up.ptpOn 2 = false
    ∧ (let s := timed lmac 2
       let m := (ptp 3 0 0 4).bytes
       let x := (s.setPeer 2 { s.peer 2 with waiting := some (4, 5, 6) })
       let y := (s.setPeer 2 { s.peer 2 with waiting := some (4, 5, 6), resp := some (7, 8) })
       s.ptpGood m = true ∧ (s.peer 2).waiting = none ∧ (x.peer 2).waiting = some (4, 5, 6) ∧ ptpSeq m = 4 ∧ ptpSeq (ptp 3 0 0 5).bytes ≠ 4
       ∧ ptpType m = 3 ∧ ptpType (ptp 0xA 0 0 4).bytes ≠ 3 ∧ (x.peer 2).resp = none ∧ (y.peer 2).resp = some (7, 8))
    ∧ (let s := (up.set timeBase TIME_STAT_STATE 3)
       let u := s.takeMode.showOffset 5
       s.time.mode = s.get timeBase TIME_CTRL_MODE ∧ s.time.accept = false ∧ u.timeState = 3
       ∧ (5 : Int).natAbs ≤ u.get timeBase TIME_STEP_THR_NS)
    ∧ (let s := up.set timeBase TIME_CTRL_MODE 1
       let s : State := { s with time := { s.time with mode := 1, everLocked := true } }
       s.time.mode = s.get timeBase TIME_CTRL_MODE ∧ s.time.mode = 1
       ∧ (s.takeMode.showOffset 2000000000).get timeBase TIME_STEP_THR_NS < (2000000000 : Int).natAbs) := by decide +kernel

theorem test_meets_TimeMessages_discard : (timed lmac 2).ptpTaken 2 (zeros 60) = false := by
  have h : (timed lmac 2).ptpGood (zeros 60) = false := by decide +kernel
  simp [State.ptpTaken, h]

/-- The hub is grandmaster and LMAC0 a master port. -/
def master : State := ((timed lmac 2).set timeBase TIME_STAT_STATE 4).set (timePort 2) TIME_PORT_CFG_MASTER 1

theorem test_meets_TimeTimers :
    master.ptpOn 2 = true ∧ master.canSend 2 = true ∧ master.intervalOver TIME_MSG_INT_LOG_PDELAY (master.peer 2).sentAt = true
    ∧ master.sendsSync 2 = true ∧ master.intervalOver TIME_MSG_INT_LOG_SYNC (Tbl.get (fun _ => 0) master.time.syncSent 2) = true
    ∧ master.intervalOver TIME_MSG_INT_LOG_ANNOUNCE (Tbl.get (fun _ => 0) master.time.annSent 2) = true
    ∧ (let s := up.set timeBase TIME_CTRL_ROLE 1
       let s : State := { s with time := { s.time with annLog := some 0 } }
       s.annSilent s.time.annAt s.time.annLog = true ∧ s.timeState ≠ 4 ∧ up.flag timeBase TIME_CTRL_ROLE = false
       ∧ master.timeState = 4 ∧ s.annSilent s.uptime (some 0) = false
       ∧ s.flag timeBase TIME_CTRL_ROLE = true)
    ∧ (let s := (up.set timeBase TIME_STAT_SYNC_PORT 0).set timeBase TIME_STAT_STATE 2
       let t : State := { s with time := { s.time with syncAt := [(1, s.uptime)] } }
       s.get timeBase TIME_STAT_SYNC_PORT = 0 ∧ s.timeState = 2 ∧ s.syncFresh 0 = false ∧ s.syncFresh 1 = false
       ∧ t.get timeBase TIME_STAT_SYNC_PORT = 0 ∧ t.syncFresh 0 = false ∧ t.syncFresh 1 = true)
    ∧ (let s := (cope.set (ringBase 0) RING_PSTAT_STATE 4).set (ringBase 0) RING_PCTRL_LOOP 2
       s.loopedOut 0 = true)
    ∧ up.sendsSync 2 = false
    ∧ (let s := up.set timeBase TIME_STAT_STATE 3
       s.timeState = 3 ∧ s.time.holdAt + s.get timeBase TIME_HOLD_MS * 1000000 ≤ s.uptime)
    ∧ up.time.slew = 0 ∧ (up.set timeBase TIME_STAT_JUMP_REFUSED 1).flag timeBase TIME_STAT_JUMP_REFUSED = true
    ∧ up.flag timeBase TIME_STAT_JUMP_REFUSED = false := by decide +kernel

theorem test_meets_TimeTimers_announce : ∃ d, master.roleTaken.announceData = some d := ⟨_, rfl⟩

theorem test_meets_ActionRows :
    let a : Action := { id := 1, at_ := 5, period := 0, repeat_ := 0, fired := 0, validOnly := false, writes := [(0x10, 1)], late := false }
    let s := up.setAction 0 (some a)
    (s.actionList.find? fun p => p.2.id == 1) = some (0, a) ∧ a.due ≤ s.ring ∧ s.actionBefore a = false ∧ a.late = false
      ∧ a.validOnly = false := by decide +kernel

/-! ### Witnesses: chapters 9 and 10 -/

/-- A frame to the ledger address of node 9 with the ledger EtherType and a body. -/
def ledgerFrame (body : List Byte) : List Byte :=
  macBytes 0x03A5C0000109 ++ macBytes 0x020000000009 ++ beBytes 2 (up.get ledgerBase LEDGER_ETYPE_ETYPE) ++ body

/-- An empty body of a kind: version 1, node 9. -/
def body (kind : Nat) : List Byte := leBytes 1 (0x10 + kind) ++ [9#8] ++ zeros 14

/-- The ledger runs and subscription 0 follows source 0x10 of node 9. -/
def ledger : State :=
  (((up.set ledgerBase LEDGER_CTRL_EN 1).set (subBase 0) SUB_CFG_IN_USE 1).set (subBase 0) SUB_CFG_NODE 9).set (subBase 0)
    SUB_CFG_SOURCE 0x10

/-- A record of that source. -/
def rec (stamp : Nat) : LRec := { stamp := stamp, node := 9, type := 1, unit := 0, source := 0x10, flags := 0, sseq := 1, data := zeros 12 }

/-- That record held. -/
def holding (s : State) (stamp : Nat) : State := { s with ledger := { s.ledger with hold := [(rec stamp, 0, 0)] } }

theorem test_meets_LedgerRows :
    ledger.sys.up = true ∧ ledger.inHeld = false
    ∧ (let s := ledger.set (ledgerBase + 0x400 + 4 * 0x10) LEDGER_PUB_PUB_CTX 5
       s.flag ledgerBase LEDGER_CTRL_EN = true ∧ (s.pubSources 5).isEmpty = false ∧ s.flag (ctxBase 5) CTX_CTRL_FAST = false
       ∧ Tbl.get (fun _ => 0) s.ledger.sentAt 5 + 1000 * clampNat 1 10 (s.get ledgerBase LEDGER_CFG_WM_INT_US) ≤ s.uptime + 1)
    ∧ ledgerNode (ledgerFrame (body 0)) = some 9 ∧ ledger.ledgerBody (ledgerFrame (body 0)) = some (body 0)
    ∧ ledger.ledgerTakes 9 = true ∧ bodyOk (body 0) = true ∧ leAt (body 0) 0 1 % 16 = 0 ∧ ledger.flag ledgerBase LEDGER_CTRL_EN = true
    ∧ ledger.ledgerBody (ledgerFrame (body 2)) = some (body 2) ∧ bodyOk (body 2) = false
    ∧ firstHeld (holding up 5).ledger.hold = some (rec 5, 0, 0) ∧ ((holding up 5).mayRelease (rec 5)).1 = true
    ∧ firstHeld (holding ledger 5).ledger.hold = some (rec 5, 0, 0) ∧ ((holding ledger 5).mayRelease (rec 5)).1 = false
    ∧ ((holding ledger 5).mayRelease (rec 5)).2 = true
    ∧ ledger.subUsed 0 = true ∧ ledger.lagging 0 = false ∧ ledger.subWm 0 + ledger.horizon < ledger.storeNow
    ∧ (let a : Nat × Nat × Nat := (7, 0, 5)
       let s := ledger.setSub 0 { ledger.sub 0 with next := 5, ahead := [a] }
       ((s.sub 0).ahead.find? fun a => decide (a.2.1 + s.horizon ≤ s.uptime)) = some a ∧ (s.sub 0).ahead = [a]
       ∧ sseqAhead a.1 a.1 = false)
    ∧ (up.set ledgerBase LEDGER_CTRL_EN 0).flag ledgerBase LEDGER_CTRL_EN = false ∧ ledgerNode [] = none ∧ up.ledger.hold = []
    ∧ ((up.sub 0).ahead.find? fun a => decide (a.2.1 + up.horizon ≤ up.uptime)) = none := by decide +kernel

theorem test_meets_LedgerRows_holds :
    (∃ i ∈ ledger.subsInUse, ledger.lagging i = false ∧ ledger.subHolds i (2 ^ 60) = true ∧ ledger.subWm i < 2 ^ 60)
    ∧ ledger.storeNow < 2 ^ 60 + ledger.horizon ∧ firstHeld (holding ledger (2 ^ 60)).ledger.hold = some (rec (2 ^ 60), 0, 0)
    ∧ up.subsInUse = [] := ⟨⟨0, by decide +kernel, by decide +kernel, by decide +kernel, by decide +kernel⟩, by decide +kernel⟩

/-- Slot 3 with a staleness limit of 1 ms, last written at reset. -/
def slotted : State :=
  { up with pimg := { up.pimg with maps := Tbl.put (fun _ => {}) up.pimg.maps 3 { w3 := 1, w2 := 1, w1 := 1, w0 := 1, wrote := 1 } } }

theorem test_meets_ImageRows :
    (up.set pimgBase PIMG_CTRL_EN 1).flag pimgBase PIMG_CTRL_EN = true
    ∧ ledgerNode (ledgerFrame (body 1)) = some 9 ∧ ledger.ledgerBody (ledgerFrame (body 1)) = some (body 1)
    ∧ ledger.ledgerTakes 9 = true ∧ bodyOk (body 1) = true ∧ leAt (body 1) 0 1 % 16 = 1
    ∧ (slotted.slotMap 3).staleMs ≠ 0 ∧ max (slotted.slotMap 3).wrote (slotted.slotMap 3).setAt ≠ 0 ∧ bitAt (slotted.slotStatus 3) 2 = false
    ∧ max (slotted.slotMap 3).wrote (slotted.slotMap 3).setAt + 1000000 * (slotted.slotMap 3).staleMs ≤ slotted.uptime + 1 := by
  decide +kernel

/-- An xSPI transaction of `n` bytes. -/
def xspi (n : Nat) : XspiTx := { opcodeOk := true, addr := 0x100, len := BitVec.ofNat 16 n, data := zeros 8, swap := zeros 8, clocked := 5 }

theorem test_meets_BridgeRows_xspi :
    up.hostDown = false ∧ (xspi 4).opcodeOk = true
    ∧ (let u := up.bump bridgeBase BRIDGE_XSPI_RD
       u.inHeld = false ∧ u.hostDown = false)
    ∧ xspiShape (xspi 4).len.toNat false = none ∧ xspiShape (xspi 4).len.toNat true = none
    ∧ (xspi 4).len.toNat ≠ 0 ∧ (xspi 4).len.toNat ≤ 256 ∧ (xspi 4).len.toNat ≤ (xspi 4).data.length ∧ up.bridge.writes.length < 64
    ∧ (xspi 0).len.toNat = 0 ∧ 256 < (xspi 300).len.toNat ∧ (xspi 256).len.toNat ≠ 0 ∧ (xspi 256).len.toNat ≤ 256
    ∧ (xspi 256).data.length < (xspi 256).len.toNat ∧ (xspiShape (xspi 0).len.toNat false).isSome = true
    ∧ (xspiShape (xspi 3).len.toNat true).isSome = true
    ∧ 64 ≤ (List.replicate 64 ({ init := 0, addr := 0, data := [] } : PostedWrite)).length := by decide +kernel

theorem test_meets_BridgeRows :
    (let w : PostedWrite := { init := 0, addr := 0x100, data := zeros 4 }
     (up.postWrite 0 0x100 (zeros 4)).bridge.writes = w :: [])
    ∧ (let x : Ladle := { st := .fetching, init := 0, addr := fabAddr 0 1 0x100, len := 4 }
       let s : State := { up with bridge := { up.bridge with ladles := Tbl.put (fun _ => {}) up.bridge.ladles 3 x } }
       s.ladle 3 = x ∧ x.st = .fetching ∧ x.sent = false ∧ x.after = 0 ∧ s.isLocal x.addr = true ∧ spaceOf x.addr = 1 ∧ x.cas = []
       ∧ x.gone = false ∧ spaceOf x.addr ≠ 0)
    ∧ (let x : Ladle := { st := .fetching, init := 0, addr := 0x600000, len := 4, gone := true }
       spaceOf x.addr = 0 ∧ up.regGated (offsetOf x.addr) = false ∧ x.gone = true ∧ x.sensitive = false
       ∧ ({ x with sensitive := true } : Ladle).sensitive = true ∧ ({ x with prefetched := true } : Ladle).prefetched = true)
    ∧ (let x : Ladle := { st := .ready, init := 0, addr := fabAddr 0 1 0x100, len := 4 }
       let s : State := { up with bridge := { up.bridge with ladles := Tbl.put (fun _ => {}) up.bridge.ladles 3 x } }
       (s.ladle 3).st = .ready ∧ (s.ladle 3).readyAt + 1000 * s.get bridgeBase BRIDGE_DISCARD_US ≤ s.uptime ∧ s.collectComes 3 = false
       ∧ (s.ladle 3).sensitive = false ∧ (s.ladle 3).prefetched = false) := by decide +kernel

/-! ### Witnesses: chapter 11 -/

/-- Controller 3 open and on its bus. -/
def can : State := up.set (canBase 3) CAN_CTRL_EN 1

/-- A classical frame of 8 bytes. -/
def canRx : CanRx :=
  { id := 5, ide := false, fmt := 0, rtr := false, brs := false, esi := false, dlc := 8, data := zeros 8, sdt := 0, vcid := 0
    sec := false, af := 0, age := 100 }

/-- Transmit buffer 2 of controller 3 in a state of Table 11.9. -/
def txIn (n : Nat) : State := can.set (txbBase 3 2) CAN_TXB_STAT_STATE n

/-- Buffer 2 of controller 3 on the bus. -/
def txOn : State := (txIn 3).setCan 3 { can.can 3 with active := some 2 }

theorem test_meets_CanBusRows :
    can.sys.up = true ∧ can.inHeld = false ∧ 3 < can.nCan ∧ can.fenced (.canIsl (3 / 16)) = false
    ∧ (let s := can.setFence (.canIsl (3 / 16)) true
       s.sys.up = true ∧ s.inHeld = false ∧ s.fenced (.canIsl (3 / 16)) = true)
    ∧ can.canOpen 3 = true ∧ can.flag (canBase 3) CAN_STAT_INTEGRATING = false ∧ can.get (canBase 3) CAN_STAT_ESTATE ≠ 2
    ∧ can.canMode 3 ≠ 2 ∧ (can.can 3).active = none ∧ up.canOpen 3 = false ∧ (up.can 3).closing = false ∧ up.mayTransmit 3 = false
    ∧ up.canWantsHeld 3 = up.canHeld 3 ∧ (txOn.can 3).active.isSome = true
    ∧ ((txIn 1).set (canBase 3) CAN_STAT_ESTATE 2).get (canBase 3) CAN_STAT_ESTATE = 2
    ∧ (txIn 2).mayTransmit 3 = true ∧ ((txIn 2).can 3).tref = none ∧ (txIn 2).pendingBuf 3 = some 2
    ∧ (let m : TrefMsg := { cycle := 1, at_ := 5, first := false }
       let s := can.setCan 3 { can.can 3 with tref := some m }
       s.mayTransmit 3 = true ∧ (s.can 3).tref = some m)
    ∧ (txOn.can 3).active = some 2
    ∧ (let m : TrefMsg := { cycle := 1, at_ := 5, first := false }
       let s := can.setCan 3 { can.can 3 with trefBus := some m, active := some 32 }
       let t := ((s.bump (canBase 3) CAN_TX_FRAMES).ecntSent 3).trefSent 3
       (s.can 3).active = some 32 ∧ (s.can 3).trefBus = some m ∧ s.canMode 3 < 2 ∧ t.canMode 3 < 2)
    ∧ (can.set (canBase 3) CAN_STAT_RECOVERING 1).flag (canBase 3) CAN_STAT_RECOVERING = true
    ∧ (let s := can.setCan 3 { can.can 3 with closing := true }
       (s.can 3).closing = true ∧ (s.can 3).active = none)
    ∧ (txIn 1).txbState 3 2 = 1 ∧ (txIn 1).txbAt 3 2 ≤ (txIn 1).canNow 3 ∧ (txIn 1).canHeld 3 = false
    ∧ (let s := (can.set (canBase 3) CAN_CTRL_PAIR_HOLD 1).set (canBase 3) CAN_PAIRCFG_PCH 0
       s.canWantsHeld 3 ≠ s.canHeld 3 ∧ s.canBusy 3 = false)
    ∧ (let s := (can.set (canBase 3) CAN_TREF_CTRL_EN 1).set (canBase 3) CAN_TREF_PERIOD_US 1000
       s.flag (canBase 3) CAN_TREF_CTRL_EN = true ∧ (s.can 3).trefIdx < s.canNow 3 / s.trefPeriod 3) := by
  decide +kernel

/-- Transmit map 1 of controller 3 sends slot 4 through buffer 2 every millisecond. -/
def mapped : State :=
  let b := txmapBase 3 1
  let s := (((can.set b CAN_TXMAP0_EN 1).set b CAN_TXMAP1_MODE 1).set b CAN_TXMAP2_PERIOD_US 1000).set b CAN_TXMAP0_BUF 2
  let m : SlotMap := { w0 := 32, w1 := 3 * 65536, w3 := 65536 }
  { s with pimg := { s.pimg with maps := Tbl.put (fun _ => {}) s.pimg.maps 4 m } }

theorem test_meets_CanBusRows_map :
    mapped.flag (txmapBase 3 1) CAN_TXMAP0_EN = true ∧ mapped.flag (txmapBase 3 1) CAN_TXMAP1_MODE = true
    ∧ Tbl.get (fun _ => 0) (mapped.can 3).mapIdx 1 < mapped.canNow 3 / mapped.txMapPeriod 3 1
    ∧ (let t := mapped.setCan 3 { mapped.can 3 with
         mapIdx := Tbl.put (fun _ => 0) (mapped.can 3).mapIdx 1 (mapped.canNow 3 / mapped.txMapPeriod 3 1) }
       t.txMapSlot 3 1 = some 4 ∧ t.txbBusy 3 (t.get (txmapBase 3 1) CAN_TXMAP0_BUF) = false
       ∧ (t.set (txbBase 3 2) CAN_TXB_STAT_STATE 2).txbBusy 3 (t.get (txmapBase 3 1) CAN_TXMAP0_BUF) = true
       ∧ can.txMapSlot 3 1 = none) := by decide +kernel

theorem test_meets_CanWriteRows :
    can.fenced (.canIsl (3 / 16)) = false
    ∧ (let u := (can.set (canBase 3) CAN_STORE_TXN 8).wakeFor (canBase 3)
       2 < u.canTxn 3 ∧ u.txbBusy 3 2 = false ∧ u.canTxn 3 ≤ 20 ∧ (u.set (txbBase 3 2) CAN_TXB_STAT_STATE 2).txbBusy 3 2 = true)
    ∧ (can.set 0 SYS_FENCE_CAN_ISL 1).fenced (.canIsl (3 / 16)) = true := by decide +kernel

theorem test_meets_CanWriteRows_open :
    can.canOpen 3 = true ∧ up.canOpen 3 = false ∧ (up.wr 0x10C 0).canFits 3 = false
    ∧ can.canBusy 3 = false ∧ (can.set (canBase 3) CAN_CTRL_EN 0).canBusy 3 = false ∧ (txIn 3).txbState 3 2 = 3
    ∧ (txIn 2).txbState 3 2 = 2 ∧ (txIn 0).txbState 3 2 = 0 ∧ (txIn 4).txbState 3 2 = 4 := by decide +kernel

/-! ### Witnesses: chapter 12 -/

/-- Engine 1 of Flask 2 runs; word `w` is at its address. -/
def running (w : Nat) : State :=
  let s := up.setEng 2 1 { up.eng 2 1 with running := true }
  s.setFlask 2 { s.flask 2 with pmem := Tbl.put (fun _ => 0) (s.flask 2).pmem 0 w }

theorem test_meets_FlaskInstructions :
    (List.range 0x13).all (fun op =>
      let s := running (op * 2 ^ 27)
      s.sys.up && !s.inHeld && decide (2 < s.nFlask) && (s.eng 2 1).running && (s.eng 2 1).stopReq.isNone
        && !s.fenced (.flask 2) && flaskOp (Tbl.get (fun _ => 0) (s.flask 2).pmem (s.pc 2 1)) == op) = true := by decide +kernel

/-- A Pattern of one word, GO 0 (Table 12.3). -/
def pattern : List Byte :=
  let h := leBytes 4 0x54415046 ++ leBytes 2 1 ++ leBytes 2 1 ++ zeros 20
  h ++ leBytes 4 (crc32c (h ++ zeros 8)) ++ zeros 4

/-- That Pattern at the start of the Pattern library. -/
def library : State := up.store (up.partBase 6) pattern

/-- Its load into engine 1. -/
def load (byCmd : Bool) : PLoad := { image := pattern, dest := 0, mask := 2, flush := false, conf := false, byCmd := byCmd }

theorem test_meets_FlaskControlRows :
    2 < up.nFlask
    ∧ (let s := up.setEng 2 1 { up.eng 2 1 with stopReq := some true, running := true }
       (s.eng 2 1).stopReq = some true ∧ (s.eng 2 1).running = true)
    ∧ ((running 0).eng 2 1).running = true ∧ ((running 0).eng 2 1).stopReq = none ∧ (running 0).fenced (.flask 2) = false
    ∧ (let u := up.wakeFor (flaskBase 2)
       u.flag (ecBase 2 1) EC_STREAM_TXSRC = false ∧ (u.eng 2 1).txq.length < u.txCap 2 1)
    ∧ (let s := up.setEng 2 1 { up.eng 2 1 with txq := List.replicate 64 0 }
       let u := s.wakeFor (flaskBase 2)
       u.txCap 2 1 ≤ (u.eng 2 1).txq.length)
    ∧ (let u := library.wakeFor (flaskBase 2)
       let cmd : Word := 0x80020000#32
       cmd.getLsbD 31 = true ∧ u.flag (flaskBase 2) FLASK_PLOAD_STAT_BUSY = false
       ∧ u.loadCheck 2 (cmd.getLsbD 24) (u.get (flaskBase 2) FLASK_PLOAD_SRC_OFFSET) (bitsOf cmd 0 10) (bitsOf cmd 16 8)
          (cmd.getLsbD 25) (cmd.getLsbD 26) false = .inr (load false))
    ∧ (let s := up.setFlask 2 { up.flask 2 with loads := [load false] }
       (s.flask 2).loads = load false :: [] ∧ (load false).byCmd = false
       ∧ (let t := (s.setFlask 2 { s.flask 2 with loads := [] }).set (flaskBase 2) FLASK_PLOAD_STAT_BUSY 0
          t.loadBlocked 2 2 0 (leAt pattern 6 2) = false))
    ∧ (let s := (running 0).setFlask 2 { (running 0).flask 2 with loads := [load true] }
       (s.flask 2).loads = load true :: [] ∧ (load true).byCmd = true
       ∧ (s.setFlask 2 { s.flask 2 with loads := [] }).loadBlocked 2 2 0 (leAt pattern 6 2) = true) := by decide +kernel

/-- The other edge of each clause: a queue fed by a stream context, a load that finds no image, no load begun, and the two
kinds of load against an engine that runs and one that does not. -/
theorem test_meets_FlaskControlRows_other :
    (let s := up.set (ecBase 2 1) EC_STREAM_TXSRC 1
     (s.wakeFor (flaskBase 2)).flag (ecBase 2 1) EC_STREAM_TXSRC = true)
    ∧ (let u := up.wakeFor (flaskBase 2)
       let cmd : Word := 0x80020000#32
       cmd.getLsbD 31 = true ∧ u.flag (flaskBase 2) FLASK_PLOAD_STAT_BUSY = false
       ∧ u.loadCheck 2 (cmd.getLsbD 24) (u.get (flaskBase 2) FLASK_PLOAD_SRC_OFFSET) (bitsOf cmd 0 10) (bitsOf cmd 16 8)
          (cmd.getLsbD 25) (cmd.getLsbD 26) false = .inl 3)
    ∧ (up.flask 2).loads = []
    ∧ (let s := (running 0).setFlask 2 { (running 0).flask 2 with loads := [load false] }
       let t := (s.setFlask 2 { s.flask 2 with loads := [] }).set (flaskBase 2) FLASK_PLOAD_STAT_BUSY 0
       (s.flask 2).loads = load false :: [] ∧ t.loadBlocked 2 2 0 (leAt pattern 6 2) = true)
    ∧ (let s := up.setFlask 2 { up.flask 2 with loads := [load true] }
       (s.flask 2).loads = load true :: []
       ∧ (s.setFlask 2 { s.flask 2 with loads := [] }).loadBlocked 2 2 0 (leAt pattern 6 2) = false) := by decide +kernel

/-! ### Witnesses: chapter 13 and the pop words -/

/-- A transition of a line to a level, begun at reset. -/
def trans (level : Bool) : Transition := { stamp := 0, suspect := false, began := 0, kind := 0, time := 100, level := level }

/-- Line 5 with that transition. -/
def crossing (level : Bool) : State := up.setLine 5 { up.line 5 with trans := some (trans level) }

/-- Line 5 drives low; whoever holds its pad decides its level. -/
def driving (pad : Bool) : State :=
  let s := up.set (lineBase 5) DIO_LCFG_MODE 2
  s.setLine 5 { s.line 5 with pad := pad }

/-- Safety function SF-A is armed and names line 5. -/
def guarded (s : State) : State := (s.set (sfBase 1) SF_CTRL_ARMED 1).wr (sfBase 1 + 0x40) 0x105#32

theorem test_meets_DioRows :
    5 < up.nDio
    ∧ ((crossing false).line 5).trans = some (trans false) ∧ (trans false).began + (trans false).time ≤ up.uptime
    ∧ (driving true).fenced (.dioBank (5 / 64)) = false ∧ (driving true).lineDrive 5 = some false
    ∧ (let s := guarded (driving true)
       let t := (s.bump (dioBase 0) DIO_READBACK_ERR).evt (dioBase 0) DIO_EVT 4
       s.lineDrive 5 = some false ∧ (s.line 5).pad = !false ∧ t.lineSafety 5 = true)
    ∧ (driving false).lineDrive 5 = some false ∧ ((driving false).line 5).pad = false
    ∧ (let e : DioEntry := { id := 1, line := 5, action := 1, at_ := 5, validOnly := false, late := false }
       let s := up.setBank 0 { up.bank 0 with sched := [e] }
       firstEntry (s.bank 0).sched = some e ∧ e.at_ ≤ s.dioNow 0)
    ∧ (let s := up.set (pwmBase 0 3) DIO_PWM_CTRL_EN 1
       s.flag (pwmBase 0 3) DIO_PWM_CTRL_EN = true ∧ s.genIndex 0 3 ≠ (s.gen 0 3).last ∧ (s.gen 0 3).pend = none)
    ∧ (let s := up.setGen 0 3 { up.gen 0 3 with out := true, on := 5 }
       (s.gen 0 3).out = true ∧ (s.gen 0 3).on < (s.gen 0 3).period ∧ (s.gen 0 3).startAt + (s.gen 0 3).on ≤ s.dioNow 0)
    ∧ (let u := up.wakeFor (dioBase 0)
       let cmd : Word := 0x80000105#32
       cmd.getLsbD 31 = true ∧ 64 * 0 + bitsOf cmd 0 6 < u.nDio ∧ u.lineSafety (64 * 0 + bitsOf cmd 0 6) = false
       ∧ bitsOf cmd 8 2 ≠ 3 ∧ (u.bank 0).sched.length < 64) := by decide +kernel

theorem test_meets_DioRows_latches : 64 * 0 + 32 * b2n false + 5 < up.nDio ∧ up.lineSafety 5 = false ∧ (guarded up).lineSafety 5 = true := by
  decide +kernel

theorem test_meets_PopRows :
    3 < up.nCan ∧ up.fenced (.canIsl (3 / 16)) = false ∧ 2 < up.nFlask ∧ up.fenced (.flask 2) = false ∧ up.fenced (.dioBank 0) = false
    ∧ whoRing (.ring 9 0) = true ∧ whoRing .xspi = false := by decide +kernel

/-- The other edge of each clause: no transition open, a mismatch reported as a note and one too soon after it, an undriven
line, a generator that stands, and the schedule's four refusals. -/
theorem test_meets_DioRows_other :
    (up.line 5).trans = none
    ∧ (let s := driving true
       let t := (s.bump (dioBase 0) DIO_READBACK_ERR).evt (dioBase 0) DIO_EVT 4
       t.lineSafety 5 = false ∧ t.mayReport (t.bank 0).rbAt = true)
    ∧ (let s := (driving true).setBank 0 { up.bank 0 with rbAt := some up.uptime }
       let t := (s.bump (dioBase 0) DIO_READBACK_ERR).evt (dioBase 0) DIO_EVT 4
       s.fenced (.dioBank (5 / 64)) = false ∧ s.lineDrive 5 = some false ∧ (s.line 5).pad = !false
       ∧ t.lineSafety 5 = false ∧ t.mayReport (t.bank 0).rbAt = false)
    ∧ up.fenced (.dioBank (5 / 64)) = false ∧ up.lineDrive 5 = none
    ∧ up.flag (pwmBase 0 3) DIO_PWM_CTRL_EN = false
    ∧ (let u := up.wakeFor (dioBase 0)
       (0x105#32).getLsbD 31 = false
       ∧ (0x80000305#32).getLsbD 31 = true ∧ 64 * 0 + bitsOf 0x80000305#32 0 6 < u.nDio
       ∧ u.lineSafety (64 * 0 + bitsOf 0x80000305#32 0 6) = false ∧ bitsOf 0x80000305#32 8 2 = 3)
    ∧ (let u := (guarded up).wakeFor (dioBase 0)
       64 * 0 + bitsOf 0x80000105#32 0 6 < u.nDio ∧ u.lineSafety (64 * 0 + bitsOf 0x80000105#32 0 6) = true)
    ∧ (let e : DioEntry := { id := 1, line := 5, action := 1, at_ := 5, validOnly := false, late := false }
       let u := (up.setBank 0 { up.bank 0 with sched := List.replicate 64 e }).wakeFor (dioBase 0)
       u.lineSafety (64 * 0 + bitsOf 0x80000105#32 0 6) = false ∧ bitsOf 0x80000105#32 8 2 ≠ 3
       ∧ 64 ≤ (u.bank 0).sched.length) := by decide +kernel

/-! ### Witnesses: chapter 14 -/

/-- The power-edge dies have their supply, and feed A is selected and qualified at 24 V. -/
def powered : State :=
  let s := ((up.setDie 0 { up.die 0 with powered := true }).setDie 1 { up.die 1 with powered := true }).setFeed 0 { up.feed 0 with mv := 24000 }
  ((s.set feedReg FEED_STAT_SELECTED 0).set feedReg FEED_STAT_QUALIFIED 1).set feedReg FEED_STAT_UV_HOLD 0

/-- The feed selector in a phase, towards feed A. -/
def selecting (p : FeedPhase) : State := powered.setSel { powered.power.sel with phase := p, next := 0 }

theorem test_meets_FeedRows :
    (powered.die 0).powered = true
    ∧ (let t := ((powered.feedTake 0 24000).feedTake 1 0).feedTake 2 0
       (∀ f : Fin 3, t.feedJudge f.val = t.qualified f.val) ∧ t.flag feedReg FEED_STAT_UV_HOLD = false)
    ∧ (selecting (.breaking 0)).power.sel.phase = .breaking 0 ∧ (selecting (.breaking 0)).power.sel.next ≠ 3
    ∧ (selecting (.dead 0)).power.sel.phase = .dead 0
    ∧ 0 + 1000 * (selecting (.dead 0)).get feedReg FEED_DEAD_US ≤ (selecting (.dead 0)).uptime
    ∧ (selecting (.dead 0)).qualified (selecting (.dead 0)).power.sel.next = true
    ∧ 0 + 100000 ≤ (selecting (.breaking 0)).uptime ∧ powered.sys.up = true ∧ powered.inHeld = false
    ∧ powered.fenced (.pedie 0) = false := by decide +kernel

/-- Channel 5 in a state of Table 14.3, its rise of the gate begun or not. -/
def pch (n : Nat) (rising : Option Nat) : State :=
  let s := powered.set (pchBase 5) PCH_STAT_STATE n
  s.setPch 5 { s.pch 5 with rising := rising }

/-- A sample. -/
def sample (ma mv : Nat) : ChSample := { ma := BitVec.ofNat 32 ma, mv := BitVec.ofNat 32 mv }

/-- Channel 5 after that sample. -/
def sampled (s : State) (m : ChSample) : State := s.pchSample 5 m.ma m.mv

theorem test_meets_ChannelRows :
    (powered.die (5 / 32)).powered = true ∧ 5 < powered.nPch
    ∧ (let s := powered.set (pchBase 5) PCH_CTRL_PRES_EN 1
       s.flag (pchBase 5) PCH_CTRL_PRES_EN = true ∧ s.pchGate 5 = false ∧ s.flag (pchBase 5) PCH_STAT_FET_SHORT = false
       ∧ s.flag (pchBase 5) PCH_STAT_PRESENT = !true)
    ∧ (pch 2 none).pchState 5 = 2
    ∧ (let t := sampled (pch 4 none) (sample 10 23500)
       t.pchState 5 = 4 ∧ (t.pch 5).rising = none ∧ (t.feed (t.get feedReg FEED_STAT_SELECTED)).mv ≤ 23500 + 1000
       ∧ (t.pch 5).since + 1000000 * t.get (pchBase 5) PCH_RAMP_MAX_MS ≤ t.uptime)
    ∧ (let t := sampled (pch 4 (some 5)) (sample 10 23500)
       t.pchState 5 = 4 ∧ (t.pch 5).rising = some 5)
    ∧ (let t := sampled (pch 5 none) (sample 60000 23500)
       t.pchState 5 = 5 ∧ (t.get (pchBase 5) PCH_LIMITS1_SLOW_MA : Int) < (sample 60000 23500).ma.toInt)
    ∧ (let s := (pch 4 none).setPch 5 { (pch 4 none).pch 5 with stress := 10 ^ 15 }
       let t := sampled s (sample 10 23500)
       t.pchGate 5 = true ∧ t.get (pchBase 5) PCH_STRESS_LIMIT_MJ * 100000000 < (t.pch 5).stress)
    ∧ (let t := sampled (pch 0 none) (sample 10 23500)
       t.pchGate 5 = false ∧ t.flag (pchBase 5) PCH_STAT_FET_SHORT = false ∧ (t.pch 5).offAt + 101000000 ≤ t.uptime
       ∧ 12000 < (sample 10 23500).mv.toNat)
    ∧ (let t := sampled ((pch 0 none).set (pchBase 5) PCH_STAT_FET_SHORT 1) (sample 10 500)
       t.flag (pchBase 5) PCH_STAT_FET_SHORT = true ∧ (sample 10 500).mv.toNat < 12000)
    ∧ (let s := pch 4 (some 5)
       s.pchState 5 = 4 ∧ (s.pch 5).rising = some 5 ∧ 5 + 1000 * s.get (pchBase 5) PCH_GATE_RISE_US ≤ s.uptime)
    ∧ (pch 6 none).pchState 5 = 6 ∧ ((pch 6 none).pch 5).retryEnd ≤ (pch 6 none).uptime
    ∧ (pch 5 none).pchState 5 = 5 ∧ ((pch 5 none).pch 5).since + 60 * nsPerSec ≤ (pch 5 none).uptime
    ∧ (powered.pch 5).imageAt + 1000000 * powered.get (pchBase 5) PCH_PIMG_MS ≤ powered.uptime
    ∧ whoRing .xspi = false ∧ powered.fenced (.pedie (5 / 32)) = false ∧ powered.writeStatus 0 (pchBase 5) 4 false = 0 := by
  decide +kernel

theorem test_meets_ChannelRows_retry :
    (powered.get (pchBase 5) PCH_STAT_RETRY_CNT < (powered.set (pchBase 5) PCH_RETRY_MAX 3).get (pchBase 5) PCH_RETRY_MAX)
    ∧ (powered.set (pchBase 5) PCH_RETRY_MAX 0).get (pchBase 5) PCH_RETRY_MAX
      ≤ (powered.set (pchBase 5) PCH_RETRY_MAX 0).get (pchBase 5) PCH_STAT_RETRY_CNT := by decide +kernel

/-- Channel 5 commanded on in a state. -/
def on (n : Nat) : State := (pch n none).set (pchBase 5) PCH_CTRL_EN 1

theorem test_meets_ChannelRows_follow :
    (let s := powered.set (pchBase 5) PCH_CTRL_PRES_EN 1
     s.pchLoad 5 = none)
    ∧ (let s := (powered.set (pchBase 5) PCH_CTRL_PRES_EN 0).setPch 5 { powered.pch 5 with enAt := powered.uptime }
       s.pchLoad 5 = some s.uptime ∧ s.uptime < s.uptime + 1000000 * s.get (pchBase 5) PCH_INSERT_MS)
    ∧ (let s := powered.set (pchBase 5) PCH_CTRL_PRES_EN 0
       s.pchLoad 5 = some 0 ∧ 0 + 1000000 * s.get (pchBase 5) PCH_INSERT_MS ≤ s.uptime)
    ∧ (on 5).pchCommanded 5 = true ∧ 4 ≤ (on 5).pchState 5 ∧ (on 1).pchCommanded 5 = true ∧ (on 1).pchState 5 < 4
    ∧ (pch 0 none).pchCommanded 5 = false ∧ (pch 0 none).pchState 5 = 0
    ∧ (pch 5 none).pchCommanded 5 = false ∧ (pch 5 none).pchState 5 ≠ 0 ∧ (pch 5 none).pchState 5 ≠ 7 := by decide +kernel

/-- The other edge of each clause of the feeds: a feed that turns, an overvoltage that lasts, no next feed, and a next feed
lost in the dead time. -/
theorem test_meets_FeedRows_other :
    (let t := ((powered.feedTake 0 24000).feedTake 1 0).feedTake 2 0
     ([0, 1, 2].filter fun f => t.feedJudge f != t.qualified f) = [])
    ∧ (let s := powered.setFeed 0 { powered.feed 0 with outSince := some 0 }
       let t := ((s.feedTake 0 0).feedTake 1 0).feedTake 2 0
       ([0, 1, 2].filter fun f => t.feedJudge f != t.qualified f) = [0])
    ∧ (let s := (powered.set feedReg FEED_STAT_UV_HOLD 1).set feedReg FEED_STAT_QUALIFIED 0
       let s := s.setFeed 0 { s.feed 0 with outSince := some 0 }
       let u := ((s.feedTake 0 60000).feedTake 1 0).feedTake 2 0
       ([0, 1, 2].filter fun f => u.feedJudge f != u.qualified f) = []
       ∧ u.flag feedReg FEED_STAT_UV_HOLD = true ∧ u.selected = 0 ∧ (u.feed 0).above = true ∧ (u.feed 0).outSince = some 0
       ∧ 0 + 1000 * u.get (feedBase 0) FEED_QUAL_DISQ_US ≤ u.uptime)
    ∧ (let s := powered.setSel { powered.power.sel with phase := .breaking 0, next := 3 }
       s.power.sel.phase = .breaking 0 ∧ s.power.sel.next = 3)
    ∧ (let s := (selecting (.dead 0)).set feedReg FEED_STAT_QUALIFIED 0
       s.power.sel.phase = .dead 0 ∧ 0 + 1000 * s.get feedReg FEED_DEAD_US ≤ s.uptime
       ∧ s.qualified s.power.sel.next = false) := by decide +kernel

/-- The other edge of each clause of the channels: presence that has not changed, a fast trip in each state, and a write of
EN by the command port. -/
theorem test_meets_ChannelRows_other :
    powered.flag (pchBase 5) PCH_STAT_PRESENT = false
    ∧ (sampled (pch 4 none) (sample 60000 0)).pchState 5 = 4 ∧ (sampled (pch 5 none) (sample 60000 0)).pchState 5 = 5
    ∧ (sampled (pch 0 none) (sample 60000 0)).pchState 5 = 0 ∧ [sample 10 500] ≠ [] ∧ powered.sys.up = true
    ∧ powered.inHeld = false := by decide +kernel

/-! ### Witnesses: chapter 15 -/

/-- The hub with its upstream port at high speed, configured. -/
def usb : State :=
  ((up.set usbBase USB_STAT_UP_STATE 3).set usbBase USB_STAT_UP_HS 1)

theorem test_meets_UsbPortRows :
    usb.usbLive = true
    ∧ (let s := usb.setPbit 2 8 true
       s.pbit 2 8 = true ∧ (s.uport 2).good = false
       ∧ (s.uport 2).pwrAt + 2000000 * max 1 (s.get usbBase USB_HUBCFG_PWRGOOD_2MS) ≤ s.uptime)
    ∧ (usb.setPbit 2 3 true).pbit 2 3 = true
    ∧ (let s := (usb.setPbit 2 8 true).setUport 2 { usb.uport 2 with ocAt := some usb.uptime }
       s.pbit 2 8 = true ∧ s.mayReport (s.uport 2).ocAt = false)
    ∧ (let s := usb.setUport 2 { usb.uport 2 with resetAt := some 0 }
       (s.uport 2).resetAt = some 0 ∧ 0 + 15000000 ≤ s.uptime)
    ∧ (let s := usb.setUport 2 { usb.uport 2 with resume := some (0, true) }
       (s.uport 2).resume = some (0, true) ∧ 0 + 20000000 ≤ s.uptime)
    ∧ (usb.set usbBase USB_STAT_UP_STATE 4).upState = 4
    ∧ (let s := usb.setPbit 2 2 true
       s.upState ≠ 4 ∧ s.pbit 2 2 = true ∧ (s.uport 2).resume = none)
    ∧ (let t := (usb.withUsb fun u => { u with hubPrev := usb.upState }).set usbBase USB_STAT_UP_STATE 4
       let t := (t.bump usbBase USB_SUSPENDS).evt usbBase USB_EVT 1
       usb.upState ≠ 0 ∧ usb.upState ≠ 4 ∧ t.mgmtState = 0)
    ∧ (usb.set usbBase USB_STAT_UP_STATE 4).usb.upK = none := by decide +kernel

theorem test_meets_UsbPortRows_requests :
    (let s := (usb.setPbit 2 8 true).setPbit 2 0 true
     let t := s.ctrlAbandon true
     s.upState = 3 ∧ t.pbit 2 8 = true ∧ t.pbit 2 0 = true)
    ∧ (usb.ctrlAbandon true).portsQuiet 0 = true ∧ 1 ≤ (4#8).toNat ∧ (4#8).toNat ≤ 5
    ∧ ((usb.setPbit 2 1 true).ctrlAbandon true).pbit 2 1 = true
    ∧ ((usb.setPbit 2 2 true).ctrlAbandon true).pbit 2 2 = true ∧ ((usb.ctrlAbandon true).uport 2).resume = none
    ∧ (let s := usb.set usbBase USB_STAT_UP_STATE 2
       s.usbLive = true ∧ s.upState ≠ 0 ∧ s.upState ≠ 4 ∧ s.upState ≠ 3) := by decide +kernel

/-- Port 2 is enabled. -/
def split : State := usb.setPbit 2 1 true

/-- A split transaction. -/
def splitTx (periodic : Bool) : SplitTx := { periodic := periodic, ep := 0x11, len := 64, result := none }

/-- A transaction of the translator. -/
def ttEntry (frame : Nat) (aged : Bool) : TtEntry := { port := 2, ep := 0x11, len := 64, frame := frame, aged := aged }

theorem test_meets_UsbTransferRows_split :
    split.upHs = true ∧ split.upState = 3 ∧ split.pbit 2 1 = true ∧ (splitTx true).periodic = true
    ∧ ((split.tt (split.ttOf 2)).per.filter fun e => !e.aged).length < 16 ∧ (splitTx false).periodic = false
    ∧ (split.tt (split.ttOf 2)).non.length < 2
    ∧ (let s := split.setTt (split.ttOf 2) { per := List.replicate 16 (ttEntry 5 false) }
       s.pbit 2 1 = true ∧ 16 ≤ ((s.tt (s.ttOf 2)).per.filter fun e => !e.aged).length)
    ∧ (let s := split.setTt (split.ttOf 2) { non := [(2, 0x11), (3, 0x11)] }
       s.pbit 2 1 = true ∧ 2 ≤ (s.tt (s.ttOf 2)).non.length ∧ (s.tt (s.ttOf 2)).non.contains (2, (splitTx false).ep.toNat) = true)
    ∧ (let s := split.setTt (split.ttOf 2) { per := [ttEntry 5 true] }
       ((s.tt (s.ttOf 2)).per.find? fun e => e.port == 2 && e.ep == 0x11) = some (ttEntry 5 true))
    ∧ (let s := split.setTt (split.ttOf 2) { per := [ttEntry 5 false] }
       ((s.tt (s.ttOf 2)).per.find? fun e => e.port == 2 && e.ep == 0x11 && !e.aged && decide (e.frame < s.usbFrame))
         = some (ttEntry 5 false)) := by decide +kernel

/-- A SETUP. -/
def setup (hub : Bool) (val idx : Nat) (whole : Bool) : UsbSetup :=
  { hub := hub, rt := 0x02, rq := 3, val := BitVec.ofNat 16 val, idx := BitVec.ofNat 16 idx, len := 0, whole := whole }

/-- The management device configured too. -/
def mgmt : State := (usb.set usbBase USB_MGMT_CONNECT 1).set usbBase USB_MGMT_STATE 3

theorem test_meets_UsbTransferRows_setup :
    (let u := setup true 1 0 true
     usb.setupReaches u.hub = true ∧ u.whole = true ∧ u.hub = true ∧ u.val.toNat ≤ 1 ∧ 2 ≤ (usb.ctrlAbandon u.hub).upState)
    ∧ (let u := setup false 1 1 true
       mgmt.setupReaches u.hub = true ∧ u.whole = true ∧ u.hub = false ∧ u.val.toNat ≤ 1 ∧ 2 ≤ (mgmt.ctrlAbandon u.hub).mgmtState
       ∧ (mgmt.ctrlAbandon u.hub).mgmtState = 3 ∧ u.idx.toNat = 1 ∧ epThere u.hub (epCode u.hub u.idx.toNat) = true
       ∧ (mgmt.ctrlAbandon u.hub).devState u.hub = 3)
    ∧ epThere false (epCode false 7) = false ∧ (setup false 0 0 false).whole = false
    ∧ (let s := ((usb.set usbBase USB_HUBCFG_EN 1).set usbBase USB_STAT_VBUS 1)
       s.usbPull = true)
    ∧ mgmt.upState = 3 ∧ mgmt.usbLive = true ∧ mgmt.flag usbBase USB_MGMT_CONNECT = true := by decide +kernel

/-- A reply that waits for the xSPI, with that source of the interrupt enabled. -/
def fresh : State := { mgmt with cmd := { mgmt.cmd with xspi := [answer], usb := [answer] } }

theorem test_meets_UsbEndpointRows_wake :
    (let s := fresh.set usbBase USB_EP3_MASK_MASK 1
     s.usbLive = true ∧ s.freshPend ≠ 0)
    ∧ (let s := (((fresh.set usbBase USB_EP3_MASK_MASK 1).set usbBase USB_MGMT_STATE 4).set usbBase USB_MGMT_MRWAKE 1).set usbBase
         USB_MGMT_WAKE_EN 1
       s.mgmtState = 4 ∧ s.usb.suspAt + 5000000 ≤ s.uptime ∧ s.flag usbBase USB_MGMT_MRWAKE = true
       ∧ s.flag usbBase USB_MGMT_WAKE_EN = true ∧ s.freshPend ≠ 0) := by decide +kernel

theorem test_meets_UsbEndpointRows :
    mgmt.epLive = true ∧ mgmt.epHalted 0x01 = false ∧ mgmt.usb.rx.length < 2 ∧ mgmt.epHalted 0x02 = false ∧ mgmt.usb.reqs.length < 16
    ∧ mgmt.usb.write = none
    ∧ 2 ≤ (mgmt.withUsb fun u => { u with rx := [[], []] }).usb.rx.length
    ∧ (mgmt.withUsb fun u => { u with halted := [0x02] }).epHalted 0x02 = true
    ∧ fresh.cmd.usb = answer :: [] ∧ fresh.epHalted 0x81 = false
    ∧ (let r : UsbResp := { tag := 1, addr := 0, len := 0, code := 0, data := [], salvaged := false, slot := none }
       (mgmt.withUsb fun u => { u with resps := [r] }).usb.resps = r :: [])
    ∧ (mgmt.withUsb fun u => { u with reports := [(1, 0, 1)] }).usb.reports = (1, 0, 1) :: []
    ∧ (let s := mgmt.set usbBase USB_MGMT_ISO_ALT 1
       s.flag usbBase USB_MGMT_ISO_ALT = true ∧ s.dueSlots = [])
    ∧ (up.set usbBase USB_MGMT_CONNECT 0).flag usbBase USB_MGMT_CONNECT = false ∧ mgmt.flag usbBase USB_MGMT_CONNECT = true := by decide +kernel

/-- The other edge of each clause of the ports: quiet over-current and power, a note due, a second wake merged, suspension
with and without the management device, and a resume a device began. -/
theorem test_meets_UsbPortRows_other :
    (let s := usb.setPbit 2 8 true
     s.pbit 2 8 = true ∧ s.mayReport (s.uport 2).ocAt = true)
    ∧ (let s := (usb.setPbit 2 8 false).setPbit 2 3 true
       s.pbit 2 8 = false ∧ s.pbit 2 3 = true) ∧ (usb.setPbit 2 3 false).pbit 2 3 = false
    ∧ (let s := (usb.setPbit 2 2 true).setUport 2 { usb.uport 2 with resume := some (0, true) }
       s.upState ≠ 4 ∧ s.pbit 2 2 = true ∧ (s.uport 2).resume = some (0, true))
    ∧ (let s := (usb.setPbit 2 2 true).setUport 2 { usb.uport 2 with resume := some (0, false) }
       s.upState ≠ 4 ∧ (s.uport 2).resume = some (0, false) ∧ s.pbit 2 2 = true)
    ∧ usb.upState ≠ 4 ∧ usb.pbit 2 2 = false
    ∧ (let t := (mgmt.withUsb fun u => { u with hubPrev := mgmt.upState }).set usbBase USB_STAT_UP_STATE 4
       let t := (t.bump usbBase USB_SUSPENDS).evt usbBase USB_EVT 1
       mgmt.upState ≠ 0 ∧ mgmt.upState ≠ 4 ∧ t.mgmtState ≠ 0 ∧ t.mgmtState ≠ 4) := by decide +kernel

theorem test_meets_UsbRequestRows_other :
    (usb.ctrlAbandon true).pbit 2 8 = false ∧ (usb.ctrlAbandon true).pbit 2 1 = false ∧ (usb.ctrlAbandon true).pbit 2 2 = false
    ∧ (((usb.setPbit 2 8 true).setPbit 2 1 true).ctrlAbandon true).portsQuiet 0 = false ∧ 5 < (6#8).toNat
    ∧ (mgmt.ctrlAbandon true).mgmtState = 3 ∧ (usb.ctrlAbandon true).mgmtState = 0
    ∧ (let t := ((usb.setPbit 2 2 true).setUport 2 { usb.uport 2 with resume := some (0, false) }).ctrlAbandon true
       t.pbit 2 2 = true ∧ (t.uport 2).resume = some (0, false)) := by decide +kernel

theorem test_meets_SplitRows_other :
    (let s := split.setTt (split.ttOf 2) { per := [{ ttEntry 5 false with len := 1880 }] }
     s.pbit 2 1 = true
     ∧ 1880 < (((s.tt (s.ttOf 2)).per.filter fun e => !e.aged).map (·.len)).sum + (splitTx true).len.toNat)
    ∧ (split.tt (split.ttOf 2)).non.contains (2, (splitTx false).ep.toNat) = false
    ∧ ((split.tt (split.ttOf 2)).per.find? fun e => e.port == 2 && e.ep == (splitTx true).ep.toNat) = none
    ∧ ((split.tt (split.ttOf 2)).per.find? fun e =>
        e.port == 2 && e.ep == 0x11 && !e.aged && decide (e.frame < split.usbFrame)) = none
    ∧ usb.upHs = true ∧ usb.pbit 2 1 = false := by decide +kernel

theorem test_meets_SetupRows_other :
    1 < (setup true 2 0 true).val.toNat
    ∧ (let u := setup false 0 0 true
       mgmt.setupReaches u.hub = true ∧ (mgmt.ctrlAbandon u.hub).mgmtState = 3 ∧ u.idx.toNat = 0 ∧ u.val.toNat = 0)
    ∧ (let u := setup true 1 0 true
       (usb.ctrlAbandon u.hub).upState = 3 ∧ u.idx.toNat = 0 ∧ u.val.toNat ≤ b2n (usb.ctrlAbandon u.hub).upHs)
    ∧ (let s := usb.set usbBase USB_STAT_UP_STATE 2
       s.setupReaches true = true ∧ (s.ctrlAbandon true).devState true ≠ 3)
    ∧ (let s := usb.set usbBase USB_STAT_UP_STATE 1
       s.setupReaches true = true ∧ (s.ctrlAbandon true).devState true < 2)
    ∧ 1 < (setup false 0 2 true).idx.toNat ∧ usb.setupReaches true = true := by decide +kernel

theorem test_meets_UsbEndpointRows_other :
    (mgmt.withUsb fun u => { u with halted := [0x01, 0x81, 0x82, 0x83] }).epHalted 0x01 = true
    ∧ (mgmt.withUsb fun u => { u with halted := [0x81] }).epHalted 0x81 = true
    ∧ (mgmt.withUsb fun u => { u with halted := [0x82] }).epHalted 0x82 = true
    ∧ (mgmt.withUsb fun u => { u with halted := [0x83] }).epHalted 0x83 = true
    ∧ mgmt.epHalted 0x82 = false ∧ mgmt.epHalted 0x83 = false ∧ mgmt.cmd.usb = [] ∧ mgmt.usb.resps = [] ∧ mgmt.usb.reports = []
    ∧ (let q : UsbReq := { op := 0, len := 4, tag := 1, addr := 0, data := [], ladle := none }
       16 ≤ (mgmt.withUsb fun u => { u with reqs := List.replicate 16 q }).usb.reqs.length)
    ∧ mgmt.flag usbBase USB_MGMT_ISO_ALT = false ∧ up.epLive = false ∧ (up.usbLive = false ∨ up.freshPend = 0) := by decide +kernel

/-! ### Witnesses: chapter 16 -/

/-- Port `p` attached as Source (2) or Sink (3). -/
def pd (p n : Nat) : State := up.set (pdBase p) PD_PSTAT_TC_STATE n

/-- Port `p` with other hidden state. -/
def pdWith (s : State) (p : Nat) (f : PdPort → PdPort) : State := s.setPd p (f (s.pd_ p))

theorem test_meets_PdPortRows :
    up.pdLive = true
    ∧ (let s := up.set (pdBase 1) PD_PCFG_EN 1
       s.flag (pdBase 1) PD_PCFG_EN = true ∧ s.tcState 1 = 0 ∧ s.roleOk 1 true = true)
    ∧ (let s := ((up.set (pdBase 1) PD_PCFG_EN 1).set (pdBase 1) PD_PCFG_ROLES 2).set pdAll PD_POL_STAT_RUNNING 2
       s.flag (pdBase 1) PD_PCFG_EN = true ∧ s.get (pdBase 1) PD_PCFG_ROLES = 2 ∧ s.polImage = true ∧ s.tcState 1 = 0
       ∧ (s.pd_ 1).rpAt + 37500000 ≤ s.uptime)
    ∧ (pd 1 2).pdSource 1 = true ∧ (pd 1 2).flag (pdBase 1) PD_PSTAT_IN_TRANSITION = false
    ∧ (pd 0 3).pdSource 0 = false ∧ (pd 0 3).pdSink 0 = true ∧ (pd 0 3).flag (pdBase 0) PD_PSTAT_IN_TRANSITION = false
    ∧ (let s := pdWith (pd 1 2) 1 fun x => { x with disch := true, leaving := true }
       (s.pd_ 1).disch = true ∧ (s.pd_ 1).leaving = true)
    ∧ (let s := pdWith (pd 1 2) 1 fun x => { x with disch := true, starting := true }
       (s.pd_ 1).disch = true ∧ (s.pd_ 1).leaving = false ∧ s.tcState 1 ≠ 5 ∧ (s.pd_ 1).starting = true)
    ∧ bitsOf (([0x40#32] : List Word).headD 0) 6 2 = 1
    ∧ ((pdWith up 1 fun x => { x with msg := some ([], 2) }).pd_ 1).msg = some ([], 2)
    ∧ ((pdWith up 1 fun x => { x with msg := some ([], 3) }).pd_ 1).msg = some ([], 3) := by decide +kernel

/-- A transition of port 1 to 9 V, accepted at reset. -/
def step9 (started : Option Nat) : PdTrans := { mv := 9000, ma := 3000, kind := 0, at_ := 0, started := started }

theorem test_meets_PdContractRows :
    (let s := pdWith (pd 1 2) 1 fun x => { x with trans := some (step9 none) }
     (s.pd_ 1).trans = some (step9 none) ∧ (step9 none).started = none ∧ (step9 none).at_ + 30000000 ≤ s.uptime)
    ∧ (let s := pdWith (pd 1 2) 1 fun x => { x with trans := some (step9 (some 5)), srcEn := true, target := 9000 }
       (s.pd_ 1).srcEn = true ∧ s.inWindow 1 9000 = true ∧ s.inWindow 1 5000 = false ∧ (s.pd_ 1).trans = some (step9 (some 5))
       ∧ (step9 (some 5)).started.isSome = true)
    ∧ (let s := ((pdWith (pd 1 2) 1 fun x => { x with srcEn := true, ocSince := some 0 }).set (pdBase 1) PD_PSTAT_CONTRACT 1).set (pdBase 1)
         PD_CONTRACT_MA 1000
       let t := s.pdMean 1 5000 900
       t.pdLive = true ∧ t.pdSource 1 = true ∧ (t.pd_ 1).srcEn = true ∧ t.flag (pdBase 1) PD_PSTAT_CONTRACT = true
       ∧ t.get (pdBase 1) PD_PSTAT_KIND ≠ 1 ∧ 900 * 100 ≤ t.get (pdBase 1) PD_XCFG_OCP_PCT * t.get (pdBase 1) PD_CONTRACT_MA)
    ∧ (let s := ((pdWith (pd 1 2) 1 fun x => { x with srcEn := true, ocSince := some 0 }).set (pdBase 1) PD_PSTAT_CONTRACT 1).set (pdBase 1)
         PD_CONTRACT_MA 1000
       let t := s.pdMean 1 5000 5000
       t.pdLive = true ∧ t.pdSource 1 = true ∧ (t.pd_ 1).srcEn = true ∧ t.flag (pdBase 1) PD_PSTAT_CONTRACT = true
       ∧ t.get (pdBase 1) PD_PSTAT_KIND ≠ 1 ∧ t.get (pdBase 1) PD_XCFG_OCP_PCT * t.get (pdBase 1) PD_CONTRACT_MA < 5000 * 100
       ∧ (t.pd_ 1).ocSince = some 0 ∧ 0 + 1000000 * t.get (pdBase 1) PD_XCFG_OCP_MS ≤ t.uptime)
    ∧ (pd 0 3).pdSink 0 = true ∧ (([0x05000000#32] : List Word).headD 0).toNat / 2 ^ 24 = 5
    ∧ (let s := (pd 1 2).set (pdBase 1) PD_PSTAT_EPR_MODE 1
       s.pdSource 1 = true ∧ s.flag (pdBase 1) PD_PSTAT_EPR_MODE = true ∧ (s.pd_ 1).kaAt + nsPerSec ≤ s.uptime)
    ∧ (let s := ((pd 0 3).set (pdBase 0) PD_PSTAT_CONTRACT 1).set (pdBase 0) PD_PSTAT_KIND 1
       s.pdSink 0 = true ∧ s.flag (pdBase 0) PD_PSTAT_CONTRACT = true ∧ s.get (pdBase 0) PD_PSTAT_KIND = 1
       ∧ (s.pd_ 0).reqAt + 8 * nsPerSec ≤ s.uptime)
    ∧ (let s := (pd 0 3).set (pdBase 0) PD_PSTAT_EPR_MODE 1
       s.pdSink 0 = true ∧ s.flag (pdBase 0) PD_PSTAT_EPR_MODE = true ∧ (s.pd_ 0).kaAt + 400000000 ≤ s.uptime) := by decide +kernel

/-- A role swap. -/
def swap (kind : Nat) (own taken : Bool) : PdSwap := { kind := kind, own := own, taken := taken, waits := 0, yielded := false }

/-- A Request. -/
def ask (taken : Bool) : PdAsk := { mv := 9000, ma := 1000, kind := 0, taken := taken, waits := 0 }

theorem test_meets_PdContractRows_swap :
    (let s := (pd 0 2).set (pdBase 0) PD_PSTAT_DFP 1
     s.pdSource 0 = true ∧ (s.pd_ 0).swap = none ∧ (s.swapVerdict 0 2).1 = true ∧ (s.swapVerdict 0 1).1 = false
     ∧ (s.swapVerdict 0 3).1 = false)
    ∧ (let s := pdWith (pd 0 2) 0 fun x => { x with swap := some (swap 1 false false) }
       (s.pd_ 0).swap = some (swap 1 false false) ∧ (swap 1 false false).own = false)
    ∧ (let s := pdWith (pd 0 2) 0 fun x => { x with swap := some (swap 1 true false) }
       (s.pd_ 0).swap = some (swap 1 true false) ∧ (swap 1 true false).own = true ∧ (swap 1 true false).taken = false)
    ∧ (let s := pdWith (pd 0 2) 0 fun x => { x with swap := some (swap 1 true true) }
       (s.pd_ 0).swap = some (swap 1 true true) ∧ (swap 1 true true).taken = true ∧ s.pdSource 0 = true)
    ∧ (let s := pdWith (pd 0 3) 0 fun x => { x with ask := some (ask false) }
       (s.pd_ 0).swap = none ∧ (s.pd_ 0).ask = some (ask false) ∧ (ask false).taken = false)
    ∧ (let s := pdWith (pd 0 3) 0 fun x => { x with ask := some (ask true) }
       let t := ((s.setPd 0 { s.pd_ 0 with ask := none, kaAt := s.uptime }).contractOn 0 9000 1000 0).wakeRequest 0 0
       (s.pd_ 0).ask = some (ask true) ∧ t.flag (pdBase 0) PD_PCFG_EPR_EN = false)
    ∧ (let s := ((pdWith (pd 0 3) 0 fun x => { x with frs := true }).set pdAll PD_POL_STAT_RUNNING 2).set (pdBase 0) PD_PCFG_FRS_EN 1
       s.frsOn 0 = true ∧ s.pdSink 0 = true ∧ s.deadBatt 0 = false)
    ∧ (let s := ((pdWith (pd 0 2) 0 fun x => { x with frs := true, srcEn := true }).set pdAll PD_POL_STAT_RUNNING 2).set (pdBase 0)
         PD_PCFG_FRS_EN 1
       s.frsOn 0 = true ∧ s.pdSource 0 = true ∧ (s.pd_ 0).srcEn = true) := by decide +kernel

/-- The other edge of each clause: a port in Disabled discharges, one that has discharged without a start, no partner, no
message, no policy image. -/
theorem test_meets_PdPortRows_other :
    (let s := pdWith (pd 1 5) 1 fun x => { x with disch := true }
     (s.pd_ 1).disch = true ∧ s.tcState 1 = 5)
    ∧ (let s := pdWith (pd 1 2) 1 fun x => { x with disch := true }
       (s.pd_ 1).disch = true ∧ (s.pd_ 1).leaving = false ∧ s.tcState 1 ≠ 5 ∧ (s.pd_ 1).starting = false)
    ∧ bitsOf (([0#32] : List Word).headD 0) 6 2 ≠ 1 ∧ up.pdSource 1 = false ∧ up.pdSink 1 = false ∧ (up.pd_ 1).msg = none
    ∧ up.polImage = false ∧ (up.set pdAll PD_POL_STAT_RUNNING 2).polImage = true := by decide +kernel

/-- Port 1 as a source under a contract of 1 A of a kind. -/
def contract (kind : Nat) : State :=
  ((((pdWith (pd 1 2) 1 fun x => { x with srcEn := true }).set (pdBase 1) PD_PSTAT_CONTRACT 1).set (pdBase 1) PD_CONTRACT_MA 1000)).set
    (pdBase 1) PD_PSTAT_KIND kind

/-- The other edge of each clause of a contract: idle trims, a converter that has failed and one that has not, samples without
a contract, under an adjustable one and early in an over-current, and the EPR mode messages. -/
theorem test_meets_PdContractRows_other :
    (pd 1 2).pdSource 1 = true ∧ ((pd 1 2).pd_ 1).srcEn = false
    ∧ (let s := pdWith (pd 1 2) 1 fun x => { x with srcEn := true, target := 9000 }
       (s.pd_ 1).srcEn = true ∧ s.inWindow 1 9000 = true ∧ (s.pd_ 1).trans = none)
    ∧ (let s := pdWith (pd 1 2) 1 fun x => { x with trans := some (step9 (some 5)), srcEn := true }
       (s.pd_ 1).srcEn = true ∧ (s.pd_ 1).trans = some (step9 (some 5)) ∧ (step9 (some 5)).started = some 5
       ∧ 5 + 1000000 * s.get (pdBase 1) PD_XCFG_TRANS_MS ≤ s.uptime)
    ∧ (let t := (pd 1 2).pdMean 1 5000 900
       (t.pd_ 1).srcEn = false)
    ∧ (let t := (contract 1).pdMean 1 5000 900
       t.pdLive = true ∧ t.pdSource 1 = true ∧ (t.pd_ 1).srcEn = true ∧ t.flag (pdBase 1) PD_PSTAT_CONTRACT = true
       ∧ t.get (pdBase 1) PD_PSTAT_KIND = 1 ∧ 900 < t.get (pdBase 1) PD_CONTRACT_MA ∧ t.get (pdBase 1) PD_CONTRACT_MA ≤ 1000)
    ∧ (let t := (contract 0).pdMean 1 5000 5000
       t.get (pdBase 1) PD_PSTAT_KIND ≠ 1 ∧ t.get (pdBase 1) PD_XCFG_OCP_PCT * t.get (pdBase 1) PD_CONTRACT_MA < 5000 * 100
       ∧ t.uptime < (t.pd_ 1).ocSince.getD t.uptime + 1000000 * t.get (pdBase 1) PD_XCFG_OCP_MS)
    ∧ (let s := (pd 0 3).set pdAll PD_POL_STAT_RUNNING 2
       s.pdSink 0 = true ∧ s.polImage = true)
    ∧ (([0x03000000#32] : List Word).headD 0).toNat / 2 ^ 24 = 3 ∧ (([0x02000000#32] : List Word).headD 0).toNat / 2 ^ 24 = 2
    ∧ (([0x01000000#32] : List Word).headD 0).toNat / 2 ^ 24 = 1
    ∧ (pd 1 2).pdSink 1 = false ∧ (pd 1 2).eprOk 1 = false
    ∧ (let s := (contract 1)
       s.pdSource 1 = true ∧ s.flag (pdBase 1) PD_PSTAT_CONTRACT = true ∧ s.get (pdBase 1) PD_PSTAT_KIND = 1
       ∧ (s.pd_ 1).reqAt + 15 * nsPerSec ≤ s.uptime) := by decide +kernel

/-- A source granted the extended power range. -/
theorem test_meets_PdContractRows_epr :
    (let s := ((((contract 0).set (pdBase 1) PD_PCFG_EPR_EN 1).set (pdBase 1) PD_PSTAT_CABLE_EPR 1).set (pdBase 1)
       PD_PSTAT_CABLE_5A 1).set pdAll PD_POL_STAT_RUNNING 2
     s.pdSource 1 = true ∧ s.pdSink 1 = false ∧ s.eprOk 1 = true ∧ s.flag (pdBase 1) PD_PSTAT_CONTRACT = true) := by decide +kernel

/-- The other edge of each clause of the swaps. -/
theorem test_meets_PdSwapRows_other :
    up.pdSource 0 = false ∧ up.pdSink 0 = false ∧ (up.pd_ 0).swap = none ∧ (up.pd_ 0).ask = none
    ∧ (let s := pdWith (pd 0 3) 0 fun x => { x with swap := some (swap 1 true false) }
       (s.pd_ 0).swap = some (swap 1 true false) ∧ s.pdSource 0 = false ∧ s.pdSink 0 = true)
    ∧ (let w : PdSwap := { swap 1 true false with waits := 2 }
       ((pdWith (pd 0 2) 0 fun x => { x with swap := some w }).pd_ 0).swap = some w ∧ 2 ≤ w.waits)
    ∧ (swap 1 true false).waits < 2 ∧ (ask false).waits < 2
    ∧ (let a : PdAsk := { ask false with waits := 2 }
       ((pdWith (pd 0 3) 0 fun x => { x with ask := some a }).pd_ 0).ask = some a ∧ 2 ≤ a.waits)
    ∧ (let s := pdWith (pd 0 3) 0 fun x => { x with swap := some (swap 1 true true) }
       (s.pd_ 0).swap = some (swap 1 true true) ∧ s.pdSource 0 = false)
    ∧ (swap 3 true true).kind = 3 ∧ (swap 4 true true).kind = 4 ∧ (swap 3 true true).taken = true
    ∧ up.frsOn 0 = false := by decide +kernel

/-! ### Witnesses: chapter 17 -/

/-- SF-A is armed and tests its input 0, line 5 by line 6. -/
def testing : State := (up.set (sfBase 1) SF_CTRL_ARMED 1).wr (sfBase 1 + 0x40) 0x60505#32

/-- SF-E is armed with a ring-loss time of 1 s. -/
def ringGuard : State := (up.set (sfBase 0) SF_CTRL_ARMED 1).set (sfBase 0) SF_PARAM0_LOW 1000

theorem test_meets_SafetyRows :
    (let s := (guarded up).withCruc fun c => { c with inputs := [(5, 7, true)] }
     s.sfRuns = true ∧ s.flag crucBase CRUC_STAT_RESYNC = false ∧ s.cruc.inputs = (5, 7, true) :: [])
    ∧ ringGuard.ringLost = true
    ∧ (let s := (up.set (sfBase 0) SF_PARAM1_HB_EN 1).set (sfBase 0) SF_PARAM0_LOW 0x3FFF
       let s := s.withCruc fun c => { c with upAt := s.uptime, supAt := s.uptime }
       s.ringLost = false ∧ s.hbLapsed = true)
    ∧ (let s := (ringGuard.set (sfBase 0) SF_CTRL_TRIGGERED 1).withCruc fun c => { c with confirm := [0] }
       let t := s.withCruc fun c => { c with confirm := c.confirm.filter (· != 0) }
       s.cruc.confirm.contains 0 = true ∧ s.sfRuns = true ∧ t.sfTriggered 0 = true)
    ∧ testing.sfArmed 1 = true ∧ testing.sfRuns = true ∧ testing.sfTested ≠ [] ∧ testing.cruc.pulse = none
    ∧ testing.cruc.pulseAt + 1000 * testing.get (sfBase 1) SF_PARAM0_LOW ≤ testing.uptime
    ∧ (testing.withCruc fun c => { c with pulse := some 0 }).cruc.pulse = some 0
    ∧ 0 + 1000 * testing.get (sfBase 1) SF_PARAM0_HIGH ≤ testing.uptime
    ∧ (powered.die (5 / 32)).powered = true ∧ 5 < powered.nPch ∧ powered.fenced (.pedie (5 / 32)) = false
    ∧ powered.cruc.tripBad.contains (2 * 5 + 1) = false
    ∧ (let s := up.withCruc fun c => { c with paused := true }
       s.cruc.paused = true ∧ s.cruc.copies = [] ∧ s.cruc.later = []) := by decide +kernel

theorem test_meets_SafetyRows_trigger :
    up.sfArmed 0 = false ∧ ringGuard.sfArmed 0 = true ∧ ringGuard.sfTriggered 0 = false ∧ ringGuard.sfRuns = true ∧ ringGuard.votesWait = false
    ∧ (ringGuard.set crucBase CRUC_STAT_RESYNC 1).votesWait = true ∧ (ringGuard.set crucBase CRUC_STAT_RESYNC 1).sfArmed 0 = true
    ∧ (ringGuard.set crucBase CRUC_STAT_RESYNC 1).sfRuns = true ∧ (ringGuard.set crucBase CRUC_STAT_RESYNC 1).sfTriggered 0 = false
    ∧ (ringGuard.set (sfBase 0) SF_CTRL_TRIGGERED 1).sfTriggered 0 = true := by decide +kernel

/-- The Crucible with the lanes of a mask in control. -/
def lanesIn (m : Nat) : State := up.set crucBase CRUC_STAT_LANES m

/-- A word of a lane. -/
def lw (b : Byte) : Option LaneWord := some { bytes := [b], eop := true }

theorem test_meets_LaneRows :
    (lanesIn 7).lanes = [0, 1, 2] ∧ (lanesIn 3).lanes = [0, 1] ∧ lw 1 ≠ lw 2 ∧ lw 1 ≠ lw 3 ∧ lw 2 ≠ lw 3
    ∧ (up.withCruc fun c => { c with holdAt := some 5 }).cruc.holdAt = some 5
    ∧ (lanesIn 7).inControl 1 = true ∧ (lanesIn 7).votesWait = false
    ∧ (up.withCruc fun c => { c with dual := some (0, lw 1, 1, lw 2) }).cruc.dual = some (0, lw 1, 1, lw 2)
    ∧ laneClasses 0 0 0 0 = 0 ∧ laneClasses 3 0 0 0 ≠ 0 ∧ laneClasses 3 2 0 1 ≠ 0
    ∧ (up.withCruc fun c => { c with resync := some 2 }).cruc.resync = some 2 := by decide +kernel

/-- The other edge of each clause: no input waits, no tick is due, nothing is to confirm, SF-P with and without holds, the
input test between its pulses, and a trip test of a part without the channel. -/
theorem test_meets_SafetyRows_other :
    up.cruc.inputs = [] ∧ (up.withCruc fun c => { c with upAt := up.uptime, supAt := up.uptime }).ringLost = false
    ∧ (up.withCruc fun c => { c with upAt := up.uptime, supAt := up.uptime }).hbLapsed = false ∧ up.cruc.confirm.contains 0 = false
    ∧ (let s := ringGuard.withCruc fun c => { c with confirm := [0] }
       let t := s.withCruc fun c => { c with confirm := c.confirm.filter (· != 0) }
       s.cruc.confirm.contains 0 = true ∧ s.sfRuns = true ∧ s.sfTriggered 0 = false ∧ t.sfTriggered 0 = false)
    ∧ (let s := up.withCruc fun c => { c with confirm := [2] }
       s.cruc.confirm.contains 2 = true ∧ s.sfRuns = true ∧ s.cruc.holds = [])
    ∧ (let s := up.withCruc fun c => { c with confirm := [2], holds := [(0, 5, false)] }
       s.cruc.confirm.contains 2 = true ∧ s.cruc.holds ≠ [])
    ∧ up.sfArmed 1 = false ∧ up.cruc.pulse = none
    ∧ (let s := testing.withCruc fun c => { c with pulseAt := up.uptime }
       s.uptime < s.cruc.pulseAt + 1000 * s.get (sfBase 1) SF_PARAM0_LOW)
    ∧ (let s := testing.withCruc fun c => { c with pulse := some up.uptime }
       s.cruc.pulse = some up.uptime ∧ s.uptime < up.uptime + 1000 * s.get (sfBase 1) SF_PARAM0_HIGH)
    ∧ (up.die 0).powered = false
    ∧ (powered.withCruc fun c => { c with tripBad := [11] }).cruc.tripBad.contains (2 * 5 + 1) = true
    ∧ up.cruc.paused = false := by decide +kernel

/-- SF-P holds a channel it was told of while the functions were paused, and line 5 is kept in a copy. -/
theorem test_meets_SafetyRows_resume :
    (let s := up.withCruc fun c => { c with paused := true, later := [(0, 5)]
                                            copies := [{ line := 5, lcfg := 1#32, lfilt := 0#32, lcmp := 0#32, latch := true }] }
     s.cruc.paused = true ∧ s.cruc.copies ≠ [] ∧ s.cruc.later ≠ []) := by decide +kernel

theorem test_meets_LaneRows_other :
    (lanesIn 1).lanes = [0] ∧ (lanesIn 0).lanes = [] ∧ up.cruc.holdAt = none ∧ (lanesIn 0).inControl 1 = false
    ∧ up.cruc.resync ≠ some 2 ∧ up.cruc.dual = none ∧ (lanesIn 3).inControl 1 = true ∧ (lanesIn 3).votesWait = false
    ∧ (lanesIn 2).lanes = [1] ∧ (lanesIn 2).inControl 1 = true ∧ (lanesIn 2).votesWait = false
    ∧ laneClasses 0 2 0 0 = 0 ∧ laneClasses 0 2 0 1 ≠ 0 := by decide +kernel

/-! ### Witnesses: chapters 18 to 21 -/

/-- A fault taken in and not yet collected. -/
def raised : Raised :=
  { cls := .degrade, kind := .islandHang, source := 19, addr := 0, stamp := 0, detail := [0#8], forced := false, suspect := false
    since := 0 }

theorem test_meets_FaultRows :
    (let s : State := { up with fault := { up.fault with intake := [raised] } }
     firstRaised (s.fault.latches ++ s.fault.intake) = some raised ∧ raised.forced = false)
    ∧ (up.isl 19).givenUp = false ∧ (up.isl 19).inReset = false
    ∧ (let s := up.setIsl 20 { up.isl 20 with inReset := true }
       (s.isl 20).inReset = true ∧ (s.isl 20).givenUp = false ∧ (s.isl 20).since + 1000000 ≤ s.uptime) := by decide +kernel

/-- The boot script runs, with packets still to come. -/
def script (ps : List (List Byte)) : State := { up with cmd := { up.cmd with scriptRun := true, script := ps } }

/-- The hub in Standby since reset, waking or not. -/
def standby (woke : Option Nat) : State := up.withSys fun x => { x with standby := true, wokeAt := woke }

theorem test_meets_PowerRows :
    up.sys.up = true ∧ up.sys.warm = false ∧ up.sys.standby = false
    ∧ (script []).cmd.scriptRun = true ∧ ((script []).cmd.entries.any fun e => e.key.transport == .boot) = false ∧ (script []).cmd.script = []
    ∧ (script [zeros 16]).cmd.script = zeros 16 :: [] ∧ 16 + pktPlen (zeros 16) ≤ (zeros 16).length
    ∧ (let s := (up.set 0 SYS_PWR_STATE 1).withSys fun x => { x with idle := Tbl.put (fun _ => 0) x.idle 4 1 }
       s.get 0 SYS_PWR_STATE = 1 ∧ gateIslands.contains 4 = true ∧ s.gateCond 4 = true ∧ s.sys.gated.contains 4 = false
       ∧ Tbl.get (fun _ => 0) s.sys.idle 4 ≠ 0 ∧ Tbl.get (fun _ => 0) s.sys.idle 4 + 1000000 ≤ s.uptime + 1)
    ∧ (up.withSys fun x => { x with waking := [4] }).sys.waking.contains 4 = true
    ∧ (up.withSys fun x => { x with stby := some 5 }).sys.stby = some 5 ∧ 5 ≤ up.uptime
    ∧ (let s := (standby none).set aonBase AON_WAKE_EN_EN 1
       bitAt (s.get aonBase AON_WAKE_EN_EN) 0 = true ∧ s.sys.stby = none ∧ s.sys.standby = true ∧ s.sys.wokeAt = none)
    ∧ (standby (some 0)).sys.wokeAt = some 0 ∧ 0 + 1000000 ≤ (standby (some 0)).uptime
    ∧ (let s := up.set timeBase TIME_STAT_VALID 1
       s.timeValid = true ∧ s.sys.aonSec ≠ some (s.ring / nsPerSec)
       ∧ (s.withSys fun x => { x with aonSec := some (s.ring / nsPerSec) }).sys.aonSec = some (s.ring / nsPerSec))
    ∧ (standby none).sys.standby = true
    ∧ up.unitPresent (.pedie 1) = true := by decide +kernel

/-- An activation of the staged bundle is pending and due. -/
def pending : State :=
  ((up.set updBase UPD_STAT_STATE 4).set timeBase TIME_STAT_VALID 1).set updBase UPD_ACT_FLAGS_BUNDLE 1

/-- The reserve image is being copied, block `n` next. -/
def copying (n : Nat) : State :=
  (up.set updBase UPD_STAT_STATE 5).withUpd fun u => { u with copying := some n, reserve := [0#8] }

theorem test_meets_UpdateRows :
    (up.withUpd fun u => { u with writing := some [0#8] }).upd.writing = some [0#8]
    ∧ pending.time.stepFrom = none ∧ pending.actPending = true ∧ pending.timeValid = true ∧ pending.actAt ≤ pending.ring
    ∧ pending.upd.late = false ∧ pending.actAt ≤ pending.crucNow ∧ pending.flag updBase UPD_ACT_FLAGS_IMAGE = false
    ∧ pending.flag updBase UPD_ACT_FLAGS_BUNDLE = true ∧ pending.updRefusal none = 0
    ∧ (copying 0).upd.copying = some 0 ∧ (copying 0).copyGoes = true ∧ up.copyGoes = false ∧ copyBlocks (copying 0).upd.reserve ≤ 0 + 1
    ∧ (up.withUpd fun u => { u with calWrite := some ([], 5) }).upd.calWrite = some ([], 5) := by decide +kernel

theorem test_meets_UpdateRows_copy : ∃ r : List Byte, 0 + 1 < copyBlocks r :=
  ⟨zeros 65537, by unfold copyBlocks zeros; rw [List.length_replicate]; decide⟩

/-- The other edge of each clause: a fault that was forced, none at all, an island given up, one still in its reset. -/
theorem test_meets_FaultRows_other :
    (let r : Raised := { raised with forced := true }
     let s : State := { up with fault := { up.fault with intake := [r] } }
     firstRaised (s.fault.latches ++ s.fault.intake) = some r ∧ r.forced = true)
    ∧ firstRaised (up.fault.latches ++ up.fault.intake) = none
    ∧ ((up.setIsl 20 { up.isl 20 with givenUp := true }).isl 20).givenUp = true ∧ (up.isl 20).inReset = false
    ∧ (let s := up.setIsl 20 { up.isl 20 with inReset := true, since := up.uptime }
       (s.isl 20).inReset = true ∧ s.uptime < (s.isl 20).since + 1000000) := by decide +kernel

/-- The other edge of each clause: a warm reset already begun, no script, an island not due, nothing awaited, a wake that is
not enabled, one during the entry delay, no time, and a part without the second die. -/
theorem test_meets_PowerRows_other :
    (up.withSys fun x => { x with warm := true }).sys.warm = true ∧ held.inHeld = true ∧ (standby none).sys.standby = true
    ∧ up.cmd.scriptRun = false ∧ up.get 0 SYS_PWR_STATE ≠ 1 ∧ up.sys.waking.contains 4 = false ∧ up.sys.stby = none
    ∧ (let s := up.withSys fun x => { x with stby := some (up.uptime + 1) }
       s.sys.stby = some (up.uptime + 1) ∧ s.uptime < up.uptime + 1)
    ∧ (let s := (up.withSys fun x => { x with stby := some 5 }).set aonBase AON_WAKE_EN_EN 1
       bitAt (s.get aonBase AON_WAKE_EN_EN) 0 = true ∧ s.sys.stby.isSome = true ∧ s.sys.up = true)
    ∧ bitAt (up.get aonBase AON_WAKE_EN_EN) 0 = false ∧ up.sys.standby = false ∧ up.sys.wokeAt = none
    ∧ (standby (some up.uptime)).uptime < up.uptime + 1000000 ∧ up.timeValid = false
    ∧ ({ up with variant := .axh7232 } : State).unitPresent (.pedie 1) = false := by decide +kernel

/-- The other edge of each clause: nothing written, nothing pending, an activation not yet due and one that is refused, no copy
in progress, and a calibration write that has not ended. -/
theorem test_meets_UpdateRows_other :
    up.upd.writing = none ∧ up.actPending = false
    ∧ (let s := pending.set timeBase TIME_STAT_VALID 0
       s.actPending = true ∧ s.actWatch.timeValid = false)
    ∧ pending.actWatch.timeValid = true ∧ pending.actWatch.actAt ≤ pending.actWatch.crucNow
    ∧ pending.actWatch.upd.late = false ∧ pending.actWatch.updRefusal none = 0
    ∧ up.upd.copying = none ∧ (up.withUpd fun u => { u with calWrite := some ([], 5) }).uptime = 100000000000
    ∧ (let s := up.withUpd fun u => { u with calWrite := some ([], up.uptime + 1) }
       s.upd.calWrite = some ([], up.uptime + 1) ∧ s.uptime < up.uptime + 1) := by decide +kernel

/-! ### Witnesses: the commands

Each witness is a command that executes in a state, with the conditions of a clause of its statement. -/

/-- A selector: kind, index and sub-unit (R96). -/
def sel (kind idx : Nat) (sub : Nat := 0) : Nat := kind * 2 ^ 24 + sub * 2 ^ 16 + idx

/-- A command that executes: the state around it, opcode, unit selector, parameters, and the clause's conditions. -/
structure Case where
  state : State
  op : Nat
  unit : Nat
  ps : List Byte
  conds : State → CmdEntry → Bool

/-- Its state. -/
def Case.at_ (c : Case) : State := cmdOn c.state c.op c.unit c.ps
/-- Its entry. -/
def Case.entry (c : Case) : CmdEntry := Tests.entry c.op c.unit c.ps (.executing 0 none)

/-- The check of a witness. -/
def Case.ok (c : Case) : Bool :=
  c.at_.sys.up && !c.at_.inHeld && c.at_.entry key == some c.entry && pktOp c.entry.packet == c.op
    && pktPlen c.entry.packet == c.ps.length && !c.entry.dry && c.conds c.at_ c.entry

/-- What it shows. -/
def Case.Meets (c : Case) : Prop := c.at_.Executes key c.op c.ps.length c.entry ∧ c.conds c.at_ c.entry = true

theorem meets_all (l : List Case) (h : l.all Case.ok = true) : ∀ c ∈ l, c.Meets := by
  intro c hc
  have h := List.all_eq_true.mp h c hc
  simp only [Case.ok, Bool.and_eq_true, Bool.not_eq_true', beq_iff_eq] at h
  obtain ⟨⟨⟨⟨⟨⟨h1, h2⟩, h3⟩, h4⟩, h5⟩, h6⟩, h7⟩ := h
  exact ⟨⟨⟨h1, h2⟩, h3, h4, h5, h6, 0, rfl⟩, h7⟩

/-- No further conditions. -/
def any : State → CmdEntry → Bool := fun _ _ => true

/-- The state with a second command, accepted. -/
def second (s : State) : State :=
  let e : CmdEntry := { key := { key with tag := 5 }, order := 1, packet := packet 0 0 [], stamp := 0, since := 0, phase := .accepted }
  s.setEntries (s.cmd.entries ++ [e])

theorem test_meets_SystemCommands : ∀ c ∈ [
    (⟨up, 0x0000, 0, [], any⟩ : Case), ⟨up, 0x0001, 0, [], any⟩,
    ⟨up, 0x0002, 0, leBytes 4 5, fun s e =>
      let t := second s
      decide (e.arg 0 2 ≠ 0 ∧ e.arg 2 2 = 0 ∧ t.entry key = some e ∧ (t.entry { key with tag := 5 }).map (·.phase) = some .accepted
        ∧ (t.entry { key with tag := 5 }).map (fun x => pktOp x.packet) ≠ some 2 ∧ s.entry { key with tag := e.arg 0 2 } = none)⟩,
    ⟨up, 0x0004, sel 3 2 255, [], fun s e => unfenceUnit e.unit == some (.flask 2) && !s.fenced (.flask 2)⟩,
    ⟨up.setFence (.flask 2) true, 0x0004, sel 3 2 255, [], fun s e =>
      unfenceUnit e.unit == some (.flask 2) && s.fenced (.flask 2) && s.unfenceCode (.flask 2) 0 == 0 && s.unfenceCode (.flask 2) 1 != 0⟩,
    ⟨up, 0x0005, 0, [], fun s _ => !s.flag updBase UPD_STAT_IMG_WRITE⟩,
    ⟨up, 0x0006, 0, zeros 16, fun s e =>
      let t := (s.set 0 SYS_PWR_STBY_CANCELLED 0).withSys fun x => { x with named := true }
      decide (e.arg 0 1 < 2 ∧ e.arg 1 3 = 0 ∧ e.arg 5 3 = 0 ∧ e.arg 14 2 = 0 ∧ t.get 0 SYS_PWR_STATE = e.arg 0 1)⟩,
    ⟨up.set 0 SYS_PWR_STATE 1, 0x0006, 0, zeros 16, fun s e =>
      let t := (s.set 0 SYS_PWR_STBY_CANCELLED 0).withSys fun x => { x with named := true }
      decide (t.get 0 SYS_PWR_STATE < 2 ∧ t.get 0 SYS_PWR_STATE ≠ e.arg 0 1)⟩], c.Meets :=
  meets_all _ (by decide +kernel)

theorem test_meets_SystemCommands_lists : ∀ c ∈ [
    (⟨up, 0x0003, 0, leBytes 4 0 ++ leBytes 2 5 ++ zeros 2, fun _ e => decide (1 ≤ e.arg 4 2 ∧ e.arg 4 2 ≤ 127 ∧ e.arg 6 2 = 0)⟩ : Case),
    ⟨up, 0x8000, 0, leBytes 4 0x80000 ++ zeros 4, fun _ e =>
      ((List.range (e.ps.length / 8)).map fun i => (e.arg (8 * i) 4, e.arg (8 * i + 4) 4)).all fun p => listOffset p.1⟩,
    ⟨up, 0x8001, 0, leBytes 4 0x80000, fun _ e =>
      ((List.range (e.ps.length / 4)).map fun i => e.arg (4 * i) 4).all fun a => listOffset a && !popWord a⟩,
    ⟨up, 0x0100, 0, [], any⟩,
    ⟨up, 0x0101, 0, [], fun s _ => (List.range 16).all fun p =>
      !s.partMoves p (partDefault p).1 (partDefault p).2 || s.partStopped p⟩,
    ⟨up, 0x8100, 0, [15#8, 0#8] ++ leBytes 2 829 ++ leBytes 2 100, fun s e =>
      decide (e.arg 1 1 = 0 ∧ s.partRefused (e.arg 0 1) (e.arg 2 2) (e.arg 4 2) = 0)⟩,
    ⟨up, 0x8100, 0, [7#8, 0#8] ++ zeros 4, fun _ e => decide (e.arg 0 1 = 7 ∧ e.arg 1 1 = 0)⟩], c.Meets :=
  meets_all _ (by decide +kernel)

/-- The other edge of each clause: parameters out of range, units that are none, and a state that forbids the effect. -/
theorem test_meets_SystemCommands_refused : ∀ c ∈ [
    (⟨up, 0x0002, 0, zeros 4, fun _ e => decide (e.arg 0 2 = 0)⟩ : Case),
    ⟨up, 0x0004, 0, [], fun _ e => unfenceUnit e.unit == none⟩,
    ⟨up.set updBase UPD_STAT_IMG_WRITE 1, 0x0005, 0, [], fun s _ => s.flag updBase UPD_STAT_IMG_WRITE⟩,
    ⟨up, 0x0006, 0, [3#8] ++ zeros 15, fun _ e => decide (2 < e.arg 0 1)⟩,
    ⟨up.set (sfBase 1) SF_CTRL_ARMED 1, 0x0006, 0, [2#8] ++ zeros 15, fun s e =>
      let t := s.set 0 SYS_PWR_STBY_CANCELLED 0
      decide (e.arg 0 1 = 2 ∧ t.get 0 SYS_PWR_STATE ≠ 2 ∧ (t.powerTo 2 (e.arg 4 1) (e.arg 8 6)).1 ≠ 0)⟩,
    ⟨up, 0x0006, 0, [2#8, 0#8, 0#8, 0#8, 1#8] ++ zeros 11, fun s e =>
      let t := s.set 0 SYS_PWR_STBY_CANCELLED 0
      decide (e.arg 0 1 = 2 ∧ t.get 0 SYS_PWR_STATE ≠ 2 ∧ (t.powerTo 2 (e.arg 4 1) (e.arg 8 6)).1 = 0)⟩,
    ⟨up.set 0 SYS_PWR_STATE 2, 0x0006, 0, [2#8] ++ zeros 15, fun s e =>
      decide (e.arg 0 1 = 2 ∧ (s.set 0 SYS_PWR_STBY_CANCELLED 0).get 0 SYS_PWR_STATE = 2)⟩,
    ⟨up.set 0 SYS_PWR_STATE 2, 0x0006, 0, zeros 16, fun s e =>
      let t := (s.set 0 SYS_PWR_STBY_CANCELLED 0).withSys fun x => { x with named := true }
      decide (e.arg 0 1 < 2 ∧ t.get 0 SYS_PWR_STATE = 2)⟩,
    ⟨(up.set (ringBase 0) RING_PCTRL_RATE 1), 0x0006, 0, [1#8] ++ zeros 15, fun s e =>
      let t := (s.set 0 SYS_PWR_STBY_CANCELLED 0).withSys fun x => { x with named := true }
      decide (e.arg 0 1 = 1 ∧ t.get 0 SYS_PWR_STATE ≠ 1 ∧ t.economyOk = false)⟩], c.Meets :=
  meets_all _ (by decide +kernel)

theorem test_meets_ListCommands_refused : ∀ c ∈ [
    (⟨up, 0x0003, 0, zeros 8, fun _ e => decide (e.arg 4 2 = 0)⟩ : Case),
    ⟨up, 0x8000, 0, leBytes 4 2 ++ zeros 4, fun _ e => !listOffset (e.arg 0 4)⟩,
    ⟨up, 0x8001, 0, leBytes 4 2, fun _ e => !listOffset (e.arg 0 4)⟩,
    ⟨up, 0x8001, 0, leBytes 4 0x700010, fun _ e => listOffset (e.arg 0 4) && popWord (e.arg 0 4)⟩,
    ⟨(up.wr 0x104 0#32).wr 0x104 0x10005#32 |>.set (ctxBase 5) CTX_CTRL_EN 1, 0x0101, 0, [], fun s _ =>
      s.partMoves 1 (partDefault 1).1 (partDefault 1).2 && !s.partStopped 1⟩,
    ⟨up, 0x8100, 0, [15#8, 1#8] ++ zeros 4, fun _ e => decide (e.arg 1 1 ≠ 0)⟩,
    ⟨up, 0x8100, 0, [15#8, 0#8] ++ leBytes 2 1024 ++ zeros 2, fun s e =>
      decide (e.arg 1 1 = 0 ∧ s.partRefused (e.arg 0 1) (e.arg 2 2) (e.arg 4 2) ≠ 0)⟩], c.Meets :=
  meets_all _ (by decide +kernel)


/-- A command waits for its unit. -/
def waitOn (s : State) (op : Nat) (ps : List Byte) (a b : Nat) : State := cmdOn s op 0 ps (.executing 0 (some (.unit a b)))

theorem test_meets_RingCommands : ∀ c ∈ [
    (⟨up, 0x0200, 0, [], any⟩ : Case),
    ⟨portIn 0 3, 0x0201, 0, [1#8, 0#8, 0#8, 0#8], fun s e =>
      decide (e.arg 0 1 ≠ 0 ∧ e.arg 0 1 ≠ 255 ∧ e.arg 1 1 ≤ 1 ∧ e.arg 2 2 = 0) && s.ringUp 0⟩,
    ⟨up, 0x0201, 0, [1#8, 0#8, 0#8, 0#8], fun s _ => !s.ringUp 0⟩,
    ⟨up, 0x0202, sel 9 0, [1#8, 1#8, 0#8, 0#8], fun s e => (List.range 4).all (fun i => decide (e.arg i 1 ≤ 1)) && decide (s.pstate e.idx ≠ 4)⟩,
    ⟨portIn 0 4, 0x0202, sel 9 0, [1#8, 1#8, 0#8, 0#8], fun s e => decide (s.pstate e.idx = 4)⟩,
    ⟨up, 0x0203, sel 9 0, [1#8, 0#8] ++ leBytes 2 64 ++ leBytes 4 10, fun s e =>
      decide (e.arg 0 1 = 1 ∧ e.arg 1 1 ≤ 1 ∧ 64 ≤ e.arg 2 2 ∧ e.arg 2 2 ≤ s.get (ringBase e.idx) RING_MAXFRM_BYTES ∧ 1 ≤ e.arg 4 4
        ∧ e.arg 4 4 ≤ 1000000 ∧ ∀ p ∈ loopPorts e.idx 1, s.ringUp p = false)
        && ((waitOn up 0x0203 (zeros 8) 0 1).waiting key 0x0203).map (·.2) == some (0, 1)⟩,
    ⟨up, 0x8200, sel 9 1, zeros 16, fun _ e => e.ukind == 9 && e.ps.length == 16⟩,
    ⟨up, 0x8200, 0, zeros 20, fun _ e => e.ukind != 9 && e.ps.length == 20⟩,
    ⟨up, 0x0303, sel 9 0, zeros 14 ++ [1#8, 1#8], fun _ e => lmacConfigOk e && e.ukind == 9⟩,
    ⟨up, 0x0303, sel 10 0, zeros 6 ++ leBytes 2 1518 ++ leBytes 2 1 ++ leBytes 2 64 ++ leBytes 2 32 ++ [1#8, 1#8], fun _ e =>
      lmacConfigOk e && e.ukind != 9⟩,
    ⟨up, 0x0304, sel 11 5, [], fun _ e => e.ukind == 11⟩,
    ⟨up, 0x0304, sel 9 1, [], fun _ e => e.ukind != 11⟩], c.Meets :=
  meets_all _ (by decide +kernel)

/-- One entry of a gate list behind the times of a GCL_LOAD. -/
def gcl : List Byte := zeros 14 ++ leBytes 2 1 ++ leBytes 4 1000000 ++ [1#8] ++ zeros 3 ++ [255#8] ++ zeros 3 ++ leBytes 4 1000000

/-- The hub's time is valid. -/
def valid : State := up.set timeBase TIME_STAT_VALID 1

theorem test_meets_RingCommands_streams : ∀ c ∈ [
    (⟨up, 0x0300, sel 11 0, zeros 16, fun _ e => e.idx == 0⟩ : Case), ⟨up, 0x0301, sel 11 0, [], fun _ e => e.idx == 0⟩,
    ⟨up.set (ctxBase 5) CTX_CTRL_EN 1, 0x0300, sel 11 5, zeros 16, fun s e => e.idx != 0 && s.flag (ctxBase e.idx) CTX_CTRL_EN⟩,
    ⟨up, 0x0300, sel 11 5, [1#8, 1#8, 1#8, 1#8] ++ leBytes 2 1 ++ zeros 10, fun s e =>
      !s.flag (ctxBase e.idx) CTX_CTRL_EN && streamOpenOk e⟩,
    ⟨up, 0x0301, sel 11 5, [], fun _ e => e.idx != 0⟩, ⟨up, 0x8300, sel 11 5, zeros 28, fun _ e => e.idx != 0⟩,
    ⟨up, 0x8300, sel 11 0, zeros 28, fun _ e => e.idx == 0⟩,
    ⟨up, 0x8301, sel 11 5, zeros 8 ++ leBytes 4 65536 ++ leBytes 4 65536 ++ zeros 4, fun s e =>
      let most := s.largestMax (s.get (ctxBase e.idx) CTX_CTRL_PORTS)
      decide (e.arg 0 4 ≤ e.arg 4 4 ∧ e.arg 4 4 ≤ 50000000 ∧ most ≤ e.arg 8 4 ∧ e.arg 8 4 ≤ burstMax ∧ most ≤ e.arg 12 4
        ∧ e.arg 12 4 ≤ burstMax ∧ e.arg 16 1 < 32 ∧ e.arg 17 3 = 0)⟩,
    ⟨valid, 0x0302, sel 10 0, gcl, fun s e =>
      let m := e.arg 14 2
      decide (1 ≤ m ∧ m ≤ 256 ∧ e.ps.length = 24 + 8 * m) && gclOk e m && s.timeValid
        && !s.flag (schedBase e.port) SCHED_PCTRL_SWAP_LATCHED⟩], c.Meets :=
  meets_all _ (by decide +kernel)

/-- TIME_SCHEDULE at a second, with one write. -/
def schedule (sec : Nat) : List Byte :=
  leBytes 6 sec ++ leBytes 4 0 ++ [0#8, 1#8] ++ zeros 8 ++ leBytes 4 0x600000 ++ zeros 4

/-- Its action as it would be placed. -/
def placed (s : State) (e : CmdEntry) : Option (Nat × State) :=
  s.placeAction (e.arg 0 6 * nsPerSec + e.arg 6 4) (e.arg 12 4) (e.arg 16 4) (e.arg 10 1 == 1) (scheduleWrites e)

/-- Action 1, due at `t`. -/
def acting (t period : Nat) : Action :=
  { id := 1, at_ := t, period := period, repeat_ := 0, fired := 0, validOnly := false, writes := [], late := false }

theorem test_meets_TimeCommands : ∀ c ∈ [
    (⟨up, 0x0400, 0, [], any⟩ : Case),
    ⟨up, 0x0401, 0, zeros 8, fun _ e =>
      decide (e.arg 0 1 ≤ 1 ∧ e.arg 1 1 ≤ 1 ∧ e.arg 5 1 ≤ 4 ∧ e.arg 6 1 ≤ 127 ∧ e.arg 7 1 ≤ 1)⟩,
    ⟨up, 0x0402, 0, schedule 5, fun s e =>
      decide (1 ≤ e.arg 11 1 ∧ e.arg 11 1 ≤ 16 ∧ e.ps.length = 20 + 8 * e.arg 11 1 ∧ e.arg 0 6 * nsPerSec + e.arg 6 4 < s.ring + 10000)
        && scheduleOk e && (placed s e).isSome⟩,
    ⟨up, 0x0402, 0, schedule 500, fun s e =>
      decide (s.ring + 10000 ≤ e.arg 0 6 * nsPerSec + e.arg 6 4) && scheduleOk e && (placed s e).isSome⟩,
    ⟨{ up with time := { up.time with actions := (List.range 64).map fun i =>
        (i, some { id := i + 1, at_ := 5, period := 0, repeat_ := 0, fired := 0, validOnly := false, writes := [], late := false }) } },
      0x0402, 0, schedule 500, fun s e => scheduleOk e && (placed s e).isNone⟩,
    ⟨up, 0x0403, 0, leBytes 4 1, fun s e => decide (e.arg 2 2 = 0) && (s.actionList.find? fun p => p.2.id == e.arg 0 2).isNone⟩,
    ⟨up.setAction 0 (some (acting (2 ^ 50) 0)), 0x0403, 0, leBytes 4 1, fun s e =>
      (s.actionList.find? fun p => p.2.id == e.arg 0 2 && decide (s.ring < p.2.due)).isSome⟩,
    ⟨up.setAction 0 (some (acting 5 0)), 0x0403, 0, leBytes 4 1, fun s e =>
      (s.actionList.find? fun p => p.2.id == e.arg 0 2 && decide (p.2.due ≤ s.ring ∧ p.2.period = 0)).isSome⟩,
    ⟨up.setAction 0 (some (acting 5 50000)), 0x0403, 0, leBytes 4 1, fun s e =>
      (s.actionList.find? fun p => p.2.id == e.arg 0 2 && decide (p.2.due ≤ s.ring ∧ p.2.period ≠ 0)).isSome⟩,
    ⟨up.set timeBase TIME_STAT_STATE 3, 0x8400, 0, zeros 16, fun s _ => decide (s.timeState ≠ 0 ∧ s.timeState ≠ 4)⟩,
    ⟨up, 0x8400, 0, [1#8] ++ zeros 15, fun s e => decide (s.timeState = 0 ∧ e.arg 1 3 = 0) && (s.timeSet e).isSome⟩,
    ⟨up, 0x8400, 0, zeros 16, fun s e => decide (s.timeState = 0 ∧ e.arg 1 3 = 0) && (s.timeSet e).isNone⟩], c.Meets :=
  meets_all _ (by decide +kernel)

theorem test_meets_RingCommands_refused : ∀ c ∈ [
    (⟨up, 0x0201, 0, zeros 4, fun _ e => decide (e.arg 0 1 = 0)⟩ : Case),
    ⟨up, 0x0202, sel 9 0, [2#8, 0#8, 0#8, 0#8], fun _ e => decide (1 < e.arg 0 1)⟩,
    ⟨portIn 0 3, 0x0202, sel 9 0, [1#8, 1#8, 0#8, 0#8], fun s e =>
      (List.range 4).all (fun i => decide (e.arg i 1 ≤ 1)) && decide (s.pstate e.idx ≠ 4) && s.rateOnly e⟩,
    ⟨portIn 0 3, 0x0202, sel 9 0, [0#8, 1#8, 0#8, 0#8], fun s e => decide (s.pstate e.idx ≠ 4) && !s.rateOnly e⟩,
    ⟨up, 0x0203, sel 9 0, zeros 8, fun _ e => decide (e.arg 0 1 = 0)⟩,
    ⟨portIn 0 3, 0x0203, sel 9 0, [1#8, 0#8] ++ leBytes 2 64 ++ leBytes 4 10, fun s e =>
      decide (e.arg 0 1 = 1 ∧ e.arg 1 1 = 0 ∧ 64 ≤ e.arg 2 2 ∧ e.arg 2 2 ≤ s.get (ringBase e.idx) RING_MAXFRM_BYTES ∧ 1 ≤ e.arg 4 4)
        && (loopPorts e.idx 1).any fun p => s.ringUp p⟩,
    ⟨up, 0x8200, sel 9 1, zeros 20, fun _ e => e.ukind == 9 && e.ps.length == 20⟩,
    ⟨up, 0x8200, 0, zeros 16, fun _ e => e.ukind != 9 && e.ps.length == 16⟩,
    ⟨up, 0x0303, sel 10 0, zeros 16, fun _ e => !lmacConfigOk e⟩], c.Meets :=
  meets_all _ (by decide +kernel)

theorem test_meets_StreamCommands_refused : ∀ c ∈ [
    (⟨up, 0x0300, sel 11 5, zeros 16, fun s e => e.idx != 0 && !s.flag (ctxBase e.idx) CTX_CTRL_EN && !streamOpenOk e⟩ : Case),
    ⟨up, 0x8301, sel 11 5, leBytes 4 1 ++ zeros 16, fun _ e => decide (¬ e.arg 0 4 ≤ e.arg 4 4)⟩,
    ⟨valid, 0x0302, sel 10 0, zeros 24, fun _ e => decide (e.arg 14 2 = 0)⟩,
    ⟨valid, 0x0302, sel 10 0, gcl ++ zeros 8, fun _ e =>
      decide (1 ≤ e.arg 14 2 ∧ e.arg 14 2 ≤ 256 ∧ e.ps.length ≠ 24 + 8 * e.arg 14 2)⟩,
    ⟨valid, 0x0302, sel 10 0, zeros 14 ++ leBytes 2 1 ++ zeros 16, fun _ e =>
      decide (e.arg 14 2 = 1 ∧ e.ps.length = 24 + 8 * e.arg 14 2) && !gclOk e 1⟩,
    ⟨up, 0x0302, sel 10 0, gcl, fun s e => gclOk e (e.arg 14 2) && !s.timeValid⟩,
    ⟨valid.set (schedBase 2) SCHED_PCTRL_SWAP_LATCHED 1, 0x0302, sel 10 0, gcl, fun s e =>
      gclOk e (e.arg 14 2) && s.timeValid && s.flag (schedBase e.port) SCHED_PCTRL_SWAP_LATCHED⟩], c.Meets :=
  meets_all _ (by decide +kernel)

/-- TIME_SCHEDULE at a second, only while time is valid. -/
def scheduleValid (sec : Nat) : List Byte :=
  leBytes 6 sec ++ leBytes 4 0 ++ [1#8, 1#8] ++ zeros 8 ++ leBytes 4 0x600000 ++ zeros 4

theorem test_meets_TimeCommands_refused : ∀ c ∈ [
    (⟨up, 0x0401, 0, [2#8] ++ zeros 7, fun _ e => decide (¬ e.arg 0 1 ≤ 1)⟩ : Case),
    ⟨up, 0x0402, 0, zeros 20, fun _ e => decide (e.arg 11 1 = 0)⟩,
    ⟨up, 0x0402, 0, schedule 500 ++ zeros 8, fun _ e =>
      decide (1 ≤ e.arg 11 1 ∧ e.arg 11 1 ≤ 16 ∧ e.ps.length ≠ 20 + 8 * e.arg 11 1)⟩,
    ⟨up, 0x0402, 0, leBytes 6 5 ++ leBytes 4 1000000000 ++ [0#8, 1#8] ++ zeros 16, fun _ e =>
      decide (e.arg 11 1 = 1 ∧ e.ps.length = 20 + 8 * e.arg 11 1) && !scheduleOk e⟩,
    ⟨up, 0x0402, 0, scheduleValid 500, fun s e =>
      decide (s.ring + 10000 ≤ e.arg 0 6 * nsPerSec + e.arg 6 4 ∧ e.arg 10 1 = 1) && scheduleOk e && (placed s e).isSome && !s.timeValid⟩,
    ⟨valid, 0x0402, 0, scheduleValid 500, fun s e =>
      decide (s.ring + 10000 ≤ e.arg 0 6 * nsPerSec + e.arg 6 4 ∧ e.arg 10 1 = 1) && scheduleOk e && (placed s e).isSome && s.timeValid⟩,
    ⟨up, 0x0403, 0, [0#8, 0#8, 1#8, 0#8], fun _ e => decide (e.arg 2 2 ≠ 0)⟩,
    ⟨up, 0x8400, 0, [0#8, 1#8] ++ zeros 14, fun s e => decide (s.timeState = 0 ∧ e.arg 1 3 ≠ 0)⟩], c.Meets :=
  meets_all _ (by decide +kernel)


/-- The 256 subscriptions all in use, each with a record held. -/
def subscribed : State :=
  { up with regs := (List.range 256).map fun i => (subBase i, putBits 0 SUB_CFG_IN_USE.lo 1 1)
            ledger := { up.ledger with hold := (List.range 256).map fun i => (rec 5, i, 0) } }

/-- A subscription with a held record is not freed. -/
theorem freeSubs_held (s : State) (h : ∀ i < 256, (s.ledger.hold.all fun h => h.2.1 != i) = false) : s.freeSubs = s := by
  have key : ∀ l : List Nat, (∀ i ∈ l, i < 256) → (s.each l fun s i =>
      if s.subEnd i ≠ 0 ∧ s.subEnd i ≤ s.storeNow ∧ (s.ledger.hold.all fun h => h.2.1 != i) then
        (((s.setSubStart i 0).setSubEnd i 0).wr (subBase i) 0).setSub i {}
      else s) = s := by
    intro l
    induction l with
    | nil => intro _; rfl
    | cons i l ih =>
      intro hl
      have hi := h i (hl i (List.mem_cons_self ..))
      show State.each _ l _ = s
      beta_reduce
      rw [if_neg (by rintro ⟨_, _, h3⟩; rw [hi] at h3; cases h3)]
      exact ih fun j hj => hl j (List.mem_cons_of_mem _ hj)
  exact key _ fun i hi => List.mem_range.mp (List.mem_filter.mp hi).1

/-- SUBSCRIBE to a source of a node, from now. -/
def subscription (node source : Nat) : List Byte := leBytes 1 node ++ leBytes 1 source ++ zeros 14

/-- The fixed conditions of SUBSCRIBE. -/
def subOk (s : State) (e : CmdEntry) : Bool :=
  let t := s.freeSubs
  let own := e.arg 0 1 == 0 || (t.hasNode && e.arg 0 1 == t.nodeId)
  decide (e.arg 0 1 ≠ 255 ∧ e.arg 2 2 = 0 ∧ e.arg 14 2 = 0 ∧ e.arg 10 4 < nsPerSec)
    && (if own then t.sourceOk (e.arg 1 1) else sourceCode (e.arg 1 1))

theorem test_meets_LedgerCommands_full :
    let s := cmdOn subscribed 0x0500 0 (subscription 9 0x10)
    s.freeSubs = s ∧ ((List.range 256).all fun i => s.subUsed i) = true :=
  ⟨freeSubs_held _ (fun i hi => by
      rw [← List.mem_range] at hi
      exact Bool.eq_false_iff.mpr fun h => by
        have := List.all_eq_true.mp h (rec 5, i, 0) (List.mem_map_of_mem hi)
        simp at this), by decide +kernel⟩

theorem test_meets_LedgerCommands : ∀ c ∈ [
    (⟨ledger, 0x0500, 0, subscription 9 0x10, fun s e => subOk s e && !s.freeSubs.subUsed 1 && s.freeSubs.subUsed 0
      && (s.freeSubs.findSub 9 0x10 false).isSome⟩ : Case),
    ⟨ledger, 0x0500, 0, subscription 9 0x11, fun s e => subOk s e && !s.freeSubs.subUsed 1 && s.freeSubs.subUsed 0
      && (s.freeSubs.findSub 9 0x11 false).isNone⟩,
    ⟨up, 0x0501, 0, zeros 16, fun s e =>
      decide (e.arg 2 2 = 0 ∧ e.arg 14 2 = 0 ∧ e.arg 10 4 < nsPerSec ∧ e.arg 0 2 < 256) && !s.subUsed (e.arg 0 2)⟩,
    ⟨ledger, 0x0501, 0, zeros 16, fun s e => s.subUsed (e.arg 0 2)⟩,
    ⟨up.set ledgerBase LEDGER_CTRL_EN 0, 0x0502, 0, [1#8, 5#8] ++ leBytes 2 1 ++ leBytes 4 100, fun s e =>
      decide (e.ps.length = 8 ∧ e.arg 0 1 = 1 ∧ 1 ≤ e.arg 1 1 ∧ e.arg 1 1 ≤ 10 ∧ 2 ≤ e.arg 4 4 ∧ e.arg 4 4 ≤ 10000
        ∧ e.arg 2 2 < s.partCount 4) && !s.flag ledgerBase LEDGER_CTRL_EN⟩,
    ⟨up, 0x0502, 0, [2#8, 0x10#8] ++ leBytes 2 5 ++ zeros 4, fun s e =>
      decide (e.ps.length = 8 ∧ e.arg 0 1 = 2 ∧ 5 ≤ e.arg 2 2 ∧ e.arg 2 2 ≤ 1023 ∧ e.arg 4 1 ≤ 1 ∧ e.arg 5 3 = 0) && s.sourceOk (e.arg 1 1)⟩,
    ⟨up, 0x0502, 0, [3#8, 1#8] ++ zeros 6, fun _ e => decide (e.ps.length = 8 ∧ e.arg 0 1 = 3 ∧ e.arg 1 1 ≤ 1 ∧ e.arg 2 6 = 0)⟩,
    ⟨up, 0x0502, 0, [4#8, 1#8] ++ zeros 82, fun _ e =>
      decide (e.ps.length = 84 ∧ e.arg 0 1 = 4 ∧ e.arg 1 1 ≤ 31 ∧ e.arg 2 2 = 0 ∧ e.arg 8 1 % 16 ≤ 11)⟩,
    ⟨up, 0x8500, 0, zeros 16, any⟩,
    ⟨up, 0x0503, sel 13 4, [1#8] ++ zeros 19, fun s e =>
      decide (e.idx < s.slotCount ∧ e.arg 1 3 = 0 ∧ e.arg 0 1 = 1) && s.mapValid (e.arg 4 4) (e.arg 8 4) (e.arg 12 4) (e.arg 16 4)⟩,
    ⟨up, 0x0503, sel 13 4, [2#8] ++ zeros 19, fun s e => decide (e.idx < s.slotCount ∧ e.arg 1 3 = 0 ∧ e.arg 0 1 = 2)⟩,
    ⟨up, 0x0503, sel 13 4, [3#8] ++ zeros 19, fun s e => decide (e.idx < s.slotCount ∧ e.arg 1 3 = 0 ∧ e.arg 0 1 = 3)⟩], c.Meets :=
  meets_all _ (by decide +kernel)

/-- The hub with line 5 an input and Salvage slot 2 held. -/
def bridged : State :=
  let s := up.set (lineBase 5) DIO_LCFG_MODE 1
  { s with bridge := { s.bridge with salvage := Tbl.put (fun _ => {}) s.bridge.salvage 2 { held := true } } }

theorem test_meets_LedgerCommands_bridge : ∀ c ∈ [
    (⟨up, 0x0600, 0, [], any⟩ : Case),
    ⟨up, 0x0601, 0, [1#8, 1#8, 1#8, 1#8] ++ leBytes 4 0 ++ leBytes 4 64, fun s e =>
      decide (e.arg 0 1 = 1 ∧ e.arg 1 1 ≤ 7 ∧ e.arg 2 1 ≤ 3 ∧ e.arg 3 1 ≤ 1 ∧ e.arg 4 4 % 4 = 0 ∧ 4 ≤ e.arg 8 4 ∧ e.arg 8 4 ≤ 65536
        ∧ e.arg 8 4 % 4 = 0 ∧ e.arg 4 4 + e.arg 8 4 ≤ s.spaceSize (e.arg 2 1))⟩,
    ⟨bridged, 0x0601, 0, [2#8, 1#8, 1#8, 0#8, 5#8, 1#8, 2#8] ++ zeros 5, fun s e =>
      let t := s.wr (wireBase (e.arg 1 1)) (BitVec.ofNat 32 (e.arg 4 1 + 2 ^ 8 * e.arg 3 1 + 2 ^ 9 * e.arg 2 1
        + 2 ^ 12 * e.arg 5 1 + 2 ^ 16 * e.arg 6 1))
      decide (e.arg 0 1 = 2 ∧ e.arg 1 1 ≤ 7 ∧ e.arg 2 1 ≤ 1 ∧ e.arg 3 1 ≤ 1 ∧ e.arg 5 1 = 1 ∧ e.arg 7 5 = 0 ∧ e.arg 4 1 < s.nDio
        ∧ e.arg 6 1 ≤ 3 ∧ t.wireReason (e.arg 1 1) = 0) && !s.lineSafety (e.arg 4 1)⟩,
    ⟨up, 0x0601, 0, [3#8, 30#8, 1#8, 1#8] ++ zeros 8, fun _ e =>
      decide (e.arg 0 1 = 3 ∧ e.arg 1 1 ≤ 30 ∧ e.arg 2 1 ≤ 1 ∧ e.arg 3 1 ≤ 3 ∧ e.arg 4 8 = 0)⟩,
    ⟨up, 0x0602, 0, leBytes 4 2, fun s e => decide (e.arg 0 1 ≤ 7 ∧ e.arg 1 1 ≤ 1 ∧ e.arg 2 2 = 0) && !(s.salv (e.arg 0 1)).held⟩,
    ⟨bridged, 0x0602, 0, leBytes 4 2, fun s e => (s.salv (e.arg 0 1)).held⟩,
    ⟨up, 0x8600, 0, zeros 28, any⟩], c.Meets :=
  meets_all _ (by decide +kernel)

/-- CAN_OPEN at 500 kbit/s, classical frames. -/
def opening : List Byte := leBytes 4 500000 ++ zeros 8 ++ [1#8, 0#8, 0#8, 0#8] ++ zeros 4

/-- CAN_TX of 8 bytes through buffer 2 as a classical frame. -/
def submission (flags : Byte) : List Byte := [2#8, flags, 0#8, 0#8] ++ leBytes 4 5 ++ leBytes 2 8 ++ zeros 22 ++ zeros 8

/-- The fixed conditions of CAN_TX. -/
def submitOk (s : State) (e : CmdEntry) : Bool :=
  decide (e.ps.length = 32 + e.arg 8 2 ∧ e.arg 0 1 < s.canTxn e.idx) && canTxOk e && !bitAt (e.arg 1 1) 2

/-- Controller 3 open with eight buffers and classical frames. -/
def canOpened : State := (can.set (canBase 3) CAN_STORE_TXN 8).set (canBase 3) CAN_CTRL_FMT 1

theorem test_meets_CanCommands : ∀ c ∈ [
    (⟨up, 0x0700, sel 1 3, opening, fun s e =>
      (samplePoint (e.arg 16 2) 800).isSome && (samplePoint (e.arg 18 2) 750).isSome && !s.canOpen e.idx && !(s.can e.idx).closing
        && (openPhases e 800 750).isSome && s.canFits e.idx
        && decide (1 ≤ e.arg 12 1 ∧ e.arg 12 1 ≤ 7 ∧ e.arg 13 1 ≤ 3 ∧ e.arg 14 1 ≤ 7 ∧ e.arg 15 1 ≤ 15)⟩ : Case),
    ⟨up, 0x0701, sel 1 3, [], fun s e => !s.canOpen e.idx⟩,
    ⟨can.set (canBase 3) CAN_STAT_RX_ACTIVE 1, 0x0701, sel 1 3, [], fun s e => s.canOpen e.idx && s.canBusy e.idx⟩,
    ⟨can, 0x0701, sel 1 3, [], fun s e => s.canOpen e.idx && !s.canBusy e.idx⟩,
    ⟨up, 0x8700, sel 1 3, zeros 20, fun s e =>
      !s.canOpen e.idx && !(s.can e.idx).closing && decide (nomBit2 (BitVec.ofNat 32 (e.arg 0 4)) ≤ 100000)⟩,
    ⟨up, 0x8701, sel 1 3, leBytes 2 64 ++ [8#8, 0#8] ++ leBytes 2 64 ++ zeros 2, fun s e =>
      !s.canOpen e.idx && canLayoutOk (e.arg 0 2) (e.arg 2 1) (e.arg 4 2) && decide (e.arg 0 2 = 64 ∧ 1 ≤ e.arg 2 1 ∧ e.arg 2 1 ≤ 32
        ∧ e.arg 3 1 = 0 ∧ 1 ≤ e.arg 4 2 ∧ e.arg 4 2 ≤ 256 ∧ e.arg 6 2 = 0)⟩,
    ⟨up, 0x0706, sel 1 3, [], any⟩,
    ⟨up, 0x0707, sel 1 3, leBytes 4 5, fun s e => decide (e.arg 1 3 = 0 ∧ e.arg 0 1 < s.nPch)⟩,
    ⟨can.set (canBase 3) CAN_STORE_TXN 8 |>.set (canBase 3) CAN_CTRL_FMT 0, 0x0702, sel 1 3, submission 0, fun s e =>
      submitOk s e && (s.submitBad e.idx 2 0 false 8).isSome⟩,
    ⟨canOpened, 0x0702, sel 1 3, submission 0, fun s e => submitOk s e && (s.submitBad e.idx 2 0 false 8).isNone && !bitAt (e.arg 1 1) 5⟩,
    ⟨canOpened, 0x0702, sel 1 3, submission 32, fun s e => submitOk s e && (s.submitBad e.idx 2 0 false 8).isNone && bitAt (e.arg 1 1) 5⟩,
    ⟨canOpened, 0x0703, sel 1 3, leBytes 4 2, fun s e => decide (e.arg 0 1 < s.canTxn e.idx ∧ e.arg 1 3 = 0)⟩,
    ⟨up, 0x0704, sel 1 3, [1#8, 1#8] ++ leBytes 2 1 ++ zeros 20, fun _ e =>
      decide (e.arg 0 1 ≤ 7 ∧ e.arg 1 1 ≤ 1 ∧ e.arg 2 2 ≤ 64 ∧ e.arg 4 4 = 0 ∧ e.ps.length = 8 + 16 * e.arg 2 2)
        && (List.range (e.arg 2 2)).all (elementOk e)⟩,
    ⟨can.set timeBase TIME_STAT_VALID 1, 0x0705, sel 1 3, [1#8, 0#8, 0#8, 0#8] ++ leBytes 4 5 ++ leBytes 4 1000 ++ zeros 4, fun s e =>
      decide (e.arg 0 1 = 1 ∧ e.arg 1 1 ≤ 1 ∧ e.arg 2 2 = 0 ∧ e.arg 4 4 < 2 ^ 30 ∧ 100 ≤ e.arg 8 4 ∧ e.arg 8 4 ≤ 1000000 ∧ e.arg 12 4 = 0
        ∧ s.canMode e.idx ≠ 1) && s.canOpen e.idx && s.timeValid⟩,
    ⟨can, 0x0705, sel 1 3, [0#8, 0#8, 0#8, 0#8] ++ leBytes 4 5 ++ leBytes 4 1000 ++ zeros 4, fun s e =>
      decide (e.arg 0 1 = 0 ∧ e.arg 8 4 = 1000) && s.canOpen e.idx⟩], c.Meets :=
  meets_all _ (by decide +kernel)


/-- The Pattern of the tests in the library, its engine 1 running or not. -/
def flask (run : Bool) : State := library.setEng 2 1 { library.eng 2 1 with running := run }

/-- Engine 1 has a Pattern loaded. -/
def loaded (run : Bool) : State := (flask run).set (ecBase 2 1) EC_PROG_LOADED 1

/-- The fixed conditions of FLASK_START. -/
def startOk (e : CmdEntry) : Bool := (e.engines (e.arg 0 1)).isSome && decide (e.arg 2 2 = 0 ∧ e.arg 14 2 = 0)

theorem test_meets_UnitCommands_flask : ∀ c ∈ [
    (⟨library, 0x0800, sel 3 2 255, [0#8, 0#8, 2#8, 0#8] ++ zeros 8, fun s e =>
      (e.engines (e.arg 2 1)).isSome && decide (e.arg 0 1 ≤ 1 ∧ e.arg 1 1 ≤ 3 ∧ e.arg 3 1 = 0 ∧ e.arg 8 2 ≤ 1023 ∧ e.arg 10 2 = 0)
        && (match s.loadCheck e.idx false (e.arg 4 4) (e.arg 8 2) 2 false false true with | .inr _ => true | .inl _ => false)⟩ : Case),
    ⟨up, 0x0800, sel 3 2 255, [0#8, 0#8, 2#8, 0#8] ++ zeros 8, fun s e =>
      (e.engines (e.arg 2 1)).isSome
        && (match s.loadCheck e.idx false (e.arg 4 4) (e.arg 8 2) 2 false false true with | .inr _ => false | .inl _ => true)⟩,
    ⟨loaded false, 0x0801, sel 3 2 1, zeros 16, fun s e => startOk e && s.flag (ecBase e.idx 1) EC_PROG_LOADED && e.arg 1 1 == 0⟩,
    ⟨(loaded false).set timeBase TIME_STAT_VALID 1, 0x0801, sel 3 2 1, [0#8, 2#8, 0#8, 0#8] ++ leBytes 6 500 ++ zeros 6, fun s e =>
      startOk e && s.timeValid && decide (e.arg 1 1 = 2 ∧ ∃ a ∈ e.stampAt 4, s.ring + 10000 ≤ a)⟩,
    ⟨up, 0x0801, sel 3 2 1, zeros 16, fun s e => startOk e && !s.flag (ecBase e.idx 1) EC_PROG_LOADED⟩,
    ⟨loaded true, 0x0802, sel 3 2 1, zeros 4, fun s e =>
      (e.engines (e.arg 0 1)).isSome && decide (e.arg 1 1 ≤ 1 ∧ e.arg 2 2 = 0) && ((s.engStop e.idx 2 false).eng e.idx 1).running⟩,
    ⟨up, 0x0802, sel 3 2 1, zeros 4, fun s e => ((setBitsOf 2 8).filter fun i => !s.engStopped e.idx i).isEmpty⟩,
    ⟨up, 0x0803, sel 3 2 1, [], any⟩,
    ⟨up, 0x8800, sel 3 2 1, zeros 16, fun s e => streamOk (e.arg 8 4) && s.engStopped e.idx (unitSub e.unit)⟩,
    ⟨flask true, 0x8800, sel 3 2 1, zeros 16, fun s e => streamOk (e.arg 8 4) && !s.engStopped e.idx (unitSub e.unit)⟩], c.Meets :=
  meets_all _ (by decide +kernel)

/-- Line 20 an output. -/
def output : State := up.set (lineBase 20) DIO_LCFG_MODE 2

/-- DIO_SCHEDULE of one entry at a second. -/
def entryAt (sec : Nat) : List Byte := [1#8, 1#8, 0#8, 0#8] ++ zeros 4 ++ leBytes 6 sec ++ zeros 6

/-- An entry of bank 0. -/
def dioEntry (id : Nat) : DioEntry := { id := id, line := 20, action := 1, at_ := 5, validOnly := false, late := false }

/-- The fixed conditions of DIO_SCHEDULE. -/
def entryOk (s : State) (e : CmdEntry) : Bool :=
  !s.lineSafety e.idx && (e.stampAt 8).isSome
    && decide (e.arg 0 1 = 1 ∧ e.arg 1 1 ≤ 2 ∧ e.arg 2 1 ≤ 1 ∧ e.arg 3 1 = 0 ∧ e.arg 6 2 = 0 ∧ e.arg 18 2 = 0)

theorem test_meets_UnitCommands_lines : ∀ c ∈ [
    (⟨guarded up, 0x8900, sel 4 5, zeros 12, fun s e => s.lineSafety e.idx⟩ : Case),
    ⟨guarded up, 0x0900, sel 4 5, zeros 12 ++ leBytes 2 1 ++ zeros 2, fun s e => s.lineSafety e.idx && dioConfigOk e⟩,
    ⟨guarded up, 0x0901, sel 4 5, zeros 4, fun s e => s.lineSafety e.idx && decide (e.arg 0 1 ≤ 2 ∧ e.arg 1 3 = 0)⟩,
    ⟨up, 0x0900, sel 4 20, zeros 16, fun s e => !s.lineSafety e.idx && dioConfigOk e⟩,
    ⟨up, 0x0901, sel 4 20, zeros 4, fun s e => !s.lineSafety e.idx && decide (s.lineMode e.idx < 2)⟩,
    ⟨output, 0x0901, sel 4 20, zeros 4, fun s e => decide (2 ≤ s.lineMode e.idx) && !s.wired e.idx⟩,
    ⟨output.setBank 0 { output.bank 0 with sched := List.replicate 64 (dioEntry 1) }, 0x0902, sel 4 20, entryAt 500, fun s e =>
      entryOk s e && decide (64 ≤ (s.bank (e.idx / 64)).sched.length)⟩,
    ⟨output, 0x0902, sel 4 20, entryAt 5, fun s e => entryOk s e && decide (∃ a ∈ e.stampAt 8, a < s.ring + 10000)⟩,
    ⟨output, 0x0902, sel 4 20, entryAt 500, fun s e => entryOk s e && decide (∃ a ∈ e.stampAt 8, s.ring + 10000 ≤ a)⟩,
    ⟨output, 0x0902, sel 4 20, [2#8, 0#8, 0#8, 0#8, 1#8] ++ zeros 15, fun s e =>
      decide (e.arg 0 1 = 2 ∧ e.arg 3 1 = 0 ∧ e.arg 6 2 = 0 ∧ e.arg 18 2 = 0 ∧ (s.bank (e.idx / 64)).sched = [])⟩,
    ⟨output.setBank 0 { output.bank 0 with sched := [dioEntry 1] }, 0x0902, sel 4 20, [2#8, 0#8, 0#8, 0#8, 1#8] ++ zeros 15, fun s e =>
      (s.bank (e.idx / 64)).sched.any fun x => x.id == e.arg 4 2 && decide (x.at_ ≤ s.dioNow (e.idx / 64))⟩,
    ⟨output.setBank 0 { output.bank 0 with sched := [{ dioEntry 1 with at_ := 2 ^ 50 }] }, 0x0902, sel 4 20,
      [2#8, 0#8, 0#8, 0#8, 1#8] ++ zeros 15, fun s e =>
      (s.bank (e.idx / 64)).sched.any fun x => x.id == e.arg 4 2 && decide (s.dioNow (e.idx / 64) < x.at_)⟩,
    ⟨up, 0x0903, sel 4 20, [1#8, 1#8, 0#8, 0#8] ++ leBytes 4 1000 ++ zeros 8, fun s e =>
      decide (e.arg 0 1 ≤ 15 ∧ e.arg 1 1 ≤ 1 ∧ e.arg 2 2 = 0 ∧ 1000 ≤ e.arg 4 4 ∧ e.arg 4 4 ≤ nsPerSec ∧ e.arg 8 4 ≤ e.arg 4 4
        ∧ e.arg 12 4 ≤ e.arg 4 4 ∧ s.lineMode e.idx < 2)⟩,
    ⟨output, 0x0903, sel 4 20, [1#8, 1#8, 0#8, 0#8] ++ leBytes 4 1000 ++ zeros 8, fun s e => decide (2 ≤ s.lineMode e.idx)⟩,
    ⟨up, 0x8900, sel 4 20, zeros 12, fun s e => !s.lineSafety e.idx⟩,
    ⟨up, 0x0904, sel 5 0, [], any⟩], c.Meets :=
  meets_all _ (by decide +kernel)

/-- Channel 5 under an SF-P hold. -/
def heldCh : State := powered.withCruc fun c => { c with holds := [(5, 9, false)] }

/-- SF-A is armed and names channel 5. -/
def ownedCh : State := (powered.set (sfBase 1) SF_CTRL_ARMED 1).set (sfBase 1) SF_CHAN_LO 32

/-- The parameters of PCH_CONFIG. -/
def chConfig : List Byte :=
  [3#8, 2#8] ++ leBytes 2 5000 ++ leBytes 4 20000 ++ leBytes 4 10000 ++ leBytes 4 5000 ++ leBytes 2 20 ++ [100#8, 0#8] ++ leBytes 2 50
    ++ leBytes 2 500 ++ leBytes 2 100 ++ leBytes 2 1000 ++ leBytes 2 500 ++ leBytes 2 100 ++ leBytes 2 10 ++ [0#8, 0#8]

/-- The fixed conditions of PCH_CONFIG. -/
def chOk (e : CmdEntry) : Bool :=
  decide (e.arg 0 1 ≤ 3 ∧ e.arg 19 1 = 0 ∧ e.arg 34 2 = 0)
    && (pchConfigFields e).all (fun f => decide (f.2.2.1 ≤ f.2.1 ∧ f.2.1 ≤ f.2.2.2))
    && pchLimitsOk (e.arg 2 2) (e.arg 4 4) (e.arg 8 4) (e.arg 12 4)

theorem test_meets_PowerCommands : ∀ c ∈ [
    (⟨heldCh, 0x0A00, sel 6 5, zeros 4, fun s e => decide (e.arg 0 1 ≤ 1 ∧ e.arg 1 3 = 0) && s.pchOwned e.idx⟩ : Case),
    ⟨pch 7 none, 0x0A00, sel 6 5, zeros 4, fun s e =>
      decide (e.arg 0 1 ≤ 1 ∧ e.arg 1 3 = 0 ∧ s.sys.stby = none ∧ s.pchState e.idx = 7) && !s.pchOwned e.idx⟩,
    ⟨pch 0 none, 0x0A00, sel 6 5, zeros 4, fun s e =>
      decide (e.arg 0 1 = 0 ∧ e.arg 1 3 = 0 ∧ s.sys.stby = none ∧ s.pchState e.idx ≠ 7) && !s.pchOwned e.idx⟩,
    ⟨pch 0 none, 0x0A00, sel 6 5, [1#8, 0#8, 0#8, 0#8], fun s e =>
      decide (e.arg 0 1 = 1 ∧ e.arg 1 3 = 0 ∧ s.sys.stby = none ∧ s.pchState e.idx ≠ 7 ∧ (s.writeEn e.idx true).pchState e.idx ≠ 5)
        && !s.pchOwned e.idx⟩,
    ⟨on 5, 0x0A00, sel 6 5, [1#8, 0#8, 0#8, 0#8], fun s e =>
      decide (s.sys.stby = none ∧ s.pchState e.idx ≠ 7 ∧ (s.writeEn e.idx true).pchState e.idx = 5) && !s.pchOwned e.idx⟩,
    ⟨heldCh, 0x0A01, sel 6 5, [], fun s e => s.pchOwned e.idx⟩,
    ⟨on 5, 0x0A01, sel 6 5, [], fun s e => !s.pchOwned e.idx⟩,
    ⟨ownedCh, 0x0A02, sel 6 5, chConfig, fun s e => chOk e && s.pchSafety e.idx⟩,
    ⟨on 5, 0x0A02, sel 6 5, chConfig, fun s e => chOk e && !s.pchSafety e.idx && !s.pchStopped e.idx⟩,
    ⟨pch 0 none, 0x0A02, sel 6 5, chConfig, fun s e => chOk e && !s.pchSafety e.idx && s.pchStopped e.idx⟩,
    ⟨powered, 0x0A03, sel 6 5, [], any⟩,
    ⟨powered.setPch 5 { powered.pch 5 with stress := 10 ^ 15 }, 0x0A04, sel 6 5, [], fun s e =>
      decide (s.get (pchBase e.idx) PCH_STRESS_LIMIT_MJ * 100000000 < 4 * (s.pch e.idx).stress)⟩,
    ⟨powered, 0x0A04, sel 6 5, [], fun s e => decide (4 * (s.pch e.idx).stress ≤ s.get (pchBase e.idx) PCH_STRESS_LIMIT_MJ * 100000000)⟩,
    ⟨powered, 0x0A05, sel 7 1, leBytes 2 18000 ++ leBytes 2 56000 ++ leBytes 2 500 ++ leBytes 2 100 ++ leBytes 2 1 ++ [1#8, 0#8, 2#8, 0#8, 1#8, 0#8]
      ++ leBytes 2 100 ++ [0#8, 0#8], fun _ e => feedConfigOk e⟩,
    ⟨powered, 0x0A06, 0, [], fun s _ => !s.fenced (.pedie 0)⟩,
    ⟨powered.setFence (.pedie 0) true, 0x0A06, 0, [], fun s _ => s.fenced (.pedie 0)⟩,
    ⟨ownedCh, 0x8A00, sel 6 5, zeros 44, fun s e => s.pchSafety e.idx⟩,
    ⟨powered, 0x8A00, sel 6 5, zeros 44, fun s e => !s.pchSafety e.idx⟩], c.Meets :=
  meets_all _ (by decide +kernel)

/-- A policy image of 100 bytes with its CRC and signature: r and s are the hash, which is the x-coordinate of a point of P-256. -/
def polBytes : List Byte :=
  let z := leBytes 32 0x54948e253c45bbf363028fed0d490fee84480e562cb66d0fcdd3a8818e4ca2a5
  leBytes 4 0x4C4F5044 ++ leBytes 4 1 ++ leBytes 4 2 ++ leBytes 4 4 ++ zeros 4 ++ leBytes 4 0xfde324a7 ++ z ++ z ++ zeros 12

/-- The owner key that signs it: that point less the base point. -/
def polKey : List Byte :=
  leBytes 32 0x1876afdf325882571de25a08f8cffd7b0afc8b35d4be48bff6f26ed5fccef297
    ++ leBytes 32 0x6bb6569db5005b2a989d0275180ca787e657825c380261b11aa72b0dc005983d

/-- A hub with that owner key, and the image at an address of its store. -/
def policyAt (a : Nat) : State := (up.store a polBytes).withUpd fun u => { u with ownerKey := some polKey }

/-- UPC0 sinks from a source that offers 5 V and 9 V at 3 A. -/
def sinking : State := pdWith (pd 0 3) 0 fun x => { x with pdos := [0x1912C, 0x2D12C] }

/-- UPC0 has a contract as a source. -/
def sourcing : State := (pd 0 2).set (pdBase 0) PD_PSTAT_CONTRACT 1

theorem test_meets_PowerCommands_usb : ∀ c ∈ [
    (⟨usb, 0x0B00, 0, [], any⟩ : Case),
    ⟨usb, 0x0B01, sel 12 9, zeros 4, fun _ e => decide (e.arg 0 1 ≤ 1 ∧ e.arg 1 3 = 0 ∧ e.idx = 9)⟩,
    ⟨usb, 0x0B01, sel 12 2, [1#8, 0#8, 0#8, 0#8], fun _ e => decide (e.arg 0 1 ≤ 1 ∧ e.arg 1 3 = 0 ∧ e.idx ≠ 9)⟩,
    ⟨usb, 0x0B02, sel 12 9, zeros 4, fun _ e => decide (e.arg 0 1 ≤ 5 ∧ e.arg 1 3 = 0 ∧ e.idx = 9)⟩,
    ⟨usb.set usbBase USB_STAT_UP_STATE 3, 0x0B02, sel 12 2, [1#8, 0#8, 0#8, 0#8], fun s e =>
      decide (e.arg 0 1 ≤ 5 ∧ e.arg 1 3 = 0 ∧ e.idx ≠ 9 ∧ s.upState = 3)⟩,
    ⟨up, 0x0B02, sel 12 2, [1#8, 0#8, 0#8, 0#8], fun s e =>
      decide (e.arg 0 1 ≤ 5 ∧ e.arg 1 3 = 0 ∧ e.idx ≠ 9 ∧ s.upState ≠ 3) && s.portsQuiet e.idx⟩,
    ⟨usb, 0x8B00, 0, zeros 24, any⟩,
    ⟨sinking, 0x0C00, sel 13 0, [], any⟩,
    ⟨sourcing, 0x0C01, sel 13 0, [0#8, 0#8] ++ leBytes 2 9000 ++ leBytes 2 1000 ++ [0#8, 0#8], fun s e =>
      decide (e.arg 1 1 = 0 ∧ e.arg 6 2 = 0 ∧ e.arg 0 1 ≤ 2) && pdRangeOk (e.arg 0 1) (e.arg 2 2) (e.arg 4 2) && !s.pdSink e.idx⟩,
    ⟨sinking, 0x0C01, sel 13 0, [0#8, 0#8] ++ leBytes 2 9000 ++ leBytes 2 1000 ++ [0#8, 0#8], fun s e =>
      decide (e.arg 1 1 = 0 ∧ e.arg 6 2 = 0 ∧ e.arg 0 1 = 0 ∧ (s.pd_ e.idx).pdos ≠ []) && pdRangeOk (e.arg 0 1) (e.arg 2 2) (e.arg 4 2)
        && s.pdSink e.idx && (s.covers e.idx (e.arg 0 1) (e.arg 2 2) (e.arg 4 2)).isSome⟩,
    ⟨pdWith (sourcing.set pdAll PD_POL_STAT_RUNNING 2) 0 fun x => { x with swap := some (swap 1 false true) }, 0x0C02, sel 13 0, [1#8, 0#8, 0#8, 0#8], fun s e =>
      decide (e.arg 1 3 = 0 ∧ 1 ≤ e.arg 0 1 ∧ e.arg 0 1 ≠ 2 ∧ e.arg 0 1 ≤ 3) && s.pdSource e.idx && s.flag (pdBase e.idx) PD_PSTAT_CONTRACT
        && !s.deadBatt e.idx && (e.arg 0 1 != 1 || s.polImage) && (s.pd_ e.idx).swap.isSome⟩,
    ⟨sourcing.set (pdBase 0) PD_PSTAT_DFP 1, 0x0C02, sel 13 0, [2#8, 0#8, 0#8, 0#8], fun s e =>
      decide (e.arg 1 3 = 0 ∧ e.arg 0 1 = 2 ∧ e.idx = 0 ∧ (s.pd_ e.idx).swap = none) && s.pdSource e.idx
        && s.flag (pdBase e.idx) PD_PSTAT_CONTRACT && s.flag (pdBase e.idx) PD_PSTAT_DFP⟩,
    ⟨up, 0x0C03, 0, zeros 12, fun s e => decide (e.arg 0 1 = 0 ∧ e.arg 1 3 = 0 ∧ s.policyCause s.policyImage (s.partSize 9) ≠ 0)⟩,
    ⟨up, 0x0C03, 0, [1#8] ++ zeros 7 ++ leBytes 4 100, fun s e =>
      decide (e.arg 0 1 = 1 ∧ e.arg 1 3 = 0) && !s.inHost (e.arg 4 4) (e.arg 8 4)⟩,
    ⟨up, 0x8C00, sel 13 0, zeros 24 ++ leBytes 4 (2 ^ 14 + 5000 * 2 ^ 16) ++ zeros 40, fun _ e =>
      decide (e.arg 24 4 / 2 ^ 14 % 4 = 1 ∧ e.arg 24 4 / 2 ^ 16 = 5000)⟩], c.Meets :=
  meets_all _ (by decide +kernel)

theorem test_meets_PowerCommands_policy : ∀ c ∈ [
    (⟨policyAt (up.partBase 9), 0x0C03, 0, zeros 12, fun s e =>
      decide (e.arg 0 1 = 0 ∧ e.arg 1 3 = 0 ∧ s.policyCause s.policyImage (s.partSize 9) = 0)⟩ : Case),
    ⟨policyAt (up.partBase 15), 0x0C03, 0, [1#8] ++ zeros 3 ++ leBytes 4 (up.partBase 15) ++ leBytes 4 100, fun s e =>
      decide (e.arg 0 1 = 1 ∧ e.arg 1 3 = 0 ∧ s.policyCause (s.load (e.arg 4 4) (e.arg 8 4)) (s.partSize 9) = 0
        ∧ leAt (s.load (e.arg 4 4) (e.arg 8 4)) 12 4 + 96 = e.arg 8 4) && s.inHost (e.arg 4 4) (e.arg 8 4)⟩], c.Meets :=
  meets_all _ (by decide +kernel)

/-- SF-E is armed and nothing demands it. -/
def calmE : State :=
  ((up.set (sfBase 0) SF_CTRL_ARMED 1).set (sfBase 0) SF_PARAM0_LOW 0x3FFF).withCruc fun c => { c with upAt := up.uptime, supAt := up.uptime }

/-- SF-E names channel 5, with the power-edge dies there. -/
def namesE : State := powered.set (sfBase 0) SF_CHAN_LO 32

/-- The fixed conditions of SAFE_EMERGENCY. -/
def emergOk (op : Nat) (e : CmdEntry) : Bool := decide (e.arg 0 1 = op ∧ e.arg 1 3 = 0)

theorem test_meets_SafetyCommands : ∀ c ∈ [
    (⟨up, 0x0D00, 0, [], any⟩ : Case),
    ⟨guarded up, 0x0D01, sel 15 1, [], fun s e => s.sfArmed e.idx⟩,
    ⟨up, 0x0D01, sel 15 0, [], fun s e => !s.sfArmed e.idx && decide ((s.sfCheck e.idx).1 ≠ 0)⟩,
    ⟨namesE.set crucBase CRUC_STAT_MODE 2, 0x0D01, sel 15 0, [], fun s e =>
      !s.sfArmed e.idx && decide ((s.sfCheck e.idx).1 = 0) && s.singleLane⟩,
    ⟨namesE, 0x0D01, sel 15 0, [], fun s e =>
      !s.sfArmed e.idx && decide ((s.sfCheck e.idx).1 = 0 ∧ s.sys.stby = none) && !s.singleLane⟩,
    ⟨up, 0x0D02, sel 15 2, [], fun s e => !s.sfArmed e.idx⟩,
    ⟨(guarded up).set (sfBase 1) SF_CTRL_TRIGGERED 1, 0x0D02, sel 15 1, [], fun s e => s.sfArmed e.idx && e.idx != 2 && s.sfTriggered e.idx⟩,
    ⟨heldCh.set (sfBase 2) SF_CTRL_ARMED 1, 0x0D02, sel 15 2, [], fun s e => s.sfArmed e.idx && e.idx == 2 && !s.cruc.holds.isEmpty⟩,
    ⟨guarded up, 0x0D02, sel 15 1, [], fun s e => s.sfArmed e.idx && e.idx != 2 && !s.sfTriggered e.idx⟩,
    ⟨up, 0x0D03, sel 15 0, [2#8, 0#8, 0#8, 0#8], fun s e => emergOk 2 e && !s.sfArmed e.idx⟩,
    ⟨ringGuard, 0x0D03, sel 15 0, [2#8, 0#8, 0#8, 0#8], fun s e => emergOk 2 e && s.sfArmed e.idx && s.sfDemanded e.idx⟩,
    ⟨calmE, 0x0D03, sel 15 0, [2#8, 0#8, 0#8, 0#8], fun s e => emergOk 2 e && s.sfArmed e.idx && !s.sfDemanded e.idx⟩,
    ⟨(calmE.set (sfBase 0) SF_CTRL_TRIGGERED 1).set (sfBase 0) SF_CTRL_SAFE 1, 0x0D03, sel 15 0, [1#8, 0#8, 0#8, 0#8], fun s e =>
      emergOk 1 e && e.idx == 0 && s.sfArmed 0 && (s.sfTrigger 0 1 s.crucNow).flag (sfBase 0) SF_CTRL_SAFE⟩,
    ⟨calmE, 0x0D03, sel 15 0, [1#8, 0#8, 0#8, 0#8], fun s e =>
      emergOk 1 e && e.idx == 0 && s.sfArmed 0 && !(s.sfTrigger 0 1 s.crucNow).flag (sfBase 0) SF_CTRL_SAFE⟩,
    ⟨up, 0x0D04, sel 14 1, [], fun s e => !s.fenced (.lane e.idx)⟩,
    ⟨up.setFence (.lane 1) true, 0x0D04, sel 14 1, [], fun s e => s.fenced (.lane e.idx)⟩,
    ⟨up, 0x0D05, sel 14 1, [], any⟩,
    ⟨up, 0x8D00, sel 15 2, zeros 264, fun s e => !s.sfArmed e.idx && e.idx == 2⟩,
    ⟨up.set (sfBase 2) SF_CTRL_ARMED 1, 0x8D00, sel 15 2, zeros 264, fun s e => s.sfArmed e.idx && e.idx == 2⟩,
    ⟨up, 0x8D00, sel 15 1, zeros 80, fun s e => !s.sfArmed e.idx && e.idx != 2⟩,
    ⟨guarded up, 0x8D00, sel 15 1, zeros 80, fun s e => s.sfArmed e.idx && e.idx != 2⟩], c.Meets :=
  meets_all _ (by decide +kernel)

/-- One Degrade record, SEQ 5, is unacknowledged. -/
def unacked : State := { up with fault := { up.fault with unacked := [(0, 5, 1)] } }

/-- The fixed conditions of FAULT_ACK with an OP. -/
def ackOk (op : Nat) (e : CmdEntry) : Bool := decide (e.arg 0 1 = op ∧ e.arg 1 1 = 0 ∧ e.arg 6 2 = 0)

/-- The parameters of FAULT_INJECT. -/
def injected (k : FaultKind) (src : Nat) : List Byte := leBytes 2 k.code ++ leBytes 2 src ++ zeros 8

theorem test_meets_SafetyCommands_faults : ∀ c ∈ [
    (⟨up, 0x0E00, 0, leBytes 4 0 ++ leBytes 2 127 ++ [15#8, 0#8], fun _ e =>
      decide (1 ≤ e.arg 4 2 ∧ e.arg 4 2 ≤ 127 ∧ e.arg 6 1 ≤ 15 ∧ e.arg 7 1 = 0)⟩ : Case),
    ⟨unacked, 0x0E01, 0, [1#8, 0#8, 6#8] ++ zeros 5, fun s e => ackOk 1 e && s.fault.unacked.all fun u => u.2.1 != e.arg 2 2⟩,
    ⟨unacked, 0x0E01, 0, [1#8, 0#8, 5#8] ++ zeros 5, fun s e => ackOk 1 e && s.fault.unacked.any fun u => u.2.1 == e.arg 2 2⟩,
    ⟨unacked, 0x0E01, 0, [2#8, 0#8, 0xF0#8, 0xFF#8, 5#8, 0#8, 0#8, 0#8], fun _ e => ackOk 2 e⟩,
    ⟨unacked, 0x0E01, 0, [3#8] ++ zeros 7, fun _ e => ackOk 3 e⟩,
    ⟨up, 0x0E02, 0, injected .coreUnitLost 0x100, fun s e =>
      decide (e.arg 1 1 = 0 ∧ e.arg 10 2 = 0 ∧ s.injectCheck (e.arg 0 1) (e.arg 2 2) ≠ 0)⟩,
    ⟨up.set faultBase FAULT_CTRL_FATAL_INJ_EN 1, 0x0E02, 0, injected .coreUnitLost 0x100, fun s e =>
      decide (e.arg 1 1 = 0 ∧ e.arg 10 2 = 0 ∧ s.injectCheck (e.arg 0 1) (e.arg 2 2) = 0) && fatalCode (e.arg 0 1)⟩,
    ⟨up, 0x0E02, 0, injected .rwlRefused 0, fun s e =>
      decide (e.arg 1 1 = 0 ∧ e.arg 10 2 = 0 ∧ s.injectCheck (e.arg 0 1) (e.arg 2 2) = 0) && !fatalCode (e.arg 0 1)⟩,
    ⟨up, 0x8E00, 0, zeros 8, any⟩], c.Meets :=
  meets_all _ (by decide +kernel)

/-- A bundle of one empty REGLIST section, with its CRC and no signature. -/
def bundleBytes : List Byte :=
  leBytes 4 0x4E55425A ++ leBytes 4 3 ++ leBytes 4 1 ++ zeros 8 ++ [1#8] ++ zeros 7 ++ leBytes 4 0x1199b7fe ++ zeros 64 ++ [1#8] ++ zeros 159

/-- Staging of `bs` at 0 with FLAGS. -/
def staging (flags : Byte) (bs : List Byte) : List Byte := [0#8, flags] ++ zeros 6 ++ leBytes 4 bs.length ++ zeros 4 ++ bs

/-- Whether a staging command brings its bytes, and what END finds of them in the bundle half. -/
def stages (s : State) (e : CmdEntry) (flags most : Nat) (p : Nat → Bool) : Bool :=
  match s.stageData e flags most with
  | .inr bs => decide (16 ≤ e.ps.length) && p (s.stageBytes 1 (e.arg 4 4) bs (bitAt (e.arg 1 1) 0)).bundleStatus
  | .inl _ => false

/-- Ring time is valid, and a bundle and a verified image are staged. -/
def planned : State :=
  (((up.set timeBase TIME_STAT_VALID 1).set updBase UPD_STAT_BUNDLE_STAGED 1).set updBase UPD_STAT_STATE 3).withUpd fun u =>
    { u with reserve := zeros 16 }

/-- The parameters of UPD_ACTIVATE_AT: FLAGS, and a second of ring time. -/
def activation (flags : Byte) (sec : Nat) : List Byte := [flags, 0#8, 0#8, 0#8] ++ leBytes 6 sec ++ zeros 6

theorem test_meets_UpdateCommands : ∀ c ∈ [
    (⟨up, 0x0F00, 0, staging 1 (zeros 16), fun s e => stages s e 1 (8 * 2 ^ 20) fun _ => true⟩ : Case),
    ⟨up, 0x0F04, 0, staging 1 (zeros 16), fun s e => stages s e 3 bundleSlot (fun _ => true) && !bitAt (e.arg 1 1) 1⟩,
    ⟨up, 0x0F04, 0, staging 3 (zeros 16), fun s e => stages s e 3 bundleSlot (· != 0) && bitAt (e.arg 1 1) 1⟩,
    ⟨copying 0, 0x0F01, 0, [], fun s _ => s.updBusy⟩,
    ⟨up, 0x0F01, 0, [], fun s _ => !s.updBusy && s.verifyStatus != 0⟩,
    ⟨pending, 0x0F02, 0, activation 0 0, fun s e =>
      decide (e.arg 0 1 ≤ 3 ∧ e.arg 1 3 = 0 ∧ e.arg 14 2 = 0 ∧ e.stampAt 4 = some 0) && s.actPending && s.actDue⟩,
    ⟨pending.setActAt (500 * nsPerSec), 0x0F02, 0, activation 0 0, fun s e =>
      decide (e.arg 0 1 ≤ 3 ∧ e.arg 1 3 = 0 ∧ e.arg 14 2 = 0 ∧ e.stampAt 4 = some 0) && s.actPending && !s.actDue⟩,
    ⟨up, 0x0F02, 0, activation 0 0, fun s e =>
      decide (e.arg 0 1 ≤ 3 ∧ e.arg 1 3 = 0 ∧ e.arg 14 2 = 0 ∧ e.stampAt 4 = some 0) && !s.actPending⟩,
    ⟨planned, 0x0F02, 0, activation 3 500, fun s e =>
      decide (e.arg 0 1 = 3 ∧ e.arg 1 3 = 0 ∧ e.arg 14 2 = 0 ∧ e.stampAt 4 = some (500 * nsPerSec) ∧ s.crucNow + 100000000 ≤ 500 * nsPerSec
        ∧ s.updRefusal (some (imgSec s.upd.reserve)) = 0) && s.imgVerified && s.flag updBase UPD_STAT_BUNDLE_STAGED && s.timeValid⟩,
    ⟨up, 0x0F03, 0, [], any⟩,
    ⟨up, 0x0F05, 0, leBytes 2 16 ++ leBytes 2 4080, fun _ e => decide (1 ≤ e.arg 2 2 ∧ e.arg 2 2 ≤ 4080 ∧ e.arg 0 2 + e.arg 2 2 ≤ 4096)⟩,
    ⟨up, 0x8F00, 0, leBytes 2 16 ++ leBytes 2 4 ++ zeros 4 ++ zeros 4, fun s e =>
      decide (e.ps.length = 8 + e.arg 2 2 ∧ 16 ≤ e.arg 0 2 ∧ e.arg 0 2 + e.arg 2 2 ≤ 4096 ∧ e.arg 4 4 = 0)
        && [0, 1, 2].all (fun i => !s.sfArmed i) && decide (leAt (calBytes s.upd.array) 8 4 < 1000)⟩,
    ⟨up, 0x8F01, 0, [1#8, 0#8, 0#8, 0#8] ++ zeros 64, fun s e => decide (e.arg 0 1 = 1 ∧ e.arg 1 1 ≤ 3 ∧ e.arg 2 2 = 0 ∧ s.upd.ownerKey = none)⟩,
    ⟨up.withUpd fun u => { u with ownerKey := some polKey }, 0x8F01, 0, [1#8, 0#8, 0#8, 0#8] ++ zeros 64, fun s e =>
      decide (e.arg 0 1 = 1 ∧ e.arg 1 1 ≤ 3 ∧ e.arg 2 2 = 0 ∧ s.upd.ownerKey ≠ none)⟩,
    ⟨up, 0x8F01, 0, [2#8, 3#8, 0#8, 0#8] ++ zeros 64, fun _ e => decide (e.arg 0 1 = 2 ∧ e.arg 1 1 ≤ 3 ∧ e.arg 2 2 = 0)⟩,
    ⟨up, 0x8F01, 0, [3#8, 3#8, 0#8, 0#8] ++ zeros 64, fun s e =>
      decide (e.arg 0 1 = 3 ∧ e.arg 1 1 ≤ 3 ∧ e.arg 2 2 = 0) && !s.ownerSigned (e.ps.drop 4)⟩], c.Meets :=
  meets_all _ (by decide +kernel)

/-- The running value of CRC-32C over two parts, one after the other. -/
theorem crcRun_append (a b : List Byte) (c : Nat) : crcRun (a ++ b) c = crcRun b (crcRun a c) := by
  induction a generalizing c with
  | nil => rfl
  | cons x xs ih => exact ih _

/-- CRC-32C over two parts from the running value between them. -/
theorem crc_of_parts (bs : List Byte) (n c d e f : Nat) (h1 : crcRun (bs.take n) 0xFFFFFFFF = c)
    (h2 : crcRun ((bs.drop n).take n) c = d) (h3 : crcRun (bs.drop (n + n)) d = e)
    (h4 : e ^^^ 0xFFFFFFFF = f) : crc32c bs = f := by
  have p : bs = bs.take n ++ ((bs.drop n).take n ++ bs.drop (n + n)) := by
    rw [← List.drop_drop, List.take_append_drop, List.take_append_drop]
  unfold crc32c
  rw [p, crcRun_append, crcRun_append, h1, h2, h3, h4]

theorem bundleBytes_crc : crc32c (zeroAt (zeroAt bundleBytes 28 4) 32 64) = 0x1199b7fe :=
  crc_of_parts _ 88 0xfb39da72 0x3441f8c8 0xee664801 _ (by decide +kernel) (by decide +kernel) (by decide +kernel) (by decide +kernel)

/-- END of that bundle's staging. -/
def bundling : Case := ⟨up, 0x0F04, 0, staging 3 bundleBytes, fun s e =>
  (match s.stageData e 3 bundleSlot with | .inr bs => bs == bundleBytes | .inl _ => false)
    && decide (16 ≤ e.ps.length ∧ e.arg 4 4 = 0) && bitAt (e.arg 1 1) 0 && bitAt (e.arg 1 1) 1⟩

theorem bundleBytes_ok (s : State) (h1 : s.upd.sigOnly = false) : s.bundleOk bundleBytes = true := by
  have c := bundleBytes_crc
  have k : s.kindsOk bundleBytes 1 = true := by
    unfold State.kindsOk
    have a : sectionOf bundleBytes 96 1 3 = none := by decide +kernel
    simp only [a]
    decide +kernel
  have n : leAt bundleBytes 20 1 = 1 := by decide +kernel
  have l : leAt bundleBytes 24 4 = 0 := by decide +kernel
  have t : leAt bundleBytes 12 8 = 0 := by decide +kernel
  simp only [State.bundleOk, n, l, t, c, k, h1, Bool.and_eq_true, Bool.or_eq_true, decide_eq_true_eq]
  repeat' apply And.intro
  all_goals first | decide +kernel | exact Or.inl rfl

theorem test_meets_UpdateCommands_bundle :
    bundling.Meets ∧ (bundling.at_.stageBytes 1 0 bundleBytes true).bundleStatus = 0 := by
  refine ⟨meets_all [bundling] (by decide +kernel) bundling (by simp), ?_⟩
  have f : (bundling.at_.stageBytes 1 0 bundleBytes true).bundleFrom (bundling.at_.stageBytes 1 0 bundleBytes true).bundleAt = bundleBytes := by
    decide +kernel
  have o := bundleBytes_ok (bundling.at_.stageBytes 1 0 bundleBytes true) (by decide +kernel)
  have b : blocksIn (bundling.at_.stageBytes 1 0 bundleBytes true).upd.bblocks bundleBytes.length = true := by decide +kernel
  have r : (bundling.at_.stageBytes 1 0 bundleBytes true).updRefusal none = 0 := by decide +kernel
  have v : leAt bundleBytes 4 2 = 3 := by decide +kernel
  simp only [State.bundleStatus, f, o, b, r, v]
  rfl

/-- An update image of one MAIN section of 4 bytes, signed with the key 1, whose public key is the base point of P-256: r is that
point's x-coordinate, s the hash plus r. -/
def imageBytes : List Byte :=
  leBytes 4 0x474D4955 ++ leBytes 4 1 ++ leBytes 4 7 ++ [0#8, 1#8, 0#8, 0#8] ++ leBytes 4 4 ++ leBytes 4 0x8021f95a
    ++ leBytes 32 g256.1 ++ leBytes 32 g256.2 ++ leBytes 32 g256.1
    ++ leBytes 32 0xc919b596d5ed4a07c49e841d278237d87300fd1fae85c72b7f0062d24aa5b45d ++ leBytes 4 1 ++ zeros 4 ++ leBytes 4 4 ++ zeros 96

/-- That image is staged whole on a hub whose owner key is the base point. -/
def staged : State :=
  ((up.set updBase UPD_STAT_STATE 1).store up.imageAt imageBytes).withUpd fun u =>
    { u with blocks := [0], ownerKey := some (leBytes 32 g256.1 ++ leBytes 32 g256.2) }

/-- Its verification. -/
def verifying : Case := ⟨staged, 0x0F01, 0, [], any⟩

/-- A boot flash has at least 16 MiB (Table 0.4, R554). -/
theorem flashBytes_least : 16777216 ≤ flashBytes := by
  have e1 : 16 * 2 ^ 20 = 16777216 := by norm_num
  have e2 : 512 * 2 ^ 20 = 536870912 := by norm_num
  unfold flashBytes
  rw [e1, e2]
  split
  · exact Nat.le_refl _
  · rename_i h
    exact Nat.le_of_not_lt fun g => h (.inl g)

/-- An image slot has at least 6 MiB (R518). -/
theorem imageSlot_room : 6291456 ≤ imageSlot := by
  have e1 : 8 * 2 ^ 20 = 8388608 := by norm_num
  have e2 : 4 * 2 ^ 20 = 4194304 := by norm_num
  have h := flashBytes_least
  unfold imageSlot
  rw [e1, e2]
  omega

/-- Its header and sections with CRC and SIG zero. -/
def imagePlain : List Byte := zeroAt (zeroAt imageBytes 20 4) 88 64

theorem imagePlain_head : crcRun (imagePlain.take 88) 0xFFFFFFFF = 0x301945c4 := by decide +kernel
theorem imagePlain_mid : crcRun ((imagePlain.drop 88).take 88) 0x301945c4 = 0x90c897c4 := by decide +kernel
theorem imagePlain_end : crcRun (imagePlain.drop (88 + 88)) 0x90c897c4 = 0x7fde06a5 := by decide +kernel

theorem imageBytes_crc : crc32c (zeroAt (zeroAt imageBytes 20 4) 88 64) = 0x8021f95a :=
  crc_of_parts imagePlain 88 _ _ _ _ imagePlain_head imagePlain_mid imagePlain_end (by decide)

theorem imageBytes_shape : imgShape imageBytes = true := by
  have h := imageSlot_room
  have n : imgLength imageBytes = 4 := by decide +kernel
  have k : sectionsOk imageBytes 152 1 4 = true := by decide +kernel
  simp only [imgShape, n, k, imageBytes_crc, Bool.and_eq_true, decide_eq_true_eq]
  repeat' apply And.intro
  all_goals first | omega | decide +kernel

theorem imageBytes_hash : sha256 (imageBytes.take 88 ++ imageBytes.drop 152)
    = 0x5e01e3a3f4c107bfcbe19d37c3ddf6e5fbfd7f9e809a938a8a5f298c720cf1c7 := by decide +kernel

theorem imageBytes_ecdsa : ecdsaOk g256.1 g256.2 g256.1 0xc919b596d5ed4a07c49e841d278237d87300fd1fae85c72b7f0062d24aa5b45d
    0x5e01e3a3f4c107bfcbe19d37c3ddf6e5fbfd7f9e809a938a8a5f298c720cf1c7 = true := by decide +kernel

theorem imageBytes_signed : verifying.at_.imgSigned imageBytes = true := by
  have e : ecdsaOk (leAt ((imageBytes.drop 24).take 64) 0 32) (leAt ((imageBytes.drop 24).take 64) 32 32)
      (leAt ((imageBytes.drop 88).take 64) 0 32) (leAt ((imageBytes.drop 88).take 64) 32 32)
      (sha256 (imageBytes.take 88 ++ imageBytes.drop 152)) = true := by
    have x : leAt ((imageBytes.drop 24).take 64) 0 32 = g256.1 := by decide +kernel
    have y : leAt ((imageBytes.drop 24).take 64) 32 32 = g256.2 := by decide +kernel
    have r : leAt ((imageBytes.drop 88).take 64) 0 32 = g256.1 := by decide +kernel
    have s : leAt ((imageBytes.drop 88).take 64) 32 32 = 0xc919b596d5ed4a07c49e841d278237d87300fd1fae85c72b7f0062d24aa5b45d := by
      decide +kernel
    rw [x, y, r, s, imageBytes_hash]
    exact imageBytes_ecdsa
  have k : verifying.at_.keyOk ((imageBytes.drop 24).take 64) = true := by decide +kernel
  simp only [State.imgSigned, sigOk, k, e, Bool.and_self]

theorem test_meets_UpdateCommands_verify : verifying.Meets ∧ verifying.at_.updBusy = false ∧ verifying.at_.verifyStatus = 0 := by
  refine ⟨meets_all [verifying] (by decide +kernel) verifying (by simp), by decide +kernel, ?_⟩
  have g : verifying.at_.get updBase UPD_STAT_STATE = 1 := by decide +kernel
  have b : blocksIn verifying.at_.upd.blocks 256 = true := by decide +kernel
  have n : imgLength (verifying.at_.load verifying.at_.imageAt 256) = 4 := by decide +kernel
  have b2 : blocksIn verifying.at_.upd.blocks 260 = true := by decide +kernel
  have i : verifying.at_.stagedImage = imageBytes := by decide +kernel
  have p : leAt imageBytes 14 2 = 0 := by decide +kernel
  have u : verifying.at_.updRefusal (some (imgSec imageBytes)) = 0 := by decide +kernel
  simp [State.verifyStatus, g, b, n, b2, i, p, u, imageBytes_shape, imageBytes_signed]

/-! ### Witnesses: the step, the numbered rules, registers and store -/

theorem test_meets_EveryStepCompletes :
    State.reset.Inv ∧ up.Inv ∧ held.Inv ∧ State.reset.pending = [] ∧ ({ up with pending := [.sysNop key] } : State).Inv := by
  unfold State.Inv; decide +kernel

theorem test_meets_HeldStays :
    held.inHeld = true ∧ step held = .next held.idle
    ∧ (∀ (e : BootEnv) (rest : List Instr), held.pending = .powerOn e :: rest → e.cold = false) := by
  refine ⟨by decide +kernel, rfl, ?_⟩
  intro e rest h
  cases h

theorem test_meets_StopsInHeld :
    held.inHeld = true ∧ held.Calm ∧ held.Inv ∧ runsInHeld (.sysNop key) = false ∧ runsInHeld (.pwmPeriodStart 0 3) = false := by
  unfold State.Calm State.Inv; decide +kernel

theorem test_meets_StopsDown :
    State.reset.sys.up = false ∧ State.reset.Inv ∧ runsOffDie (.sysNop key) = false := by
  unfold State.Inv; decide +kernel

/-- A notice. -/
def notice : Notice := { head := 0, addr := 0, idx := 0, seq := 0 }

/-- A hub whose notice queue is full, and a Note-class fault; Note-class notices are queued. -/
def noticesFull : State :=
  let s := up.set faultBase FAULT_CTRL_NOTE_Q 1
  { s with fault := { s.fault with notices := List.replicate 128 notice } }

theorem test_meets_NoticeOverflow :
    noticesFull.fault.notices.length = 128 ∧ noticesFull.get faultBase FAULT_CTRL_NOTE_Q ≠ 0 ∧ raised.cls ≠ .note
    ∧ ({ raised with cls := .note } : Raised).cls = .note := by decide +kernel

theorem test_meets_StampQueue :
    (up.tsq 5).length < 16 ∧ ((up.setTsq 5 (List.replicate 16 [])).tsq 5).length = 16 := by decide +kernel

/-- A field of 4 bits from bit 28, and one of 32 bits, with an access code. -/
def fieldOf (a : Acc) : FieldSpec := ⟨⟨0, 28, 4⟩, a, 0, .any⟩

theorem test_meets_FieldAccess :
    (∀ a ∈ [Acc.ro, .wo, .w1s, .rw, .rws, .w1c, .rwl],
      (fieldOf a).fld.lo + (fieldOf a).fld.width ≤ 32 ∧ (fieldOf a).clamp = .any ∧ (fieldOf a).acc = a)
    ∧ bitsOf (fieldTake true 0 0x50000000#32 (0#32, false) (fieldOf .rwl)).1 28 4 = 0
    ∧ (fieldTake true 0 0x50000000#32 (0#32, false) (fieldOf .rwl)).2 = true
    ∧ bitsOf (fieldTake false 0 0x50000000#32 (0#32, false) (fieldOf .rwl)).1 28 4 = 5 := by decide +kernel

theorem test_meets_RegisterWriteFrame :
    ((regFields (lineBase 5)).foldl (fieldTake (up.rwlRuns (lineBase 5)) (roHere (lineBase 5)) 2#32) (up.rd (lineBase 5), false)).2 = false
    ∧ (regFields (lineBase 5)).length ≠ 0 := by decide +kernel

theorem test_meets_StoreThenLoad :
    Memory.wf up ∧ Memory.wf (up.store 0x3FFFFFE [1#8, 2#8]) ∧ (up.store 0x3FFFFFE [1#8, 2#8]).byteAt 0x3FFFFFF = 2#8 := by
  decide +kernel

theorem test_meets_StatusCommandFrame : ∀ c ∈ ([(0x0000, 0), (0x0001, 0), (0x0100, 0), (0x0200, 0), (0x0304, sel 9 0), (0x0400, 0), (0x0600, 0),
      (0x0706, sel 1 2), (0x0803, sel 3 2 1), (0x0904, sel 5 0), (0x0A03, sel 6 5), (0x0B00, 0), (0x0C00, sel 13 0), (0x0D00, 0), (0x0F03, 0)].map
    fun (x : Nat × Nat) => (⟨up, x.1, x.2, [], fun s e => s.calm && Tbl.wf (fun _ => 0#8) s.mem && Tbl.wf regReset s.regs && key.transport == .xspi && !e.mute
      && !e.ownBcast && s.get cmdBase CMD_LOG_OVWR + 1 != 2 ^ 31⟩ : Case)), c.Meets :=
  meets_all _ (by decide +kernel)

theorem test_meets_MergeOrder : ([(⟨5, 1, 1, 2, 3, 0, 7, []⟩ : LRec)].map fun r => (r, 0, 0)) ≠ [] := by decide

end Sys2Proof.Tests
end

/-! Every command completes: each row of `exec` is one of the ways to run, from which the frame follows. -/

namespace Sys2Proof.Machine

/-- A row that leaves an effect with what follows it runs like a row of the AON island. -/
theorem runs_after (s t : State) : Runs s (.next (s.after t)) := .aon fun _ => t

/-- A power-on is a cold start after the loss of every supply, else a row of the AON island. -/
theorem runs_powerOn (e : BootEnv) (s : State) : Runs s (execPowerOn e s) := by
  unfold execPowerOn
  split
  · exact .cold _
  · exact .aon _

/-- Every command runs in one of the ways of `Runs`: a power-on has two of them, a row of an Ethernet port runs with the port's
island, and every other row leaves its effect, if the parts it needs run, with what follows it. -/
theorem exec_runs (c : Instr) (s : State) : Runs s (exec c s) := by
  cases c with
  | powerOn e => exact runs_powerOn e s
  | macFrameRx | egressFrameStart | egressFrameEnd | mpacketPreempt | verifyRx | respondRx | verifyTimeout | gateEdge
  | gateHoldAssert | frameWindowExpire | swapLatch | gclSwap | syncRx | followUpRx | announceRx | pdelayReqRx | pdelayRespRx
  | pdelaySend => exact runs_port s _ _
  | _ => exact runs_after s _

/-- Settles O3: every row is one of the ways to run, and each of these ends in `State.after`, which keeps the queue, the variant
and the time and brings both sparse files to their canonical form. -/
theorem everyCommandCompletes : Obligations.EveryCommandCompletes := by
  intro c s _
  obtain ⟨t, hexec, hpending, hvariant, huptime, hinv⟩ := (exec_runs c s).next
  exact ⟨t, hexec, hinv, hvariant, hpending, huptime⟩

end Sys2Proof.Machine

/-! The fields of one register word: which bits a written word can reach, and what the field part of a write leaves alone. -/

namespace Sys2Proof.Machine

/-- A field's mask holds the bits from its lowest on, as many as it is wide. -/
theorem Fld.mask_testBit (f : Fld) (j : Nat) : f.mask.testBit j = decide (f.lo ≤ j ∧ j < f.lo + f.width) := by
  rw [Fld.mask, Nat.testBit_mul_two_pow, Nat.testBit_two_pow_sub_one, Bool.decide_and]
  by_cases hlo : f.lo ≤ j
  · simp only [hlo, decide_true, Bool.true_and, decide_eq_decide]
    omega
  · simp [hlo]

/-- A bit outside a field is as it was after a put there. -/
theorem putBits_getLsbD_outside (w : Word) (lo n v : Nat) {j : Nat} (h : j < lo ∨ lo + n ≤ j) :
    (putBits w lo n v).getLsbD j = w.getLsbD j := by
  rw [putBits_getLsbD, if_neg (by omega)]

/-- The ones that a write clears in a W1C field lie in the field. -/
theorem w1c_getLsbD_outside (old w : Word) (f : Fld) {j : Nat} (h : j < f.lo ∨ f.lo + f.width ≤ j) :
    (old &&& ~~~(w &&& BitVec.ofNat 32 f.mask)).getLsbD j = old.getLsbD j := by
  have hmask : f.mask.testBit j = false := by
    rw [Fld.mask_testBit, decide_eq_false]
    omega
  simp only [BitVec.getLsbD_and, BitVec.getLsbD_not, BitVec.getLsbD_ofNat, hmask, Bool.and_false, Bool.not_false, Bool.and_true]
  by_cases hj : j < 32
  · rw [decide_eq_true hj, Bool.and_true]
  · rw [BitVec.getLsbD_of_ge _ j (Nat.le_of_not_lt hj), Bool.false_and]

/-- A field that takes a written word changes no bit outside it (Table 0.5). -/
theorem fieldTake_getLsbD_outside (locked : Bool) (ro : Nat) (w : Word) (acc : Word × Bool) (f : FieldSpec) {j : Nat}
    (h : j < f.fld.lo ∨ f.fld.lo + f.fld.width ≤ j) : (fieldTake locked ro w acc f).1.getLsbD j = acc.1.getLsbD j := by
  simp only [fieldTake]
  split
  · rfl
  · cases f.acc with
    | ro | wo | w1s => rfl
    | rw | rws => exact putBits_getLsbD_outside _ _ _ _ h
    | w1c => exact w1c_getLsbD_outside _ _ _ h
    | rwl =>
      dsimp only
      split
      · exact putBits_getLsbD_outside _ _ _ _ h
      · split <;> rfl

/-- The fields of a list that take a written word in turn change no bit outside all of them. -/
theorem foldl_fieldTake_getLsbD_outside (locked : Bool) (ro : Nat) (w : Word) {j : Nat} (fs : List FieldSpec)
    (acc : Word × Bool) (h : ∀ f ∈ fs, j < f.fld.lo ∨ f.fld.lo + f.fld.width ≤ j) :
    (fs.foldl (fieldTake locked ro w) acc).1.getLsbD j = acc.1.getLsbD j := by
  induction fs generalizing acc with
  | nil => rfl
  | cons f fs ih =>
    rw [List.foldl_cons, ih _ fun g hg => h g (List.mem_cons_of_mem _ hg),
      fieldTake_getLsbD_outside _ _ _ _ _ (h f (List.mem_cons_self ..))]

/-- A write that no locked field refuses puts the word its fields make of it, and does nothing else. -/
theorem fieldsWrite_of_not_refused (s : State) (init a : Nat) (w : Word)
    (h : ((regFields a).foldl (fieldTake (s.rwlRuns a) (roHere a) w) (s.rd a, false)).2 = false) :
    s.fieldsWrite init a w
      = s.wr a ((regFields a).foldl (fieldTake (s.rwlRuns a) (roHere a) w) (s.rd a, false)).1 := by
  simp only [State.fieldsWrite, State.fieldsTake, h, Bool.false_eq_true, if_false]

/-- Settles O14: the field part of a write that is not refused is one `wr`, of a word whose bits outside every field are the
old ones. -/
theorem registerWriteFrame : Obligations.RegisterWriteFrame := by
  intro s init a w r t hr
  have ht : t = s.wr a r.1 := fieldsWrite_of_not_refused s init a w hr
  rw [ht, rd_wr_same]
  exact ⟨rfl, fun b hb => rd_wr_other s _ hb, fun _ => rfl, wr_cmd .., wr_fault ..,
    fun j _ hj => foldl_fieldTake_getLsbD_outside _ _ _ _ _ hj⟩

end Sys2Proof.Machine

/-! What a write of one register word meets on its way: the rules of its space, then the map, the variant, the fences, the
mailbox windows and the clock gates. -/

namespace Sys2Proof.Machine

/-! ### One word as bytes and back -/

theorem leBytes_length (n v : Nat) : (leBytes n v).length = n := by
  induction n generalizing v with
  | zero => rfl
  | succ n ih => rw [leBytes, List.length_cons, ih]

/-- The low `n` bytes of a number spell it modulo 256 to the `n`. -/
theorem leNat_leBytes (n v : Nat) : leNat (leBytes n v) = v % 256 ^ n := by
  induction n generalizing v with
  | zero => rw [leBytes, leNat, Nat.pow_zero, Nat.mod_one]
  | succ n ih =>
    rw [leBytes, leNat, ih, BitVec.toNat_ofNat, Nat.pow_succ' (m := 256)]
    exact Nat.mod_mul.symm

/-- The four bytes of a word are one word of a register write. -/
theorem wordsAt_leBytes_word (a : Nat) (w : Word) : wordsAt a (leBytes 4 w.toNat) = [(a, w.toNat)] := by
  have hlen := leBytes_length 4 w.toNat
  have hval : leAt (leBytes 4 w.toNat) 0 4 = w.toNat := by
    rw [leAt, List.drop_zero, List.take_of_length_le hlen.le, leNat_leBytes]
    exact Nat.mod_eq_of_lt w.isLt
  simp [wordsAt, hlen, hval]

/-! ### The rules of the space -/

/-- A word that its space's rules refuse is discarded and recorded (R54). -/
theorem writeBy_refused (s : State) (who : Who) (a : Nat) (w : Word) (h : s.writeStatus 0 a 4 (whoRing who) ≠ 0) :
    s.writeBy who a w
      = s.writeRefused (s.whoNode who) (whoCode who) (fabAddr s.nodeId 0 a) (s.writeStatus 0 a 4 (whoRing who)) := by
  simp only [State.writeBy, State.spaceWrite, leBytes_length, stOk, ne_eq, h, not_false_eq_true, if_true]

/-- A word that its space's rules let pass is written as one register word (R46). -/
theorem writeBy_ok (s : State) (who : Who) (a : Nat) (w : Word) (h : s.writeStatus 0 a 4 (whoRing who) = 0) :
    s.writeBy who a w = s.regWrite (whoCode who) a w := by
  simp [State.writeBy, State.spaceWrite, leBytes_length, stOk, h, wordsAt_leBytes_word, State.regWrites]

/-! ### What a write of one register word comes to -/

section
variable {s : State} {init a : Nat} {w : Word}

theorem regWrite_unmapped (h : regMapped a = false) : s.regWrite init a w = s.unmapped init a 1 := by
  simp [State.regWrite, h]

theorem regWrite_absent (hm : regMapped a = true) (h : s.regPresent a = false) : s.regWrite init a w = s := by
  simp [State.regWrite, hm, h]

theorem regWrite_fenced (hm : regMapped a = true) (hp : s.regPresent a = true) (h : s.regFenced a = true) :
    s.regWrite init a w = s.bump 0 SYS_FENCE_WDROP := by
  simp [State.regWrite, hm, hp, h]

/-- None but xSPI writes the mailbox windows. -/
theorem regWrite_mail_refused (hm : regMapped a = true) (hp : s.regPresent a = true) (hf : s.regFenced a = false)
    (h : mailWindow a = true) (hi : init ≠ 0) :
    s.regWrite init a w = s.writeRefused s.nodeId init (s.regAddr a) stNotPermitted := by
  simp [State.regWrite, hm, hp, hf, h, hi]

/-- A write that waits for no wake takes effect in its block, the island woken where it is gated. -/
theorem regWrite_applies (hm : regMapped a = true) (hp : s.regPresent a = true) (hf : s.regFenced a = false)
    (hw : mailWindow a = false ∨ init = 0) (h : s.regGated a = false ∨ 2 ≤ init) :
    s.regWrite init a w = (s.wakeFor a).regApply init a w := by
  have hmail : ¬ (mailWindow a = true ∧ init ≠ 0) := by
    rintro ⟨hmw, hi⟩
    exact hw.elim (fun hn => by simp [hn] at hmw) hi
  have hgate : ¬ (s.regGated a = true ∧ init < 2) := by
    rintro ⟨hg, hi⟩
    exact h.elim (fun hn => by simp [hn] at hg) (by omega)
  simp only [State.regWrite, hm, hp, hf, if_neg hmail, if_neg hgate, Bool.not_true, Bool.false_eq_true, if_false]

/-- A write of xSPI or USB to a gated island waits for the wake it asks for (R511). -/
theorem regWrite_waits (hm : regMapped a = true) (hp : s.regPresent a = true) (hf : s.regFenced a = false)
    (hw : mailWindow a = false ∨ init = 0) (hg : s.regGated a = true) (hi : init < 2) {i : Nat} (hisl : regIsland a = some i) :
    s.regWrite init a w
      = ({ s with sys := { s.sys with waits := s.sys.waits ++ [(i, a, w.toNat, init)] } } : State).islandCall i := by
  have hmail : ¬ (mailWindow a = true ∧ init ≠ 0) := by
    rintro ⟨hmw, hn⟩
    exact hw.elim (fun hf => by simp [hf] at hmw) hn
  simp only [State.regWrite, hm, hp, hf, if_neg hmail, hg, hi, hisl, Bool.not_true, Bool.false_eq_true, if_false, and_self,
    if_true]

end

/-! ### The row -/

theorem exec_registerWrite {s : State} (hl : s.Live) (who : Who) (a : BitVec 32) (w : Word) :
    exec (.registerWrite who a w) s = .next (s.after (s.writeBy who a.toNat w)) :=
  run_live (fun s => s.writeBy who a.toNat w) hl

theorem exec_registerWrite_refused {s : State} (hl : s.Live) (who : Who) (a : BitVec 32) (w : Word)
    (h : s.writeStatus 0 a.toNat 4 (whoRing who) ≠ 0) :
    exec (.registerWrite who a w) s = .next (s.after (s.writeRefused (s.whoNode who) (whoCode who)
      (fabAddr s.nodeId 0 a.toNat) (s.writeStatus 0 a.toNat 4 (whoRing who)))) := by
  rw [exec_registerWrite hl, writeBy_refused s who a.toNat w h]

theorem exec_registerWrite_ok {s t : State} (hl : s.Live) {who : Who} {a : BitVec 32} {w : Word}
    (h : s.writeStatus 0 a.toNat 4 (whoRing who) = 0) (ht : s.regWrite (whoCode who) a.toNat w = t) :
    exec (.registerWrite who a w) s = .next (s.after t) := by
  rw [exec_registerWrite hl, writeBy_ok s who a.toNat w h, ht]

/-- Settles O17: on a live hub the row is the write of one register word, once its space's rules let it pass; each clause is
that write's case. -/
theorem registerWriteTakes : Obligations.RegisterWriteTakes := by
  intro s who a w hl
  refine ⟨exec_registerWrite_refused hl who a w, fun hst => ?_⟩
  refine ⟨fun hm => exec_registerWrite_ok hl hst (regWrite_unmapped hm),
    fun hm hp => exec_registerWrite_ok hl hst (regWrite_absent hm hp), fun hm hp => ?_⟩
  refine ⟨fun hf => exec_registerWrite_ok hl hst (regWrite_fenced hm hp hf), fun hf => ?_⟩
  refine ⟨fun hmw hi => exec_registerWrite_ok hl hst (regWrite_mail_refused hm hp hf hmw hi), fun hw => ?_⟩
  exact ⟨fun hg => exec_registerWrite_ok hl hst (regWrite_applies hm hp hf hw hg),
    fun i hg hi hisl => exec_registerWrite_ok hl hst (regWrite_waits hm hp hf hw hg hi hisl)⟩

end Sys2Proof.Machine

/-! The step, and the rows of the clock, the time replicas and the power-edge links: the effect of each under its condition,
then what the row answers. -/

namespace Sys2Proof.Machine

/-- Settles O1, by the two cases of the queue that `step` tells apart. -/
theorem stepRunsFront : Obligations.StepRunsFront := by
  intro s
  refine ⟨fun _ _ => rfl, fun hempty => ?_⟩
  rw [step, hempty]

/-! ### Time replicas (R14) -/

section
variable {s : State} {i : Nat} {err : Int}

theorem replicaCheck_absent (h : s.hasReplica i = false) : s.replicaCheck i err = s := by
  simp [State.replicaCheck, h]

theorem replicaCheck_near (h : s.hasReplica i = true) (hlo : -1 ≤ err) (hhi : err ≤ 1) :
    s.replicaCheck i err = { s with replicas := Tbl.put (fun _ => {}) s.replicas i { err := err } } := by
  simp [State.replicaCheck, h, hlo, hhi]

/-- A replica too far off is reloaded, suspect, its failures in a row counted up to 3. -/
theorem replicaCheck_far (h : s.hasReplica i = true) (hfar : 1 < err ∨ err < -1) {n : Nat}
    (hn : min 3 ((s.replica i).fails + 1) = n) :
    s.replicaCheck i err
      = ({ s with replicas := Tbl.put (fun _ => {}) s.replicas i { err := err, fails := n, suspect := true } } :
          State).replicaFault i n (ofSigned 32 err) := by
  have hnear : ¬ (-1 ≤ err ∧ err ≤ 1) := by omega
  simp only [State.replicaCheck, h, hn, if_neg hnear, Bool.not_true, Bool.false_eq_true, if_false]

theorem replicaFault_early {n : Nat} (h : n < 3) (d : Nat) :
    s.replicaFault i n d = s.raise .timeReplica (srcIsland i) 0 (leBytes 4 d ++ leBytes 1 n) := by
  rw [State.replicaFault, if_pos h]

/-- The third failure in a row fences the island's unit, or loses an island that belongs to none. -/
theorem replicaFault_third (d : Nat) :
    s.replicaFault i 3 d = s.raise (if 4 ≤ i ∧ i ≤ 18 then .timeReplicaFence else .timeReplicaLost) (srcIsland i) 0
      (leBytes 4 d ++ leBytes 1 3) := by
  simp only [State.replicaFault, Nat.lt_irrefl, if_false]
  split <;> rfl

end

theorem exec_timeReplicaAlign {s : State} (hu : s.sys.up = true) (i : Fin 23) (err : BitVec 32) :
    exec (.timeReplicaAlign i err) s = .next (s.after (s.replicaCheck i.val err.toInt)) :=
  run_up (fun s => s.replicaCheck i.val err.toInt) hu

theorem exec_refclkLost {s : State} (hu : s.sys.up = true) (off : Bool) (ppm : BitVec 32) :
    exec (.refclkLost off ppm) s = .next (s.after (s.refclkLost off ppm)) :=
  run_up (fun s => s.refclkLost off ppm) hu

/-! ### The links of the power-edge dies (R16, R17, R398) -/

section
variable {s : State} {d : Nat}

theorem linkFrame_missed : s.linkFrame d false = s.emit (.linkFrame d (s.linkBytes d)) := rfl

theorem emit_die (o : Out) : (s.emit o).die d = s.die d := rfl

/-- A frame that the die receives outside a gap is the last one it has received. -/
theorem linkFrame_received (hg : (s.die d).gap = false) :
    s.linkFrame d true
      = (s.emit (.linkFrame d (s.linkBytes d))).setDie d { s.die d with frameAt := s.uptime } := by
  simp only [State.linkFrame, emit_die, emit_uptime, hg, Bool.not_true, Bool.false_eq_true, if_false]

theorem linkTimeout8_due (hg : (s.die d).gap = false) (ht : (s.die d).frameAt + 8000 ≤ s.uptime) :
    s.linkTimeout8 d = (s.setDie d { s.die d with gap := true }).dieLatch d 2 := by
  have hwait : ¬ ((s.die d).gap = true ∨ s.uptime < (s.die d).frameAt + 8000) := by simp [hg, ht]
  rw [State.linkTimeout8, if_neg hwait]

theorem linkLost_due (hg : (s.die d).gap = true) (ht : (s.die d).frameAt + 1000000 ≤ s.uptime)
    (hf : s.fenced (.pedie d) = false) : s.linkLost d = s.raise .pedieLinkLost (srcIsland (23 + d)) 0 [] := by
  simp [State.linkLost, hg, hf, Nat.not_lt.mpr ht]

/-- The end of a gap of 1 ms or more has no record of its own: PEDIE_LINK_LOST has told of it. -/
theorem linkBack_late (hg : (s.die d).gap = true) (ht : (s.die d).frameAt + 1000000 ≤ s.uptime) :
    s.linkBack d = s.setDie d { s.die d with gap := false, frameAt := s.uptime, backAt := s.uptime } := by
  simp only [State.linkBack, hg, Nat.not_lt.mpr ht, Bool.not_true, Bool.false_eq_true, if_false]

theorem dieRelease_due (hl : (s.die d).latch = true) (hg : (s.die d).gap = false)
    (ht : (s.die d).backAt + 10000000 ≤ s.uptime) (hr : s.dieRequired d = false) (hf : s.fenced (.pedie d) = false)
    (hh : s.inHeld = false) :
    s.dieRelease d
      = (s.setDie d { s.die d with latch := false }).each (s.dieChannels d) fun s c => s.pchFollow c 0 := by
  simp only [State.dieRelease, hl, hg, hr, hf, hh, Nat.not_lt.mpr ht, Bool.not_true, Bool.false_eq_true, or_self, if_false]
  rfl

end

section
variable {s : State} {d : Fin 2}

theorem exec_linkFrameSend (hu : s.sys.up = true) (hp : s.unitPresent (.pedie d.val) = true) (got : Bool) :
    exec (.linkFrameSend d got) s = .next (s.after (s.linkFrame d.val (got && (s.die d.val).powered))) := by
  change execLinkFrameSend d got s = _
  rw [execLinkFrameSend, run_up _ hu, if_pos hp]

/-- The die itself watches for frames, with the main die up or down, unless the hub is in Standby. -/
theorem exec_pedieLinkTimeout (hp : s.unitPresent (.pedie d.val) = true) (hs : s.sys.standby = false) :
    exec (.pedieLinkTimeout d) s = .next (s.after (s.linkTimeout8 d.val)) := by
  change execPedieLinkTimeout d s = _
  rw [execPedieLinkTimeout, State.runAon, if_pos ⟨hp, by rw [hs, Bool.not_false]⟩]

theorem exec_pedieLinkLostExpire (hu : s.sys.up = true) (hp : s.unitPresent (.pedie d.val) = true) :
    exec (.pedieLinkLostExpire d) s = .next (s.after (s.linkLost d.val)) := by
  change execPedieLinkLostExpire d s = _
  rw [execPedieLinkLostExpire, run_up _ hu, if_pos hp]

theorem exec_pedieLinkRestore (hu : s.sys.up = true) (hw : (s.die d.val).powered = true)
    (hp : s.unitPresent (.pedie d.val) = true) :
    exec (.pedieLinkRestore d) s = .next (s.after (s.linkBack d.val)) := by
  change execPedieLinkRestore d s = _
  rw [execPedieLinkRestore, run_up _ hu, if_pos ⟨hw, hp⟩]

theorem exec_safeStateRelease (hl : s.Live) (hw : (s.die d.val).powered = true)
    (hp : s.unitPresent (.pedie d.val) = true) :
    exec (.safeStateRelease d) s = .next (s.after (s.dieRelease d.val)) := by
  change execSafeStateRelease d s = _
  rw [execSafeStateRelease, run_live _ hl, if_pos ⟨hw, hp⟩]

end

/-- Settles O18: each row is one operation on the replica or the die, and each clause is that operation's case. -/
theorem clockAndLinkRows : Obligations.ClockAndLinkRows := by
  refine ⟨fun s hu => ⟨exec_refclkLost hu, ?absent, ?near, ?far, ?third⟩,
    fun s d hp => ⟨?received, ?missed, ?timeout, ?lost, ?restore, ?release⟩⟩
  case absent =>
    intro i err hr
    rw [exec_timeReplicaAlign hu, replicaCheck_absent hr]
  case near =>
    intro i err hr hlo hhi
    rw [exec_timeReplicaAlign hu, replicaCheck_near hr hlo hhi]
  case far =>
    intro i err hr hfar hfails
    rw [exec_timeReplicaAlign hu, replicaCheck_far hr hfar (Nat.min_eq_right (by omega)), replicaFault_early (by omega)]
  case third =>
    intro i err hr hfar hfails
    rw [exec_timeReplicaAlign hu, replicaCheck_far hr hfar (Nat.min_eq_left (by omega)), replicaFault_third]
  case received =>
    intro hu hw hg
    rw [exec_linkFrameSend hu hp, hw, Bool.and_true, linkFrame_received hg]
  case missed =>
    intro hu
    rw [exec_linkFrameSend hu hp, Bool.false_and, linkFrame_missed]
  case timeout =>
    intro hg hs ht
    rw [exec_pedieLinkTimeout hp hs, linkTimeout8_due hg ht]
  case lost =>
    intro hu hg ht hf
    rw [exec_pedieLinkLostExpire hu hp, linkLost_due hg ht hf]
  case restore =>
    intro hu hw hg ht
    rw [exec_pedieLinkRestore hu hw hp, linkBack_late hg ht]
  case release =>
    intro hl hw hlatch hg ht hr hf
    rw [exec_safeStateRelease hl hw hp, dieRelease_due hlatch hg ht hr hf hl.2]

end Sys2Proof.Machine

/-! Commands that execute: how one comes to its reply or its wait, and those of groups 0x00 and 0x01. -/

namespace Sys2Proof.Machine

/-! ### A command row's end -/

section
variable {s t : State} {k : CmdKey} {e : CmdEntry} {i : Instr} {op n : Nat} {len : Nat → Bool} {f : State → CmdEntry → CmdRes}

/-- A command row completes as its body says, once its opcode takes the number of its parameter bytes. -/
theorem completes_of_done {st : Nat} {res : List Byte} (hrow : exec i s = s.run fun s => s.command k op len f)
    (hlen : len n = true) (hbody : f s e = .done st res t) : s.Completes k e i op n st res t :=
  fun hexec => hrow.trans (run_command hexec hlen hbody)

/-- A command row waits as its body says. -/
theorem waits_of_wait {w : WaitKind} (hrow : exec i s = s.run fun s => s.command k op len f) (hlen : len n = true)
    (hbody : f s e = .wait w t) : s.Waits k e i op n w t :=
  fun _ hexec hphase => hrow.trans (run_command_wait hexec hphase hlen hbody)

end

section
variable {s : State} {k : CmdKey} {e : CmdEntry}

/-! ### SYS_ABORT (R114) -/

theorem abort_unknown {tag : Nat} (h : s.entry { k with tag := tag } = none) : s.abort k tag = (0x10, s) := by
  rw [State.abort, h]

/-- A command that has not started is ended, but an abort itself. -/
theorem abort_accepted {tag : Nat} {e2 : CmdEntry} (h : s.entry { k with tag := tag } = some e2) (hp : e2.phase = .accepted)
    (hop : pktOp e2.packet ≠ 2) : s.abort k tag = (0, s.abortOne e2) := by
  simp only [State.abort, h, hp, if_neg hop, State.abortable, if_true]

theorem completes_sysAbort (htag : e.arg 0 2 ≠ 0) (hzero : e.arg 2 2 = 0) :
    s.Completes k e (.sysAbort k) 0x0002 4 (s.abort k (e.arg 0 2)).1 [] (s.abort k (e.arg 0 2)).2 :=
  completes_of_done rfl rfl (if_neg (by omega))

theorem completes_sysAbort_as {r : Nat × State} (htag : e.arg 0 2 ≠ 0) (hzero : e.arg 2 2 = 0)
    (hr : s.abort k (e.arg 0 2) = r) : s.Completes k e (.sysAbort k) 0x0002 4 r.1 [] r.2 :=
  hr ▸ completes_sysAbort htag hzero

theorem completes_sysAbort_badParam (h : e.arg 0 2 = 0 ∨ e.arg 2 2 ≠ 0) :
    s.Completes k e (.sysAbort k) 0x0002 4 0x22 [] s :=
  completes_of_done rfl rfl (if_pos h)

/-! ### SYS_UNFENCE (R34) -/

theorem completes_sysUnfence_noUnit (code : BitVec 16) (hu : unfenceUnit e.unit = none) :
    s.Completes k e (.sysUnfence k code) 0x0004 0 0x22 [] s :=
  completes_of_done rfl rfl (by simp only [hu, CmdRes.no])

section
variable {code : BitVec 16} {u : FenceUnit} (hu : unfenceUnit e.unit = some u)
include hu

theorem completes_sysUnfence_free (hf : s.fenced u = false) :
    s.Completes k e (.sysUnfence k code) 0x0004 0 0 (leBytes 1 0) s :=
  completes_of_done rfl rfl (by simp only [hu, hf, Bool.not_false, if_true])

theorem completes_sysUnfence_passed (hf : s.fenced u = true) (hc : s.unfenceCode u code.toNat = 0) :
    s.Completes k e (.sysUnfence k code) 0x0004 0 0 (leBytes 1 1) (s.unfence u) :=
  completes_of_done rfl rfl (by simp [hu, hf, hc])

theorem completes_sysUnfence_failed (hf : s.fenced u = true) (hc : s.unfenceCode u code.toNat ≠ 0) :
    s.Completes k e (.sysUnfence k code) 0x0004 0 0xF0 []
      (s.raise .selftestFail (selfSource u) 0 (leBytes 2 (s.unfenceCode u code.toNat))) :=
  completes_of_done rfl rfl (by simp [hu, hf, hc])

end

/-! ### SYS_WARM_RESET (R122) -/

theorem completes_sysWarmReset_writing (h : s.flag updBase UPD_STAT_IMG_WRITE = true) :
    s.Completes k e (.sysWarmReset k) 0x0005 0 0x24 [] s :=
  completes_of_done rfl rfl (if_pos h)

theorem completes_sysWarmReset (h : s.flag updBase UPD_STAT_IMG_WRITE = false) :
    s.Completes k e (.sysWarmReset k) 0x0005 0 0 []
      { s with cmd := { s.cmd with warmResetAt := some (s.uptime + 1000000) } } :=
  completes_of_done rfl rfl (if_neg (by simp [h]))

/-! ### SYS_POWER_STATE (R26, R27, R515, R516) -/

/-- While a Standby entry is pending no other state is taken. -/
theorem powerTo_pending (h : s.get 0 SYS_PWR_STATE = 2) (st wake alarm : Nat) : s.powerTo st wake alarm = (0x24, s) := by
  rw [State.powerTo, if_pos h]

theorem powerTo_noEconomy (hc : s.economyOk = false) (wake alarm : Nat) : s.powerTo 1 wake alarm = (0x24, s) := by
  simp [State.powerTo, hc]

theorem powerTo_own {st : Nat} (hnow : s.get 0 SYS_PWR_STATE ≠ 2) (hst : st < 2) (hc : st = 1 → s.economyOk = true)
    (wake alarm : Nat) : s.powerTo st wake alarm = (0, s.powerState st) := by
  have hstay : ¬ (st = 1 ∧ (!s.economyOk) = true) := fun ⟨h1, h2⟩ => by simp [hc h1] at h2
  rw [State.powerTo, if_neg hnow, if_neg (by omega), if_neg hstay]

/-- A parameter of SYS_POWER_STATE is out of its range, or a reserved one is not zero. -/
def CmdEntry.powerBad (e : CmdEntry) : Prop := 2 < e.arg 0 1 ∨ e.arg 1 3 ≠ 0 ∨ e.arg 5 3 ≠ 0 ∨ e.arg 14 2 ≠ 0

theorem completes_sysPowerState_badParam (h : e.powerBad) :
    s.Completes k e (.sysPowerState k) 0x0006 16 0x22 [] s :=
  completes_of_done rfl rfl (if_pos h)

/-- SYS_POWER_STATE with sound parameters starts from `t`: no entry is reported cancelled any more, and Full or Economy is
remembered as named. -/
def State.powerAsked (s : State) (st : Nat) : State :=
  if st < 2 then (s.set 0 SYS_PWR_STBY_CANCELLED 0).withSys fun x => { x with named := true }
  else s.set 0 SYS_PWR_STBY_CANCELLED 0

section
variable {t : State} (hok : ¬ e.powerBad) (ht : s.powerAsked (e.arg 0 1) = t)
include hok ht

theorem completes_sysPowerState_same (h : t.get 0 SYS_PWR_STATE = e.arg 0 1) :
    s.Completes k e (.sysPowerState k) 0x0006 16 0 (leBytes 4 (t.get 0 SYS_PWR_STATE)) t := by
  subst ht
  exact completes_of_done rfl rfl ((if_neg hok).trans (if_pos h))

theorem completes_sysPowerState_taken {u : State} (h : t.get 0 SYS_PWR_STATE ≠ e.arg 0 1)
    (hto : t.powerTo (e.arg 0 1) (e.arg 4 1) (e.arg 8 6) = (0, u)) :
    s.Completes k e (.sysPowerState k) 0x0006 16 0 (leBytes 4 (u.get 0 SYS_PWR_STATE)) u := by
  subst ht
  obtain rfl : ((s.powerAsked (e.arg 0 1)).powerTo (e.arg 0 1) (e.arg 4 1) (e.arg 8 6)).2 = u := congrArg Prod.snd hto
  exact completes_of_done rfl rfl ((if_neg hok).trans ((if_neg h).trans (if_pos (congrArg Prod.fst hto))))

theorem completes_sysPowerState_refused {st : Nat} (h : t.get 0 SYS_PWR_STATE ≠ e.arg 0 1)
    (hto : (t.powerTo (e.arg 0 1) (e.arg 4 1) (e.arg 8 6)).1 = st) (hst : st ≠ 0) :
    s.Completes k e (.sysPowerState k) 0x0006 16 st [] t := by
  subst ht hto
  exact completes_of_done rfl rfl ((if_neg hok).trans ((if_neg h).trans (if_neg hst)))

end

/-! ### CMD_LOG_READ and the register lists (R118, R122, R123) -/

theorem completes_cmdLogRead (hlo : 1 ≤ e.arg 4 2) (hhi : e.arg 4 2 ≤ 127) (hzero : e.arg 6 2 = 0) :
    s.Completes k e (.cmdLogRead k) 0x0003 8 0
      (leBytes 4 (logOldest s.cmd.logFull (s.get cmdBase CMD_LOG_HEAD_INDEX)) ++ leBytes 4 (s.get cmdBase CMD_LOG_HEAD_INDEX)
        ++ s.shown [0x1064] ++ leBytes 4 0 ++ s.logRecords (e.arg 0 4) (e.arg 4 2)) s :=
  completes_of_done rfl rfl (if_neg (by omega))

theorem completes_cmdLogRead_badParam (h : e.arg 4 2 = 0 ∨ 127 < e.arg 4 2 ∨ e.arg 6 2 ≠ 0) :
    s.Completes k e (.cmdLogRead k) 0x0003 8 0x22 [] s :=
  completes_of_done rfl rfl (if_pos h)

/-- The pairs of offset and value that a SYS_REG_WRITE_LIST names. -/
def CmdEntry.writeList (e : CmdEntry) : List (Nat × Nat) :=
  (List.range (e.ps.length / 8)).map fun i => (e.arg (8 * i) 4, e.arg (8 * i + 4) 4)

/-- The offsets that a SYS_REG_READ_LIST names. -/
def CmdEntry.readList (e : CmdEntry) : List Nat := (List.range (e.ps.length / 4)).map fun i => e.arg (4 * i) 4

/-- The lengths that a list of `m`-byte items takes. -/
theorem listLength_ok {m n : Nat} (hmod : n % m = 0) (hlo : m ≤ n) : (n % m == 0 && decide (m ≤ n)) = true := by
  simp [hmod, hlo]

section
variable {n : Nat} (hmod : n % 8 = 0) (hlo : 8 ≤ n)
include hmod hlo

theorem completes_sysRegWriteList (hl : ∀ p ∈ e.writeList, listOffset p.1 = true) :
    s.Completes k e (.sysRegWriteList k) 0x8000 n 0 [] (s.regWrites 2 e.writeList) := by
  have hall : ¬ (!e.writeList.all fun p => listOffset p.1) = true := by simpa using hl
  exact completes_of_done rfl (listLength_ok hmod hlo) (if_neg hall)

theorem completes_sysRegWriteList_badParam (hl : ∃ p ∈ e.writeList, listOffset p.1 = false) :
    s.Completes k e (.sysRegWriteList k) 0x8000 n 0x22 [] s := by
  have hall : (!e.writeList.all fun p => listOffset p.1) = true := by simpa using hl
  exact completes_of_done rfl (listLength_ok hmod hlo) (if_pos hall)

end

section
variable {n : Nat} (hmod : n % 4 = 0) (hlo : 4 ≤ n)
include hmod hlo

theorem completes_sysRegReadList (hl : ∀ a ∈ e.readList, listOffset a = true ∧ popWord a = false) :
    s.Completes k e (.sysRegReadList k) 0x8001 n 0 (s.romReads e.readList).1 (s.romReads e.readList).2 := by
  have hall : ¬ (!e.readList.all listOffset) = true := by simpa using fun a ha => (hl a ha).1
  have hpop : ¬ e.readList.any popWord = true := by simpa using fun a ha => (hl a ha).2
  exact completes_of_done rfl (listLength_ok hmod hlo) ((if_neg hall).trans (if_neg hpop))

theorem completes_sysRegReadList_badParam (hl : ∃ a ∈ e.readList, listOffset a = false) :
    s.Completes k e (.sysRegReadList k) 0x8001 n 0x22 [] s := by
  have hall : (!e.readList.all listOffset) = true := by simpa using hl
  exact completes_of_done rfl (listLength_ok hmod hlo) (if_pos hall)

/-- A read-sensitive word refuses the whole list (R123). -/
theorem completes_sysRegReadList_popWord (hl : ∀ a ∈ e.readList, listOffset a = true) (hp : ∃ a ∈ e.readList, popWord a = true) :
    s.Completes k e (.sysRegReadList k) 0x8001 n 0x24 [] s := by
  have hall : ¬ (!e.readList.all listOffset) = true := by simpa using hl
  have hpop : e.readList.any popWord = true := List.any_eq_true.mpr hp
  exact completes_of_done rfl (listLength_ok hmod hlo) ((if_neg hall).trans (if_pos hpop))

end

/-! ### The store's partitions (R124) -/

theorem partRefused_fixed {p : Nat} (h : p = 0 ∨ p = 7 ∨ p = 8) (first count : Nat) : s.partRefused p first count = 0x24 := by
  rw [State.partRefused, if_pos h]

theorem completes_storePartition_badParam (h : e.arg 1 1 ≠ 0) : s.Completes k e (.storePartition k) 0x8100 6 0x22 [] s :=
  completes_of_done rfl rfl (if_pos h)

theorem completes_storePartition_refused {st : Nat} (h : e.arg 1 1 = 0)
    (hr : s.partRefused (e.arg 0 1) (e.arg 2 2) (e.arg 4 2) = st) (hst : st ≠ 0) :
    s.Completes k e (.storePartition k) 0x8100 6 st [] s := by
  subst hr
  exact completes_of_done rfl rfl ((if_neg (not_not.mpr h)).trans (if_pos hst))

theorem completes_storePartition (h : e.arg 1 1 = 0) (hr : s.partRefused (e.arg 0 1) (e.arg 2 2) (e.arg 4 2) = 0) :
    s.Completes k e (.storePartition k) 0x8100 6 0 [] (s.partSet (e.arg 0 1) (e.arg 2 2) (e.arg 4 2)) :=
  completes_of_done rfl rfl ((if_neg (not_not.mpr h)).trans (if_neg (not_not.mpr hr)))

theorem completes_storePartDefault_refused
    (h : ∃ p < 16, s.partMoves p (partDefault p).1 (partDefault p).2 = true ∧ s.partStopped p = false) :
    s.Completes k e (.storePartDefault k) 0x0101 0 0x24 [] s :=
  completes_of_done rfl rfl (if_pos (by simpa using h))

theorem completes_storePartDefault
    (h : ∀ p < 16, s.partMoves p (partDefault p).1 (partDefault p).2 = true → s.partStopped p = true) :
    s.Completes k e (.storePartDefault k) 0x0101 0 0 []
      (s.each (List.range 16) fun s p => s.partSet p (partDefault p).1 (partDefault p).2) :=
  completes_of_done rfl rfl (if_neg (by simpa using h))

end

/-! ### The obligation -/

/-- Settles O52: each clause is one command's case. -/
theorem systemCommands : Obligations.SystemCommands := by
  refine ⟨fun s k e => ⟨?nop, ?identify, ?abortAccepted, ?abortUnknown, completes_sysAbort, completes_sysAbort_badParam,
      completes_sysUnfence_noUnit, completes_sysWarmReset_writing, completes_sysPowerState_badParam, ?standby, ?unfence,
      completes_sysWarmReset, ?ownState⟩,
    fun s k e n => ⟨completes_cmdLogRead, completes_cmdLogRead_badParam, completes_sysRegWriteList,
      completes_sysRegWriteList_badParam, completes_sysRegReadList, ?readRefused, completes_storePartDefault_refused,
      ?partRead, completes_storePartDefault, ?partition⟩⟩
  case nop => exact completes_of_done rfl rfl rfl
  case identify => exact completes_of_done rfl rfl rfl
  case abortAccepted =>
    intro e2 htag hzero hentry hphase hop
    exact completes_sysAbort_as htag hzero (abort_accepted hentry hphase hop)
  case abortUnknown =>
    intro htag hzero hentry
    exact completes_sysAbort_as htag hzero (abort_unknown hentry)
  case standby =>
    intro hst h1 h5 h14
    have hok : ¬ e.powerBad := by unfold CmdEntry.powerBad; omega
    have ht : s.powerAsked (e.arg 0 1) = s.set 0 SYS_PWR_STBY_CANCELLED 0 := if_neg (by omega)
    rw [← hst]
    refine ⟨fun hnow => ?_, fun hnow hr => ?_, fun hnow hr => ?_⟩
    · have := completes_sysPowerState_same (k := k) hok ht hnow
      rwa [hnow] at this
    · exact completes_sysPowerState_taken hok ht hnow (Prod.ext hr rfl)
    · exact completes_sysPowerState_refused hok ht hnow rfl hr
  case unfence =>
    intro code u hu
    exact ⟨completes_sysUnfence_free hu, completes_sysUnfence_passed hu, completes_sysUnfence_failed hu⟩
  case ownState =>
    intro hst h1 h5 h14
    have hok : ¬ e.powerBad := by unfold CmdEntry.powerBad; omega
    have ht : s.powerAsked (e.arg 0 1)
        = (s.set 0 SYS_PWR_STBY_CANCELLED 0).withSys fun x => { x with named := true } := if_pos hst
    refine ⟨completes_sysPowerState_same hok ht, fun hnow hdiff hec => ?_, ?_⟩
    · exact completes_sysPowerState_taken hok ht hdiff (powerTo_own (by omega) hst hec _ _)
    · rintro (hpend | ⟨hone, hdiff, hec⟩)
      · exact completes_sysPowerState_refused hok ht (by omega) (congrArg Prod.fst (powerTo_pending hpend _ _ _)) (by decide)
      · refine completes_sysPowerState_refused hok ht (by omega) ?_ (by decide)
        rw [hone, powerTo_noEconomy hec]
  case readRefused =>
    intro _ hmod hlo
    exact ⟨completes_sysRegReadList_badParam hmod hlo, completes_sysRegReadList_popWord hmod hlo⟩
  case partRead => exact completes_of_done rfl rfl rfl
  case partition =>
    refine ⟨completes_storePartition_badParam, fun hz hr => completes_storePartition_refused hz rfl hr, fun hz => ?_⟩
    exact ⟨completes_storePartition hz, fun hp => completes_storePartition_refused hz (partRefused_fixed hp _ _) (by decide)⟩

end Sys2Proof.Machine

/-! The commands of groups 0x0D and 0x0E: the safety functions, the voter's lanes and the fault log. -/

namespace Sys2Proof.Machine

section
variable {s : State} {k : CmdKey} {e : CmdEntry}

/-! ### SAFE_ARM, SAFE_DISARM (R466, R479) -/

theorem completes_safeArm_armed (ha : s.sfArmed e.idx = true) :
    s.Completes k e (.safeArm k) 0x0D01 0 0 (armResult (0, 255)) s :=
  completes_of_done rfl rfl (if_pos ha)

section
variable (ha : s.sfArmed e.idx = false)
include ha

theorem completes_safeArm_failed (hc : (s.sfCheck e.idx).1 ≠ 0) :
    s.Completes k e (.safeArm k) 0x0D01 0 0x0D01 (armResult (s.sfCheck e.idx)) s :=
  completes_of_done rfl rfl ((if_neg (by simp [ha])).trans (if_pos hc))

/-- With one lane in the vote, or a Standby entry pending, nothing is armed. -/
theorem completes_safeArm_notPermitted (hc : (s.sfCheck e.idx).1 = 0)
    (h : s.singleLane = true ∨ s.sys.stby.isSome = true) : s.Completes k e (.safeArm k) 0x0D01 0 0x24 [] s :=
  completes_of_done rfl rfl ((if_neg (by simp [ha])).trans ((if_neg (not_not.mpr hc)).trans (if_pos h)))

theorem completes_safeArm (hc : (s.sfCheck e.idx).1 = 0) (hl : s.singleLane = false) (hs : s.sys.stby = none) :
    s.Completes k e (.safeArm k) 0x0D01 0 0 (armResult (0, 255)) (s.sfArm e.idx) :=
  completes_of_done rfl rfl
    ((if_neg (by simp [ha])).trans ((if_neg (not_not.mpr hc)).trans (if_neg (by simp [hl, hs]))))

theorem completes_safeDisarm_disarmed : s.Completes k e (.safeDisarm k) 0x0D02 0 0 [] s :=
  completes_of_done rfl rfl (if_pos (by simp [ha]))

end

/-- What keeps a function from being disarmed: SF-P a hold in force, another function its trigger. -/
def State.disarmBusy (s : State) (i : Nat) : Bool := if i = 2 then !s.cruc.holds.isEmpty else s.sfTriggered i

section
variable (ha : s.sfArmed e.idx = true)
include ha

theorem completes_safeDisarm_busy (hb : s.disarmBusy e.idx = true) :
    s.Completes k e (.safeDisarm k) 0x0D02 0 0x0D02 [] s :=
  completes_of_done rfl rfl ((if_neg (by simp [ha])).trans (if_pos hb))

theorem completes_safeDisarm (hb : s.disarmBusy e.idx = false) :
    s.Completes k e (.safeDisarm k) 0x0D02 0 0 [] (s.sfDisarm e.idx) :=
  completes_of_done rfl rfl ((if_neg (by simp [ha])).trans (if_neg (Bool.eq_false_iff.mp hb)))

end

/-! ### SAFE_EMERGENCY (R468, R471) -/

section
variable (hop : e.arg 0 1 = 2) (hz : e.arg 1 3 = 0)
include hop hz

theorem completes_safeEmergency_disarmed (ha : s.sfArmed e.idx = false) :
    s.Completes k e (.safeEmergency k) 0x0D03 4 0x0D03 [] s :=
  completes_of_done rfl rfl ((if_neg (by omega)).trans (if_pos (by simp [ha])))

theorem completes_safeEmergency_demanded (ha : s.sfArmed e.idx = true) (hd : s.sfDemanded e.idx = true) :
    s.Completes k e (.safeEmergency k) 0x0D03 4 0x0D04 [] s :=
  completes_of_done rfl rfl
    ((if_neg (by omega)).trans ((if_neg (by simp [ha])).trans ((if_pos hop).trans (if_pos hd))))

theorem completes_safeEmergency_release (ha : s.sfArmed e.idx = true) (hd : s.sfDemanded e.idx = false) :
    s.Completes k e (.safeEmergency k) 0x0D03 4 0 ((s.sfRelease e.idx).sfCtrlBytes e.idx) (s.sfRelease e.idx) :=
  completes_of_done rfl rfl
    ((if_neg (by omega)).trans ((if_neg (by simp [ha])).trans ((if_pos hop).trans (if_neg (by simp [hd])))))

end

section
variable (hop : e.arg 0 1 = 1) (hz : e.arg 1 3 = 0) (hi : e.idx = 0) (ha : s.sfArmed 0 = true)
include hop hz hi ha

/-- A trigger of SF-E is answered once the function is SAFE. -/
theorem completes_safeEmergency_safe (hs : (s.sfTrigger 0 1 s.crucNow).flag (sfBase 0) SF_CTRL_SAFE = true) :
    s.Completes k e (.safeEmergency k) 0x0D03 4 0 ((s.sfTrigger 0 1 s.crucNow).sfCtrlBytes 0)
      (s.sfTrigger 0 1 s.crucNow) :=
  completes_of_done rfl rfl
    ((if_neg (by omega)).trans ((if_neg (by simp [hi, ha])).trans ((if_neg (by omega)).trans (if_pos hs))))

theorem waits_safeEmergency (hs : (s.sfTrigger 0 1 s.crucNow).flag (sfBase 0) SF_CTRL_SAFE = false) :
    s.Waits k e (.safeEmergency k) 0x0D03 4 (.unit 0 0) (s.sfTrigger 0 1 s.crucNow) :=
  waits_of_wait rfl rfl
    ((if_neg (by omega)).trans ((if_neg (by simp [hi, ha])).trans ((if_neg (by omega)).trans (if_neg (by simp [hs])))))

end

/-! ### LANE_REJOIN (R34, R464) -/

theorem rejoin_unfenced {l : Nat} (hf : s.fenced (.lane l) = false) (cls : Nat) :
    s.rejoin l cls = .done 0 (leBytes 4 0) s := by
  simp [State.rejoin, hf]

theorem rejoin_failed {l cls : Nat} (hf : s.fenced (.lane l) = true) (hc : cls ≠ 0) :
    s.rejoin l cls
      = .done 0xF0 [] ((s.assayResult l cls).raise .selftestFail (srcLane l) 0 (leBytes 2 (0x100 + cls))) := by
  simp [State.rejoin, hf, hc]

/-- A lane whose Assay passes waits for its load. -/
theorem rejoin_passed {l : Nat} (hf : s.fenced (.lane l) = true) :
    s.rejoin l 0
      = .wait (.unit l 0)
          (((s.assayResult l 0).set crucBase CRUC_STAT_RESYNC 1).withCruc fun c => { c with resync := some l }) := by
  simp [State.rejoin, hf]

/-! ### SAFE_SET (R479) -/

/-- SF-P's set holds 66 words, another function's 20. -/
theorem safeSetOffs_length (i : Nat) : (safeSetOffs i).length = if i = 2 then 66 else 20 := by
  rw [safeSetOffs]
  split <;> rfl

section
variable {n : Nat} (hn : n = 80 ∨ n = 264) (hlen : e.ps.length = 4 * (safeSetOffs e.idx).length)
include hn hlen

theorem completes_safeSet (ha : s.sfArmed e.idx = false) :
    s.Completes k e (.safeSet k) 0x8D00 n 0 [] (s.regWrites 2 (e.images (safeSetOffs e.idx))) :=
  completes_of_done rfl (by simpa using hn) ((if_neg (not_not.mpr hlen)).trans (if_neg (by simp [ha])))

theorem completes_safeSet_armed (ha : s.sfArmed e.idx = true) : s.Completes k e (.safeSet k) 0x8D00 n 0x60 [] s :=
  completes_of_done rfl (by simpa using hn) ((if_neg (not_not.mpr hlen)).trans (if_pos ha))

end

/-! ### FAULT_READ, FAULT_ACK (R487, R497) -/

theorem completes_faultRead (hlo : 1 ≤ e.arg 4 2) (hhi : e.arg 4 2 ≤ 127) (hcls : e.arg 6 1 ≤ 15) (hz : e.arg 7 1 = 0) :
    s.Completes k e (.faultRead k) 0x0E00 8 0
      (leBytes 4 (logOldest s.fault.logFull (s.get faultBase FAULT_LOG_POS_INDEX))
        ++ leBytes 4 (s.get faultBase FAULT_LOG_POS_INDEX) ++ s.shown [faultBase + FAULT_LOG_OVWR.off]
        ++ leBytes 4 (s.faultPick (e.arg 6 1) (e.arg 4 2) (e.arg 0 4)).length
        ++ (s.faultPick (e.arg 6 1) (e.arg 4 2) (e.arg 0 4)).flatten) s :=
  completes_of_done rfl rfl (if_neg (by omega))

/-- The records a FAULT_ACK names, by their SEQ: with OP 1 one, with OP 2 a range, with OP 3 all. -/
def CmdEntry.ackPick (e : CmdEntry) (q : Nat) : Bool :=
  e.arg 0 1 == 3 || (e.arg 0 1 == 1 && q == e.arg 2 2)
    || (e.arg 0 1 == 2 && decide ((q + 65536 - e.arg 2 2) % 65536 ≤ (e.arg 4 2 + 65536 - e.arg 2 2) % 65536))

theorem ackPick_one (hop : e.arg 0 1 = 1) : e.ackPick = fun q => q == e.arg 2 2 := by
  funext q
  simp [CmdEntry.ackPick, hop]

theorem ackPick_range (hop : e.arg 0 1 = 2) :
    e.ackPick = fun q => decide ((q + 65536 - e.arg 2 2) % 65536 ≤ (e.arg 4 2 + 65536 - e.arg 2 2) % 65536) := by
  funext q
  simp [CmdEntry.ackPick, hop]

theorem ackPick_all (hop : e.arg 0 1 = 3) : e.ackPick = fun _ => true := by
  funext q
  simp [CmdEntry.ackPick, hop]

section
variable (hz1 : e.arg 1 1 = 0) (hz6 : e.arg 6 2 = 0)
include hz1 hz6

theorem completes_faultAck_none (hop : e.arg 0 1 = 1) (hno : ∀ u ∈ s.fault.unacked, u.2.1 ≠ e.arg 2 2) :
    s.Completes k e (.faultAck k) 0x0E01 8 0x0E01 [] s :=
  completes_of_done rfl rfl ((if_neg (by omega)).trans (if_pos ⟨hop, by simpa using hno⟩))

theorem completes_faultAck {pick : Nat → Bool} (hlo : 1 ≤ e.arg 0 1) (hhi : e.arg 0 1 ≤ 3)
    (hsome : e.arg 0 1 = 1 → ∃ u ∈ s.fault.unacked, u.2.1 = e.arg 2 2) (hpick : e.ackPick = pick) :
    s.Completes k e (.faultAck k) 0x0E01 8 0
      (leBytes 2 (s.ackFaults pick).1 ++ leBytes 2 (min 65535 (s.ackFaults pick).2.fault.unacked.length))
      (s.ackFaults pick).2 := by
  subst hpick
  have hfound : ¬ (e.arg 0 1 = 1 ∧ (!s.fault.unacked.any fun u => u.2.1 == e.arg 2 2) = true) := by simpa using hsome
  exact completes_of_done rfl rfl ((if_neg (by omega)).trans (if_neg hfound))

end

/-! ### FAULT_INJECT (R496, R498) -/

section
variable (hz1 : e.arg 1 1 = 0) (hz10 : e.arg 10 2 = 0)
include hz1 hz10

theorem completes_faultInject_refused (hst : s.injectCheck (e.arg 0 1) (e.arg 2 2) ≠ 0) :
    s.Completes k e (.faultInject k) 0x0E02 12 (s.injectCheck (e.arg 0 1) (e.arg 2 2)) [] s :=
  completes_of_done rfl rfl ((if_neg (by omega)).trans (if_pos hst))

/-- An injection of a Fatal kind is answered at once and comes 100 µs later. -/
theorem completes_faultInject_fatal (hst : s.injectCheck (e.arg 0 1) (e.arg 2 2) = 0) (hf : fatalCode (e.arg 0 1) = true) :
    s.Completes k e (.faultInject k) 0x0E02 12 0 (leBytes 4 0)
      { s with sys := { s.sys with fatal := some (s.uptime + 100000, e.arg 0 1, e.arg 2 2, e.arg 4 6) } } :=
  completes_of_done rfl rfl ((if_neg (by omega)).trans ((if_neg (not_not.mpr hst)).trans (if_pos hf)))

theorem waits_faultInject (hst : s.injectCheck (e.arg 0 1) (e.arg 2 2) = 0) (hf : fatalCode (e.arg 0 1) = false) :
    s.Waits k e (.faultInject k) 0x0E02 12 (.unit 0 0) (s.inject (e.arg 0 1) (e.arg 2 2) (e.arg 4 6)) :=
  waits_of_wait rfl rfl ((if_neg (by omega)).trans ((if_neg (not_not.mpr hst)).trans (if_neg (by simp [hf]))))

end

end

/-! ### The obligation -/

/-- Settles O59: each clause is one command's case. -/
theorem safetyCommands : Obligations.SafetyCommands := by
  refine ⟨fun s k e cls => ⟨?status, completes_safeArm_armed, completes_safeArm_failed, ?arm, completes_safeDisarm_disarmed,
      ?disarm, ?release, ?trigger, ?rejoinUnfenced, ?rejoin, ?assay, ?set⟩,
    fun s k e => ⟨completes_faultRead, ?ack, ?inject, ?faultSet⟩⟩
  case status => exact completes_of_done rfl rfl rfl
  case arm => exact fun ha hc => ⟨completes_safeArm_notPermitted ha hc, completes_safeArm ha hc⟩
  case disarm => exact fun ha => ⟨completes_safeDisarm_busy ha, completes_safeDisarm ha⟩
  case release =>
    intro hop hz
    exact ⟨completes_safeEmergency_disarmed hop hz, completes_safeEmergency_demanded hop hz,
      completes_safeEmergency_release hop hz⟩
  case trigger =>
    intro t hop hz hi ha
    exact ⟨completes_safeEmergency_safe hop hz hi ha, waits_safeEmergency hop hz hi ha⟩
  case rejoinUnfenced => exact fun hf => completes_of_done rfl rfl (rejoin_unfenced hf cls.val)
  case assay => exact completes_of_done rfl rfl rfl
  case rejoin =>
    intro t hf
    refine ⟨fun hc => completes_of_done rfl rfl (rejoin_failed hf (Fin.val_ne_of_ne hc)), ?_⟩
    rintro rfl
    exact waits_of_wait rfl rfl (rejoin_passed hf)
  case set =>
    have hoffs := safeSetOffs_length e.idx
    refine ⟨fun hi hlen => ?_, fun hi hlen => ?_⟩
    · have hps : e.ps.length = 4 * (safeSetOffs e.idx).length := by rw [hoffs, if_pos hi, hlen]
      exact ⟨completes_safeSet (.inr rfl) hps, completes_safeSet_armed (.inr rfl) hps⟩
    · have hps : e.ps.length = 4 * (safeSetOffs e.idx).length := by rw [hoffs, if_neg hi, hlen]
      exact ⟨completes_safeSet (.inl rfl) hps, completes_safeSet_armed (.inl rfl) hps⟩
  case ack =>
    intro a b answer hz1 hz6
    refine ⟨completes_faultAck_none hz1 hz6, fun hop hsome => ?_, fun hop => ?_, fun hop => ?_⟩
    · exact completes_faultAck hz1 hz6 (by omega) (by omega) (fun _ => hsome) (ackPick_one hop)
    · exact completes_faultAck hz1 hz6 (by omega) (by omega) (by omega) (ackPick_range hop)
    · exact completes_faultAck hz1 hz6 (by omega) (by omega) (by omega) (ackPick_all hop)

  case inject =>
    intro code src hz1 hz10
    exact ⟨completes_faultInject_refused hz1 hz10, completes_faultInject_fatal hz1 hz10, waits_faultInject hz1 hz10⟩
  case faultSet => exact completes_of_done rfl rfl rfl

end Sys2Proof.Machine

/-! Addresses and the shared store: the three fields of a fabric address, and that bytes stored are read back. -/

namespace Sys2Proof.Machine

/-! ### Fabric addresses (R41) -/

section
variable (a : BitVec 48)

theorem nodeOf_toNat : nodeOf a.toNat = (a.extractLsb' 40 8).toNat := by
  rw [nodeOf, BitVec.extractLsb'_toNat, Nat.shiftRight_eq_div_pow]

theorem spaceOf_toNat : spaceOf a.toNat = (a.extractLsb' 32 8).toNat := by
  rw [spaceOf, BitVec.extractLsb'_toNat, Nat.shiftRight_eq_div_pow]

theorem offsetOf_toNat : offsetOf a.toNat = (a.extractLsb' 0 32).toNat := by
  rw [offsetOf, BitVec.extractLsb'_toNat, Nat.shiftRight_zero]

end

/-- The three fields of an address of 48 bits make it up. -/
theorem fabAddr_fields {a : Nat} (h : a < 2 ^ 48) : fabAddr (nodeOf a) (spaceOf a) (offsetOf a) = a := by
  unfold fabAddr nodeOf spaceOf offsetOf
  omega

/-- An address put together from its fields is their bits side by side, the node's uppermost. -/
theorem fabAddr_toNat (node space : BitVec 8) (off : BitVec 32) :
    fabAddr node.toNat space.toNat off.toNat = (node ++ space ++ off).toNat := by
  rw [BitVec.toNat_append, BitVec.toNat_append, ← Nat.shiftLeft_add_eq_or_of_lt space.isLt,
    ← Nat.shiftLeft_add_eq_or_of_lt off.isLt, Nat.shiftLeft_eq, Nat.shiftLeft_eq, fabAddr]
  omega

/-- Settles O8: each field is a cut of the address's bits, and the three side by side are the address. -/
theorem addressFields : Obligations.AddressFields :=
  ⟨fun a => ⟨nodeOf_toNat a, spaceOf_toNat a, offsetOf_toNat a, fabAddr_fields a.isLt⟩, fabAddr_toNat⟩

/-! ### The shared store (R47, R69) -/

theorem load_length (s : State) (a n : Nat) : (s.load a n).length = n := by
  induction n generalizing a with
  | zero => rfl
  | succ n ih => rw [State.load, List.length_cons, ih]

theorem load_getElem (s : State) {a n i : Nat} (h : i < (s.load a n).length) : (s.load a n)[i] = s.byteAt (a + i) := by
  induction n generalizing a i with
  | zero => exact absurd h (Nat.not_lt_zero i)
  | succ n ih =>
    cases i with
    | zero => rfl
    | succ i =>
      have hi : i < (s.load (a + 1) n).length := Nat.lt_of_succ_lt_succ h
      exact (ih hi).trans (congrArg s.byteAt (by omega))

/-- A load of the range that was stored gives the bytes stored. -/
theorem load_store_same (s : State) (a : Nat) (bs : List Byte) : (s.store a bs).load a bs.length = bs :=
  List.ext_getElem (load_length ..) fun i hload hbs => (load_getElem _ hload).trans (byteAt_store_same s a i bs hbs)

theorem store_rd (s : State) (a b : Nat) (bs : List Byte) : (s.store a bs).rd b = s.rd b := rfl

/-- Settles O15: a store is read back byte by byte, and it touches no other byte and no register word. -/
theorem storeThenLoad : Obligations.StoreThenLoad :=
  fun s a bs => ⟨load_store_same s a bs, fun i h => byteAt_store_same s a i bs h,
    fun c h => byteAt_store_other s a c bs h, fun b => store_rd s a b bs, store_wf s a bs⟩

end Sys2Proof.Machine

/-! The fabric engine: frames that arrive in their turn and what each type does, then transaction slots, frames that come back,
and the reorder hold. -/

namespace Sys2Proof.Machine

/-! ### A frame in its turn (R45, R52, R63) -/

section
variable {s : State} {f : FabRx} {type : Nat}

theorem State.InTurn.type_eq (hin : s.InTurn f type) : (fabHead f.bytes).type = type := by
  obtain ⟨-, -, -, -, -, htype, -⟩ := hin
  exact htype

/-- A ring frame that is meant for this hub and well made goes to the check of its SEQ. -/
theorem fabRx_inTurn (hheld : s.inHeld = false) (hin : s.InTurn f type) : s.fabRx f type = s.fabSeq f := by
  obtain ⟨hon, hport, hnode, hform, hdest, htype, hown, -⟩ := hin
  simp only [State.fabRx, hon, hheld, hport, hnode, hform, hdest, htype, hown, Bool.not_true, Bool.false_eq_true, or_self,
    if_true, if_false, ne_eq, not_true]

/-- A frame whose SEQ is the expected one, or the first of its source, takes effect, and what was held behind it follows. -/
theorem fabSeq_next {h : FabHead} {k : Nat} (hh : fabHead f.bytes = h) (hk : fabKey h = k)
    (hseq : s.expected k = 65536 ∨ s.expected k = h.seq) :
    s.fabSeq f = ((s.setExpected k ((h.seq + 1) % 65536)).fabDeliver f).fabFollow 64 k := by
  have hahead : ¬ (s.expected k ≠ 65536 ∧ h.seq ≠ s.expected k ∧ (h.seq + 65536 - s.expected k) % 65536 < 32768) := by omega
  have hdue : s.expected k = 65536 ∨ (h.seq + 65536 - s.expected k) % 65536 = 0 := by omega
  simp only [State.fabSeq, hh, hk, if_neg hahead, if_pos hdue]

/-- A request in its turn is served. -/
theorem fabRx_request (hheld : s.inHeld = false) (hin : s.InTurn f type) (h3 : type ≠ 3) :
    s.fabRx f type
      = ((s.turnTaken f).serveRing (fabHead f.bytes)).fabFollow 64 (fabKey (fabHead f.bytes)) := by
  rw [fabRx_inTurn hheld hin]
  obtain ⟨-, -, -, -, -, htype, -, hseq⟩ := hin
  rw [fabSeq_next rfl rfl hseq, State.fabDeliver, if_neg (htype ▸ h3)]
  rfl

/-- A RESP in its turn meets its transaction slot. -/
theorem fabRx_resp (hheld : s.inHeld = false) (hin : s.InTurn f 3) :
    s.fabRx f 3 = ((s.turnTaken f).respRx (fabHead f.bytes)).fabFollow 64 (fabKey (fabHead f.bytes)) := by
  rw [fabRx_inTurn hheld hin]
  obtain ⟨-, -, -, -, -, htype, -, hseq⟩ := hin
  rw [fabSeq_next rfl rfl hseq, State.fabDeliver, if_pos htype]
  rfl

end

/-! ### What each type does (R54, R55, R57, R60) -/

section
variable {s : State} {h : FabHead}

theorem serveRing_write (ht : h.type = 1) (hlen : h.len ≤ s.maxPay) :
    s.serveRing h = s.spaceWrite h.src h.init (spaceOf h.addr) (offsetOf h.addr) h.payload true := by
  rw [State.serveRing, if_pos ht, if_neg (Nat.not_lt.mpr hlen)]

theorem serveRing_read (ht : h.type = 2) (hlen : h.len ≤ s.maxPay) (hfit : s.fitsRing h.len = true)
    {r : Nat × List Byte × State} (hr : s.spaceRead h.init (spaceOf h.addr) (offsetOf h.addr) h.len true = r) :
    s.serveRing h = r.2.2.respond h r.1 r.2.1 := by
  subst hr
  rw [State.serveRing, if_neg (by omega), if_pos ht, if_neg (by simp [hlen, hfit])]

theorem serveRing_cas (ht : h.type = 5) {r : Nat × List Byte × State}
    (hr : s.spaceCas (spaceOf h.addr) (offsetOf h.addr) h.payload = r) :
    s.serveRing h = r.2.2.respond h r.1 r.2.1 := by
  subst hr
  rw [State.serveRing, if_neg (by omega), if_neg (by omega), if_pos ht]

theorem serveRing_message (ht : h.type = 4) (hspace : spaceOf h.addr = 4) (hoff : offsetOf h.addr = 0) :
    s.serveRing h = s.messageIn h.src h.init h.addr h.payload := by
  rw [State.serveRing, if_neg (by omega), if_neg (by omega), if_neg (by omega), if_pos ⟨hspace, hoff⟩]

/-- A RESP answers the slot whose generation, node and address it carries. -/
theorem respRx_answers {x : FabSlot} (hx : s.slot (h.tid % 256) = x) (huse : x.inUse = true) (hgen : x.gen = h.tid / 256)
    (hnode : x.node = h.src) (haddr : x.addr = h.addr) :
    s.respRx h
      = (s.setSlot (h.tid % 256) { x with inUse := false }).clientDone x.client x.init x.addr h.status h.payload := by
  subst hx
  have hanswers : s.answersSlot (h.tid % 256) h.tid h.src h.addr = true := by
    simp [State.answersSlot, huse, hgen, hnode, haddr]
  rw [State.respRx, if_pos hanswers]

end

/-! ### Transaction slots (R58, R59, R61) -/

section
variable {s : State} {i : Nat}

/-- The first waiting request takes the lowest free slot and leaves the hub, a READ with its length and a CAS with its operand. -/
theorem slotGrant_due {q : FabReq} {rest : List FabReq} (hq : s.fab.waiting = q :: rest) (hi : s.freeSlot = some i) :
    s.slotGrant
      = (({ s with fab := { s.fab with waiting := rest } } : State).setSlot i
          { s.slot i with inUse := true, node := nodeOf q.addr, addr := q.addr, len := q.len, init := q.init,
                          client := q.client, sentAt := none }).sendFab (nodeOf q.addr) (if q.cas = [] then 2 else 5) 0
          (if q.cas = [] then q.len else q.cas.length) (i + 256 * (s.slot i).gen) q.init q.addr q.cas := by
  simp only [State.slotGrant, hq, hi]

theorem readTimeout_due {sent : Nat} (huse : (s.slot i).inUse = true) (hsent : (s.slot i).sentAt = some sent)
    (hdue : sent + 10000 * s.get fabBase FAB_TIMEOUT_TICKS ≤ s.uptime) (hresp : s.respComes i = false) :
    s.readTimeout i
      = ((s.setSlot i { s.slot i with inUse := false, gen := ((s.slot i).gen + 1) % 16,
                                      quarUntil := some (s.uptime + 4000000) }).bump fabBase FAB_TIMEOUTS).clientDone
          (s.slot i).client (s.slot i).init (s.slot i).addr stTimeout [] := by
  have hdeadline : (s.slotDeadline (s.slot i)).all (fun t => decide (s.uptime < t)) = false := by
    simp [State.slotDeadline, hsent, hdue]
  simp only [State.readTimeout, huse, hdeadline, hresp, Bool.not_true, Bool.false_eq_true, or_self, if_false]

theorem quarantineEnd_due {t : Nat} (hq : (s.slot i).quarUntil = some t) (ht : t ≤ s.uptime) :
    s.quarantineEnd i = s.setSlot i { s.slot i with quarUntil := none } := by
  simp only [State.quarantineEnd, hq, if_pos ht]

end

/-! ### The reorder hold and frames that come back (R56, R64) -/

section
variable {s : State}

/-- A HOLD of 0 acts as 1 (log entry 131). -/
theorem reorderExpire_due {x : HeldFrame} (hx : s.oldestHeld = some x)
    (hdue : x.heldAt + 1000 * max 1 (s.get fabBase FAB_REORDER_HOLD) ≤ s.uptime) :
    s.reorderExpire = s.fabLoseTo 64 x := by
  simp only [State.reorderExpire, hx, if_pos hdue]

/-- A frame of this hub to another node that returns for the first time is counted and recorded, and ends the command that a
MESSAGE carried. -/
theorem undelivered_first {f : FabRx} {h : FabHead} {n : Nat} {u : State} (hh : fabHead f.bytes = h)
    (hid : s.hasNode = true) (hform : fabBad true f.bytes = false) (hsrc : h.src = s.nodeId) (h0 : n ≠ 0) (h255 : n ≠ 255)
    (hother : n ≠ s.nodeId) (hdst : h.type = 3 ∨ n = nodeOf h.addr) (hport : f.port.val < 2)
    (hnew : s.fab.returned.contains (n, h.seq) = false)
    (hu : (({ s with fab := { s.fab with returned := (n, h.seq) :: s.fab.returned } } : State).bump fabBase
        FAB_UNDELIVERED).raise .fabNoDest srcHub h.addr (leBytes 1 h.type) = u) :
    s.undelivered f n = if h.type = 4 then u.remoteLost n h.init h.payload else u := by
  subst hu
  have hmeant : ¬ (h.type ≠ 3 ∧ n ≠ nodeOf h.addr) := by tauto
  have hring : ¬ 1 < f.port.val := by omega
  simp only [State.undelivered, hh, hid, hform, hsrc, h0, h255, hother, hmeant, hring, hnew, Bool.not_true,
    Bool.false_eq_true, ne_eq, not_true, or_self, if_false]

end

/-! ### The rows -/

section
variable {s : State} (hl : s.Live)
include hl

theorem exec_fabricWriteRx (f : FabRx) : exec (.fabricWriteRx f) s = .next (s.after (s.fabRx f 1)) :=
  run_live (fun s => s.fabRx f 1) hl

/-- A READ and a CAS meet the store as its upsets leave it. -/
theorem exec_fabricReadRx (f : FabRx) (ups : List (Nat × Bool)) :
    exec (.fabricReadRx f ups) s = .next (s.after ((s.upset ups).fabRx f 2)) :=
  run_live (fun s => (s.upset ups).fabRx f 2) hl

theorem exec_fabricCasRx (f : FabRx) (ups : List (Nat × Bool)) :
    exec (.fabricCasRx f ups) s = .next (s.after ((s.upset ups).fabRx f 5)) :=
  run_live (fun s => (s.upset ups).fabRx f 5) hl

theorem exec_fabricRespRx (f : FabRx) : exec (.fabricRespRx f) s = .next (s.after (s.fabRx f 3)) :=
  run_live (fun s => s.fabRx f 3) hl

theorem exec_fabricMessageRx (f : FabRx) : exec (.fabricMessageRx f) s = .next (s.after (s.fabRx f 4)) :=
  run_live (fun s => s.fabRx f 4) hl

theorem exec_fabSlotGrant : exec .fabSlotGrant s = .next (s.after s.slotGrant) := run_live State.slotGrant hl

theorem exec_fabReadTimeout (i : Fin 256) : exec (.fabReadTimeout i) s = .next (s.after (s.readTimeout i.val)) :=
  run_live (fun s => s.readTimeout i.val) hl

theorem exec_slotQuarantineEnd (i : Fin 256) : exec (.slotQuarantineEnd i) s = .next (s.after (s.quarantineEnd i.val)) :=
  run_live (fun s => s.quarantineEnd i.val) hl

theorem exec_fabReorderExpire : exec .fabReorderExpire s = .next (s.after s.reorderExpire) := run_live State.reorderExpire hl

theorem exec_fabUndeliveredReturn (r : FabReturn) :
    exec (.fabUndeliveredReturn r) s = .next (s.after (s.undelivered r.frame r.dst.toNat)) :=
  run_live (fun s => s.undelivered r.frame r.dst.toNat) hl

end

/-! ### The obligation -/

/-- Settles O20: a frame row is the service of its type on the state in which its turn is taken, and every other row is one
operation of the fabric engine, whose case the clause is. -/
theorem fabricRows : Obligations.FabricRows := by
  refine ⟨fun s f ups hl => ⟨?write, ?read, ?cas, ?resp, ?message⟩,
    fun s hl => ⟨?grant, ?timeout, ?quarantine, ?reorder, ?returned⟩⟩
  case write =>
    intro hin hlen
    rw [exec_fabricWriteRx hl, fabRx_request hl.2 hin (by decide), serveRing_write hin.type_eq hlen]
  case read =>
    intro hheld hin hlen hfit
    rw [exec_fabricReadRx hl, fabRx_request hheld hin (by decide), serveRing_read hin.type_eq hlen hfit rfl]
  case cas =>
    intro hheld hin
    rw [exec_fabricCasRx hl, fabRx_request hheld hin (by decide), serveRing_cas hin.type_eq rfl]
  case resp =>
    intro hin t x huse hgen hnode haddr
    rw [exec_fabricRespRx hl, fabRx_resp hl.2 hin, respRx_answers rfl huse hgen hnode haddr]
  case message =>
    intro hin hspace hoff
    rw [exec_fabricMessageRx hl, fabRx_request hl.2 hin (by decide), serveRing_message hin.type_eq hspace hoff]
  case grant =>
    intro q rest i hq hi
    rw [exec_fabSlotGrant hl, slotGrant_due hq hi]
  case timeout =>
    intro i sent huse hsent hdue hresp
    rw [exec_fabReadTimeout hl, readTimeout_due huse hsent hdue hresp]
  case quarantine =>
    intro i t hq ht
    rw [exec_slotQuarantineEnd hl, quarantineEnd_due hq ht]
  case reorder =>
    intro x hx hdue
    rw [exec_fabReorderExpire hl, reorderExpire_due hx hdue]
  case returned =>
    intro f dst h hid hform hsrc h0 h255 hother hdst hport hnew
    rw [exec_fabUndeliveredReturn hl, undelivered_first rfl hid hform hsrc h0 h255 hother hdst hport hnew rfl]

end Sys2Proof.Machine

/-! The Sprue queues: what the write end does with a word, what a read takes, the two bits of SPRUE_CTRL, then the rows. -/

namespace Sys2Proof.Machine

/-! ### The write end (R76, R79 to R82, R86) -/

section
variable {s : State} {q : Nat} {w : SprueWord}

/-- A sample of a queue's level keeps the queue but for the sample itself. -/
theorem sprueSample_queue :
    (s.sprueSample q).queue q
      = { s.queue q with wasAbove := decide (s.get (queueBase q) SPRUE_WM_MARK ≤ (s.queue q).level) } := by
  rw [State.sprueSample, setQueue_queue]

theorem spruePlace_stopped (hr : (s.queue q).readRuns = false) : s.spruePlace q w = s.bump (queueBase q) SPRUE_FLUSHED := by
  simp only [State.spruePlace, hr, Bool.not_false, if_true]

theorem spruePlace_overrun (hr : (s.queue q).readRuns = true) (hp : (s.queue q).pecks q = 0) :
    s.spruePlace q w = (s.bump (queueBase q) SPRUE_OVERRUN).sprueCharge q 1 := by
  simp only [State.spruePlace, hr, hp, Bool.not_true, Bool.false_eq_true, if_true, if_false]

/-- The parity bits that the write end of a queue gives a word: inverted where that is armed (R82, R89). -/
def SprueQ.parFor (x : SprueQ) (w : SprueWord) : List Bool :=
  if x.injNext then (sprueParity w.bytes w.vb w.eop w.poison).map (! ·) else sprueParity w.bytes w.vb w.eop w.poison

/-- With a Peck an unpoisoned word joins the chain, its parity made there, and the level is sampled. -/
theorem spruePlace_joins (hr : (s.queue q).readRuns = true) (hp : (s.queue q).pecks q ≠ 0) (hw : w.poison = false) :
    s.spruePlace q w
      = (s.setQueue q { s.queue q with
          chain := (s.queue q).chain ++ [{ w with par := (s.queue q).parFor w, forced := (s.queue q).injForced }]
          injNext := false, injForced := none }).sprueSample q := by
  simp only [State.spruePlace, SprueQ.parFor, hr, hp, hw, Bool.not_true, Bool.false_eq_true, if_false]

theorem spruePlace_chain (hr : (s.queue q).readRuns = true) (hp : (s.queue q).pecks q ≠ 0) (hw : w.poison = false) :
    ((s.spruePlace q w).queue q).chain
      = (s.queue q).chain ++ [{ w with par := (s.queue q).parFor w, forced := (s.queue q).injForced }] := by
  rw [spruePlace_joins hr hp hw, sprueSample_queue, setQueue_queue]

variable {bs p : List Byte} {eop poison : Bool}

/-- A producer's word that ends its packet or fills the packing register is placed. -/
theorem sprueWrite_places (hr : (s.queue q).writeRuns = true) (hp : (s.queue q).packing ++ bs.take (sprueWrite q) = p)
    (h : eop = true ∨ sprueRead q ≤ p.length) :
    s.sprueWrite q bs eop poison
      = (s.setQueue q { s.queue q with packing := [], packPois := false, openPkt := !eop }).spruePlace q
          { bytes := p ++ List.replicate (sprueRead q - p.length) 0#8, vb := p.length, eop := eop,
            poison := (s.queue q).packPois || poison, par := [] } := by
  have hfull : (eop || decide (sprueRead q ≤ p.length)) = true := by simpa using h
  simp only [State.sprueWrite, hr, hp, hfull, Bool.not_true, Bool.false_eq_true, if_true, if_false]

/-- Any other word of a producer waits in the packing register for the rest of its packet. -/
theorem sprueWrite_packs (hr : (s.queue q).writeRuns = true) (hp : (s.queue q).packing ++ bs.take (sprueWrite q) = p)
    (h : ¬ (eop = true ∨ sprueRead q ≤ p.length)) :
    s.sprueWrite q bs eop poison
      = s.setQueue q { s.queue q with packing := p, packPois := (s.queue q).packPois || poison, openPkt := true } := by
  have hpart : (eop || decide (sprueRead q ≤ p.length)) = false := by simpa using h
  simp only [State.sprueWrite, hr, hp, hpart, Bool.not_true, Bool.false_eq_true, if_false]

/-! ### The read end (R77, R82 to R84) -/

/-- A read of a front word whose parity holds counts the word, delivers it as it is and sends its Peck back. -/
theorem sprueReadWord_parOk {rest : List SprueWord} (hc : (s.queue q).chain = w :: rest) (hw : w.parOk = true) :
    s.sprueReadWord q none
      = ((((s.setQueue q { s.queue q with
            chain := rest, crossing := (s.queue q).crossing + 1
            fails := (s.queue q).fails.filter fun t => s.uptime < t + 1000000 }).bump (queueBase q)
              SPRUE_WORDS).emit (.sprueWord q w.bytes w.vb w.eop w.poison)).presentWord q w).sprueSample q := by
  simp only [State.sprueReadWord, hc, SprueWord.upset, hw, Bool.not_true, Bool.false_and, Bool.or_false, Bool.false_eq_true,
    false_and, if_false]

end

/-! ### SPRUE_CTRL (R89) -/

section
variable {s : State} {q : Nat}

/-- The registers of a queue that the variant has lie in no fence unit, mailbox window or island that can be gated, so a write
there takes effect at once. -/
theorem regWrite_sprue {a : Nat} (hlo : 0x680000 ≤ a) (hhi : a < 0x680B00)
    (hp : s.queuePresent ((a - 0x680000) / 0x40) = true) (init : Nat) (w : Word) :
    s.regWrite init a w = s.writeSprue init a w := by
  have hbelow : ∀ n, n ≤ 0x680000 → ¬ a < n := fun n hn => by omega
  have hmapped : regMapped a = true := by
    simp [regMapped, regBlocks]
    omega
  have hpresent : s.regPresent a = true := by simp [State.regPresent, hbelow, hlo, hhi, hp]
  have hfenced : s.regFenced a = false := by simp [State.regFenced, regFence, hbelow]
  have hisland : regIsland a = none := by simp [regIsland, hbelow]
  have hgated : s.regGated a = false := by rw [State.regGated, hisland]
  have hmail : mailWindow a = false := by simp [mailWindow, hbelow]
  have hwake : s.wakeFor a = s := by rw [State.wakeFor, hisland]
  have happly : s.regApply init a w = s.writeSprue init a w := by
    have h700 : a < 0x700000 := by omega
    simp [State.regApply, hbelow, h700]
  rw [regWrite_applies hmapped hpresent hfenced (.inl hmail) (.inl hgated), hwake, happly]

/-- A write of SPRUE_CTRL of a queue that the variant has takes effect in the Sprue block. -/
theorem regWrite_sprueCtrl (hq : q < 44) (hp : s.queuePresent q = true) (init : Nat) (w : Word) :
    s.regWrite init (queueBase q + 0x10) w = s.writeSprue init (queueBase q + 0x10) w := by
  have hidx : (queueBase q + 0x10 - 0x680000) / 0x40 = q := by rw [queueBase]; omega
  have hlo : 0x680000 ≤ queueBase q + 0x10 := by rw [queueBase]; omega
  have hhi : queueBase q + 0x10 < 0x680B00 := by rw [queueBase]; omega
  exact regWrite_sprue hlo hhi (hidx.symm ▸ hp) init w

/-- A written SPRUE_CTRL arms the inverted parity by its bit 0 and brings SPRUE_MAXLVL.MAX to the level by its bit 1. -/
theorem writeSprue_ctrl (hq : q < 44) (init : Nat) (w : Word) {t u : State}
    (ht : s.fieldsWrite init (queueBase q + 0x10) w = t)
    (hu : (if w.getLsbD 0 then t.setQueue q { t.queue q with injNext := true } else t) = u) :
    s.writeSprue init (queueBase q + 0x10) w
      = if w.getLsbD 1 then u.set (queueBase q) SPRUE_MAXLVL_MAX (u.queue q).level else u := by
  have hidx : (queueBase q + 0x10 - 0x680000) / 0x40 = q := by rw [queueBase]; omega
  have hoff : (queueBase q + 0x10) % 0x40 = 0x10 := by rw [queueBase]; omega
  have hlo : ¬ 0x680B00 ≤ queueBase q + 0x10 := by rw [queueBase]; omega
  subst ht hu
  simp only [State.writeSprue, hidx, hoff, if_neg hlo, if_true]
  rfl

end

/-! ### The rows -/

/-- A row of a queue that the variant has, while the main die runs. -/
theorem run_queue {s : State} {q : Nat} (f : State → State) (hu : s.sys.up = true) (hp : s.queuePresent q = true) :
    s.runQueue q f = .next (s.after (f s)) := by
  rw [State.runQueue, run_up _ hu, if_pos hp]

section
variable {s : State} {q : Fin 44} (hu : s.sys.up = true) (hp : s.queuePresent q.val = true)
include hu hp

theorem exec_sprueWordWrite (hq : q.val ≠ 32) (bs : List Byte) (eop poison : Bool) :
    exec (.sprueWordWrite q bs eop poison) s = .next (s.after (s.sprueWrite q.val bs eop poison)) := by
  change execSprueWordWrite q bs eop poison s = _
  rw [execSprueWordWrite, run_queue _ hu hp, if_neg hq]

/-- No producer's row writes the voter's queue (R75). -/
theorem exec_sprueWordWrite_voter (bs : List Byte) (eop poison : Bool) (hq : q.val = 32) :
    exec (.sprueWordWrite q bs eop poison) s = .next (s.after s) := by
  change execSprueWordWrite q bs eop poison s = _
  rw [execSprueWordWrite, run_queue _ hu hp, if_pos hq]

theorem exec_sprueWordRead (upset : Option (Fin 512)) :
    exec (.sprueWordRead q upset) s = .next (s.after (s.sprueReadWord q.val (upset.map (·.val)))) := by
  change execSprueWordRead q upset s = _
  rw [execSprueWordRead, run_queue _ hu hp]

theorem exec_spruePeckReturn :
    exec (.spruePeckReturn q) s
      = .next (s.after ((s.setQueue q.val { s.queue q.val with crossing := 0 }).closePacket q.val)) :=
  run_queue (fun s => s.peckReturn q.val) hu hp

end

section
variable {s : State} {q : Fin 44} (hl : s.Live) (hp : s.queuePresent q.val = true)
include hl hp

theorem exec_sprueInjPar :
    exec (.sprueInjPar q) s = .next (s.after (s.writeSprue 2 (queueBase q.val + 0x10) 1#32)) := by
  rw [← regWrite_sprueCtrl q.isLt hp]
  exact run_live (fun s => s.regWrite 2 (queueBase q.val + 0x10) 1#32) hl

theorem exec_sprueMaxRst :
    exec (.sprueMaxRst q) s = .next (s.after (s.writeSprue 2 (queueBase q.val + 0x10) 2#32)) := by
  rw [← regWrite_sprueCtrl q.isLt hp]
  exact run_live (fun s => s.regWrite 2 (queueBase q.val + 0x10) 2#32) hl

end

/-! ### The obligation -/

/-- Settles O19: a word's row is the operation at its end of the queue, a row of SPRUE_CTRL the register's own write, and each
clause is a case of one of these. -/
theorem sprueRows : Obligations.SprueRows := by
  refine ⟨fun s q hu hp => ⟨?write, ?read, exec_sprueWordWrite_voter hu hp, exec_spruePeckReturn hu hp⟩,
    fun s q w => ⟨spruePlace_stopped, spruePlace_overrun, spruePlace_chain⟩, fun s q hl hp => ⟨?injPar, ?maxRst⟩⟩
  case write =>
    intro bs eop poison hr hq p
    rw [exec_sprueWordWrite hu hp hq]
    by_cases h : eop = true ∨ sprueRead q.val ≤ p.length
    · rw [sprueWrite_places hr rfl h, if_pos h]
    · rw [sprueWrite_packs hr rfl h, if_neg h]
  case read =>
    intro w rest hc hw
    rw [exec_sprueWordRead hu hp, Option.map_none, sprueReadWord_parOk hc hw]
  case injPar =>
    rw [exec_sprueInjPar hl hp, writeSprue_ctrl q.isLt 2 1#32 rfl (if_pos (by decide)), if_neg (by decide)]
  case maxRst =>
    rw [exec_sprueMaxRst hl hp, writeSprue_ctrl q.isLt 2 2#32 rfl (if_neg (by decide)), if_pos (by decide)]

end Sys2Proof.Machine

/-! CRC-32C bit by bit, and the fields of a reply, its CRC among them. -/

namespace Sys2Proof.Machine

/-! ### CRC-32C (R95) -/

/-- One step of CRC-32C: the register takes in one bit of the message. -/
def crcBit (c : Word) (b : Bool) : Word := if (c.getLsbD 0 != b) then (c >>> 1) ^^^ 0x82F63B78#32 else c >>> 1

/-- The bits of a byte, least significant first. -/
def byteBits (b : Byte) : List Bool := (List.range 8).map fun i => b.getLsbD i

/-- The model's step shifts the register with the message bit already XORed in. -/
theorem crcShift_succ (n : Nat) (c : Word) : crcShift (n + 1) c.toNat = crcShift n (crcBit c false).toNat := by
  have hodd : c.toNat % 2 = 1 ↔ c.getLsbD 0 = true := by simp [BitVec.getLsbD, Nat.testBit_zero]
  have hhalf : (c >>> 1).toNat = c.toNat / 2 := by rw [BitVec.toNat_ushiftRight, Nat.shiftRight_eq_div_pow, Nat.pow_one]
  simp only [crcShift, crcBit, hodd, Bool.bne_false]
  split
  · rw [BitVec.toNat_xor, hhalf]; rfl
  · rw [hhalf]

/-- To XOR the rest of the message in beforehand is to take its lowest bit now and the others later. -/
theorem crcBit_xor (c x : Word) : crcBit (c ^^^ x) false = crcBit c (x.getLsbD 0) ^^^ (x >>> 1) := by
  simp only [crcBit, BitVec.getLsbD_xor, Bool.bne_false, BitVec.ushiftRight_xor_distrib]
  split
  · ac_rfl
  · rfl

/-- `n` shifts of a register with `n` message bits XORed in take those bits in one by one. -/
theorem crcShift_xor (n : Nat) (c x : Word) (hx : x.toNat < 2 ^ n) :
    crcShift n (c ^^^ x).toNat = (((List.range n).map fun i => x.getLsbD i).foldl crcBit c).toNat := by
  induction n generalizing c x with
  | zero =>
    have hzero : x = 0#32 := BitVec.eq_of_toNat_eq (Nat.lt_one_iff.mp hx)
    rw [hzero, BitVec.xor_zero]
    rfl
  | succ n ih =>
    have hshift : (x >>> 1).toNat < 2 ^ n := by
      rw [BitVec.toNat_ushiftRight, Nat.shiftRight_eq_div_pow]
      omega
    have hbits : (fun i => (x >>> 1).getLsbD i) = fun i => x.getLsbD (i + 1) := by
      funext i
      rw [BitVec.getLsbD_ushiftRight, Nat.add_comm]
    rw [crcShift_succ, crcBit_xor, ih _ _ hshift, hbits, List.range_succ_eq_map, List.map_cons, List.foldl_cons, List.map_map]
    rfl

/-- A byte folded into the register takes its bits in one by one. -/
theorem crcShift_byte (c : Word) (b : Byte) : crcShift 8 (c.toNat ^^^ b.toNat) = ((byteBits b).foldl crcBit c).toNat := by
  have hlt : (b.setWidth 32).toNat < 2 ^ 8 := by
    rw [BitVec.toNat_setWidth_of_le (by decide)]
    exact b.isLt
  have hbits : byteBits b = (List.range 8).map fun i => (b.setWidth 32).getLsbD i :=
    List.map_congr_left fun i hi => by
      have hi : i < 8 := List.mem_range.mp hi
      rw [BitVec.getLsbD_setWidth, decide_eq_true (by omega), Bool.true_and]
  have h := crcShift_xor 8 c (b.setWidth 32) hlt
  rwa [BitVec.toNat_xor, BitVec.toNat_setWidth_of_le (by decide), ← hbits] at h

theorem crcRun_eq_foldl (bs : List Byte) (c : Word) : crcRun bs c.toNat = ((bs.flatMap byteBits).foldl crcBit c).toNat := by
  induction bs generalizing c with
  | nil => rfl
  | cons b bs ih => rw [crcRun, crcShift_byte, ih, List.flatMap_cons, List.foldl_append]

/-- CRC-32C is the bits of the message taken in one by one, between the initial value and the final XOR. -/
theorem crc32c_eq_foldl (bs : List Byte) :
    crc32c bs = ((bs.flatMap byteBits).foldl crcBit 0xFFFFFFFF#32 ^^^ 0xFFFFFFFF#32).toNat := by
  rw [BitVec.toNat_xor, ← crcRun_eq_foldl]
  rfl

theorem crc32c_lt (bs : List Byte) : crc32c bs < 256 ^ 4 := by
  rw [crc32c_eq_foldl]
  exact BitVec.isLt _

/-! ### Fields of a byte string -/

theorem leNat_lt (bs : List Byte) : leNat bs < 256 ^ bs.length := by
  induction bs with
  | nil => exact Nat.one_pos
  | cons b bs ih =>
    rw [leNat, List.length_cons, Nat.pow_succ]
    have := b.isLt
    omega

theorem leAt_lt (bs : List Byte) (k n : Nat) : leAt bs k n < 256 ^ n :=
  (leNat_lt _).trans_le (Nat.pow_le_pow_right (by decide) (List.length_take_le ..))

section
variable {hd tl : List Byte} {k n : Nat} (hk : hd.length = k)
include hk

/-- A field of a byte string reads as the number put there. -/
theorem leAt_field (v : Nat) : leAt (hd ++ (leBytes n v ++ tl)) k n = v % 256 ^ n := by
  rw [leAt, List.drop_left' hk, List.take_left' (leBytes_length n v), leNat_leBytes]

/-- A field made zero leaves what stands before and after it. -/
theorem zeroAt_field {mid : List Byte} (hn : mid.length = n) :
    zeroAt (hd ++ (mid ++ tl)) k n = hd ++ (List.replicate n 0#8 ++ tl) := by
  have hlen : min n ((hd ++ (mid ++ tl)).length - k) = n := by
    simp only [List.length_append]
    omega
  rw [zeroAt, hlen, List.take_left' hk, ← List.append_assoc hd mid tl,
    List.drop_left' (by rw [List.length_append, hk, hn]), List.append_assoc]

end

/-! ### A reply's bytes (Table 4.5) -/

/-- What stands before the CRC in a reply: opcode, tag, length, status and short stamp. -/
def State.replyHead (s : State) (op tag status len : Nat) : List Byte :=
  leBytes 2 op ++ (leBytes 2 tag ++ (leBytes 2 len ++ (leBytes 2 status ++ leBytes 4 (shortStamp (s.nowAt 3)))))

theorem pktOp_lt (p : List Byte) : pktOp p < 65536 := leAt_lt ..

theorem pktTag_lt (p : List Byte) : pktTag p < 65536 := leAt_lt ..

section
variable (s : State) (op tag status : Nat) (res p : List Byte)

theorem replyHead_length (len : Nat) : (s.replyHead op tag status len).length = 12 := by
  simp only [State.replyHead, List.length_append, leBytes_length]

theorem replyBytes_eq :
    s.replyBytes op tag status res
      = s.replyHead op tag status res.length
        ++ (leBytes 4 (crc32c (s.replyHead op tag status res.length ++ (List.replicate 4 0#8 ++ res))) ++ res) := by
  simp only [State.replyBytes, State.replyHead, List.append_assoc]
  rfl

/-- The CRC of a reply is taken over it with the CRC field zero. -/
theorem replyBytes_crc : leAt (s.replyBytes op tag status res) 12 4 = crc32c (zeroAt (s.replyBytes op tag status res) 12 4) := by
  have hhead := replyHead_length s op tag status res.length
  rw [replyBytes_eq, leAt_field hhead, zeroAt_field hhead (leBytes_length ..), Nat.mod_eq_of_lt (crc32c_lt _)]

/-- A reply names the opcode of its packet. -/
theorem replyBytes_op : leAt (s.replyBytes (pktOp p) tag status res) 0 2 = pktOp p := by
  rw [replyBytes_eq, State.replyHead, List.append_assoc]
  exact (leAt_field (hd := []) rfl _).trans (Nat.mod_eq_of_lt (pktOp_lt p))

/-- A reply names the tag of its packet. -/
theorem replyBytes_tag : leAt (s.replyBytes op (pktTag p) status res) 2 2 = pktTag p := by
  rw [replyBytes_eq, State.replyHead, List.append_assoc, List.append_assoc]
  exact (leAt_field (leBytes_length ..) _).trans (Nat.mod_eq_of_lt (pktTag_lt p))

theorem replyBytes_status : leAt (s.replyBytes op tag status res) 6 2 = status % 65536 := by
  have hlen : (leBytes 2 op ++ (leBytes 2 tag ++ leBytes 2 res.length)).length = 6 := by
    simp only [List.length_append, leBytes_length]
  have hfield := fun tl => leAt_field (n := 2) (tl := tl) hlen status
  simp only [List.append_assoc] at hfield
  rw [replyBytes_eq, State.replyHead]
  simp only [List.append_assoc]
  exact hfield _

end

/-- Settles O9: each shift of the model takes in one bit, the check value is computed, and the CRC field of a reply is the four
bytes of the CRC of the reply with that field zero. -/
theorem crcParameters : Obligations.CrcParameters :=
  ⟨crc32c_eq_foldl, by decide +kernel, replyBytes_crc⟩

end Sys2Proof.Machine

/-! The status commands: a command's record in the log, its reply on the xSPI port, and what neither of them changes. -/

namespace Sys2Proof.Machine

/-! ### One record of the command log (Table 4.9, R118) -/

/-- The place of the next record in partition 8. -/
def State.logAddr (s : State) : Nat := s.partBase 8 + 32 * (s.get cmdBase CMD_LOG_HEAD_INDEX % 16384)

/-- `t` is `s` with one log record more and the replies `rs` at the back of the xSPI port's queue: 32 bytes of the store and the
register words CMD_LOG_HEAD and CMD_LOG_OVWR may differ, nothing waits for it, and both sparse files keep their form. -/
structure State.Logs (s t : State) (rs : List Reply) : Prop where
  byteAt : ∀ c, c < s.logAddr ∨ s.logAddr + 32 ≤ c → t.byteAt c = s.byteAt c
  rd : ∀ a, a ≠ cmdBase + CMD_LOG_HEAD_INDEX.off → a ≠ cmdBase + CMD_LOG_OVWR.off → t.rd a = s.rd a
  xspi : t.cmd.xspi = s.cmd.xspi ++ rs
  calm : t.calm = s.calm
  inv : s.Inv → t.Inv

/-- A counter that does not come to 2^31 rises and does nothing else. -/
theorem bumpAt_noHalf (s : State) (a : Nat) (h : (s.rd a).toNat + 1 ≠ 2 ^ 31) :
    s.bumpAt a 1 = s.wr a (BitVec.ofNat 32 ((s.rd a).toNat + 1)) := by
  unfold State.bumpAt
  rw [if_neg (by omega)]

theorem bitsOf_whole (w : Word) : bitsOf w 0 32 = w.toNat := by
  rw [bitsOf, BitVec.extractLsb'_eq_self]

section
variable {s t : State} {rs : List Reply}

/-- The record and the head of the log, with nothing overwritten. -/
theorem logs_store {bs : List Byte} (hlen : bs.length = 32) (v : Nat) :
    s.Logs ((s.store s.logAddr bs).set cmdBase CMD_LOG_HEAD_INDEX v) [] where
  byteAt c hc := byteAt_store_other s _ c bs (hlen ▸ hc)
  rd _ ha _ := rd_wr_other _ _ ha
  xspi := (List.append_nil _).symm
  calm := rfl
  inv hi := ⟨store_wf s _ bs hi.1, wr_wf _ _ _ hi.2⟩

theorem State.Logs.setLogFull (h : s.Logs t rs) (b : Bool) : s.Logs { t with cmd := { t.cmd with logFull := b } } rs :=
  ⟨h.byteAt, h.rd, h.xspi, h.calm, h.inv⟩

theorem State.Logs.wr_ovwr (h : s.Logs t rs) (w : Word) : s.Logs (t.wr (cmdBase + CMD_LOG_OVWR.off) w) rs where
  byteAt := h.byteAt
  rd a ha ho := (rd_wr_other t w ho).trans (h.rd a ha ho)
  xspi := h.xspi
  calm := h.calm
  inv hi := ⟨(h.inv hi).1, wr_wf _ _ _ (h.inv hi).2⟩

/-- A command's record is stored and counted; only a count of overwritten records that comes to 2^31 has an event. -/
theorem logCmd_logs (hovwr : s.get cmdBase CMD_LOG_OVWR + 1 ≠ 2 ^ 31) (start dur : Nat) (k : CmdKey)
    (op tag status unit flags crc : Nat) : s.Logs (s.logCmd start dur k op tag status unit flags crc) [] := by
  unfold State.logCmd
  split
  · rw [State.bump, bumpAt_noHalf]
    · exact (logs_store (by simp [stampBytes, leBytes_length]) _).wr_ovwr _
    · rw [State.get, CMD_LOG_OVWR, bitsOf_whole] at hovwr
      rwa [State.set, rd_wr_other _ _ (by decide), store_rd]
  · exact (logs_store (by simp [stampBytes, leBytes_length]) _).setLogFull _

/-! ### The reply of an xSPI command (R92, R97) -/

variable {k : CmdKey}

/-- A logged reply enters the queue, and its command waits for the delivery. -/
theorem State.Logs.putReply (h : s.Logs t []) (hk : k.transport = .xspi) (bs : List Byte) :
    s.Logs ((t.putReply k true 0 bs).afterReply k) [{ key := k, answers := true, src := 0, bytes := bs }] := by
  have hxspi : t.cmd.xspi = s.cmd.xspi := h.xspi.trans (List.append_nil _)
  simp only [State.putReply, State.afterReply, hk]
  exact ⟨h.byteAt, h.rd, congrArg (· ++ _) hxspi, h.calm, h.inv⟩

/-- What a log record and replies change stands after the row, where nothing waited before it. -/
theorem State.Logs.after (h : s.Logs t rs) (hc : s.Calm) (hi : s.Inv) : s.Logs (s.after t) rs := by
  obtain ⟨hmem, hregs⟩ := h.inv hi
  rw [after_calm s t (h.calm.trans hc) hmem hregs]
  exact ⟨h.byteAt, h.rd, h.xspi, h.calm, fun _ => ⟨hmem, hregs⟩⟩

theorem reply_logs {e : CmdEntry} (he : s.entry k = some e) (hk : k.transport = .xspi) (hm : e.mute = false)
    (ho : e.ownBcast = false) (hovwr : s.get cmdBase CMD_LOG_OVWR + 1 ≠ 2 ^ 31) (st : Nat) (res : List Byte) :
    s.Logs (s.reply k st res)
      [{ key := k, answers := true, src := 0, bytes := s.replyBytes (pktOp e.packet) (pktTag e.packet) st res }] := by
  simp only [State.reply, State.replyWith, he, hm, ho, hk, Bool.false_eq_true, if_false, reduceCtorEq]
  exact (logCmd_logs hovwr ..).putReply hk _

end

/-! ### The status commands -/

/-- A status command and its opcode. -/
def StatusRow (k : CmdKey) (row : Instr × Nat) : Prop :=
  row ∈ [(.sysNop k, 0x0000), (.sysIdentify k, 0x0001), (.storePartRead k, 0x0100), (.ringStatus k, 0x0200),
    (.statsRead k, 0x0304), (.timeStatus k, 0x0400), (.bridgeStatus k, 0x0600), (.canStatus k, 0x0706),
    (.flaskStatus k, 0x0803), (.dioStatus k, 0x0904), (.pchStatus k, 0x0A03), (.usbStatus k, 0x0B00), (.pdStatus k, 0x0C00),
    (.safeStatus k, 0x0D00), (.updStatus k, 0x0F03)]

section
variable {s : State} {k : CmdKey} {e : CmdEntry}

/-- STATS_READ reads the statistics of a context or of a port. -/
theorem completes_statsRead : ∃ res, s.Completes k e (.statsRead k) 0x0304 0 0 res s := by
  by_cases hctx : e.ukind = 11
  · exact ⟨_, completes_of_done rfl rfl (if_pos hctx)⟩
  · exact ⟨_, completes_of_done rfl rfl (if_neg hctx)⟩

/-- A status command completes with DONE and leaves the state as it was. -/
theorem completes_status : ∀ row, StatusRow k row → ∃ res, s.Completes k e row.1 row.2 0 0 res s := by
  unfold StatusRow
  simp only [List.forall_mem_cons]
  refine ⟨?nop, ?identify, ?part, ?ring, ?stats, ?time, ?bridge, ?can, ?flask, ?dio, ?pch, ?usb, ?pd, ?safe, ?upd,
    List.forall_mem_nil _⟩
  case stats => exact completes_statsRead
  all_goals exact ⟨_, completes_of_done rfl rfl rfl⟩

end

/-- Settles O16: a status command completes on the state it found, so that all it changes is the log record and the reply. -/
theorem statusCommandFrame : Obligations.StatusCommandFrame := by
  intro s k e i op hrow hcalm hinv hexec hk hm ho hovwr
  obtain ⟨res, hdone⟩ := completes_status (s := s) (e := e) (i, op) hrow
  have ⟨_, hentry, hop, _⟩ := hexec
  have hlogs := (reply_logs hentry hk hm ho hovwr 0 res).after hcalm hinv
  exact ⟨_, _, hdone hexec, hlogs.byteAt, hlogs.rd, hlogs.xspi, rfl, (replyBytes_op ..).trans hop, replyBytes_tag ..,
    replyBytes_status ..⟩

end Sys2Proof.Machine

/-! The mailbox of xSPI and the life of a command: the effect of each row under its condition, then what the row answers. -/

namespace Sys2Proof.Machine

/-! ### The xSPI mailbox (R91, R92) -/

section
variable {s : State} {len : Nat}

/-- A doorbell of a free mailbox sets BUSY, and the packet in the window goes to the checks of Table 4.6. -/
theorem doorbell_taken (hb : s.cmdBusy = false) (hf : s.rplFull = false) (hlen : len ≤ 8191) :
    s.doorbell len
      = s.setBusy.accept .xspi 0 0 ((List.range len).map fun i => Tbl.get (fun _ => 0#8) s.cmd.window i) := by
  simp only [State.doorbell, hb, hf, Bool.false_eq_true, or_self, if_false, Nat.min_eq_left hlen]

theorem doorbell_lost (h : s.cmdBusy = true ∨ s.rplFull = true) :
    s.doorbell len = (s.bump cmdBase CMD_DOORBELL_LOST).raise .cmdDoorbellLost srcHub 0 (leBytes 2 len) := by
  rw [State.doorbell, if_pos h]

/-- A pop delivers the front reply, and the tag of the command it answers is free. -/
theorem rplPop_answer {r : Reply} {rest : List Reply} {e : CmdEntry} (hr : s.cmd.xspi = r :: rest) (ha : r.answers = true)
    (he : s.entry r.key = some e) (hp : e.phase = .replied) :
    s.rplPop
      = (({ s with cmd := { s.cmd with xspi := rest } } : State).emit (.xspiReply r.bytes)).dropEntry r.key := by
  have hentry : (({ s with cmd := { s.cmd with xspi := rest } } : State).emit (.xspiReply r.bytes)).entry r.key = some e := he
  simp only [State.rplPop, hr, ha, hentry, hp, Bool.not_true, Bool.false_eq_true, if_false]

end

section
variable {s : State} (hl : s.Live)
include hl

theorem exec_cmdDoorbell (len : BitVec 13) : exec (.cmdDoorbell len) s = .next (s.after (s.doorbell len.toNat)) :=
  run_live (fun s => s.doorbell len.toNat) hl

theorem exec_cmdRplPop : exec .cmdRplPop s = .next (s.after s.rplPop) := run_live State.rplPop hl

end

/-- Settles O21: the two rows are the doorbell and the pop, and each clause is a case of one of these. -/
theorem mailboxRows : Obligations.MailboxRows := by
  intro s hl
  refine ⟨fun len hb hf => ?taken, fun len h => ?lost, fun r rest e hr ha he hp => ?pop⟩
  case taken => rw [exec_cmdDoorbell hl, doorbell_taken hb hf (by omega)]
  case lost => rw [exec_cmdDoorbell hl, doorbell_lost h]
  case pop => rw [exec_cmdRplPop hl, rplPop_answer hr ha he hp]

/-! ### The life of a command (R108, R109, R111, R120) -/

section
variable {s t : State} {k : CmdKey} {e e' : CmdEntry}

/-- A command that the scans have taken, that nothing holds back and whose unit is not fenced, executes from now on. -/
theorem start_here (ht : State.scanTo (s.cmd.entries.length + 1) k s = t) (he : t.entry k = some e') (hp : e'.phase = .accepted)
    (hm : t.mayStart e' = true) (hr : t.remoteOf k e'.packet = none) (hf : t.fencedFor e'.packet = false) :
    s.start k = t.setEntry k fun e => { e with phase := .executing t.uptime none } := by
  simp only [State.start, State.startHere, ht, he, hp, hm, hr, hf, ne_eq, not_true, Bool.not_true, Bool.false_eq_true, or_self,
    Option.isSome_none, if_false]

theorem wakeUnit_awake {u : Nat} (h : ∀ i, unitGate u = some i → t.sys.gated.contains i = false) : t.wakeUnit u = t := by
  rw [State.wakeUnit]
  split
  · next i hi => rw [h i hi, if_neg (by decide)]
  · rfl

/-- A start wakes no island where the command's unit is awake. -/
theorem startWoken_awake (he : s.entry k = some e)
    (h : ∀ i, unitGate (pktUnit e.packet) = some i → (s.start k).sys.gated.contains i = false) :
    s.startWoken k = s.start k := by
  simp only [State.startWoken, he, wakeUnit_awake h, ite_self]

variable (he : s.entry k = some e)
include he

theorem overrun_due {at_ : Nat} {w : Option WaitKind} (hp : e.phase = .executing at_ w) (hdue : at_ + s.bound e ≤ s.uptime) :
    s.overrun k
      = (s.reply k 0x70 []).raise .cmdOverrun srcHub 0
          (leBytes 2 (pktOp e.packet) ++ leBytes 2 (pktTag e.packet) ++ leBytes 1 (xportCode k.transport)) := by
  simp only [State.overrun, he, hp, if_neg (Nat.not_lt.mpr hdue)]

/-- Every command but the three with a bound of their own kind is overrun at its bound (R120). -/
theorem boundExpire_overrun (h1 : pktOp e.packet ≠ 0x0201) (h2 : pktOp e.packet ≠ 0x0203) (h3 : pktOp e.packet ≠ 0x0A00) :
    s.boundExpire k = s.overrun k := by
  simp only [State.boundExpire, he, if_neg h1, if_neg h2, if_neg h3]

theorem remoteTimeout_due {n sent : Nat} (hp : e.phase = .remote n sent)
    (hdue : sent + 10000000 * s.get cmdBase CMD_REMOTE_TMO_TICKS ≤ s.uptime) (hr : s.replyComes e = false) :
    s.remoteTimeout k
      = (s.replyWith k 0x70 32 []).setEntry k fun e => { e with phase := .held (s.uptime + 64 * nsPerSec) false } := by
  simp only [State.remoteTimeout, State.endRemote, he, hp, Nat.not_lt.mpr hdue, hr, Bool.false_eq_true, or_self, if_false]

theorem tagHoldEnd_delivered {u : Nat} (hp : e.phase = .held u true) (hdue : u ≤ s.uptime) : s.tagHoldEnd k = s.dropEntry k := by
  simp only [State.tagHoldEnd, he, hp, if_neg (Nat.not_lt.mpr hdue), if_true]

theorem bcastEnd_due {c : Nat} {self : Bool} {rs : List (Nat × Nat)} (hp : e.phase = .broadcast c self rs) (hdue : c ≤ s.uptime) :
    s.bcastEnd k = s.replyWith k (s.bcastClose self rs).1 32 (s.bcastClose self rs).2 := by
  simp only [State.bcastEnd, he, hp, if_neg (Nat.not_lt.mpr hdue)]

end

section
variable {s : State} (hl : s.Live) (k : CmdKey)
include hl

theorem exec_commandStart : exec (.commandStart k) s = .next (s.after (s.startWoken k)) := run_live (fun s => s.startWoken k) hl

theorem exec_executionBoundExpire : exec (.executionBoundExpire k) s = .next (s.after (s.boundExpire k)) :=
  run_live (fun s => s.boundExpire k) hl

theorem exec_remoteTimeout : exec (.remoteTimeout k) s = .next (s.after (s.remoteTimeout k)) :=
  run_live (fun s => s.remoteTimeout k) hl

theorem exec_remoteTagHoldEnd : exec (.remoteTagHoldEnd k) s = .next (s.after (s.tagHoldEnd k)) :=
  run_live (fun s => s.tagHoldEnd k) hl

theorem exec_broadcastWindowClose : exec (.broadcastWindowClose k) s = .next (s.after (s.bcastEnd k)) :=
  run_live (fun s => s.bcastEnd k) hl

end

/-- Settles O22: each row is one operation on the command's entry, and each clause is that operation's case. -/
theorem commandLife : Obligations.CommandLife := by
  intro s k e hl he
  refine ⟨?start, ?bound, ?remote, ?tag, ?broadcast⟩
  case start =>
    intro e' t _ he' hp' hm hr hf hawake
    have hstart := start_here (s := s) rfl he' hp' hm hr hf
    rw [exec_commandStart hl, startWoken_awake he (hstart ▸ hawake), hstart]
  case bound =>
    intro at_ w hp hdue h1 h2 h3
    rw [exec_executionBoundExpire hl, boundExpire_overrun he h1 h2 h3, overrun_due he hp hdue]
  case remote =>
    intro n sent hp hdue hr
    rw [exec_remoteTimeout hl, remoteTimeout_due he hp hdue hr]
  case tag =>
    intro u hp hdue
    rw [exec_remoteTagHoldEnd hl, tagHoldEnd_delivered he hp hdue]
  case broadcast =>
    intro c self rs hp hdue
    rw [exec_broadcastWindowClose hl, bcastEnd_due he hp hdue]

end Sys2Proof.Machine

/-! The ring ports and the frames of the ring: the effect of each row under its condition, then what the row answers. -/

namespace Sys2Proof.Machine

/-! ### Link states (R127, R129, R140, R151, R155) -/

section
variable {s : State} {p : Nat}

/-- Lock in the configured rate has no event. -/
theorem blockLock_configured (hst : s.pstate p = 1) (hlock : s.flag (ringBase p) RING_PSTAT_BLOCK_LOCK = false)
    (hrate : s.get (ringBase p) RING_PSTAT_RATE_NOW = s.get (ringBase p) RING_PCTRL_RATE) {fec : Bool}
    (hfec : (s.get (ringBase p) RING_PSTAT_RATE_NOW == 0 && s.flag (ringBase p) RING_PCTRL_FEC) = fec) :
    s.blockLock p
      = ((s.set (ringBase p) RING_PSTAT_BLOCK_LOCK 1).set (ringBase p) RING_PSTAT_FEC_ALIGN (b2n fec)).set (ringBase p)
          RING_PSTAT_FEC_NOW (b2n fec) := by
  have hseeks : ¬ (s.pstate p ≠ 1 ∨ s.flag (ringBase p) RING_PSTAT_BLOCK_LOCK = true) := by simp [hst, hlock]
  simp only [State.blockLock, hfec, if_neg hseeks, if_neg (not_not.mpr hrate)]

theorem linkTimeout_due (hst : s.pstate p = 1) (hlock : s.flag (ringBase p) RING_PSTAT_BLOCK_LOCK = false)
    (hdue : (s.rport p).seekAt + 10000000 * s.get (ringBase p) RING_LINK_TMO_TICKS ≤ s.uptime) :
    s.linkTimeout p
      = ((s.bump (ringBase p) RING_LINK_TMO_CNT).setRport p { s.rport p with seekAt := s.uptime }).set (ringBase p)
          RING_PSTAT_RATE_NOW (if s.flag (ringBase p) RING_PCTRL_FALLBACK then 1 - s.get (ringBase p) RING_PSTAT_RATE_NOW
            else s.get (ringBase p) RING_PCTRL_RATE) := by
  simp only [State.linkTimeout, hst, hlock, Nat.not_lt.mpr hdue, ne_eq, not_true, Bool.false_eq_true, or_self, if_false]

/-- A change of the own rate goes before one that the neighbour announced. -/
theorem rateChange_own {r t : Nat} (hown : (s.rport p).ownChange = some (r, t)) (hdue : t ≤ s.ring) {u : State}
    (hu : ((s.setRport p { s.rport p with ownChange := none }).set (ringBase p) RING_PCTRL_RATE r).evt (ringBase p)
        RING_PEVT 5 = u) :
    s.rateChange p = if s.portRuns p then u.seekRate p 3 r else u := by
  simp only [State.rateChange, hown, if_neg (Nat.not_lt.mpr hdue), hu]

theorem helloSend_due (hh : s.hellos p = true) (hdue : (s.rport p).helloSent + s.helloNs ≤ s.uptime) :
    s.helloSend p
      = (s.sendCtl p (s.ctlFrame (s.helloBody p))).setRport p { s.rport p with helloSent := s.uptime } := by
  simp only [State.helloSend, hh, Nat.not_lt.mpr hdue, Bool.not_true, Bool.false_eq_true, or_self, if_false]

/-- A hello that announces no rate change, at a port that has left SEEK, is noted and no more. -/
theorem helloRx_noted {f : List Byte} (hh : s.hellos p = true) (hf : s.isCtl f 1 = true) (hst : s.pstate p ≠ 1)
    (hchg : leAt f 18 1 = 0) {t : State}
    (ht : (s.noteEpoch p (if bitAt (leAt f 16 1) 0 then leAt f 15 1 else 0) (leAt f 17 1)).set (ringBase p)
        RING_PSTAT_HELLO_OK 1 = t) :
    s.helloRx p f
      = t.setRport p { t.rport p with helloAt := s.uptime, missed := 0, nbFallback := some (bitAt (leAt f 16 1) 3) } := by
  simp only [State.helloRx, hh, hf, hchg, ht, if_neg hst, ne_eq, not_true, Bool.not_true, Bool.false_eq_true, or_self,
    false_and, if_false]

theorem helloMiss_due (hst : s.pstate p = 3) (hdue : (s.rport p).helloAt + ((s.rport p).missed + 1) * s.helloNs ≤ s.uptime)
    {t : State} (ht : (s.setRport p { s.rport p with missed := (s.rport p).missed + 1, holdAt := s.uptime }).bump (ringBase p)
        RING_HELLO_MISS = t) :
    s.helloMiss p
      = if s.get ringWide RING_HELLO_MISSMAX ≤ (s.rport p).missed + 1 then t.seek p 2 else t := by
  have hwaits : ¬ ((s.pstate p ≠ 2 ∧ s.pstate p ≠ 3)
      ∨ s.uptime < (s.rport p).helloAt + ((s.rport p).missed + 1) * s.helloNs) := by omega
  simp only [State.helloMiss, ht, if_neg hwaits]

theorem healEnd_due (hst : s.pstate p = 2)
    (hdue : (s.rport p).holdAt + 1000000 * s.get ringWide RING_HEAL_HOLD_MS ≤ s.uptime) :
    s.healEnd p
      = ((s.set (ringBase p) RING_PSTAT_STATE 3).evt (ringBase p) RING_PEVT 3).ownNotice p false
          (s.get (ringBase p) RING_PSTAT_NEIGHBOUR) := by
  have hwaits : ¬ (s.pstate p ≠ 2 ∨ s.uptime < (s.rport p).holdAt + 1000000 * s.get ringWide RING_HEAL_HOLD_MS) := by omega
  simp only [State.healEnd, if_neg hwaits]

/-- A break at a port that is UP, for a cause of its own, sends it to SEEK. -/
theorem breakDeclare_up {cause : Nat} (hst : s.pstate p = 3) (hc : cause ≠ 2) :
    s.breakDeclare p cause = (if cause = 0 then s.emit (.remoteFault p) else s).seek p cause := by
  simp only [State.breakDeclare, hst, hc, or_true, false_and, if_true, if_false]

end

section
variable {s : State} (hc : s.Clocked) (p : Fin 2)
include hc

theorem exec_portBlockLock : exec (.portBlockLock p) s = .next (s.after (s.blockLock p.val)) :=
  run_ring (fun s => s.blockLock p.val) hc

theorem exec_linkTimeout : exec (.linkTimeout p) s = .next (s.after (s.linkTimeout p.val)) :=
  run_ring (fun s => s.linkTimeout p.val) hc

theorem exec_rateChangeApply : exec (.rateChangeApply p) s = .next (s.after (s.rateChange p.val)) :=
  run_ring (fun s => s.rateChange p.val) hc

theorem exec_helloSend : exec (.helloSend p) s = .next (s.after (s.helloSend p.val)) :=
  run_ring (fun s => s.helloSend p.val) hc

theorem exec_helloRx (f : List Byte) : exec (.helloRx p f) s = .next (s.after (s.helloRx p.val f)) :=
  run_ring (fun s => s.helloRx p.val f) hc

theorem exec_helloMiss : exec (.helloMiss p) s = .next (s.after (s.helloMiss p.val)) :=
  run_ring (fun s => s.helloMiss p.val) hc

theorem exec_healHoldEnd : exec (.healHoldEnd p) s = .next (s.after (s.healEnd p.val)) :=
  run_ring (fun s => s.healEnd p.val) hc

theorem exec_ringBreakDeclare (cause : Fin 4) :
    exec (.ringBreakDeclare p cause) s = .next (s.after (s.breakDeclare p.val cause.val)) :=
  run_ring (fun s => s.breakDeclare p.val cause.val) hc

end

/-! ### The HSR tag (R131, R145) -/

section
variable {f : List Byte}

/-- Behind the addresses a frame without its HSR tag goes on where the tag ended. -/
theorem beAt_unTag (hlen : 12 ≤ f.length) (n : Nat) : beAt (unTag f) 12 n = beAt f 18 n := by
  have haddr : (f.take 12).length = 12 := List.length_take_of_le hlen
  rw [beAt, unTag, List.drop_left' haddr, beAt]

theorem hasVlan_eq (bs : List Byte) : hasVlan bs = (beAt bs 12 2 == 0x8100 || beAt bs 12 2 == 0x88A8) := rfl

/-- A supervision frame carries its own EtherType, with no VLAN tag before it. -/
theorem etherOf_unTag_of_isSup (hlen : 12 ≤ f.length) (hsup : isSup f = true) : etherOf (unTag f) = 0x88FB := by
  simp only [isSup, Bool.and_eq_true, beq_iff_eq] at hsup
  simp [etherOf, hasVlan_eq, beAt_unTag hlen, hsup.2]

end

/-! ### Frames that arrive (R131, R134, R146, R161, R221) -/

section
variable {s : State} {p : Nat} {f : List Byte} (hup : s.ringUp p = true)
  (hrx : s.flag (macBase p) MAC_MCTRL_RX_EN = true) (hlen : 60 ≤ f.length)
include hup hrx hlen

/-- Only what arrives while the port is UP and receives, of 64 bytes or more, is looked at. -/
theorem ringRx_looks : ¬ ((!s.ringUp p) = true ∨ (!s.flag (macBase p) MAC_MCTRL_RX_EN) = true ∨ f.length + 4 < 64) := by
  simp only [hup, hrx, Bool.not_true, Bool.false_eq_true, false_or]
  omega

theorem ringRx_untagged (htag : beAt f 12 2 ≠ 0x892F) (hno : s.untaggedOk f = false) (fcs : Nat) :
    s.ringRx p f fcs = s.bump (ringBase p) RING_UNTAGGED := by
  simp only [State.ringRx, if_neg (ringRx_looks hup hrx hlen), if_pos htag, hno, Bool.false_eq_true, if_false]

section
variable (htag : beAt f 12 2 = 0x892F) (hsize : lsduOk f = true) (hmax : f.length + 4 ≤ s.maxFrame p f)
include htag hsize hmax

/-- A good tagged frame of a sound length is counted, and goes on by its EtherType and its source. -/
theorem ringRx_good {t : State} (ht : s.bump (ringBase p) RING_RX_FRAMES = t) :
    s.ringRx p f 0
      = if etherOf (unTag f) = 0x88F7 then t
        else if s.ownSource (srcMacOf f) then
          (if isSup f then (t.bump (ringBase p) RING_SELF_REMOVED).dupSeen f else t.bump (ringBase p) RING_SELF_REMOVED)
        else if isSup f then t.supRx p f 0
        else t.dataRx p f 0 := by
  subst ht
  have hshort : ¬ (True ∧ s.maxFrame p f < f.length + 4) := by omega
  simp only [State.ringRx, State.countTagged, if_neg (ringRx_looks hup hrx hlen), htag, hsize, hshort, ne_eq, not_true,
    Bool.not_true, Bool.false_eq_true, and_false, if_false, if_true, OfNat.zero_ne_ofNat]

theorem ringRx_time (he : etherOf (unTag f) = 0x88F7) : s.ringRx p f 0 = s.bump (ringBase p) RING_RX_FRAMES := by
  rw [ringRx_good hup hrx hlen htag hsize hmax rfl, if_pos he]

theorem ringRx_data (he : etherOf (unTag f) ≠ 0x88F7) (hsup : isSup f = false) (hown : s.ownSource (srcMacOf f) = false) :
    s.ringRx p f 0 = (s.bump (ringBase p) RING_RX_FRAMES).dataRx p f 0 := by
  rw [ringRx_good hup hrx hlen htag hsize hmax rfl, if_neg he, hown, hsup]
  rfl

theorem ringRx_own (he : etherOf (unTag f) ≠ 0x88F7) (hsup : isSup f = false) (hown : s.ownSource (srcMacOf f) = true) :
    s.ringRx p f 0 = (s.bump (ringBase p) RING_RX_FRAMES).bump (ringBase p) RING_SELF_REMOVED := by
  rw [ringRx_good hup hrx hlen htag hsize hmax rfl, if_neg he, hown, hsup]
  rfl

theorem ringRx_sup (hsup : isSup f = true) (hown : s.ownSource (srcMacOf f) = false) :
    s.ringRx p f 0 = (s.bump (ringBase p) RING_RX_FRAMES).supRx p f 0 := by
  have he : etherOf (unTag f) ≠ 0x88F7 := by
    rw [etherOf_unTag_of_isSup (by omega) hsup]
    decide
  rw [ringRx_good hup hrx hlen htag hsize hmax rfl, if_neg he, hown, hsup]
  rfl

end

end

/-! ### Enumeration frames (R142) -/

section
variable {s : State} {f : List Byte} (ht : s.enumTakes f = true)
include ht

theorem enumRx_pass (hb : s.enumBack f = false) : s.enumRx f = s.enumPass f := by
  simp only [State.enumRx, ht, hb, Bool.not_true, Bool.false_eq_true, if_false]

/-- The return of the own frame ends the run, but in HELD (log entry 60). -/
theorem enumRx_back (hb : s.enumBack f = true) : s.enumRx f = if s.inHeld then s else s.enumDone f := by
  simp only [State.enumRx, ht, hb, Bool.not_true, Bool.false_eq_true, if_false, if_true]

end

section
variable {s : State} (hc : s.Clocked) (p : Fin 2) (f : List Byte)
include hc

theorem exec_ringFrameRx (fcs : Fin 3) : exec (.ringFrameRx p f fcs) s = .next (s.after (s.ringRx p.val f fcs.val)) :=
  run_ring (fun s => s.ringRx p.val f fcs.val) hc

theorem exec_supervisionRx (hsup : isSup f = true) :
    exec (.supervisionRx p f) s = .next (s.after (s.ringRx p.val f 0)) := by
  change execSupervisionRx p f s = _
  rw [execSupervisionRx, run_ring _ hc, if_pos hsup]

theorem exec_enumerationFrameRx : exec (.enumerationFrameRx f) s = .next (s.after (s.enumRx f)) :=
  run_ring (fun s => s.enumRx f) hc

end

/-! ### The obligation -/

/-- Settles O23: each row is one operation on the port or the frame, and each clause is that operation's case. -/
theorem ringPortRows : Obligations.RingPortRows := by
  refine ⟨fun s p hc => ⟨?lock, ?timeout, ?rate, ?send, ?hello, ?miss, ?heal, ?broken⟩,
    fun s p f hc hup hrx hlen => ⟨?time, ?data, ?own, ?untagged, ?supervision, ?pass, ?back⟩⟩
  case lock =>
    intro hst hlock hrate
    rw [exec_portBlockLock hc, blockLock_configured hst hlock hrate rfl]
  case timeout =>
    intro hst hlock hdue
    rw [exec_linkTimeout hc, linkTimeout_due hst hlock hdue]
  case rate =>
    intro r t hown hdue
    rw [exec_rateChangeApply hc, rateChange_own hown hdue rfl]
  case send =>
    intro hh hdue
    rw [exec_helloSend hc, helloSend_due hh hdue]
  case hello =>
    intro f hh hf hst hchg
    rw [exec_helloRx hc, helloRx_noted hh hf hst hchg rfl]
  case miss =>
    intro hst hdue
    rw [exec_helloMiss hc, helloMiss_due hst hdue rfl]
  case heal =>
    intro hst hdue
    rw [exec_healHoldEnd hc, healEnd_due hst hdue]
  case broken =>
    intro cause hst hcause
    rw [exec_ringBreakDeclare hc, breakDeclare_up hst hcause]
  case time =>
    intro htag hsize hmax he
    rw [exec_ringFrameRx hc, Fin.val_zero, ringRx_time hup hrx hlen htag hsize hmax he]
  case data =>
    intro htag hsize hmax he hsup hown
    rw [exec_ringFrameRx hc, Fin.val_zero, ringRx_data hup hrx hlen htag hsize hmax he hsup hown]
  case own =>
    intro htag hsize hmax he hsup hown
    rw [exec_ringFrameRx hc, Fin.val_zero, ringRx_own hup hrx hlen htag hsize hmax he hsup hown]
  case untagged =>
    intro htag hno fcs
    rw [exec_ringFrameRx hc, ringRx_untagged hup hrx hlen htag hno]
  case supervision =>
    intro htag hsize hmax hsup hown
    rw [exec_supervisionRx hc p f hsup, ringRx_sup hup hrx hlen htag hsize hmax hsup hown]
  case pass =>
    intro ht hb
    rw [exec_enumerationFrameRx hc, enumRx_pass ht hb]
  case back =>
    intro ht hb
    rw [exec_enumerationFrameRx hc, enumRx_back ht hb]

end Sys2Proof.Machine

/-! The tables of the ring: the effect of each row under its condition, then what the row answers. -/

namespace Sys2Proof.Machine

/-! ### What is forgotten (R132, R137, R146, R152, R155) -/

section
variable {s : State}

theorem ddForget_due {n : Nat} {e : DupEntry} (he : Tbl.get (fun _ => none) s.ringNet.dup n = some e)
    (hdue : e.at_ + 1000000 * s.get ringWide RING_DD_FORGET_MS ≤ s.uptime) : s.ddForget n = s.setDup n none := by
  simp only [State.ddForget, he, if_pos hdue]

theorem seqFree_due {n c at_ : Nat} (he : Tbl.get (fun _ => none) s.ringNet.txSeq n = some (c, at_))
    (hdue : at_ + 2 * nsPerSec ≤ s.uptime) :
    s.seqFree n = { s with ringNet := { s.ringNet with txSeq := Tbl.put (fun _ => none) s.ringNet.txSeq n none } } := by
  simp only [State.seqFree, he, if_pos hdue]

theorem mapExpire_due {n : Nat} (hin : s.inMap n = true) (hother : n ≠ s.nodeId)
    (hdue : (s.note n).at_ + 3000000 ≤ s.uptime) : s.mapExpire n = s.mapDrop n := by
  rw [State.mapExpire, if_pos ⟨hin, hother, hdue⟩]

theorem segDue_due {n : SegNotice} (hn : firstNotice s.ringNet.notices = some n) (hdue : n.applyAt ≤ s.ring) :
    s.segDue
      = ({ s with ringNet := { s.ringNet with notices := s.ringNet.notices.erase n } } : State).segApply n := by
  simp only [State.segDue, hn, if_neg (Nat.not_lt.mpr hdue)]

/-- The one path of a context whose wait is over may send again. -/
theorem pathHoldEnd_one {c n t : Nat} (hn : n < 256)
    (hpaths : ((s.ringNet.paths.map (·.1)).filter fun k => k / 256 == c) = [256 * c + n])
    (hhold : (s.path c n).hold = some t) (hdue : t ≤ s.uptime) :
    s.pathHoldEnd c = ((s.setPath c n { s.path c n with hold := none, wait := 0 }).headMarks 0).headMarks 1 := by
  have hnode : (256 * c + n) % 256 = n := by omega
  simp only [State.pathHoldEnd, State.each, hpaths, List.foldl_cons, List.foldl_nil, hnode, hhold, if_pos hdue]

/-! ### Supervision frames and node IDs (R141, R142, R145) -/

/-- With no notice to repeat the supervision frame carries none, and the next is due 1 ms later. -/
theorem supervision_plain (hs : s.supervises = true) (hdue : s.ringNet.supAt ≤ s.uptime) (hown : s.ringNet.own = [])
    {t : State} (ht : (s.sendSup none).mapSelf = t) :
    s.supervision = { t with ringNet := { t.ringNet with own := [], supAt := s.uptime + 1000000 } } := by
  simp only [State.supervision, hs, Nat.not_lt.mpr hdue, hown, List.head?_nil, ht, Bool.not_true, Bool.false_eq_true, or_self,
    if_false]

/-- RING_NODE_CFG belongs to no unit that can be absent, fenced or gated. -/
theorem regWrite_nodeCfg (w : Word) : s.regWrite 2 ringWide w = (s.fieldsWrite 2 ringWide w).nodeCfgWritten :=
  regWrite_applies (by decide) rfl rfl (.inl (by decide)) (.inl rfl)

theorem enumExpire_due {r : EnumRun} {e : CmdEntry} {at_ : Nat} {w : Option WaitKind} (hr : s.ringNet.enum = some r)
    (he : s.entry r.key = some e) (hp : e.phase = .executing at_ w) (hdue : at_ + s.bound e ≤ s.uptime) :
    s.enumExpire
      = ({ s with ringNet := { s.ringNet with enum := none } } : State).reply r.key 0x0201
          (enumResult 0 (if s.fixedId then 0 else e.arg 0 1) 1) := by
  simp only [State.enumExpire, hr, he, hp, if_neg (Nat.not_lt.mpr hdue)]

end

/-! ### FOREIGN_CLEAR (R147, R150, R222) -/

/-- No foreign node is known any more: its marks in RING_STAT and TIME_STAT and the list are clear. -/
def State.noForeign (s : State) : State :=
  let t := ((s.set ringWide RING_STAT_FOREIGN 0).set ringWide RING_STAT_SPLIT_AS_TWIN 0).set timeBase TIME_STAT_FOREIGN_PATH 0
  { t with ringNet := { t.ringNet with foreign := [] } }

section
variable {s : State}

theorem foreignClear_early (h : s.uptime < s.ringNet.foreignAt + 3 * nsPerSec) : s.foreignClear = s := by
  rw [State.foreignClear, if_pos (.inr h)]

theorem foreignClear_due (hf : s.flag ringWide RING_STAT_FOREIGN = true)
    (hdue : s.ringNet.foreignAt + 3 * nsPerSec ≤ s.uptime) : s.foreignClear = s.noForeign := by
  have hwaits : ¬ ((!s.flag ringWide RING_STAT_FOREIGN) = true ∨ s.uptime < s.ringNet.foreignAt + 3 * nsPerSec) := by
    simp [hf, hdue]
  rw [State.foreignClear, if_neg hwaits]
  rfl

/-- The list of foreign nodes is no register. -/
theorem noForeign_get (b : Nat) (f : Fld) :
    s.noForeign.get b f
      = (((s.set ringWide RING_STAT_FOREIGN 0).set ringWide RING_STAT_SPLIT_AS_TWIN 0).set timeBase TIME_STAT_FOREIGN_PATH
          0).get b f := rfl

theorem noForeign_foreign : s.noForeign.get ringWide RING_STAT_FOREIGN = 0 := by
  rw [noForeign_get, get_set_word _ _ _ _ _ _ (by decide),
    get_set_bits _ _ _ RING_STAT_SPLIT_AS_TWIN RING_STAT_FOREIGN _ rfl (by decide), get_set_same _ _ _ _ (by decide), Nat.zero_mod]

theorem noForeign_splitAsTwin : s.noForeign.get ringWide RING_STAT_SPLIT_AS_TWIN = 0 := by
  rw [noForeign_get, get_set_word _ _ _ _ _ _ (by decide), get_set_same _ _ _ _ (by decide), Nat.zero_mod]

theorem noForeign_foreignPath : s.noForeign.get timeBase TIME_STAT_FOREIGN_PATH = 0 := by
  rw [noForeign_get, get_set_same _ _ _ _ (by decide), Nat.zero_mod]

theorem noForeign_rd {a : Nat} (hring : a ≠ ringWide + RING_STAT_FOREIGN.off)
    (htime : a ≠ timeBase + TIME_STAT_FOREIGN_PATH.off) : s.noForeign.rd a = s.rd a :=
  (rd_wr_other _ _ htime).trans ((rd_wr_other _ _ hring).trans (rd_wr_other _ _ hring))

theorem noForeign_inv (hi : s.Inv) : s.noForeign.Inv := ⟨hi.1, wr_wf _ _ _ (wr_wf _ _ _ (wr_wf _ _ _ hi.2))⟩

theorem noForeign_calm (hc : s.Calm) : s.noForeign.Calm := hc

end

/-! ### The rows -/

section
variable {s : State} (hc : s.Clocked)
include hc

theorem exec_ddForget (n : Nat) : exec (.ddForget n) s = .next (s.after (s.ddForget n)) := run_ring (fun s => s.ddForget n) hc

theorem exec_seqCounterFree (n : Nat) : exec (.seqCounterFree n) s = .next (s.after (s.seqFree n)) :=
  run_ring (fun s => s.seqFree n) hc

theorem exec_ringMapExpire (node : Fin 256) : exec (.ringMapExpire node) s = .next (s.after (s.mapExpire node.val)) :=
  run_ring (fun s => s.mapExpire node.val) hc

theorem exec_segmentNoticeApply : exec .segmentNoticeApply s = .next (s.after s.segDue) := run_ring State.segDue hc

theorem exec_splitPathHoldEnd (c : Fin 1024) : exec (.splitPathHoldEnd c) s = .next (s.after (s.pathHoldEnd c.val)) :=
  run_ring (fun s => s.pathHoldEnd c.val) hc

theorem exec_supervisionSend : exec .supervisionSend s = .next (s.after s.supervision) := run_ring State.supervision hc

theorem exec_foreignClear : exec .foreignClear s = .next (s.after s.foreignClear) := run_ring State.foreignClear hc

end

section
variable {s : State} (hl : s.Live)
include hl

theorem exec_nodeCfgFixedWrite (id : BitVec 8) :
    exec (.nodeCfgFixedWrite id) s
      = .next (s.after (s.regWrite 2 ringWide (BitVec.ofNat 32 ((s.rd ringWide).toNat / 512 * 512 + 256 + id.toNat)))) :=
  run_live (fun s => s.regWrite 2 ringWide (BitVec.ofNat 32 ((s.rd ringWide).toNat / 512 * 512 + 256 + id.toNat))) hl

theorem exec_enumerationBoundExpire : exec .enumerationBoundExpire s = .next (s.after s.enumExpire) :=
  run_live State.enumExpire hl

end

/-! ### The obligation -/

/-- Settles O24: each row is one operation on a table of the ring, and each clause is that operation's case. -/
theorem ringTableRows : Obligations.RingTableRows := by
  refine ⟨fun s hc => ⟨?duplicates, ?counters, ?map, ?segment, exec_splitPathHoldEnd hc, ?path, ?supervision, ?nodeId,
      ?enumeration⟩,
    fun s hc hcalm hinv hf => ⟨?early, ?due⟩⟩
  case duplicates =>
    intro n e he hdue
    rw [exec_ddForget hc, ddForget_due he hdue]
  case counters =>
    intro n c at_ he hdue
    rw [exec_seqCounterFree hc, seqFree_due he hdue]
  case map =>
    intro node hin hother hdue
    rw [exec_ringMapExpire hc, mapExpire_due hin hother hdue]
  case segment =>
    intro n hn hdue
    rw [exec_segmentNoticeApply hc, segDue_due hn hdue]
  case path => exact fun c n t hn hpaths hhold hdue => pathHoldEnd_one hn hpaths hhold hdue
  case supervision =>
    intro hs hdue hown
    rw [exec_supervisionSend hc, supervision_plain hs hdue hown rfl]
  case nodeId =>
    intro id hheld
    rw [exec_nodeCfgFixedWrite ⟨hc.1, hheld⟩, regWrite_nodeCfg]
  case enumeration =>
    intro r e at_ w hheld hr he hp hdue
    rw [exec_enumerationBoundExpire ⟨hc.1, hheld⟩, enumExpire_due hr he hp hdue]
  case early =>
    intro hearly
    rw [exec_foreignClear hc, foreignClear_early hearly, after_self s hcalm hinv]
  case due =>
    intro hdue
    obtain ⟨hmem, hregs⟩ := noForeign_inv hinv
    have hexec := exec_foreignClear hc
    rw [foreignClear_due hf hdue, after_calm s _ (noForeign_calm hcalm) hmem hregs] at hexec
    exact ⟨_, hexec, noForeign_foreign, noForeign_splitAsTwin, rfl, noForeign_foreignPath, rfl,
      fun _ hring htime => noForeign_rd hring htime⟩

end Sys2Proof.Machine

/-! The commands of groups 0x02 and 0x03: the ring, the MACs, stream contexts and gate lists. -/

namespace Sys2Proof.Machine

section
variable {s : State} {k : CmdKey} {e : CmdEntry}

/-! ### RING_ENUMERATE (R142) -/

theorem completes_ringEnumerate_badParam (h : e.arg 0 1 = 0 ∨ e.arg 0 1 = 255 ∨ 1 < e.arg 1 1 ∨ e.arg 2 2 ≠ 0) :
    s.Completes k e (.ringEnumerate k) 0x0201 4 0x22 [] s :=
  completes_of_done rfl rfl (if_pos h)

section
variable (h0 : e.arg 0 1 ≠ 0) (h255 : e.arg 0 1 ≠ 255) (hmode : e.arg 1 1 ≤ 1) (hz : e.arg 2 2 = 0)
include h0 h255 hmode hz

theorem waits_ringEnumerate (hup : s.ringUp 0 = true) :
    s.Waits k e (.ringEnumerate k) 0x0201 4 (.unit (e.arg 0 1) (e.arg 1 1)) (s.enumStart (e.arg 0 1) (e.arg 1 1) k) :=
  waits_of_wait rfl rfl ((if_neg (by omega)).trans (if_neg (by simp [hup])))

theorem completes_ringEnumerate_down (hdown : s.ringUp 0 = false) :
    s.Completes k e (.ringEnumerate k) 0x0201 4 0x24 (enumResult 0 0 0) s :=
  completes_of_done rfl rfl ((if_neg (by omega)).trans (if_pos (by simp [hdown])))

end

/-! ### RING_PORT_CONFIG (R129, R156) -/

theorem completes_ringPortConfig_badParam (h : ∃ i < 4, 1 < e.arg i 1) :
    s.Completes k e (.ringPortConfig k) 0x0202 4 0x22 [] s :=
  completes_of_done rfl rfl (if_pos (by simpa using h))

section
variable (hok : ∀ i < 4, e.arg i 1 ≤ 1)
include hok

theorem completes_ringPortConfig_loop (hst : s.pstate e.idx = 4) : s.Completes k e (.ringPortConfig k) 0x0202 4 0x24 [] s :=
  completes_of_done rfl rfl ((if_neg (by simpa using hok)).trans (if_pos hst))

/-- A change of the rate alone leaves RATE as it is and is announced. -/
theorem completes_ringPortConfig_announced (hst : s.pstate e.idx ≠ 4) (hrate : s.rateOnly e = true) :
    s.Completes k e (.ringPortConfig k) 0x0202 4 0 []
      ((s.regWrite 2 (ringBase e.idx) (BitVec.ofNat 32 (e.arg 0 1 + 2 * s.get (ringBase e.idx) RING_PCTRL_RATE
        + 4 * e.arg 2 1 + 8 * e.arg 3 1))).announceRate e.idx (e.arg 1 1)) :=
  completes_of_done rfl rfl ((if_neg (by simpa using hok)).trans ((if_neg hst).trans (if_pos hrate)))

theorem completes_ringPortConfig (hst : s.pstate e.idx ≠ 4) (hrate : s.rateOnly e = false) :
    s.Completes k e (.ringPortConfig k) 0x0202 4 0 []
      (s.regWrite 2 (ringBase e.idx) (BitVec.ofNat 32 (e.arg 0 1 + 2 * e.arg 1 1 + 4 * e.arg 2 1 + 8 * e.arg 3 1))) :=
  completes_of_done rfl rfl ((if_neg (by simpa using hok)).trans ((if_neg hst).trans (if_neg (by simp [hrate]))))

end

/-! ### RING_LOOP_TEST (R156) -/

/-- A parameter of RING_LOOP_TEST is out of its range. -/
def State.loopBad (s : State) (e : CmdEntry) : Prop :=
  e.arg 0 1 = 0 ∨ 2 < e.arg 0 1 ∨ 1 < e.arg 1 1 ∨ e.arg 2 2 < 64 ∨ s.get (ringBase e.idx) RING_MAXFRM_BYTES < e.arg 2 2
    ∨ e.arg 4 4 = 0 ∨ 1000000 < e.arg 4 4

theorem loopBegin_badParam (h : s.loopBad e) : s.loopBegin e = .done 0x22 [] s := if_pos h

section
variable (hok : ¬ s.loopBad e)
include hok

theorem loopBegin_portUp (hforce : e.arg 1 1 = 0) (hup : ∃ p ∈ loopPorts e.idx (e.arg 0 1), s.ringUp p = true) :
    s.loopBegin e = .done 0x0203 [] s :=
  (if_neg hok).trans (if_pos ⟨hforce, List.any_eq_true.mpr hup⟩)

/-- With FORCE, or where no port of the test is UP, the ports are taken. -/
theorem loopBegin_taken (h : e.arg 1 1 = 1 ∨ ∀ p ∈ loopPorts e.idx (e.arg 0 1), s.ringUp p = false) :
    s.loopBegin e
      = .wait (.unit e.idx (e.arg 0 1))
          ((loopPorts e.idx (e.arg 0 1)).foldl (fun (s : State) p => s.loopTake p (e.arg 0 1)) s) := by
  have hfree : ¬ (e.arg 1 1 = 0 ∧ (loopPorts e.idx (e.arg 0 1)).any s.ringUp = true) := by
    rintro ⟨hzero, hany⟩
    obtain ⟨p, hp, hup⟩ := List.any_eq_true.mp hany
    rcases h with hone | hdown
    · omega
    · simp [hdown p hp] at hup
  exact (if_neg hok).trans (if_neg hfree)

end

section
variable (intact errors lo hi : BitVec 32)

/-- A RING_LOOP_TEST that does not wait yet runs as any command. -/
theorem exec_ringLoopTest_first {n : Nat} (h : s.Executes k 0x0203 n e) :
    exec (.ringLoopTest k intact errors lo hi) s = s.run fun s => s.command k 0x0203 (plen 8) State.loopBegin := by
  obtain ⟨⟨hup, hheld⟩, hentry, -, -, -, at_, hphase⟩ := h
  have hwait : s.waiting k 0x0203 = none := by simp only [State.waiting, hentry, hphase]
  change execRingLoopTest k intact errors lo hi s = _
  rw [execRingLoopTest, run_up _ hup, run_up _ hup, hheld, hwait]
  rfl

theorem completes_ringLoopTest {st : Nat} {res : List Byte} {t : State} (h : s.loopBegin e = .done st res t) :
    s.Completes k e (.ringLoopTest k intact errors lo hi) 0x0203 8 st res t :=
  fun hexec => completes_of_done (exec_ringLoopTest_first intact errors lo hi hexec) rfl h hexec

theorem waits_ringLoopTest {w : WaitKind} {t : State} (h : s.loopBegin e = .wait w t) :
    s.Waits k e (.ringLoopTest k intact errors lo hi) 0x0203 8 w t :=
  fun at_ hexec => waits_of_wait (exec_ringLoopTest_first intact errors lo hi hexec) rfl h at_ hexec

/-- Met again while it waits, the test ends with what its frames found. -/
theorem exec_ringLoopTest_waiting (hl : s.Live) {p mode : Nat} (hw : s.waiting k 0x0203 = some (e, p, mode)) :
    exec (.ringLoopTest k intact errors lo hi) s
      = .next (s.after (s.loopEnd e p mode intact.toNat errors.toNat lo.toNat hi.toNat)) := by
  change execRingLoopTest k intact errors lo hi s = _
  rw [execRingLoopTest, run_up _ hl.1, hl.2, hw]
  rfl

end

/-! ### RING_PORT_SET (R156) -/

theorem completes_ringPortSet_port (hkind : e.ukind = 9) (hlen : e.ps.length = 16) :
    s.Completes k e (.ringPortSet k) 0x8200 16 0 []
      (s.regWrites 2 [(ringBase e.idx + 0x18, e.arg 0 4), (ringBase e.idx + 0x14, e.arg 4 4),
        (ringBase e.idx + 0x10, e.arg 8 4), (ringBase e.idx, e.arg 12 4)]) :=
  completes_of_done rfl rfl ((if_pos hkind).trans (if_neg (not_not.mpr hlen)))

theorem completes_ringPortSet_wide (hkind : e.ukind ≠ 9) (hlen : e.ps.length = 20) :
    s.Completes k e (.ringPortSet k) 0x8200 20 0 [] (s.regWrites 2 (e.images (wordOffs 0x2F000 5))) :=
  completes_of_done rfl rfl ((if_neg hkind).trans (if_neg (not_not.mpr hlen)))

/-- The images of a port do not fit the ring-wide set. -/
theorem completes_ringPortSet_port_badLength (hkind : e.ukind = 9) (hlen : e.ps.length = 20) :
    s.Completes k e (.ringPortSet k) 0x8200 20 0x21 [] s :=
  completes_of_done rfl rfl ((if_pos hkind).trans (if_pos (by omega)))

theorem completes_ringPortSet_wide_badLength (hkind : e.ukind ≠ 9) (hlen : e.ps.length = 16) :
    s.Completes k e (.ringPortSet k) 0x8200 16 0x21 [] s :=
  completes_of_done rfl rfl ((if_neg hkind).trans (if_pos (by omega)))

/-! ### LMAC_CONFIG, STATS_READ (R182) -/

theorem completes_lmacConfig_badParam (h : lmacConfigOk e = false) : s.Completes k e (.lmacConfig k) 0x0303 16 0x22 [] s :=
  completes_of_done rfl rfl (if_pos (by simp [h]))

/-- The words of LMAC_CONFIG that a ring port and a local port share. -/
def CmdEntry.macWrites (e : CmdEntry) : List (Nat × Nat) :=
  [(macBase e.port, 3 * e.arg 0 1), (macBase e.port + 8, b2n (e.arg 1 1 != 0) + 2 * b2n (e.arg 1 1 == 2) + 4 * e.arg 2 1
    + 2 ^ 8 * e.arg 3 1 + 2 ^ 16 * e.arg 14 1 + 2 ^ 24 * e.arg 15 1)]

/-- The words of LMAC_CONFIG that a local port alone has. -/
def CmdEntry.pauseWrites (e : CmdEntry) : List (Nat × Nat) :=
  [(macBase e.port + 0x10, e.arg 4 1 + 2 * e.arg 5 1 + 2 ^ 16 * e.arg 8 2),
    (macBase e.port + 0x14, e.arg 10 2 + 2 ^ 16 * e.arg 12 2), (macBase e.port + 0x24, e.arg 6 2)]

theorem completes_lmacConfig (h : lmacConfigOk e = true) :
    s.Completes k e (.lmacConfig k) 0x0303 16 0 []
      (s.regWrites 2 (if e.ukind = 9 then e.macWrites else e.macWrites ++ e.pauseWrites)) :=
  completes_of_done rfl rfl (if_neg (by simp [h]))

theorem completes_statsRead_ctx (hkind : e.ukind = 11) :
    s.Completes k e (.statsRead k) 0x0304 0 0 (s.shown (wordOffs (ctxBase e.idx + 0x1C) 9)) s :=
  completes_of_done rfl rfl (if_pos hkind)

theorem completes_statsRead_port (hkind : e.ukind ≠ 11) :
    s.Completes k e (.statsRead k) 0x0304 0 0 (s.shown (wordOffs (macBase e.port + 0x40) 22 ++ [macBase e.port + 0x1C])
      ++ if e.ukind = 9 then s.shown (wordOffs (ringBase e.idx + 0x40) 20) else []) s :=
  completes_of_done rfl rfl (if_neg hkind)

/-! ### STREAM_OPEN, STREAM_CLOSE, STREAM_SET (R210) -/

section
variable (hidx : e.idx = 0)
include hidx

theorem completes_streamOpen_zero : s.Completes k e (.streamOpen k) 0x0300 16 0x0309 [] s :=
  completes_of_done rfl rfl (if_pos hidx)

theorem completes_streamClose_zero : s.Completes k e (.streamClose k) 0x0301 0 0x0309 [] s :=
  completes_of_done rfl rfl (if_pos hidx)

/-- Of context 0 only TC, WEIGHT and QDEPTH are set. -/
theorem completes_streamSet_zero :
    s.Completes k e (.streamSet k) 0x8300 28 0 [] (s.regWrites 2
      [(ctxBase e.idx, (putBits (putBits (s.rd (ctxBase e.idx)) 4 3 (bitsOf (BitVec.ofNat 32 (e.arg 0 4)) 4 3)) 16 8
        (bitsOf (BitVec.ofNat 32 (e.arg 0 4)) 16 8)).toNat), (ctxBase e.idx + 8, e.arg 8 4)]) :=
  completes_of_done rfl rfl (if_pos hidx)

end

section
variable (hidx : e.idx ≠ 0)
include hidx

theorem completes_streamOpen_open (hen : s.flag (ctxBase e.idx) CTX_CTRL_EN = true) :
    s.Completes k e (.streamOpen k) 0x0300 16 0x24 [] s :=
  completes_of_done rfl rfl ((if_neg hidx).trans (if_pos hen))

theorem completes_streamOpen_badParam (hen : s.flag (ctxBase e.idx) CTX_CTRL_EN = false) (hok : streamOpenOk e = false) :
    s.Completes k e (.streamOpen k) 0x0300 16 0x22 [] s :=
  completes_of_done rfl rfl ((if_neg hidx).trans ((if_neg (by simp [hen])).trans (if_pos (by simp [hok]))))

theorem completes_streamOpen (hen : s.flag (ctxBase e.idx) CTX_CTRL_EN = false) (hok : streamOpenOk e = true) :
    s.Completes k e (.streamOpen k) 0x0300 16 0 [] (s.streamOpen e) :=
  completes_of_done rfl rfl ((if_neg hidx).trans ((if_neg (by simp [hen])).trans (if_neg (by simp [hok]))))

theorem completes_streamClose :
    s.Completes k e (.streamClose k) 0x0301 0 0 (leBytes 4 ((s.cq e.idx).filter fun f => f.todo != 0).length)
      (s.ctxClose e.idx) :=
  completes_of_done rfl rfl (if_neg hidx)

theorem completes_streamSet :
    s.Completes k e (.streamSet k) 0x8300 28 0 [] (s.regWrites 2 (e.images (wordOffs (ctxBase e.idx) 7))) :=
  completes_of_done rfl rfl (if_neg hidx)

end

/-! ### METER_SET (R210) -/

/-- The parameters of METER_SET are in range: no rate above the peak, and bursts that hold the longest frame. -/
def State.meterFits (s : State) (e : CmdEntry) : Prop :=
  e.arg 0 4 ≤ e.arg 4 4 ∧ s.largestMax (s.get (ctxBase e.idx) CTX_CTRL_PORTS) ≤ e.arg 8 4 ∧ e.arg 8 4 ≤ burstMax
    ∧ s.largestMax (s.get (ctxBase e.idx) CTX_CTRL_PORTS) ≤ e.arg 12 4 ∧ e.arg 12 4 ≤ burstMax ∧ e.arg 16 1 < 32
    ∧ e.arg 17 3 = 0

/-- What METER_SET refuses is what does not fit. -/
theorem meterFits_iff {most : Nat} (hmost : s.largestMax (s.get (ctxBase e.idx) CTX_CTRL_PORTS) = most) :
    s.meterFits e ↔ ¬ (e.arg 4 4 < e.arg 0 4 ∨ decide (e.arg 8 4 < most ∨ burstMax < e.arg 8 4) = true
      ∨ decide (e.arg 12 4 < most ∨ burstMax < e.arg 12 4) = true ∨ 32 ≤ e.arg 16 1 ∨ e.arg 17 3 ≠ 0) := by
  subst hmost
  simp only [State.meterFits, decide_eq_true_eq]
  omega

theorem completes_meterSet_badParam (h : ¬ s.meterFits e) : s.Completes k e (.meterSet k) 0x8301 20 0x22 [] s :=
  completes_of_done rfl rfl (if_pos (not_not.mp (mt (meterFits_iff rfl).mpr h)))

theorem completes_meterSet (h : s.meterFits e) :
    s.Completes k e (.meterSet k) 0x8301 20 0 [] (s.regWrites 2 [(ctxBase e.idx + 0xC, e.arg 0 4),
      (ctxBase e.idx + 0x10, e.arg 4 4),
      (ctxBase e.idx + 0x14, min 65535 (in64 (e.arg 8 4)) + 2 ^ 16 * min 65535 (in64 (e.arg 12 4))),
      (ctxBase e.idx + 0x18, e.arg 16 1)]) :=
  completes_of_done rfl rfl (if_neg ((meterFits_iff rfl).mp h))

/-! ### GCL_LOAD (R203, R207, R210) -/

section
variable {n : Nat} (hmod : n % 8 = 0) (hlo : 24 ≤ n)
include hmod hlo

theorem gclLength_ok : (n % 8 == 0 && decide (24 ≤ n)) = true := by simp [hmod, hlo]

theorem completes_gclLoad_badCount (h : e.arg 14 2 = 0 ∨ 256 < e.arg 14 2) :
    s.Completes k e (.gclLoad k) 0x0302 n 0x22 [] s :=
  completes_of_done rfl (gclLength_ok hmod hlo) (if_pos h)

section
variable (h1 : 1 ≤ e.arg 14 2) (h256 : e.arg 14 2 ≤ 256)
include h1 h256

theorem completes_gclLoad_badLength (hlen : e.ps.length ≠ 24 + 8 * e.arg 14 2) :
    s.Completes k e (.gclLoad k) 0x0302 n 0x21 [] s :=
  completes_of_done rfl (gclLength_ok hmod hlo) ((if_neg (by omega)).trans (if_pos hlen))

section
variable (hlen : e.ps.length = 24 + 8 * e.arg 14 2)
include hlen

theorem completes_gclLoad_badParam (hok : gclOk e (e.arg 14 2) = false) :
    s.Completes k e (.gclLoad k) 0x0302 n 0x22 [] s :=
  completes_of_done rfl (gclLength_ok hmod hlo)
    ((if_neg (by omega)).trans ((if_neg (not_not.mpr hlen)).trans (if_pos (by simp [hok]))))

variable (hok : gclOk e (e.arg 14 2) = true)
include hok

theorem completes_gclLoad_noTime (hv : s.timeValid = false) : s.Completes k e (.gclLoad k) 0x0302 n 0x40 [] s :=
  completes_of_done rfl (gclLength_ok hmod hlo)
    ((if_neg (by omega)).trans ((if_neg (not_not.mpr hlen)).trans ((if_neg (by simp [hok])).trans (if_pos (by simp [hv])))))

variable (hv : s.timeValid = true)
include hv

theorem completes_gclLoad_latched (hl : s.flag (schedBase e.port) SCHED_PCTRL_SWAP_LATCHED = true) :
    s.Completes k e (.gclLoad k) 0x0302 n 0x030A [] s :=
  completes_of_done rfl (gclLength_ok hmod hlo)
    ((if_neg (by omega)).trans ((if_neg (not_not.mpr hlen)).trans ((if_neg (by simp [hok])).trans
      ((if_neg (by simp [hv])).trans (if_pos hl)))))

/-- The list that the swap takes is loaded, and the swap's moment returned. -/
theorem completes_gclLoad (hl : s.flag (schedBase e.port) SCHED_PCTRL_SWAP_LATCHED = false) {t : State}
    (ht : s.gclLoad e.port e (e.arg 14 2) = t) :
    s.Completes k e (.gclLoad k) 0x0302 n 0 (stampBytes (t.eport e.port).swapAt ++ leBytes 2 0) t := by
  subst ht
  exact completes_of_done rfl (gclLength_ok hmod hlo)
    ((if_neg (by omega)).trans ((if_neg (not_not.mpr hlen)).trans ((if_neg (by simp [hok])).trans
      ((if_neg (by simp [hv])).trans (if_neg (by simp [hl]))))))

end

end

end

end

/-! ### The obligation -/

/-- Settles O53: each clause is one command's case. -/
theorem ringCommands : Obligations.RingCommands := by
  refine ⟨fun s k e => ⟨?status, ⟨completes_ringEnumerate_badParam, ?enumerate⟩, completes_ringPortConfig_badParam,
      ?portConfig, ?loopTaken, ?loopRefused, completes_ringPortSet_port_badLength, completes_ringPortSet_wide_badLength,
      completes_lmacConfig_badParam, ?loopEnds, completes_ringPortSet_port, completes_ringPortSet_wide,
      completes_lmacConfig, completes_statsRead_ctx, completes_statsRead_port⟩,
    fun s k e n => ⟨?contextZero, ?context, completes_streamSet_zero, ⟨completes_meterSet_badParam, completes_meterSet⟩,
      ?gclRefused, ?gclLoad⟩⟩
  case status => exact completes_of_done rfl rfl rfl
  case enumerate =>
    intro h0 h255 hmode hz
    exact ⟨waits_ringEnumerate h0 h255 hmode hz, completes_ringEnumerate_down h0 h255 hmode hz⟩
  case portConfig =>
    intro hok
    exact ⟨completes_ringPortConfig_announced hok, completes_ringPortConfig hok, completes_ringPortConfig_loop hok⟩
  case loopTaken =>
    intro intact errors lo hi mode ps hmode hforce hmin hmax hframes hlimit hfree
    have hok : ¬ s.loopBad e := by unfold State.loopBad; omega
    exact waits_ringLoopTest _ _ _ _ (loopBegin_taken hok hfree)
  case loopRefused =>
    intro intact errors lo hi bad
    exact ⟨fun hbad => completes_ringLoopTest _ _ _ _ (loopBegin_badParam hbad),
      fun hok hforce hup => completes_ringLoopTest _ _ _ _ (loopBegin_portUp hok hforce hup)⟩
  case loopEnds => exact fun intact errors lo hi p mode hl hw => exec_ringLoopTest_waiting intact errors lo hi hl hw
  case contextZero => exact fun hidx => ⟨completes_streamOpen_zero hidx, completes_streamClose_zero hidx⟩
  case context =>
    exact fun hidx => ⟨completes_streamOpen_open hidx, completes_streamOpen_badParam hidx, completes_streamOpen hidx,
      completes_streamClose hidx, completes_streamSet hidx⟩
  case gclRefused =>
    intro hmod hlo
    exact ⟨completes_gclLoad_badCount hmod hlo, completes_gclLoad_badLength hmod hlo, fun h1 h256 hlen =>
      ⟨completes_gclLoad_badParam hmod hlo h1 h256 hlen, completes_gclLoad_noTime hmod hlo h1 h256 hlen,
        completes_gclLoad_latched hmod hlo h1 h256 hlen⟩⟩
  case gclLoad =>
    intro m t h1 h256 hn hlen hok hv hl
    exact completes_gclLoad (by omega) (by omega) h1 h256 (hlen.trans hn) hok hv hl rfl

end Sys2Proof.Machine

/-! The MACs and PAUSE: the effect of each row under its condition, then what the row answers. -/

namespace Sys2Proof.Machine

/-! ### Frames that arrive (R161, R168, R171) -/

section
variable {s : State} {p : Nat} {m : MacRx}

/-- An mPacket of a bad length is counted as that and is nothing else. -/
theorem fragRx_bad {t : State} (h : s.lengthBad p m.bytes m.check = some t) (f : State → State) : s.fragRx p m f = t := by
  simp only [State.fragRx, h]

theorem fragRx_good (h : s.lengthBad p m.bytes m.check = none) (f : State → State) : s.fragRx p m f = f s := by
  simp only [State.fragRx, h]

section
variable (hr : s.receives p = true)
include hr

theorem macRx_whole (hd : m.smd = 0xD5) : s.macRx p m = s.macJudge p m.bytes m.check := by
  simp only [State.macRx, hr, hd, Bool.not_true, Bool.false_eq_true, if_false, if_true]

section
variable (hd : m.smd ≠ 0xD5)
include hd

theorem macRx_start {k : Nat} (hs : smdIndex smdStarts m.smd = some k) :
    s.macRx p m = s.fragRx p m fun s => s.startRx p k m := by
  simp only [State.macRx, hr, hd, hs, Bool.not_true, Bool.false_eq_true, if_false]

variable (hs : smdIndex smdStarts m.smd = none)
include hs

theorem macRx_cont {k : Nat} (hc : smdIndex smdConts m.smd = some k) :
    s.macRx p m = s.fragRx p m fun s => s.contRx p k m := by
  simp only [State.macRx, hr, hd, hs, hc, Bool.not_true, Bool.false_eq_true, if_false]

/-- A delimiter of no frame, no mPacket and no verification is an SMD error. -/
theorem macRx_unknown (hc : smdIndex smdConts m.smd = none) (hv : m.smd ≠ 0x07) (hw : m.smd ≠ 0x19) :
    s.macRx p m = s.bump (macBase p) MAC_SMD_ERR := by
  simp only [State.macRx, hr, hd, hs, hc, hv, hw, Bool.not_true, Bool.false_eq_true, or_self, if_false]

end

end

end

/-! ### The line of an egress port (R168, R169, R192, R199) -/

section
variable {s : State} {p : Nat}

section
variable (hidle : (s.eport p).line = none)
include hidle

theorem egressStart_none (hk : s.pick p = none) : s.egressStart p = s := by
  simp only [State.egressStart, hidle, hk, Option.isSome_none, Bool.false_eq_true, if_false]

theorem egressStart_cand {tc : Nat} {c : Cand} (hk : s.pick p = some (tc, .cand c)) :
    s.egressStart p = s.startCand p tc c := by
  simp only [State.egressStart, hidle, hk, Option.isSome_none, Bool.false_eq_true, if_false]

theorem egressStart_ctl {tc : Nat} {f : CtlFrame} (hk : s.pick p = some (tc, .ctl f)) :
    s.egressStart p = s.startCtl p f := by
  simp only [State.egressStart, hidle, hk, Option.isSome_none, Bool.false_eq_true, if_false]

/-- The preempted frame goes on, in a new mPacket. -/
theorem egressStart_cont {tc : Nat} {l : Line} (hk : s.pick p = some (tc, .cont l)) :
    s.egressStart p
      = s.setEport p { s.eport p with line := some { l with since := s.uptime }, held := none } := by
  simp only [State.egressStart, hidle, hk, Option.isSome_none, Bool.false_eq_true, if_false]

end

section
variable {l : Line} (hline : (s.eport p).line = some l)
include hline

theorem egressEnd_out (hout : (8 + (l.bytes.length - l.sent) + 4) * s.byteTime p ≤ (s.uptime - l.since) * 100) :
    s.egressEnd p = (s.lineEnd p).boundary p := by
  have hall : s.lineOut p l = true := decide_eq_true hout
  simp only [State.egressEnd, hline, hall, if_true]

/-- A preemptable frame that something waits for ends with an mCRC where both parts of it are long enough. -/
theorem preemptLine_due (hex : l.express = false) (hact : s.preemptActive p = true) (hwant : s.lineWanted p = true)
    (hmin : 64 * (1 + s.get (macBase p) MAC_PREEMPT_ADD_FRAG) - 4 ≤ s.sentNow p l)
    (hrest : 64 ≤ l.bytes.length + 4 - (l.sent + s.sentNow p l)) {n : Nat} (hn : s.sentNow p l = n) {t : State}
    (ht : ((s.setEport p { s.eport p with line := none, held := some { l with sent := l.sent + n, frags := l.frags + 1 } }).emit
        (.frame p l.smd l.frag ((l.bytes.drop l.sent).take n ++ checkBytes 0xFFFF (l.bytes.take (l.sent + n))))).bump
          (macBase p) MAC_FRAG_TX = t) :
    s.preemptLine p = if (s.eport p).hold then t.bump (schedBase p) SCHED_HOLDS else t := by
  subst hn ht
  simp only [State.preemptLine, hline, hex, hact, hwant, Nat.not_lt.mpr hmin, Nat.not_lt.mpr hrest, Bool.not_true,
    Bool.false_eq_true, or_self, if_false]

end

end

/-! ### Verification (R172) -/

section
variable {s : State} {p : Nat}

theorem verifyRx_enabled (h : s.flag (macBase p) MAC_PREEMPT_EN = true) :
    s.verifyRx p = s.sendOwn p 0x19 .none (List.replicate 60 0#8) := if_pos h

theorem verifyRx_disabled (h : s.flag (macBase p) MAC_PREEMPT_EN = false) :
    s.verifyRx p = s.bump (macBase p) MAC_SMD_ERR := if_neg (by simp [h])

theorem respondRx_disabled (h : s.flag (macBase p) MAC_PREEMPT_EN = false) :
    s.respondRx p = s.bump (macBase p) MAC_SMD_ERR := if_pos (by simp [h])

/-- The answer to a verify mPacket that is awaited puts preemption in use. -/
theorem respondRx_awaited (h : s.flag (macBase p) MAC_PREEMPT_EN = true)
    (hst : s.get (macBase p) MAC_PSTAT_VERIFY_STATE = 2) :
    s.respondRx p = (s.set (macBase p) MAC_PSTAT_VERIFY_STATE 3).set (macBase p) MAC_PSTAT_ACTIVE 1 := by
  simp only [State.respondRx, h, hst, Bool.not_true, Bool.false_eq_true, if_false, if_true]

theorem verifyTimeout_due (hst : s.get (macBase p) MAC_PSTAT_VERIFY_STATE = 2) (hsent : s.verifyWaits p = false)
    (hdue : (s.mac p).verifyAt + 1000000 * s.get (macBase p) MAC_PREEMPT_VERIFY_MS ≤ s.uptime) :
    s.verifyTimeout p
      = if (s.mac p).tries < s.get (macBase p) MAC_PREEMPT_VERIFY_LIMIT then s.sendVerify p
        else (s.set (macBase p) MAC_PSTAT_VERIFY_STATE 4).raise .preemptVerifyFail (srcPort p) 0
          (leBytes 1 (s.mac p).tries) := by
  simp only [State.verifyTimeout, hst, hsent, Nat.not_lt.mpr hdue, ne_eq, not_true, Bool.false_eq_true, or_self, if_false]

end

/-! ### PAUSE (R174, R176, R178) -/

section
variable {s : State} {p : Nat}

theorem pauseRx_taken (hr : s.receives p = true) (hen : s.flag (macBase p) MAC_PAUSE_RX_EN = true) (q : BitVec 16) :
    s.pauseRx p q.toNat
      = (s.bump (macBase p) MAC_PAUSE_RX).setPause p (if q = 0 then 0 else s.uptime + s.quantaNs p q.toNat) := by
  have hzero : q.toNat = 0 ↔ q = 0 := (BitVec.toNat_eq (y := 0)).symm
  simp only [State.pauseRx, hr, hen, hzero, Bool.not_true, Bool.false_eq_true, if_false]

theorem pauseRx_ignored (hr : s.receives p = true) (hen : s.flag (macBase p) MAC_PAUSE_RX_EN = false) (q : Nat) :
    s.pauseRx p q = s.bump (macBase p) MAC_PAUSE_IGNORED := by
  simp only [State.pauseRx, hr, hen, Bool.not_true, Bool.not_false, Bool.false_eq_true, if_false, if_true]

theorem pauseOver_due (hpaused : (s.mac p).pauseEnd ≠ 0) (hdue : (s.mac p).pauseEnd ≤ s.uptime) :
    s.pauseOver p = s.setPause p 0 := if_pos ⟨hpaused, hdue⟩

section
variable (hsend : s.canSend p = true) (hen : s.flag (macBase p) MAC_PAUSE_TX_EN = true)
include hsend hen

theorem pauseXoff_reached (hx : (s.mac p).xoff = false)
    (hlevel : 1024 * s.get (macBase p) MAC_PAUSE_MARK_XOFF_KIB ≤ s.rxLevel p) :
    s.pauseXoff p = s.sendPause p (s.txQuanta p) := if_pos ⟨hsend, hen, by rw [hx]; rfl, hlevel⟩

theorem pauseRefresh_due (hx : (s.mac p).xoff = true)
    (hlevel : 1024 * s.get (macBase p) MAC_PAUSE_MARK_XON_KIB ≤ s.rxLevel p)
    (hdue : (s.mac p).pauseAt + s.quantaNs p (s.txQuanta p) / 2 ≤ s.uptime) :
    s.pauseRefresh p = s.sendPause p (s.txQuanta p) := if_pos ⟨hsend, hen, hx, hlevel, hdue⟩

theorem pauseXon_reached (hx : (s.mac p).xoff = true)
    (hlevel : s.rxLevel p < 1024 * s.get (macBase p) MAC_PAUSE_MARK_XON_KIB) :
    s.pauseXon p = s.sendPause p 0 := if_pos ⟨hsend, hen, hx, hlevel⟩

end

/-! ### Local links (R179) -/

/-- With auto-negotiation off no control word counts as half duplex. The places of the word's bits are the model's choice
(log entry 27). -/
theorem lmacControl_noAn (h : s.flag (macBase p) LMAC_USX_AN_EN = false) (w : Nat) :
    s.lmacControl p w
      = ((((s.set (macBase p) LMAC_USX_LINK (w / 32768 % 2)).set (macBase p) LMAC_USX_SPEED (usxSpeed (w / 512 % 8))).set
          (macBase p) LMAC_USX_DUPLEX_FULL (w / 4096 % 2)).set (macBase p) LMAC_USX_AN_DONE 1).lmacApply p := by
  simp only [State.lmacControl, h, Bool.false_eq_true, false_and, if_false]

end

/-! ### The rows -/

section
variable {s : State} {p : Fin 6} (hp : s.PortRuns p.val)
include hp

theorem exec_macFrameRx (m : MacRx) : exec (.macFrameRx p m) s = .next (s.after (s.macRx p.val m)) :=
  run_port p.val (fun s => s.macRx p.val m) hp

/-- An mPacket of a preemptable frame has its own effect where its length is sound. -/
theorem exec_macFrameRx_frag {m : MacRx} {f : State → State} (hf : s.macRx p.val m = s.fragRx p.val m f) :
    (∀ t, s.lengthBad p.val m.bytes m.check = some t → exec (.macFrameRx p m) s = .next (s.after t))
    ∧ (s.lengthBad p.val m.bytes m.check = none → exec (.macFrameRx p m) s = .next (s.after (f s))) := by
  rw [exec_macFrameRx hp, hf]
  exact ⟨fun t hbad => by rw [fragRx_bad hbad], fun hgood => by rw [fragRx_good hgood]⟩

theorem exec_egressFrameStart : exec (.egressFrameStart p) s = .next (s.after (s.egressStart p.val)) :=
  run_port p.val (fun s => s.egressStart p.val) hp

theorem exec_egressFrameEnd : exec (.egressFrameEnd p) s = .next (s.after (s.egressEnd p.val)) :=
  run_port p.val (fun s => s.egressEnd p.val) hp

theorem exec_mpacketPreempt : exec (.mpacketPreempt p) s = .next (s.after (s.preemptLine p.val)) :=
  run_port p.val (fun s => s.preemptLine p.val) hp

theorem exec_verifyRx (hr : s.receives p.val = true) : exec (.verifyRx p) s = .next (s.after (s.verifyRx p.val)) := by
  change execVerifyRx p s = _
  rw [execVerifyRx, run_port _ _ hp, if_pos hr]

theorem exec_respondRx (hr : s.receives p.val = true) : exec (.respondRx p) s = .next (s.after (s.respondRx p.val)) := by
  change execRespondRx p s = _
  rw [execRespondRx, run_port _ _ hp, if_pos hr]

theorem exec_verifyTimeout : exec (.verifyTimeout p) s = .next (s.after (s.verifyTimeout p.val)) :=
  run_port p.val (fun s => s.verifyTimeout p.val) hp

end

section
variable {s : State} {l : Fin 4}

theorem exec_pauseTimerExpire (hu : s.sys.up = true) :
    exec (.pauseTimerExpire l) s = .next (s.after (s.pauseOver (l.val + 2))) :=
  run_up (fun s => s.pauseOver (l.val + 2)) hu

theorem exec_lmacLinkChange (hu : s.sys.up = true) (w : BitVec 16) :
    exec (.lmacLinkChange l w) s = .next (s.after (s.lmacControl (l.val + 2) w.toNat)) :=
  run_up (fun s => s.lmacControl (l.val + 2) w.toNat) hu

variable (hl : s.Live)
include hl

theorem exec_pauseRx (q : BitVec 16) : exec (.pauseRx l q) s = .next (s.after (s.pauseRx (l.val + 2) q.toNat)) :=
  run_live (fun s => s.pauseRx (l.val + 2) q.toNat) hl

theorem exec_pauseXoff : exec (.pauseXoff l) s = .next (s.after (s.pauseXoff (l.val + 2))) :=
  run_live (fun s => s.pauseXoff (l.val + 2)) hl

theorem exec_pauseRefresh : exec (.pauseRefresh l) s = .next (s.after (s.pauseRefresh (l.val + 2))) :=
  run_live (fun s => s.pauseRefresh (l.val + 2)) hl

theorem exec_pauseXon : exec (.pauseXon l) s = .next (s.after (s.pauseXon (l.val + 2))) :=
  run_live (fun s => s.pauseXon (l.val + 2)) hl

end

/-! ### The obligation -/

/-- Settles O25: each row is one operation on the port's MAC or its line, and each clause is that operation's case. -/
theorem macRows : Obligations.MacRows := by
  refine ⟨fun s p hp => ⟨fun m hr => ⟨?whole, ?start, ?cont, ?unknown⟩, ?idle, ?cand, ?ctl, ?resumed, ?out, ?preempt,
      ?verify, ?disabled, ?respond, ?timeout⟩,
    fun s l hl => ⟨?pause, ?ignored, ?expired, ?xoff, ?refresh, ?xon, ?link⟩⟩
  case whole =>
    intro hd
    rw [exec_macFrameRx hp, macRx_whole hr hd]
  case start =>
    intro k hd hs
    exact exec_macFrameRx_frag hp (macRx_start hr hd hs)
  case cont =>
    intro k hd hs hc
    exact exec_macFrameRx_frag hp (macRx_cont hr hd hs hc)
  case unknown =>
    intro hd hs hc hv hw
    rw [exec_macFrameRx hp, macRx_unknown hr hd hs hc hv hw]
  case idle =>
    intro hidle hk
    rw [exec_egressFrameStart hp, egressStart_none hidle hk]
  case cand =>
    intro tc k hidle hk
    rw [exec_egressFrameStart hp, egressStart_cand hidle hk]
  case ctl =>
    intro tc f hidle hk
    rw [exec_egressFrameStart hp, egressStart_ctl hidle hk]
  case resumed =>
    intro tc l hidle hk
    rw [exec_egressFrameStart hp, egressStart_cont hidle hk]
  case out =>
    intro l hline hout
    rw [exec_egressFrameEnd hp, egressEnd_out hline hout]
  case preempt =>
    intro l hline hex hact hwant hmin hrest n t
    rw [exec_mpacketPreempt hp, preemptLine_due hline hex hact hwant hmin hrest rfl rfl]
  case verify =>
    intro hr hen
    rw [exec_verifyRx hp hr, verifyRx_enabled hen]
  case disabled =>
    intro hr hen
    rw [exec_verifyRx hp hr, exec_respondRx hp hr, verifyRx_disabled hen, respondRx_disabled hen]
    exact ⟨rfl, rfl⟩
  case respond =>
    intro hr hen hst
    rw [exec_respondRx hp hr, respondRx_awaited hen hst]
  case timeout =>
    intro hst hsent hdue
    rw [exec_verifyTimeout hp, verifyTimeout_due hst hsent hdue]
  case pause =>
    intro q hr hen
    rw [exec_pauseRx hl, pauseRx_taken hr hen]
  case ignored =>
    intro q hr hen
    rw [exec_pauseRx hl, pauseRx_ignored hr hen]
  case expired =>
    intro hpaused hdue
    rw [exec_pauseTimerExpire hl.1, pauseOver_due hpaused hdue]
  case xoff =>
    intro hsend hen hx hlevel
    rw [exec_pauseXoff hl, pauseXoff_reached hsend hen hx hlevel]
  case refresh =>
    intro hsend hen hx hlevel hdue
    rw [exec_pauseRefresh hl, pauseRefresh_due hsend hen hx hlevel hdue]
  case xon =>
    intro hsend hen hx hlevel
    rw [exec_pauseXon hl, pauseXon_reached hsend hen hx hlevel]
  case link =>
    intro w han
    rw [exec_lmacLinkChange hl.1, lmacControl_noAn han]

end Sys2Proof.Machine

/-! The scheduler: contexts and their descriptors, then the gate lists of an egress port. -/

namespace Sys2Proof.Machine

/-! ### SCHED_TXD_CMD (R190) -/

section
variable {s : State}

/-- The scheduler's block belongs to no unit that can be absent, fenced or gated and holds no mailbox window, so a write there
takes effect at once. -/
theorem regWrite_sched {a : Nat} (hlo : 0x80000 ≤ a) (hhi : a < 0xA0000) (init : Nat) (w : Word) :
    s.regWrite init a w = s.writeSched init a w := by
  have habove : ∀ n, n ≤ 0x80000 → ¬ a < n := fun n hn => by omega
  have hbelow : ∀ n, 0xA0000 ≤ n → ¬ n ≤ a := fun n hn => by omega
  have hmapped : regMapped a = true := by
    simp [regMapped, regBlocks]
    omega
  have hpresent : s.regPresent a = true := by simp [State.regPresent, hbelow]
  have hfence : regFence a = none := by simp [regFence, habove, hbelow]
  have hfenced : s.regFenced a = false := by rw [State.regFenced, hfence]
  have hisland : regIsland a = none := by simp [regIsland, hbelow]
  have hgated : s.regGated a = false := by rw [State.regGated, hisland]
  have hmail : mailWindow a = false := by simp [mailWindow, habove]
  have hwake : s.wakeFor a = s := by rw [State.wakeFor, hisland]
  have happly : s.regApply init a w = s.writeSched init a w := by simp [State.regApply, habove, hhi]
  rw [regWrite_applies hmapped hpresent hfenced (.inl hmail) (.inl hgated), hwake, happly]

variable {c : Nat} (hc : c < 1024)
include hc

/-- The command word of every context's descriptor window may be written by every initiator. -/
theorem writeStatus_txdCmd (ring : Bool) : s.writeStatus 0 (0x88004 + 8 * c) 4 ring = 0 := by
  have hshape : regShape (0x88004 + 8 * c) 4 = true := by
    simp [regShape]
    omega
  have hmail : coversMail (0x88004 + 8 * c) 4 = false := by
    simp [coversMail, rangesMeet]
    omega
  simp [State.writeStatus, hshape, hmail, stOk]

theorem writeSched_txdCmd (init : Nat) (w : Word) : s.writeSched init (0x88004 + 8 * c) w = s.txdPush c w := by
  have hidx : (0x88004 + 8 * c - 0x88000) / 8 = c := by omega
  rw [State.writeSched, if_neg (by omega), if_neg (by omega), if_neg (by omega), if_pos (by omega), hidx]

theorem writeBy_txdCmd (who : Who) (w : Word) : s.writeBy who (0x88004 + 8 * c) w = s.txdPush c w := by
  rw [writeBy_ok s who _ w (writeStatus_txdCmd hc _), regWrite_sched (by omega) (by omega), writeSched_txdCmd hc]

end

/-! ### A context's oldest descriptor (R191, R265) -/

section
variable {s : State} {c : Nat}

theorem judgeDescr_none (h : s.waitingDescr c = []) : s.judgeDescr c = s := by
  simp only [State.judgeDescr, State.judgeNext, h]

/-- The oldest descriptor leaves the queue and is judged with the next ENQ_SEQ where the host pushed it, with the present one
where the hub made it. Only a descriptor of the hub's own can be one that context 0 did not queue; its request's timeout then
starts at once by the model's choice (log entry 138). -/
theorem judgeNext_oldest {d : Descr} {rest : List Descr} (h : s.waitingDescr c = d :: rest) {t v : State} {n : Nat}
    (ht : ({ s with inbox := Tbl.put (fun _ => []) s.inbox c rest } : State) = t)
    (hn : (s.get (ctxBase c) CTX_SEQ_ENQ_SEQ + 1) % 65536 = n) (hv : t.judge c d (s.get (ctxBase c) CTX_SEQ_ENQ_SEQ) = v) :
    s.judgeNext c
      = if d.bytes.isNone then (t.judge c d n).set (ctxBase c) CTX_SEQ_ENQ_SEQ n
        else if c = 0 then v.notQueued (s.cq 0) d else v := by
  subst ht hn hv
  cases hd : d.bytes with
  | none => simp only [State.judgeNext, h, hd, Option.isNone_none, if_true]
  | some bs => simp only [State.judgeNext, h, hd, Option.isNone_some, Bool.false_eq_true, if_false]

/-- An image frame that its context refused is counted in PIMG_PUB_REFUSED besides. -/
theorem judgeDescr_oldest {d : Descr} {rest : List Descr} (h : s.waitingDescr c = d :: rest) {u : State}
    (hu : s.judgeNext c = u) :
    s.judgeDescr c
      = if s.isImageFrame d ∧ u.get (ctxBase c) CTX_ENQ_REFUSED ≠ s.get (ctxBase c) CTX_ENQ_REFUSED then
          u.bump pimgBase PIMG_PUB_REFUSED
        else u := by
  subst hu
  simp only [State.judgeDescr, h]

/-! ### The close of a context (R193) -/

/-- What stays of the queue is the frames that are on a line at some port, for those ports alone. -/
theorem ctxClose_eq {stay : List QFrame}
    (hstay : (((s.cq c).filter fun f => f.todo != f.left).map fun f => { f with left := f.left - f.todo, todo := 0 }) = stay)
    {t : State}
    (ht : (((s.flushNotes c).setCq c stay).set (ctxBase c) CTX_CTRL_EN 0).bumpBy (ctxBase c) CTX_FLUSHED
      ((s.cq c).filter fun f => f.todo != 0).length = t) :
    s.ctxClose c = (t.set (ctxBase c) CTX_STAT_QLEVEL stay.length).each allPorts fun t p => t.leafDrop p c := by
  subst hstay ht
  rfl

end

/-! ### The rows of a context -/

section
variable {s : State} (hl : s.Live) (c : Fin 1024)
include hl

theorem exec_txdPush (who : Who) (w : Word) : exec (.txdPush who c w) s = .next (s.after (s.txdPush c.val w)) := by
  change execTxdPush who c w s = _
  rw [execTxdPush, run_live _ hl, writeBy_txdCmd c.isLt]

theorem exec_descriptorJudge : exec (.descriptorJudge c) s = .next (s.after (s.judgeDescr c.val)) :=
  run_live (fun s => s.judgeDescr c.val) hl

theorem exec_ctxCloseWrite_open (h : s.flag (ctxBase c.val) CTX_CTRL_EN = true) :
    exec (.ctxCloseWrite c) s = .next (s.after (s.ctxClose c.val)) := by
  change execCtxCloseWrite c s = _
  rw [execCtxCloseWrite, run_live _ hl, if_pos h]

theorem exec_ctxCloseWrite_closed (h : s.flag (ctxBase c.val) CTX_CTRL_EN = false) :
    exec (.ctxCloseWrite c) s = .next (s.after s) := by
  change execCtxCloseWrite c s = _
  rw [execCtxCloseWrite, run_live _ hl, if_neg (by simp [h])]

end

/-- Settles O26: the push is the register write of the command word, which every initiator may make and nothing delays; the
other rows are one operation on the context, and each clause is a case of it. -/
theorem contextRows : Obligations.ContextRows := by
  refine fun s c hl => ⟨exec_txdPush hl c, ?none, ?oldest, ?close, exec_ctxCloseWrite_closed hl c⟩
  case none =>
    intro h
    rw [exec_descriptorJudge hl, judgeDescr_none h]
  case oldest =>
    intro d rest h t n v u
    rw [exec_descriptorJudge hl, judgeDescr_oldest h (judgeNext_oldest h rfl rfl rfl)]
  case close =>
    intro hen q stay t
    rw [exec_ctxCloseWrite_open hl c hen, ctxClose_eq rfl rfl]

/-! ### The edges of a gate list (R203, R205, R207, R209) -/

section
variable {s : State} {p : Nat}

theorem gateEdge_early (h : s.ring < s.edgeAt p) : s.gateEdge p = s := if_pos h

theorem gateEdge_due (h : s.edgeAt p ≤ s.ring) {y : EgressPort}
    (hy : (if s.cycleEnd p ≤ s.edgeAt p then
        { s.eport p with entry := 0, entryAt := s.edgeAt p, cycleAt := s.edgeAt p, still := none }
      else { s.eport p with entry := (s.eport p).entry + 1, entryAt := s.edgeAt p }) = y)
    {t : State} (ht : s.setEport p y = t) :
    s.gateEdge p = if t.opensPreemptable p (t.gates p) then t.setEport p { y with hold := false } else t := by
  subst hy ht
  exact if_neg (Nat.not_lt.mpr h)

/-- HOLD_ADV ahead of an edge that closes an open preemptable class, the hold is asserted and the line is preempted. -/
theorem holdAssert_due (hen : s.flag (schedBase p) SCHED_PCTRL_GATE_EN = true) (hact : s.preemptActive p = true)
    (hcloses : ((List.range 8).any fun c => !s.isExpress p c && bitAt (s.gates p) c && !bitAt (s.nextGates p) c) = true)
    (hdue : s.nextEdge p ≤ s.ring + s.holdAdv p) :
    s.holdAssert p = (s.setEport p { s.eport p with hold := true }).preemptLine p := if_pos ⟨hen, hact, hcloses, hdue⟩

end

/-! ### A frame at the head of its class for a whole cycle (R206) -/

section
variable {s : State} {p tc : Nat}

/-- The context field of a transit frame's drop is the model's choice (log entry 14). -/
theorem windowCand_transit (r : TFrame) :
    s.windowCand p tc (.transit r)
      = ((s.setEport p { s.eport p with transit := (s.eport p).transit.erase r }).chosen p tc (.transit r)
          (s.finish p tc (.transit r)) (s.inputFinish p tc (.transit r))).windowDrop p tc Config.noContext.toNat
            ((Cand.transit r).len p) := rfl

theorem windowCand_ctx (n : Nat) (q : QFrame) :
    s.windowCand p tc (.ctx n q)
      = ((((((s.ctxStart p n q.uid).chosen p tc (.ctx n q) (s.finish p tc (.ctx n q))
          (s.inputFinish p tc (.ctx n q))).wakeCtx p n).leaveMark p n q false).ctxEnd p n q.uid false).windowDrop p tc n
            ((Cand.ctx n q).len p)).bump (ctxBase n) CTX_WINDOW_DROP := rfl

variable (hhead : (Tbl.get (fun _ => (0, 0)) (s.eport p).head tc).1 ≠ 0)
  (hdue : (Tbl.get (fun _ => (0, 0)) (s.eport p).head tc).2 + s.get (schedBase p) SCHED_OPER_CYCLE_NS ≤ s.uptime + 1)
include hhead hdue

/-- The hub's own control frames stand before the other frames of class 7. -/
theorem windowExpire_ctl (htc : tc = 7) {f : CtlFrame} {rest : List CtlFrame} (hctl : (s.eport p).ctl = f :: rest) :
    s.windowExpire p tc
      = (s.setEport p { s.eport p with ctl := rest }).windowDrop p 7 Config.noContext.toNat (f.bytes.length + 4) := by
  subst htc
  simp only [State.windowExpire, hhead, Nat.not_lt.mpr hdue, hctl, or_self, if_false, if_true]

theorem windowExpire_cand (hctl : tc ≠ 7 ∨ (s.eport p).ctl = []) {k : Cand} (hk : s.headOf p tc = some k) :
    s.windowExpire p tc = s.windowCand p tc k := by
  have hown : (if tc = 7 then (s.eport p).ctl else []) = [] := by
    split
    · next h7 => exact hctl.resolve_left fun hne => hne h7
    · rfl
  simp only [State.windowExpire, hhead, Nat.not_lt.mpr hdue, hown, hk, or_self, if_false]

end

/-! ### The swap to the admin list (R207 to R209) -/

section
variable {s : State} {p : Nat}

theorem configChange_taken (h : s.adminBase p = 0 ∨ s.timeValid = true) : s.configChange p = s.swapRequest p := by
  refine if_neg fun ⟨hbase, htime⟩ => ?_
  exact h.elim hbase fun hv => by simp [hv] at htime

/-- A base time other than 0 means nothing while ring time is not valid. -/
theorem configChange_refused (hbase : s.adminBase p ≠ 0) (htime : s.timeValid = false) :
    s.configChange p = s.bump (schedBase p) SCHED_GCL_WDROP := if_pos ⟨hbase, by rw [htime]; rfl⟩

theorem swapLatch_due (hpend : s.flag (schedBase p) SCHED_PCTRL_CONFIG_PENDING = true)
    (hlat : s.flag (schedBase p) SCHED_PCTRL_SWAP_LATCHED = false) (hdue : (s.eport p).swapAt ≤ s.ring + 10000) :
    s.swapLatch p
      = (s.set (schedBase p) SCHED_PCTRL_SWAP_LATCHED 1).setEport p
          { s.eport p with latched := some (s.adminList p, s.get (schedBase p) SCHED_ADMIN_CYCLE_NS,
                                            s.get (schedBase p) SCHED_ADMIN_EXT_NS, s.adminBase p) } :=
  if_pos ⟨hpend, by rw [hlat]; rfl, hdue⟩

/-- A list is latched once. -/
theorem swapLatch_latched (hlat : s.flag (schedBase p) SCHED_PCTRL_SWAP_LATCHED = true) : s.swapLatch p = s :=
  if_neg fun ⟨_, hnot, _⟩ => by simp [hlat] at hnot

theorem gclSwap_due {l : List (Nat × Nat)} {cycle ext base : Nat}
    (hlist : (s.eport p).latched = some (l, cycle, ext, base))
    (hpend : s.flag (schedBase p) SCHED_PCTRL_CONFIG_PENDING = true)
    (hlat : s.flag (schedBase p) SCHED_PCTRL_SWAP_LATCHED = true) (hdue : (s.eport p).swapAt ≤ s.ring) {u v t : State}
    (hu : (((s.writeOper p 0 l).set (schedBase p) SCHED_OPER_CYCLE_NS cycle).set (schedBase p) SCHED_OPER_EXT_NS ext).set
      (schedBase p) SCHED_OPER_LEN l.length = u)
    (hv : (((u.set (schedBase p) SCHED_PCTRL_CONFIG_PENDING 0).set (schedBase p) SCHED_PCTRL_SWAP_LATCHED 0).bump
      (schedBase p) SCHED_SWAPS).evt (schedBase p) SCHED_PCEVT 0 = v) {y : EgressPort}
    (hy : { s.eport p with entry := 0, entryAt := (s.eport p).swapAt, cycleAt := (s.eport p).swapAt, base := base,
                           still := none, latched := none } = y) (ht : v.setEport p y = t) :
    s.gclSwap p = if t.opensPreemptable p (t.gates p) then t.setEport p { y with hold := false } else t := by
  subst hu hv hy ht
  simp only [State.gclSwap, swapLatch_latched hlat, hlist, hpend, Nat.not_lt.mpr hdue, Bool.not_true, Bool.false_eq_true,
    or_self, if_false]

end

/-! ### The rows of a gate list -/

theorem exec_schedConfigChange {s : State} (hl : s.Live) (p : Fin 6) :
    exec (.schedConfigChange p) s = .next (s.after (s.configChange p.val)) :=
  run_live (fun s => s.configChange p.val) hl

section
variable {s : State} {p : Fin 6} (hp : s.PortRuns p.val)
include hp

theorem exec_gateEdge : exec (.gateEdge p) s = .next (s.after (s.gateEdge p.val)) :=
  run_port p.val (fun s => s.gateEdge p.val) hp

theorem exec_gateHoldAssert : exec (.gateHoldAssert p) s = .next (s.after (s.holdAssert p.val)) :=
  run_port p.val (fun s => s.holdAssert p.val) hp

theorem exec_frameWindowExpire (tc : Fin 8) :
    exec (.frameWindowExpire p tc) s = .next (s.after (s.windowExpire p.val tc.val)) :=
  run_port p.val (fun s => s.windowExpire p.val tc.val) hp

theorem exec_swapLatch : exec (.swapLatch p) s = .next (s.after (s.swapLatch p.val)) :=
  run_port p.val (fun s => s.swapLatch p.val) hp

theorem exec_gclSwap : exec (.gclSwap p) s = .next (s.after (s.gclSwap p.val)) :=
  run_port p.val (fun s => s.gclSwap p.val) hp

end

/-- Settles O27: each row is one operation on the port's gate lists or its heads, and each clause is that operation's case. -/
theorem gateRows : Obligations.GateRows := by
  refine fun s p hp hl => ⟨?edge, ?early, ?hold, fun tc hhead hdue => ⟨?ctl, fun k hctl hk => ⟨?transit, ?ctx⟩⟩,
    ?taken, ?refused, ?latch, ?swap⟩
  case edge =>
    intro e y t hdue
    rw [exec_gateEdge hp, gateEdge_due hdue rfl rfl]
  case early =>
    intro h
    rw [exec_gateEdge hp, gateEdge_early h]
  case hold =>
    intro hen hact hcloses hdue
    rw [exec_gateHoldAssert hp, holdAssert_due hen hact hcloses hdue]
  case ctl =>
    intro f rest htc hctl
    rw [exec_frameWindowExpire hp, windowExpire_ctl hhead hdue htc hctl]
  case transit =>
    intro r hr
    subst hr
    rw [exec_frameWindowExpire hp, windowExpire_cand hhead hdue hctl hk, windowCand_transit]
  case ctx =>
    intro n q hq
    subst hq
    rw [exec_frameWindowExpire hp, windowExpire_cand hhead hdue hctl hk, windowCand_ctx]
  case taken =>
    intro h
    rw [exec_schedConfigChange hl, configChange_taken h]
  case refused =>
    intro hbase htime
    rw [exec_schedConfigChange hl, configChange_refused hbase htime]
  case latch =>
    intro hpend hlat hdue
    rw [exec_swapLatch hp, swapLatch_due hpend hlat hdue]
  case swap =>
    intro l cycle ext base hlist hpend hlat hdue u v y t
    rw [exec_gclSwap hp, gclSwap_due hlist hpend hlat hdue rfl rfl rfl rfl]

end Sys2Proof.Machine

/-! The transmit-timestamp queues: what a stamp leaves in its port's queue, and the counter and event that tell of it. -/

namespace Sys2Proof.Machine

/-! ### Events and counters -/

section
variable {s : State} {base n : Nat} {f : Fld}

/-- An event shows in its field. -/
theorem testBit_evt (hn : n < f.width) (hw : f.lo + f.width ≤ 32) : ((s.evt base f n).get base f).testBit n = true := by
  have hbit : (BitVec.ofNat 32 (2 ^ (f.lo + n))).getLsbD (f.lo + n) = true := by
    rw [BitVec.getLsbD_ofNat, Nat.testBit_two_pow_self, Bool.and_true]
    exact decide_eq_true (by omega)
  simp only [State.get, State.evt, State.orBit, rd_wr_same, bitsOf, BitVec.testBit_toNat, BitVec.getLsbD_extractLsb',
    BitVec.getLsbD_or, hbit, hn, decide_true, Bool.or_true, Bool.and_true]

/-- A field of another register word reads as before. -/
theorem get_evt_word {base' : Nat} {g : Fld} (h : base' + g.off ≠ base + f.off) :
    (s.evt base f n).get base' g = s.get base' g := by
  rw [State.get, State.evt, State.orBit, rd_wr_other s _ h, State.get]

/-- A counter rises by 1 whether or not its bit 31 then sets, since that event is shown by another word. -/
theorem rd_bumpAt_same {a : Nat} (h : ∀ e b, halfBit a = some (e, b) → a ≠ e) :
    (s.bumpAt a 1).rd a = BitVec.ofNat 32 ((s.rd a).toNat + 1) := by
  unfold State.bumpAt
  dsimp only
  split
  · split
    · next e b he => rw [State.orBit, rd_wr_other _ _ (h e b he), rd_wr_same]
    · exact rd_wr_same _ _ _
  · exact rd_wr_same _ _ _

/-- A counter of a whole word wraps at 2^32. -/
theorem get_bump_whole {off : Nat} (h : ∀ e b, halfBit (base + off) = some (e, b) → base + off ≠ e) :
    (s.bump base ⟨off, 0, 32⟩).get base ⟨off, 0, 32⟩ = (s.get base ⟨off, 0, 32⟩ + 1) % 2 ^ 32 := by
  simp only [State.get, State.bump, rd_bumpAt_same h, bitsOf_whole, BitVec.toNat_ofNat]

@[simp] theorem bumpAt_time (a k : Nat) : (s.bumpAt a k).time = s.time := by
  unfold State.bumpAt
  dsimp only
  split
  · split <;> rfl
  · rfl

end

/-! ### The queues (R232, R233) -/

section
variable {s : State} {p : Nat}

theorem tsq_setTsq_same (q : List (List Byte)) : (s.setTsq p q).tsq p = q := Tbl.get_put_same ..

theorem tsq_setTsq_other (q : List (List Byte)) {r : Nat} (h : r ≠ p) : (s.setTsq p q).tsq r = s.tsq r :=
  Tbl.get_put_other _ h

@[simp] theorem tsq_evt (base : Nat) (f : Fld) (n r : Nat) : (s.evt base f n).tsq r = s.tsq r := rfl

@[simp] theorem tsq_bump (base : Nat) (f : Fld) (r : Nat) : (s.bump base f).tsq r = s.tsq r := by
  rw [State.tsq, State.bump, bumpAt_time, State.tsq]

theorem get_timePort_evt (f g : Fld) (n : Nat) (h : f.off < 0x400) :
    (s.evt timeBase f n).get (timePort p) g = s.get (timePort p) g :=
  get_evt_word (by unfold timePort timeBase; omega)

/-- Counters of the time block have their common event in TIME_EVT, below every port's registers. -/
theorem halfBit_timePort (hp : p < 6) {off : Nat} (ho : off < 0x40) :
    halfBit (timePort p + off) = some (0x1000C, 9) := by
  unfold halfBit timePort
  rw [if_neg (by omega), if_neg (by omega), if_neg (by omega), if_pos (by omega)]

theorem get_bump_tsOvf (hp : p < 6) :
    (s.bump (timePort p) TIME_PORT_TS_OVF).get (timePort p) TIME_PORT_TS_OVF
      = (s.get (timePort p) TIME_PORT_TS_OVF + 1) % 2 ^ 32 := by
  refine get_bump_whole fun e b he => ?_
  rw [halfBit_timePort hp (by omega)] at he
  cases he
  unfold timePort
  omega

/-- The 16 bytes of a queue entry (Table 8.6). -/
def stampEntry (seq ctx stamp : Nat) (suspect early preempted : Bool) : List Byte :=
  leBytes 4 (seq % 65536 + 65536 * ctx) ++ stampBytes stamp
    ++ leBytes 1 (b2n suspect + 2 * b2n early + 4 * b2n preempted) ++ [0#8]

variable {seq ctx stamp : Nat} {suspect early preempted : Bool}

theorem pushTs_room (h : (s.tsq p).length < 16) :
    s.pushTs p seq ctx stamp suspect early preempted
      = (s.setTsq p (s.tsq p ++ [stampEntry seq ctx stamp suspect early preempted])).evt timeBase TIME_EVT 5 := if_pos h

theorem pushTs_full (h : ¬ (s.tsq p).length < 16) :
    s.pushTs p seq ctx stamp suspect early preempted
      = (s.bump (timePort p) TIME_PORT_TS_OVF).evt timeBase TIME_EVT 6 := if_neg h

end

/-- Settles O12, by whether the queue has room for one more entry. -/
theorem stampQueue : Obligations.StampQueue := by
  intro s p seq ctx stamp suspect early preempted hp hlen t e
  by_cases hroom : (s.tsq p).length < 16
  · have ht : t = (s.setTsq p (s.tsq p ++ [e])).evt timeBase TIME_EVT 5 := pushTs_room hroom
    have hq : t.tsq p = s.tsq p ++ [e] := by rw [ht, tsq_evt, tsq_setTsq_same]
    refine ⟨?length, fun r hr => ?others, fun _ => ⟨hq, ?event, ?count⟩, fun hfull => absurd hfull hroom.ne⟩
    case length =>
      rw [hq, List.length_append, List.length_singleton]
      omega
    case others => rw [ht, tsq_evt, tsq_setTsq_other _ hr]
    case event =>
      rw [ht]
      exact testBit_evt (by decide) (by decide)
    case count =>
      rw [ht, get_timePort_evt _ _ _ (by decide)]
      rfl
  · have ht : t = (s.bump (timePort p) TIME_PORT_TS_OVF).evt timeBase TIME_EVT 6 := pushTs_full hroom
    have hq : ∀ r, t.tsq r = s.tsq r := fun r => by rw [ht, tsq_evt, tsq_bump]
    refine ⟨(hq p).symm ▸ hlen, fun r _ => hq r, fun hless => absurd hless hroom, fun _ => ⟨hq p, ?event, ?count⟩⟩
    case event =>
      rw [ht]
      exact testBit_evt (by decide) (by decide)
    case count => rw [ht, get_timePort_evt _ _ _ (by decide), get_bump_tsOvf hp]

end Sys2Proof.Machine

/-! Time messages received: what becomes of each, then what the offset of a Sync does. -/

namespace Sys2Proof.Machine

/-! ### Messages that are not taken (R218, R222) -/

section
variable {s : State} {p : Nat} {m : PtpRx}

theorem ptpDiscard_eq (bs : List Byte) :
    s.ptpDiscard p bs
      = if s.ptpOn p = true ∧ s.receives p = true ∧ s.ptpGood bs = false then s.bump timeBase TIME_PTP_DISCARD else s := by
  simp only [State.ptpDiscard, Bool.and_eq_true, Bool.not_eq_true', and_assoc]

section
variable (h : s.ptpTaken p m.bytes = false)
include h

theorem syncRx_discarded : s.syncRx p m = s.ptpDiscard p m.bytes := if_pos (by rw [h]; rfl)

theorem followUpRx_discarded : s.followUpRx p m = s.ptpDiscard p m.bytes := if_pos (by rw [h]; rfl)

theorem announceRx_discarded : s.announceRx p m = s.ptpDiscard p m.bytes := if_pos (by rw [h]; rfl)

end

/-! ### Sync, Follow_Up and Announce (R221, R223, R226) -/

section
variable (h : s.ptpTaken p m.bytes = true)
include h

/-- A Sync is noted (`t`) and relayed (`u`); a one-step Sync on the LMAC slave port is judged at once. The places of the message's
fields are the model's choice (log entry 27). -/
theorem syncRx_taken {t u : State}
    (ht : (if s.mayFollow p m.bytes = true then s.noteSync p (ptpLog m.bytes) else s).setSyncWait p
      (some { seq := ptpSeq m.bytes, ingress := m.ingress }) = t)
    (hu : (if p < 2 ∧ t.asCapable (1 - p) = true then
        t.sendPtp (1 - p) (.relay p (ptpSeq m.bytes)) (putBe (putBe m.bytes 6 2 0x0200) 28 2 (2 - p)) else t) = u) :
    s.syncRx p m
      = if bitAt (leAt m.bytes 6 1) 1 = false ∧ p = u.slavePort ∧ u.mayFollow p m.bytes = true ∧ u.followPort p = true then
          u.takeSync p m.ingress (ptpStamp m.bytes 34) (ptpCorr m.bytes)
        else u := by
  subst ht hu
  simp only [State.syncRx, h, Bool.not_true, Bool.false_eq_true, if_false, Bool.and_eq_true, Bool.not_eq_true', beq_iff_eq,
    and_assoc]

theorem followUpRx_unawaited (hw : s.syncWaitAt p = none) : s.followUpRx p m = s := by
  simp only [State.followUpRx, h, hw, Bool.not_true, Bool.false_eq_true, if_false]

section
variable {w : SyncWait} (hw : s.syncWaitAt p = some w)
include hw

theorem followUpRx_other (hne : w.seq ≠ ptpSeq m.bytes ∨ w.follow.isSome = true) : s.followUpRx p m = s := by
  simp only [State.followUpRx, h, hw, if_pos hne, Bool.not_true, Bool.false_eq_true, if_false]

theorem followUpRx_awaited (hseq : w.seq = ptpSeq m.bytes) (hf : w.follow = none) {t : State}
    (ht : s.followRelay p w m.bytes = t) :
    s.followUpRx p m
      = if t.mayFollow p m.bytes = true ∧ t.followPort p = true then
          t.takeSync p w.ingress (ptpStamp m.bytes 34) (ptpCorr m.bytes)
        else t := by
  subst ht
  have hmine : ¬ (w.seq ≠ ptpSeq m.bytes ∨ w.follow.isSome = true) := by simp [hseq, hf]
  simp only [State.followUpRx, h, hw, if_neg hmine, Bool.not_true, Bool.false_eq_true, if_false, Bool.and_eq_true]

end

/-- On a ring port an Announce is relayed one step further and enters the selection. -/
theorem announceRx_ring (hp : p < 2) {t : State}
    (ht : (if p < 2 ∧ s.asCapable (1 - p) = true then
        s.sendPtp (1 - p) .none (putBe (putBe m.bytes 61 2 ((announceData m.bytes).steps + 1)) 28 2 (2 - p)) else s) = t) :
    s.announceRx p m = t.announce p (announceData m.bytes) (ptpLog m.bytes) false := by
  subst ht
  simp only [State.announceRx, h, if_pos hp, Bool.not_true, Bool.false_eq_true, if_false]

theorem announceRx_local (hp : ¬ p < 2) :
    s.announceRx p m
      = if p = s.slavePort then s.announce p (announceData m.bytes) (ptpLog m.bytes) true else s := by
  simp only [State.announceRx, h, hp, false_and, beq_iff_eq, Bool.not_true, Bool.false_eq_true, if_false]

end

/-! ### Peer delay (R218, R219, R220) -/

section
variable {f : State → State}

theorem peerMsg_off (h : s.ptpOn p = false ∨ s.hearsPeer p = false) : s.peerMsg p m f = s :=
  if_pos (by rcases h with h | h <;> simp [h])

variable (hon : s.ptpOn p = true) (hears : s.hearsPeer p = true)
include hon hears

theorem peerMsg_bad (hg : s.ptpGood m.bytes = false) : s.peerMsg p m f = s.bump timeBase TIME_PTP_DISCARD := by
  simp only [State.peerMsg, hon, hears, hg, Bool.and_self, Bool.not_true, Bool.false_eq_true, if_false]

theorem peerMsg_good (hg : s.ptpGood m.bytes = true) : s.peerMsg p m f = f s := by
  simp only [State.peerMsg, hon, hears, hg, Bool.and_self, Bool.not_true, Bool.false_eq_true, if_false, if_true]

end

section
variable {up : Bool}

theorem pdelayResp_unawaited (h : (s.peer p).waiting = none) : s.pdelayResp p m up = s := by
  simp only [State.pdelayResp, h]

section
variable {seq t1 since : Nat} (h : (s.peer p).waiting = some (seq, t1, since))
include h

theorem pdelayResp_other (hseq : seq ≠ ptpSeq m.bytes) : s.pdelayResp p m up = s := by
  simp only [State.pdelayResp, h, if_pos hseq.symm]

variable (hseq : seq = ptpSeq m.bytes)
include hseq

/-- The answer's two stamps are kept for its Follow_Up. -/
theorem pdelayResp_answer (ht : ptpType m.bytes = 3) :
    s.pdelayResp p m up
      = s.setPeer p { s.peer p with
          resp := some (ptpStamp m.bytes 34, m.ingress - s.get (timePort p) TIME_PORT_RX_LAT_NS) } := by
  simp only [State.pdelayResp, h, hseq, ht, ne_eq, not_true, if_false, if_true]

theorem pdelayResp_early (ht : ptpType m.bytes ≠ 3) (hr : (s.peer p).resp = none) : s.pdelayResp p m up = s := by
  simp only [State.pdelayResp, h, hseq, ht, hr, ne_eq, not_true, if_false]

/-- The Follow_Up of the answer completes the exchange. -/
theorem pdelayResp_followUp (ht : ptpType m.bytes ≠ 3) {t2 t4 : Nat} (hr : (s.peer p).resp = some (t2, t4)) :
    s.pdelayResp p m up = s.pdelayDone p t1 t2 (ptpStamp m.bytes 34) t4 up := by
  simp only [State.pdelayResp, h, hseq, ht, hr, ne_eq, not_true, if_false]

end

end

end

/-! ### The offset of a Sync (R227, R229, R230) -/

section
variable {s u : State} {off : Int}

/-- A mode in force that is the one written stays. -/
theorem takeMode_same (h : s.time.mode = s.get timeBase TIME_CTRL_MODE) : s.takeMode = s := by
  have hstays : ¬ (s.time.mode = 0 ∧ s.time.mode ≠ 0) := fun ⟨h0, hne⟩ => hne h0
  simp only [State.takeMode, ← h, if_neg hstays]

@[simp] theorem showOffset_time (off : Int) : (s.showOffset off).time = s.time := rfl

theorem timeState_set_jumpRefused (v : Nat) : (s.set timeBase TIME_STAT_JUMP_REFUSED v).timeState = s.timeState :=
  get_set_bits s _ _ _ _ v rfl (by decide)

section
variable (hu : s.takeMode.showOffset off = u) (ha : u.time.accept = false)
include hu ha

theorem judgeSync_holdover (hst : u.timeState = 3) (hoff : off.natAbs ≤ u.get timeBase TIME_STEP_THR_NS) :
    s.judgeSync off
      = (((({ u with time := { u.time with accept := false, confirm := [] } } : State).set timeBase
          TIME_STAT_JUMP_REFUSED 0)).correctBy off).setTimeState 2 := by
  subst hu
  have hbig : decide (off.natAbs > (s.takeMode.showOffset off).get timeBase TIME_STEP_THR_NS) = false :=
    decide_eq_false (Nat.not_lt.mpr hoff)
  have hst' : ((({ s.takeMode.showOffset off with
      time := { (s.takeMode.showOffset off).time with accept := false, confirm := [] } } : State).set timeBase
        TIME_STAT_JUMP_REFUSED 0)).timeState = 3 := (timeState_set_jumpRefused 0).trans hst
  simp only [State.judgeSync, hbig, hst', ha, Bool.and_false, Bool.false_and, Bool.false_eq_true, if_false]

theorem judgeSync_refused (hmode : u.time.mode = 1) (hlock : u.time.everLocked = true)
    (hoff : u.get timeBase TIME_STEP_THR_NS < off.natAbs) : s.judgeSync off = u.refuseJump off := by
  subst hu
  have hbig : decide (off.natAbs > (s.takeMode.showOffset off).get timeBase TIME_STEP_THR_NS) = true := decide_eq_true hoff
  simp only [State.judgeSync, hbig, ha, hmode, hlock, Bool.false_and, Bool.true_and, beq_self_eq_true, Bool.false_eq_true,
    if_false, if_true]

end

end

/-! ### The rows -/

section
variable {s : State} {p : Fin 6} (hp : s.PortRuns p.val) (m : PtpRx)
include hp

theorem exec_syncRx : exec (.syncRx p m) s = .next (s.after (s.syncRx p.val m)) :=
  run_port p.val (fun s => s.syncRx p.val m) hp

theorem exec_followUpRx : exec (.followUpRx p m) s = .next (s.after (s.followUpRx p.val m)) :=
  run_port p.val (fun s => s.followUpRx p.val m) hp

theorem exec_announceRx : exec (.announceRx p m) s = .next (s.after (s.announceRx p.val m)) :=
  run_port p.val (fun s => s.announceRx p.val m) hp

theorem exec_pdelayReqRx :
    exec (.pdelayReqRx p m) s = .next (s.after (s.peerMsg p.val m fun s => s.pdelayReq p.val m)) :=
  run_port p.val (fun s => s.peerMsg p.val m fun s => s.pdelayReq p.val m) hp

theorem exec_pdelayRespRx :
    exec (.pdelayRespRx p m) s
      = .next (s.after (s.peerMsg p.val m fun s => s.pdelayResp p.val m (s.canSend p.val))) :=
  run_port p.val (fun s => s.peerMsg p.val m fun s => s.pdelayResp p.val m (s.canSend p.val)) hp

end

/-- Settles O28: each row is one operation on the message, and each clause is that operation's case; the last two clauses are
cases of what a Sync's offset does. -/
theorem timeMessages : Obligations.TimeMessages := by
  refine ⟨fun s p m hp => ⟨?discarded, ?sync, ?followUp, ?announce, ?off, ?bad, ?peer⟩, fun s off hmode ha => ?offset⟩
  case discarded =>
    intro h t
    rw [exec_syncRx hp, exec_followUpRx hp, exec_announceRx hp, syncRx_discarded h, followUpRx_discarded h,
      announceRx_discarded h, ptpDiscard_eq]
    exact ⟨rfl, rfl, rfl⟩
  case sync =>
    intro h t u here
    rw [exec_syncRx hp, syncRx_taken h rfl rfl]
    exact ⟨fun hhere => by rw [if_pos hhere], fun hnot => by rw [if_neg hnot]⟩
  case followUp =>
    intro h
    rw [exec_followUpRx hp]
    refine ⟨fun hw => by rw [followUpRx_unawaited h hw], fun w hw => ⟨fun hne => by rw [followUpRx_other h hw hne], ?_⟩⟩
    intro hseq hf t
    rw [followUpRx_awaited h hw hseq hf rfl]
    refine ⟨fun hjudge => by rw [if_pos hjudge], fun hno => ?_⟩
    rw [if_neg fun ⟨hmay, hport⟩ => hno.elim (fun hn => absurd (hmay.symm.trans hn) (by decide))
      fun hn => absurd (hport.symm.trans hn) (by decide)]
  case announce =>
    intro h d t
    rw [exec_announceRx hp]
    refine ⟨fun hring => by rw [announceRx_ring h hring rfl], fun hloc hslave => ?_, fun hloc hother => ?_⟩
    · have ht : t = s := if_neg fun hring => absurd hring.1 (Nat.not_lt.mpr hloc)
      rw [announceRx_local h (Nat.not_lt.mpr hloc), if_pos hslave, ht]
    · rw [announceRx_local h (Nat.not_lt.mpr hloc), if_neg hother]
  case off =>
    intro h
    rw [exec_pdelayReqRx hp, exec_pdelayRespRx hp, peerMsg_off h, peerMsg_off h]
    exact ⟨rfl, rfl⟩
  case bad =>
    intro hon hears hg
    rw [exec_pdelayReqRx hp, exec_pdelayRespRx hp, peerMsg_bad hon hears hg, peerMsg_bad hon hears hg]
    exact ⟨rfl, rfl⟩
  case peer =>
    intro hon hears hg
    rw [exec_pdelayReqRx hp, exec_pdelayRespRx hp, peerMsg_good hon hears hg, peerMsg_good hon hears hg]
    refine ⟨rfl, fun hw => by rw [pdelayResp_unawaited hw], fun seq t1 since hw => ⟨fun hne => ?_, fun hseq ht => ?_,
      fun hseq ht hr => ?_, fun t2 t4 hseq ht hr => ?_⟩⟩
    · rw [pdelayResp_other hw hne]
    · rw [pdelayResp_answer hw hseq ht]
    · rw [pdelayResp_early hw hseq ht hr]
    · rw [pdelayResp_followUp hw hseq ht hr]
  case offset =>
    intro u
    have htime : u.time = s.time := (showOffset_time off).trans (congrArg State.time (takeMode_same hmode))
    rw [← htime] at ha
    refine ⟨judgeSync_holdover rfl ha, fun hone hlock => ?_⟩
    rw [← htime] at hone hlock
    exact judgeSync_refused rfl ha hone hlock

end Sys2Proof.Machine

/-! The timers of the time island, the time messages sent, scheduled actions and the pop of a transmit timestamp: the effect of
each row under its condition, then what the row answers. -/

namespace Sys2Proof.Machine

/-! ### Messages whose interval has passed (R219, R220, R223, R225, R238) -/

section
variable {s : State} {p : Nat}

theorem pdelayDue_due (hon : s.ptpOn p = true) (hup : s.canSend p = true ∨ s.loopedOut p = true)
    (hint : s.intervalOver TIME_MSG_INT_LOG_PDELAY (s.peer p).sentAt = true) : s.pdelayDue p = s.pdelaySend p :=
  if_pos ⟨hon, hup, hint⟩

theorem syncDue_due (hm : s.sendsSync p = true)
    (hint : s.intervalOver TIME_MSG_INT_LOG_SYNC (Tbl.get (fun _ => 0) s.time.syncSent p) = true) :
    s.syncDue p = s.sendSync p := if_pos ⟨hm, hint⟩

section
variable (hm : s.sendsSync p = false)
include hm

theorem syncDue_notMaster : s.syncDue p = s := if_neg fun hdue => absurd (hm.symm.trans hdue.1) (by decide)

theorem announceNext_notMaster : s.announceNext p = s := if_neg fun hdue => absurd (hm.symm.trans hdue.1) (by decide)

end

/-- What a TIME_ROLE set is in force with the Announce that is sent. -/
theorem announceNext_due (hm : s.sendsSync p = true)
    (hint : s.intervalOver TIME_MSG_INT_LOG_ANNOUNCE (Tbl.get (fun _ => 0) s.time.annSent p) = true) {d : PtpData}
    (hd : s.roleTaken.announceData = some d) : s.announceNext p = s.roleTaken.sendAnnounce p d := by
  have hdue : s.roleTaken.announceDue p = s.roleTaken.sendAnnounce p d := by
    rw [State.announceDue, hd]
    exact if_pos ⟨hm, hint⟩
  exact (if_pos ⟨hm, hint⟩).trans hdue

end

/-! ### Masters that fall silent (R223, R224, R226) -/

section
variable {s : State}

/-- A master that is not silent stays, and a grandmaster has none. -/
theorem announceTimeout_quiet (h : s.annSilent s.time.annAt s.time.annLog = false ∨ s.timeState = 4) :
    s.announceTimeout = s.extSilent := if_pos (h.imp_left fun hs => by rw [hs]; rfl)

theorem announceTimeout_silent (h : s.annSilent s.time.annAt s.time.annLog = true) (hst : s.timeState ≠ 4) {u : State}
    (hu : ({ s.extSilent with time := { s.extSilent.time with master := none } } : State) = u) :
    s.announceTimeout
      = if s.flag timeBase TIME_CTRL_ROLE then ((u.gmChange u.clockId).set timeBase TIME_STAT_SYNC_PORT 3).setTimeState 4
        else u := by
  subst hu
  exact if_neg (by simp [h, hst])

section
variable {p : Nat} (hp : p < 2) (hsel : s.get timeBase TIME_STAT_SYNC_PORT = p) (hstale : s.syncFresh p = false)
include hp hsel hstale

/-- A hub that follows the other ring port's stream from now on counts a switch of its path. -/
theorem syncTimeout_switch (hother : s.syncFresh (1 - p) = true) :
    s.syncTimeout = (s.set timeBase TIME_STAT_SYNC_PORT (1 - p)).bump timeBase TIME_PATH_SWITCH := by
  have h2 : p ≠ 2 := by omega
  have h3 : p ≠ 3 := by omega
  simp only [State.syncTimeout, hsel, h2, h3, hstale, hp, hother, Bool.false_eq_true, or_self, and_self, if_false, if_true]

theorem syncTimeout_lost (hother : s.syncFresh (1 - p) = false) (hst : s.timeState = 2 ∨ s.timeState = 1) :
    s.syncTimeout
      = ((s.bump timeBase TIME_SYNC_TMO).set timeBase TIME_STAT_SYNC_PORT 3).setTimeState
          (if s.timeState = 2 then 3 else 0) := by
  have h2 : p ≠ 2 := by omega
  have h3 : p ≠ 3 := by omega
  have hlost : s.syncTimeout
      = if s.timeState = 2 then ((s.bump timeBase TIME_SYNC_TMO).set timeBase TIME_STAT_SYNC_PORT 3).setTimeState 3
        else if s.timeState = 1 then ((s.bump timeBase TIME_SYNC_TMO).set timeBase TIME_STAT_SYNC_PORT 3).setTimeState 0
        else s := by
    simp only [State.syncTimeout, hsel, h2, h3, hstale, hother, Bool.false_eq_true, or_self, and_false, if_false]
  rcases hst with hlocked | hacquiring
  · rw [hlost, if_pos hlocked, if_pos hlocked]
  · have hnot : s.timeState ≠ 2 := by omega
    rw [hlost, if_neg hnot, if_pos hacquiring, if_neg hnot]

end

/-! ### Holdover, slews and refused jumps (R215, R228, R230) -/

theorem holdoverEnd_due (hst : s.timeState = 3) (hdue : s.time.holdAt + s.get timeBase TIME_HOLD_MS * 1000000 ≤ s.uptime) :
    s.holdoverEnd
      = ((s.setTimeState 0).evt timeBase TIME_EVT 4).raise .timeHoldoverEnd (srcIsland 2) 0
          (leBytes 4 ((s.uptime - s.time.holdAt) / 1000000)) := if_pos ⟨hst, hdue⟩

theorem slewDone_consumed (h : s.time.slew = 0) :
    s.slewDone = { s with time := { s.time with slewing := false } } := if_pos h

theorem acceptJump_refused (h : s.flag timeBase TIME_STAT_JUMP_REFUSED = true) :
    s.acceptJump
      = ({ s with time := { s.time with accept := true } } : State).set timeBase TIME_STAT_JUMP_REFUSED 0 := if_pos h

theorem acceptJump_none (h : s.flag timeBase TIME_STAT_JUMP_REFUSED = false) : s.acceptJump = s :=
  if_neg (Bool.eq_false_iff.mp h)

end

/-! ### The rows of messages and timers -/

theorem exec_pdelaySend {s : State} {p : Fin 6} (hp : s.PortRuns p.val) :
    exec (.pdelaySend p) s = .next (s.after (s.pdelayDue p.val)) :=
  run_port p.val (fun s => s.pdelayDue p.val) hp

section
variable {s : State} (hl : s.Live)
include hl

theorem exec_syncSend (p : Fin 6) : exec (.syncSend p) s = .next (s.after (s.syncDue p.val)) :=
  run_live (fun s => s.syncDue p.val) hl

theorem exec_announceSend (p : Fin 6) : exec (.announceSend p) s = .next (s.after (s.announceNext p.val)) :=
  run_live (fun s => s.announceNext p.val) hl

theorem exec_slewDone : exec .slewDone s = .next (s.after s.slewDone) := run_up State.slewDone hl.1

theorem exec_timeAcceptJump : exec .timeAcceptJump s = .next (s.after s.acceptJump) := run_live State.acceptJump hl

end

section
variable {s : State} (hc : s.Clocked)
include hc

theorem exec_announceTimeout : exec .announceTimeout s = .next (s.after s.announceTimeout) :=
  run_ring State.announceTimeout hc

theorem exec_syncTimeout : exec .syncTimeout s = .next (s.after s.syncTimeout) := run_ring State.syncTimeout hc

theorem exec_holdoverEnd : exec .holdoverEnd s = .next (s.after s.holdoverEnd) := run_ring State.holdoverEnd hc

end

/-- Settles O29: each row is one operation on the port or the time island, and each clause is that operation's case. -/
theorem timeTimers : Obligations.TimeTimers := by
  refine ⟨fun s p => ⟨?pdelay, ?sync, ?notMaster, ?announce⟩,
    fun s hc hl => ⟨⟨?quiet, ?silent⟩, ?switch, ?lost, ?holdover, ?slew, ?accepted, ?none⟩⟩
  case pdelay =>
    intro hp hon hup hint
    rw [exec_pdelaySend hp, pdelayDue_due hon hup hint]
  case sync =>
    intro hl hm hint
    rw [exec_syncSend hl, syncDue_due hm hint]
  case notMaster =>
    intro hl hm
    rw [exec_syncSend hl, exec_announceSend hl, syncDue_notMaster hm, announceNext_notMaster hm]
    exact ⟨rfl, rfl⟩
  case announce =>
    intro d hl hd hm hint
    rw [exec_announceSend hl, announceNext_due hm hint hd]
  case quiet =>
    intro h
    rw [exec_announceTimeout hc, announceTimeout_quiet h]
    rfl
  case silent =>
    intro h hst u
    rw [exec_announceTimeout hc, announceTimeout_silent h hst rfl]
    exact ⟨fun hrole => by rw [if_pos hrole]; rfl, fun hrole => by rw [if_neg (Bool.eq_false_iff.mp hrole)]; rfl⟩
  case switch =>
    intro p hsel hstale hother
    rw [exec_syncTimeout hc, syncTimeout_switch p.isLt hsel hstale hother]
  case lost =>
    intro p hsel hcope hdrag hst
    have hstale : ∀ q : Nat, q < 2 → s.syncFresh q = false
      | 0, _ => hcope
      | 1, _ => hdrag
    rw [exec_syncTimeout hc, syncTimeout_lost p.isLt hsel (hstale _ p.isLt) (hstale _ (by omega)) hst]
  case holdover =>
    intro hst hdue
    rw [exec_holdoverEnd hc, holdoverEnd_due hst hdue]
  case slew =>
    intro h
    rw [exec_slewDone hl, slewDone_consumed h]
  case accepted =>
    intro h
    rw [exec_timeAcceptJump hl, acceptJump_refused h]
  case none =>
    intro h
    rw [exec_timeAcceptJump hl, acceptJump_none h]

/-! ### Scheduled actions and the pop of a transmit timestamp (R234 to R236) -/

section
variable {s : State}

/-- An action that runs on time makes its writes in order, as initiator 2 by the model's choice (log entry 3). -/
theorem actionRun_onTime {a : Action} (hlate : a.late = false) (hv : a.validOnly = false) :
    s.actionRun a = (s.evt timeBase TIME_EVT 7).regWrites 2 a.writes := by
  simp only [State.actionRun, hlate, hv, Bool.false_eq_true, false_and, if_false]

/-- Of the actions due only the one that comes first fires (log entry 76). -/
theorem actionFire_first {id i : Nat} {a : Action} (h : (s.actionList.find? fun p => p.2.id == id) = some (i, a))
    (hdue : a.due ≤ s.ring) (hfirst : s.actionBefore a = false) :
    s.actionFire id = (s.setAction i (a.next s.ring)).actionRun a := by
  simp only [State.actionFire, h, Nat.not_lt.mpr hdue, hfirst, Bool.false_eq_true, or_self, if_false]

variable (hl : s.Live)
include hl

theorem exec_actionFire (id : BitVec 16) : exec (.actionFire id) s = .next (s.after (s.actionFire id.toNat)) :=
  run_live (fun s => s.actionFire id.toNat) hl

/-- The row reads all 16 bytes of the front entry (log entry 74). -/
theorem exec_tsqPop (p : Fin 6) (who : Who) :
    exec (.tsqPop p who) s
      = .next (s.after (let r := s.spaceRead (whoCode who) 0 (timePort p.val + 0x30) 16 (whoRing who)
          r.2.2.emit (.readData r.1 r.2.1))) :=
  run_live (fun s =>
    let r := s.spaceRead (whoCode who) 0 (timePort p.val + 0x30) 16 (whoRing who)
    r.2.2.emit (.readData r.1 r.2.1)) hl

end

/-- Settles O30: a firing is one operation on the action that is first, and the pop is the read of its port's queue words. -/
theorem actionRows : Obligations.ActionRows := by
  refine fun s hl => ⟨fun id i a ha hdue hfirst hlate hv => ?fire, exec_tsqPop hl⟩
  rw [exec_actionFire hl, actionFire_first ha hdue hfirst, actionRun_onTime hlate hv]

end Sys2Proof.Machine

/-! The commands of group 0x04: the time state, the role, timed actions, and the counter set, stepped or slewed. -/

namespace Sys2Proof.Machine

section
variable {s : State} {k : CmdKey} {e : CmdEntry}

/-! ### TIME_ROLE (R238) -/

/-- The parameters of TIME_ROLE are in range (Table 8.7). -/
def CmdEntry.roleFits (e : CmdEntry) : Prop :=
  e.arg 0 1 ≤ 1 ∧ e.arg 1 1 ≤ 1 ∧ e.arg 5 1 ≤ 4 ∧ e.arg 6 1 ≤ 127 ∧ e.arg 7 1 ≤ 1

theorem completes_timeRole_badParam (h : ¬ e.roleFits) : s.Completes k e (.timeRole k) 0x0401 8 0x22 [] s :=
  completes_of_done rfl rfl (if_pos (by unfold CmdEntry.roleFits at h; omega))

/-- A hub that is not GRANDMASTER takes the new values at once, by the model's choice (log entry 139). -/
theorem completes_timeRole (h : e.roleFits) {w : Nat}
    (hw : e.arg 0 1 + 2 * e.arg 1 1 + 4 * e.arg 7 1 + 2 ^ 4 * e.arg 5 1 + 2 ^ 8 * e.arg 6 1 + 2 ^ 16 * e.arg 2 1
      + 2 ^ 24 * e.arg 3 1 = w) :
    s.Completes k e (.timeRole k) 0x0401 8 0 []
      ((s.roleHold.set timeBase TIME_CLOCKQ_CLOCK_CLASS (e.arg 4 1)).regWrite 2 timeBase (BitVec.ofNat 32 w)) := by
  subst hw
  exact completes_of_done rfl rfl (if_neg (by unfold CmdEntry.roleFits at h; omega))

/-! ### TIME_SCHEDULE (R235, R238) -/

/-- The instant a TIME_SCHEDULE names. -/
def CmdEntry.scheduleAt (e : CmdEntry) : Nat := e.arg 0 6 * nsPerSec + e.arg 6 4

/-- What placing the action of a TIME_SCHEDULE comes to: none while no slot is free. -/
def State.schedulePlaced (s : State) (e : CmdEntry) : Option (Nat × State) :=
  s.placeAction e.scheduleAt (e.arg 12 4) (e.arg 16 4) (e.arg 10 1 == 1) (scheduleWrites e)

/-- How a TIME_SCHEDULE of sound parameters ends. -/
def State.scheduleRes (s : State) (e : CmdEntry) : CmdRes :=
  match s.schedulePlaced e with
  | none => .no s 0x0401
  | some r =>
    if e.scheduleAt < s.ring + 10000 then .no s 0x0402
    else if e.arg 10 1 = 1 ∧ !s.timeValid then .no s 0x40
    else .done 0 (leBytes 4 r.1) r.2

/-- The lengths that TIME_SCHEDULE takes. -/
theorem scheduleLength_ok {n : Nat} (hmod : n % 8 = 4) (hlo : 20 ≤ n) : (n % 8 == 4 && decide (20 ≤ n)) = true := by
  simp [hmod, hlo]

theorem completes_timeSchedule_count {n : Nat} (hn : (n % 8 == 4 && decide (20 ≤ n)) = true)
    (h : e.arg 11 1 = 0 ∨ 16 < e.arg 11 1) : s.Completes k e (.timeSchedule k) 0x0402 n 0x22 [] s :=
  completes_of_done rfl hn (if_pos h)

section
variable {n : Nat} (hn : (n % 8 == 4 && decide (20 ≤ n)) = true) (hlo : 1 ≤ e.arg 11 1) (hhi : e.arg 11 1 ≤ 16)
include hn hlo hhi

theorem completes_timeSchedule_length (hlen : e.ps.length ≠ 20 + 8 * e.arg 11 1) :
    s.Completes k e (.timeSchedule k) 0x0402 n 0x21 [] s :=
  completes_of_done rfl hn ((if_neg (by omega)).trans (if_pos hlen))

variable (hlen : e.ps.length = 20 + 8 * e.arg 11 1)
include hlen

theorem completes_timeSchedule_badParam (hok : scheduleOk e = false) :
    s.Completes k e (.timeSchedule k) 0x0402 n 0x22 [] s :=
  completes_of_done rfl hn ((if_neg (by omega)).trans ((if_neg (not_not.mpr hlen)).trans (if_pos (by rw [hok]; rfl))))

theorem completes_timeSchedule (hok : scheduleOk e = true) {st : Nat} {res : List Byte} {t : State}
    (hres : s.scheduleRes e = .done st res t) : s.Completes k e (.timeSchedule k) 0x0402 n st res t :=
  completes_of_done rfl hn
    ((if_neg (by omega)).trans ((if_neg (not_not.mpr hlen)).trans ((if_neg (by simp [hok])).trans hres)))

end

theorem scheduleRes_noSlot (h : s.schedulePlaced e = none) : s.scheduleRes e = .done 0x0401 [] s := by
  rw [State.scheduleRes, h]
  rfl

section
variable {id : Nat} {t : State} (h : s.schedulePlaced e = some (id, t))
include h

/-- An instant less than 10 µs ahead is too near. -/
theorem scheduleRes_near (hat : e.scheduleAt < s.ring + 10000) : s.scheduleRes e = .done 0x0402 [] s := by
  rw [State.scheduleRes, h]
  exact if_pos hat

variable (hat : s.ring + 10000 ≤ e.scheduleAt)
include hat

theorem scheduleRes_notValid (hv : e.arg 10 1 = 1) (ht : s.timeValid = false) :
    s.scheduleRes e = .done 0x40 [] s := by
  rw [State.scheduleRes, h]
  exact (if_neg (Nat.not_lt.mpr hat)).trans (if_pos ⟨hv, by rw [ht]; rfl⟩)

theorem scheduleRes_placed (hv : e.arg 10 1 = 1 → s.timeValid = true) :
    s.scheduleRes e = .done 0 (leBytes 4 id) t := by
  have hvalid : ¬ (e.arg 10 1 = 1 ∧ (!s.timeValid) = true) := fun ⟨hone, hnot⟩ => by simp [hv hone] at hnot
  rw [State.scheduleRes, h]
  exact (if_neg (Nat.not_lt.mpr hat)).trans (if_neg hvalid)

end

/-! ### TIME_CANCEL (R237) -/

section
variable {i : Nat} {a : Action}

theorem actionCancel_ahead (h : s.ring < a.due) : s.actionCancel i a = some (a.fired, s.setAction i none) := if_pos h

theorem actionCancel_oneShot (h : a.due ≤ s.ring) (hp : a.period = 0) : s.actionCancel i a = none :=
  (if_neg (Nat.not_lt.mpr h)).trans (if_pos hp)

/-- The firing that is due still runs, as the last one. -/
theorem actionCancel_periodic (h : a.due ≤ s.ring) (hp : a.period ≠ 0) :
    s.actionCancel i a = some (a.fired + 1, s.setAction i (some { a with repeat_ := a.fired + 1 })) :=
  (if_neg (Nat.not_lt.mpr h)).trans (if_neg hp)

end

theorem completes_timeCancel_badParam (h : e.arg 2 2 ≠ 0) : s.Completes k e (.timeCancel k) 0x0403 4 0x22 [] s :=
  completes_of_done rfl rfl (if_pos h)

section
variable (hz : e.arg 2 2 = 0)
include hz

theorem completes_timeCancel_unknown (h : (s.actionList.find? fun p => p.2.id == e.arg 0 2) = none) :
    s.Completes k e (.timeCancel k) 0x0403 4 0x0403 [] s :=
  completes_of_done rfl rfl ((if_neg (not_not.mpr hz)).trans (by simp only [h, CmdRes.no]))

section
variable {p : Nat × Action} (h : (s.actionList.find? fun p => p.2.id == e.arg 0 2) = some p)
include h

theorem completes_timeCancel {n : Nat} {t : State} (hc : s.actionCancel p.1 p.2 = some (n, t)) :
    s.Completes k e (.timeCancel k) 0x0403 4 0 (leBytes 4 n) t :=
  completes_of_done rfl rfl ((if_neg (not_not.mpr hz)).trans (by simp only [h, hc]))

theorem completes_timeCancel_gone (hc : s.actionCancel p.1 p.2 = none) :
    s.Completes k e (.timeCancel k) 0x0403 4 0x0403 [] s :=
  completes_of_done rfl rfl ((if_neg (not_not.mpr hz)).trans (by simp only [h, hc, CmdRes.no]))

end

end

/-! ### TIME_SET (R214, R215, R238) -/

theorem completes_timeSet_synchronised (h0 : s.timeState ≠ 0) (h4 : s.timeState ≠ 4) :
    s.Completes k e (.timeSet k) 0x8400 16 0x24 [] s :=
  completes_of_done rfl rfl (if_pos ⟨h0, h4⟩)

section
variable (hst : s.timeState = 0 ∨ s.timeState = 4)
include hst

theorem completes_timeSet_reserved (h : e.arg 1 3 ≠ 0) : s.Completes k e (.timeSet k) 0x8400 16 0x22 [] s :=
  completes_of_done rfl rfl ((if_neg (by omega)).trans (if_pos h))

variable (hz : e.arg 1 3 = 0)
include hz

theorem completes_timeSet {t : State} (h : s.timeSet e = some t) : s.Completes k e (.timeSet k) 0x8400 16 0 [] t :=
  completes_of_done rfl rfl ((if_neg (by omega)).trans ((if_neg (not_not.mpr hz)).trans (by simp only [h, CmdRes.yes])))

theorem completes_timeSet_badParam (h : s.timeSet e = none) : s.Completes k e (.timeSet k) 0x8400 16 0x22 [] s :=
  completes_of_done rfl rfl ((if_neg (by omega)).trans ((if_neg (not_not.mpr hz)).trans (by simp only [h, CmdRes.no])))

end

end

/-! ### The obligation -/

/-- Settles O54: each clause is one command's case. -/
theorem timeCommands : Obligations.TimeCommands := by
  refine fun s k e n => ⟨?status, ⟨completes_timeRole_badParam, fun hfits => completes_timeRole hfits rfl⟩, ?refused,
    completes_timeCancel_badParam, completes_timeSet_reserved, ?schedule, ?cancel, completes_timeSet_synchronised, ?set⟩
  case status => exact completes_of_done rfl rfl rfl
  case refused =>
    intro hmod hlo
    have hn := scheduleLength_ok hmod hlo
    exact ⟨completes_timeSchedule_count hn, completes_timeSchedule_length hn, completes_timeSchedule_badParam hn⟩
  case schedule =>
    intro m at_ placed hlo hhi hlen hps hok
    have hn := scheduleLength_ok (n := n) (by omega) (by omega)
    have hends {st : Nat} {res : List Byte} {t : State} :
        s.scheduleRes e = .done st res t → s.Completes k e (.timeSchedule k) 0x0402 n st res t :=
      completes_timeSchedule hn hlo hhi (hps.trans hlen) hok
    refine ⟨fun h => hends (scheduleRes_noSlot h), fun id t h => ⟨fun hat => hends (scheduleRes_near h hat), ?_, ?_⟩⟩
    · exact fun hat hv ht => hends (scheduleRes_notValid h hat hv ht)
    · exact fun hat hv => hends (scheduleRes_placed h hat hv)
  case cancel =>
    intro found hz
    refine ⟨completes_timeCancel_unknown hz, fun p h => ⟨fun hdue => ?_, fun hdue hp => ?_, fun hdue hp => ?_⟩⟩
    · exact completes_timeCancel hz h (actionCancel_ahead hdue)
    · exact completes_timeCancel_gone hz h (actionCancel_oneShot hdue hp)
    · exact completes_timeCancel hz h (actionCancel_periodic hdue hp)
  case set => exact fun hst hz => ⟨fun t => completes_timeSet hst hz, completes_timeSet_badParam hst hz⟩

end Sys2Proof.Machine

/-! The ordered merge: the order of its records, the held record it comes to first, and when that one may leave. -/

namespace Sys2Proof.Machine

/-! ### The order of records (R249) -/

theorem before_iff (a b : LRec) :
    a.before b = true ↔ a.stamp < b.stamp ∨ (a.stamp = b.stamp ∧ (a.node < b.node ∨ (a.node = b.node ∧ (a.unit < b.unit
      ∨ (a.unit = b.unit ∧ a.sseq < b.sseq))))) := by
  unfold LRec.before
  split_ifs <;> (rw [decide_eq_true_iff]; omega)

theorem before_irrefl (a : LRec) : a.before a = false := by
  rw [Bool.eq_false_iff, ne_eq, before_iff]
  omega

theorem before_asymm {a b : LRec} (h : a.before b = true) : b.before a = false := by
  rw [before_iff] at h
  rw [Bool.eq_false_iff, ne_eq, before_iff]
  omega

/-- The order is total up to equal places, so that coming nowhere before is transitive. -/
theorem not_before_trans {a b c : LRec} (hab : a.before b = false) (hbc : b.before c = false) : a.before c = false := by
  rw [Bool.eq_false_iff, ne_eq, before_iff] at *
  omega

/-! ### The first held record (R249) -/

theorem firstHeld_eq_none {hs : List (LRec × Nat × Nat)} (h : firstHeld hs = none) : hs = [] := by
  cases hs with
  | nil => rfl
  | cons g hs =>
    unfold firstHeld at h
    split at h
    · cases h
    · split at h <;> cases h

theorem firstHeld_cons_of_some (h : LRec × Nat × Nat) {hs : List (LRec × Nat × Nat)} {m : LRec × Nat × Nat}
    (hm : firstHeld hs = some m) : firstHeld (h :: hs) = if m.1.before h.1 then some m else some h := by
  rw [firstHeld, hm]

/-- Where a record is held there is a first one: it is held, and none held comes before it. -/
theorem firstHeld_least {hs : List (LRec × Nat × Nat)} (hne : hs ≠ []) :
    ∃ m, firstHeld hs = some m ∧ m ∈ hs ∧ ∀ h ∈ hs, h.1.before m.1 = false := by
  induction hs with
  | nil => exact absurd rfl hne
  | cons g hs ih =>
    cases hrest : firstHeld hs with
    | none =>
      obtain rfl := firstHeld_eq_none hrest
      exact ⟨g, rfl, List.mem_singleton_self g, by simp [before_irrefl]⟩
    | some m =>
      obtain ⟨m', hm', hmem, hleast⟩ := ih fun hnil => by simp [hnil, firstHeld] at hrest
      obtain rfl : m = m' := Option.some.inj (hrest.symm.trans hm')
      rw [firstHeld_cons_of_some g hrest]
      by_cases hlt : m.1.before g.1 = true
      · exact ⟨m, if_pos hlt, List.mem_cons_of_mem _ hmem,
          List.forall_mem_cons.mpr ⟨before_asymm hlt, hleast⟩⟩
      · have hge : m.1.before g.1 = false := Bool.eq_false_iff.mpr hlt
        exact ⟨g, if_neg hlt, List.mem_cons_self, List.forall_mem_cons.mpr
          ⟨before_irrefl _, fun h hh => not_before_trans (hleast h hh) hge⟩⟩

/-- Settles O10: the order spelled out, and a least held record by induction on the held ones. -/
theorem mergeOrder : Obligations.MergeOrder := ⟨before_iff, fun _ => firstHeld_least⟩

/-! ### The release of the first held record (R251, R252) -/

section
variable {s : State}

theorem mayRelease_byWm_iff (r : LRec) :
    (s.mayRelease r).1 = true
      ↔ ∀ i ∈ s.subsInUse, s.lagging i = true ∨ s.subHolds i r.stamp = false ∨ r.stamp ≤ s.subWm i := by
  simp only [State.mayRelease, List.all_eq_true, Bool.or_eq_true, Bool.not_eq_true', decide_eq_true_iff, or_assoc]

theorem mayRelease_byTime_iff (r : LRec) : (s.mayRelease r).2 = true ↔ r.stamp + s.horizon ≤ s.storeNow :=
  decide_eq_true_iff

theorem releaseNext_empty (h : s.ledger.hold = []) : s.releaseNext = s := by
  rw [State.releaseNext, h, firstHeld]

section
variable {h : LRec × Nat × Nat} (hf : firstHeld s.ledger.hold = some h)
include hf

theorem releaseNext_byWm (hw : (s.mayRelease h.1).1 = true) : s.releaseNext = s.releaseRec h := by
  simp only [State.releaseNext, hf, hw, if_true]

section
variable (hw : (s.mayRelease h.1).1 = false)
include hw

/-- The horizon forces out a record that a watermark does not yet reach. -/
theorem releaseNext_forced (ht : (s.mayRelease h.1).2 = true) :
    s.releaseNext = (s.releaseRec h).bump ledgerBase LEDGER_FORCED := by
  simp only [State.releaseNext, hf, hw, ht, Bool.false_eq_true, if_false, if_true]

theorem releaseNext_held (ht : (s.mayRelease h.1).2 = false) : s.releaseNext = s := by
  simp only [State.releaseNext, hf, hw, ht, Bool.false_eq_true, if_false]

end

/-- A record that one subscription's watermark does not reach stays until the horizon expires. -/
theorem releaseNext_of_behind
    (hb : ∃ i ∈ s.subsInUse, s.lagging i = false ∧ s.subHolds i h.1.stamp = true ∧ s.subWm i < h.1.stamp)
    (ht : s.storeNow < h.1.stamp + s.horizon) : s.releaseNext = s := by
  obtain ⟨i, hi, hlag, hholds, hwm⟩ := hb
  refine releaseNext_held hf (Bool.eq_false_iff.mpr fun hw => ?_)
    (Bool.eq_false_iff.mpr fun hexp => absurd ((mayRelease_byTime_iff h.1).mp hexp) (Nat.not_le.mpr ht))
  rcases (mayRelease_byWm_iff h.1).mp hw i hi with hl | hout | hle
  · simp [hlag] at hl
  · simp [hholds] at hout
  · omega

theorem releaseNext_of_passed
    (hp : ∀ i ∈ s.subsInUse, s.lagging i = true ∨ s.subHolds i h.1.stamp = false ∨ h.1.stamp ≤ s.subWm i) :
    s.releaseNext = s.releaseRec h := releaseNext_byWm hf ((mayRelease_byWm_iff h.1).mpr hp)

end

end

end Sys2Proof.Machine

/-! The ledger's rows: watermark frames due, frames taken, the release, subscriptions that fall behind and gaps declared lost:
the effect of each under its condition, then what the row answers. -/

namespace Sys2Proof.Machine

/-! ### Watermark frames (R247) -/

section
variable {s : State} {c : Nat}

theorem watermarkSend_due (hen : s.flag ledgerBase LEDGER_CTRL_EN = true) (hpub : (s.pubSources c).isEmpty = false)
    (hord : s.flag (ctxBase c) CTX_CTRL_FAST = false)
    (hdue : Tbl.get (fun _ => 0) s.ledger.sentAt c + 1000 * clampNat 1 10 (s.get ledgerBase LEDGER_CFG_WM_INT_US)
      ≤ s.uptime + 1) : s.watermarkSend c = s.publish c [] :=
  if_pos ⟨hen, by rw [hpub]; rfl, by rw [hord]; rfl, hdue⟩

theorem watermarkSend_none (h : s.flag ledgerBase LEDGER_CTRL_EN = false ∨ s.pubSources c = []
    ∨ s.flag (ctxBase c) CTX_CTRL_FAST = true) : s.watermarkSend c = s := by
  refine if_neg fun ⟨hen, hpub, hord, _⟩ => ?_
  rcases h with hstopped | hempty | hfast
  · simp [hstopped] at hen
  · simp [hempty] at hpub
  · simp [hfast] at hord

end

/-! ### Ledger and image frames (R246, R247) -/

section
variable {s : State} {f : List Byte}

/-- A frame that names no node or is of another EtherType is not the ledger's. -/
theorem ledgerRx_foreign (h : ledgerNode f = none ∨ s.ledgerBody f = none) (image : Bool) : s.ledgerRx f image = s := by
  rcases h with hnode | hbody
  · rw [State.ledgerRx, hnode]
  · rw [State.ledgerRx, hbody]
    cases ledgerNode f <;> rfl

section
variable {node : Nat} {b : List Byte} (hnode : ledgerNode f = some node) (hbody : s.ledgerBody f = some b)
  (htakes : s.ledgerTakes node = true)
include hnode hbody htakes

theorem ledgerRx_malformed (hok : bodyOk b = false) (image : Bool) :
    s.ledgerRx f image = s.bump ledgerBase LEDGER_BAD_FRAME := by
  simp only [State.ledgerRx, hnode, hbody, htakes, hok, Bool.not_true, Bool.not_false, Bool.false_eq_true, if_false, if_true]

variable (hok : bodyOk b = true)
include hok

theorem ledgerRx_ledger (hkind : leAt b 0 1 % 16 = 0) (hen : s.flag ledgerBase LEDGER_CTRL_EN = true) :
    s.ledgerRx f false = s.takeLedger b := by
  simp [State.ledgerRx, hnode, hbody, htakes, hok, hkind, hen]

theorem ledgerRx_image (hkind : leAt b 0 1 % 16 = 1) : s.ledgerRx f true = s.takeImage b := by
  simp [State.ledgerRx, hnode, hbody, htakes, hok, hkind]

end

end

/-! ### Subscriptions that fall behind, and gaps (R252, R255) -/

section
variable {s : State} {i : Nat}

theorem lagJudge_behind (hused : s.subUsed i = true) (hlag : s.lagging i = false)
    (hwm : s.subWm i + s.horizon < s.storeNow) :
    s.lagJudge i = (s.set (subBase i) SUB_CFG_LAGGING 1).evt ledgerBase LEDGER_EVT 4 :=
  if_pos ⟨hused, by rw [hlag]; rfl, hwm⟩

theorem gapExpire_none (h : ((s.sub i).ahead.find? fun a => decide (a.2.1 + s.horizon ≤ s.uptime)) = none) :
    s.gapExpire i = s := by
  simp only [State.gapExpire, h]

/-- A gap is lost up to the first record behind it, with one marker for the whole run of missing values, by the model's choice
(log entry 79). -/
theorem gapExpire_lost {a : Nat × Nat × Nat}
    (h : ((s.sub i).ahead.find? fun a => decide (a.2.1 + s.horizon ≤ s.uptime)) = some a) :
    let x := s.sub i
    let b := x.ahead.foldl (fun m b => if sseqAhead m.1 b.1 then b else m) a
    let n := (b.1 + 2 ^ 32 - x.next) % 2 ^ 32
    let r := advance x.ahead.length b.1 x.ahead
    let t := (s.bumpBy ledgerBase LEDGER_GAP n).remoteMarker i 2 b.2.2 n x.next
    s.gapExpire i
      = (t.setSub i { x with next := r.1, ahead := r.2, lost := x.lost ++ sseqRun x.next n }).settleWm i := by
  simp only [State.gapExpire, h]

end

/-! ### The rows -/

section
variable {s : State} (hl : s.Live)
include hl

theorem exec_watermarkFrameSend (c : Fin 1024) :
    exec (.watermarkFrameSend c) s = .next (s.after (s.watermarkSend c.val)) :=
  run_live (fun s => s.watermarkSend c.val) hl

theorem exec_ledgerFrameRx (f : List Byte) : exec (.ledgerFrameRx f) s = .next (s.after (s.ledgerRx f false)) :=
  run_live (fun s => s.ledgerRx f false) hl

theorem exec_imageFrameRx (f : List Byte) : exec (.imageFrameRx f) s = .next (s.after (s.ledgerRx f true)) :=
  run_live (fun s => s.ledgerRx f true) hl

/-- Each evaluation of a release settles the subscriptions too, by the model's choice (log entry 78). -/
theorem exec_ledgerRelease : exec .ledgerRelease s = .next (s.after s.releaseNext.subsSettle) :=
  run_live (fun s => s.releaseNext.subsSettle) hl

theorem exec_subscriptionLagging (i : Fin 256) :
    exec (.subscriptionLagging i) s = .next (s.after (s.lagJudge i.val)) := run_live (fun s => s.lagJudge i.val) hl

theorem exec_sseqGapExpire (i : Fin 256) : exec (.sseqGapExpire i) s = .next (s.after (s.gapExpire i.val)) :=
  run_live (fun s => s.gapExpire i.val) hl

end

/-- Settles O31: each row is one operation on the ledger, and each clause is that operation's case. -/
theorem ledgerRows : Obligations.LedgerRows := by
  refine ⟨fun s hl => ⟨?due, ?none, ?taken, ?malformed, ?foreign, ?empty, ?released, ?forced, ?lagging, ?noGap, ?gap⟩,
    fun s h hf => ⟨releaseNext_of_behind hf, releaseNext_of_passed hf⟩⟩
  case due =>
    intro c hen hpub hord hdue
    rw [exec_watermarkFrameSend hl, watermarkSend_due hen hpub hord hdue]
  case none =>
    intro c h
    rw [exec_watermarkFrameSend hl, watermarkSend_none h]
  case taken =>
    intro f node b hnode hbody htakes hok hkind hen
    rw [exec_ledgerFrameRx hl, ledgerRx_ledger hnode hbody htakes hok hkind hen]
  case malformed =>
    intro f node b hnode hbody htakes hok
    rw [exec_ledgerFrameRx hl, ledgerRx_malformed hnode hbody htakes hok]
  case foreign =>
    intro f h
    rw [exec_ledgerFrameRx hl, exec_imageFrameRx hl, ledgerRx_foreign h, ledgerRx_foreign h]
    exact ⟨rfl, rfl⟩
  case empty =>
    intro h
    rw [exec_ledgerRelease hl, releaseNext_empty h]
  case released =>
    intro h hf hw
    rw [exec_ledgerRelease hl, releaseNext_byWm hf hw]
  case forced =>
    intro h hf hw ht
    rw [exec_ledgerRelease hl, releaseNext_forced hf hw ht]
  case lagging =>
    intro i hused hlag hwm
    rw [exec_subscriptionLagging hl, lagJudge_behind hused hlag hwm]
  case noGap =>
    intro i h
    rw [exec_sseqGapExpire hl, gapExpire_none h]
  case gap =>
    intro i a h
    exact (exec_sseqGapExpire hl i).trans (by rw [gapExpire_lost h])

end Sys2Proof.Machine

/-! The process image's rows: publication, mirrors, staleness and the map's staged words: the effect of each under its condition,
then what the row answers. -/

namespace Sys2Proof.Machine

/-! ### Publication and staleness (R265, R266) -/

section
variable {s : State}

theorem pimgPublish_on {c : Nat} (hen : s.flag pimgBase PIMG_CTRL_EN = true) :
    s.pimgPublish c
      = (groups21 ((s.pubSlots c).length + 1) (s.pubSlots c)).foldl (fun (s : State) g => s.imageFrame c g) s :=
  if_neg (by simp [hen])

/-- Before the first write a slot's age counts from when its entry was set, by the model's choice (log entry 81). -/
theorem slotExpire_due {n : Nat} (hlimit : (s.slotMap n).staleMs ≠ 0)
    (hsince : max (s.slotMap n).wrote (s.slotMap n).setAt ≠ 0) (hfresh : bitAt (s.slotStatus n) 2 = false)
    (hdue : max (s.slotMap n).wrote (s.slotMap n).setAt + 1000000 * (s.slotMap n).staleMs ≤ s.uptime + 1) :
    s.slotExpire n = s.slotStale n :=
  if_pos ⟨hlimit, hsince, by rw [hfresh]; rfl, hdue⟩

/-! ### The map's words (R262) -/

/-- No unit that can be absent, fenced or gated holds the words of the map, so the hub's own write there takes effect at once. -/
theorem regWrite_mapWord {a : Nat} (ha : a = pimgBase + 8 ∨ a = pimgBase + 0x1C) (w : Word) :
    s.regWrite 2 a w = s.writePimg 2 a w := by
  rcases ha with rfl | rfl
  · exact regWrite_applies (by decide) rfl rfl (.inl (by decide)) (.inl rfl)
  · exact regWrite_applies (by decide) rfl rfl (.inl (by decide)) (.inl rfl)

/-- A write of PIMG_MAP_SEL loads the selected entry into the staged words. -/
theorem writePimg_mapSel (init : Nat) (w : Word) {t : State} (ht : s.fieldsWrite init (pimgBase + 8) w = t) {m : SlotMap}
    (hm : t.slotMap (t.get pimgBase PIMG_MAP_SEL_SLOT) = m) :
    s.writePimg init (pimgBase + 8) w
      = (((t.wr (pimgBase + 0x10) (BitVec.ofNat 32 m.w0)).wr (pimgBase + 0x14) (BitVec.ofNat 32 m.w1)).wr (pimgBase + 0x18)
          (BitVec.ofNat 32 m.w2)).wr (pimgBase + 0x1C) (BitVec.ofNat 32 m.w3) := by
  subst hm ht
  simp only [State.writePimg, if_true]

/-- A write of PIMG_MAP_W3 commits the staged words, where they spell a valid entry. -/
theorem writePimg_mapW3 (init : Nat) (w : Word) {t : State} (ht : s.fieldsWrite init (pimgBase + 0x1C) w = t) :
    s.writePimg init (pimgBase + 0x1C) w
      = let n := t.get pimgBase PIMG_MAP_SEL_SLOT
        let m := t.stagedMap
        if t.mapValid m.1 m.2.1 m.2.2.1 m.2.2.2 then t.slotMapSet n m.1 m.2.1 m.2.2.1 m.2.2.2
        else t.raise .pimgMapBad (srcIsland 1) 0 (leBytes 2 n) := by
  have hsel : pimgBase + 0x1C ≠ pimgBase + 8 := by decide
  subst ht
  simp only [State.writePimg, if_neg hsel, if_true]

end

/-! ### The rows -/

section
variable {s : State} (hl : s.Live)
include hl

theorem exec_pimgPublish (c : Fin 1024) : exec (.pimgPublish c) s = .next (s.after (s.pimgPublish c.val)) :=
  run_live (fun s => s.pimgPublish c.val) hl

theorem exec_slotStale (n : Fin 16384) : exec (.slotStale n) s = .next (s.after (s.slotExpire n.val)) :=
  run_live (fun s => s.slotExpire n.val) hl

theorem exec_pimgMapSelect (n : BitVec 14) :
    exec (.pimgMapSelect n) s = .next (s.after (s.regWrite 2 (pimgBase + 8) (n.setWidth 32))) :=
  run_live (fun s => s.regWrite 2 (pimgBase + 8) (n.setWidth 32)) hl

theorem exec_pimgMapCommit (w : Word) :
    exec (.pimgMapCommit w) s = .next (s.after (s.regWrite 2 (pimgBase + 0x1C) w)) :=
  run_live (fun s => s.regWrite 2 (pimgBase + 0x1C) w) hl

end

/-- Settles O32: each row is one operation on the image or one register write, and each clause is its case. -/
theorem imageRows : Obligations.ImageRows := by
  refine fun s hl => ⟨?publish, ?taken, ?stale, ?select, ?commit⟩
  case publish =>
    intro c hen
    rw [exec_pimgPublish hl, pimgPublish_on hen]
  case taken =>
    intro f node b hnode hbody htakes hok hkind
    rw [exec_imageFrameRx hl, ledgerRx_image hnode hbody htakes hok hkind]
  case stale =>
    intro n hlimit hsince hfresh hdue
    rw [exec_slotStale hl, slotExpire_due hlimit hsince hfresh hdue]
  case select =>
    intro n
    rw [exec_pimgMapSelect hl, regWrite_mapWord (.inl rfl), writePimg_mapSel 2 _ rfl rfl]
  case commit =>
    intro w
    rw [exec_pimgMapCommit hl, regWrite_mapWord (.inr rfl), writePimg_mapW3 2 w rfl]

end Sys2Proof.Machine

/-! The commands of group 0x05: subscriptions, the ledger's settings and triggers, and the map of the process image. -/

namespace Sys2Proof.Machine

section
variable {s : State} {k : CmdKey} {e : CmdEntry}

/-! ### SUBSCRIBE (R248) -/

/-- The instant at which a SUBSCRIBE or an UNSUBSCRIBE asks its subscription to begin or to end, 0 for now. -/
def CmdEntry.rangeAt (e : CmdEntry) : Nat := e.arg 4 6 * nsPerSec + e.arg 10 4

/-- A SUBSCRIBE names a source of this hub. -/
def State.subscribesOwn (s : State) (e : CmdEntry) : Bool := e.arg 0 1 == 0 || (s.hasNode && e.arg 0 1 == s.nodeId)

/-- The reserved bytes, the stamp and the source of a SUBSCRIBE are sound. -/
structure State.SubscribeFits (s : State) (e : CmdEntry) : Prop where
  node : e.arg 0 1 ≠ 255
  reserved : e.arg 2 2 = 0
  tail : e.arg 14 2 = 0
  nanos : e.arg 10 4 < nsPerSec
  source : (if s.subscribesOwn e then s.sourceOk (e.arg 1 1) else sourceCode (e.arg 1 1)) = true

theorem State.SubscribeFits.not_bad (h : s.SubscribeFits e) :
    ¬ (e.arg 0 1 = 255 ∨ e.arg 2 2 ≠ 0 ∨ e.arg 14 2 ≠ 0 ∨ nsPerSec ≤ e.arg 10 4
      ∨ (!(if s.subscribesOwn e then s.sourceOk (e.arg 1 1) else sourceCode (e.arg 1 1))) = true) := by
  rw [h.source, Bool.not_true]
  simp [h.node, h.reserved, h.tail, h.nanos]

theorem find_unusedSub_none (h : ∀ i < 256, s.subUsed i = true) :
    ((List.range 256).find? fun i => !s.subUsed i) = none :=
  List.find?_range_eq_none.mpr fun i hi => by rw [h i hi]; rfl

theorem find_unusedSub_some {i : Nat} (hi : i < 256) (hfree : s.subUsed i = false) (hlow : ∀ j < i, s.subUsed j = true) :
    ((List.range 256).find? fun i => !s.subUsed i) = some i :=
  List.find?_range_eq_some.mpr ⟨by rw [hfree]; rfl, List.mem_range.mpr hi, fun j hj => by rw [hlow j hj]; rfl⟩

section
variable {t : State} (ht : s.freeSubs = t) (hfit : t.SubscribeFits e)
include ht hfit

theorem completes_subscribe_full (hfull : ∀ i < 256, t.subUsed i = true) :
    s.Completes k e (.subscribe k) 0x0500 16 0x0501 [] t := by
  subst ht
  exact completes_of_done rfl rfl ((if_neg hfit.not_bad).trans (by simp only [find_unusedSub_none hfull, CmdRes.no]))

section
variable {i : Nat} (hfree : ((List.range 256).find? fun i => !t.subUsed i) = some i)
include hfree

theorem completes_subscribe_twice (hfound : (t.findSub (e.arg 0 1) (e.arg 1 1) (t.subscribesOwn e)).isSome = true) :
    s.Completes k e (.subscribe k) 0x0500 16 0x0502 [] t := by
  subst ht
  refine completes_of_done rfl rfl ((if_neg hfit.not_bad).trans ?_)
  simp only [hfree]
  exact if_pos hfound

/-- The places are tried before the source and the source before the stamp, by the model's choice (log entry 78). -/
theorem completes_subscribe (hnew : t.findSub (e.arg 0 1) (e.arg 1 1) (t.subscribesOwn e) = none)
    (hstart : e.rangeAt ≠ 0 → t.storeNow ≤ e.rangeAt ∧ t.timeValid = true) {at_ : Nat}
    (hat : (if e.rangeAt = 0 then t.storeNow + t.horizon else e.rangeAt) = at_) :
    s.Completes k e (.subscribe k) 0x0500 16 0 (leBytes 4 i ++ stampBytes at_ ++ leBytes 2 0)
      (t.subscribe i (e.arg 0 1) (e.arg 1 1) at_) := by
  subst ht hat
  have hknown : ¬ (s.freeSubs.findSub (e.arg 0 1) (e.arg 1 1) (s.freeSubs.subscribesOwn e)).isSome = true := by simp [hnew]
  have hpast : ¬ (e.rangeAt ≠ 0 ∧ e.rangeAt < s.freeSubs.storeNow) := fun ⟨hne, hlt⟩ =>
    absurd (hstart hne).1 (Nat.not_le.mpr hlt)
  have hvalid : ¬ (e.rangeAt ≠ 0 ∧ (!s.freeSubs.timeValid) = true) := fun ⟨hne, hnot⟩ => by simp [(hstart hne).2] at hnot
  refine completes_of_done rfl rfl ((if_neg hfit.not_bad).trans ?_)
  simp only [hfree]
  exact (if_neg hknown).trans ((if_neg hpast).trans (if_neg hvalid))

end

end

/-! ### UNSUBSCRIBE (R248) -/

section
variable (hz : e.arg 2 2 = 0) (htail : e.arg 14 2 = 0) (hns : e.arg 10 4 < nsPerSec)
include hz htail hns

theorem completes_unsubscribe_unused (hfree : s.subUsed (e.arg 0 2) = false) :
    s.Completes k e (.unsubscribe k) 0x0501 16 0x0503 [] s :=
  completes_of_done rfl rfl ((if_neg (by omega)).trans (if_pos (.inr (by rw [hfree]; rfl))))

theorem completes_unsubscribe (hi : e.arg 0 2 < 256) (hused : s.subUsed (e.arg 0 2) = true)
    (hstop : e.rangeAt ≠ 0 → s.storeNow ≤ e.rangeAt) {at_ : Nat}
    (hat : (if e.rangeAt = 0 then s.storeNow else e.rangeAt) = at_) :
    s.Completes k e (.unsubscribe k) 0x0501 16 0 (stampBytes at_ ++ leBytes 2 0) (s.setSubEnd (e.arg 0 2) at_).freeSubs := by
  subst hat
  have hknown : ¬ (256 ≤ e.arg 0 2 ∨ (!s.subUsed (e.arg 0 2)) = true) := by simp [hused, hi]
  have hpast : ¬ (e.rangeAt ≠ 0 ∧ e.rangeAt < s.storeNow) := fun ⟨hne, hlt⟩ => absurd (hstop hne) (Nat.not_le.mpr hlt)
  exact completes_of_done rfl rfl ((if_neg (by omega)).trans ((if_neg hknown).trans (if_neg hpast)))

end

/-! ### LEDGER_CONFIG and LEDGER_SET (R268) -/

theorem ledgerSizes_ok (hwm : 1 ≤ e.arg 1 1 ∧ e.arg 1 1 ≤ 10) (hh : 2 ≤ e.arg 4 4 ∧ e.arg 4 4 ≤ 10000)
    (hfast : e.arg 2 2 < s.partCount 4)
    (hen : s.flag ledgerBase LEDGER_CTRL_EN = true → e.arg 2 2 = s.get ledgerBase LEDGER_FAST_INGOTS) :
    s.ledgerSizes e
      = .done 0 [] (((s.set ledgerBase LEDGER_CFG_WM_INT_US (e.arg 1 1)).set ledgerBase LEDGER_CFG_HORIZON_US (e.arg 4 4)).set
          ledgerBase LEDGER_FAST_INGOTS (e.arg 2 2)) :=
  (if_neg (by omega)).trans (if_neg fun ⟨hrun, hne⟩ => hne (hen hrun))

section
variable (hlen : e.ps.length = 8)
include hlen

theorem completes_ledgerConfig_sizes (hop : e.arg 0 1 = 1) {t : State} (h : s.ledgerSizes e = .done 0 [] t) :
    s.Completes k e (.ledgerConfig k) 0x0502 8 0 [] t :=
  completes_of_done rfl rfl (by simp [hop, hlen, h])

theorem completes_ledgerConfig_publish (hop : e.arg 0 1 = 2) (hsrc : s.sourceOk (e.arg 1 1) = true)
    (hctx : e.arg 2 2 = 0 ∨ (5 ≤ e.arg 2 2 ∧ e.arg 2 2 ≤ 1023)) (hfast : e.arg 4 1 ≤ 1) (hz : e.arg 5 3 = 0) :
    s.Completes k e (.ledgerConfig k) 0x0502 8 0 []
      (s.regWrite 2 (ledgerBase + 0x400 + 4 * e.arg 1 1) (BitVec.ofNat 32 (e.arg 2 2 + 2 ^ 12 * e.arg 4 1))) := by
  have hok : ¬ ((!s.sourceOk (e.arg 1 1)) = true ∨ (e.arg 2 2 ≠ 0 ∧ e.arg 2 2 < 5) ∨ 1023 < e.arg 2 2 ∨ 1 < e.arg 4 1
      ∨ e.arg 5 3 ≠ 0) := by
    rintro (hno | hbad)
    · simp [hsrc] at hno
    · omega
  exact completes_of_done rfl rfl ((if_neg (by omega)).trans ((if_neg (by simp [hop, hlen])).trans
    ((if_neg (by omega)).trans ((if_pos hop).trans (if_neg hok)))))

theorem completes_ledgerConfig_run (hop : e.arg 0 1 = 3) (hen : e.arg 1 1 ≤ 1) (hz : e.arg 2 6 = 0) :
    s.Completes k e (.ledgerConfig k) 0x0502 8 0 [] (s.regWrite 2 ledgerBase (BitVec.ofNat 32 (e.arg 1 1))) :=
  completes_of_done rfl rfl ((if_neg (by omega)).trans ((if_neg (by simp [hop, hlen])).trans
    ((if_neg (by omega)).trans ((if_neg (by omega)).trans ((if_pos hop).trans (if_neg (by omega)))))))

end

theorem completes_ledgerConfig_trigger (hlen : e.ps.length = 84) (hop : e.arg 0 1 = 4) {t : State}
    (h : s.trigSet e = .done 0 [] t) : s.Completes k e (.ledgerConfig k) 0x0502 84 0 [] t :=
  completes_of_done rfl rfl (by simp [hop, hlen, h])

/-! ### PIMG_MAP (R262, R268) -/

section
variable (hn : e.idx < s.slotCount) (hz : e.arg 1 3 = 0)
include hn hz

theorem completes_pimgMap_set (hop : e.arg 0 1 = 1)
    (hvalid : s.mapValid (e.arg 4 4) (e.arg 8 4) (e.arg 12 4) (e.arg 16 4) = true) :
    s.Completes k e (.pimgMap k) 0x0503 20 0 []
      (s.slotMapSet e.idx (e.arg 4 4) (e.arg 8 4) (e.arg 12 4) (e.arg 16 4)) :=
  completes_of_done rfl rfl ((if_neg (by omega)).trans (by simp only [hop]; exact if_pos hvalid))

theorem completes_pimgMap_read (hop : e.arg 0 1 = 2) {m : SlotMap} (hm : s.slotMap e.idx = m) :
    s.Completes k e (.pimgMap k) 0x0503 20 0 (leBytes 4 m.w0 ++ leBytes 4 m.w1 ++ leBytes 4 m.w2 ++ leBytes 4 m.w3) s :=
  completes_of_done rfl rfl ((if_neg (by omega)).trans (by simp only [hop, hm]))

theorem completes_pimgMap_clear (hop : e.arg 0 1 = 3) :
    s.Completes k e (.pimgMap k) 0x0503 20 0 [] (s.slotMapSet e.idx 0 0 0 0) :=
  completes_of_done rfl rfl ((if_neg (by omega)).trans (by simp only [hop, CmdRes.yes]))

end

end

end Sys2Proof.Machine

/-! The commands of group 0x06: user windows, straight wires, interrupt routes and held Salvage slots. -/

namespace Sys2Proof.Machine

section
variable {s : State} {k : CmdKey} {e : CmdEntry}

/-! ### BRIDGE_WINDOW (R284, R290, R293, R294) -/

/-- BRIDGE_WINDOW does what its operation comes to. -/
theorem completes_bridgeWindow {t : State}
    (h : e.arg 0 1 = 1 ∧ s.windowSet e = .done 0 [] t ∨ e.arg 0 1 = 2 ∧ s.wireSet e = .done 0 [] t
      ∨ e.arg 0 1 = 3 ∧ s.routeSet e = .done 0 [] t) : s.Completes k e (.bridgeWindow k) 0x0601 12 0 [] t := by
  refine completes_of_done rfl rfl ?_
  rcases h with ⟨hop, h⟩ | ⟨hop, h⟩ | ⟨hop, h⟩ <;> simp only [hop, h]

/-- A window is disabled before its words are set, by the model's choice (log entry 85). -/
theorem windowSet_ok (hw : e.arg 1 1 ≤ 7) (hspace : e.arg 2 1 ≤ 3) (hen : e.arg 3 1 ≤ 1) (hbase : e.arg 4 4 % 4 = 0)
    (hsize : 4 ≤ e.arg 8 4 ∧ e.arg 8 4 ≤ 65536 ∧ e.arg 8 4 % 4 = 0)
    (hfits : e.arg 4 4 + e.arg 8 4 ≤ s.spaceSize (e.arg 2 1)) {b : Nat} (hb : 0x601500 + 0x10 * e.arg 1 1 = b) :
    s.windowSet e
      = .done 0 [] ((s.set b BRIDGE_UWIN_CFG_EN 0).regWrites 2
          [(b + 4, e.arg 4 4), (b + 8, e.arg 8 4), (b, e.arg 2 1 + 2 ^ 16 * e.arg 3 1)]) := by
  subst hb
  exact if_neg (by omega)

/-- A wire is set where its lines belong to no armed safety function and, enabled, nothing speaks against it. -/
theorem wireSet_ok (hw : e.arg 1 1 ≤ 7) (hbits : e.arg 2 1 ≤ 1 ∧ e.arg 3 1 ≤ 1) (hkind : e.arg 5 1 ≤ 2) (hz : e.arg 7 5 = 0)
    (hsrc : e.arg 4 1 < s.nDio) (hline : e.arg 5 1 = 2 → e.arg 6 1 < s.nDio ∧ s.lineSafety (e.arg 6 1) = false)
    (hpin : e.arg 5 1 = 1 → e.arg 6 1 ≤ 3) (hsafe : s.lineSafety (e.arg 4 1) = false) {t : State}
    (ht : s.wr (wireBase (e.arg 1 1)) (BitVec.ofNat 32 (e.arg 4 1 + 2 ^ 8 * e.arg 3 1 + 2 ^ 9 * e.arg 2 1 + 2 ^ 12 * e.arg 5 1
      + 2 ^ 16 * e.arg 6 1)) = t) (hreason : e.arg 2 1 = 1 → t.wireReason (e.arg 1 1) = 0) :
    s.wireSet e = .done 0 [] t.wiresEval := by
  subst ht
  have hfit : ¬ (7 < e.arg 1 1 ∨ 1 < e.arg 2 1 ∨ 1 < e.arg 3 1 ∨ 2 < e.arg 5 1 ∨ e.arg 7 5 ≠ 0 ∨ s.nDio ≤ e.arg 4 1
      ∨ (e.arg 5 1 = 2 ∧ s.nDio ≤ e.arg 6 1) ∨ (e.arg 5 1 = 1 ∧ 3 < e.arg 6 1)) := by omega
  have hfree : ¬ (s.lineSafety (e.arg 4 1) = true ∨ (e.arg 5 1 = 2 ∧ s.lineSafety (e.arg 6 1) = true)) := by
    rintro (hs | ⟨htwo, hd⟩)
    · simp [hsafe] at hs
    · simp [(hline htwo).2] at hd
  exact (if_neg hfit).trans ((if_neg hfree).trans (if_neg fun ⟨hen, hr⟩ => hr (hreason hen)))

theorem routeSet_ok (hk : e.arg 1 1 ≤ 30) (hen : e.arg 2 1 ≤ 1) (hpin : e.arg 3 1 ≤ 3) (hz : e.arg 4 8 = 0) {t : State}
    (ht : s.wr 0x601020 (putBits (s.rd 0x601020) (e.arg 1 1) 1 (e.arg 2 1)) = t) {m : Nat}
    (hm : (if e.arg 1 1 < 16 then 0x601024 else 0x601028) = m) :
    s.routeSet e = .done 0 [] (t.wr m (putBits (t.rd m) (2 * (e.arg 1 1 % 16)) 2 (e.arg 3 1))) := by
  subst ht hm
  exact if_neg (by omega)

/-! ### SALVAGE_READ (R294) -/

section
variable (hn : e.arg 0 1 ≤ 7) (hfree : e.arg 1 1 ≤ 1) (hz : e.arg 2 2 = 0)
include hn hfree hz

theorem completes_salvageRead_empty (hheld : (s.salv (e.arg 0 1)).held = false) :
    s.Completes k e (.salvageRead k) 0x0602 4 0x0602 [] s :=
  completes_of_done rfl rfl ((if_neg (by omega)).trans (if_pos (by rw [hheld]; rfl)))

theorem completes_salvageRead {x : Salvage} (hx : s.salv (e.arg 0 1) = x) (hheld : x.held = true) :
    s.Completes k e (.salvageRead k) 0x0602 4 0
      (leBytes 1 x.init ++ leBytes 1 x.code ++ leBytes 2 x.len ++ leBytes 6 x.addr ++ leBytes 2 0
        ++ leBytes 4 (shortStamp x.stamp) ++ (x.data ++ List.replicate x.len 0#8).take x.len)
      (if e.arg 1 1 = 1 then s.salvDrop (e.arg 0 1) else s) := by
  subst hx
  exact completes_of_done rfl rfl ((if_neg (by omega)).trans (if_neg (by rw [hheld]; decide)))

end

end

/-! ### The obligation -/

/-- Settles O55: each clause is one command's case. -/
theorem ledgerCommands : Obligations.LedgerCommands := by
  refine ⟨fun s k e => ⟨?subscribe, ?unsubscribe, ?config, ?trigger, completes_of_done rfl rfl rfl, ?map⟩,
    fun s k e => ⟨completes_of_done rfl rfl rfl, ?window, ?wire, ?route, ?salvage, completes_of_done rfl rfl rfl⟩⟩
  case subscribe =>
    intro t node c own start at_ hnode hz htail hns hsrc
    have hfit : t.SubscribeFits e := ⟨hnode, hz, htail, hns, hsrc⟩
    refine ⟨completes_subscribe_full rfl hfit, fun i hi hfree hlow => ?_⟩
    have hplace := find_unusedSub_some hi hfree hlow
    exact ⟨completes_subscribe_twice rfl hfit hplace, fun hnew hstart => completes_subscribe rfl hfit hplace hnew hstart rfl⟩
  case unsubscribe =>
    intro i stop at_ hz htail hns hi
    exact ⟨completes_unsubscribe_unused hz htail hns,
      fun hused hstop => completes_unsubscribe hz htail hns hi hused hstop rfl⟩
  case config =>
    intro hlen
    refine ⟨fun hop hwm hwm' hh hh' hfast hen => ?_, fun hop hsrc hctx hfast hz => ?_, fun hop hen hz => ?_⟩
    · exact completes_ledgerConfig_sizes hlen hop (ledgerSizes_ok ⟨hwm, hwm'⟩ ⟨hh, hh'⟩ hfast hen)
    · exact completes_ledgerConfig_publish hlen hop hsrc hctx hfast hz
    · exact completes_ledgerConfig_run hlen hop hen hz
  case trigger =>
    intro b words put hlen hop ht hz hbyte
    exact completes_ledgerConfig_trigger hlen hop (if_neg (by omega))
  case map =>
    intro n m hn hz
    exact ⟨completes_pimgMap_set hn hz, fun hop => completes_pimgMap_read hn hz hop rfl, completes_pimgMap_clear hn hz⟩
  case window =>
    intro b size hop hw hspace hen hbase hlo hhi hmod hfits
    exact completes_bridgeWindow (.inl ⟨hop, windowSet_ok hw hspace hen hbase ⟨hlo, hhi, hmod⟩ hfits rfl⟩)
  case wire =>
    intro t hop hw hen hinv hkind hz hsrc hline hpin hsafe hreason
    exact completes_bridgeWindow
      (.inr (.inl ⟨hop, wireSet_ok hw ⟨hen, hinv⟩ hkind hz hsrc hline hpin hsafe rfl hreason⟩))
  case route =>
    intro t m hop hk hen hpin hz
    exact completes_bridgeWindow (.inr (.inr ⟨hop, routeSet_ok hk hen hpin hz rfl rfl⟩))
  case salvage =>
    intro x hn hfree hz
    exact ⟨completes_salvageRead_empty hn hfree hz, completes_salvageRead hn hfree hz rfl⟩

end Sys2Proof.Machine

/-! The rows of the xSPI port and of the bridge's own work: what a transaction comes to by its shape, what the queue and the
Ladles do under each condition, then what the row answers. -/

namespace Sys2Proof.Machine

/-! ### xSPI transactions (R273, R275 to R278) -/

section
variable {s : State} {t : XspiTx}

theorem xspiWrite_badLen (hlen : t.len.toNat = 0 ∨ 256 < t.len.toNat) :
    s.xspiWrite t = s.bump bridgeBase BRIDGE_XSPI_BADCMD :=
  if_pos (.inr hlen)

variable (hop : t.opcodeOk = true)
include hop

/-- A READ or CAS of a bad shape is answered with its CODE, a CAS above 256 bytes like a READ (log entry 84). -/
theorem xspiRead_badShape {cas : Bool} {code : Nat} (hshape : xspiShape t.len.toNat cas = some code) :
    s.xspiRead t cas = (s.bump bridgeBase BRIDGE_XSPI_RD).xspiAnswer false false code [] t.clocked := by
  simp only [State.xspiRead, hop, hshape, Bool.not_true, Bool.false_eq_true, if_false]

/-- A READ or CAS of a good shape is looked up, the operands of a CAS with it. -/
theorem xspiRead_goodShape {cas : Bool} (hheld : s.inHeld = false) (hhost : s.hostDown = false)
    (hshape : xspiShape t.len.toNat cas = none) :
    s.xspiRead t cas
      = (s.bump bridgeBase BRIDGE_XSPI_RD).xspiFind t.addr.toNat t.len.toNat
          (if cas then t.data.take t.len.toNat ++ t.swap.take t.len.toNat else []) t.clocked := by
  simp only [State.xspiRead, hop, hshape, hheld, hhost, Bool.not_true, Bool.false_eq_true, if_false]

/-- An opcode and a length that the port takes. -/
theorem xspiWrite_notBad (hlen : t.len.toNat ≠ 0) (hmax : t.len.toNat ≤ 256) :
    ¬ ((!t.opcodeOk) = true ∨ t.len.toNat = 0 ∨ 256 < t.len.toNat) := by
  simp [hop, hlen, hmax]

/-- A burst is short by the bytes clocked (log entry 84). -/
theorem xspiWrite_short (hmax : t.len.toNat ≤ 256) (hshort : t.data.length < t.len.toNat) :
    s.xspiWrite t = s.bump bridgeBase BRIDGE_XSPI_SHORT :=
  (if_neg (xspiWrite_notBad hop (by omega) hmax)).trans (if_pos hshort)

section
variable (hlen : t.len.toNat ≠ 0) (hmax : t.len.toNat ≤ 256)
  (hdata : t.len.toNat ≤ t.data.length) (hheld : s.inHeld = false) (hhost : s.hostDown = false)
include hlen hmax hdata hheld hhost

/-- A complete WRITE is posted, and counted unless the queue was full. -/
theorem xspiWrite_complete :
    s.xspiWrite t
      = if 64 ≤ s.bridge.writes.length then s.postWrite 0 t.addr.toNat (t.data.take t.len.toNat)
        else (s.postWrite 0 t.addr.toNat (t.data.take t.len.toNat)).bump bridgeBase BRIDGE_XSPI_WR := by
  have hruns : ¬ (s.inHeld = true ∨ s.hostDown = true) := by simp [hheld, hhost]
  simp only [State.xspiWrite, if_neg (xspiWrite_notBad hop hlen hmax), if_neg (Nat.not_lt.mpr hdata), if_neg hruns,
    decide_eq_true_eq]

theorem xspiWrite_posted (hroom : s.bridge.writes.length < 64) :
    s.xspiWrite t = (s.postWrite 0 t.addr.toNat (t.data.take t.len.toNat)).bump bridgeBase BRIDGE_XSPI_WR :=
  (xspiWrite_complete hop hlen hmax hdata hheld hhost).trans (if_neg (Nat.not_le.mpr hroom))

theorem xspiWrite_dropped (hfull : 64 ≤ s.bridge.writes.length) :
    s.xspiWrite t
      = ((s.bump bridgeBase BRIDGE_WQ_DROP).evt bridgeBase BRIDGE_EVT 1).raise .bridgeWqDrop (srcIsland 21)
          (s.faultAddr t.addr.toNat) (leBytes 1 0) :=
  (xspiWrite_complete hop hlen hmax hdata hheld hhost).trans ((if_pos hfull).trans (if_pos hfull))

end

end

/-! ### The posted-write queue (R273) -/

section
variable {s : State}

theorem writeIssue_front {w : PostedWrite} {rest : List PostedWrite} (hheld : s.inHeld = false)
    (hq : s.bridge.writes = w :: rest) :
    s.writeIssue
      = (({ s with bridge := { s.bridge with writes := rest } } : State).localWrite w.init w.addr w.data).writeGone w := by
  simp only [State.writeIssue, hq, hheld, Bool.false_eq_true, if_false]

/-! ### The Ladles (R280 to R282, R286) -/

/-- What the fetch of a Ladle reads, or compares and swaps, in this hub. -/
def State.ladleAccess (s : State) (x : Ladle) : Nat × List Byte × State :=
  if x.cas = [] then s.spaceRead x.init (spaceOf x.addr) (offsetOf x.addr) x.len false
  else s.spaceCas (spaceOf x.addr) (offsetOf x.addr) x.cas

/-- The state with Ladle `l` READY, its access made. -/
def State.ladleServed (s : State) (l : Nat) : State :=
  let r := s.ladleAccess (s.ladle l)
  r.2.2.ladleReady l r.1 r.2.1

section
variable {l : Nat} (hst : (s.ladle l).st = .fetching) (hsent : (s.ladle l).sent = false) (hafter : (s.ladle l).after = 0)
  (hloc : s.isLocal (s.ladle l).addr = true) (hheld : s.inHeld = false)
  (hopen : spaceOf (s.ladle l).addr ≠ 0 ∨ s.regGated (offsetOf (s.ladle l).addr) = false)
include hst hsent hafter hloc hheld hopen

/-- A local fetch that no write precedes and no gated island delays is served; what is gone ends at once. -/
theorem ladleFetch_served :
    s.ladleFetch l
      = if (s.ladle l).gone then
          if (s.ladle l).sensitive then (s.ladleServed l).ladleSalvage l else (s.ladleServed l).ladleFree l
        else s.ladleServed l := by
  have hdue : ¬ ((s.ladle l).st ≠ .fetching ∨ (s.ladle l).sent = true ∨ (s.ladle l).after ≠ 0
      ∨ (!s.isLocal (s.ladle l).addr) = true ∨ s.inHeld = true) := by
    simp [hst, hsent, hafter, hloc, hheld]
  have hawake : ¬ (spaceOf (s.ladle l).addr = 0 ∧ s.regGated (offsetOf (s.ladle l).addr) = true) := by
    rintro ⟨hspace, hgated⟩
    exact hopen.elim (fun hother => hother hspace) fun hnot => by simp [hnot] at hgated
  refine (if_neg hdue).trans ((if_neg hawake).trans ?_)
  cases (s.ladle l).gone <;> rfl

theorem ladleFetch_wanted (hgone : (s.ladle l).gone = false) : s.ladleFetch l = s.ladleServed l :=
  (ladleFetch_served hst hsent hafter hloc hheld hopen).trans (by rw [hgone, if_neg Bool.false_ne_true])

theorem ladleFetch_gone (hgone : (s.ladle l).gone = true) :
    s.ladleFetch l
      = if (s.ladle l).sensitive then (s.ladleServed l).ladleSalvage l else (s.ladleServed l).ladleFree l :=
  (ladleFetch_served hst hsent hafter hloc hheld hopen).trans (by rw [hgone, if_pos rfl])

end

section
variable {l : Nat} (hst : (s.ladle l).st = .ready)
  (hdue : (s.ladle l).readyAt + 1000 * s.get bridgeBase BRIDGE_DISCARD_US ≤ s.uptime) (hleft : s.collectComes l = false)
include hst hdue hleft

/-- A READY Ladle that nobody collects ends at its discard time, by what it holds. -/
theorem ladleDiscard_due :
    s.ladleDiscard l
      = if (s.ladle l).sensitive then s.ladleSalvage l
        else if (s.ladle l).prefetched then s.ladleFree l
        else ((s.ladleFree l).bump bridgeBase BRIDGE_DISCARDS).evt bridgeBase BRIDGE_EVT 2 := by
  refine if_neg ?_
  rintro (hnot | hearly | hcollected)
  · exact hnot hst
  · omega
  · simp [hleft] at hcollected

theorem ladleDiscard_sensitive (hsens : (s.ladle l).sensitive = true) : s.ladleDiscard l = s.ladleSalvage l := by
  rw [ladleDiscard_due hst hdue hleft, if_pos hsens]

theorem ladleDiscard_prefetched (hsens : (s.ladle l).sensitive = false) (hpre : (s.ladle l).prefetched = true) :
    s.ladleDiscard l = s.ladleFree l := by
  rw [ladleDiscard_due hst hdue hleft, hsens, if_neg Bool.false_ne_true, if_pos hpre]

theorem ladleDiscard_counted (hsens : (s.ladle l).sensitive = false) (hpre : (s.ladle l).prefetched = false) :
    s.ladleDiscard l = ((s.ladleFree l).bump bridgeBase BRIDGE_DISCARDS).evt bridgeBase BRIDGE_EVT 2 := by
  rw [ladleDiscard_due hst hdue hleft, hsens, hpre, if_neg Bool.false_ne_true, if_neg Bool.false_ne_true]

end

end

/-! ### The rows -/

section
variable {s : State} (hl : s.Live)
include hl

theorem exec_xspiRead (t : XspiTx) : exec (.xspiRead t) s = .next (s.after (s.xspiRead t false)) :=
  run_up (fun s => s.xspiRead t false) hl.1

theorem exec_xspiCas (t : XspiTx) : exec (.xspiCas t) s = .next (s.after (s.xspiRead t true)) :=
  run_up (fun s => s.xspiRead t true) hl.1

theorem exec_xspiWrite (t : XspiTx) : exec (.xspiWrite t) s = .next (s.after (s.xspiWrite t)) :=
  run_up (fun s => s.xspiWrite t) hl.1

theorem exec_xspiStatus : exec .xspiStatus s = .next (s.after s.xspiStatus) := run_up State.xspiStatus hl.1

theorem exec_postedWriteIssue : exec .postedWriteIssue s = .next (s.after s.writeIssue) := run_up State.writeIssue hl.1

theorem exec_ladleFetchDone (l : Fin 32) : exec (.ladleFetchDone l) s = .next (s.after (s.ladleFetch l.val)) :=
  run_up (fun s => s.ladleFetch l.val) hl.1

theorem exec_ladleDiscard (l : Fin 32) : exec (.ladleDiscard l) s = .next (s.after (s.ladleDiscard l.val)) :=
  run_up (fun s => s.ladleDiscard l.val) hl.1

end

/-- Settles O33: each row is one operation on the port, the queue or a Ladle, and each clause is that operation's case. -/
theorem bridgeRows : Obligations.BridgeRows := by
  refine ⟨fun s t hl hhost hop => ⟨?badRead, ?badCas, ?read, ?cas, ?posted, ?dropped, ?badLen, ?short, ?status⟩,
    fun s hl => ⟨?issue, ?fetch, ?discard⟩⟩
  case badRead =>
    intro code hshape
    rw [exec_xspiRead hl, xspiRead_badShape hop hshape]
  case badCas =>
    intro code hshape
    rw [exec_xspiCas hl, xspiRead_badShape hop hshape]
  case read =>
    intro hshape
    rw [exec_xspiRead hl, xspiRead_goodShape hop hl.2 hhost hshape, if_neg Bool.false_ne_true]
  case cas =>
    intro hshape
    rw [exec_xspiCas hl, xspiRead_goodShape hop hl.2 hhost hshape, if_pos rfl]
  case posted =>
    intro hlen hmax hdata hroom
    rw [exec_xspiWrite hl, xspiWrite_posted hop hlen hmax hdata hl.2 hhost hroom]
  case dropped =>
    intro hlen hmax hdata hfull
    rw [exec_xspiWrite hl, xspiWrite_dropped hop hlen hmax hdata hl.2 hhost hfull]
  case badLen =>
    intro hlen
    rw [exec_xspiWrite hl, xspiWrite_badLen hlen]
  case short =>
    intro _ hmax hshort
    rw [exec_xspiWrite hl, xspiWrite_short hop hmax hshort]
  case status => exact exec_xspiStatus hl
  case issue =>
    intro w rest hq
    rw [exec_postedWriteIssue hl, writeIssue_front hl.2 hq]
  case fetch =>
    intro l x hst hsent hafter hloc hopen r t
    refine ⟨fun hgone => ?_, fun hgone => ?_⟩
    · rw [exec_ladleFetchDone hl, ladleFetch_wanted hst hsent hafter hloc hl.2 hopen hgone]
      rfl
    · rw [exec_ladleFetchDone hl, ladleFetch_gone hst hsent hafter hloc hl.2 hopen hgone]
      rfl
  case discard =>
    intro l hst hdue hleft
    rw [exec_ladleDiscard hl]
    refine ⟨fun hsens => ?_, fun hsens hpre => ?_, fun hsens hpre => ?_⟩
    · rw [ladleDiscard_sensitive hst hdue hleft hsens]
    · rw [ladleDiscard_prefetched hst hdue hleft hsens hpre]
    · rw [ladleDiscard_counted hst hdue hleft hsens hpre]

end Sys2Proof.Machine

/-! The pop words of register space (Table 10.4) and the rows that read one: what such a word's place comes to, the read and what
it takes from a queue, then the rows. -/

namespace Sys2Proof.Machine

/-! ### Where the pop words lie (Table 10.4) -/

theorem popWord_iff (a : Nat) :
    popWord a = true ↔ (0x1043C ≤ a ∧ a ≤ 0x1057C) ∧ (a - 0x1043C) % 0x40 = 0
      ∨ (0x100000 ≤ a ∧ a < 0x140000) ∧ (a % 0x1000 = 0xF0 ∨ a % 0x1000 = 0xF4)
      ∨ (0x200000 ≤ a ∧ a < 0x208000) ∧ (0x100 ≤ a % 0x1000 ∧ a % 0x1000 < 0x120) ∧ a % 4 = 0
      ∨ (0x300000 ≤ a ∧ a < 0x303000) ∧ a % 0x1000 = 0xF0 ∨ a = 0x700010 := by
  simp only [popWord, Bool.or_eq_true, Bool.and_eq_true, decide_eq_true_eq, beq_iff_eq, or_assoc, and_assoc]

section
variable {a : Nat} (h : popWord a = true)
include h

theorem popWord_aligned : a % 4 = 0 := by
  rw [popWord_iff] at h
  omega

theorem popWord_mapped : regMapped a = true := by
  rw [popWord_iff] at h
  simp only [regMapped, regBlocks, List.any_cons, List.any_nil, Bool.and_eq_true, Bool.or_eq_true, Bool.not_eq_true',
    Bool.or_eq_false_iff, decide_eq_true_eq, decide_eq_false_iff_not, beq_eq_false_iff_ne, Bool.false_eq_true, or_false]
  omega

theorem popWord_noMail : mailWindow a = false := by
  rw [popWord_iff] at h
  exact decide_eq_false (by omega)

/-- A read of one pop word has a shape register space takes. -/
theorem popWord_regShape : regShape a 4 = true := by
  have ha := popWord_aligned h
  have hfits : a % 4096 + 4 ≤ 4096 := by omega
  simp [regShape, ha, hfits]

/-- Every pop word is read-sensitive (R283). -/
theorem popWord_sensitive (s : State) : s.sensitive 0 a 4 = true := by
  have ha := popWord_aligned h
  have hone : (a + 4 + 3) / 4 - a / 4 = 1 := by omega
  have hword : 4 * (a / 4) = a := by omega
  have hcov : coversPop a 4 = true := by simp [coversPop, hone, hword, h]
  simp [State.sensitive, hcov]

end

/-! ### Reading a pop word (R48, R283) -/

/-- What a read finds of the word at `a`: its island awake, its counters up to date. -/
def State.readView (s : State) (a : Nat) : State := (s.wakeFor a).regTouch a

section
variable {s : State} {who : Who} {a : Nat} (h : popWord a = true)
include h

theorem readBy_popWord_ring (hring : whoRing who = true) : s.readBy who a = s.emit (.readData stNotPermitted []) := by
  simp [State.readBy, State.spaceRead, popWord_regShape h, popWord_sensitive h, hring]

variable (hpres : s.regPresent a = true) (hopen : s.regFenced a = false)
include hpres hopen

/-- A pop word's island is woken by the read itself, by the model's choice (log entry 57). -/
theorem regRead_popWord (init : Nat) :
    s.regRead init a = (stOk, (s.readView a).regWord a, (s.readView a).regPop a) := by
  simp [State.regRead, State.readView, popWord_mapped h, popWord_noMail h, hpres, hopen, h]

/-- The row reads just the pop word (log entry 74). -/
theorem readBy_popWord_local (hring : whoRing who = false) :
    s.readBy who a
      = ((s.readView a).regPop a).emit (.readData 0 (leBytes 4 ((s.readView a).regWord a).toNat)) := by
  simp [State.readBy, State.spaceRead, State.regReads, popWord_regShape h, regRead_popWord h hpres hopen, hring, stOk,
    stNotPermitted]

theorem readBy_popWord {pop : State → State} (hpop : ∀ t : State, t.regPop a = pop t) :
    s.readBy who a
      = if whoRing who then s.emit (.readData stNotPermitted [])
        else (pop (s.readView a)).emit (.readData 0 (leBytes 4 ((s.readView a).regWord a).toNat)) := by
  cases hring : whoRing who with
  | true => exact readBy_popWord_ring h hring
  | false => rw [readBy_popWord_local h hpres hopen hring, hpop]; rfl

end

/-! ### The pop words of each unit -/

/-- The index of a register set of 4 KiB is found again from an offset in it. -/
theorem regSet_index {base n o : Nat} (ho : o < 0x1000) : (base + 0x1000 * n + o - base) / 0x1000 = n := by
  omega

section
variable {s : State}

/-! Receive and transmit-event queues of a CAN controller (R315, R323). -/

section
variable {n o : Nat} (hn : n < 64) (ho : o = 0xF0 ∨ o = 0xF4)
include hn ho

theorem popWord_can : popWord (canBase n + o) = true := by
  rw [popWord_iff, canBase]
  omega

theorem regPresent_canPop (hp : n < s.nCan) : s.regPresent (canBase n + o) = true := by
  unfold State.regPresent canBase
  rw [if_neg (by omega), if_pos (by omega), regSet_index (by omega)]
  exact decide_eq_true hp

theorem regFenced_canPop : s.regFenced (canBase n + o) = s.fenced (.canIsl (n / 16)) := by
  have hisl : (0x100000 + 0x1000 * n + o - 0x100000) / 0x10000 = n / 16 := by omega
  unfold State.regFenced regFence canBase
  rw [if_pos (by omega), hisl]

end

theorem regPop_canRxq {n : Nat} (hn : n < 64) (t : State) : t.regPop (canBase n + 0xF0) = t.rxqPop n := by
  unfold State.regPop canBase
  rw [if_neg (by omega), if_pos (by omega), regSet_index (by omega)]
  exact if_pos (by omega)

theorem regPop_canTxeq {n : Nat} (hn : n < 64) (t : State) :
    t.regPop (canBase n + 0xF4) = t.setCan n { t.can n with txeq := (t.can n).txeq.drop 1 } := by
  unfold State.regPop canBase
  rw [if_neg (by omega), if_pos (by omega), regSet_index (by omega)]
  exact if_neg (by omega)

/-! Receive queues of a Flask's engines (R340). -/

section
variable {f e : Nat} (he : e < 8)
include he

theorem flaskPop_index : (0x200000 + 0x1000 * f + 0x100 + 4 * e - 0x200000) / 0x1000 = f := by
  omega

variable (hf : f < 8)
include hf

theorem popWord_flask : popWord (flaskBase f + 0x100 + 4 * e) = true := by
  rw [popWord_iff, flaskBase]
  omega

theorem regPresent_flaskPop (hp : f < s.nFlask) : s.regPresent (flaskBase f + 0x100 + 4 * e) = true := by
  unfold State.regPresent flaskBase
  rw [if_neg (by omega), if_neg (by omega), if_pos (by omega), flaskPop_index he]
  exact decide_eq_true hp

theorem regFenced_flaskPop : s.regFenced (flaskBase f + 0x100 + 4 * e) = s.fenced (.flask f) := by
  unfold State.regFenced regFence flaskBase
  rw [if_neg (by omega), if_pos (by omega), flaskPop_index he]

theorem regPop_flask (t : State) : t.regPop (flaskBase f + 0x100 + 4 * e) = t.engPop f e := by
  have hoff : (0x200000 + 0x1000 * f + 0x100 + 4 * e) % 0x1000 = 0x100 + 4 * e := by omega
  have heng : (0x100 + 4 * e - 0x100) / 4 = e := by rw [Nat.add_sub_cancel_left, Nat.mul_div_cancel_left e (by decide)]
  unfold State.regPop flaskBase
  rw [if_neg (by omega), if_neg (by omega), if_pos (by omega), flaskPop_index he, hoff, heng]

end

/-! Event queues of a bank of discrete lines (R362). -/

section
variable {b : Nat} (hb : b < 3)
include hb

theorem popWord_dio : popWord (dioBase b + 0xF0) = true := by
  rw [popWord_iff, dioBase]
  omega

theorem regPresent_dioPop (hp : 64 * b < s.nDio) : s.regPresent (dioBase b + 0xF0) = true := by
  have hline : dioRegLine (0x300000 + 0x1000 * b + 0xF0) = none := if_neg (by omega)
  unfold State.regPresent dioBase
  rw [if_neg (by omega), if_neg (by omega), if_neg (by omega), if_pos (by omega), regSet_index (by omega), hline]
  simp [hp]

theorem regFenced_dioPop : s.regFenced (dioBase b + 0xF0) = s.fenced (.dioBank b) := by
  unfold State.regFenced regFence dioBase
  rw [if_neg (by omega), if_neg (by omega), if_pos (by omega), regSet_index (by omega)]

theorem regPop_dio (t : State) : t.regPop (dioBase b + 0xF0) = t.evqPop b := by
  unfold State.regPop dioBase
  rw [if_neg (by omega), if_neg (by omega), if_neg (by omega), if_pos (by omega), regSet_index (by omega)]

end

/-! ### The rows -/

section
variable (hl : s.Live) (who : Who)
include hl

theorem exec_canRxqPop (c : Fin 64) (hp : c.val < s.nCan) :
    exec (.canRxqPop c who) s = .next (s.after (s.readBy who (canBase c.val + 0xF0))) :=
  (run_live (fun s => if c.val < s.nCan then s.readBy who (canBase c.val + 0xF0) else s) hl).trans (by rw [if_pos hp])

theorem exec_canTxeqPop (c : Fin 64) (hp : c.val < s.nCan) :
    exec (.canTxeqPop c who) s = .next (s.after (s.readBy who (canBase c.val + 0xF4))) :=
  (run_live (fun s => if c.val < s.nCan then s.readBy who (canBase c.val + 0xF4) else s) hl).trans (by rw [if_pos hp])

theorem exec_flaskRxqPop (f e : Fin 8) (hp : f.val < s.nFlask) :
    exec (.flaskRxqPop f e who) s = .next (s.after (s.readBy who (flaskBase f.val + 0x100 + 4 * e.val))) :=
  (run_live (fun s => if f.val < s.nFlask then s.readBy who (flaskBase f.val + 0x100 + 4 * e.val) else s) hl).trans
    (by rw [if_pos hp])

theorem exec_dioEvqPop (b : Fin 3) (hp : 64 * b.val < s.nDio) :
    exec (.dioEvqPop b who) s = .next (s.after (s.readBy who (dioBase b.val + 0xF0))) :=
  (run_live (fun s => if 64 * b.val < s.nDio then s.readBy who (dioBase b.val + 0xF0) else s) hl).trans (by rw [if_pos hp])

theorem exec_faultPop : exec (.faultPop who) s = .next (s.after (s.readBy who (faultBase + 0x10))) :=
  (run_up (fun s => if s.inHeld ∧ who ≠ .xspi then s else s.readBy who (faultBase + 0x10)) hl.1).trans
    (by rw [if_neg (by simp [hl.2])])

end

end

/-- Settles O39: each row is the read of its unit's pop word, and that read gives out the word and takes it, or is refused. -/
theorem popRows : Obligations.PopRows := by
  refine fun s who hl => ⟨?canRxq, ?canTxeq, ?flask, ?dio, ?fault⟩
  case canRxq =>
    intro c hp hopen
    rw [exec_canRxqPop hl who c hp, readBy_popWord (popWord_can c.isLt (.inl rfl)) (regPresent_canPop c.isLt (.inl rfl) hp)
      ((regFenced_canPop c.isLt (.inl rfl)).trans hopen) (regPop_canRxq c.isLt)]
    rfl
  case canTxeq =>
    intro c hp hopen
    rw [exec_canTxeqPop hl who c hp, readBy_popWord (popWord_can c.isLt (.inr rfl)) (regPresent_canPop c.isLt (.inr rfl) hp)
      ((regFenced_canPop c.isLt (.inr rfl)).trans hopen) (regPop_canTxeq c.isLt)]
    rfl
  case flask =>
    intro f e hp hopen
    rw [exec_flaskRxqPop hl who f e hp, readBy_popWord (popWord_flask e.isLt f.isLt) (regPresent_flaskPop e.isLt f.isLt hp)
      ((regFenced_flaskPop e.isLt f.isLt).trans hopen) (regPop_flask e.isLt f.isLt)]
    rfl
  case dio =>
    intro b hp hopen
    rw [exec_dioEvqPop hl who b hp, readBy_popWord (popWord_dio b.isLt) (regPresent_dioPop b.isLt hp)
      ((regFenced_dioPop b.isLt).trans hopen) (regPop_dio b.isLt)]
    rfl
  case fault =>
    rw [exec_faultPop hl who, readBy_popWord (a := faultBase + 0x10) (pop := State.noticePop) rfl rfl rfl fun _ => rfl]
    rfl

end Sys2Proof.Machine

/-! Every step, and what HELD and a main die that is down leave alone. -/

namespace Sys2Proof.Machine

/-! ### Every step -/

/-- An idle step passes 2 ns, and what stands after it is what stands after a row. -/
theorem idle_after (s : State) : ∃ t, s.idle = ({ s with uptime := s.uptime + 2 } : State).after t := by
  unfold State.idle
  split
  · exact ⟨_, rfl⟩
  · exact ⟨_, rfl⟩

/-- Settles O2: a command is one of the ways to run, and an idle step ends in `State.after` too. -/
theorem everyStepCompletes : Obligations.EveryStepCompletes := by
  intro s _
  cases hq : s.pending with
  | nil =>
    obtain ⟨t, ht⟩ := idle_after s
    refine ⟨s.idle, (stepRunsFront s).2 hq, ?_⟩
    rw [ht]
    exact ⟨after_inv _ _, rfl, hq, rfl⟩
  | cons c rest =>
    obtain ⟨t, hexec, hpending, hvariant, huptime, hinv⟩ := (exec_runs c { s with pending := rest }).next
    refine ⟨t, ?_, hinv, hvariant, hpending, huptime⟩
    rw [step, hq]
    exact hexec

/-! ### HELD -/

/-- A row of an Ethernet port runs on the main die. -/
theorem runPort_run (s : State) (p : Nat) (f : State → State) : ∃ g, s.runPort p f = s.run g := by
  unfold State.runPort
  split
  · exact ⟨_, rfl⟩
  · exact ⟨_, rfl⟩

/-- A power-on with a supply left is a row of the AON island. -/
theorem exec_powerOn_warm (e : BootEnv) (s : State) (h : e.cold = false) :
    exec (.powerOn e) s = .next (s.after (s.powerOn e)) := by
  change execPowerOn e s = _
  rw [execPowerOn, h, if_neg (by decide)]
  rfl

/-- Every row but a cold power-on leaves what stands after some effect on the state it was given. -/
theorem exec_after (c : Instr) (s : State) (hc : ∀ e, c = .powerOn e → e.cold = false) :
    ∃ t, exec c s = .next (s.after t) := by
  have hport (p : Nat) (f : State → State) : ∃ t, s.runPort p f = .next (s.after t) :=
    (runPort_run s p f).elim fun g hg => ⟨_, hg⟩
  cases c with
  | powerOn e => exact ⟨_, exec_powerOn_warm e s (hc e rfl)⟩
  | macFrameRx | egressFrameStart | egressFrameEnd | mpacketPreempt | verifyRx | respondRx | verifyTimeout | gateEdge
  | gateHoldAssert | frameWindowExpire | swapLatch | gclSwap | syncRx | followUpRx | announceRx | pdelayReqRx | pdelayRespRx
  | pdelaySend => exact hport _ _
  | _ => exact ⟨_, rfl⟩

/-- Settles O5: what stands after a row keeps the HELD latch, and an idle step keeps it too. -/
theorem heldStays : Obligations.HeldStays := by
  intro s t hheld hstep hcold
  cases hq : s.pending with
  | nil =>
    obtain ⟨u, hu⟩ := idle_after s
    rw [(stepRunsFront s).2 hq, hu] at hstep
    obtain rfl := Host.Outcome.next.inj hstep
    exact after_held _ u hheld
  | cons c rest =>
    obtain ⟨u, hu⟩ := exec_after c { s with pending := rest } fun e he => hcold e rest (he ▸ hq)
    rw [step, hq] at hstep
    obtain rfl := Host.Outcome.next.inj (hu.symm.trans hstep)
    exact after_held _ u hheld

/-- In HELD no command is executed (R494). -/
theorem command_held {s : State} (h : s.inHeld = true) (k : CmdKey) (op : Nat) (len : Nat → Bool)
    (f : State → CmdEntry → CmdRes) : s.command k op len f = s := by
  unfold State.command
  cases s.entry k with
  | none => rfl
  | some e => exact if_pos (.inr h)

/-- A row of a part that HELD stops is a row of the main die without effect in HELD. -/
theorem exec_stopped {i : Instr} {s : State} (hi : runsInHeld i = false) (h : s.inHeld = true) :
    ∃ t, exec i s = .next (s.after (if s.sys.up then t else s)) ∧ t = s := by
  cases i with
  | refclkLost | timeReplicaAlign | linkFrameSend | pedieLinkTimeout | pedieLinkLostExpire | pedieLinkRestore |
  sprueWordWrite | sprueWordRead | spruePeckReturn | portBlockLock | linkTimeout | rateChangeApply | helloSend | helloRx |
  helloMiss | healHoldEnd | ringBreakDeclare | segmentNoticeApply | splitPathHoldEnd | ringFrameRx | ddForget |
  seqCounterFree | foreignClear | enumerationFrameRx | supervisionSend | supervisionRx | ringMapExpire | macFrameRx |
  egressFrameStart | egressFrameEnd | mpacketPreempt | verifyRx | respondRx | verifyTimeout | pauseTimerExpire |
  lmacLinkChange | gateEdge | gateHoldAssert | frameWindowExpire | swapLatch | gclSwap | syncRx | followUpRx | announceRx |
  pdelayReqRx | pdelayRespRx | pdelaySend | announceTimeout | syncTimeout | holdoverEnd | slewDone | xspiRead | xspiWrite |
  xspiCas | xspiStatus | postedWriteIssue | ladleFetchDone | ladleDiscard | dioCrossing | dioFilterDecide |
  dioReadbackMismatch | feedSample | feedBreakConfirm | feedDeadTimeEnd | feedBreakTimeout | feedPimgPeriod | presenceChange
  | insertDelayEnd | rampEnd | rampTimeout | gateOn | gateRiseTimeout | fastTrip | slowOvercurrent | fetStressLimit |
  fetShortDetect | fetShortClear | retryTimeEnd | retryCountClear | measurementUpdate | pchPimgPeriod | usbVbusChange |
  faultCollect | faultPop | powerOn | brownout | warmReset | standbyWake | wakeSupplyReady | aonTimeWrite | copyBlock |
  tapBypass | tapIdcode | tapSamplePreload | tapExtest | tapClamp | tapHighz | pedieSupplyRise | temperatureReading => cases hi
  | sysNop | sysIdentify | sysAbort | cmdLogRead | sysUnfence | sysWarmReset | sysPowerState | sysRegWriteList |
  sysRegReadList | storePartition | storePartDefault | storePartRead | ringStatus | ringEnumerate | ringPortConfig |
  ringPortSet | lmacConfig | statsRead | streamOpen | streamClose | streamSet | meterSet | gclLoad | timeStatus | timeRole |
  timeSchedule | timeCancel | timeSet | subscribe | unsubscribe | ledgerConfig | ledgerSet | pimgMap | bridgeStatus |
  bridgeWindow | salvageRead | bridgeSet | canOpen | canClose | canSetTiming | canSetStore | canStatus | canPair | canTx |
  canCancel | canFilterLoad | canTimeMaster | flaskLoad | flaskStart | flaskStop | flaskStatus | flaskEngineSet | dioConfig
  | dioOutput | dioSchedule | dioPwm | dioStatus | dioSet | pchOn | pchOff | pchConfig | pchStatus | pchRetryReset |
  feedConfig | feedStatus | pchSet | usbStatus | usbPortPower | usbTestMode | usbSet | pdStatus | pdRequest | pdSwap |
  pdPolicyLoad | pdSet | safeStatus | safeArm | safeDisarm | safeEmergency | laneRejoin | assayRun | safeSet | faultRead |
  faultAck | faultInject | faultSet | updStage | updVerify | updActivateAt | updStatus | bundleStage | calibRead |
  calibWrite | ownerLock => exact ⟨_, rfl, command_held h ..⟩
  | _ => exact ⟨_, rfl, if_pos h⟩

/-- Settles O6: such a row has no effect, and nothing waits that could react. -/
theorem stopsInHeld : Obligations.StopsInHeld := by
  intro s i hheld hcalm hinv hi
  obtain ⟨t, hexec, ht⟩ := exec_stopped hi hheld
  rw [hexec, ht, ite_self, after_self s hcalm hinv]

/-! ### The main die down -/

/-- Every row but those of the supplies, AON, the power-edge dies and the test access port runs on the main die. -/
theorem exec_onDie {i : Instr} (s : State) (hi : runsOffDie i = false) :
    ∃ t, exec i s = .next (s.after (if s.sys.up then t else s)) := by
  have hport (p : Nat) (f : State → State) : ∃ t, s.runPort p f = .next (s.after (if s.sys.up then t else s)) :=
    (runPort_run s p f).elim fun g hg => ⟨g s, hg⟩
  cases i with
  | macFrameRx | egressFrameStart | egressFrameEnd | mpacketPreempt | verifyRx | respondRx | verifyTimeout | gateEdge
  | gateHoldAssert | frameWindowExpire | swapLatch | gclSwap | syncRx | followUpRx | announceRx | pdelayReqRx | pdelayRespRx
  | pdelaySend => exact hport _ _
  | pedieLinkTimeout | feedSample | feedBreakConfirm | feedDeadTimeEnd | feedBreakTimeout | presenceChange | insertDelayEnd
  | rampEnd | rampTimeout | gateOn | gateRiseTimeout | fastTrip | slowOvercurrent | fetStressLimit | fetShortDetect
  | fetShortClear | retryTimeEnd | retryCountClear | measurementUpdate | powerOn | brownout | standbyWake | wakeSupplyReady
  | tapBypass | tapIdcode | tapSamplePreload | tapExtest | tapClamp | tapHighz | pedieSupplyRise => cases hi
  | _ => exact ⟨_, rfl⟩

/-- While the main die is down no reaction is taken, and a canonical state stands as it was. -/
theorem after_self_down (s : State) (h : s.sys.up = false) (hi : s.Inv) : s.after s = s := by
  unfold State.after
  simp only [h, Bool.false_eq_true, if_false, Tbl.tidy_of_wf hi.1, Tbl.tidy_of_wf hi.2, Bool.or_self]

/-- Settles O7: such a row is a row of the main die, which does nothing while that is down. -/
theorem stopsDown : Obligations.StopsDown := by
  intro s i hdown hinv hi
  obtain ⟨t, ht⟩ := exec_onDie s hi
  rw [ht, hdown, if_neg (by decide), after_self_down s hdown hinv]

/-! ### The state after reset -/

/-- Settles O4: the state after reset lists no register word and no byte, and every flag of it is a default. -/
theorem resetHolds : Obligations.ResetHolds :=
  ⟨⟨rfl, rfl⟩, rfl, rfl, rfl, rfl, fun _ => rfl, fun _ => rfl⟩

end Sys2Proof.Machine

/-! The bus of a CAN controller: the operations of the frame, the error and the recovery rows, case by case, then the rows. -/

namespace Sys2Proof.Machine

/-! ### How a row of a CAN controller runs -/

theorem run_can {s : State} {n : Nat} (f : State → State) (hl : s.Live) (hn : n < s.nCan) :
    s.runCan n f = .next (s.after (f s)) := by
  rw [State.runCan, run_live _ hl, if_pos hn]

theorem run_canBus {s : State} {n : Nat} (f : State → State) (hl : s.Live) (hn : n < s.nCan)
    (hopen : s.fenced (.canIsl (n / 16)) = false) : s.runCanBus n f = .next (s.after (f s)) := by
  rw [State.runCanBus, run_can _ hl hn, hopen, if_neg Bool.false_ne_true]

/-- On a fenced island a row of the bus does nothing (Table 1.5). -/
theorem run_canBus_fenced {s : State} {n : Nat} (f : State → State) (hl : s.Live) (hn : n < s.nCan)
    (hfence : s.fenced (.canIsl (n / 16)) = true) : s.runCanBus n f = .next (s.after s) := by
  rw [State.runCanBus, run_can _ hl hn, if_pos hfence]

section
variable (s : State) (c : Fin 64)

theorem exec_canFrameRx (f : CanRx) : exec (.canFrameRx c f) s = s.runCanBus c.val fun s => s.canFrameRx c.val f := rfl

theorem exec_canTxComplete : exec (.canTxComplete c) s = s.runCanBus c.val fun s => s.txComplete c.val := rfl

theorem exec_canArbLost : exec (.canArbLost c) s = s.runCanBus c.val fun s => s.arbLost c.val := rfl

theorem exec_canError (e : CanErr) : exec (.canError c e) s = s.runCanBus c.val fun s => s.canError c.val e := rfl

theorem exec_canRecoveryDone : exec (.canRecoveryDone c) s = s.runCanBus c.val fun s => s.canRecovered c.val := rfl

theorem exec_canIntegrationDone : exec (.canIntegrationDone c) s = s.runCanBus c.val fun s => s.canJoin c.val := rfl

theorem exec_canCloseDone : exec (.canCloseDone c) s = s.runCanBus c.val fun s => s.closeOver c.val := rfl

theorem exec_canTtInstant (i : Fin 32) :
    exec (.canTtInstant c i) s = s.runCanBus c.val fun s => s.ttInstant c.val i.val := rfl

theorem exec_canSettleEnd : exec (.canSettleEnd c) s = s.runCanBus c.val fun s => s.heldEval c.val := rfl

theorem exec_canLagFall : exec (.canLagFall c) s = s.runCan c.val fun s => s.canLagFall c.val := rfl

theorem exec_trefInstant : exec (.trefInstant c) s = s.runCanBus c.val fun s => s.trefInstant c.val := rfl

theorem exec_canTxmapPeriod (m : Fin 16) :
    exec (.canTxmapPeriod c m) s = s.runCanBus c.val fun s => s.txMapDue c.val m.val := rfl

theorem exec_canStartOfFrame : exec (.canStartOfFrame c) s = s.runCanBus c.val fun s => s.startOfFrame c.val := rfl

end

/-! ### Frames of the bus (R308, R311 to R313) -/

section
variable {s : State} {n : Nat}

theorem canFrameRx_taken {f : CanRx} (hopen : s.canOpen n = true ∨ (s.can n).closing = true)
    (hint : s.flag (canBase n) CAN_STAT_INTEGRATING = false) (hbus : s.get (canBase n) CAN_STAT_ESTATE ≠ 2)
    (hmode : s.canMode n ≠ 2) (hidle : (s.can n).active = none) :
    s.canFrameRx n f
      = (((if bitAt (s.get (canBase n) CAN_CTRL_FMT) f.fmt.val then s.ecntReceived n else s).canReceive n f
          (canGrain (if s.flag (canBase n) CAN_CTRL_STAMP_AT then s.canNow n else s.canNow n - f.age))).frameOver n) :=
  if_neg (by simpa [hint, hbus, hmode, hidle, ← Bool.not_eq_true, ← or_iff_not_imp_left] using hopen)

theorem canFrameRx_ignored (f : CanRx) (h : (s.canOpen n = false ∧ (s.can n).closing = false)
      ∨ s.flag (canBase n) CAN_STAT_INTEGRATING = true ∨ s.get (canBase n) CAN_STAT_ESTATE = 2 ∨ s.canMode n = 2
      ∨ (s.can n).active.isSome = true) : s.canFrameRx n f = s :=
  if_pos (by simpa using h)

/-! ### Own frames (R319 to R321, R324) -/

theorem startOfFrame_none (h : s.mayTransmit n = false ∨ (s.can n).tref = none ∧ s.pendingBuf n = none) :
    s.startOfFrame n = s := by
  rcases h with hnot | ⟨htref, hpend⟩
  · simp [State.startOfFrame, hnot]
  · simp [State.startOfFrame, htref, hpend]

section
variable (hmay : s.mayTransmit n = true)
include hmay

/-- The pending buffer that goes first becomes ACTIVE. -/
theorem startOfFrame_buffer {i : Nat} (htref : (s.can n).tref = none) (hpend : s.pendingBuf n = some i) :
    s.startOfFrame n
      = ((((s.setCan n { s.can n with active := some i, sof := canGrain (s.canNow n) }).set (txbBase n i) CAN_TXB_STAT_STATE
          3).set (canBase n) CAN_STAT_TX_ACTIVE 1).emit (.canFrame n (canWire (s.txFrame n i)))) := by
  simp only [State.startOfFrame, hmay, htref, hpend, Bool.not_true, Bool.false_eq_true, if_false]

/-- A due reference message goes before every buffer. -/
theorem startOfFrame_tref {m : TrefMsg} (htref : (s.can n).tref = some m) :
    s.startOfFrame n
      = ((s.setCan n { s.can n with tref := none, trefBus := some m, active := some 32, sof := canGrain (s.canNow n) }).set
          (canBase n) CAN_STAT_TX_ACTIVE 1).emit (.canFrame n (canWire (s.trefFrame n m))) := by
  simp only [State.startOfFrame, hmay, htref, Bool.not_true, Bool.false_eq_true, if_false]

end

/-- The stamp of a frame that ends now: its end or its start, as STAMP_AT says. -/
def State.ownStamp (s : State) (n : Nat) : Nat :=
  if s.flag (canBase n) CAN_CTRL_STAMP_AT then canGrain (s.canNow n) else (s.can n).sof

/-- What follows an own frame `f` whose own ending is `t`: in loopback it is received too, and the bus is free. -/
def State.ownFrameOver (t : State) (n : Nat) (f : CanRx) (stamp : Nat) : State :=
  ((if t.canMode n = 2 ∨ t.canMode n = 3 then t.canReceive n f stamp else t).frameOver n).txMapsAfter n

theorem txComplete_none (h : (s.can n).active = none) : s.txComplete n = s := by
  simp only [State.txComplete, h]

theorem txComplete_buffer {i : Nat} (h : (s.can n).active = some i) (hi : i < 32) {t : State}
    (ht : ((s.bump (canBase n) CAN_TX_FRAMES).ecntSent n).set (txbBase n i) CAN_TXB_STAMP_STAMP (shortStamp (s.ownStamp n))
      = t) :
    s.txComplete n
      = ((if t.flag (canBase n) CAN_CTRL_TX_LEDGER then t.canRecord n 3 (s.txFrame n i) (s.ownStamp n) i else t).txbEnd n i
          1).ownFrameOver n (s.txFrame n i) (s.ownStamp n) := by
  subst ht
  simp only [State.txComplete, h, hi, if_true]
  rfl

theorem txComplete_tref {m : TrefMsg} (h : (s.can n).active = some 32) (hm : (s.can n).trefBus = some m) :
    s.txComplete n
      = (((s.bump (canBase n) CAN_TX_FRAMES).ecntSent n).trefSent n).ownFrameOver n (s.trefFrame n m) (s.ownStamp n) := by
  simp only [State.txComplete, h, hm, Nat.lt_irrefl, if_false]
  rfl

theorem arbLost_none (h : (s.can n).active = none) : s.arbLost n = s :=
  if_pos (by rw [h]; rfl)

/-- The winner's frame is received after a lost arbitration, so RX_ACTIVE is 1 (log entry 87). -/
theorem arbLost_some {i : Nat} (h : (s.can n).active = some i) {t : State}
    (ht : (s.bump (canBase n) CAN_ARB_LOST).txFailed n 3 = t) :
    s.arbLost n
      = ((((t.setCan n { t.can n with active := none, trefBus := none }).set (canBase n) CAN_STAT_TX_ACTIVE 0).set (canBase n)
          CAN_STAT_RX_ACTIVE 1).txMapsAfter n) := by
  subst ht
  exact if_neg (by simp [h])

/-! ### Errors, recovery, joining and closing (R304, R305, R308) -/

theorem canError_counted (e : CanErr) (hopen : s.canOpen n = true ∨ (s.can n).closing = true)
    (hint : s.flag (canBase n) CAN_STAT_INTEGRATING = false) (hbus : s.get (canBase n) CAN_STAT_ESTATE ≠ 2) :
    s.canError n e
      = (((if (s.can n).active.isSome then
            (s.bump (canBase n) (errCounter e.kind.val)).ecntAdd n (if e.exempt then e.plus8 * 8 else 8 + e.plus8 * 8) 0
          else (s.bump (canBase n) (errCounter e.kind.val)).ecntAdd n 0 (1 + e.plus8 * 8)).txFailed n 4).frameOver n).txMapsAfter
          n :=
  if_neg (by simpa [hint, hbus, ← Bool.not_eq_true, ← or_iff_not_imp_left] using hopen)

theorem canRecovered_recovering (h : s.flag (canBase n) CAN_STAT_RECOVERING = true) :
    s.canRecovered n
      = ((((s.set (canBase n) CAN_STAT_RECOVERING 0).set (canBase n) CAN_ECNT_TEC 0).set (canBase n) CAN_ECNT_REC 0)).setEstate
          n 0 :=
  if_pos h

theorem closeOver_done (hc : (s.can n).closing = true) (hidle : (s.can n).active = none) : s.closeOver n = s.frameOver n :=
  if_pos ⟨hc, by rw [hidle]; rfl⟩

/-! ### Instants (R306, R320, R324, R327) -/

/-- A change of a buffer's registers leaves the controller's own registers alone. -/
theorem get_set_txb (s : State) (n i : Nat) (f g : Fld) (v : Nat) (hg : g.off < 0x100) :
    (s.set (txbBase n i) f v).get (canBase n) g = s.get (canBase n) g :=
  get_set_word _ _ _ _ _ _ (by unfold txbBase; omega)

section
variable {i : Nat} (hst : s.txbState n i = 1) (hat : s.txbAt n i ≤ s.canNow n)
include hst hat

/-- A WAITING buffer whose instant has come is PENDING, late where the controller cannot send (R320). -/
theorem ttInstant_due :
    s.ttInstant n i
      = if s.canHeld n = true ∨ s.get (canBase n) CAN_STAT_ESTATE = 2 then
          (s.set (txbBase n i) CAN_TXB_STAT_STATE 2).set (txbBase n i) CAN_TXB_STAT_TT_LATE 1
        else s.set (txbBase n i) CAN_TXB_STAT_STATE 2 := by
  refine (if_pos ⟨hst, hat⟩).trans ?_
  simp only [State.canHeld, State.flag, get_set_txb s n i _ CAN_STAT_HELD _ (by decide),
    get_set_txb s n i _ CAN_STAT_ESTATE _ (by decide)]
  rfl

theorem ttInstant_pending (hheld : s.canHeld n = false) (hbus : s.get (canBase n) CAN_STAT_ESTATE ≠ 2) :
    s.ttInstant n i = s.set (txbBase n i) CAN_TXB_STAT_STATE 2 :=
  (ttInstant_due hst hat).trans (if_neg (by simp [hheld, hbus]))

theorem ttInstant_late (h : s.canHeld n = true ∨ s.get (canBase n) CAN_STAT_ESTATE = 2) :
    s.ttInstant n i = (s.set (txbBase n i) CAN_TXB_STAT_STATE 2).set (txbBase n i) CAN_TXB_STAT_TT_LATE 1 :=
  (ttInstant_due hst hat).trans (if_pos h)

end

theorem heldEval_stays (h : s.canWantsHeld n = s.canHeld n ∨ s.canWantsHeld n = true ∧ s.canBusy n = true) :
    s.heldEval n = s :=
  if_pos h

theorem heldEval_changes (hne : s.canWantsHeld n ≠ s.canHeld n) (h : s.canWantsHeld n = false ∨ s.canBusy n = false) :
    s.heldEval n = (s.set (canBase n) CAN_STAT_HELD (b2n (s.canWantsHeld n))).evt (canBase n) CAN_EVT 7 :=
  if_neg (by
    rintro (heq | ⟨hw, hb⟩)
    · exact hne heq
    · simp [hw, hb] at h)

/-- A reference instant makes the next message due, and one that has not started is dropped. -/
theorem trefInstant_due {i : Nat} (hi : s.canNow n / s.trefPeriod n = i)
    (hen : s.flag (canBase n) CAN_TREF_CTRL_EN = true) (hnew : (s.can n).trefIdx < i) {m : TrefMsg}
    (hm : { cycle := s.get (canBase n) CAN_TREF_CYCLE_CYCLE, at_ := i * s.trefPeriod n, first := (s.can n).first } = m)
    {t : State} (ht : (if (s.can n).tref.isSome then
        ((s.bump (canBase n) CAN_TREF_MISS).evt (canBase n) CAN_EVT 6).trefEnd n 2 else s) = t) :
    s.trefInstant n
      = (t.setCan n { t.can n with tref := some m, first := false, trefIdx := i }).set (canBase n) CAN_TREF_CYCLE_CYCLE
          (s.get (canBase n) CAN_TREF_CYCLE_CYCLE + 1) := by
  subst hi hm ht
  exact (if_neg (by simp [hen]; omega)).trans (if_neg (by omega))

section
variable {m : Nat} (hen : s.flag (txmapBase n m) CAN_TXMAP0_EN = true)
  (hmode : s.flag (txmapBase n m) CAN_TXMAP1_MODE = true)
  (hnew : Tbl.get (fun _ => 0) (s.can n).mapIdx m < s.canNow n / s.txMapPeriod n m)
  {t : State}
  (ht : s.setCan n { s.can n with mapIdx := Tbl.put (fun _ => 0) (s.can n).mapIdx m (s.canNow n / s.txMapPeriod n m) } = t)
include hen hmode hnew ht

/-- At a new multiple of its period a map takes its slot, unless its buffer is busy (R327). -/
theorem txMapDue_due :
    s.txMapDue n m
      = match t.txMapSlot n m with
        | none => t
        | some slot =>
          if t.txbBusy n (t.get (txmapBase n m) CAN_TXMAP0_BUF) then t.bump (canBase n) CAN_TX_REFUSED
          else t.txTake n m slot := by
  subst ht
  exact (if_neg (by simp [hen, hmode]; omega)).trans (if_neg (by omega))

theorem txMapDue_noSlot (hslot : t.txMapSlot n m = none) : s.txMapDue n m = t := by
  rw [txMapDue_due hen hmode hnew ht, hslot]

theorem txMapDue_taken {slot : Nat} (hslot : t.txMapSlot n m = some slot)
    (hfree : t.txbBusy n (t.get (txmapBase n m) CAN_TXMAP0_BUF) = false) : s.txMapDue n m = t.txTake n m slot := by
  simp only [txMapDue_due hen hmode hnew ht, hslot, hfree, Bool.false_eq_true, if_false]

theorem txMapDue_busy {slot : Nat} (hslot : t.txMapSlot n m = some slot)
    (hbusy : t.txbBusy n (t.get (txmapBase n m) CAN_TXMAP0_BUF) = true) :
    s.txMapDue n m = t.bump (canBase n) CAN_TX_REFUSED := by
  simp only [txMapDue_due hen hmode hnew ht, hslot, hbusy, if_true]

end

end

/-- Every row of the bus is one of `runCanBus`. -/
theorem exec_canBusRow (s : State) (c : Fin 64) (f : CanRx) (e : CanErr) (k : Fin 32) (m : Fin 16) {i : Instr}
    (hi : i ∈ [.canFrameRx c f, .canTxComplete c, .canArbLost c, .canError c e, .canRecoveryDone c, .canIntegrationDone c,
      .canCloseDone c, .canTtInstant c k, .canSettleEnd c, .trefInstant c, .canTxmapPeriod c m, .canStartOfFrame c]) :
    ∃ g, exec i s = s.runCanBus c.val g := by
  simp only [List.mem_cons, List.not_mem_nil, or_false] at hi
  rcases hi with rfl | rfl | rfl | rfl | rfl | rfl | rfl | rfl | rfl | rfl | rfl | rfl
  · exact ⟨_, exec_canFrameRx s c f⟩
  · exact ⟨_, exec_canTxComplete s c⟩
  · exact ⟨_, exec_canArbLost s c⟩
  · exact ⟨_, exec_canError s c e⟩
  · exact ⟨_, exec_canRecoveryDone s c⟩
  · exact ⟨_, exec_canIntegrationDone s c⟩
  · exact ⟨_, exec_canCloseDone s c⟩
  · exact ⟨_, exec_canTtInstant s c k⟩
  · exact ⟨_, exec_canSettleEnd s c⟩
  · exact ⟨_, exec_trefInstant s c⟩
  · exact ⟨_, exec_canTxmapPeriod s c m⟩
  · exact ⟨_, exec_canStartOfFrame s c⟩

/-- Settles O34: each row is one operation on the controller, and each clause is that operation's case. -/
theorem canBusRows : Obligations.CanBusRows := by
  intro s c hl hn n b x
  refine ⟨?lag, ?fenced, fun hopen => ⟨?rx, ?ignored, ?noStart, ?start, ?startTref, ?sent, ?sentTref, ?idle, ?lost, ?error,
    ?recovered, ?joined, ?closed, ?tt, ?ttLate, ?stays, ?settles, ?tref, ?map⟩⟩
  case lag => rw [exec_canLagFall, run_can _ hl hn]; rfl
  case fenced =>
    intro hfence f e k m i hi
    obtain ⟨g, hg⟩ := exec_canBusRow s c f e k m hi
    rw [hg, run_canBus_fenced g hl hn hfence]
  case rx =>
    intro f hop hint hbus hmode hidle
    rw [exec_canFrameRx, run_canBus _ hl hn hopen, canFrameRx_taken hop hint hbus hmode hidle]
  case ignored =>
    intro f h
    rw [exec_canFrameRx, run_canBus _ hl hn hopen, canFrameRx_ignored f h]
  case noStart =>
    intro h
    rw [exec_canStartOfFrame, run_canBus _ hl hn hopen, startOfFrame_none h]
  case start =>
    intro i hmay htref hpend
    rw [exec_canStartOfFrame, run_canBus _ hl hn hopen, startOfFrame_buffer hmay htref hpend]
  case startTref =>
    intro m hmay htref
    rw [exec_canStartOfFrame, run_canBus _ hl hn hopen, startOfFrame_tref hmay htref]
  case sent =>
    intro i hact hi
    rw [exec_canTxComplete, run_canBus _ hl hn hopen, txComplete_buffer hact hi rfl]
    rfl
  case sentTref =>
    intro m hact hm
    rw [exec_canTxComplete, run_canBus _ hl hn hopen, txComplete_tref hact hm]
    rfl
  case idle =>
    intro hact
    rw [exec_canTxComplete, exec_canArbLost, run_canBus _ hl hn hopen, run_canBus _ hl hn hopen, txComplete_none hact,
      arbLost_none hact]
    exact ⟨rfl, rfl⟩
  case lost =>
    intro i hact
    rw [exec_canArbLost, run_canBus _ hl hn hopen, arbLost_some hact rfl]
  case error =>
    intro e hop hint hbus
    rw [exec_canError, run_canBus _ hl hn hopen, canError_counted e hop hint hbus]
  case recovered =>
    intro h
    rw [exec_canRecoveryDone, run_canBus _ hl hn hopen, canRecovered_recovering h]
  case joined =>
    intro h
    rw [exec_canIntegrationDone, run_canBus _ hl hn hopen, State.canJoin, if_pos h]
  case closed =>
    intro hc hidle
    rw [exec_canCloseDone, run_canBus _ hl hn hopen, closeOver_done hc hidle]
  case tt =>
    intro i hst hat hheld hbus
    rw [exec_canTtInstant, run_canBus _ hl hn hopen, ttInstant_pending hst hat hheld hbus]
  case ttLate =>
    intro i hst hat h
    rw [exec_canTtInstant, run_canBus _ hl hn hopen, ttInstant_late hst hat h]
  case stays =>
    intro h
    rw [exec_canSettleEnd, run_canBus _ hl hn hopen, heldEval_stays h]
  case settles =>
    intro hne h
    rw [exec_canSettleEnd, run_canBus _ hl hn hopen, heldEval_changes hne h]
  case tref =>
    intro hen hnew i m t
    rw [exec_trefInstant, run_canBus _ hl hn hopen, trefInstant_due rfl hen hnew rfl rfl]
  case map =>
    intro m hen hmode hnew t
    rw [exec_canTxmapPeriod, run_canBus _ hl hn hopen]
    refine ⟨fun hslot => ?_, fun slot hslot => ⟨fun hfree => ?_, fun hbusy => ?_⟩⟩
    · rw [txMapDue_noSlot hen hmode hnew rfl hslot]
    · rw [txMapDue_taken hen hmode hnew rfl hslot hfree]
    · rw [txMapDue_busy hen hmode hnew rfl hslot hbusy]

end Sys2Proof.Machine

/-! The registers of a CAN controller as the hub writes them: where they lie, what a write of each comes to, and the rows that are
one such write. -/

namespace Sys2Proof.Machine

/-- The blocks of the units beyond the time, ring and ledger islands are mapped whole (Table 1.7). -/
theorem regMapped_unit {a : Nat} (h : (0x100000 ≤ a ∧ a < 0x140000) ∨ (0x200000 ≤ a ∧ a < 0x208000)
      ∨ (0x300000 ≤ a ∧ a < 0x303000) ∨ (0x400000 ≤ a ∧ a < 0x404000) ∨ (0x440000 ≤ a ∧ a < 0x450000)
      ∨ (0x500000 ≤ a ∧ a < 0x580000) ∨ (0x600000 ≤ a ∧ a < 0x800000)) : regMapped a = true := by
  simp only [regMapped, regBlocks, List.any_cons, List.any_nil, Bool.and_eq_true, Bool.or_eq_true, Bool.not_eq_true',
    Bool.or_eq_false_iff, decide_eq_true_eq, decide_eq_false_iff_not, beq_eq_false_iff_ne, Bool.false_eq_true, or_false]
  omega

/-! ### Where a controller's registers lie (Table 1.7) -/

section
variable {s : State} {n o : Nat} (hn : n < 64) (ho : o < 0x1000)
include hn ho

theorem regMapped_can : regMapped (canBase n + o) = true :=
  regMapped_unit (by unfold canBase; omega)

theorem regPresent_can (hp : n < s.nCan) : s.regPresent (canBase n + o) = true := by
  unfold State.regPresent canBase
  rw [if_neg (by omega), if_pos (by omega), regSet_index ho]
  exact decide_eq_true hp

theorem regFenced_can : s.regFenced (canBase n + o) = s.fenced (.canIsl (n / 16)) := by
  have hisl : (0x100000 + 0x1000 * n + o - 0x100000) / 0x10000 = n / 16 := by omega
  unfold State.regFenced regFence canBase
  rw [if_pos (by omega), hisl]

theorem regIsland_can : regIsland (canBase n + o) = some (4 + n / 16) := by
  have hisl : (0x100000 + 0x1000 * n + o - 0x100000) / 0x10000 = n / 16 := by omega
  unfold regIsland canBase
  rw [if_pos (by omega), hisl]

theorem wakeFor_can : s.wakeFor (canBase n + o) = s.wakeFor (canBase n) := by
  have hbase := regIsland_can hn (o := 0) (by omega)
  rw [Nat.add_zero] at hbase
  simp only [State.wakeFor, regIsland_can hn ho, hbase]

theorem regApply_can (init : Nat) (w : Word) : s.regApply init (canBase n + o) w = s.writeCan init (canBase n + o) w := by
  unfold State.regApply canBase
  rw [if_neg (by omega), if_neg (by omega), if_neg (by omega), if_neg (by omega), if_neg (by omega), if_neg (by omega),
    if_pos (by omega)]

variable (hp : n < s.nCan)
include hp

/-- A write by the hub (log entry 3) wakes the controller's island at once (log entry 57). -/
theorem regWrite_can (hopen : s.fenced (.canIsl (n / 16)) = false) (w : Word) :
    s.regWrite 2 (canBase n + o) w = (s.wakeFor (canBase n)).writeCan 2 (canBase n + o) w := by
  have hmail : mailWindow (canBase n + o) = false := decide_eq_false (by unfold canBase; omega)
  rw [regWrite_applies (regMapped_can hn ho) (regPresent_can hn ho hp) ((regFenced_can hn ho).trans hopen) (.inl hmail)
    (.inr (le_refl 2)), wakeFor_can hn ho, regApply_can hn ho]

theorem regWrite_can_fenced (hfence : s.fenced (.canIsl (n / 16)) = true) (w : Word) :
    s.regWrite 2 (canBase n + o) w = s.bump 0 SYS_FENCE_WDROP :=
  regWrite_fenced (regMapped_can hn ho) (regPresent_can hn ho hp) ((regFenced_can hn ho).trans hfence)

end

/-! ### What a write of each register comes to (Table 11.11) -/

section
variable {s : State} {n : Nat}

theorem canReg_index {o : Nat} (ho : o < 0x1000) : (canBase n + o - 0x100000) / 0x1000 = n := regSet_index ho

theorem canReg_offset {o : Nat} (ho : o < 0x1000) : (canBase n + o) % 0x1000 = o := by
  unfold canBase
  omega

theorem writeCan_ctrl (init : Nat) (w : Word) : s.writeCan init (canBase n + 0) w = s.writeCanCtrl init n (canBase n) w := by
  unfold State.writeCan
  rw [canReg_index (by decide), canReg_offset (by decide), if_pos rfl]
  rfl

theorem writeCan_fltCmd (init : Nat) (w : Word) : s.writeCan init (canBase n + 0x54) w = s.fltCopy n w := by
  simp only [State.writeCan, canReg_index (show 0x54 < 0x1000 by decide), canReg_offset (show 0x54 < 0x1000 by decide)]
  rfl

/-- A write of CAN_TREF_CTRL with EN = 1 starts the reference master, EN itself apart. -/
theorem writeCan_trefEnable (init : Nat) {w : Word} (hen : w.getLsbD 0 = true) :
    s.writeCan init (canBase n + 0x30) w
      = (s.fieldsTake init (canBase n + 0x30) (putBits w 0 1 (s.get (canBase n) CAN_TREF_CTRL_EN)) w).trefStart n := by
  simp only [State.writeCan, canReg_index (show 0x30 < 0x1000 by decide), canReg_offset (show 0x30 < 0x1000 by decide), hen]
  rfl

/-- CAN_TXB_CMD of buffer `b`. -/
theorem writeCan_txbCmd {b : Nat} (hb : b < 32) (init : Nat) (w : Word) :
    s.writeCan init (canBase n + (0x120 + 0x40 * b)) w = s.writeTxb init n b (canBase n + (0x120 + 0x40 * b)) w := by
  have hbuf : (0x120 + 0x40 * b - 0x100) / 0x40 = b := by omega
  unfold State.writeCan
  rw [canReg_index (by omega), canReg_offset (by omega), if_neg (by omega), if_neg (by omega), if_neg (by omega),
    if_neg (by omega), if_neg (by omega), if_neg (by omega), if_neg (by omega), if_neg (by omega), if_neg (by omega),
    if_pos (by omega), hbuf]

theorem writeTxb_absent {b : Nat} (h : s.canTxn n ≤ b) (init a : Nat) (w : Word) : s.writeTxb init n b a w = s := if_pos h

section
variable {a b : Nat} (hb : b < s.canTxn n) (ha : a % 0x40 = 0x20)
include hb ha

theorem writeTxb_submit_free (hfree : s.txbBusy n b = false) (init : Nat) :
    s.writeTxb init n b a 1#32 = (s.txSubmit n b).txMapsAfter n := by
  simp [State.writeTxb, ha, hfree, Nat.not_le.mpr hb]

theorem writeTxb_submit_busy (hbusy : s.txbBusy n b = true) (init : Nat) :
    s.writeTxb init n b a 1#32 = (s.bump (canBase n) CAN_TX_REFUSED).txMapsAfter n := by
  simp [State.writeTxb, ha, hbusy, Nat.not_le.mpr hb]

theorem writeTxb_cancel (init : Nat) : s.writeTxb init n b a 2#32 = (s.txCancel n b).2.txMapsAfter n := by
  simp [State.writeTxb, ha, Nat.not_le.mpr hb]

end

/-! ### Opening, closing and cancelling (R304, R305, R310, R322) -/

theorem openDo_none (h : s.canOpen n = true ∨ s.canFits n = false) : s.openDo n = s :=
  if_pos (h.imp_right fun hfits => by rw [hfits]; rfl)

theorem closeBegin_closed (h : s.canOpen n = false) : s.closeBegin n = s :=
  if_pos (by rw [h]; rfl)

/-- An idle controller closes at once. -/
theorem closeBegin_idle (hopen : s.canOpen n = true) (hidle : (s.set (canBase n) CAN_CTRL_EN 0).canBusy n = false) :
    s.closeBegin n = (s.set (canBase n) CAN_CTRL_EN 0).closeFinish n :=
  (if_neg (by simp [hopen])).trans (if_neg (by simp [hidle]))

theorem txCancel_active {b : Nat} (h : s.txbState n b = 3) :
    s.txCancel n b = (1, s.set (txbBase n b) CAN_TXB_STAT_CANCEL_LATE 1) := by
  simp [State.txCancel, h]

theorem txCancel_pending {b : Nat} (h : s.txbState n b = 2) : s.txCancel n b = (0, s.txbEnd n b 2) :=
  if_pos (.inr h)

theorem txCancel_over {b : Nat} (h : s.txbState n b = 0 ∨ s.txbState n b = 4) : s.txCancel n b = (2, s) :=
  (if_neg (by omega)).trans (if_neg (by omega))

end

/-! ### The rows -/

section
variable (s : State) (c : Fin 64)

theorem exec_canEnOpen :
    exec (.canEnOpen c) s = s.runCan c.val fun s => s.regWrite 2 (canBase c.val + 0) (s.rd (canBase c.val) ||| 1#32) := rfl

theorem exec_canEnClose :
    exec (.canEnClose c) s
      = s.runCan c.val fun s => s.regWrite 2 (canBase c.val + 0) (s.rd (canBase c.val) &&& 0xFFFFFFFE#32) := rfl

theorem exec_canRecover :
    exec (.canRecover c) s = s.runCan c.val fun s => s.regWrite 2 (canBase c.val + 0) (s.rd (canBase c.val) ||| 0x100#32) :=
  rfl

theorem txbCmd_offset (n b : Nat) : txbBase n b + 0x20 = canBase n + (0x120 + 0x40 * b) := by
  unfold txbBase
  omega

theorem exec_canTxbSubmit (i : Fin 32) :
    exec (.canTxbSubmit c i) s = s.runCan c.val fun s => s.regWrite 2 (canBase c.val + (0x120 + 0x40 * i.val)) 1#32 := by
  rw [← txbCmd_offset]
  rfl

theorem exec_canTxbCancel (i : Fin 32) :
    exec (.canTxbCancel c i) s = s.runCan c.val fun s => s.regWrite 2 (canBase c.val + (0x120 + 0x40 * i.val)) 2#32 := by
  rw [← txbCmd_offset]
  rfl

theorem exec_canFltCopy (cmd : Word) :
    exec (.canFltCopy c cmd) s = s.runCan c.val fun s => s.regWrite 2 (canBase c.val + 0x54) cmd := rfl

theorem exec_canTrefEnable :
    exec (.canTrefEnable c) s
      = s.runCan c.val fun s => s.regWrite 2 (canBase c.val + 0x30) (s.rd (canBase c.val + 0x30) ||| 1#32) := rfl

/-- Every one of these rows is a write of one of the controller's registers. -/
theorem exec_canWriteRow (k : Fin 32) (w : Word) {i : Instr}
    (hi : i ∈ [.canEnOpen c, .canEnClose c, .canRecover c, .canTxbSubmit c k, .canTxbCancel c k, .canFltCopy c w,
      .canTrefEnable c]) :
    ∃ o, o < 0x1000 ∧ ∃ g : State → Word, exec i s = s.runCan c.val fun s => s.regWrite 2 (canBase c.val + o) (g s) := by
  have hcmd : 0x120 + 0x40 * k.val < 0x1000 := by omega
  simp only [List.mem_cons, List.not_mem_nil, or_false] at hi
  rcases hi with rfl | rfl | rfl | rfl | rfl | rfl | rfl
  · exact ⟨0, by decide, _, exec_canEnOpen s c⟩
  · exact ⟨0, by decide, _, exec_canEnClose s c⟩
  · exact ⟨0, by decide, _, exec_canRecover s c⟩
  · exact ⟨_, hcmd, fun _ => 1#32, exec_canTxbSubmit s c k⟩
  · exact ⟨_, hcmd, fun _ => 2#32, exec_canTxbCancel s c k⟩
  · exact ⟨0x54, by decide, fun _ => w, exec_canFltCopy s c w⟩
  · exact ⟨0x30, by decide, _, exec_canTrefEnable s c⟩

end

/-- Settles O35: each row is the write of one register of the controller, and each clause is that register's case. -/
theorem canWriteRows : Obligations.CanWriteRows := by
  refine ⟨fun s c hl hp => ⟨fun hopen => ?rows, ?fenced⟩, fun s n _ => ⟨fun h => openDo_none (.inl h),
    fun h => openDo_none (.inr h), closeBegin_closed, fun hopen _ hidle => closeBegin_idle hopen hidle, fun _ => txCancel_active,
    fun _ => txCancel_pending, fun _ => txCancel_over⟩⟩
  case fenced =>
    intro hfence k w i hi
    obtain ⟨o, ho, g, hg⟩ := exec_canWriteRow s c k w hi
    rw [hg, run_can _ hl hp, regWrite_can_fenced c.isLt ho hp hfence]
  case rows =>
    have hwrite {o : Nat} (ho : o < 0x1000) (w : Word) := regWrite_can c.isLt ho hp hopen w
    have hcmd (i : Fin 32) : 0x120 + 0x40 * i.val < 0x1000 := by omega
    have hplace (i : Fin 32) : (canBase c.val + (0x120 + 0x40 * i.val)) % 0x40 = 0x20 := by unfold canBase; omega
    refine ⟨?enOpen, ?enClose, ?recover, ?submit, ?refused, ?absent, ?cancel, ?flt, ?tref⟩
    case enOpen => rw [exec_canEnOpen, run_can _ hl hp, hwrite (by decide), writeCan_ctrl]
    case enClose => rw [exec_canEnClose, run_can _ hl hp, hwrite (by decide), writeCan_ctrl]
    case recover => rw [exec_canRecover, run_can _ hl hp, hwrite (by decide), writeCan_ctrl]
    case submit =>
      intro i hi hfree
      rw [exec_canTxbSubmit, run_can _ hl hp, hwrite (hcmd i), writeCan_txbCmd i.isLt,
        writeTxb_submit_free hi (hplace i) hfree]
    case refused =>
      intro i hi hbusy
      rw [exec_canTxbSubmit, run_can _ hl hp, hwrite (hcmd i), writeCan_txbCmd i.isLt,
        writeTxb_submit_busy hi (hplace i) hbusy]
    case absent =>
      intro i hi
      rw [exec_canTxbSubmit, exec_canTxbCancel, run_can _ hl hp, run_can _ hl hp, hwrite (hcmd i), hwrite (hcmd i),
        writeCan_txbCmd i.isLt, writeCan_txbCmd i.isLt, writeTxb_absent hi, writeTxb_absent hi]
      exact ⟨rfl, rfl⟩
    case cancel =>
      intro i hi
      rw [exec_canTxbCancel, run_can _ hl hp, hwrite (hcmd i), writeCan_txbCmd i.isLt, writeTxb_cancel hi (hplace i)]
    case flt =>
      intro cmd
      rw [exec_canFltCopy, run_can _ hl hp, hwrite (by decide), writeCan_fltCmd]
    case tref => rw [exec_canTrefEnable, run_can _ hl hp, hwrite (by decide), writeCan_trefEnable _ (by simp)]

end Sys2Proof.Machine

/-! The commands of group 0x07: a controller opened, closed, timed and laid out, frames submitted and cancelled, filters, pairing
and the time master. -/

namespace Sys2Proof.Machine

section
variable {s : State} {k : CmdKey} {e : CmdEntry}

/-! ### Opening and closing (R300, R304, R305) -/

theorem completes_canOpen {nsp dsp : Nat} {p : CanPhase} {fd xl : Option CanPhase}
    (hnsp : samplePoint (e.arg 16 2) 800 = some nsp) (hdsp : samplePoint (e.arg 18 2) 750 = some dsp)
    (hfmt : 1 ≤ e.arg 12 1 ∧ e.arg 12 1 ≤ 7) (hmode : e.arg 13 1 ≤ 3) (hset : e.arg 14 1 ≤ 7) (hflags : e.arg 15 1 ≤ 15)
    (hclosed : s.canOpen e.idx = false) (hphases : openPhases e nsp dsp = some (p, fd, xl)) (hfits : s.canFits e.idx = true) :
    s.Completes k e (.canOpen k) 0x0700 20 0 ((s.canOpenSet e.idx e p fd xl).shown (wordOffs (canBase e.idx + 0x10) 5))
      (s.canOpenSet e.idx e p fd xl) := by
  have hrange : ¬ (e.arg 12 1 = 0 ∨ 7 < e.arg 12 1 ∨ 3 < e.arg 13 1 ∨ 7 < e.arg 14 1 ∨ 15 < e.arg 15 1) := by omega
  exact completes_of_done rfl rfl
    (by simp only [hnsp, hdsp, if_neg hrange, hclosed, hphases, hfits, Bool.false_eq_true, if_false, Bool.not_true])

theorem completes_canClose_closed (hclosed : s.canOpen e.idx = false) :
    s.Completes k e (.canClose k) 0x0701 0 0x0703 [] s :=
  completes_of_done rfl rfl (if_pos (by rw [hclosed]; rfl))

section
variable (hopen : s.canOpen e.idx = true)
include hopen

theorem waits_canClose (hbusy : s.canBusy e.idx = true) :
    s.Waits k e (.canClose k) 0x0701 0 (.unit e.idx 0) (s.closeBegin e.idx) :=
  waits_of_wait rfl rfl (by simp only [hopen, hbusy, Bool.not_true, Bool.false_eq_true, if_false, if_true])

theorem completes_canClose (hidle : s.canBusy e.idx = false) :
    s.Completes k e (.canClose k) 0x0701 0 0
      (leBytes 4 ((List.range 32).filter fun i => s.txbState e.idx i == 1 || s.txbState e.idx i == 2).length)
      (s.closeBegin e.idx) :=
  completes_of_done rfl rfl (by simp only [hopen, hidle, Bool.not_true, Bool.false_eq_true, if_false])

end

/-! ### Timing, layout and pairing (R299, R307, R309) -/

/-- The slot sizes stand for their codes 0 to 4 (Table 11.11). -/
theorem slotSize_idxOf {code : Nat} (h : code < 5) :
    [64, 256, 512, 1024, 2048].idxOf ([64, 256, 512, 1024, 2048].getD code 0) = code := by
  decide +revert

section
variable (hclosed : s.canOpen e.idx = false)
include hclosed

/-- A nominal bit time is at most 50 µs (log entry 86). -/
theorem completes_canSetTiming (hbit : nomBit2 (BitVec.ofNat 32 (e.arg 0 4)) ≤ 100000) :
    s.Completes k e (.canSetTiming k) 0x8700 20 0 [] (s.regWrites 2 (e.images (wordOffs (canBase e.idx + 0x10) 5))) :=
  completes_of_done rfl rfl ((if_neg (by simp [hclosed])).trans (if_neg (Nat.not_lt.mpr hbit)))

theorem completes_canSetStore {code : Nat} (hcode : code < 5) (hslot : e.arg 0 2 = [64, 256, 512, 1024, 2048].getD code 0)
    (htxn : 1 ≤ e.arg 2 1 ∧ e.arg 2 1 ≤ 32) (hz3 : e.arg 3 1 = 0) (hrxn : 1 ≤ e.arg 4 2 ∧ e.arg 4 2 ≤ 256) (hz6 : e.arg 6 2 = 0)
    (hfits : canLayoutOk (e.arg 0 2) (e.arg 2 1) (e.arg 4 2) = true) :
    s.Completes k e (.canSetStore k) 0x8701 8 0 (s.shown [canBase e.idx + 0x28])
      (s.wr (canBase e.idx + 0x24) (BitVec.ofNat 32 (code + 2 ^ 8 * e.arg 2 1 + 2 ^ 16 * e.arg 4 2))) := by
  have hidx : [64, 256, 512, 1024, 2048].idxOf (e.arg 0 2) = code := hslot ▸ slotSize_idxOf hcode
  have hrange : ¬ (5 ≤ code ∨ e.arg 2 1 = 0 ∨ 32 < e.arg 2 1 ∨ e.arg 3 1 ≠ 0 ∨ e.arg 4 2 = 0 ∨ 256 < e.arg 4 2
      ∨ e.arg 6 2 ≠ 0) := by omega
  exact completes_of_done rfl rfl
    (by simp only [hidx, hclosed, if_neg hrange, hfits, Bool.not_true, Bool.false_eq_true, if_false])

end

theorem completes_canPair (hz : e.arg 1 3 = 0) (hch : e.arg 0 1 = 255 ∨ e.arg 0 1 < s.nPch) :
    s.Completes k e (.canPair k) 0x0707 4 0 (leBytes 4 (s.pairWith e.idx (e.arg 0 1)).1) (s.pairWith e.idx (e.arg 0 1)).2 :=
  completes_of_done rfl rfl (if_neg (by omega))

/-! ### Frames (R318, R319, R322) -/

/-- Whether CAN_TX sends a remote frame. -/
def CmdEntry.txRtr (e : CmdEntry) : Bool := bitAt (e.arg 1 1) 2

/-- The buffer that CAN_TX names, filled and submitted. -/
def State.txTaken (s : State) (e : CmdEntry) : State :=
  let t := s.txFill e.idx e
  (if e.txRtr then t else t.txData e.idx (e.arg 0 1) (e.arg 2 1) (e.ps.drop 32)).txAccept e.idx (e.arg 0 1)

section
variable {len : Nat} (hps : e.ps.length = len) (hlen : len = 32 + (if e.txRtr then 0 else e.arg 8 2)) (hok : canTxOk e = true)
  (hbuf : e.arg 0 1 < s.canTxn e.idx)
include hps hlen hok hbuf

theorem completes_canTx_refused {st : Nat} (hbad : s.submitBad e.idx (e.arg 0 1) (e.arg 2 1) e.txRtr (e.arg 8 2) = some st) :
    s.Completes k e (.canTx k) 0x0702 len st [] s := by
  have hmin : decide (32 ≤ len) = true := decide_eq_true (hlen ▸ Nat.le_add_right ..)
  refine completes_of_done rfl hmin ((if_neg (not_not.mpr (hps.trans hlen))).trans ((if_neg (by simp [hok, hbuf])).trans ?_))
  unfold CmdEntry.txRtr at hbad
  simp only [hbad, CmdRes.no]

variable (hgood : s.submitBad e.idx (e.arg 0 1) (e.arg 2 1) e.txRtr (e.arg 8 2) = none)
include hgood

/-- With WAIT the reply is that of the submission's end. -/
theorem waits_canTx (hwait : bitAt (e.arg 1 1) 5 = true) :
    s.Waits k e (.canTx k) 0x0702 len (.unit e.idx (e.arg 0 1)) (s.txTaken e) := by
  have hmin : decide (32 ≤ len) = true := decide_eq_true (hlen ▸ Nat.le_add_right ..)
  refine waits_of_wait rfl hmin ((if_neg (not_not.mpr (hps.trans hlen))).trans ((if_neg (by simp [hok, hbuf])).trans ?_))
  unfold CmdEntry.txRtr at hgood
  simp only [hgood, hwait, if_true]
  rfl

theorem completes_canTx (hwait : bitAt (e.arg 1 1) 5 = false) :
    s.Completes k e (.canTx k) 0x0702 len 0
      (leBytes 4 ((s.txTaken e).get (txbBase e.idx (e.arg 0 1)) CAN_TXB_STAT_SUBMITS)) (s.txTaken e) := by
  have hmin : decide (32 ≤ len) = true := decide_eq_true (hlen ▸ Nat.le_add_right ..)
  refine completes_of_done rfl hmin ((if_neg (not_not.mpr (hps.trans hlen))).trans ((if_neg (by simp [hok, hbuf])).trans ?_))
  unfold CmdEntry.txRtr at hgood
  simp only [hgood, hwait, Bool.false_eq_true, if_false]
  rfl

end

theorem completes_canCancel (hbuf : e.arg 0 1 < s.canTxn e.idx) (hz : e.arg 1 3 = 0) :
    s.Completes k e (.canCancel k) 0x0703 4 0 (leBytes 4 (s.txCancel e.idx (e.arg 0 1)).1)
      ((s.txCancel e.idx (e.arg 0 1)).2.txMapsAfter e.idx) :=
  completes_of_done rfl rfl (if_neg (by omega))

/-! ### Filters and the time master (R312, R324, R325) -/

theorem completes_canFilterLoad {len : Nat} (hset : e.arg 0 1 ≤ 7) (hact : e.arg 1 1 ≤ 1) (hcnt : e.arg 2 2 ≤ 64)
    (hz : e.arg 4 4 = 0) (hps : e.ps.length = len) (hlen : len = 8 + 16 * e.arg 2 2)
    (helems : ∀ i < e.arg 2 2, elementOk e i = true) {t : State} (ht : s.fltLoad e.idx (e.arg 0 1) (e.ps.drop 8) = t) :
    s.Completes k e (.canFilterLoad k) 0x0704 len 0 []
      (if e.arg 1 1 = 1 then t.set (canBase e.idx) CAN_CTRL_FSET (e.arg 0 1) else t) := by
  subst ht
  have hmod : (len % 16 == 8) = true := beq_iff_eq.mpr (by omega)
  have hall : ¬ (!(List.range (e.arg 2 2)).all (elementOk e)) = true := by simpa using helems
  exact completes_of_done rfl hmod ((if_neg (by omega)).trans ((if_neg (by omega)).trans (if_neg hall)))

/-- The registers of the time master as CAN_TIME_MASTER writes them, whether it starts or stops it (log entry 89). -/
def State.trefWritten (s : State) (e : CmdEntry) : State :=
  ((s.set (canBase e.idx) CAN_TREF_CTRL_FORMAT (e.arg 1 1)).wr (canBase e.idx + 0x34) (BitVec.ofNat 32 (e.arg 4 4))).wr
    (canBase e.idx + 0x38) (BitVec.ofNat 32 (e.arg 8 4))

section
variable (hfmt : e.arg 1 1 ≤ 1) (hz2 : e.arg 2 2 = 0) (hid : e.arg 4 4 < 2 ^ 30) (hper : 100 ≤ e.arg 8 4 ∧ e.arg 8 4 ≤ 1000000)
  (hz12 : e.arg 12 4 = 0) (hopen : s.canOpen e.idx = true) (hmode : s.canMode e.idx ≠ 1)
include hfmt hz2 hid hper hz12 hopen hmode

theorem completes_canTimeMaster_start (hen : e.arg 0 1 = 1) (hvalid : s.timeValid = true) :
    s.Completes k e (.canTimeMaster k) 0x0705 16 0 [] (((s.trefWritten e).trefStart e.idx).trefAnew e.idx) :=
  completes_of_done rfl rfl ((if_neg (by omega)).trans ((if_neg (by simp [hopen])).trans ((if_neg hmode).trans
    ((if_neg (by simp [hvalid])).trans (congrArg CmdRes.yes (if_pos hen))))))

theorem completes_canTimeMaster_stop (hen : e.arg 0 1 = 0) :
    s.Completes k e (.canTimeMaster k) 0x0705 16 0 []
      (if (s.trefWritten e).flag (canBase e.idx) CAN_TREF_CTRL_EN then (s.trefWritten e).trefStop e.idx
        else s.trefWritten e) :=
  completes_of_done rfl rfl ((if_neg (by omega)).trans ((if_neg (by simp [hopen])).trans ((if_neg hmode).trans
    ((if_neg (by simp [hen])).trans (congrArg CmdRes.yes (if_neg (by omega)))))))

end

end

/-- Settles O56: each clause is one command's case. -/
theorem canCommands : Obligations.CanCommands := by
  intro s k e len
  refine ⟨?opened, completes_canClose_closed, waits_canClose, completes_canClose, fun hclosed => ⟨completes_canSetTiming hclosed,
    ?store⟩, ?status, completes_canPair, ?tx, completes_canCancel, ?filters, ?master⟩
  case opened =>
    intro nsp dsp p fd xl hnsp hdsp hlo hhi hmode hset hflags hclosed hphases hfits
    exact completes_canOpen hnsp hdsp ⟨hlo, hhi⟩ hmode hset hflags hclosed hphases hfits
  case store =>
    intro code hcode hslot htlo hthi hz3 hrlo hrhi hz6 hfits
    exact completes_canSetStore hclosed hcode hslot ⟨htlo, hthi⟩ hz3 ⟨hrlo, hrhi⟩ hz6 hfits
  case status => exact completes_of_done rfl rfl rfl
  case tx =>
    intro i rtr _ _ hps hlen hok hbuf
    exact ⟨fun _ => completes_canTx_refused hps hlen hok hbuf,
      fun hgood => ⟨waits_canTx hps hlen hok hbuf hgood, completes_canTx hps hlen hok hbuf hgood⟩⟩
  case filters =>
    intro cnt t hset hact hcnt hz hps hlen helems
    exact completes_canFilterLoad hset hact hcnt hz hps hlen helems rfl
  case master =>
    intro t _ hfmt hz2 hid hlo hhi hz12 hopen hmode
    exact ⟨completes_canTimeMaster_start hfmt hz2 hid ⟨hlo, hhi⟩ hz12 hopen hmode,
      completes_canTimeMaster_stop hfmt hz2 hid ⟨hlo, hhi⟩ hz12 hopen hmode⟩

end Sys2Proof.Machine

/-! The instructions of a Pattern: one engine cycle as the end its instruction comes to, then each instruction's body. -/

namespace Sys2Proof.Machine

/-! ### One engine cycle (R335, R344) -/

/-- What an engine cycle starts from: clashes counted up to now, the pads as they stand. -/
def State.cycleStart (s : State) (f : Nat) (x : FlaskIn) : State :=
  (s.clashCount f).setFlask f { (s.clashCount f).flask f with pads := x.pins.toNat }

/-- How a cycle ends that started in `t` at address `pc`. -/
def State.engCycleEnd (t : State) (f e pc : Nat) : FlaskRes → State
  | .stall n => t.set (ecBase f e) EC_STAT_STALL_KIND n
  | .next u =>
    u.engAt f e (if pc = u.get (ecBase f e) EC_PROG_HIGH then u.get (ecBase f e) EC_PROG_LOW else (pc + 1) % 1024)
  | .jump a u =>
    if a < u.get (ecBase f e) EC_PROG_LOW ∨ u.get (ecBase f e) EC_PROG_HIGH < a then u.badJump f e a else u.engAt f e a

/-- The word an engine is at. -/
def State.pmemWord (s : State) (f e : Nat) : Nat := Tbl.get (fun _ => 0) (s.flask f).pmem (s.pc f e)

theorem run_flask {s : State} {f : Nat} (g : State → State) (hl : s.Live) (hf : f < s.nFlask) :
    s.runFlask f g = .next (s.after (g s)) := by
  rw [State.runFlask, run_live _ hl, if_pos hf]

section
variable {s : State} {f e : Nat} {x : FlaskIn} (hrun : (s.eng f e).running = true) (hstop : (s.eng f e).stopReq = none)
  (hopen : s.fenced (.flask f) = false) (hheld : s.inHeld = false)
include hrun hstop hopen hheld

theorem engCycle_runs :
    ¬ ((!(s.eng f e).running) = true ∨ (s.eng f e).stopReq.isSome = true ∨ s.fenced (.flask f) = true ∨ s.inHeld = true) := by
  simp [hrun, hstop, hopen, hheld]

theorem engCycle_flipped (hflip : x.flipped = true) (op : Nat) (body : State → Nat → FlaskRes) :
    s.engCycle f e op x body = s.raise .flaskPmemParity (srcIsland (8 + f)) 0 (leBytes 2 (s.pc f e)) :=
  (if_neg (engCycle_runs hrun hstop hopen hheld)).trans (if_pos hflip)

/-- A cycle whose instruction has the row's opcode ends as the instruction's body says. -/
theorem engCycle_instr (hflip : x.flipped = false) {op : Nat} (hop : flaskOp (s.pmemWord f e) = op)
    (body : State → Nat → FlaskRes) :
    s.engCycle f e op x body
      = (s.cycleStart f x).engCycleEnd f e (s.pc f e) (body (s.cycleStart f x) (s.pmemWord f e)) := by
  refine (if_neg (engCycle_runs hrun hstop hopen hheld)).trans ((if_neg (by simp [hflip])).trans
    ((if_neg (not_not.mpr hop)).trans ?_))
  change (match body (s.cycleStart f x) (s.pmemWord f e) with | .stall n => _ | .next u => _ | .jump a u => _) = _
  cases body (s.cycleStart f x) (s.pmemWord f e) <;> rfl

end

/-- What stands after a cycle that chooses between two ends. -/
theorem after_engCycleEnd_ite (s t : State) (f e pc : Nat) (c : Prop) [Decidable c] (a b : FlaskRes) :
    s.after (t.engCycleEnd f e pc (if c then a else b))
      = if c then s.after (t.engCycleEnd f e pc a) else s.after (t.engCycleEnd f e pc b) :=
  apply_ite (fun r => s.after (t.engCycleEnd f e pc r)) c a b

/-! ### Bodies that are stated in other words (R342, R343) -/

/-- AT with the time since its target: late only past one engine cycle (log entry 92). -/
theorem flaskAt_eq (t : State) (f e w : Nat) {past c : Nat}
    (hpast : (2 * shortStamp (t.flaskNow f) + 2 ^ 33 - 2 * t.wreg f e (fw w 20 2)) % 2 ^ 33 = past)
    (hc : 5 * (t.get (ecBase f e) EC_CLK_DIV + 1) = c) :
    t.flaskAt f e w
      = if 2 ^ 32 ≤ (past + c) % 2 ^ 33 then .stall 4
        else if c < past ∧ past < 2 ^ 32 then
          .next ((t.bump (ecCnt f e) EC_AT_LATE).evt (flaskBase f) FLASK_EVT 21)
        else .next t := by
  have hreg : t.wreg f e (fw w 20 2) < 2 ^ 32 := (t.rd _).isLt
  have hsum : (2 * shortStamp (t.flaskNow f) + c + 2 ^ 33 - 2 * t.wreg f e (fw w 20 2)) % 2 ^ 33 = (past + c) % 2 ^ 33 := by
    omega
  simp only [State.flaskAt, hc, hpast, hsum]
  by_cases hlate : 2 ^ 32 ≤ (past + c) % 2 ^ 33
  · rw [if_neg (Nat.not_lt.mpr hlate), if_pos hlate]
  · rw [if_pos (Nat.not_le.mp hlate), if_neg hlate]

theorem flaskTally_eq (t : State) (f w : Nat) :
    t.flaskTally f w
      = if fw w 24 2 = 0 then
          .next (if 4 ≤ fw w 0 3 then (t.tallyPost f (fw w 0 3)).evt (flaskBase f) FLASK_EVT (12 + fw w 0 3)
            else t.tallyPost f (fw w 0 3))
        else if fw w 24 2 = 1 then
          (if t.tally f (fw w 0 3) = 0 then .stall 5 else .next (t.setTally f (fw w 0 3) (t.tally f (fw w 0 3) - 1)))
        else .next (t.setTally f (fw w 0 3) 0) := by
  unfold State.flaskTally
  split
  · next h => rw [if_pos h]
  · next h => simp only [h, if_pos, one_ne_zero, if_false]
  · next h0 h1 => rw [if_neg h0, if_neg h1]

/-! ### Work registers -/

theorem wreg_setWreg_same (s : State) (f e n v : Nat) : (s.setWreg f e n v).wreg f e n = v % 2 ^ 32 := by
  rw [State.wreg, State.setWreg, rd_wr_same, BitVec.toNat_ofNat]

theorem wreg_setWreg_other (s : State) (f e v : Nat) {n d : Nat} (h : n ≠ d) : (s.setWreg f e d v).wreg f e n = s.wreg f e n := by
  rw [State.wreg, State.setWreg, rd_wr_other _ _ (by omega), State.wreg]

/-! ### The rows -/

/-- A row of an instruction whose engine runs it. -/
theorem exec_flaskInstr {s : State} {f e : Fin 8} {x : FlaskIn} {i : Instr} {op : Nat} {body : State → Nat → FlaskRes}
    (hrow : exec i s = s.runFlask f.val fun s => s.engCycle f.val e.val op x body) (hl : s.Live) (hf : f.val < s.nFlask)
    (hrun : (s.eng f.val e.val).running = true) (hstop : (s.eng f.val e.val).stopReq = none)
    (hopen : s.fenced (.flask f.val) = false) (hflip : x.flipped = false)
    (hop : flaskOp (s.pmemWord f.val e.val) = op) :
    exec i s = .next (s.after ((s.cycleStart f.val x).engCycleEnd f.val e.val (s.pc f.val e.val)
      (body (s.cycleStart f.val x) (s.pmemWord f.val e.val)))) := by
  rw [hrow, run_flask _ hl hf, engCycle_instr hrun hstop hopen hl.2 hflip hop]

/-- Settles O36: each row is one engine cycle that ends as its instruction's body says, and ALU writes one work register. -/
theorem flaskInstructions : Obligations.FlaskInstructions := by
  refine ⟨?cycles, fun s f e w => ⟨?_, fun n _ hne => wreg_setWreg_other s f e _ hne, rfl⟩⟩
  case cycles =>
    intro s f e x hl hf hrun hstop hopen hflip k pc w t stall next jump
    have row {i : Instr} {op : Nat} (body : State → Nat → FlaskRes)
        (hrow : exec i s = s.runFlask f.val fun s => s.engCycle f.val e.val op x body)
        (hop : flaskOp w = op) : exec i s = .next (s.after (t.engCycleEnd f.val e.val pc (body t w))) :=
      exec_flaskInstr hrow hl hf hrun hstop hopen hflip hop
    refine ⟨?go, ?cond, ?loop, ?setk, ?hold, ?drive, ?send, ?take, ?draw, ?feed, ?sealed, ?drop, ?loadImm, ?alu, ?pins,
      ?stamp, ?atTime, ?tally, ?goi⟩
    case go => exact row (flaskGoBody f.val e.val) rfl
    case setk => exact row (flaskSetkBody f.val e.val) rfl
    case drive => exact row (flaskDriveBody f.val e.val) rfl
    case drop => exact row (flaskDropBody f.val e.val) rfl
    case loadImm => exact row (flaskLoadImmBody f.val e.val) rfl
    case alu => exact row (flaskAluBody f.val e.val) rfl
    case pins => exact row (flaskPinsBody f.val e.val) rfl
    case goi => exact row (flaskGoiBody f.val e.val) rfl
    case cond =>
      intro hop
      rw [row (flaskIfBody f.val e.val) rfl hop, flaskIfBody, after_engCycleEnd_ite]
      rfl
    case loop =>
      intro hop fld
      rw [row (flaskLoopBody f.val e.val) rfl hop, flaskLoopBody, State.flaskLoop, after_engCycleEnd_ite]
      rfl
    case hold =>
      intro hop
      rw [row (flaskHoldBody f.val e.val) rfl hop, flaskHoldBody, after_engCycleEnd_ite]
      rfl
    case send =>
      intro hop ks r
      rw [row (flaskSendBody f.val e.val) rfl hop, flaskSendBody, State.flaskSend, after_engCycleEnd_ite]
      rfl
    case take =>
      intro hop bs
      rw [row (flaskTakeBody f.val e.val) rfl hop, flaskTakeBody, State.flaskAppend, after_engCycleEnd_ite]
      rfl
    case draw =>
      intro hop r
      rw [row (flaskDrawBody f.val e.val) rfl hop, flaskDrawBody, State.flaskDraw, after_engCycleEnd_ite]
      rfl
    case feed =>
      intro hop v bs
      rw [row (flaskFeedBody f.val e.val) rfl hop, flaskFeedBody, State.flaskFeed, State.flaskAppend, after_engCycleEnd_ite]
      rfl
    case sealed =>
      intro hop
      rw [row (flaskSealBody f.val e.val) rfl hop, flaskSealBody, State.flaskSeal, after_engCycleEnd_ite,
        after_engCycleEnd_ite]
      rfl
    case stamp =>
      intro hop
      rw [row (flaskStampBody f.val e.val) rfl hop, flaskStampBody, State.flaskStamp, after_engCycleEnd_ite,
        after_engCycleEnd_ite]
      rfl
    case atTime =>
      intro hop past c
      rw [row (flaskAtBody f.val e.val) rfl hop, flaskAtBody, flaskAt_eq _ _ _ _ rfl rfl, after_engCycleEnd_ite,
        after_engCycleEnd_ite]
      rfl
    case tally =>
      intro hop i
      rw [row (flaskTallyBody f.val e.val) rfl hop, flaskTallyBody, flaskTally_eq, after_engCycleEnd_ite,
        after_engCycleEnd_ite, after_engCycleEnd_ite]
      rfl
  · exact (wreg_setWreg_same s f e _ _).trans (Nat.mod_eq_of_lt (BitVec.isLt _))

end Sys2Proof.Machine

/-! A Flask's registers as the hub writes them, and its control rows: starts, stops and Pattern loads. -/

namespace Sys2Proof.Machine

/-- A row's outcome by what its operation leaves. -/
theorem next_after (s : State) {t u : State} (h : t = u) :
    (Host.Outcome.next (s.after t) : Host.Outcome State Fault Refusal) = .next (s.after u) := by
  rw [h]

/-! ### Where a Flask's registers lie (Table 1.7) -/

section
variable {s : State} {f o : Nat} (hf : f < 8) (ho : o < 0x1000)
include hf ho

theorem regPresent_flask (hp : f < s.nFlask) : s.regPresent (flaskBase f + o) = true := by
  unfold State.regPresent flaskBase
  rw [if_neg (by omega), if_neg (by omega), if_pos (by omega), regSet_index ho]
  exact decide_eq_true hp

theorem regFenced_flask : s.regFenced (flaskBase f + o) = s.fenced (.flask f) := by
  unfold State.regFenced regFence flaskBase
  rw [if_neg (by omega), if_pos (by omega), regSet_index ho]

theorem regIsland_flask : regIsland (flaskBase f + o) = some (8 + f) := by
  unfold regIsland flaskBase
  rw [if_neg (by omega), if_pos (by omega), regSet_index ho]

theorem wakeFor_flask : s.wakeFor (flaskBase f + o) = s.wakeFor (flaskBase f) := by
  have hbase := regIsland_flask hf (o := 0) (by omega)
  rw [Nat.add_zero] at hbase
  simp only [State.wakeFor, regIsland_flask hf ho, hbase]

theorem regApply_flask (init : Nat) (w : Word) :
    s.regApply init (flaskBase f + o) w = s.writeFlask init (flaskBase f + o) w := by
  unfold State.regApply flaskBase
  rw [if_neg (by omega), if_neg (by omega), if_neg (by omega), if_neg (by omega), if_neg (by omega), if_neg (by omega),
    if_neg (by omega), if_pos (by omega)]

/-- A write by the hub (log entry 3) wakes the Flask's island at once (log entry 57). -/
theorem regWrite_flask (hp : f < s.nFlask) (hopen : s.fenced (.flask f) = false) (w : Word) :
    s.regWrite 2 (flaskBase f + o) w = (s.wakeFor (flaskBase f)).writeFlask 2 (flaskBase f + o) w := by
  have hmail : mailWindow (flaskBase f + o) = false := decide_eq_false (by unfold flaskBase; omega)
  rw [regWrite_applies (regMapped_unit (by unfold flaskBase; omega)) (regPresent_flask hf ho hp)
    ((regFenced_flask hf ho).trans hopen) (.inl hmail) (.inr (le_refl 2)), wakeFor_flask hf ho, regApply_flask hf ho]

end

/-! ### What a write of each register comes to (Table 12.9) -/

section
variable {s : State} {f : Nat}

theorem flaskReg_index {o : Nat} (ho : o < 0x1000) : (flaskBase f + o - 0x200000) / 0x1000 = f := regSet_index ho

theorem flaskReg_offset {o : Nat} (ho : o < 0x1000) : (flaskBase f + o) % 0x1000 = o := by
  unfold flaskBase
  omega

theorem writeFlask_go (init : Nat) (w : Word) : s.writeFlask init (flaskBase f + 0x04) w = s.flaskGo f w := by
  simp only [State.writeFlask, flaskReg_index (show 0x04 < 0x1000 by decide), flaskReg_offset (show 0x04 < 0x1000 by decide)]
  rfl

theorem writeFlask_tallyCmd (init : Nat) (w : Word) :
    s.writeFlask init (flaskBase f + 0x1C) w = s.tallyCmd f (bitsOf w 0 8) (bitsOf w 8 8) := by
  simp only [State.writeFlask, flaskReg_index (show 0x1C < 0x1000 by decide), flaskReg_offset (show 0x1C < 0x1000 by decide)]
  rfl

theorem writeFlask_pload (init : Nat) (w : Word) : s.writeFlask init (flaskBase f + 0x24) w = s.ploadWrite f w := by
  simp only [State.writeFlask, flaskReg_index (show 0x24 < 0x1000 by decide), flaskReg_offset (show 0x24 < 0x1000 by decide)]
  rfl

theorem writeFlask_txq {e : Nat} (he : e < 8) (init : Nat) (w : Word) :
    s.writeFlask init (flaskBase f + (0x120 + 4 * e)) w = s.txqPush f e w.toNat := by
  have hplace : (0x120 + 4 * e - 0x120) / 4 = e := by omega
  unfold State.writeFlask
  rw [flaskReg_index (by omega), flaskReg_offset (by omega), if_neg (by omega), if_neg (by omega), if_neg (by omega),
    if_pos (by omega), hplace]

end

/-! ### The two mask bytes of a command word -/

theorem bitsOf_ofNat (v lo n : Nat) : bitsOf (BitVec.ofNat 32 v) lo n = v % 2 ^ 32 / 2 ^ lo % 2 ^ n := by
  rw [bitsOf, BitVec.extractLsb'_toNat, BitVec.toNat_ofNat, Nat.shiftRight_eq_div_pow]

theorem getLsbD_ofNat_of_lt {v n : Nat} (h : v < 2 ^ n) : (BitVec.ofNat 32 v).getLsbD n = false := by
  rw [BitVec.getLsbD_ofNat, Nat.testBit_lt_two_pow h, Bool.and_false]

section
variable {s : State} {f : Nat} (m : BitVec 8)

theorem lowMask : bitsOf (BitVec.ofNat 32 m.toNat) 0 8 = m.toNat ∧ bitsOf (BitVec.ofNat 32 m.toNat) 8 8 = 0 := by
  have hm := m.isLt
  exact ⟨(bitsOf_ofNat ..).trans (by omega), (bitsOf_ofNat ..).trans (by omega)⟩

theorem highMask :
    bitsOf (BitVec.ofNat 32 (256 * m.toNat)) 0 8 = 0 ∧ bitsOf (BitVec.ofNat 32 (256 * m.toNat)) 8 8 = m.toNat := by
  have hm := m.isLt
  exact ⟨(bitsOf_ofNat ..).trans (by omega), (bitsOf_ofNat ..).trans (by omega)⟩

theorem flaskGo_start :
    s.flaskGo f (BitVec.ofNat 32 m.toNat) = (s.engStop f 0 false).engStart f m.toNat false none := by
  have hm := m.isLt
  simp only [State.flaskGo, (lowMask m).1, (lowMask m).2, getLsbD_ofNat_of_lt (n := 16) (show m.toNat < 2 ^ 16 by omega),
    getLsbD_ofNat_of_lt (n := 17) (show m.toNat < 2 ^ 17 by omega), Nat.and_zero, Nat.sub_zero]

theorem flaskGo_stop :
    s.flaskGo f (BitVec.ofNat 32 (256 * m.toNat)) = (s.engStop f m.toNat false).engStart f 0 false none := by
  have hm := m.isLt
  simp only [State.flaskGo, (highMask m).1, (highMask m).2,
    getLsbD_ofNat_of_lt (n := 16) (show 256 * m.toNat < 2 ^ 16 by omega),
    getLsbD_ofNat_of_lt (n := 17) (show 256 * m.toNat < 2 ^ 17 by omega), Nat.zero_sub]

theorem setBitsOf_zero : setBitsOf 0 8 = [] := by decide

theorem tallyCmd_post : s.tallyCmd f m.toNat 0 = s.each (setBitsOf m.toNat 8) fun s t => s.tallyPost f t := by
  rw [State.tallyCmd, setBitsOf_zero]
  rfl

theorem tallyCmd_clr : s.tallyCmd f 0 m.toNat = s.each (setBitsOf m.toNat 8) fun s t => s.setTally f t 0 := by
  rw [State.tallyCmd, setBitsOf_zero]
  rfl

end

/-! ### The operations case by case (R340, R346, R347, R349) -/

section
variable {s : State} {f e : Nat}

theorem txqPush_room (hsrc : s.flag (ecBase f e) EC_STREAM_TXSRC = false) (hroom : (s.eng f e).txq.length < s.txCap f e) (w : Nat) :
    s.txqPush f e w = s.setEng f e { s.eng f e with txq := (s.eng f e).txq ++ [w] } :=
  if_neg (by simp [hsrc, hroom])

theorem txqPush_drop (h : s.flag (ecBase f e) EC_STREAM_TXSRC = true ∨ s.txCap f e ≤ (s.eng f e).txq.length) (w : Nat) :
    s.txqPush f e w = (s.bump (ecCnt f e) EC_TXQ_DROP).evt (flaskBase f) FLASK_EVT 22 :=
  if_pos h

/-- A counter that rises changes register words only. -/
theorem bumpAt_flasks (s : State) (a n : Nat) : (s.bumpAt a n).flasks = s.flasks := by
  unfold State.bumpAt
  dsimp only
  split
  · split <;> rfl
  · rfl

theorem bumpAt_nowAt (s : State) (a n i : Nat) : (s.bumpAt a n).nowAt i = s.nowAt i := by
  unfold State.bumpAt
  dsimp only
  split
  · split <;> rfl
  · rfl

theorem clashCount_eng : (s.clashCount f).eng f e = s.eng f e := by
  rw [State.eng, State.flask, State.clashCount, State.bumpBy, bumpAt_flasks, ← State.flask, setFlask_flask, State.eng]

theorem clashCount_flaskNow : (s.clashCount f).flaskNow f = s.flaskNow f := by
  rw [State.flaskNow, State.clashCount, State.bumpBy, bumpAt_nowAt]
  rfl

/-- Counting the clashes starts no engine and moves no time. -/
theorem engArmed_eq :
    s.engArmed f = (s.clashCount f).each ((List.range 8).filter fun e =>
      match ((s.clashCount f).eng f e).armed with
      | some a => decide (a ≤ (s.clashCount f).flaskNow f)
      | none => false) fun s e => s.engRun f e := by
  simp only [clashCount_eng, clashCount_flaskNow]
  rfl

/-- A stop takes effect at its engine's cycle boundary. -/
theorem engStopTaken_running {safe : Bool} (hreq : (s.eng f e).stopReq = some safe) (hrun : (s.eng f e).running = true) :
    s.engStopTaken f e
      = ((if safe then ((s.clashCount f).engHalt f e 1).engSafe f e else (s.clashCount f).engHalt f e 1).driveKeep f).stopWake f := by
  unfold State.engStopTaken
  simp only [hreq, hrun, Bool.not_true, Bool.false_eq_true, if_false]

section
variable {cmd : Word} (hgo : cmd.getLsbD 31 = true) (hfree : s.flag (flaskBase f) FLASK_PLOAD_STAT_BUSY = false)
include hgo hfree

theorem ploadWrite_accepted {l : PLoad}
    (hcheck : s.loadCheck f (cmd.getLsbD 24) (s.get (flaskBase f) FLASK_PLOAD_SRC_OFFSET) (bitsOf cmd 0 10) (bitsOf cmd 16 8)
      (cmd.getLsbD 25) (cmd.getLsbD 26) false = .inr l) :
    s.ploadWrite f cmd = (s.setFlask f { s.flask f with loads := (s.flask f).loads ++ [l] }).set (flaskBase f)
      FLASK_PLOAD_STAT_BUSY 1 := by
  simp only [State.ploadWrite, hgo, hfree, hcheck]
  rfl

theorem ploadWrite_refused {r : Nat}
    (hcheck : s.loadCheck f (cmd.getLsbD 24) (s.get (flaskBase f) FLASK_PLOAD_SRC_OFFSET) (bitsOf cmd 0 10) (bitsOf cmd 16 8)
      (cmd.getLsbD 25) (cmd.getLsbD 26) false = .inl r) :
    s.ploadWrite f cmd = s.set (flaskBase f) FLASK_PLOAD_STAT_RESULT r := by
  simp only [State.ploadWrite, hgo, hfree, hcheck]
  rfl

end

theorem loadCommit_none (h : (s.flask f).loads = []) : s.loadCommit f = s := by
  simp only [State.loadCommit, h]

section
variable {l : PLoad} {rest : List PLoad} {t : State} (h : (s.flask f).loads = l :: rest)
  (ht : (if l.byCmd = true then s.setFlask f { s.flask f with loads := rest }
    else (s.setFlask f { s.flask f with loads := rest }).set (flaskBase f) FLASK_PLOAD_STAT_BUSY 0) = t)
include h ht

/-- An engine in the load's range has been started since: the load is refused. -/
theorem loadCommit_blocked (hb : t.loadBlocked f l.mask l.dest (leAt l.image 6 2) = true) :
    s.loadCommit f
      = if l.byCmd = true then t.wake 0x0800 f 0 0x31 [] else t.set (flaskBase f) FLASK_PLOAD_STAT_RESULT 2 := by
  simp only [State.loadCommit, h, ht, hb, if_true]

theorem loadCommit_commits (hb : t.loadBlocked f l.mask l.dest (leAt l.image 6 2) = false) {u : State}
    (hu : ((((t.pmemPut f l.dest ((patWords l.image).map (relocate l.dest))).each (setBitsOf l.mask 8)
      fun s e => s.loadEngine f e l).driveKeep f).bump (flaskBase f) FLASK_LOADS) = u) :
    s.loadCommit f
      = if l.byCmd = true then
          u.wake 0x0800 f 0 0 (leBytes 2 (leAt l.image 6 2) ++ leBytes 2 (leAt l.image 8 2 + l.dest))
        else u.set (flaskBase f) FLASK_PLOAD_STAT_RESULT 1 := by
  simp only [State.loadCommit, h, ht, hb, hu, Bool.false_eq_true, if_false]

end

end

/-! ### The rows -/

section
variable (s : State) (f e : Fin 8)

theorem exec_engineArmedStart : exec (.engineArmedStart f) s = s.runFlask f.val fun s => s.engArmed f.val := rfl

theorem exec_engineStopTaken : exec (.engineStopTaken f e) s = s.runFlask f.val fun s => s.engStopTaken f.val e.val := rfl

theorem exec_patternLoadCommit : exec (.patternLoadCommit f) s = s.runFlask f.val fun s => s.loadCommit f.val := rfl

theorem exec_flaskGoStart (m : BitVec 8) :
    exec (.flaskGoStart f m) s
      = s.runFlask f.val fun s => s.regWrite 2 (flaskBase f.val + 0x04) (BitVec.ofNat 32 m.toNat) := rfl

theorem exec_flaskGoStop (m : BitVec 8) :
    exec (.flaskGoStop f m) s
      = s.runFlask f.val fun s => s.regWrite 2 (flaskBase f.val + 0x04) (BitVec.ofNat 32 (256 * m.toNat)) := rfl

theorem exec_flaskTxqPush (w : Word) :
    exec (.flaskTxqPush f e w) s = s.runFlask f.val fun s => s.regWrite 2 (flaskBase f.val + (0x120 + 4 * e.val)) w := by
  rw [← Nat.add_assoc]
  rfl

theorem exec_flaskTallyPost (m : BitVec 8) :
    exec (.flaskTallyPost f m) s
      = s.runFlask f.val fun s => s.regWrite 2 (flaskBase f.val + 0x1C) (BitVec.ofNat 32 m.toNat) := rfl

theorem exec_flaskTallyClr (m : BitVec 8) :
    exec (.flaskTallyClr f m) s
      = s.runFlask f.val fun s => s.regWrite 2 (flaskBase f.val + 0x1C) (BitVec.ofNat 32 (256 * m.toNat)) := rfl

theorem exec_flaskPload (cmd : Word) :
    exec (.flaskPload f cmd) s = s.runFlask f.val fun s => s.regWrite 2 (flaskBase f.val + 0x24) cmd := rfl

/-- Every instruction of a Pattern is one engine cycle. -/
theorem exec_flaskCycle (x : FlaskIn) {i : Instr}
    (hi : i ∈ [.flaskGo f e x, .flaskIf f e x, .flaskLoop f e x, .flaskSetk f e x, .flaskHold f e x, .flaskDrive f e x,
      .flaskSend f e x, .flaskTake f e x, .flaskDraw f e x, .flaskFeed f e x, .flaskSeal f e x, .flaskDrop f e x,
      .flaskLoadImm f e x, .flaskAlu f e x, .flaskPins f e x, .flaskStamp f e x, .flaskAt f e x, .flaskTally f e x,
      .flaskGoi f e x]) :
    ∃ op body, exec i s = s.runFlask f.val fun s => s.engCycle f.val e.val op x body := by
  simp only [List.mem_cons, List.not_mem_nil, or_false] at hi
  rcases hi with rfl | rfl | rfl | rfl | rfl | rfl | rfl | rfl | rfl | rfl | rfl | rfl | rfl | rfl | rfl | rfl | rfl | rfl | rfl
  all_goals exact ⟨_, _, rfl⟩

end

/-- Settles O37: each row is an operation of the Flask or the write of one of its registers, and each clause is a case of it. -/
theorem flaskControlRows : Obligations.FlaskControlRows := by
  intro s f hl hp b u
  have hrun (g : State → State) : s.runFlask f.val g = .next (s.after (g s)) := run_flask g hl hp
  refine ⟨?armed, ?stopTaken, ?parity, fun hopen => ?writes, ?noLoad, ?load⟩
  case armed =>
    intro u
    rw [exec_engineArmedStart, hrun]
    exact next_after s engArmed_eq
  case stopTaken =>
    intro e safe hreq hrunning t
    rw [exec_engineStopTaken, hrun, engStopTaken_running hreq hrunning]
  case parity =>
    intro i e x hi hrunning hstop hopen hflip
    obtain ⟨op, body, hrow⟩ := exec_flaskCycle s f e x hi
    rw [hrow, hrun, engCycle_flipped hrunning hstop hopen hl.2 hflip]
  case noLoad =>
    intro h
    rw [exec_patternLoadCommit, hrun, loadCommit_none h]
  case load =>
    intro l rest h t t' n
    refine ⟨fun hb => ?_, fun hb => ?_⟩
    · rw [exec_patternLoadCommit, hrun, loadCommit_blocked h rfl hb]
    · rw [exec_patternLoadCommit, hrun, loadCommit_commits h rfl hb rfl]
  case writes =>
    have hwrite {o : Nat} (ho : o < 0x1000) (w : Word) := regWrite_flask f.isLt ho hp hopen w
    have hqueue (e : Fin 8) : 0x120 + 4 * e.val < 0x1000 := by omega
    refine ⟨?goStart, ?goStop, ?push, ?pushDrop, ?post, ?clr, ?pload, ?ploadRefused⟩
    case goStart =>
      intro m
      rw [exec_flaskGoStart, hrun, hwrite (by decide), writeFlask_go, flaskGo_start]
    case goStop =>
      intro m
      rw [exec_flaskGoStop, hrun, hwrite (by decide), writeFlask_go, flaskGo_stop]
    case push =>
      intro e w hsrc hroom
      rw [exec_flaskTxqPush, hrun, hwrite (hqueue e), writeFlask_txq e.isLt, txqPush_room hsrc hroom]
    case pushDrop =>
      intro e w h
      rw [exec_flaskTxqPush, hrun, hwrite (hqueue e), writeFlask_txq e.isLt, txqPush_drop h]
    case post =>
      intro m
      rw [exec_flaskTallyPost, hrun, hwrite (by decide), writeFlask_tallyCmd, (lowMask m).1, (lowMask m).2, tallyCmd_post]
    case clr =>
      intro m
      rw [exec_flaskTallyClr, hrun, hwrite (by decide), writeFlask_tallyCmd, (highMask m).1, (highMask m).2, tallyCmd_clr]
    case pload =>
      intro cmd l hgo hfree hcheck
      rw [exec_flaskPload, hrun, hwrite (by decide), writeFlask_pload, ploadWrite_accepted hgo hfree hcheck]
    case ploadRefused =>
      intro cmd r hgo hfree hcheck
      rw [exec_flaskPload, hrun, hwrite (by decide), writeFlask_pload, ploadWrite_refused hgo hfree hcheck]

end Sys2Proof.Machine

/-! The commands of groups 0x08 and 0x09: Flasks loaded, started, stopped and set; discrete lines configured, driven, scheduled
and attached to a generator. -/

namespace Sys2Proof.Machine

section
variable {s : State} {k : CmdKey} {e : CmdEntry}

/-! ### Pattern loads (R346) -/

section
variable {mask : Nat} (hmask : e.engines (e.arg 2 1) = some mask) (hsrc : e.arg 0 1 ≤ 1) (hflags : e.arg 1 1 ≤ 3)
  (hz3 : e.arg 3 1 = 0) (hdest : e.arg 8 2 ≤ 1023) (hz10 : e.arg 10 2 = 0)
include hmask hsrc hflags hz3 hdest hz10

theorem waits_flaskLoad {l : PLoad}
    (hcheck : s.loadCheck e.idx (e.arg 0 1 == 1) (e.arg 4 4) (e.arg 8 2) mask (bitAt (e.arg 1 1) 0) (bitAt (e.arg 1 1) 1) true
      = .inr l) :
    s.Waits k e (.flaskLoad k) 0x0800 12 (.unit e.idx 0)
      (s.setFlask e.idx { s.flask e.idx with loads := (s.flask e.idx).loads ++ [l] }) := by
  have hrange : ¬ (1 < e.arg 0 1 ∨ 3 < e.arg 1 1 ∨ e.arg 3 1 ≠ 0 ∨ 1023 < e.arg 8 2 ∨ e.arg 10 2 ≠ 0) := by omega
  exact waits_of_wait rfl rfl (by simp only [hmask, if_neg hrange, hcheck])

theorem completes_flaskLoad_refused {r : Nat}
    (hcheck : s.loadCheck e.idx (e.arg 0 1 == 1) (e.arg 4 4) (e.arg 8 2) mask (bitAt (e.arg 1 1) 0) (bitAt (e.arg 1 1) 1) true
      = .inl r) :
    s.Completes k e (.flaskLoad k) 0x0800 12 (loadStatus r) [] s := by
  have hrange : ¬ (1 < e.arg 0 1 ∨ 3 < e.arg 1 1 ∨ e.arg 3 1 ≠ 0 ∨ 1023 < e.arg 8 2 ∨ e.arg 10 2 ≠ 0) := by omega
  exact completes_of_done rfl rfl (by simp only [hmask, if_neg hrange, hcheck]; rfl)

end

/-! ### Starts and stops (R348, R349) -/

/-- The engines of a mask that a start names and that do not run yet, as a mask. -/
def State.namedMask (s : State) (f mask : Nat) : Nat :=
  (((setBitsOf mask 8).filter fun i => !(s.eng f i).running).map fun i => 2 ^ i).sum

theorem allLoaded_iff (f mask : Nat) :
    (setBitsOf mask 8).any (fun i => !s.flag (ecBase f i) EC_PROG_LOADED) = false
      ↔ ∀ i ∈ setBitsOf mask 8, s.flag (ecBase f i) EC_PROG_LOADED = true := by
  rw [List.any_eq_false]
  simp

theorem noMoment (hfl : e.arg 1 1 = 0 ∨ e.arg 1 1 = 1) : bitAt (e.arg 1 1) 1 = false := by
  rcases hfl with h | h <;> rw [h] <;> rfl

section
variable {mask : Nat} (hmask : e.engines (e.arg 0 1) = some mask) (hz2 : e.arg 2 2 = 0) (hz14 : e.arg 14 2 = 0)
include hmask hz2 hz14

section
variable (hfl : e.arg 1 1 = 0 ∨ e.arg 1 1 = 1)
include hfl

theorem completes_flaskStart_now (hloaded : ∀ i ∈ setBitsOf mask 8, s.flag (ecBase e.idx i) EC_PROG_LOADED = true) :
    s.Completes k e (.flaskStart k) 0x0801 16 0 (leBytes 4 (s.namedMask e.idx mask))
      ((s.engStart e.idx mask (bitAt (e.arg 1 1) 0) none).driveKeep e.idx) := by
  have hrange : ¬ (3 < e.arg 1 1 ∨ e.arg 2 2 ≠ 0 ∨ e.arg 14 2 ≠ 0) := by omega
  exact completes_of_done rfl rfl (by
    simp only [hmask, noMoment hfl, if_neg hrange, (allLoaded_iff e.idx mask).mpr hloaded,
      Bool.false_eq_true, if_false, false_and]
    rfl)

theorem completes_flaskStart_unloaded
    (hloaded : ¬ ∀ i ∈ setBitsOf mask 8, s.flag (ecBase e.idx i) EC_PROG_LOADED = true) :
    s.Completes k e (.flaskStart k) 0x0801 16 0x0803 [] s := by
  have hrange : ¬ (3 < e.arg 1 1 ∨ e.arg 2 2 ≠ 0 ∨ e.arg 14 2 ≠ 0) := by omega
  have hany : (setBitsOf mask 8).any (fun i => !s.flag (ecBase e.idx i) EC_PROG_LOADED) = true :=
    Bool.not_eq_false _ ▸ mt (allLoaded_iff e.idx mask).mp hloaded
  exact completes_of_done rfl rfl (by
    simp only [hmask, noMoment hfl, if_neg hrange, hany, Bool.false_eq_true, if_false, if_true]
    rfl)

end

theorem completes_flaskStart_at {at_ : Nat} (hfl : e.arg 1 1 = 2 ∨ e.arg 1 1 = 3) (hat : e.stampAt 4 = some at_)
    (hvalid : s.timeValid = true) (hlater : s.ring + 10000 ≤ at_)
    (hloaded : ∀ i ∈ setBitsOf mask 8, s.flag (ecBase e.idx i) EC_PROG_LOADED = true) :
    s.Completes k e (.flaskStart k) 0x0801 16 0 (leBytes 4 (s.namedMask e.idx mask))
      ((s.engStart e.idx mask (bitAt (e.arg 1 1) 0) (some at_)).driveKeep e.idx) := by
  have hrange : ¬ (3 < e.arg 1 1 ∨ e.arg 2 2 ≠ 0 ∨ e.arg 14 2 ≠ 0) := by omega
  have hmoment : bitAt (e.arg 1 1) 1 = true := by rcases hfl with h | h <;> rw [h] <;> rfl
  exact completes_of_done rfl rfl (by
    simp only [hmask, hmoment, hat, hvalid, if_neg hrange, (allLoaded_iff e.idx mask).mpr hloaded, Bool.not_true,
      Bool.false_eq_true, if_false, if_true, and_false, Nat.not_lt.mpr hlater]
    rfl)

end

section
variable {mask : Nat} {live : List Nat} {t : State} (hmask : e.engines (e.arg 0 1) = some mask) (hsafe : e.arg 1 1 ≤ 1)
  (hz2 : e.arg 2 2 = 0) (hlive : (setBitsOf mask 8).filter (fun i => !s.engStopped e.idx i) = live)
  (ht : s.engStop e.idx mask (e.arg 1 1 == 1) = t)
include hmask hsafe hz2 hlive ht

theorem waits_flaskStop (hrun : ∃ i ∈ live, (t.eng e.idx i).running = true) :
    s.Waits k e (.flaskStop k) 0x0802 4 (.unit e.idx (live.map fun i => 2 ^ i).sum) t := by
  have hrange : ¬ (1 < e.arg 1 1 ∨ e.arg 2 2 ≠ 0) := by omega
  exact waits_of_wait rfl rfl (by
    simp only [hmask, if_neg hrange, hlive, ht, if_pos (List.any_eq_true.mpr hrun)])

theorem completes_flaskStop (hrun : ∀ i ∈ live, (t.eng e.idx i).running = false) :
    s.Completes k e (.flaskStop k) 0x0802 4 0 (t.stopResult e.idx (live.map fun i => 2 ^ i).sum) t := by
  have hrange : ¬ (1 < e.arg 1 1 ∨ e.arg 2 2 ≠ 0) := by omega
  have hnone : ¬ live.any (fun i => (t.eng e.idx i).running) = true := by simpa using hrun
  exact completes_of_done rfl rfl (by simp only [hmask, if_neg hrange, hlive, ht, if_neg hnone])

end

/-! ### Status and settings (R352) -/

theorem completes_flaskStatus :
    s.Completes k e (.flaskStatus k) 0x0803 0 0
      (s.shown [flaskBase e.idx, flaskBase e.idx + FLASK_TALLY_T0.off]
        ++ (if unitSub e.unit = 255 then List.range 8 else [unitSub e.unit]).flatMap fun i => s.engRecord e.idx i) s :=
  completes_of_done rfl rfl rfl

section
variable (hone : unitSub e.unit ≠ 255) (hstream : streamOk (e.arg 8 4) = true)
include hone hstream

theorem engineSet_range : ¬ (unitSub e.unit = 255 ∨ (!streamOk (e.arg 8 4)) = true) := by
  simp [hone, hstream]

theorem completes_flaskEngineSet (hstopped : s.engStopped e.idx (unitSub e.unit) = true) :
    s.Completes k e (.flaskEngineSet k) 0x8800 16 0 []
      (s.regWrites 2 (e.images (wordOffs (ecBase e.idx (unitSub e.unit)) 4))) :=
  completes_of_done rfl rfl ((if_neg (engineSet_range hone hstream)).trans (if_neg (by simp [hstopped])))

theorem completes_flaskEngineSet_running (hstopped : s.engStopped e.idx (unitSub e.unit) = false) :
    s.Completes k e (.flaskEngineSet k) 0x8800 16 0x31 [] s :=
  completes_of_done rfl rfl ((if_neg (engineSet_range hone hstream)).trans (if_pos (by simp [hstopped])))

end

/-! ### Discrete lines (R370) -/

theorem dioSet_owned (h : s.lineSafety e.idx = true) : s.Completes k e (.dioSet k) 0x8900 12 0x60 [] s :=
  completes_of_done rfl rfl (if_pos h)

theorem completes_dioSet (h : s.lineSafety e.idx = false) :
    s.Completes k e (.dioSet k) 0x8900 12 0 [] (s.regWrites 2 (e.images (wordOffs (lineBase e.idx) 3))) :=
  completes_of_done rfl rfl (if_neg (by simp [h]))

theorem dioConfig_owned (hok : dioConfigOk e = true) (h : s.lineSafety e.idx = true) :
    s.Completes k e (.dioConfig k) 0x0900 16 0x60 [] s :=
  completes_of_done rfl rfl ((if_neg (by simp [hok])).trans (if_pos h))

theorem completes_dioConfig (hok : dioConfigOk e = true) (h : s.lineSafety e.idx = false) :
    s.Completes k e (.dioConfig k) 0x0900 16 0 [] (s.regWrites 2 (s.dioConfigWords e)) :=
  completes_of_done rfl rfl ((if_neg (by simp [hok])).trans (if_neg (by simp [h])))

section
variable (hact : e.arg 0 1 ≤ 2) (hz1 : e.arg 1 3 = 0)
include hact hz1

theorem dioOutput_owned (h : s.lineSafety e.idx = true) : s.Completes k e (.dioOutput k) 0x0901 4 0x60 [] s :=
  completes_of_done rfl rfl ((if_neg (by omega)).trans (if_pos h))

section
variable (h : s.lineSafety e.idx = false)
include h

theorem dioOutput_undriven (hmode : s.lineMode e.idx < 2 ∨ s.wired e.idx = true) :
    s.Completes k e (.dioOutput k) 0x0901 4 0x24 [] s :=
  completes_of_done rfl rfl ((if_neg (by omega)).trans ((if_neg (by simp [h])).trans (if_pos hmode)))

theorem completes_dioOutput (hmode : 2 ≤ s.lineMode e.idx) (hwired : s.wired e.idx = false) :
    s.Completes k e (.dioOutput k) 0x0901 4 0 []
      (s.outLine e.idx (if e.arg 0 1 = 0 then false else if e.arg 0 1 = 1 then true else !s.latch e.idx) (e.arg 0 1)) :=
  completes_of_done rfl rfl ((if_neg (by omega)).trans ((if_neg (by simp [h])).trans
    (if_neg (by simp [hwired, Nat.lt_iff_add_one_le, hmode]))))

end
end

/-! ### Scheduled outputs (R365) -/

section
variable (h : s.lineSafety e.idx = false) (hz3 : e.arg 3 1 = 0) (hz6 : e.arg 6 2 = 0) (hz18 : e.arg 18 2 = 0)
include h hz3 hz6 hz18

section
variable {at_ : Nat} (hadd : e.arg 0 1 = 1) (hact : e.arg 1 1 ≤ 2) (hflags : e.arg 2 1 ≤ 1) (hat : e.stampAt 8 = some at_)
include hadd hact hflags hat

omit h in
/-- The parameters of an entry to be made are in range. -/
theorem schedule_add_range :
    ¬ (((!(e.arg 0 1 == 1)) = true ∧ e.arg 0 1 ≠ 2) ∨ e.arg 3 1 ≠ 0 ∨ e.arg 6 2 ≠ 0 ∨ e.arg 18 2 ≠ 0
      ∨ ((e.arg 0 1 == 1) = true ∧ (2 < e.arg 1 1 ∨ 1 < e.arg 2 1 ∨ (e.stampAt 8).isNone = true))) := by
  simp [hadd, hz3, hz6, hz18, hact, hflags, hat]

theorem dioSchedule_full (hfull : 64 ≤ (s.bank (e.idx / 64)).sched.length) :
    s.Completes k e (.dioSchedule k) 0x0902 20 0x0901 [] s :=
  completes_of_done rfl rfl ((if_neg (schedule_add_range hz3 hz6 hz18 hadd hact hflags hat)).trans
    ((if_neg (by simp [h])).trans ((if_pos (by simp [hadd])).trans (if_pos hfull))))

section
variable (hroom : (s.bank (e.idx / 64)).sched.length < 64)
include hroom

theorem dioSchedule_late (hlate : at_ < s.ring + 10000) : s.Completes k e (.dioSchedule k) 0x0902 20 0x0402 [] s :=
  completes_of_done rfl rfl ((if_neg (schedule_add_range hz3 hz6 hz18 hadd hact hflags hat)).trans
    ((if_neg (by simp [h])).trans ((if_pos (by simp [hadd])).trans ((if_neg (Nat.not_le.mpr hroom)).trans
      (if_pos (by rw [hat]; exact hlate))))))

theorem completes_dioSchedule (hlater : s.ring + 10000 ≤ at_) (hvalid : e.arg 2 1 = 1 → s.timeValid = true) :
    s.Completes k e (.dioSchedule k) 0x0902 20 0 (leBytes 4 (s.schedAdd e.idx (e.arg 1 1) at_ (e.arg 2 1 == 1)).1)
      (s.schedAdd e.idx (e.arg 1 1) at_ (e.arg 2 1 == 1)).2 := by
  have htime : ¬ (e.arg 2 1 = 1 ∧ (!s.timeValid) = true) := by
    rintro ⟨hone, hno⟩
    simp [hvalid hone] at hno
  exact completes_of_done rfl rfl ((if_neg (schedule_add_range hz3 hz6 hz18 hadd hact hflags hat)).trans
    ((if_neg (by simp [h])).trans ((if_pos (by simp [hadd])).trans ((if_neg (Nat.not_le.mpr hroom)).trans
      ((if_neg (by rw [hat]; exact Nat.not_lt.mpr hlater)).trans ((if_neg htime).trans (by rw [hat]; rfl)))))))

end
end

section
variable {i : Instr} (hcancel : e.arg 0 1 = 2)
include hcancel

omit h in
theorem schedule_cancel_range :
    ¬ (((!(e.arg 0 1 == 1)) = true ∧ e.arg 0 1 ≠ 2) ∨ e.arg 3 1 ≠ 0 ∨ e.arg 6 2 ≠ 0 ∨ e.arg 18 2 ≠ 0
      ∨ ((e.arg 0 1 == 1) = true ∧ (2 < e.arg 1 1 ∨ 1 < e.arg 2 1 ∨ (e.stampAt 8).isNone = true))) := by
  simp [hcancel, hz3, hz6, hz18]

theorem dioSchedule_notFound (hdue : ∀ x ∈ (s.bank (e.idx / 64)).sched, x.id = e.arg 4 2 → x.at_ ≤ s.dioNow (e.idx / 64)) :
    s.Completes k e (.dioSchedule k) 0x0902 20 0x0403 [] s := by
  have hnone : ¬ (s.bank (e.idx / 64)).sched.any (fun x => x.id == e.arg 4 2 && decide (s.dioNow (e.idx / 64) < x.at_)) = true := by
    simpa using hdue
  exact completes_of_done rfl rfl ((if_neg (schedule_cancel_range hz3 hz6 hz18 hcancel)).trans
    ((if_neg (by simp [h])).trans ((if_neg (by simp [hcancel])).trans (by rw [State.schedCancel]; simp only [if_neg hnone]; rfl))))

theorem completes_dioSchedule_cancel
    (hfound : ∃ x ∈ (s.bank (e.idx / 64)).sched, x.id = e.arg 4 2 ∧ s.dioNow (e.idx / 64) < x.at_) :
    s.Completes k e (.dioSchedule k) 0x0902 20 0 []
      (s.setBank (e.idx / 64) { s.bank (e.idx / 64) with
        sched := (s.bank (e.idx / 64)).sched.filter fun x => x.id != e.arg 4 2 }) := by
  have hsome : (s.bank (e.idx / 64)).sched.any (fun x => x.id == e.arg 4 2 && decide (s.dioNow (e.idx / 64) < x.at_)) = true := by
    simpa using hfound
  exact completes_of_done rfl rfl ((if_neg (schedule_cancel_range hz3 hz6 hz18 hcancel)).trans
    ((if_neg (by simp [h])).trans ((if_neg (by simp [hcancel])).trans (by rw [State.schedCancel]; simp only [if_pos hsome]; rfl))))

end
end

/-! ### Generators (R367) -/

section
variable (h : s.lineSafety e.idx = false) (hgen : e.arg 0 1 ≤ 15) (hon : e.arg 1 1 ≤ 1) (hz2 : e.arg 2 2 = 0)
  (hlong : 1000 ≤ e.arg 4 4) (hsec : e.arg 4 4 ≤ nsPerSec) (hduty : e.arg 8 4 ≤ e.arg 4 4) (hphase : e.arg 12 4 ≤ e.arg 4 4)
include h hgen hon hz2 hlong hsec hduty hphase

omit h in
theorem pwm_range :
    ¬ (15 < e.arg 0 1 ∨ 1 < e.arg 1 1 ∨ e.arg 2 2 ≠ 0 ∨ e.arg 4 4 < 1000 ∨ nsPerSec < e.arg 4 4 ∨ e.arg 4 4 < e.arg 8 4
      ∨ e.arg 4 4 < e.arg 12 4) := by
  omega

theorem dioPwm_notOutput (hmode : s.lineMode e.idx < 2) : s.Completes k e (.dioPwm k) 0x0903 16 0x24 [] s :=
  completes_of_done rfl rfl ((if_neg (pwm_range hgen hon hz2 hlong hsec hduty hphase)).trans
    ((if_neg (by simp [h])).trans (if_pos hmode)))

theorem completes_dioPwm (hmode : 2 ≤ s.lineMode e.idx) :
    s.Completes k e (.dioPwm k) 0x0903 16 0 [] (s.regWrites 2 (s.pwmWrites e)) :=
  completes_of_done rfl rfl ((if_neg (pwm_range hgen hon hz2 hlong hsec hduty hphase)).trans
    ((if_neg (by simp [h])).trans (if_neg (Nat.not_lt.mpr hmode))))

end

theorem completes_dioStatus {b : Nat} (hb : dioBase e.idx = b) :
    s.Completes k e (.dioStatus k) 0x0904 0 0
      (s.shown ([b + 0x10, b + 0x14, b + 0x18, b + 0x1C, b + 0x20, b + 0x24, b + 0x48] ++ wordOffs (b + 0x80) 8)) s :=
  hb ▸ completes_of_done rfl rfl rfl

end

/-- Settles O57: each clause is one way a command of the two groups answers. -/
theorem unitCommands : Obligations.UnitCommands := by
  refine ⟨?flasks, ?lines⟩
  case flasks =>
    intro s k e f i
    refine ⟨fun mask hm h0 h1 h3 h8 h10 => ⟨fun l => waits_flaskLoad hm h0 h1 h3 h8 h10,
        fun r => completes_flaskLoad_refused hm h0 h1 h3 h8 h10⟩, fun mask hm h2 h14 => ⟨?_, ?_, ?_⟩,
      fun mask hm h1 h2 => ⟨waits_flaskStop hm h1 h2 rfl rfl, completes_flaskStop hm h1 h2 rfl rfl⟩, completes_flaskStatus,
      fun hone hstream => ⟨completes_flaskEngineSet hone hstream, completes_flaskEngineSet_running hone hstream⟩⟩
    · exact fun hl hfl => completes_flaskStart_now hm h2 h14 hfl hl
    · exact fun _ hl hfl hat hv hlater => completes_flaskStart_at hm h2 h14 hfl hat hv hlater hl
    · exact fun hl hfl => completes_flaskStart_unloaded hm h2 h14 hfl hl
  case lines =>
    intro s k e j bank
    refine ⟨fun h => ⟨dioSet_owned h, fun hok => dioConfig_owned hok h, fun h0 h1 => dioOutput_owned h0 h1 h⟩,
      fun h => ⟨fun hok => completes_dioConfig hok h,
        fun h0 h1 => ⟨dioOutput_undriven h0 h1 h, completes_dioOutput h0 h1 h⟩,
        fun at_ h0 h1 h2 h3 h6 h18 hat => ⟨dioSchedule_full h h3 h6 h18 h0 h1 h2 hat,
          fun hroom => dioSchedule_late h h3 h6 h18 h0 h1 h2 hat hroom,
          fun hroom => completes_dioSchedule h h3 h6 h18 h0 h1 h2 hat hroom⟩,
        fun h0 h3 h6 h18 => ⟨dioSchedule_notFound h h3 h6 h18 h0, completes_dioSchedule_cancel h h3 h6 h18 h0⟩,
        fun h0 h1 h2 h4 hs hd hp => ⟨dioPwm_notOutput h h0 h1 h2 h4 hs hd hp, completes_dioPwm h h0 h1 h2 h4 hs hd hp⟩,
        completes_dioSet h⟩, completes_dioStatus rfl⟩

end Sys2Proof.Machine

/-! The rows of the discrete lines: the registers of a bank as the hub writes them, the operations case by case, the latches. -/

namespace Sys2Proof.Machine

/-! ### Where a bank's registers lie (Table 1.7) -/

/-- The offsets in a bank's block that the rows write: the output words, the schedule command, the generators. -/
def dioRowOffset (o : Nat) : Prop := o < 0x1000 ∧ ¬ (0x100 ≤ o ∧ o < 0x500)

section
variable {s : State} {b o : Nat} (hb : b < 3) (ho : dioRowOffset o)
include hb ho

omit hb in
theorem dioReg_noLine : dioRegLine (dioBase b + o) = none := by
  obtain ⟨hlt, hline⟩ := ho
  have hoff : (dioBase b + o) % 0x1000 = o := by unfold dioBase; omega
  rw [dioRegLine, hoff]
  exact if_neg hline

theorem regPresent_dio (hp : 64 * b < s.nDio) : s.regPresent (dioBase b + o) = true := by
  have hnone := dioReg_noLine (b := b) ho
  obtain ⟨hlt, -⟩ := ho
  unfold State.regPresent
  rw [hnone]
  unfold dioBase
  rw [if_neg (by omega), if_neg (by omega), if_neg (by omega), if_pos (by omega), regSet_index hlt]
  simp [hp]

theorem regFenced_dio : s.regFenced (dioBase b + o) = s.fenced (.dioBank b) := by
  obtain ⟨hlt, -⟩ := ho
  unfold State.regFenced regFence dioBase
  rw [if_neg (by omega), if_neg (by omega), if_pos (by omega), regSet_index hlt]

theorem regIsland_dio : regIsland (dioBase b + o) = some (16 + b) := by
  obtain ⟨hlt, -⟩ := ho
  unfold regIsland dioBase
  rw [if_neg (by omega), if_neg (by omega), if_pos (by omega), regSet_index hlt]

theorem wakeFor_dio : s.wakeFor (dioBase b + o) = s.wakeFor (dioBase b) := by
  have hbase := regIsland_dio hb (o := 0) ⟨by decide, by decide⟩
  rw [Nat.add_zero] at hbase
  simp only [State.wakeFor, regIsland_dio hb ho, hbase]

theorem regApply_dio (init : Nat) (w : Word) : s.regApply init (dioBase b + o) w = s.writeDio init (dioBase b + o) w := by
  obtain ⟨hlt, -⟩ := ho
  unfold State.regApply dioBase
  rw [if_neg (by omega), if_neg (by omega), if_neg (by omega), if_neg (by omega), if_neg (by omega), if_neg (by omega),
    if_neg (by omega), if_neg (by omega), if_pos (by omega)]

/-- A write by the hub (log entry 3) wakes the bank's island at once (log entry 57). -/
theorem regWrite_dio (hp : 64 * b < s.nDio) (hopen : s.fenced (.dioBank b) = false) (w : Word) :
    s.regWrite 2 (dioBase b + o) w = (s.wakeFor (dioBase b)).writeDio 2 (dioBase b + o) w := by
  have hlt := ho.1
  have hmail : mailWindow (dioBase b + o) = false := decide_eq_false (by unfold dioBase; omega)
  rw [regWrite_applies (regMapped_unit (by unfold dioBase; omega)) (regPresent_dio hb ho hp)
    ((regFenced_dio hb ho).trans hopen) (.inl hmail) (.inr (le_refl 2)), wakeFor_dio hb ho, regApply_dio hb ho]

end

/-! ### What a write of each register comes to (Table 13.8) -/

section
variable {s : State} {b : Nat}

theorem dioReg_index {o : Nat} (ho : o < 0x1000) : (dioBase b + o - 0x300000) / 0x1000 = b := regSet_index ho

theorem dioReg_offset {o : Nat} (ho : o < 0x1000) : (dioBase b + o) % 0x1000 = o := by
  unfold dioBase
  omega

/-- Offset of the word of half `h` that does operation `op`: DIO_OUT for 3, then SET, CLR and TGL. -/
def dioOutOffset (h : Bool) (op : Nat) : Nat := (if op = 3 then 0x20 else 0x28 + 8 * op) + 4 * b2n h

theorem dioOutOffset_row (h : Bool) {op : Nat} (hop : op < 4) : dioRowOffset (dioOutOffset h op) := by
  have hh : b2n h ≤ 1 := by cases h <;> decide
  unfold dioRowOffset dioOutOffset
  constructor <;> split <;> omega

theorem writeDio_out (h : Bool) {op : Nat} (hop : op < 4) (init : Nat) (w : Word) :
    s.writeDio init (dioBase b + dioOutOffset h op) w = s.outWrite b h op w := by
  have hlt : dioOutOffset h op < 0x1000 := (dioOutOffset_row h hop).1
  have hwin : 0x20 ≤ dioOutOffset h op ∧ dioOutOffset h op < 0x40 := by decide +revert
  have hword : (if dioOutOffset h op < 0x28 then 3 else (dioOutOffset h op - 0x28) / 8) = op := by decide +revert
  have hhalf : (dioOutOffset h op % 8 == 4) = h := by decide +revert
  unfold State.writeDio
  rw [dioReg_index hlt, dioReg_offset hlt]
  simp only [if_pos hwin, hword, hhalf]

theorem writeDio_schedCmd (init : Nat) (w : Word) : s.writeDio init (dioBase b + 0x6C) w = s.schedGo b w := by
  simp only [State.writeDio, dioReg_index (show 0x6C < 0x1000 by decide), dioReg_offset (show 0x6C < 0x1000 by decide)]
  rfl

theorem writeDio_pwmCtrl {g : Nat} (hg : g < 16) (init : Nat) (w : Word) :
    s.writeDio init (dioBase b + (0x60C + 0x10 * g)) w = s.genWrite b g (w.getLsbD 0) := by
  have hlt : 0x60C + 0x10 * g < 0x1000 := by omega
  have hgen : (0x60C + 0x10 * g - 0x600) / 16 = g := by omega
  unfold State.writeDio
  rw [dioReg_index hlt, dioReg_offset hlt, if_neg (by omega), if_neg (by omega), if_pos (by omega), hgen]

end

/-! ### The operations case by case (R357, R364, R365, R367) -/

section
variable {s : State} {b j : Nat}

/-- Once its time has passed the filter accepts a transition whose level still stands, or rejects it. -/
theorem lineDecide_due {x : Transition} (htrans : (s.line j).trans = some x) (hdue : x.began + x.time ≤ s.uptime) :
    s.lineDecide j = if s.lineLevel j = x.level then s.lineAccept j x else s.lineReject j := by
  simp only [State.lineDecide, htrans, if_neg (Nat.not_lt.mpr hdue)]

theorem lineDecide_none (htrans : (s.line j).trans = none) : s.lineDecide j = s := by
  simp only [State.lineDecide, htrans]

section
variable {v : Bool} {t : State} (hdrive : s.lineDrive j = some v) (hpad : (s.line j).pad = !v)
  (ht : (s.bump (dioBase (j / 64)) DIO_READBACK_ERR).evt (dioBase (j / 64)) DIO_EVT 4 = t)
include hdrive hpad ht

theorem readback_safety (h : t.lineSafety j = true) :
    s.readback j = t.raiseAs .safety .dioReadback (srcLine j) 0 (leBytes 1 (b2n v) ++ leBytes 1 (b2n !v)) := by
  simp only [State.readback, hdrive, hpad, ht, h, Bool.not_eq_self, if_true, if_false]

section
variable (h : t.lineSafety j = false)
include h

theorem readback_reports (hmay : t.mayReport (t.bank (j / 64)).rbAt = true) :
    s.readback j
      = (t.setBank (j / 64) { t.bank (j / 64) with rbAt := some t.uptime }).raiseAs .note .dioReadback (srcLine j) 0
          (leBytes 1 (b2n v) ++ leBytes 1 (b2n !v)) := by
  simp only [State.readback, hdrive, hpad, ht, h, hmay, Bool.not_eq_self, Bool.false_eq_true, if_true, if_false]

theorem readback_counts (hmay : t.mayReport (t.bank (j / 64)).rbAt = false) : s.readback j = t := by
  simp only [State.readback, hdrive, hpad, ht, h, hmay, Bool.not_eq_self, Bool.false_eq_true, if_false]

end
end

theorem readback_agrees (h : s.lineDrive j = none ∨ s.lineDrive j = some (s.line j).pad) : s.readback j = s := by
  rcases h with h | h <;> simp only [State.readback, h, if_true]

theorem schedFire_due {e : DioEntry} (hfirst : firstEntry (s.bank b).sched = some e) (hdue : e.at_ ≤ s.dioNow b) :
    s.schedFire b = s.entryFire b e := by
  simp only [State.schedFire, hfirst, if_pos hdue]

section
variable {cmd : Word}

theorem schedGo_ignored (h : cmd.getLsbD 31 = false ∨ s.nDio ≤ 64 * b + bitsOf cmd 0 6) : s.schedGo b cmd = s :=
  if_pos (h.imp_left fun hgo => by rw [hgo]; rfl)

section
variable (hgo : cmd.getLsbD 31 = true) (hline : 64 * b + bitsOf cmd 0 6 < s.nDio)
include hgo hline

theorem schedGo_taken : ¬ ((!cmd.getLsbD 31) = true ∨ s.nDio ≤ 64 * b + bitsOf cmd 0 6) := by
  simp [hgo, hline]

theorem schedGo_owned (h : s.lineSafety (64 * b + bitsOf cmd 0 6) = true) :
    s.schedGo b cmd = (s.safeDrop (64 * b + bitsOf cmd 0 6) cmd.toNat).schedStat b 3 0 :=
  (if_neg (schedGo_taken hgo hline)).trans (if_pos h)

section
variable (h : s.lineSafety (64 * b + bitsOf cmd 0 6) = false)
include h

theorem schedGo_badAction (hact : bitsOf cmd 8 2 = 3) : s.schedGo b cmd = s.schedStat b 3 0 :=
  (if_neg (schedGo_taken hgo hline)).trans ((if_neg (by simp [h])).trans (if_pos hact))

theorem schedGo_full (hact : bitsOf cmd 8 2 ≠ 3) (hfull : 64 ≤ (s.bank b).sched.length) :
    s.schedGo b cmd = s.schedStat b 2 0 :=
  (if_neg (schedGo_taken hgo hline)).trans ((if_neg (by simp [h])).trans ((if_neg hact).trans (if_pos hfull)))

theorem schedGo_adds (hact : bitsOf cmd 8 2 ≠ 3) (hroom : (s.bank b).sched.length < 64) :
    s.schedGo b cmd
      = (s.schedAdd (64 * b + bitsOf cmd 0 6) (bitsOf cmd 8 2) (s.schedAt b) (cmd.getLsbD 12)).2.schedStat b 1
          (s.schedAdd (64 * b + bitsOf cmd 0 6) (bitsOf cmd 8 2) (s.schedAt b) (cmd.getLsbD 12)).1 :=
  (if_neg (schedGo_taken hgo hline)).trans ((if_neg (by simp [h])).trans ((if_neg hact).trans
    (if_neg (Nat.not_le.mpr hroom))))

end
end
end

section
variable {g : Nat}

theorem genStart_off (h : s.flag (pwmBase b g) DIO_PWM_CTRL_EN = false) : s.genStart b g = s :=
  if_pos (.inl (by rw [h]; rfl))

/-- A commit made before this instant applies to the period that starts (R367). -/
theorem genStart_starts (hen : s.flag (pwmBase b g) DIO_PWM_CTRL_EN = true) (hnew : s.genIndex b g ≠ (s.gen b g).last)
    {t : State} (ht : (match (s.gen b g).pend with
      | some (p, on, ph, at_) => if at_ < s.uptime then s.genTake b g (p, on, ph) else s
      | none => s) = t) :
    s.genStart b g
      = t.setGen b g { t.gen b g with last := t.genIndex b g, startAt := t.dioNow b, out := decide (0 < (t.gen b g).on) } := by
  subst ht
  exact if_neg (by simp [hen, hnew])

theorem genOnEnd_due (hout : (s.gen b g).out = true) (hshort : (s.gen b g).on < (s.gen b g).period)
    (hdue : (s.gen b g).startAt + (s.gen b g).on ≤ s.dioNow b) :
    s.genOnEnd b g = s.setGen b g { s.gen b g with out := false } :=
  if_pos ⟨hout, hshort, hdue⟩

end

/-! ### One line of an immediate write (R363, R368) -/

theorem outLine_owned (h : s.lineSafety j = true) (v : Bool) (word : Nat) : s.outLine j v word = s.safeDrop j word := if_pos h

/-- A mask of one bit names one line. -/
theorem linesOf_bit {i : Nat} (hi : i < 32) (h : Bool) : linesOf b h (BitVec.ofNat 32 (2 ^ i)) = [64 * b + 32 * b2n h + i] := by
  have hbit : setBitsOf (BitVec.ofNat 32 (2 ^ i)).toNat 32 = [i] := by decide +revert
  rw [linesOf, hbit, List.map_singleton]

theorem outWrite_bit {h : Bool} {i op : Nat} {m : Word} (hm : BitVec.ofNat 32 (2 ^ i) = m) (hi : i < 32) (hop : op < 3)
    (hj : 64 * b + 32 * b2n h + i = j) (hline : j < s.nDio) :
    s.outWrite b h op m
      = s.outLine j (if op = 0 then true else if op = 1 then false else !s.latch j) m.toNat := by
  have hlines : linesOf b h m = [j] := by rw [← hm, linesOf_bit hi, hj]
  have hne : op ≠ 3 := by omega
  have htwo : ¬ op = 0 → ¬ op = 1 → op = 2 := by omega
  have hmap (v : Bool) : (if op = 0 then true else if op = 1 then false else if op = 2 then !s.latch j else v)
      = if op = 0 then true else if op = 1 then false else !s.latch j := by
    split
    · rfl
    · next h0 =>
      split
      · rfl
      · next h1 => exact if_pos (htwo h0 h1)
  simp only [State.outWrite, hlines, List.filter_cons, hline, decide_true, if_true, List.filter_nil,
    List.foldl_cons, List.foldl_nil, hmap, hne, false_and, if_false]

end

/-! ### The rows -/

theorem run_line {s : State} {j : Nat} (g : State → State) (hl : s.Live) (hj : j < s.nDio) :
    s.runLine j g = .next (s.after (g s)) := by
  rw [State.runLine, run_up _ hl.1, if_pos hj]

theorem run_bank {s : State} {b : Nat} (g : State → State) (hl : s.Live) (hb : 64 * b < s.nDio) :
    s.runBank b g = .next (s.after (g s)) := by
  rw [State.runBank, run_live _ hl, if_pos hb]

section
variable (s : State) (j : Fin 192) (b : Fin 3)

theorem exec_dioCrossing (level : Bool) :
    exec (.dioCrossing j level) s = s.runLine j.val fun s => s.padSees j.val level := rfl

theorem exec_dioFilterDecide :
    exec (.dioFilterDecide j) s = s.runLine j.val fun s => if s.inHeld then s else s.lineDecide j.val := rfl

theorem exec_dioReadbackMismatch :
    exec (.dioReadbackMismatch j) s
      = s.runLine j.val fun s => if s.inHeld ∨ s.fenced (.dioBank (j.val / 64)) then s else s.readback j.val := rfl

theorem exec_dioLagFall : exec (.dioLagFall b) s = s.runBank b.val fun s => s.bankLagFall b.val := rfl

theorem exec_dioSchedFire : exec (.dioSchedFire b) s = s.runBank b.val fun s => s.schedFire b.val := rfl

theorem exec_pwmPeriodStart (g : Fin 16) :
    exec (.pwmPeriodStart b g) s = s.runBank b.val fun s => s.genStart b.val g.val := rfl

theorem exec_pwmOnEnd (g : Fin 16) : exec (.pwmOnEnd b g) s = s.runBank b.val fun s => s.genOnEnd b.val g.val := rfl

theorem exec_dioOutSet (h : Bool) (m : Word) :
    exec (.dioOutSet b h m) s = s.runBank b.val fun s => s.regWrite 2 (dioBase b.val + dioOutOffset h 0) m := by
  rw [dioOutOffset, if_neg (by decide), ← Nat.add_assoc]
  rfl

theorem exec_dioOutClr (h : Bool) (m : Word) :
    exec (.dioOutClr b h m) s = s.runBank b.val fun s => s.regWrite 2 (dioBase b.val + dioOutOffset h 1) m := by
  rw [dioOutOffset, if_neg (by decide), ← Nat.add_assoc]
  rfl

theorem exec_dioOutTgl (h : Bool) (m : Word) :
    exec (.dioOutTgl b h m) s = s.runBank b.val fun s => s.regWrite 2 (dioBase b.val + dioOutOffset h 2) m := by
  rw [dioOutOffset, if_neg (by decide), ← Nat.add_assoc]
  rfl

theorem exec_dioOutWrite (h : Bool) (w : Word) :
    exec (.dioOutWrite b h w) s = s.runBank b.val fun s => s.regWrite 2 (dioBase b.val + dioOutOffset h 3) w := by
  rw [dioOutOffset, if_pos rfl, ← Nat.add_assoc]
  rfl

theorem exec_dioSchedGo (cmd : Word) :
    exec (.dioSchedGo b cmd) s = s.runBank b.val fun s => s.regWrite 2 (dioBase b.val + 0x6C) cmd := rfl

theorem exec_dioPwmCtrlWrite (g : Fin 16) (w : Word) :
    exec (.dioPwmCtrlWrite b g w) s
      = s.runBank b.val fun s => s.regWrite 2 (dioBase b.val + (0x60C + 0x10 * g.val)) w := by
  have haddr : dioBase b.val + (0x60C + 0x10 * g.val) = pwmBase b.val g.val + 0x0C := by unfold pwmBase; omega
  rw [haddr]
  rfl

end

/-- Settles O38: each row is an operation of its line or bank, or the write of one of the bank's registers; a mask of one bit
writes one latch. -/
theorem dioRows : Obligations.DioRows := by
  refine ⟨fun s hl => ⟨?crossing, ?decide, ?decideNone, ?mismatch, ?agrees, fun b hp => ?bank⟩, fun s b h i hi => ?latches⟩
  case crossing =>
    intro j level hj t
    have hsees : s.padSees j.val level = s.crossing j.val level := if_neg (by simp [hl.2])
    rw [exec_dioCrossing, run_line _ hl hj, hsees]
    rfl
  case decide =>
    intro j x hj htrans hdue
    rw [exec_dioFilterDecide, run_line _ hl hj, if_neg (by simp [hl.2]), lineDecide_due htrans hdue]
  case decideNone =>
    intro j hj htrans
    rw [exec_dioFilterDecide, run_line _ hl hj, if_neg (by simp [hl.2]), lineDecide_none htrans]
  case mismatch =>
    intro j v hj hopen hdrive hpad k t d
    rw [exec_dioReadbackMismatch, run_line _ hl hj, if_neg (by simp [hl.2, hopen])]
    refine ⟨fun h => ?_, fun h hmay => ?_, fun h hmay => ?_⟩
    · rw [readback_safety hdrive hpad rfl h]
    · rw [readback_reports hdrive hpad rfl h hmay]
    · rw [readback_counts hdrive hpad rfl h hmay]
  case agrees =>
    intro j hj hopen h
    rw [exec_dioReadbackMismatch, run_line _ hl hj, if_neg (by simp [hl.2, hopen]), readback_agrees h]
  case latches =>
    intro j m hline
    have hbit (op : Nat) (hop : op < 3) := outWrite_bit (m := m) rfl hi hop (j := j) rfl hline
    exact ⟨fun _ => ⟨hbit 0 (by decide), hbit 1 (by decide), hbit 2 (by decide)⟩,
      fun h op hop => (hbit op hop).trans (outLine_owned h _ _)⟩
  case bank =>
    intro k u
    have hrun (g : State → State) : s.runBank b.val g = .next (s.after (g s)) := run_bank g hl hp
    refine ⟨?lag, ?fire, ?start, ?off, ?onEnd, fun hopen => ?writes⟩
    case lag =>
      intro r
      rw [exec_dioLagFall, hrun]
      rfl
    case fire =>
      intro e hfirst hdue
      rw [exec_dioSchedFire, hrun, schedFire_due hfirst hdue]
    case start =>
      intro g hen hnew t y
      rw [exec_pwmPeriodStart, hrun]
      exact next_after s (genStart_starts hen hnew rfl)
    case off =>
      intro g h
      rw [exec_pwmPeriodStart, hrun, genStart_off h]
    case onEnd =>
      intro g hout hshort hdue
      rw [exec_pwmOnEnd, hrun, genOnEnd_due hout hshort hdue]
    case writes =>
      have hwrite {o : Nat} (ho : dioRowOffset o) (w : Word) := regWrite_dio b.isLt ho hp hopen w
      have hout (h : Bool) (m : Word) {op : Nat} (hop : op < 4) :
          s.regWrite 2 (dioBase b.val + dioOutOffset h op) m = u.outWrite k h op m := by
        rw [hwrite (dioOutOffset_row h hop), writeDio_out h hop]
      have hcmd (cmd : Word) : s.regWrite 2 (dioBase b.val + 0x6C) cmd = u.schedGo k cmd := by
        rw [hwrite ⟨by decide, by decide⟩, writeDio_schedCmd]
      refine ⟨fun h m => ⟨?_, ?_, ?_, ?_⟩, fun cmd => ?sched, fun g w => ?ctrl⟩
      · rw [exec_dioOutSet, hrun, hout h m (by decide)]
      · rw [exec_dioOutClr, hrun, hout h m (by decide)]
      · rw [exec_dioOutTgl, hrun, hout h m (by decide)]
      · rw [exec_dioOutWrite, hrun, hout h m (by decide)]
      case ctrl =>
        rw [exec_dioPwmCtrlWrite, hrun, hwrite ⟨by omega, by omega⟩, writeDio_pwmCtrl g.isLt]
      case sched =>
        intro j
        rw [exec_dioSchedGo, hrun, hcmd]
        refine ⟨fun h => ?_, fun hgo hj h => ?_, fun hgo hj h hact => ?_, fun hgo hj h hact hfull => ?_,
          fun hgo hj h hact hroom => ?_⟩
        · rw [schedGo_ignored h]
        · rw [schedGo_owned hgo hj h]
        · rw [schedGo_badAction hgo hj h hact]
        · rw [schedGo_full hgo hj h hact hfull]
        · rw [schedGo_adds hgo hj h hact hroom]

end Sys2Proof.Machine

/-! The rows of the feeds: samples, the break and the make of a switch, the priority order. -/

namespace Sys2Proof.Machine

section
variable {s : State}

/-! ### Samples (R377, R379) -/

/-- Whether the feed that UV_HOLD holds has stood above its limit for the disqualification time (R379). -/
def State.heldHigh (s : State) : Bool :=
  s.flag feedReg FEED_STAT_UV_HOLD && (s.feed s.selected).above &&
    (match (s.feed s.selected).outSince with
     | some o => decide (o + 1000 * s.get (feedBase s.selected) FEED_QUAL_DISQ_US ≤ s.uptime)
     | none => false)

theorem heldHigh_iff :
    s.heldHigh = true ↔ s.flag feedReg FEED_STAT_UV_HOLD = true ∧ (s.feed s.selected).above = true
      ∧ ∃ o, (s.feed s.selected).outSince = some o ∧ o + 1000 * s.get (feedBase s.selected) FEED_QUAL_DISQ_US ≤ s.uptime := by
  unfold State.heldHigh
  rw [Bool.and_eq_true, Bool.and_eq_true, and_assoc]
  cases (s.feed s.selected).outSince <;> simp

section
variable {a b bat : Nat} {t u : State} {turned : List Nat} (ht : ((s.feedTake 0 a).feedTake 1 b).feedTake 2 bat = t)
  (hturned : [0, 1, 2].filter (fun f => t.feedJudge f != t.qualified f) = turned)
  (hu : turned.foldl (fun (u : State) f => u.feedChange f (t.feedJudge f)) t = u)
include ht hturned hu

/-- A sample that turns no feed and ends no hold changes nothing else. -/
theorem feedSample_quiet (hnone : turned = []) (hlow : u.heldHigh = false) : s.feedSample a b bat = u := by
  subst ht hturned hu
  exact if_pos (show (_ && !State.heldHigh _) = true by rw [hlow, hnone]; rfl)

theorem feedSample_selects (h : turned ≠ [] ∨ u.heldHigh = true) : s.feedSample a b bat = u.feedSelect 1 := by
  subst ht hturned hu
  refine if_neg (show ¬ (_ && !State.heldHigh _) = true from ?_)
  rw [Bool.and_eq_true, List.isEmpty_iff, Bool.not_eq_true']
  rintro ⟨hnone, hlow⟩
  rcases h with h | h
  · exact h hnone
  · rw [h] at hlow
    cases hlow

end

/-! ### The switch of a feed (R378, R380, R381) -/

section
variable {since : Nat}

section
variable (hphase : s.power.sel.phase = .breaking since)
include hphase

theorem feedConfirm_toDead (hnext : s.power.sel.next ≠ 3) :
    s.feedConfirm = (s.set feedReg FEED_STAT_STUCK 0).setSel { s.power.sel with phase := .dead s.uptime } := by
  simp only [State.feedConfirm, hphase, if_neg hnext, set_uptime]

theorem feedConfirm_toNone (hnext : s.power.sel.next = 3) :
    s.feedConfirm = ((s.set feedReg FEED_STAT_STUCK 0).feedDone 3 s.power.sel.cause s.power.sel.stamp).feedSelect 6 := by
  simp only [State.feedConfirm, hphase, if_pos hnext]

theorem feedStuck_found (hlate : since + 100000 ≤ s.uptime) (vgs : Nat) : s.feedStuck vgs = s.stuckFound vgs := by
  simp only [State.feedStuck, hphase, if_neg (Nat.not_lt.mpr hlate)]

end

section
variable (hphase : s.power.sel.phase = .dead since) (hdue : since + 1000 * s.get feedReg FEED_DEAD_US ≤ s.uptime)
include hphase hdue

theorem feedMake_makes (hq : s.qualified s.power.sel.next = true) :
    s.feedMake = (s.feedDone s.power.sel.next s.power.sel.cause s.power.sel.stamp).feedSelect
      (if s.power.sel.moved then 4 else 1) := by
  simp only [State.feedMake, hphase, if_neg (Nat.not_lt.mpr hdue), hq, if_true]

/-- A feed that is no longer qualified is not made: the best one is, or none (log entry 96). -/
theorem feedMake_best (hq : s.qualified s.power.sel.next = false) :
    s.feedMake = s.feedDone ((if s.flag feedReg FEED_STAT_FROZEN then none else s.bestFeed).getD 3) s.power.sel.cause
      s.power.sel.stamp := by
  simp only [State.feedMake, hphase, if_neg (Nat.not_lt.mpr hdue), hq, Bool.false_eq_true, if_false]
  cases (if s.flag feedReg FEED_STAT_FROZEN = true then none else s.bestFeed) <;> rfl

end
end

/-! ### FEED_PRIO (R378) -/

theorem regWrite_feedPrio (hopen : s.fenced (.pedie 0) = false) (w : Word) : s.regWrite 2 feedReg w = s.feedPrio w.toNat := by
  have hpresent : s.regPresent feedReg = true := rfl
  have hfenced : s.regFenced feedReg = false := hopen
  rw [regWrite_applies (regMapped_unit (by decide)) hpresent hfenced (.inl (by decide)) (.inr (le_refl 2))]
  rfl

end

/-! ### The rows -/

theorem unitPresent_pedie_zero (s : State) : s.unitPresent (.pedie 0) = true := by
  unfold State.unitPresent
  cases s.variant <;> rfl

section
variable (s : State)

theorem exec_feedSample (mv : FeedMv) :
    exec (.feedSample mv) s = s.runDie 0 fun s => s.feedSample mv.a.toNat mv.b.toNat mv.bat.toNat := rfl

theorem exec_feedBreakConfirm : exec .feedBreakConfirm s = s.runDie 0 fun s => s.feedConfirm := rfl

theorem exec_feedDeadTimeEnd : exec .feedDeadTimeEnd s = s.runDie 0 fun s => s.feedMake := rfl

theorem exec_feedBreakTimeout (vgs : Word) :
    exec (.feedBreakTimeout vgs) s = s.runDie 0 fun s => s.feedStuck vgs.toNat := rfl

theorem exec_feedPimgPeriod :
    exec .feedPimgPeriod s = s.run fun s => if (s.die 0).powered then s.feedPeriod else s := rfl

theorem exec_feedPrioWrite (v : Word) : exec (.feedPrioWrite v) s = s.runLive fun s => s.regWrite 2 feedReg v := rfl

end

/-- Settles O40: each clause is one case of the operation its row runs on the feed die. -/
theorem feedRows : Obligations.FeedRows := by
  intro s hpow
  have hrun (g : State → State) : s.runDie 0 g = .next (s.after (g s)) := run_die 0 g hpow (unitPresent_pedie_zero s)
  refine ⟨?sample, ?toDead, ?toNone, ?make, ?best, ?stuck, ?period, ?prio⟩
  case sample =>
    intro mv t turned u x high
    have hhigh : u.heldHigh = true ↔ high := heldHigh_iff
    refine ⟨fun hnone hlow => ?_, fun h => ?_⟩
    · rw [exec_feedSample, hrun, feedSample_quiet rfl rfl rfl hnone (Bool.eq_false_iff.mpr (mt hhigh.mp hlow))]
    · rw [exec_feedSample, hrun, feedSample_selects rfl rfl rfl (h.imp_right hhigh.mpr)]
  case toDead =>
    intro since hphase hnext y
    rw [exec_feedBreakConfirm, hrun, feedConfirm_toDead hphase hnext]
  case toNone =>
    intro since hphase hnext
    rw [exec_feedBreakConfirm, hrun, feedConfirm_toNone hphase hnext]
  case make =>
    intro since hphase hdue hq
    rw [exec_feedDeadTimeEnd, hrun, feedMake_makes hphase hdue hq]
  case best =>
    intro since hphase hdue hq
    rw [exec_feedDeadTimeEnd, hrun, feedMake_best hphase hdue hq]
  case stuck =>
    intro since vgs hphase hlate
    rw [exec_feedBreakTimeout, hrun, feedStuck_found hphase hlate]
  case period =>
    intro hup
    rw [exec_feedPimgPeriod, run_up _ hup, if_pos hpow]
    rfl
  case prio =>
    intro v hl hopen a b c
    rw [exec_feedPrioWrite, run_live _ hl, regWrite_feedPrio hopen]
    rfl

end Sys2Proof.Machine

/-! The rows of a string power channel: presence, insertion, ramp, gate, trips, stress, FET short, retries, measurement and EN. -/

namespace Sys2Proof.Machine

section
variable {s : State} {c : Nat}

/-! ### Presence and insertion (R385, R386) -/

theorem presence_same {there : Bool} (h : s.flag (pchBase c) PCH_STAT_PRESENT = there) : s.presence c there = s :=
  if_pos (.inr (.inr (.inr h)))

theorem presence_changes {there : Bool} (hen : s.flag (pchBase c) PCH_CTRL_PRES_EN = true) (hgate : s.pchGate c = false)
    (hshort : s.flag (pchBase c) PCH_STAT_FET_SHORT = false) (h : s.flag (pchBase c) PCH_STAT_PRESENT = !there) {t : State}
    {cause : Nat} (ht : s.setPch c { s.pch c with load := if there then some s.uptime else none } = t)
    (hcause : (if there then 13 else 12) = cause) :
    s.presence c there
      = (((t.set (pchBase c) PCH_STAT_PRESENT (b2n there)).evt (pchBase c) PCH_EVT 4).pchRecord c cause).pchFollow c cause := by
  subst ht hcause
  exact if_neg (by simp [hen, hgate, hshort, h])

theorem insertEnd_inserting (h : s.pchState c = 2) : s.insertEnd c = s.pchFollow c 13 := if_pos h

/-! ### Ramp and gate (R387, R388) -/

section
variable (hst : s.pchState c = 4)
include hst

theorem rampEnd_reached (hflat : (s.pch c).rising = none)
    (hnear : (s.feed (s.get feedReg FEED_STAT_SELECTED)).mv ≤ (s.pch c).lastV + 1000) :
    s.rampEnd c = s.setPch c { s.pch c with rising := some s.uptime } :=
  if_pos ⟨hst, hflat, hnear⟩

theorem rampTimeout_due (hflat : (s.pch c).rising = none)
    (hdue : (s.pch c).since + 1000000 * s.get (pchBase c) PCH_RAMP_MAX_MS ≤ s.uptime) : s.rampTimeout c = s.pchTrip c 8 :=
  if_pos ⟨hst, hflat, hdue⟩

section
variable {r : Nat} (hrise : (s.pch c).rising = some r)
include hrise

theorem gateOn_rising : s.gateOn c = s.pchEnter c 5 4 :=
  if_pos ⟨hst, by rw [hrise]; rfl⟩

theorem gateTimeout_due (hdue : r + 1000 * s.get (pchBase c) PCH_GATE_RISE_US ≤ s.uptime) (vgs : Nat) :
    s.gateTimeout c vgs
      = ((s.bump (pchBase c) PCH_FET_OPENS).raise .pchFetOpen (srcPch c) 0 (leBytes 4 vgs)).pchLatch c 9 := by
  have hsince : s.risingSince c = some (r, true) := (if_pos hst).trans (by rw [hrise]; rfl)
  simp only [State.gateTimeout, hsince, if_neg (Nat.not_lt.mpr hdue), if_true]
  rfl

end

theorem fastTrip_ramp : s.fastTrip c = s.pchTrip c 5 := if_pos hst

end

/-! ### Trips (R389 to R394) -/

theorem fastTrip_on (hst : s.pchState c = 5) : s.fastTrip c = s.pchTrip c 6 :=
  (if_neg (by omega)).trans (if_pos hst)

theorem fastTrip_off (h4 : s.pchState c ≠ 4) (h5 : s.pchState c ≠ 5) :
    s.fastTrip c = (s.pchLateTrip c 5 (·.state == 4)).pchLateTrip c 6 (·.state == 5) :=
  (if_neg h4).trans (if_neg h5)

/-- Only a sample above SLOW_MA ends in a trip (log entry 95). -/
theorem slowOver_trips (hst : s.pchState c = 5) (hover : (s.get (pchBase c) PCH_LIMITS1_SLOW_MA : Int) < (s.pch c).lastI) :
    s.slowOver c = s.pchTrip c 7 :=
  (if_neg fun h => absurd h.2 (Int.not_le.mpr hover)).trans (if_pos hst)

theorem stressLimit_trips (hgate : s.pchGate c = true)
    (hover : s.get (pchBase c) PCH_STRESS_LIMIT_MJ * 100000000 < (s.pch c).stress) :
    s.stressLimit c
      = ((s.bump (pchBase c) PCH_LATCHES).raise .pchFetStress (srcPch c) 0 (leBytes 4 (s.pch c).mj)).pchLatch c 10 :=
  (if_neg (Nat.not_le.mpr hover)).trans (if_pos hgate)

theorem fetShort_found (hgate : s.pchGate c = false) (hshort : s.flag (pchBase c) PCH_STAT_FET_SHORT = false)
    (hoff : (s.pch c).offAt + 101000000 ≤ s.uptime) (hover : 12000 < (s.pch c).lastV) :
    s.fetShort c
      = ((((s.set (pchBase c) PCH_STAT_FET_SHORT 1).evt (pchBase c) PCH_EVT 3).bump (pchBase c) PCH_FET_SHORTS).pchRecord c
          17).raise .pchFetShort (srcPch c) 0 (leBytes 4 (s.pch c).lastV) :=
  if_pos ⟨by rw [hgate]; rfl, by rw [hshort]; rfl, hoff, hover⟩

theorem fetShortClear_clears (hshort : s.flag (pchBase c) PCH_STAT_FET_SHORT = true) (hbelow : (s.pch c).lastV < 12000) :
    s.fetShortClear c = (s.set (pchBase c) PCH_STAT_FET_SHORT 0).pchRecord c 18 :=
  if_pos ⟨hshort, hbelow⟩

theorem retryEnd_due (hst : s.pchState c = 6) (hdue : (s.pch c).retryEnd ≤ s.uptime) :
    s.retryEnd c = s.pchEnter c (if s.pchCommanded c then s.pchWants c else 0)
      (if s.pchCommanded c = true ∧ s.pchWants c = 4 then 3 else 15) := by
  refine (if_pos ⟨hst, hdue⟩).trans ?_
  cases hcmd : s.pchCommanded c <;> simp

theorem retryClear_due (hst : s.pchState c = 5) (hdue : (s.pch c).since + 60 * nsPerSec ≤ s.uptime) :
    s.retryClear c = s.set (pchBase c) PCH_STAT_RETRY_CNT 0 :=
  if_pos ⟨hst, hdue⟩

section
variable {cause : Nat} {t : State} (ht : s.tripRecord c cause (s.pchState c) (s.retryAfter c) = t)
include ht

theorem pchTrip_retries {n : Nat} (hn : s.get (pchBase c) PCH_STAT_RETRY_CNT = n)
    (hleft : n < s.get (pchBase c) PCH_RETRY_MAX) {u : State}
    (hu : t.set (pchBase c) PCH_STAT_RETRY_CNT (n + 1) = u) :
    s.pchTrip c cause
      = ((u.setPch c { u.pch c with retryEnd := u.uptime + 1000000 * u.get (pchBase c) PCH_RETRY_MS
                                    trip := some (u.uptime, n) }).pchEnter c 6 cause).tripReset c := by
  subst ht hn hu
  exact if_pos hleft

theorem pchTrip_latches {n : Nat} (hn : s.get (pchBase c) PCH_STAT_RETRY_CNT = n)
    (hnone : s.get (pchBase c) PCH_RETRY_MAX ≤ n) :
    s.pchTrip c cause
      = ((((t.setPch c { t.pch c with trip := some (t.uptime, n) }).bump (pchBase c) PCH_LATCHES).raise .pchRetryExhausted
          (srcPch c) 0 (leBytes 1 cause)).pchEnter c 7 11).tripReset c := by
  subst ht hn
  exact if_neg (Nat.not_lt.mpr hnone)

end

/-! ### What a channel wants, and how it follows (R383, R386) -/

theorem pchWants_noLoad (h : s.pchLoad c = none) : s.pchWants c = 1 := by
  simp only [State.pchWants, h]

section
variable {t : Nat} (h : s.pchLoad c = some t)
include h

theorem pchWants_insert (hyoung : s.uptime < t + 1000000 * s.get (pchBase c) PCH_INSERT_MS) : s.pchWants c = 2 := by
  simp only [State.pchWants, h, if_pos hyoung]

theorem pchWants_inserted (hold : t + 1000000 * s.get (pchBase c) PCH_INSERT_MS ≤ s.uptime) :
    s.pchWants c = if s.feedThere then 4 else 3 := by
  simp only [State.pchWants, h, if_neg (Nat.not_lt.mpr hold)]
  cases s.feedThere <;> rfl

end

section
variable (hcmd : s.pchCommanded c = true)
include hcmd

theorem pchFollow_on (hst : 4 ≤ s.pchState c) (cause : Nat) : s.pchFollow c cause = s :=
  (if_neg (by simp [hcmd])).trans (if_pos hst)

theorem pchFollow_rises (hst : s.pchState c < 4) (cause : Nat) :
    s.pchFollow c cause = s.pchEnter c (s.pchWants c) (if s.pchWants c = 4 then 3 else cause) :=
  (if_neg (by simp [hcmd])).trans (if_neg (Nat.not_le.mpr hst))

end

section
variable (hcmd : s.pchCommanded c = false)
include hcmd

theorem pchFollow_off (hst : s.pchState c = 0) (cause : Nat) : s.pchFollow c cause = s :=
  (if_pos (by simp [hcmd])).trans (if_pos (.inl hst))

theorem pchFollow_falls (h0 : s.pchState c ≠ 0) (h7 : s.pchState c ≠ 7) (cause : Nat) : s.pchFollow c cause = s.pchOff c cause :=
  (if_pos (by simp [hcmd])).trans (if_neg (by simp [h0, h7]))

end

/-! ### Slots and EN (R384, R397) -/

theorem pchImageDue_due (hpow : (s.die (c / 32)).powered = true) (hp : c < s.nPch)
    (hdue : (s.pch c).imageAt + 1000000 * s.get (pchBase c) PCH_PIMG_MS ≤ s.uptime) : s.pchImageDue c = s.pchImage c :=
  if_pos ⟨hpow, hp, hdue⟩

/-- What a 10 µs sample leaves in the channel (R396). -/
theorem pchSample_pch (ma mv : BitVec 32) :
    (s.pchSample c ma mv).pch c = { s.pch c with lastI := ma.toInt, lastV := mv.toNat } :=
  setPch_pch s c _

section
variable (hc : c < 64)
include hc

theorem pchReg_index : (pchBase c - 0x400000) / 0x100 = c ∧ pchBase c % 0x100 = 0 := by
  unfold pchBase
  omega

theorem regPresent_pch (hp : c < s.nPch) : s.regPresent (pchBase c) = true := by
  unfold State.regPresent
  rw [(pchReg_index hc).1]
  unfold pchBase
  rw [if_neg (by omega), if_neg (by omega), if_neg (by omega), if_neg (by omega), if_pos (by omega)]
  exact decide_eq_true hp

theorem regFenced_pch : s.regFenced (pchBase c) = s.fenced (.pedie (c / 32)) := by
  have hdie : (pchBase c - 0x400000) / 0x2000 = c / 32 := by unfold pchBase; omega
  unfold State.regFenced regFence
  rw [hdie]
  unfold pchBase
  rw [if_neg (by omega), if_neg (by omega), if_neg (by omega), if_pos (by omega)]

theorem regIsland_pch : regIsland (pchBase c) = none := by
  unfold regIsland pchBase
  rw [if_neg (by omega), if_neg (by omega), if_neg (by omega), if_neg (by omega), if_neg (by omega)]

theorem regApply_pchCtrl (init : Nat) (w : Word) :
    s.regApply init (pchBase c) w = s.writePchCtrl init c (pchBase c) w := by
  have hplace := pchReg_index hc
  have happly : s.regApply init (pchBase c) w = s.writePch init (pchBase c) w := by
    unfold State.regApply pchBase
    rw [if_neg (by omega), if_neg (by omega), if_neg (by omega), if_neg (by omega), if_neg (by omega), if_neg (by omega),
      if_neg (by omega), if_neg (by omega), if_neg (by omega), if_pos (by omega)]
  rw [happly, State.writePch, hplace.1, hplace.2]
  exact if_pos rfl

theorem writeBy_pchCtrl (hp : c < s.nPch) (hopen : s.fenced (.pedie (c / 32)) = false) (who : Who) (w : Word) :
    s.writeBy who (pchBase c) w = s.writePchCtrl (whoCode who) c (pchBase c) w := by
  have hplace : pchBase c % 4 = 0 ∧ pchBase c % 4096 + 4 ≤ 4096 ∧ 0xA000 ≤ pchBase c := by unfold pchBase; omega
  have hshape : regShape (pchBase c) 4 = true := by simp [regShape, hplace]
  have hmail : coversMail (pchBase c) 4 = false := by
    simp [coversMail, rangesMeet]
    omega
  have hstatus : s.writeStatus 0 (pchBase c) 4 (whoRing who) = 0 := by simp [State.writeStatus, hshape, hmail, stOk]
  have hmap : regMapped (pchBase c) = true := regMapped_unit (by unfold pchBase; omega)
  have hisland := regIsland_pch hc
  have hgated : s.regGated (pchBase c) = false := by rw [State.regGated, hisland]
  have hwake : s.wakeFor (pchBase c) = s := by rw [State.wakeFor, hisland]
  have hwindow : mailWindow (pchBase c) = false := decide_eq_false (by omega)
  rw [writeBy_ok s who _ w hstatus, regWrite_applies hmap (regPresent_pch hc hp) ((regFenced_pch hc).trans hopen)
    (.inl hwindow) (.inl hgated), hwake, regApply_pchCtrl hc]

end
end

/-! ### The rows -/

theorem unitPresent_pedie {s : State} {c : Nat} (hp : c < s.nPch) : s.unitPresent (.pedie (c / 32)) = true := by
  unfold State.nPch at hp
  unfold State.unitPresent
  cases hv : s.variant with
  | axh7264 => rfl
  | axh7232 =>
    rw [hv] at hp
    have hlow : c < 32 := hp
    exact decide_eq_true (by omega)

section
variable (s : State) (c : Fin 64) (m : ChSample)

theorem exec_presenceChange (there : Bool) :
    exec (.presenceChange c there) s = s.runPch c.val fun s => s.presence c.val there := rfl

theorem exec_insertDelayEnd : exec (.insertDelayEnd c) s = s.runPch c.val fun s => s.insertEnd c.val := rfl

theorem exec_rampEnd : exec (.rampEnd c m) s = s.runPch c.val fun s => (s.pchSample c.val m.ma m.mv).rampEnd c.val := rfl

theorem exec_rampTimeout :
    exec (.rampTimeout c m) s = s.runPch c.val fun s => (s.pchSample c.val m.ma m.mv).rampTimeout c.val := rfl

theorem exec_gateOn : exec (.gateOn c m) s = s.runPch c.val fun s => (s.pchSample c.val m.ma m.mv).gateOn c.val := rfl

theorem exec_gateRiseTimeout (vgs : Word) :
    exec (.gateRiseTimeout c vgs) s = s.runPch c.val fun s => s.gateTimeout c.val vgs.toNat := rfl

theorem exec_fastTrip : exec (.fastTrip c m) s = s.runPch c.val fun s => (s.pchSample c.val m.ma m.mv).fastTrip c.val := rfl

theorem exec_slowOvercurrent :
    exec (.slowOvercurrent c m) s = s.runPch c.val fun s => (s.pchSample c.val m.ma m.mv).slowOver c.val := rfl

theorem exec_fetStressLimit :
    exec (.fetStressLimit c m) s = s.runPch c.val fun s => (s.pchSample c.val m.ma m.mv).stressLimit c.val := rfl

theorem exec_fetShortDetect :
    exec (.fetShortDetect c m) s = s.runPch c.val fun s => (s.pchSample c.val m.ma m.mv).fetShort c.val := rfl

theorem exec_fetShortClear :
    exec (.fetShortClear c m) s = s.runPch c.val fun s => (s.pchSample c.val m.ma m.mv).fetShortClear c.val := rfl

theorem exec_retryTimeEnd : exec (.retryTimeEnd c) s = s.runPch c.val fun s => s.retryEnd c.val := rfl

theorem exec_retryCountClear : exec (.retryCountClear c) s = s.runPch c.val fun s => s.retryClear c.val := rfl

theorem exec_measurementUpdate (ms : List ChSample) :
    exec (.measurementUpdate c ms) s = s.runPch c.val fun s => s.measureAll c.val ms := rfl

theorem exec_pchPimgPeriod : exec (.pchPimgPeriod c) s = s.run fun s => s.pchImageDue c.val := rfl

theorem exec_pchEnWrite (who : Who) (en : Bool) :
    exec (.pchEnWrite who c en) s
      = s.runLive fun s => s.writeBy who (pchBase c.val) (putBits (s.rd (pchBase c.val)) 0 1 (b2n en)) := rfl

end

/-- Settles O41: each row is an operation of its channel, each clause one case of it, after the sample has become the
channel's last. -/
theorem channelRows : Obligations.ChannelRows := by
  refine ⟨fun s c hpow hp => ?rows, fun s c cause => ⟨fun h => pchTrip_retries rfl rfl h rfl, pchTrip_latches rfl rfl⟩,
    fun s c cause => ⟨pchWants_noLoad, fun _ => pchWants_insert, fun _ => pchWants_inserted,
      fun hcmd hst => pchFollow_on hcmd hst cause, fun hcmd hst => pchFollow_rises hcmd hst cause,
      fun hcmd hst => pchFollow_off hcmd hst cause, fun hcmd h0 h7 => pchFollow_falls hcmd h0 h7 cause⟩⟩
  case rows =>
    intro n b
    have hrun (g : State → State) : s.runPch c.val g = .next (s.after (g s)) := run_pch _ g hpow (unitPresent_pedie hp) hp
    refine ⟨?change, ?same, ?inserted, fun m => ?sampled, ?gateTimeout, ?retry, ?clear, ?measure, ?slots, ?en⟩
    case change =>
      intro there hen hgate hshort h t cause
      rw [exec_presenceChange, hrun, presence_changes hen hgate hshort h rfl rfl]
    case same =>
      intro there h
      rw [exec_presenceChange, hrun, presence_same h]
    case inserted =>
      intro h
      rw [exec_insertDelayEnd, hrun, insertEnd_inserting h]
    case gateTimeout =>
      intro r vgs hst hrise hdue
      rw [exec_gateRiseTimeout, hrun, gateTimeout_due hst hrise hdue]
    case retry =>
      intro hst hdue
      rw [exec_retryTimeEnd, hrun, retryEnd_due hst hdue]
    case clear =>
      intro hst hdue
      rw [exec_retryCountClear, hrun, retryClear_due hst hdue]
    case measure =>
      intro ms _
      exact (exec_measurementUpdate s c ms).trans (hrun _)
    case slots =>
      intro hup hdue
      rw [exec_pchPimgPeriod, run_up _ hup, pchImageDue_due hpow hp hdue]
    case en =>
      intro who en hl hopen
      rw [exec_pchEnWrite, run_live _ hl, writeBy_pchCtrl c.isLt hp hopen]
    case sampled =>
      intro t
      have hlastI : (t.pch n).lastI = m.ma.toInt := congrArg PchUnit.lastI (pchSample_pch m.ma m.mv)
      have hlastV : (t.pch n).lastV = m.mv.toNat := congrArg PchUnit.lastV (pchSample_pch m.ma m.mv)
      refine ⟨fun hst hflat hnear => ?_, fun hst hflat hdue => ?_, fun r hst hrise => ?_, fun hst => ?_, fun hst => ?_,
        fun h4 h5 => ?_, fun hst hover => ?_, fun hgate hover => ?_, fun hgate hshort hoff hover => ?_,
        fun hshort hbelow => ?_⟩
      · rw [exec_rampEnd, hrun, rampEnd_reached hst hflat (hlastV ▸ hnear)]
      · rw [exec_rampTimeout, hrun, rampTimeout_due hst hflat hdue]
      · rw [exec_gateOn, hrun, gateOn_rising hst hrise]
      · rw [exec_fastTrip, hrun, fastTrip_ramp hst]
      · rw [exec_fastTrip, hrun, fastTrip_on hst]
      · rw [exec_fastTrip, hrun, fastTrip_off h4 h5]
      · rw [exec_slowOvercurrent, hrun, slowOver_trips hst (hlastI ▸ hover)]
      · rw [exec_fetStressLimit, hrun, stressLimit_trips hgate hover]
      · rw [exec_fetShortDetect, hrun, fetShort_found hgate hshort hoff (hlastV ▸ hover), hlastV]
      · rw [exec_fetShortClear, hrun, fetShortClear_clears hshort (hlastV ▸ hbelow)]

end Sys2Proof.Machine

/-! The rows of boot, warm reset and power states. -/

namespace Sys2Proof.Machine

section
variable {s : State}

/-! ### Boot and brown-out (R503, R504) -/

theorem powerOn_cold {e : BootEnv} (h : e.cold = true) : s.powerOn e = s.boot e 0 := by
  rw [State.powerOn, if_pos (.inr h)]

theorem powerOn_warm {e : BootEnv} (h : e.cold = false) :
    s.powerOn e = s.boot e (if s.sys.fresh then 0 else if s.sys.brown then 2 else 1) := by
  simp only [State.powerOn, h, Bool.false_eq_true, or_false]

/-- A brown-out in Standby changes nothing (log entry 120). -/
theorem brownout_standby (h : s.sys.standby = true) : s.brownout = s := if_pos h

theorem brownout_running (h : s.sys.standby = false) :
    s.brownout = ((s.bump aonBase AON_BOR_CNT).set aonBase AON_RST_CAUSE_CAUSE 2).withSys fun x =>
      { x with up := false, brown := true, stby := none } :=
  if_neg (by simp [h])

/-! ### The boot script (R113, R507) -/

/-- Whether a command of the boot script is outstanding. -/
def State.scriptBusy (s : State) : Bool := s.cmd.entries.any fun e => e.key.transport == .boot

section
variable (h : s.cmd.scriptRun = false ∨ s.scriptBusy = true)
include h

theorem scriptPacket_waits : s.scriptPacket = s := by
  unfold State.scriptPacket
  split
  · rfl
  · exact if_pos (h.imp_left fun hrun => by rw [hrun]; rfl)

theorem scriptDone_waits : s.scriptDone = s := by
  refine if_neg ?_
  rintro ⟨hrun, -, hbusy⟩
  rcases h with h | h
  · rw [h] at hrun
    cases hrun
  · rw [State.scriptBusy] at h
    rw [h] at hbusy
    cases hbusy

end

theorem scriptPacket_empty (h : s.cmd.script = []) : s.scriptPacket = s := by
  simp only [State.scriptPacket, h]

theorem scriptDone_packets {p : List Byte} {rest : List (List Byte)} (h : s.cmd.script = p :: rest) : s.scriptDone = s := by
  refine if_neg ?_
  rintro ⟨-, hempty, -⟩
  rw [h] at hempty
  cases hempty

section
variable (hrun : s.cmd.scriptRun = true) (hidle : s.scriptBusy = false)
include hrun hidle

/-- The next packet is taken, or ends the script where it is cut short. -/
theorem scriptPacket_takes {p : List Byte} {rest : List (List Byte)} (h : s.cmd.script = p :: rest) {t : State}
    (ht : ({ s with cmd := { s.cmd with script := rest, scriptAt := s.cmd.scriptNext,
                                        scriptNext := s.cmd.scriptNext + (p.length + 3) / 4 * 4 } } : State) = t) :
    s.scriptPacket = if p.length < 16 + pktPlen p then t.scriptStop (pktOp p) 0x21 else t.accept .boot 0 0 p := by
  have hgo : ¬ ((!s.cmd.scriptRun) = true ∨ s.scriptBusy = true) := by simp [hrun, hidle]
  have hcut : (p.length < 16 ∨ p.length < 16 + pktPlen p) ↔ p.length < 16 + pktPlen p := by omega
  subst ht
  unfold State.scriptPacket
  rw [h]
  refine (if_neg hgo).trans ?_
  simp only [hcut]

theorem scriptDone_ends (h : s.cmd.script = []) :
    s.scriptDone
      = (({ s with cmd := { s.cmd with scriptRun := false } } : State).set 0 SYS_BOOT_STAT_SCRIPT 1).readySet :=
  if_pos ⟨hrun, by rw [h]; rfl, show (!s.scriptBusy) = true by rw [hidle]; rfl⟩

end

/-! ### Warm reset (R509, R510) -/

theorem warmReset_ignored (e : BootEnv) (h : s.sys.warm = true ∨ s.inHeld = true ∨ s.sys.standby = true) :
    s.warmReset e = s :=
  if_pos h

theorem warmReset_resets (e : BootEnv) (hwarm : s.sys.warm = false) (hheld : s.inHeld = false) (hstby : s.sys.standby = false)
    {t u v : State}
    (ht : ((((((s.warmCancel).warmParts.warmUnits).usbIslandReset true).pdIslandReset true).slotsZero).started s.warmCause) = t)
    (hu : (t.set 0 SYS_BOOT_STAT_STEP 3).selfTests e.fails warmTested = u)
    (hv : (((u.set 0 SYS_BOOT_STAT_STEP 4).calibLoad false).reclaimId.activated).policyEval = v) :
    s.warmReset e = ((v.set 0 SYS_BOOT_STAT_STEP 6).loadBundle false).stepSeven := by
  subst ht hu hv
  exact if_neg (by simp [hwarm, hheld, hstby])

/-! ### Clock gating (R511) -/

/-- Whether an island is to be gated: in Economy, its condition held for 1 ms. -/
def State.gateDue (s : State) (i : Nat) : Prop :=
  s.get 0 SYS_PWR_STATE = 1 ∧ gateIslands.contains i = true ∧ s.gateCond i = true ∧ s.sys.gated.contains i = false
    ∧ Tbl.get (fun _ => 0) s.sys.idle i ≠ 0 ∧ Tbl.get (fun _ => 0) s.sys.idle i + 1000000 ≤ s.uptime + 1

theorem islandGate_due {i : Nat} (h : s.gateDue i) :
    s.islandGate i = s.withSys fun x => { x with gated := x.gated ++ [i], idle := Tbl.put (fun _ => 0) x.idle i 0 } := by
  obtain ⟨heco, hisl, hcond, hopen, hsince, htime⟩ := h
  exact if_pos ⟨heco, hisl, hcond, by rw [hopen]; rfl, hsince, htime⟩

theorem islandGate_notDue {i : Nat} (h : ¬ s.gateDue i) : s.islandGate i = s := by
  refine if_neg ?_
  rintro ⟨heco, hisl, hcond, hopen, hsince, htime⟩
  exact h ⟨heco, hisl, hcond, (Bool.not_eq_true' _).mp hopen, hsince, htime⟩

theorem islandWake_called {i : Nat} (h : s.sys.waking.contains i = true) : s.islandWake i = s.islandAwake i := if_pos h

theorem islandWake_uncalled {i : Nat} (h : s.sys.waking.contains i = false) : s.islandWake i = s :=
  if_neg (Bool.eq_false_iff.mp h)

/-! ### Standby (R512, R513) -/

theorem standbyEntry_due {t : Nat} (h : s.sys.stby = some t) (hdue : t ≤ s.uptime) :
    s.standbyEntry = if s.standbyOk then s.standbyGo else (s.set 0 SYS_PWR_STBY_CANCELLED 1).stbyCancel := by
  simp only [State.standbyEntry, h, if_neg (Nat.not_lt.mpr hdue)]

theorem standbyEntry_early (h : ∀ t, s.sys.stby = some t → s.uptime < t) : s.standbyEntry = s := by
  unfold State.standbyEntry
  split
  · next t ht => exact if_pos (h t ht)
  · rfl

section
variable {src : Nat}

section
variable (hsrc : bitAt (s.get aonBase AON_WAKE_EN_EN) src = true)
include hsrc

theorem standbyWake_cancels (hstby : s.sys.stby.isSome = true) (hup : s.sys.up = true) :
    s.standbyWake src = (s.bump aonBase AON_WAKES).stbyCancel :=
  (if_neg (by simp [hsrc])).trans (if_pos ⟨hstby, hup⟩)

theorem standbyWake_records (hnone : s.sys.stby = none) (hstby : s.sys.standby = true) (hwoke : s.sys.wokeAt = none) :
    s.standbyWake src
      = ((s.bump aonBase AON_WAKES).set aonBase AON_WAKE_SRC_SRC (2 ^ src)).withSys fun x => { x with wokeAt := some s.uptime } :=
  (if_neg (by simp [hsrc])).trans ((if_neg (by simp [hnone])).trans (if_pos ⟨hstby, by rw [hwoke]; rfl⟩))

end

theorem standbyWake_nothing (h : bitAt (s.get aonBase AON_WAKE_EN_EN) src = false
      ∨ ((s.sys.stby = none ∨ s.sys.up = false) ∧ (s.sys.standby = false ∨ s.sys.wokeAt.isSome = true))) :
    s.standbyWake src = s := by
  unfold State.standbyWake
  split
  · rfl
  · next hsrc =>
    rcases h with h | ⟨hpend, hawake⟩
    · simp [h] at hsrc
    · have hcancel : ¬ (s.sys.stby.isSome = true ∧ s.sys.up = true) := by
        rintro ⟨hsome, hup⟩
        rcases hpend with h | h <;> simp [h] at hsome hup
      have hrecord : ¬ (s.sys.standby = true ∧ s.sys.wokeAt.isNone = true) := by
        rintro ⟨hstby, hnone⟩
        rw [Option.isNone_iff_eq_none] at hnone
        rcases hawake with h | h <;> simp_all
      rw [if_neg hcancel, if_neg hrecord]

end

theorem wakeReady_due {t : Nat} (hwoke : s.sys.wokeAt = some t) (hstby : s.sys.standby = true) (hdue : t + 1000000 ≤ s.uptime)
    (e : BootEnv) : s.wakeReady e = s.boot e 3 := by
  simp only [State.wakeReady, hwoke, if_pos (And.intro hstby hdue)]

theorem wakeReady_early (h : ∀ t, s.sys.wokeAt = some t → s.sys.standby = false ∨ s.uptime < t + 1000000) (e : BootEnv) :
    s.wakeReady e = s := by
  unfold State.wakeReady
  split
  · next t ht =>
    refine if_neg ?_
    rintro ⟨hstby, hdue⟩
    rcases h t ht with h | h
    · simp [h] at hstby
    · omega
  · rfl

/-! ### AON time, supplies and temperatures (R376, R514) -/

theorem aonTimeWrite_due (hvalid : s.timeValid = true) (hnew : s.sys.aonSec ≠ some (s.ring / nsPerSec)) :
    s.aonTimeWrite = ((s.setAon (s.ring * 32768 / nsPerSec)).set aonBase AON_STAT_TIME_VALID 1).withSys fun x =>
      { x with aonSec := some (s.ring / nsPerSec) } :=
  if_pos ⟨hvalid, hnew⟩

/-- AON time is written once in each second of valid ring time (log entry 114). -/
theorem aonTimeWrite_notDue (h : s.timeValid = false ∨ s.sys.aonSec = some (s.ring / nsPerSec)) : s.aonTimeWrite = s := by
  refine if_neg ?_
  rintro ⟨hvalid, hnew⟩
  rcases h with h | h
  · simp [h] at hvalid
  · exact hnew h

theorem temperatures_eq (t0 t1 : Word) {main : Nat} {t u : State} (hmain : bitsOf t0 0 16 = main)
    (ht : s.set 0 SYS_TEMP0_MAIN main = t)
    (hu : (if toSigned 16 (s.get 0 SYS_TEMP0_MAIN_MAX) < toSigned 16 main then t.set 0 SYS_TEMP0_MAIN_MAX main else t) = u) :
    s.temperatures t0 t1
      = (u.set 0 SYS_TEMP1_PE0 (if s.fenced (.pedie 0) ∨ s.unitPresent (.pedie 0) = false then 0x8000
          else bitsOf t1 (16 * 0) 16)).set 0 SYS_TEMP1_PE1
          (if s.fenced (.pedie 1) ∨ s.unitPresent (.pedie 1) = false then 0x8000 else bitsOf t1 (16 * 1) 16) := by
  subst hmain ht hu
  simp only [State.temperatures, Bool.not_eq_true']

end

/-! ### The rows -/

section
variable (s : State)

theorem exec_powerOn_cold {e : BootEnv} (h : e.cold = true) :
    exec (.powerOn e) s = .next (({ s with fault := {} } : State).after (s.powerOn e)) := if_pos h

theorem exec_brownout : exec .brownout s = .next (s.after s.brownout) := rfl

theorem exec_warmReset (e : BootEnv) : exec (.warmReset e) s = s.run fun s => s.warmReset e := rfl

theorem exec_bootScriptPacket : exec .bootScriptPacket s = s.runLive fun s => s.scriptPacket := rfl

theorem exec_readySet : exec .readySet s = s.runLive fun s => s.scriptDone := rfl

theorem exec_islandGate (i : Fin 23) : exec (.islandGate i) s = s.runLive fun s => s.islandGate i.val := rfl

theorem exec_islandWake (i : Fin 23) : exec (.islandWake i) s = s.runLive fun s => s.islandWake i.val := rfl

theorem exec_standbyEntry : exec .standbyEntry s = s.runLive fun s => s.standbyEntry := rfl

theorem exec_standbyWake (src : Fin 8) : exec (.standbyWake src) s = .next (s.after (s.standbyWake src.val)) := rfl

theorem exec_wakeSupplyReady (e : BootEnv) :
    exec (.wakeSupplyReady e) s = .next (s.after (s.wakeReady { e with cold := false })) := rfl

theorem exec_aonTimeWrite : exec .aonTimeWrite s = s.run fun s => s.aonTimeWrite := rfl

theorem exec_pedieSupplyRise (d : Fin 2) :
    exec (.pedieSupplyRise d) s = .next (s.after (if s.unitPresent (.pedie d.val) then s.supplyRise d.val else s)) := rfl

theorem exec_temperatureReading (t0 t1 : Word) :
    exec (.temperatureReading t0 t1) s = s.run fun s => s.temperatures t0 t1 := rfl

end

/-- Settles O50: each row runs its operation, and each clause is one case of that operation. -/
theorem powerRows : Obligations.PowerRows := by
  intro s
  refine ⟨?cold, ?warm, ?brownStandby, ?brown, ?reset, ?resetIgnored, ?scriptWaits, ?script, ?gate, ?entry, ?entryEarly, ?wakeCancels,
    ?wakeNothing, ?readyEarly, ?aonNot, ?wakeRecords, ?ready, ?aon, ?dieAbsent, ?dieRise, ?temps⟩
  case cold =>
    intro e h
    rw [exec_powerOn_cold s h, powerOn_cold h]
  case warm =>
    intro e h
    rw [exec_powerOn_warm e s h, powerOn_warm h]
  case brownStandby =>
    intro h
    rw [exec_brownout, brownout_standby h]
  case brown =>
    intro h
    rw [exec_brownout, brownout_running h]
  case reset =>
    intro e hup hwarm hheld hstby cause t t' t'' t'''
    rw [exec_warmReset, run_up _ hup, warmReset_resets e hwarm hheld hstby rfl rfl rfl]
  case resetIgnored =>
    intro e hup h
    rw [exec_warmReset, run_up _ hup, warmReset_ignored e h]
  case scriptWaits =>
    intro hl h
    rw [exec_bootScriptPacket, exec_readySet, run_live _ hl, run_live _ hl, scriptPacket_waits h, scriptDone_waits h]
    exact ⟨rfl, rfl⟩
  case script =>
    intro hl hrun hidle
    rw [exec_bootScriptPacket, exec_readySet, run_live _ hl, run_live _ hl]
    refine ⟨fun p rest h => ⟨?_, ?_⟩, fun h => ?_, fun h => ?_⟩
    · intro c
      rw [scriptPacket_takes hrun hidle h rfl]
    · rw [scriptDone_packets h]
    · rw [scriptPacket_empty h]
    · rw [scriptDone_ends hrun hidle h]
  case gate =>
    intro i hl
    rw [exec_islandGate, exec_islandWake, run_live _ hl, run_live _ hl]
    refine ⟨?_, fun h => ?_, fun h => ?_⟩
    · intro since due
      refine ⟨fun h => ?_, fun h => ?_⟩
      · rw [islandGate_due h]
      · rw [islandGate_notDue h]
    · rw [islandWake_uncalled h]
    · rw [islandWake_called h]
  case entry =>
    intro t hl h hdue
    rw [exec_standbyEntry, run_live _ hl, standbyEntry_due h hdue]
  case entryEarly =>
    intro hl h
    rw [exec_standbyEntry, run_live _ hl, standbyEntry_early h]
  case wakeCancels =>
    intro src hsrc hstby hup
    rw [exec_standbyWake, standbyWake_cancels hsrc hstby hup]
  case wakeNothing =>
    intro src h
    rw [exec_standbyWake, standbyWake_nothing h]
  case readyEarly =>
    intro e h
    rw [exec_wakeSupplyReady, wakeReady_early h]
  case aonNot =>
    intro hup h
    rw [exec_aonTimeWrite, run_up _ hup, aonTimeWrite_notDue h]
  case wakeRecords =>
    intro src hsrc hnone hstby hwoke
    rw [exec_standbyWake, standbyWake_records hsrc hnone hstby hwoke]
  case ready =>
    intro e t hwoke hstby hdue
    rw [exec_wakeSupplyReady, wakeReady_due hwoke hstby hdue]
  case aon =>
    intro hup hvalid hnew
    rw [exec_aonTimeWrite, run_up _ hup, aonTimeWrite_due hvalid hnew]
  case dieAbsent =>
    intro d h
    rw [exec_pedieSupplyRise, if_neg (by simp [h])]
  case dieRise =>
    intro d h x t t' u
    rw [exec_pedieSupplyRise, if_pos h, State.supplyRise]
    refine ⟨fun hd => ?_, fun hd => ?_⟩
    · rw [if_neg (by omega)]
    · rw [if_pos hd]
  case temps =>
    intro t0 t1 hup main t t' pe
    rw [exec_temperatureReading, run_up _ hup, temperatures_eq t0 t1 rfl rfl rfl]

end Sys2Proof.Machine

/-! The commands of groups 0x0A, 0x0B and 0x0C: power channels and feeds, USB, USB PD. -/

namespace Sys2Proof.Machine

section
variable {s : State} {k : CmdKey} {e : CmdEntry}

/-! ### Channels (R384, R399) -/

section
variable (hwait : e.arg 0 1 ≤ 1) (hz1 : e.arg 1 3 = 0)
include hwait hz1

theorem pchOn_owned (h : s.pchOwned e.idx = true) : s.Completes k e (.pchOn k) 0x0A00 4 0x60 (s.pchResult e.idx) s :=
  completes_of_done rfl rfl ((if_neg (by omega)).trans (if_pos h))

section
variable (h : s.pchOwned e.idx = false) (hstby : s.sys.stby = none)
include h hstby

theorem pchOn_latched (hst : s.pchState e.idx = 7) :
    s.Completes k e (.pchOn k) 0x0A00 4 0x0A01 (s.pchResult e.idx) s :=
  completes_of_done rfl rfl ((if_neg (by omega)).trans ((if_neg (by simp [h])).trans ((if_neg (by simp [hstby])).trans
    (if_pos hst))))

section
variable {t : State} (ht : s.writeEn e.idx true = t) (hst : s.pchState e.idx ≠ 7)
include ht hst

theorem completes_pchOn (hnow : e.arg 0 1 = 0 ∨ t.pchState e.idx = 5) :
    s.Completes k e (.pchOn k) 0x0A00 4 0 (t.pchResult e.idx) t := by
  subst ht
  exact completes_of_done rfl rfl ((if_neg (by omega)).trans ((if_neg (by simp [h])).trans ((if_neg (by simp [hstby])).trans
    ((if_neg hst).trans (if_pos hnow)))))

omit hwait in
theorem waits_pchOn (hone : e.arg 0 1 = 1) (hon : t.pchState e.idx ≠ 5) :
    s.Waits k e (.pchOn k) 0x0A00 4 (.unit e.idx 0) t := by
  subst ht
  exact waits_of_wait rfl rfl ((if_neg (by omega)).trans ((if_neg (by simp [h])).trans ((if_neg (by simp [hstby])).trans
    ((if_neg hst).trans (if_neg (by simp [hone, hon]))))))

end
end
end

theorem pchOff_owned (h : s.pchOwned e.idx = true) : s.Completes k e (.pchOff k) 0x0A01 0 0x60 (s.pchResult e.idx) s :=
  completes_of_done rfl rfl (if_pos h)

theorem completes_pchOff (h : s.pchOwned e.idx = false) :
    s.Completes k e (.pchOff k) 0x0A01 0 0 ((s.writeEn e.idx false).pchResult e.idx) (s.writeEn e.idx false) :=
  completes_of_done rfl rfl (if_neg (by simp [h]))

section
variable {fs : List (Fld × Nat × Nat × Nat)} (hfs : pchConfigFields e = fs) (hflags : e.arg 0 1 ≤ 3) (hz19 : e.arg 19 1 = 0)
  (hz34 : e.arg 34 2 = 0) (hall : ∀ f ∈ fs, f.2.2.1 ≤ f.2.1 ∧ f.2.1 ≤ f.2.2.2)
  (hlimits : pchLimitsOk (e.arg 2 2) (e.arg 4 4) (e.arg 8 4) (e.arg 12 4) = true)
include hfs hflags hz19 hz34 hall hlimits

theorem pchConfig_range :
    ¬ (3 < e.arg 0 1 ∨ e.arg 19 1 ≠ 0 ∨ e.arg 34 2 ≠ 0
      ∨ (!(pchConfigFields e).all (fun f => decide (f.2.2.1 ≤ f.2.1 ∧ f.2.1 ≤ f.2.2.2))) = true
      ∨ (!pchLimitsOk (e.arg 2 2) (e.arg 4 4) (e.arg 8 4) (e.arg 12 4)) = true) := by
  have hrange : (pchConfigFields e).all (fun f => decide (f.2.2.1 ≤ f.2.1 ∧ f.2.1 ≤ f.2.2.2)) = true := by
    rw [hfs, List.all_eq_true]
    exact fun f hf => decide_eq_true (hall f hf)
  rw [hrange, hlimits]
  simp [hflags, hz19, hz34]

theorem pchConfig_safety (h : s.pchSafety e.idx = true) : s.Completes k e (.pchConfig k) 0x0A02 36 0x60 [] s :=
  completes_of_done rfl rfl ((if_neg (pchConfig_range hfs hflags hz19 hz34 hall hlimits)).trans (if_pos h))

section
variable (h : s.pchSafety e.idx = false)
include h

theorem pchConfig_running (hst : s.pchStopped e.idx = false) : s.Completes k e (.pchConfig k) 0x0A02 36 0x24 [] s :=
  completes_of_done rfl rfl ((if_neg (pchConfig_range hfs hflags hz19 hz34 hall hlimits)).trans
    ((if_neg (by simp [h])).trans (if_pos (by simp [hst]))))

theorem completes_pchConfig (hst : s.pchStopped e.idx = true) {t : State}
    (ht : fs.foldl (fun (s : State) f => s.set (pchBase e.idx) f.1 f.2.1) s = t) :
    s.Completes k e (.pchConfig k) 0x0A02 36 0 []
      ((t.set (pchBase e.idx) PCH_CTRL_PRES_EN (e.arg 0 1 % 2)).set (pchBase e.idx) PCH_CTRL_SAFE_ON (e.arg 0 1 / 2)) := by
  have hrange := pchConfig_range hfs hflags hz19 hz34 hall hlimits
  subst hfs ht
  exact completes_of_done rfl rfl ((if_neg hrange).trans ((if_neg (by simp [h])).trans (if_neg (by simp [hst]))))

end
end

theorem completes_pchStatus {b : Nat} (hb : pchBase e.idx = b) :
    s.Completes k e (.pchStatus k) 0x0A03 0 0 (s.shown ([b + 4, b + 0x10, b + 0x14, b + 0x18] ++ wordOffs (b + 0x80) 9)) s :=
  hb ▸ completes_of_done rfl rfl rfl

theorem retryReset_hot (h : s.get (pchBase e.idx) PCH_STRESS_LIMIT_MJ * 100000000 < 4 * (s.pch e.idx).stress) :
    s.Completes k e (.pchRetryReset k) 0x0A04 0 0x0A03 [] s :=
  completes_of_done rfl rfl (if_pos h)

theorem completes_retryReset (h : 4 * (s.pch e.idx).stress ≤ s.get (pchBase e.idx) PCH_STRESS_LIMIT_MJ * 100000000) :
    s.Completes k e (.pchRetryReset k) 0x0A04 0 0 (leBytes 4 (s.get (pchBase e.idx) PCH_STAT_RETRY_CNT)) (s.retryReset e.idx) :=
  completes_of_done rfl rfl (if_neg (Nat.not_lt.mpr h))

theorem pchSet_safety (h : s.pchSafety e.idx = true) : s.Completes k e (.pchSet k) 0x8A00 44 0x60 [] s :=
  completes_of_done rfl rfl (if_pos h)

theorem completes_pchSet (h : s.pchSafety e.idx = false) {b : Nat} (hb : pchBase e.idx = b) :
    s.Completes k e (.pchSet k) 0x8A00 44 0 [] (s.regWrites 2 (e.images (b :: wordOffs (b + 0x20) 10))) :=
  hb ▸ completes_of_done rfl rfl (if_neg (by simp [h]))

/-! ### Feeds (R377, R399) -/

theorem completes_feedConfig (hok : feedConfigOk e = true) {a : Nat} (ha : feedBase e.idx = a) :
    s.Completes k e (.feedConfig k) 0x0A05 20 0 [] (s.regWrites 2
      [(a, e.arg 0 2 + 2 ^ 16 * e.arg 2 2), (a + 4, e.arg 6 2 + 2 ^ 16 * e.arg 8 2), (a + 8, e.arg 4 2), (a + 0xC, e.arg 10 1),
       (feedReg, e.arg 12 1 + 2 ^ 4 * e.arg 13 1 + 2 ^ 8 * e.arg 14 1), (feedReg + 4, e.arg 16 2)]) :=
  ha ▸ completes_of_done rfl rfl (if_neg (by simp [hok]))

theorem completes_feedStatus (h : s.fenced (.pedie 0) = false) :
    s.Completes k e (.feedStatus k) 0x0A06 0 0
      (s.shown [feedReg + 8, feedReg, feedBase 0 + 0x10, feedBase 1 + 0x10, feedBase 2 + 0x10, feedReg + 0x40, feedReg + 0x44]) s :=
  completes_of_done rfl rfl (if_neg (by simp [h]))

theorem feedStatus_fenced (h : s.fenced (.pedie 0) = true) : s.Completes k e (.feedStatus k) 0x0A06 0 0x30 [] s :=
  completes_of_done rfl rfl (if_pos h)

/-! ### USB (R411, R416, R431) -/

theorem completes_usbStatus {ports : List Nat} (hports : [1, 2, 3, 4, 5, 6, 7, 8, 9].map usbPort = ports) :
    s.Completes k e (.usbStatus k) 0x0B00 0 0
      (s.shown ([usbBase + 0x10, usbBase + 0x14] ++ ports ++ ports.map (· + 4) ++ wordOffs (usbBase + 0x40) 11)) s :=
  hports ▸ completes_of_done rfl rfl rfl

section
variable (hop : e.arg 0 1 ≤ 1) (hz1 : e.arg 1 3 = 0)
include hop hz1

theorem usbPortPower_internal (hp : e.idx = 9) : s.Completes k e (.usbPortPower k) 0x0B01 4 0x0B01 [] s :=
  completes_of_done rfl rfl ((if_neg (by omega)).trans (if_pos hp))

theorem completes_usbPortPower (hp : e.idx ≠ 9) {t : State} (ht : s.portLock e.idx (e.arg 0 1 == 1) = t) :
    s.Completes k e (.usbPortPower k) 0x0B01 4 0 (leBytes 4 (b2n (t.pbit e.idx 8))) t :=
  ht ▸ completes_of_done rfl rfl ((if_neg (by omega)).trans (if_neg hp))

end

section
variable (hmode : e.arg 0 1 ≤ 5) (hz1 : e.arg 1 3 = 0)
include hmode hz1

theorem usbTestMode_internal (hp : e.idx = 9) : s.Completes k e (.usbTestMode k) 0x0B02 4 0x0B01 [] s :=
  completes_of_done rfl rfl ((if_neg (by omega)).trans (if_pos hp))

section
variable (hp : e.idx ≠ 9)
include hp

theorem usbTestMode_configured (hup : s.upState = 3) : s.Completes k e (.usbTestMode k) 0x0B02 4 0x0B02 [] s :=
  completes_of_done rfl rfl ((if_neg (by omega)).trans ((if_neg hp).trans (if_pos hup)))

theorem completes_usbTestMode (hup : s.upState ≠ 3) (hquiet : s.portsQuiet e.idx = true) :
    s.Completes k e (.usbTestMode k) 0x0B02 4 0 []
      (if e.arg 0 1 = 0 then s.portTestEnd e.idx else s.portTest e.idx (e.arg 0 1)) :=
  completes_of_done rfl rfl ((if_neg (by omega)).trans ((if_neg hp).trans ((if_neg hup).trans (if_neg (by simp [hquiet])))))

end
end

theorem completes_usbSet :
    s.Completes k e (.usbSet k) 0x8B00 24 0 []
      (s.regWrites 2 (e.images [usbBase, usbBase + 4, usbBase + 8, usbBase + 0x14, usbBase + 0x18, usbBase + 0x1C])) :=
  completes_of_done rfl rfl rfl

/-! ### Requests and swaps (R443, R446) -/

theorem completes_pdStatus {b : Nat} {os : List Nat} (hb : pdBase e.idx = b) (hos : (s.pd_ e.idx).pdos.take 11 = os) :
    s.Completes k e (.pdStatus k) 0x0C00 0 0 (s.shown (wordOffs b 4) ++ leBytes 4 os.length
      ++ ((List.range 11).flatMap fun i => leBytes 4 (os.getD i 0)) ++ s.shown (wordOffs (b + 0x80) 11)) s := by
  subst hb hos
  exact completes_of_done rfl rfl rfl

section
variable {kind mv ma : Nat} (hkind : e.arg 0 1 = kind) (hmv : e.arg 2 2 = mv) (hma : e.arg 4 2 = ma) (hz1 : e.arg 1 1 = 0)
  (hz6 : e.arg 6 2 = 0) (hle : kind ≤ 2) (hrange : pdRangeOk kind mv ma = true)
include hkind hmv hma hz1 hz6 hle hrange

theorem pdRequest_notSink (h : s.pdSink e.idx = false) : s.Completes k e (.pdRequest k) 0x0C01 8 0x0C01 [] s := by
  subst hkind hmv hma
  exact completes_of_done rfl rfl ((if_neg (by omega)).trans ((if_neg (by simp [hle, hrange])).trans (if_pos (by simp [h]))))

theorem waits_pdRequest (h : s.pdSink e.idx = true) (hoffers : (s.pd_ e.idx).pdos ≠ [])
    (hpps : kind = 1 → s.flag (pdBase e.idx) PD_PCFG_PPS_EN = true) (hcovers : (s.covers e.idx kind mv ma).isSome = true) :
    s.Waits k e (.pdRequest k) 0x0C01 8 (.unit e.idx 0)
      ((s.setPd e.idx { s.pd_ e.idx with choice := some (kind, mv, ma) }).sendRequest e.idx kind mv ma 0) := by
  subst hkind hmv hma
  have hnone : ¬ ((e.arg 0 1 = 1 ∧ (!s.flag (pdBase e.idx) PD_PCFG_PPS_EN) = true)
      ∨ (s.covers e.idx (e.arg 0 1) (e.arg 2 2) (e.arg 4 2)).isNone = true) := by
    rintro (⟨hone, hoff⟩ | hno)
    · simp [hpps hone] at hoff
    · rw [Option.isNone_iff_eq_none] at hno
      simp [hno] at hcovers
  exact waits_of_wait rfl rfl ((if_neg (by omega)).trans ((if_neg (by simp [hle, hrange])).trans ((if_neg (by simp [h])).trans
    ((if_neg (by simp [hoffers])).trans (if_neg hnone)))))

end

section
variable {kind : Nat} (hkind : e.arg 0 1 = kind) (hz1 : e.arg 1 3 = 0) (hlo : 1 ≤ kind) (hhi : kind ≤ 3)
  (hrole : s.pdSource e.idx = true ∨ s.pdSink e.idx = true) (hcontract : s.flag (pdBase e.idx) PD_PSTAT_CONTRACT = true)
  (hdata : kind = 2 → e.idx = 0 ∧ s.flag (pdBase e.idx) PD_PSTAT_DFP = true)
  (hpower : kind = 1 → s.deadBatt e.idx = false ∧ s.polImage = true)
include hkind hz1 hlo hhi hrole hcontract hdata hpower

omit hkind hz1 in
/-- The swap's own checks pass. -/
theorem pdSwap_allowed :
    s.pdSwap e.idx kind
      = if (s.pd_ e.idx).swap.isSome then .no s 0x0C03
        else .wait (.unit e.idx 0)
          ((s.setPd e.idx { s.pd_ e.idx with swap := some ⟨kind, true, false, 0, false⟩ }).pdControl e.idx (swapMsg kind)) := by
  have hroles : ¬ ((!(s.pdSource e.idx || s.pdSink e.idx)) = true ∨ (!s.flag (pdBase e.idx) PD_PSTAT_CONTRACT) = true) := by
    rcases hrole with h | h <;> simp [h, hcontract]
  have hdfp : ¬ (kind = 2 ∧ (e.idx ≠ 0 ∨ (!s.flag (pdBase e.idx) PD_PSTAT_DFP) = true)) := by
    rintro ⟨htwo, hbad⟩
    simp [hdata htwo] at hbad
    have hzero := hdata htwo
    rw [hzero.1] at hzero
    simp [hzero.2] at hbad
  have hbarred : ¬ (kind = 1 ∧ (s.deadBatt e.idx = true ∨ (!s.polImage) = true)) := by
    rintro ⟨hone, hbad⟩
    simp [hpower hone] at hbad
  exact (if_neg (by omega)).trans ((if_neg hroles).trans ((if_neg hdfp).trans (if_neg hbarred)))

theorem pdSwap_busy (h : (s.pd_ e.idx).swap.isSome = true) : s.Completes k e (.pdSwap k) 0x0C02 4 0x0C03 [] s :=
  completes_of_done rfl rfl ((if_neg (by omega)).trans (hkind.symm ▸ (pdSwap_allowed hlo hhi hrole hcontract hdata
    hpower).trans (if_pos h)))

theorem waits_pdSwap (h : (s.pd_ e.idx).swap = none) :
    s.Waits k e (.pdSwap k) 0x0C02 4 (.unit e.idx 0)
      ((s.setPd e.idx { s.pd_ e.idx with swap := some ⟨kind, true, false, 0, false⟩ }).pdControl e.idx (swapMsg kind)) :=
  waits_of_wait rfl rfl ((if_neg (by omega)).trans (hkind.symm ▸ (pdSwap_allowed hlo hhi hrole hcontract hdata
    hpower).trans (if_neg (by simp [h]))))

end

/-! ### Policy images (R449 to R451) -/

section
variable (hz1 : e.arg 1 3 = 0)
include hz1

section
variable (hflash : e.arg 0 1 = 0)
include hflash

theorem completes_policyLoad_own (h : s.policyCause s.policyImage (s.partSize 9) = 0) {t : State}
    (ht : ({ s with pd := { s.pd with barred := false } } : State).policyEval = t) :
    s.Completes k e (.pdPolicyLoad k) 0x0C03 12 0 (leBytes 4 (leAt s.policyImage 8 4)) (t.evt pdAll PD_GEVT 1) :=
  ht ▸ completes_of_done rfl rfl ((if_neg (by omega)).trans ((if_pos hflash).trans (if_neg (by simp [h]))))

theorem policyLoad_own_bad (h : s.policyCause s.policyImage (s.partSize 9) ≠ 0) :
    s.Completes k e (.pdPolicyLoad k) 0x0C03 12 0x0C06 [] s :=
  completes_of_done rfl rfl ((if_neg (by omega)).trans ((if_pos hflash).trans (if_pos h)))

end

section
variable (hhost : e.arg 0 1 = 1)
include hhost

theorem policyLoad_outside (h : s.inHost (e.arg 4 4) (e.arg 8 4) = false) :
    s.Completes k e (.pdPolicyLoad k) 0x0C03 12 0x0306 [] s :=
  completes_of_done rfl rfl ((if_neg (by omega)).trans ((if_neg (by omega)).trans (if_pos (by simp [h]))))

/-- An image of the host partition that is whole (log entry 103) is copied to partition 9 and run. -/
theorem completes_policyLoad_host (h : s.inHost (e.arg 4 4) (e.arg 8 4) = true) {bs : List Byte}
    (hbs : s.load (e.arg 4 4) (e.arg 8 4) = bs) (hcause : s.policyCause bs (s.partSize 9) = 0)
    (hlen : leAt bs 12 4 + 96 = e.arg 8 4) {t : State} (ht : s.store (s.partBase 9) bs = t) :
    s.Completes k e (.pdPolicyLoad k) 0x0C03 12 0 (leBytes 4 (leAt bs 8 4))
      ((({ t with pd := { t.pd with barred := false } } : State).policyEval).evt pdAll PD_GEVT 1) := by
  subst hbs ht
  have hwhole : ¬ (s.policyCause (s.load (e.arg 4 4) (e.arg 8 4)) (s.partSize 9) ≠ 0
      ∨ leAt (s.load (e.arg 4 4) (e.arg 8 4)) 12 4 + 96 ≠ e.arg 8 4) := by
    simp [hcause, hlen]
  exact completes_of_done rfl rfl ((if_neg (by omega)).trans ((if_neg (by omega)).trans ((if_neg (by simp [h])).trans
    (if_neg hwhole))))

end
end

theorem completes_pdSet {b first : Nat} (hb : pdBase e.idx = b) (hfirst : e.arg 24 4 = first) (hkind : first / 2 ^ 14 % 4 = 1)
    (hmv : first / 2 ^ 16 = 5000) :
    s.Completes k e (.pdSet k) 0x8C00 68 0 []
      (s.regWrites 2 (e.images (b :: wordOffs (b + 0x18) 5 ++ wordOffs (b + 0x40) 11))) := by
  subst hb hfirst
  exact completes_of_done rfl rfl (if_neg (by simp only [hkind, hmv]; decide))

end

/-- Settles O58: each clause is one way a command of the three groups answers. -/
theorem powerCommands : Obligations.PowerCommands := by
  refine ⟨?power, ?usb⟩
  case power =>
    intro s k e c b
    refine ⟨fun h0 h1 => ⟨pchOn_owned h0 h1, fun h hstby => ⟨pchOn_latched h0 h1 h hstby,
        fun hst => completes_pchOn h0 h1 h hstby rfl hst, fun hst => waits_pchOn h1 h hstby rfl hst⟩⟩,
      pchOff_owned, completes_pchOff, ?config, completes_pchStatus rfl, retryReset_hot, completes_retryReset,
      fun hok => completes_feedConfig hok rfl, completes_feedStatus, feedStatus_fenced, pchSet_safety,
      fun h => completes_pchSet h rfl⟩
    intro fs t h0 h19 h34 hall hlimits
    exact ⟨pchConfig_safety rfl h0 h19 h34 hall hlimits, pchConfig_running rfl h0 h19 h34 hall hlimits,
      fun h hst => completes_pchConfig rfl h0 h19 h34 hall hlimits h hst rfl⟩
  case usb =>
    intro s k e p
    refine ⟨completes_usbStatus rfl, ?portPower, fun h0 h1 => ⟨usbTestMode_internal h0 h1, usbTestMode_configured h0 h1,
        completes_usbTestMode h0 h1⟩, completes_usbSet, completes_pdStatus rfl rfl, ?request, ?swap, ?own, ?host, ?set⟩
    case portPower =>
      exact fun h0 h1 => ⟨usbPortPower_internal h0 h1, fun hp => completes_usbPortPower h0 h1 hp rfl⟩
    case request =>
      exact fun h1 h6 hle hr => ⟨pdRequest_notSink rfl rfl rfl h1 h6 hle hr, waits_pdRequest rfl rfl rfl h1 h6 hle hr⟩
    case swap =>
      exact fun h1 hlo hhi hrole hc hd hp => ⟨pdSwap_busy rfl h1 hlo hhi hrole hc hd hp,
        waits_pdSwap rfl h1 hlo hhi hrole hc hd hp⟩
    case own => exact fun h0 h1 => ⟨fun h => completes_policyLoad_own h1 h0 h rfl, policyLoad_own_bad h1 h0⟩
    case host =>
      exact fun h0 h1 => ⟨policyLoad_outside h1 h0, fun h hc hlen => completes_policyLoad_host h1 h0 h rfl hc hlen rfl⟩
    case set => exact fun hk hmv => completes_pdSet rfl rfl hk hmv

end Sys2Proof.Machine

/-! The hub's ports: power, connection, over-current, reset, suspension and resume, and the requests made of the hub. -/

namespace Sys2Proof.Machine

section
variable {s : State} {p : Nat}

/-! ### Power and connection (R408 to R410) -/

theorem usbVbus_eq (up : Bool) :
    s.usbVbus up = if up then s.set usbBase USB_STAT_VBUS 1 else (s.set usbBase USB_STAT_VBUS 0).usbDetach := by
  cases up <;> simp [State.usbVbus, b2n]

theorem powerGood_off (h : s.pbit p 8 = false) : s.powerGood p = s := if_pos (.inl (by rw [h]; rfl))

theorem powerGood_due (hon : s.pbit p 8 = true) (hnew : (s.uport p).good = false)
    (hdue : (s.uport p).pwrAt + 2000000 * max 1 (s.get usbBase USB_HUBCFG_PWRGOOD_2MS) ≤ s.uptime) :
    s.powerGood p = (s.setUport p { s.uport p with good := true }).showConnect p :=
  if_neg (by simp [hon, hnew, Nat.not_lt.mpr hdue])

section
variable (hlive : s.usbLive = true)
include hlive

theorem portConnect_shows (hp : p ≠ 9) (there low : Bool) {t : State}
    (ht : s.setUport p { s.uport p with there := there, low := low } = t) :
    s.portConnect p there low = if t.pbit p 8 && (t.uport p).good then (t.showConnect p).wakeHost 0 else t := by
  subst ht
  exact if_neg (by simp [hp, hlive])

theorem overCurrent_high_set (h : s.pbit p 3 = true) :
    s.overCurrent p false = ((s.setPbit p 3 false).pchange p 3).wakeHost 0 :=
  (if_neg (by simp [hlive])).trans ((if_pos rfl).trans (if_pos h))

theorem overCurrent_high_clear (h : s.pbit p 3 = false) : s.overCurrent p false = s :=
  (if_neg (by simp [hlive])).trans ((if_pos rfl).trans (if_neg (by simp [h])))

/-- A line that stays low trips again only on a port powered again. -/
theorem overCurrent_low_again (hoff : s.pbit p 8 = false) (h : s.pbit p 3 = true) : s.overCurrent p true = s :=
  (if_neg (by simp [hlive])).trans ((if_neg (by decide)).trans (if_pos ⟨by rw [hoff]; rfl, h⟩))

section
variable (h : s.pbit p 8 = true ∨ s.pbit p 3 = false) {t : State}
  (ht : (((((s.setPbit p 3 true).setUport p { s.uport p with ocOff := true }).portOff p).pchange p 3).bump (usbPort p)
    USB_PORT_OC).evt usbBase USB_EVT 3 = t)
include h ht

theorem overCurrent_low :
    s.overCurrent p true
      = (if s.mayReport (s.uport p).ocAt then
          (t.setUport p { t.uport p with ocAt := some s.uptime }).raise .usbPortOc (srcUsb p) 0 [] else t).wakeHost 0 := by
  subst ht
  exact (if_neg (by simp [hlive])).trans ((if_neg (by decide)).trans (if_neg (by rcases h with h | h <;> simp [h])))

theorem overCurrent_low_counts (hmay : s.mayReport (s.uport p).ocAt = false) : s.overCurrent p true = t.wakeHost 0 := by
  rw [overCurrent_low hlive h ht, if_neg (by simp [hmay])]

theorem overCurrent_low_reports (hmay : s.mayReport (s.uport p).ocAt = true) :
    s.overCurrent p true
      = ((t.setUport p { t.uport p with ocAt := some s.uptime }).raise .usbPortOc (srcUsb p) 0 []).wakeHost 0 := by
  rw [overCurrent_low hlive h ht, if_pos hmay]

end
end

/-! ### Reset, suspension and resume (R405, R412, R413) -/

theorem portResetDone_due {at_ : Nat} (hs : Bool) (h : (s.uport p).resetAt = some at_) (hdue : at_ + 15000000 ≤ s.uptime) :
    s.portResetDone p hs
      = (((((s.setPbit p 4 false).setPbit p 1 true).setPbit p 9 (s.uport p).low).setPbit p 10
          (hs && s.upHs && !(s.uport p).low)).setUport p { s.uport p with resetAt := none }).pchange p 4 := by
  simp only [State.portResetDone, h, if_neg (Nat.not_lt.mpr hdue)]

theorem portResumeDone_due {at_ : Nat} {host : Bool} (h : (s.uport p).resume = some (at_, host))
    (hdue : at_ + 20000000 ≤ s.uptime) {t : State}
    (ht : (((((s.setUport p { s.uport p with resume := none }).setPbit p 2 false).setPbit p 1 true).pchange p 2).bump
      (usbPort p) USB_PORT_RESUMES) = t) :
    s.portResumeDone p = if p = 9 then t.mgmtResume else t := by
  subst ht
  simp only [State.portResumeDone, h, if_neg (Nat.not_lt.mpr hdue)]

theorem portResume_awake (h : s.pbit p 2 = false) (host : Bool) : s.portResume p host = s := if_pos (by rw [h]; rfl)

section
variable (h : s.pbit p 2 = true) {host : Bool}
include h

theorem portResume_starts (hnone : (s.uport p).resume = none) :
    s.portResume p host = s.setUport p { s.uport p with resume := some (s.uptime, host) } := by
  simp only [State.portResume, h, hnone, Bool.not_true, Bool.false_eq_true, if_false]

theorem portResume_same {a : Nat} (hsome : (s.uport p).resume = some (a, host)) : s.portResume p host = s := by
  simp only [State.portResume, h, hsome, Bool.not_true, Bool.false_eq_true, if_false, if_true]

/-- Resumes by the host and by the device merge. -/
theorem portResume_merges {a : Nat} {other : Bool} (hne : other ≠ host) (hsome : (s.uport p).resume = some (a, other)) :
    s.portResume p host
      = (s.setUport p { s.uport p with resume := some (a, true) }).bump usbBase USB_RWAKE_MERGED := by
  simp only [State.portResume, h, hsome, Bool.not_true, Bool.false_eq_true, if_false, if_neg hne]

end

section
variable (hlive : s.usbLive = true)
include hlive

theorem deviceWake_suspended (h : s.upState = 4) : s.deviceWake p = s.wakeHost p :=
  (if_neg (by simp [hlive])).trans (if_pos h)

theorem deviceWake_awake (h : s.upState ≠ 4) : s.deviceWake p = s.portResume p false :=
  (if_neg (by simp [hlive])).trans (if_neg h)

section
variable (h0 : s.upState ≠ 0) (h4 : s.upState ≠ 4) {t : State}
  (ht : (((s.withUsb fun u => { u with hubPrev := s.upState }).set usbBase USB_STAT_UP_STATE 4).bump usbBase USB_SUSPENDS).evt
    usbBase USB_EVT 1 = t)
include h0 h4 ht

theorem hubSuspend_suspends :
    s.hubSuspend = if t.mgmtState = 0 ∨ t.mgmtState = 4 then t
      else (t.withUsb fun u => { u with mgmtPrev := t.mgmtState, suspAt := t.uptime }).set usbBase USB_MGMT_STATE 4 := by
  subst ht
  exact if_neg (by simp [h0, h4, hlive])

theorem hubSuspend_alone (hm : t.mgmtState = 0 ∨ t.mgmtState = 4) : s.hubSuspend = t := by
  rw [hubSuspend_suspends hlive h0 h4 ht, if_pos hm]

theorem hubSuspend_withDevice (hm0 : t.mgmtState ≠ 0) (hm4 : t.mgmtState ≠ 4) :
    s.hubSuspend = (t.withUsb fun u => { u with mgmtPrev := t.mgmtState, suspAt := t.uptime }).set usbBase USB_MGMT_STATE 4 := by
  rw [hubSuspend_suspends hlive h0 h4 ht, if_neg (not_or.mpr ⟨hm0, hm4⟩)]

end

theorem hostResume_suspended (h : s.upState = 4) {w woke : Nat} {t u v : State} (hw : (s.usb.upK.map (·.2)).getD 0 = w)
    (hwoke : (if s.pbit w 1 ∨ s.pbit w 2 then w else 0) = woke)
    (ht : (((s.withUsb fun u => { u with upK := none }).set usbBase USB_STAT_UP_STATE s.usb.hubPrev).evt usbBase USB_EVT 2) = t)
    (hu : t.each ([1, 2, 3, 4, 5, 6, 7, 8, 9].filter fun p => p != woke && s.pbit p 1 && !s.pbit p 2) (fun s p =>
      s.bump (usbPort p) USB_PORT_RESUMES) = u)
    (hv : (if u.pbit 9 2 then u else u.mgmtResume) = v) :
    s.hostResume = if woke = 0 then v else v.setUport woke { v.uport woke with resume := some (v.uptime, true) } := by
  subst hw hwoke ht hu hv
  exact if_neg (by simp [h, hlive])

/-! ### Requests on EP0 (R404, R428) -/

section
variable (h0 : s.upState ≠ 0) (h4 : s.upState ≠ 4) (f : State → State)
include h0 h4

theorem hubRequest_configured (h3 : s.upState = 3) : s.hubRequest f = f (s.ctrlAbandon true) := by
  have hreach : ¬ ((!s.usbLive) = true ∨ s.upState = 0 ∨ s.upState = 4) := by simp [hlive, h0, h4]
  exact (if_neg hreach).trans (if_neg (not_not.mpr h3))

theorem hubRequest_stalls (h3 : s.upState ≠ 3) : s.hubRequest f = (s.ctrlAbandon true).stall := by
  have hreach : ¬ ((!s.usbLive) = true ∨ s.upState = 0 ∨ s.upState = 4) := by simp [hlive, h0, h4]
  exact (if_neg hreach).trans (if_pos h3)

end
end

theorem hubSuspend_down (h : s.upState = 0 ∨ s.upState = 4) : s.hubSuspend = s :=
  if_pos (h.imp_right .inl)

theorem hostResume_awake (h : s.upState ≠ 4) : s.hostResume = s := if_pos (.inl h)

theorem portReset_resets (hon : s.pbit p 8 = true) (hthere : s.pbit p 0 = true) {u : State}
    (hu : ((s.setPbit p 4 true).setPbit p 1 false).setPbit p 2 false = u) :
    s.portReset p = (u.setUport p { u.uport p with resetAt := some u.uptime, resume := none }).ttClear p := by
  subst hu
  exact if_neg (by simp [hon, hthere])

theorem portReset_ignored (h : s.pbit p 8 = false ∨ s.pbit p 0 = false) : s.portReset p = s :=
  if_pos (by simpa using h)

section
variable (hlo : p ≠ 0) (hhi : p ≤ 8) {mode : Nat}
include hlo hhi

omit hlo hhi in
theorem setPortTest_stalls (h : mode = 0 ∨ 5 < mode ∨ s.portsQuiet 0 = false) : s.setPortTest p mode = s.stall :=
  if_pos (.inr (.inr (by simpa using h)))

theorem setPortTest_tests (h1 : 1 ≤ mode) (h5 : mode ≤ 5) (hquiet : s.portsQuiet 0 = true) :
    s.setPortTest p mode = (s.setPbit p 11 true).setUport p { s.uport p with test := mode } := by
  refine if_neg ?_
  rw [hquiet]
  simp only [Bool.not_true, Bool.false_eq_true, or_false]
  omega

end

theorem setPower_port (hp : p ≠ 9) :
    s.setPower p = ((s.set (usbPort p) USB_PORT_CTRL_PWR_REQ 1).setUport p { s.uport p with ocOff := false }).portPower p :=
  if_neg hp

theorem clearPower_port (hp : p ≠ 9) : s.clearPower p = (s.set (usbPort p) USB_PORT_CTRL_PWR_REQ 0).portPower p := if_neg hp

section
variable (hp : p ≠ 9)
include hp

theorem portSuspend_enabled (h : s.pbit p 1 = true) : s.portSuspend p = s.setPbit p 2 true :=
  (if_neg hp).trans (if_neg (by simp [h]))

theorem portSuspend_disabled (h : s.pbit p 1 = false) : s.portSuspend p = s :=
  (if_neg hp).trans (if_pos (by simp [h]))

end

/-- Port 9 holds the management device, which suspends with it. -/
theorem portSuspend_device (h0 : s.mgmtState ≠ 0) (h4 : s.mgmtState ≠ 4) :
    s.portSuspend 9
      = ((s.setPbit 9 2 true).withUsb fun u => { u with mgmtPrev := s.mgmtState, suspAt := s.uptime }).set usbBase
          USB_MGMT_STATE 4 :=
  (if_pos rfl).trans (if_neg (not_or.mpr ⟨h0, h4⟩))

theorem portSuspend_noDevice (h : s.mgmtState = 0 ∨ s.mgmtState = 4) : s.portSuspend 9 = s :=
  (if_pos rfl).trans (if_pos h)

theorem setTest_stalls {mode : Nat} (h : mode = 0 ∨ 5 < mode) : s.setTest mode = s.stall := if_pos h

theorem setTest_tests {mode : Nat} (h1 : 1 ≤ mode) (h5 : mode ≤ 5) : s.setTest mode = s.set usbBase USB_STAT_TEST mode :=
  if_neg (by omega)

end

/-! ### The rows -/

section
variable (s : State) (p : Fin 8) (q : Fin 9)

theorem exec_usbVbusChange (up : Bool) : exec (.usbVbusChange up) s = s.run fun s => s.usbVbus up := rfl

theorem exec_portPowerGood : exec (.portPowerGood p) s = s.runLive fun s => s.powerGood (p.val + 1) := rfl

theorem exec_portOcFilterExpire (low : Bool) :
    exec (.portOcFilterExpire p low) s = s.runLive fun s => s.overCurrent (p.val + 1) low := rfl

theorem exec_portResetDone (hs : Bool) :
    exec (.portResetDone p hs) s = s.runLive fun s => s.portResetDone (p.val + 1) hs := rfl

theorem exec_portConnectChange (there low : Bool) :
    exec (.portConnectChange q there low) s = s.runLive fun s => s.portConnect (q.val + 1) there low := rfl

theorem exec_portResumeDone : exec (.portResumeDone q) s = s.runLive fun s => s.portResumeDone (q.val + 1) := rfl

theorem exec_deviceWake : exec (.deviceWake q) s = s.runLive fun s => s.deviceWake (q.val + 1) := rfl

theorem exec_hubSuspend : exec .hubSuspend s = s.runLive fun s => s.hubSuspend := rfl

theorem exec_hostResume : exec .hostResume s = s.runLive fun s => s.hostResume := rfl

theorem exec_setPortReset :
    exec (.setPortReset p) s = s.runLive fun s => s.hubRequest fun s => s.portReset (p.val + 1) := rfl

theorem exec_setPortTest (m : BitVec 8) :
    exec (.setPortTest p m) s = s.runLive fun s => s.hubRequest fun s => s.setPortTest (p.val + 1) m.toNat := rfl

theorem exec_clearTtBuffer (x : SplitTx) :
    exec (.clearTtBuffer p x) s = s.runLive fun s => s.hubRequest fun s => s.ttClearBuffer (p.val + 1) x.ep.toNat := rfl

theorem exec_resetTt : exec (.resetTt p) s = s.runLive fun s => s.hubRequest fun s => s.ttReset (p.val + 1) := rfl

theorem exec_getTtState : exec (.getTtState p) s = s.runLive fun s => s.hubRequest fun s => s.stall := rfl

theorem exec_setTestMode (m : BitVec 8) :
    exec (.setTestMode m) s = s.runLive fun s => s.hubRequest fun s => s.setTest m.toNat := rfl

theorem exec_setPortPower :
    exec (.setPortPower q) s = s.runLive fun s => s.hubRequest fun s => s.setPower (q.val + 1) := rfl

theorem exec_clearPortPower :
    exec (.clearPortPower q) s = s.runLive fun s => s.hubRequest fun s => s.clearPower (q.val + 1) := rfl

theorem exec_setPortSuspend :
    exec (.setPortSuspend q) s = s.runLive fun s => s.hubRequest fun s => s.portSuspend (q.val + 1) := rfl

theorem exec_clearPortSuspend :
    exec (.clearPortSuspend q) s = s.runLive fun s => s.hubRequest fun s => s.portResume (q.val + 1) true := rfl

/-- Every request row of ports 1 to 8, and that of the hub's own test mode, is a request of the hub. -/
theorem exec_hubRequest_port (x : SplitTx) (m : BitVec 8) {i : Instr}
    (hi : i ∈ [.setPortReset p, .setPortTest p m, .clearTtBuffer p x, .resetTt p, .getTtState p, .setTestMode m]) :
    ∃ f, exec i s = s.runLive fun s => s.hubRequest f := by
  simp only [List.mem_cons, List.not_mem_nil, or_false] at hi
  rcases hi with rfl | rfl | rfl | rfl | rfl | rfl
  · exact ⟨_, exec_setPortReset s p⟩
  · exact ⟨_, exec_setPortTest s p m⟩
  · exact ⟨_, exec_clearTtBuffer s p x⟩
  · exact ⟨_, exec_resetTt s p⟩
  · exact ⟨_, exec_getTtState s p⟩
  · exact ⟨_, exec_setTestMode s m⟩

theorem exec_hubRequest_power {i : Instr}
    (hi : i ∈ [.setPortPower q, .clearPortPower q, .setPortSuspend q, .clearPortSuspend q]) :
    ∃ f, exec i s = s.runLive fun s => s.hubRequest f := by
  simp only [List.mem_cons, List.not_mem_nil, or_false] at hi
  rcases hi with rfl | rfl | rfl | rfl
  · exact ⟨_, exec_setPortPower s q⟩
  · exact ⟨_, exec_clearPortPower s q⟩
  · exact ⟨_, exec_setPortSuspend s q⟩
  · exact ⟨_, exec_clearPortSuspend s q⟩

end

/-- The part of O42 that the ports' own rows make. -/
theorem usbPort_ownRows {s : State} (hl : s.Live) (hlive : s.usbLive = true) (p : Fin 8) {n : Nat} (hn : p.val + 1 = n) :
    (s.pbit n 8 = true → (s.uport n).good = false →
      (s.uport n).pwrAt + 2000000 * max 1 (s.get usbBase USB_HUBCFG_PWRGOOD_2MS) ≤ s.uptime →
      exec (.portPowerGood p) s = .next (s.after ((s.setUport n { s.uport n with good := true }).showConnect n)))
    ∧ (s.pbit n 3 = true →
      exec (.portOcFilterExpire p false) s = .next (s.after (((s.setPbit n 3 false).pchange n 3).wakeHost 0)))
    ∧ (s.pbit n 3 = false → exec (.portOcFilterExpire p false) s = .next (s.after s))
    ∧ (s.pbit n 8 = false → s.pbit n 3 = true → exec (.portOcFilterExpire p true) s = .next (s.after s))
    ∧ (s.pbit n 8 = false → exec (.portPowerGood p) s = .next (s.after s)) := by
  subst hn
  rw [exec_portPowerGood, exec_portOcFilterExpire, exec_portOcFilterExpire, run_live _ hl, run_live _ hl, run_live _ hl]
  refine ⟨fun hon hnew hdue => ?_, fun h => ?_, fun h => ?_, fun hoff h => ?_, fun h => ?_⟩
  · rw [powerGood_due hon hnew hdue]
  · rw [overCurrent_high_set hlive h]
  · rw [overCurrent_high_clear hlive h]
  · rw [overCurrent_low_again hlive hoff h]
  · rw [powerGood_off h]

/-- Settles O42: each row runs one operation of the hub, a request's after the transfer in progress is abandoned; each clause
is one case of it. -/
theorem usbPortRows : Obligations.UsbPortRows := by
  refine ⟨fun s hl hlive => ?rows, fun s hl hlive h0 h4 => ?requests⟩
  case rows =>
    have hrun (g : State → State) : s.runLive g = .next (s.after (g s)) := run_live g hl
    refine ⟨?vbus, fun p => ?port, ?connect, ?connect9, fun p => ?resume, ?suspend, ?suspended, ?awake, ?host⟩
    case vbus =>
      intro up
      rw [exec_usbVbusChange, run_up _ hl.1, usbVbus_eq]
    case port =>
      intro n
      obtain ⟨hgood, hset, hclear, hagain, hoff⟩ := usbPort_ownRows hl hlive p (n := n) rfl
      refine ⟨hgood, hset, ?_, hclear, hagain, hoff, fun t hs h hdue => ?_⟩
      · intro h t
        rw [exec_portOcFilterExpire, hrun]
        refine ⟨fun hmay => ?_, fun hmay => ?_⟩
        · rw [overCurrent_low_counts hlive h rfl hmay]
        · rw [overCurrent_low_reports hlive h rfl hmay]
      · rw [exec_portResetDone, hrun, portResetDone_due hs h hdue]
    case connect =>
      intro p there low hp t
      rw [exec_portConnectChange, hrun, portConnect_shows hlive (by omega) there low rfl]
    case connect9 =>
      intro there low
      exact (exec_portConnectChange s 8 there low).trans ((hrun _).trans (next_after s (if_pos (.inl rfl))))
    case resume =>
      intro n
      rw [exec_portResumeDone, exec_deviceWake, hrun, hrun]
      refine ⟨?_, fun h => ?_, fun h hs hnone => ?_, fun t h hs hsome => ?_, fun h hor => ?_⟩
      · intro t host h hdue u v
        rw [portResumeDone_due h hdue rfl]
      · rw [deviceWake_suspended hlive h]
      · rw [deviceWake_awake hlive h, portResume_starts hs hnone]
      · rw [deviceWake_awake hlive h, portResume_merges hs (by decide) hsome]
      · rw [deviceWake_awake hlive h]
        rcases hor with hs | ⟨⟨t, hsome⟩, hs⟩
        · rw [portResume_awake hs]
        · rw [portResume_same hs hsome]
    case suspend =>
      intro h0 h4 t t'
      rw [exec_hubSuspend, hrun]
      refine ⟨fun hm => ?_, fun hm0 hm4 => ?_⟩
      · rw [hubSuspend_alone hlive h0 h4 rfl hm]
      · rw [hubSuspend_withDevice hlive h0 h4 rfl hm0 hm4]
    case suspended =>
      intro h
      rw [exec_hubSuspend, hrun, hubSuspend_down h]
    case awake =>
      intro h
      rw [exec_hostResume, hrun, hostResume_awake h]
    case host =>
      intro h w woke t t' t'' t'''
      rw [exec_hostResume, hrun, hostResume_suspended hlive h rfl rfl rfl rfl rfl]
  case requests =>
    intro t
    have hrun (g : State → State) : s.runLive g = .next (s.after (g s)) := run_live g hl
    refine ⟨fun h3 => ?configured, fun h3 => ⟨fun p x m i hi => ?portStalls, fun p i hi => ?powerStalls⟩⟩
    case portStalls =>
      obtain ⟨f, hf⟩ := exec_hubRequest_port s p x m hi
      rw [hf, hrun, hubRequest_stalls hlive h0 h4 f h3]
    case powerStalls =>
      obtain ⟨f, hf⟩ := exec_hubRequest_power s p hi
      rw [hf, hrun, hubRequest_stalls hlive h0 h4 f h3]
    case configured =>
      have hreq (f : State → State) : s.hubRequest f = f t := hubRequest_configured hlive h0 h4 f h3
      refine ⟨fun p => ?ports, fun p hp => ?power, ⟨?set9, ?clear9, ?suspend9, ?noDevice⟩, fun p => ?resume, fun m h => ?_,
        fun m h1 h5 => ?_⟩
      case ports =>
        intro n
        have hn0 : n ≠ 0 := by omega
        have hn8 : n ≤ 8 := by omega
        refine ⟨?_, fun h => ?_, fun m h => ?_, fun m h1 h5 hq => ?_, fun x => ?_, ?_, ?_⟩
        · intro hon hthere u
          rw [exec_setPortReset, hrun, hreq, portReset_resets hon hthere rfl]
        · rw [exec_setPortReset, hrun, hreq, portReset_ignored h]
        · rw [exec_setPortTest, hrun, hreq, setPortTest_stalls h]
        · rw [exec_setPortTest, hrun, hreq, setPortTest_tests hn0 hn8 h1 h5 hq]
        · rw [exec_clearTtBuffer, hrun, hreq]
          rfl
        · rw [exec_resetTt, hrun, hreq]
          rfl
        · rw [exec_getTtState, hrun, hreq]
      case power =>
        intro n
        have hn : n ≠ 9 := by omega
        refine ⟨?_, ?_, fun h => ?_, fun h => ?_⟩
        · rw [exec_setPortPower, hrun, hreq, setPower_port hn]
        · rw [exec_clearPortPower, hrun, hreq, clearPower_port hn]
        · rw [exec_setPortSuspend, hrun, hreq, portSuspend_enabled hn h]
        · rw [exec_setPortSuspend, hrun, hreq, portSuspend_disabled hn h]
      case set9 =>
        rw [exec_setPortPower, hrun, hreq]
        rfl
      case clear9 =>
        rw [exec_clearPortPower, hrun, hreq]
        rfl
      case suspend9 =>
        intro hm0 hm4
        rw [exec_setPortSuspend, hrun, hreq]
        exact next_after s (portSuspend_device hm0 hm4)
      case noDevice =>
        intro h
        rw [exec_setPortSuspend, hrun, hreq]
        exact next_after s (portSuspend_noDevice h)
      case resume =>
        intro n
        rw [exec_clearPortSuspend, hrun, hreq]
        refine ⟨fun hs hnone => ?_, fun a hs hsome => ?_, fun hs => ?_⟩
        · rw [portResume_starts hs hnone]
        · rw [portResume_merges hs (by decide) hsome]
        · rw [portResume_awake hs]
      · rw [exec_setTestMode, hrun, hreq, setTest_stalls h]
      · rw [exec_setTestMode, hrun, hreq, setTest_tests h1 h5]

end Sys2Proof.Machine

/-! Split transactions of the Transaction Translators, control transfers and bus resets. -/

namespace Sys2Proof.Machine

/-- What a complete-split gives: the transaction's result, or NYET while it runs. -/
def State.splitGives (s gone : State) (ep : Nat) (result : Option (List Byte)) : State :=
  match result with
  | none => s.emit (.usbShake ep 3)
  | some bs => gone.splitAnswer ep bs

section
variable {s : State} {p : Nat} {x : SplitTx}

/-! ### Split transactions (R407) -/

section
variable {tt : UsbTt} (hs : s.upHs = true) (hup : s.upState = 3) (htt : s.tt (s.ttOf p) = tt)
include hs hup htt

section
variable (hen : s.pbit p 1 = true)
include hen

theorem splitStart_enabled :
    s.splitStart p x
      = if x.periodic then
          (if 16 ≤ (tt.per.filter fun e => !e.aged).length
              ∨ 1880 < ((tt.per.filter fun e => !e.aged).map (·.len)).sum + x.len.toNat then s.bump (usbPort p) USB_TT_PER_OVF
          else s.setTt (s.ttOf p) { tt with per := tt.per ++ [⟨p, x.ep.toNat, x.len.toNat, s.usbFrame, false⟩] })
        else if 2 ≤ tt.non.length then s.emit (.usbShake x.ep.toNat 1)
        else (s.setTt (s.ttOf p) { tt with non := tt.non ++ [(p, x.ep.toNat)] }).emit (.usbShake x.ep.toNat 0) := by
  subst htt
  exact if_neg (by simp [hs, hup, hen])

section
variable (hper : x.periodic = true)
include hper

theorem splitStart_periodic_kept (hroom : (tt.per.filter fun e => !e.aged).length < 16)
    (hbytes : ((tt.per.filter fun e => !e.aged).map (·.len)).sum + x.len.toNat ≤ 1880) :
    s.splitStart p x
      = s.setTt (s.ttOf p) { tt with per := tt.per ++ [⟨p, x.ep.toNat, x.len.toNat, s.usbFrame, false⟩] } := by
  rw [splitStart_enabled hs hup htt hen, if_pos hper, if_neg (by omega)]

theorem splitStart_periodic_full (h : 16 ≤ (tt.per.filter fun e => !e.aged).length
      ∨ 1880 < ((tt.per.filter fun e => !e.aged).map (·.len)).sum + x.len.toNat) :
    s.splitStart p x = s.bump (usbPort p) USB_TT_PER_OVF := by
  rw [splitStart_enabled hs hup htt hen, if_pos hper, if_pos h]

end

section
variable (hper : x.periodic = false)
include hper

theorem splitStart_buffered (hroom : tt.non.length < 2) :
    s.splitStart p x
      = (s.setTt (s.ttOf p) { tt with non := tt.non ++ [(p, x.ep.toNat)] }).emit (.usbShake x.ep.toNat 0) := by
  rw [splitStart_enabled hs hup htt hen, if_neg (by simp [hper]), if_neg (Nat.not_le.mpr hroom)]

theorem splitStart_full (hfull : 2 ≤ tt.non.length) : s.splitStart p x = s.emit (.usbShake x.ep.toNat 1) := by
  rw [splitStart_enabled hs hup htt hen, if_neg (by simp [hper]), if_pos hfull]

end
end

omit htt in
theorem splitComplete_runs : ¬ ((!s.upHs) = true ∨ s.upState ≠ 3) := by simp [hs, hup]

theorem splitComplete_buffered (hper : x.periodic = false) (hmem : tt.non.contains (p, x.ep.toNat) = true) :
    s.splitComplete p x
      = s.splitGives (s.setTt (s.ttOf p) { tt with non := tt.non.erase (p, x.ep.toNat) }) x.ep.toNat x.result := by
  have hruns := splitComplete_runs hs hup
  subst htt
  refine (if_neg hruns).trans ((if_neg (by simp [hper])).trans ((if_neg (by rw [hmem]; decide)).trans ?_))
  cases x.result <;> rfl

section
variable {e : TtEntry} (hper : x.periodic = true)
  (hfind : (tt.per.find? fun e => e.port == p && e.ep == x.ep.toNat) = some e)
include hper hfind

theorem splitComplete_found :
    s.splitComplete p x
      = if e.aged then (s.setTt (s.ttOf p) { tt with per := tt.per.erase e }).emit (.usbShake x.ep.toNat 4)
        else s.splitGives (s.setTt (s.ttOf p) { tt with per := tt.per.erase e }) x.ep.toNat x.result := by
  have hruns := splitComplete_runs hs hup
  subst htt
  refine (if_neg hruns).trans ((if_pos hper).trans ?_)
  rw [hfind]
  cases x.result <;> rfl

theorem splitComplete_aged (haged : e.aged = true) :
    s.splitComplete p x = (s.setTt (s.ttOf p) { tt with per := tt.per.erase e }).emit (.usbShake x.ep.toNat 4) := by
  rw [splitComplete_found hs hup htt hper hfind, if_pos haged]

theorem splitComplete_live (haged : e.aged = false) :
    s.splitComplete p x = s.splitGives (s.setTt (s.ttOf p) { tt with per := tt.per.erase e }) x.ep.toNat x.result := by
  rw [splitComplete_found hs hup htt hper hfind, if_neg (by simp [haged])]

end

/-- A complete-split without a transaction gets no answer (log entry 100). -/
theorem splitComplete_unknown (h : (x.periodic = false ∧ tt.non.contains (p, x.ep.toNat) = false)
      ∨ (x.periodic = true ∧ (tt.per.find? fun e => e.port == p && e.ep == x.ep.toNat) = none)) :
    s.splitComplete p x = s := by
  have hruns := splitComplete_runs hs hup
  subst htt
  refine (if_neg hruns).trans ?_
  rcases h with ⟨hper, hmem⟩ | ⟨hper, hfind⟩
  · exact (if_neg (by simp [hper])).trans (if_pos (by rw [hmem]; rfl))
  · refine (if_pos hper).trans ?_
    rw [hfind]

end

theorem splitStart_disabled (h : s.pbit p 1 = false) : s.splitStart p x = s := if_pos (.inr (.inl (by rw [h]; rfl)))

section
variable {tt : UsbTt} {ep : Nat} (htt : s.tt (s.ttOf p) = tt)
include htt

theorem ttAge_none
    (h : (tt.per.find? fun e => e.port == p && e.ep == ep && !e.aged && decide (e.frame < s.usbFrame)) = none) :
    s.ttAge p ep = s := by
  subst htt
  simp only [State.ttAge, h]

theorem ttAge_ages {e : TtEntry}
    (h : (tt.per.find? fun e => e.port == p && e.ep == ep && !e.aged && decide (e.frame < s.usbFrame)) = some e) :
    s.ttAge p ep
      = (s.setTt (s.ttOf p) { tt with per := tt.per.map fun y => if y = e then { y with aged := true } else y }).bump
          (usbPort p) USB_TT_AGED := by
  subst htt
  simp only [State.ttAge, h]

end

/-! ### Control transfers (R417, R428) -/

section
variable {u : UsbSetup} (hreach : s.setupReaches u.hub = true) (f : State → State)
include hreach

theorem setup_whole (hw : u.whole = true) : s.setup u f = f (s.ctrlAbandon u.hub) :=
  (if_neg (by simp [hreach])).trans (if_pos hw)

/-- A transfer that does not run to its end stays in progress. -/
theorem setup_partial (hw : u.whole = false) :
    s.setup u f = (s.ctrlAbandon u.hub).withUsb fun x =>
      if u.hub then { x with hubCtrl := true } else { x with mgmtCtrl := true } :=
  (if_neg (by simp [hreach])).trans (if_neg (by simp [hw]))

end

/-! ### Configurations, interfaces and halts (R426, R427) -/

section
variable {v : Nat}

theorem setConfig_stalls {hub : Bool} (h : 1 < v ∨ s.devState hub < 2) : s.setConfig hub v = s.stall := if_pos h

theorem setConfig_device (hv : v ≤ 1) (hst : 2 ≤ s.mgmtState) {t : State}
    (ht : (((s.epsFresh [0x01, 0x81, 0x02, 0x82, 0x83, 0x84]).set usbBase USB_MGMT_STATE (2 + v)).set usbBase
      USB_MGMT_ISO_ALT 0).withUsb (fun x => { x with due := [] }) = t) :
    s.setConfig false v = if s.mgmtState = 2 then t.dropReports else t := by
  subst ht
  exact if_neg (show ¬ (1 < v ∨ s.mgmtState < 2) by omega)

theorem setConfig_hub (hv : v ≤ 1) (hst : 2 ≤ s.upState) :
    s.setConfig true v
      = ((s.epsFresh [0x181]).set usbBase USB_STAT_UP_STATE (2 + v)).set usbBase USB_STAT_MULTI_TT 0 :=
  if_neg (show ¬ (1 < v ∨ s.upState < 2) by omega)

end

section
variable {i alt : Nat}

/-- Whether SET_INTERFACE names an interface and an alternate that the configured device has (Tables 15.1, 15.3). -/
def State.ifaceOk (s : State) (hub : Bool) (i alt : Nat) : Prop :=
  s.devState hub = 3 ∧ (if hub then i = 0 ∧ alt ≤ b2n s.upHs else (i = 0 ∧ alt = 0) ∨ (i = 1 ∧ alt ≤ 1))

theorem setIface_ok {hub : Bool} (h : s.ifaceOk hub i alt) :
    s.setIface hub i alt
      = if hub then (s.epsFresh (ifaceEps hub i)).set usbBase USB_STAT_MULTI_TT alt
        else if i = 1 then ((s.epsFresh (ifaceEps hub i)).set usbBase USB_MGMT_ISO_ALT alt).withUsb fun u => { u with due := [] }
        else s.epsFresh (ifaceEps hub i) := by
  unfold State.ifaceOk at h
  exact if_neg (by simp only [h]; decide)

theorem setIface_stalls {hub : Bool} (h : ¬ s.ifaceOk hub i alt) : s.setIface hub i alt = s.stall := by
  unfold State.ifaceOk at h
  exact if_pos (by simp only [h, decide_false, Bool.not_false])

theorem setIface_stream (hst : s.mgmtState = 3) (hi : i = 1) (halt : alt ≤ 1) :
    s.setIface false i alt
      = ((s.epsFresh [0x84]).set usbBase USB_MGMT_ISO_ALT alt).withUsb fun u => { u with due := [] } := by
  subst hi
  exact setIface_ok (hub := false) ⟨hst, .inr ⟨rfl, halt⟩⟩

theorem setIface_main (hst : s.mgmtState = 3) (hi : i = 0) (halt : alt = 0) :
    s.setIface false i alt = s.epsFresh [0x01, 0x81, 0x02, 0x82, 0x83] := by
  subst hi
  exact setIface_ok (hub := false) ⟨hst, .inl ⟨rfl, halt⟩⟩

theorem setIface_hub (hst : s.upState = 3) (hi : i = 0) (halt : alt ≤ b2n s.upHs) :
    s.setIface true i alt = (s.epsFresh [0x181]).set usbBase USB_STAT_MULTI_TT alt := by
  subst hi
  exact setIface_ok (hub := true) ⟨hst, rfl, halt⟩

theorem ifaceOk_bounds {hub : Bool} (h : s.ifaceOk hub i alt) :
    s.devState hub = 3 ∧ i ≤ 1 ∧ alt ≤ 1 ∧ ¬ (hub = true ∧ i = 1) := by
  have hbit : b2n s.upHs ≤ 1 := by cases s.upHs <;> decide
  obtain ⟨hst, hwhich⟩ := h
  cases hub with
  | true =>
    obtain ⟨hi, halt⟩ : i = 0 ∧ alt ≤ b2n s.upHs := hwhich
    exact ⟨hst, by omega, by omega, by omega⟩
  | false =>
    have hwhich : (i = 0 ∧ alt = 0) ∨ (i = 1 ∧ alt ≤ 1) := hwhich
    exact ⟨hst, by omega, by omega, by simp⟩

theorem setIface_refused {hub : Bool} (h : s.devState hub ≠ 3 ∨ 1 < i ∨ 1 < alt ∨ (hub = true ∧ i = 1)) :
    s.setIface hub i alt = s.stall := by
  refine setIface_stalls fun hok => ?_
  obtain ⟨hst, hi, halt, hhub⟩ := ifaceOk_bounds hok
  rcases h with h | h | h | h
  · exact h hst
  · omega
  · omega
  · exact hhub h

end

section
variable {hub : Bool} {idx ep : Nat} (hep : epCode hub idx = ep) (hst : s.devState hub = 3)
include hep hst

section
variable (hthere : epThere hub ep = true)
include hthere

theorem setHalt_halts :
    s.setHalt hub idx = s.withUsb fun x => { x with halted := if x.halted.contains ep then x.halted else x.halted ++ [ep] } := by
  subst hep
  exact if_neg (by simp [hst, hthere])

theorem clearHalt_clears : s.clearHalt hub idx = s.epsFresh [ep] := by
  subst hep
  exact if_neg (by simp [hst, hthere])

end

section
variable (hthere : epThere hub ep = false)
include hthere
omit hst

theorem setHalt_stalls : s.setHalt hub idx = s.stall := by
  subst hep
  exact if_pos (by simp [hthere])

theorem clearHalt_stalls : s.clearHalt hub idx = s.stall := by
  subst hep
  exact if_pos (by simp [hthere])

end
end

/-! ### Bus resets (R429) -/

theorem upReset_resets (hs : Bool) (h : s.usbPull = true) {on : Bool} {t u v : State}
    (hon : s.flag usbBase USB_MGMT_CONNECT = on)
    (ht : ((s.hubReset).mgmtReset.set usbBase USB_STAT_UP_STATE 1).set usbBase USB_STAT_UP_HS (b2n hs) = t)
    (hu : (t.set (usbPort 9) USB_PORT_STAT_CHANGE 0).set usbBase USB_MGMT_STATE (b2n on) = u)
    (hv : (if on then u.mgmtShow true else u.set (usbPort 9) USB_PORT_STAT_STATUS 256) = v) :
    s.upReset hs = ((v.bump usbBase USB_UP_RESETS).evt usbBase USB_EVT 0).evt usbBase USB_EVT 5 := by
  subst hon ht hu hv
  exact if_neg (by simp [h])

theorem port9Reset_resets (hup : s.upState = 3) (hlive : s.usbLive = true) (hon : s.flag usbBase USB_MGMT_CONNECT = true)
    {t : State} (ht : s.set (usbPort 9) USB_PORT_STAT_STATUS (256 + 3 + 1024 * b2n s.upHs) = t) :
    s.port9Reset
      = ((((t.setUport 9 {}).pchange 9 4).mgmtReset).set usbBase USB_MGMT_STATE 1).evt usbBase USB_EVT 5 := by
  subst ht
  exact if_neg (by simp [hup, hlive, hon])

end

/-! ### The rows -/

section
variable (s : State) (p : Fin 8) (x : SplitTx) (u : UsbSetup)

theorem exec_splitStart : exec (.splitStart p x) s = s.runLive fun s => s.splitStart (p.val + 1) x := rfl

theorem exec_completeSplit : exec (.completeSplit p x) s = s.runLive fun s => s.splitComplete (p.val + 1) x := rfl

theorem exec_ttAgeOut (ep : BitVec 12) : exec (.ttAgeOut p ep) s = s.runLive fun s => s.ttAge (p.val + 1) ep.toNat := rfl

theorem exec_setupPacket : exec (.setupPacket u) s = s.runLive fun s => s.setup u fun s => s.anyRequest u := rfl

theorem exec_setConfiguration :
    exec (.setConfiguration u) s = s.runLive fun s => s.setup u fun s => s.setConfig u.hub u.val.toNat := rfl

theorem exec_setInterface :
    exec (.setInterface u) s = s.runLive fun s => s.setup u fun s => s.setIface u.hub u.idx.toNat u.val.toNat := rfl

theorem exec_setEndpointHalt :
    exec (.setEndpointHalt u) s = s.runLive fun s => s.setup u fun s => s.setHalt u.hub u.idx.toNat := rfl

theorem exec_clearEndpointHalt :
    exec (.clearEndpointHalt u) s = s.runLive fun s => s.setup u fun s => s.clearHalt u.hub u.idx.toNat := rfl

theorem exec_busReset (up hs : Bool) :
    exec (.busReset up hs) s = s.runLive fun s => if up then s.upReset hs else s.port9Reset := rfl

/-- Every SETUP row runs its request under R428. -/
theorem exec_setupRow {i : Instr}
    (hi : i ∈ [Instr.setupPacket u, .setConfiguration u, .setInterface u, .setEndpointHalt u, .clearEndpointHalt u]) :
    ∃ f, exec i s = s.runLive fun s => s.setup u f := by
  simp only [List.mem_cons, List.not_mem_nil, or_false] at hi
  rcases hi with rfl | rfl | rfl | rfl | rfl
  · exact ⟨_, exec_setupPacket s u⟩
  · exact ⟨_, exec_setConfiguration s u⟩
  · exact ⟨_, exec_setInterface s u⟩
  · exact ⟨_, exec_setEndpointHalt s u⟩
  · exact ⟨_, exec_clearEndpointHalt s u⟩

end

/-- The part of O43 about Transaction Translators: each clause is one case of a split transaction. -/
theorem usbTransferRows_split (s : State) (p : Fin 8) (x : SplitTx) (hl : s.Live) (hs : s.upHs = true) (hup : s.upState = 3)
    {n ep : Nat} {tt : UsbTt} (hn : p.val + 1 = n) (hep : x.ep.toNat = ep) (htt : s.tt (s.ttOf n) = tt) :
    (x.periodic = false → tt.non.contains (n, ep) = true →
      exec (.completeSplit p x) s = .next (s.after
        (s.splitGives (s.setTt (s.ttOf n) { tt with non := tt.non.erase (n, ep) }) ep x.result)))
    ∧ (∀ (e : TtEntry), x.periodic = true → (tt.per.find? fun e => e.port == n && e.ep == ep) = some e →
      (e.aged = true →
        exec (.completeSplit p x) s
          = .next (s.after ((s.setTt (s.ttOf n) { tt with per := tt.per.erase e }).emit (.usbShake ep 4))))
      ∧ (e.aged = false →
        exec (.completeSplit p x) s
          = .next (s.after (s.splitGives (s.setTt (s.ttOf n) { tt with per := tt.per.erase e }) ep x.result))))
    ∧ ((x.periodic = false ∧ tt.non.contains (n, ep) = false)
        ∨ (x.periodic = true ∧ (tt.per.find? fun e => e.port == n && e.ep == ep) = none) →
      exec (.completeSplit p x) s = .next (s.after s)) := by
  subst hn hep
  rw [exec_completeSplit, run_live _ hl]
  refine ⟨fun hper hmem => ?_, fun e hper hfind => ⟨fun haged => ?_, fun haged => ?_⟩, fun h => ?_⟩
  · rw [splitComplete_buffered hs hup htt hper hmem]
  · rw [splitComplete_aged hs hup htt hper hfind haged]
  · rw [splitComplete_live hs hup htt hper hfind haged]
  · rw [splitComplete_unknown hs hup htt h]

/-- Settles O43: each row is a case of a split transaction, of a request that its SETUP lets take effect, or of a bus reset. -/
theorem usbTransferRows : Obligations.UsbTransferRows := by
  refine ⟨fun s p x hl hs hup => ?split, fun s u hl => ?setup⟩
  case split =>
    intro n tt ep live
    have hrun (g : State → State) : s.runLive g = .next (s.after (g s)) := run_live g hl
    have htt : s.tt (s.ttOf n) = tt := rfl
    obtain ⟨hbuffered, hfound, hunknown⟩ := usbTransferRows_split s p x hl hs hup (n := n) rfl rfl htt
    refine ⟨fun hen hper hroom hbytes => ?_, fun hen hper h => ?_, fun hen hper hroom => ?_, fun hen hper hfull => ?_,
      hbuffered, hfound, hunknown, fun h => ?_, fun h => ?_, fun e h => ?_⟩
    · rw [exec_splitStart, hrun, splitStart_periodic_kept hs hup htt hen hper hroom hbytes]
    · rw [exec_splitStart, hrun, splitStart_periodic_full hs hup htt hen hper h]
    · rw [exec_splitStart, hrun, splitStart_buffered hs hup htt hen hper hroom]
    · rw [exec_splitStart, hrun, splitStart_full hs hup htt hen hper hfull]
    · rw [exec_splitStart, hrun, splitStart_disabled h]
    · rw [exec_ttAgeOut, hrun, ttAge_none htt h]
    · rw [exec_ttAgeOut, hrun, ttAge_ages htt h]
  case setup =>
    intro t ep
    have hrun (g : State → State) : s.runLive g = .next (s.after (g s)) := run_live g hl
    refine ⟨fun hreach hw => ?whole, fun hreach hw i hi => ?part, fun hs hpull => ?up, fun hs hup hlive hon => ?port9⟩
    case part =>
      obtain ⟨f, hf⟩ := exec_setupRow s u hi
      rw [hf, hrun, setup_partial hreach f hw]
    case up =>
      intro v on v' v''
      rw [exec_busReset, hrun, if_pos rfl, upReset_resets hs hpull rfl rfl rfl rfl]
    case port9 =>
      intro v
      rw [exec_busReset, hrun, if_neg (by decide), port9Reset_resets hup hlive hon rfl]
    case whole =>
      have hset (f : State → State) : s.setup u f = f t := setup_whole hreach f hw
      rw [exec_setupPacket, exec_setConfiguration, exec_setInterface, exec_setEndpointHalt, exec_clearEndpointHalt, hrun, hrun,
        hrun, hrun, hrun, hset, hset, hset, hset, hset]
      refine ⟨rfl, ?device, fun hhub hv hst => ?_, fun h => ?_, fun hhub hst hi halt => ?_, fun hhub hst hi halt => ?_,
        fun hhub hst hi halt => ?_, fun h => ?_, fun hst hthere => ⟨?_, ?_⟩, fun _ hthere i hi => ?halts⟩
      case device =>
        intro hhub hv hst v
        rw [hhub, setConfig_device hv hst rfl]
      · rw [hhub, setConfig_hub hv hst]
      · rw [setConfig_stalls h]
      · rw [hhub, setIface_stream hst hi halt]
      · rw [hhub, setIface_main hst hi halt]
      · rw [hhub, setIface_hub hst hi halt]
      · rw [setIface_refused h]
      · rw [setHalt_halts rfl hst hthere]
      · rw [clearHalt_clears rfl hst hthere]
      case halts =>
        simp only [List.mem_cons, List.not_mem_nil, or_false] at hi
        rcases hi with rfl | rfl
        · rw [exec_setEndpointHalt, hrun, hset, setHalt_stalls rfl hthere]
        · rw [exec_clearEndpointHalt, hrun, hset, clearHalt_stalls rfl hthere]

end Sys2Proof.Machine

/-! The endpoints of the management device: OUT and IN transfers, event reports, streams, connection and wake. -/

namespace Sys2Proof.Machine

section
variable {s : State}

/-! ### OUT and IN transfers (R426, R427) -/

section
variable {ep : Nat} {toggle acked nak : Bool} {bs : List Byte} {data : Option (List Byte)} {max : Nat} {f : State → State}

theorem outTransfer_dead (h : s.epLive = false) : s.outTransfer ep toggle bs nak f = s := if_pos (by simp [h])

theorem inTransfer_dead (h : s.epLive = false) : s.inTransfer ep data acked max f = s := if_pos (by simp [h])

section
variable (hlive : s.epLive = true)
include hlive

theorem outTransfer_halted (h : s.epHalted ep = true) : s.outTransfer ep toggle bs nak f = s.emit (.usbShake ep 2) :=
  (if_neg (by simp [hlive])).trans (if_pos h)

theorem inTransfer_halted (h : s.epHalted ep = true) : s.inTransfer ep data acked max f = s.emit (.usbShake ep 2) :=
  (if_neg (by simp [hlive])).trans (if_pos h)

section
variable (h : s.epHalted ep = false)
include h

theorem outTransfer_held (hnak : nak = true) : s.outTransfer ep toggle bs nak f = s.emit (.usbShake ep 1) :=
  (if_neg (by simp [hlive])).trans ((if_neg (by simp [h])).trans (if_pos hnak))

section
variable (hnak : nak = false)
include hnak

theorem outTransfer_taken :
    s.outTransfer ep (s.epToggle ep) bs nak f = f ((s.emit (.usbShake ep 0)).toggleBy ep (packets bs.length s.bulkMax)) :=
  (if_neg (by simp [hlive])).trans ((if_neg (by simp [h])).trans ((if_neg (by simp [hnak])).trans (if_neg (by simp))))

theorem outTransfer_repeated : s.outTransfer ep (!s.epToggle ep) bs nak f = s.emit (.usbShake ep 0) :=
  (if_neg (by simp [hlive])).trans ((if_neg (by simp [h])).trans ((if_neg (by simp [hnak])).trans (if_pos (by simp))))

end

theorem inTransfer_empty (hdata : data = none) : s.inTransfer ep data acked max f = s.emit (.usbShake ep 1) := by
  subst hdata
  exact (if_neg (by simp [hlive])).trans (if_neg (by simp [h]))

theorem inTransfer_sends (hdata : data = some bs) :
    s.inTransfer ep data acked max f
      = if acked then f ((s.emit (.usbIn (ep % 16) bs)).toggleBy ep (packets bs.length max)) else s.emit (.usbIn (ep % 16) bs) := by
  subst hdata
  exact (if_neg (by simp [hlive])).trans (if_neg (by simp [h]))

end
end
end

/-! ### What the endpoints have to send -/

theorem replies_none (h : s.cmd.usb = []) : s.cmd.usb.head?.map (·.bytes) = none := by rw [h]; rfl

theorem resps_none (h : s.usb.resps = []) : s.usb.resps.head?.map UsbResp.bytes = none := by rw [h]; rfl

theorem replies_front {r : Reply} {rest : List Reply} (h : s.cmd.usb = r :: rest) :
    s.cmd.usb.head?.map (·.bytes) = some r.bytes := by rw [h]; rfl

theorem resps_front {r : UsbResp} {rest : List UsbResp} (h : s.usb.resps = r :: rest) :
    s.usb.resps.head?.map UsbResp.bytes = some r.bytes := by rw [h]; rfl

/-- An event report as it is sent (R423). -/
def reportBytes (r : Nat × Nat × Nat) : List Byte := leBytes 4 r.1 ++ leBytes 1 r.2.1 ++ leBytes 1 0 ++ leBytes 2 r.2.2

theorem reports_none (h : s.usb.reports = []) : s.usb.reports.head?.map reportBytes = none := by rw [h]; rfl

theorem reports_front {r : Nat × Nat × Nat} {rest : List (Nat × Nat × Nat)} (h : s.usb.reports = r :: rest) :
    s.usb.reports.head?.map reportBytes = some (reportBytes r) := by rw [h]; rfl

/-! ### Streams (R424, R425) -/

theorem ep4In_off (h : s.epLive = false ∨ s.flag usbBase USB_MGMT_ISO_ALT = false) : s.ep4In = s :=
  if_pos (by simpa using h)

/-- One stream transfer: the slots due now, the rest deferred. -/
theorem ep4In_streams (hlive : s.epLive = true) (halt : s.flag usbBase USB_MGMT_ISO_ALT = true) {now : List Nat} {left : Nat}
    {table : Tbl (Option Nat)} {r : List Byte × State} (hnow : s.dueSlots.take (if s.upHs then 15 else 14) = now)
    (hleft : s.dueSlots.length - now.length = left)
    (htable : s.streamed.foldl (fun m n => Tbl.put (fun _ => none) m n (some (if now.contains n then s.dueNext n else s.dueOf n)))
      ([] : Tbl (Option Nat)) = table)
    (hr : now.foldl (fun (acc : List Byte × State) n =>
      let x := acc.2.slotTake n
      (acc.1 ++ leBytes 2 n ++ leBytes 2 0 ++ x.1, x.2)) ([], s) = r) :
    s.ep4In = (((r.2.emit (.usbIn 4
      ((leBytes 2 s.usb.isoSeq ++ leBytes 1 now.length ++ leBytes 1 (b2n (decide (0 < left)))) ++ r.1))).withUsb fun u =>
        { u with due := table, isoSeq := (u.isoSeq + 1) % 65536 }).bump usbBase USB_ISO_PKTS).bumpBy usbBase USB_ISO_DEFER left := by
  subst hnow hleft htable hr
  exact if_neg (by simp [hlive, halt])

/-! ### Event reports and wake (R414, R423) -/

theorem mayWake_iff :
    s.mayWake = true ↔ s.mgmtState = 4 ∧ s.usb.suspAt + 5000000 ≤ s.uptime ∧ s.flag usbBase USB_MGMT_MRWAKE = true
      ∧ s.flag usbBase USB_MGMT_WAKE_EN = true := by
  simp only [State.mayWake, Bool.and_eq_true, beq_iff_eq, decide_eq_true_eq, and_assoc]

section
variable (h : s.usbLive = false ∨ s.freshPend = 0)
include h

theorem noFresh : ¬ (s.usbLive = true ∧ s.freshPend ≠ 0) := by
  rintro ⟨hlive, hfresh⟩
  rcases h with h | h
  · simp [h] at hlive
  · exact hfresh h

theorem reportQueue_none : s.reportQueue = s := if_neg (noFresh h)

theorem wakeQueue_none : s.wakeQueue = s := if_neg fun hw => noFresh h ⟨hw.1, hw.2.1⟩

end

section
variable (hlive : s.usbLive = true) (hfresh : s.freshPend ≠ 0)
include hlive hfresh

section
variable (hwake : s.mayWake = true)
include hwake

theorem reportQueue_wakes : s.reportQueue = (s.report 1).deviceWake 9 :=
  (if_pos ⟨hlive, hfresh⟩).trans (if_pos hwake)

theorem wakeQueue_wakes : s.wakeQueue = (s.report 1).deviceWake 9 := if_pos ⟨hlive, hfresh, hwake⟩

end

section
variable (hwake : s.mayWake = false)
include hwake

theorem reportQueue_reports : s.reportQueue = s.report 0 :=
  (if_pos ⟨hlive, hfresh⟩).trans (if_neg (by simp [hwake]))

omit hlive hfresh in
theorem wakeQueue_asleep : s.wakeQueue = s := if_neg (by simp [hwake])

end
end

/-! ### Connection (R417) -/

theorem mgmtConnect_connects (h : s.flag usbBase USB_MGMT_CONNECT = false) :
    s.mgmtConnect true = (s.set usbBase USB_MGMT_CONNECT 1).mgmtShow true :=
  (if_neg (by simp [h])).trans (if_pos rfl)

theorem mgmtConnect_disconnects (h : s.flag usbBase USB_MGMT_CONNECT = true) :
    s.mgmtConnect false = (((s.set usbBase USB_MGMT_CONNECT 0).mgmtReset).set usbBase USB_MGMT_STATE 0).mgmtShow false :=
  (if_neg (by simp [h])).trans (if_neg (by decide))

/-- A write of USB_MGMT by the hub (log entry 3) wakes the USB island at once (log entry 57). -/
theorem regWrite_usbMgmt (w : Word) :
    s.regWrite 2 (usbBase + 0x14) w = (s.wakeFor usbBase).writeUsb 2 (usbBase + 0x14) w := by
  have hpresent : s.regPresent (usbBase + 0x14) = true := rfl
  have hfenced : s.regFenced (usbBase + 0x14) = false := rfl
  rw [regWrite_applies (regMapped_unit (by decide)) hpresent hfenced (.inl (by decide)) (.inr (le_refl 2))]
  rfl

end

/-! ### The rows -/

section
variable (s : State) (b : Bool) (bs : List Byte)

theorem exec_ep1OutTransfer : exec (.ep1OutTransfer b bs) s = s.runLive fun s => s.ep1Out b bs := rfl

theorem exec_ep1InTransfer : exec (.ep1InTransfer b) s = s.runLive fun s => s.ep1In b := rfl

theorem exec_ep2OutTransfer : exec (.ep2OutTransfer b bs) s = s.runLive fun s => s.ep2Out b bs := rfl

theorem exec_ep2InTransfer : exec (.ep2InTransfer b) s = s.runLive fun s => s.ep2In b := rfl

theorem exec_ep3InTransfer : exec (.ep3InTransfer b) s = s.runLive fun s => s.ep3In b := rfl

theorem exec_ep4InTransfer : exec .ep4InTransfer s = s.runLive fun s => s.ep4In := rfl

theorem exec_eventReportQueue : exec .eventReportQueue s = s.runLive fun s => s.reportQueue := rfl

theorem exec_mgmtRemoteWake : exec .mgmtRemoteWake s = s.runLive fun s => s.wakeQueue := rfl

theorem exec_usbMgmtConnect :
    exec .usbMgmtConnect s = s.runLive fun s => s.regWrite 2 (usbBase + 0x14)
      (putBits (s.rd (usbBase + 0x14)) USB_MGMT_CONNECT.lo USB_MGMT_CONNECT.width 1) := rfl

theorem exec_usbMgmtDisconnect :
    exec .usbMgmtDisconnect s = s.runLive fun s => s.regWrite 2 (usbBase + 0x14)
      (putBits (s.rd (usbBase + 0x14)) USB_MGMT_CONNECT.lo USB_MGMT_CONNECT.width 0) := rfl

theorem ep1Out_eq :
    s.ep1Out b bs = s.outTransfer 0x01 b bs (decide (2 ≤ s.usb.rx.length)) fun t =>
      (t.withUsb fun u => { u with rx := u.rx ++ [bs] }).usbTake := rfl

theorem ep1In_eq :
    s.ep1In b = s.inTransfer 0x81 (s.cmd.usb.head?.map (·.bytes)) b s.bulkMax State.replyGone := rfl

theorem ep2Out_eq :
    s.ep2Out b bs = s.outTransfer 0x02 b bs (decide (16 ≤ s.usb.reqs.length) || s.usb.write.isSome) fun t =>
      t.usbRequest bs := rfl

theorem ep2In_eq :
    s.ep2In b = s.inTransfer 0x82 (s.usb.resps.head?.map UsbResp.bytes) b s.bulkMax State.respGone := rfl

theorem ep3In_eq :
    s.ep3In b = s.inTransfer 0x83 (s.usb.reports.head?.map reportBytes) b 8
      fun t => t.withUsb fun u => { u with reports := u.reports.drop 1 } := rfl

end

/-- Settles O44: a transfer row is the OUT or IN transfer of its endpoint, each clause one case of it; the other rows report,
wake and connect as their conditions stand. -/
theorem usbEndpointRows : Obligations.UsbEndpointRows := by
  intro s hl
  have hrun (g : State → State) : s.runLive g = .next (s.after (g s)) := run_live g hl
  refine ⟨fun hlive => ?live, fun hdead b bs i hi => ?dead, fun h => ?noFresh, fun hlive hfresh h => ?report,
    fun hlive hst hsince hrw hen hfresh => ?wake, ?connect, mgmtConnect_connects, mgmtConnect_disconnects⟩
  case dead =>
    simp only [List.mem_cons, List.not_mem_nil, or_false] at hi
    rcases hi with rfl | rfl | rfl | rfl | rfl | rfl
    · rw [exec_ep1OutTransfer, hrun, ep1Out_eq, outTransfer_dead hdead]
    · rw [exec_ep1InTransfer, hrun, ep1In_eq, inTransfer_dead hdead]
    · rw [exec_ep2OutTransfer, hrun, ep2Out_eq, outTransfer_dead hdead]
    · rw [exec_ep2InTransfer, hrun, ep2In_eq, inTransfer_dead hdead]
    · rw [exec_ep3InTransfer, hrun, ep3In_eq, inTransfer_dead hdead]
    · rw [exec_ep4InTransfer, hrun, ep4In_off (.inl hdead)]
  case noFresh =>
    rw [exec_eventReportQueue, exec_mgmtRemoteWake, hrun, hrun, reportQueue_none h, wakeQueue_none h]
    exact ⟨rfl, rfl⟩
  case report =>
    have hwake : s.mayWake = false := by
      refine Bool.eq_false_iff.mpr fun hw => ?_
      obtain ⟨hst, hsince, hrw, hen⟩ := mayWake_iff.mp hw
      rcases h with h | h | h | h
      · exact h hst
      · simp [h] at hen
      · simp [h] at hrw
      · omega
    rw [exec_eventReportQueue, exec_mgmtRemoteWake, hrun, hrun, reportQueue_reports hlive hfresh hwake,
      wakeQueue_asleep hwake]
    exact ⟨rfl, rfl⟩
  case wake =>
    have hwake : s.mayWake = true := mayWake_iff.mpr ⟨hst, hsince, hrw, hen⟩
    rw [exec_eventReportQueue, exec_mgmtRemoteWake, hrun, hrun, reportQueue_wakes hlive hfresh hwake,
      wakeQueue_wakes hlive hfresh hwake]
    exact ⟨rfl, rfl⟩
  case connect =>
    intro w
    rw [exec_usbMgmtConnect, exec_usbMgmtDisconnect, hrun, hrun, regWrite_usbMgmt, regWrite_usbMgmt]
    exact ⟨rfl, rfl⟩
  case live =>
    refine ⟨fun b bs => ⟨fun h => ?_, fun h => ?_, fun h => ?_, fun h => ?_, fun h hq => ?_, fun h hq => ?_, fun h hq => ?_⟩,
      fun bs h hroom => ⟨?_, ?_⟩, fun bs h hroom hw => ⟨?_, ?_⟩, fun b bs h hfull => ?_, fun b bs h hfull => ?_,
      fun b bs h => ?_, fun r rest hq h => ⟨?_, ?_⟩, fun r rest hq h => ⟨?_, ?_⟩, fun r rest hq h => ?reports, fun h => ?_,
      fun h => ?stream⟩
    · rw [exec_ep1OutTransfer, hrun, ep1Out_eq, outTransfer_halted hlive h]
    · rw [exec_ep1InTransfer, hrun, ep1In_eq, inTransfer_halted hlive h]
    · rw [exec_ep2InTransfer, hrun, ep2In_eq, inTransfer_halted hlive h]
    · rw [exec_ep3InTransfer, hrun, ep3In_eq, inTransfer_halted hlive h]
    · rw [exec_ep1InTransfer, hrun, ep1In_eq, inTransfer_empty hlive h (replies_none hq)]
    · rw [exec_ep2InTransfer, hrun, ep2In_eq, inTransfer_empty hlive h (resps_none hq)]
    · rw [exec_ep3InTransfer, hrun, ep3In_eq, inTransfer_empty hlive h (reports_none hq)]
    · rw [exec_ep1OutTransfer, hrun, ep1Out_eq, outTransfer_taken hlive h (by simp [hroom])]
    · rw [exec_ep1OutTransfer, hrun, ep1Out_eq, outTransfer_repeated hlive h (by simp [hroom])]
    · rw [exec_ep2OutTransfer, hrun, ep2Out_eq, outTransfer_taken hlive h (by simp [hroom, hw])]
    · rw [exec_ep2OutTransfer, hrun, ep2Out_eq, outTransfer_repeated hlive h (by simp [hroom, hw])]
    · rw [exec_ep2OutTransfer, hrun, ep2Out_eq, outTransfer_held hlive h (by simpa using hfull)]
    · rw [exec_ep1OutTransfer, hrun, ep1Out_eq, outTransfer_held hlive h (by simpa using hfull)]
    · rw [exec_ep2OutTransfer, hrun, ep2Out_eq, outTransfer_halted hlive h]
    · rw [exec_ep1InTransfer, hrun, ep1In_eq, inTransfer_sends hlive h (replies_front hq), if_pos rfl]
    · rw [exec_ep1InTransfer, hrun, ep1In_eq, inTransfer_sends hlive h (replies_front hq), if_neg (by decide)]
    · rw [exec_ep2InTransfer, hrun, ep2In_eq, inTransfer_sends hlive h (resps_front hq), if_pos rfl]
    · rw [exec_ep2InTransfer, hrun, ep2In_eq, inTransfer_sends hlive h (resps_front hq), if_neg (by decide)]
    case reports =>
      intro bs
      refine ⟨?_, ?_⟩
      · rw [exec_ep3InTransfer, hrun, ep3In_eq, inTransfer_sends hlive h (reports_front hq), if_pos rfl]
        rfl
      · rw [exec_ep3InTransfer, hrun, ep3In_eq, inTransfer_sends hlive h (reports_front hq), if_neg (by decide)]
        rfl
    · rw [exec_ep4InTransfer, hrun, ep4In_off (.inr h)]
    case stream =>
      intro now left table r
      rw [exec_ep4InTransfer, hrun, ep4In_streams hlive h rfl rfl rfl rfl]

end Sys2Proof.Machine

/-! Attach, detach and resets of the negotiation ports. -/

namespace Sys2Proof.Machine

section
variable {s : State} {p mv : Nat} {objs : List Word} (hpd : s.pdLive = true)

/-! ### Attach and detach (R439, R440) -/

section
include hpd

theorem attach_of_unattached {source cc2 : Bool} (hen : s.flag (pdBase p) PD_PCFG_EN = true) (htc : s.tcState p = 0)
    (hrole : s.roleOk p source = true) {t : State}
    (ht : ((((((s.set (pdBase p) PD_PSTAT_TC_STATE (if source then 2 else 3)).set (pdBase p) PD_PSTAT_POLARITY (b2n cc2)).set
        (pdBase p) PD_PSTAT_PWR_SRC (b2n source)).set (pdBase p) PD_PSTAT_DFP (b2n source)).set (pdBase p)
        PD_PSTAT_VCONN_SRC (b2n source)).evt (pdBase p) PD_EVT 0).bump (pdBase p) PD_ATTACHES = t) :
    s.attach p source cc2 = t.setPd p { t.pd_ p with
      disch := source, starting := source, snkEn := !source, leaving := false, msgId := 0, pdos := [], choice := none,
      frs := false } := by
  subst ht
  exact if_neg (by simp [hpd, hen, htc, hrole])

theorem drpToggle_due (hen : s.flag (pdBase p) PD_PCFG_EN = true) (hroles : s.get (pdBase p) PD_PCFG_ROLES = 2)
    (himg : s.polImage = true) (htc : s.tcState p = 0) (hat : (s.pd_ p).rpAt + 37500000 ≤ s.uptime) :
    s.drpToggle p = s.setPd p { s.pd_ p with rp := !(s.pd_ p).rp, rpAt := s.uptime } :=
  if_neg (by simp [hpd, hen, hroles, himg, htc, hat])

omit hpd in
theorem detach_unattached (hsrc : s.pdSource p = false) (hsnk : s.pdSink p = false) : s.detach p mv = s :=
  if_pos (by simp [hsrc, hsnk])

theorem detach_source (hsrc : s.pdSource p = true) {t₁ t₂ t₃ : State} (ht₁ : (s.pdAbandon p 0x0C05).evt (pdBase p) PD_EVT 1 = t₁)
    (ht₂ : (if s.flag (pdBase p) PD_PSTAT_IN_TRANSITION = true then
        ((t₁.bump (pdBase p) PD_DETACH_XSN).evt (pdBase p) PD_EVT 6).raise .pdDetachInTransition (srcPd p) 0
          (leBytes 2 (s.pd_ p).target ++ leBytes 2 mv) else t₁) = t₂)
    (ht₃ : (t₂.contractOff p).set (pdBase p) PD_PSTAT_VCONN_SRC 0 = t₃) :
    s.detach p mv = t₃.setPd p { t₃.pd_ p with
      srcEn := false, snkEn := false, disch := true, starting := false, leaving := true, target := mv } := by
  subst ht₁ ht₂ ht₃
  exact (if_neg (by simp [hpd, hsrc])).trans (if_pos hsrc)

theorem detach_sink (hsrc : s.pdSource p = false) (hsnk : s.pdSink p = true) {t₁ t₂ : State}
    (ht₁ : (s.pdAbandon p 0x0C05).evt (pdBase p) PD_EVT 1 = t₁)
    (ht₂ : (if s.flag (pdBase p) PD_PSTAT_IN_TRANSITION = true then
        ((t₁.bump (pdBase p) PD_DETACH_XSN).evt (pdBase p) PD_EVT 6).raise .pdDetachInTransition (srcPd p) 0
          (leBytes 2 (s.pd_ p).target ++ leBytes 2 mv) else t₁) = t₂) :
    s.detach p mv = ((t₂.contractOff p).set (pdBase p) PD_PSTAT_VCONN_SRC 0).pdUnattached p 0 := by
  subst ht₁ ht₂
  exact (if_neg (by simp [hpd, hsnk])).trans (if_neg (by simp [hsrc]))

section
variable (hdisch : (s.pd_ p).disch = true)
include hdisch

theorem discharged_leaving (h : (s.pd_ p).leaving = true ∨ s.tcState p = 5) :
    s.discharged p = s.pdUnattached p (if s.flag (pdBase p) PD_PCFG_EN then 0 else 6) :=
  (if_neg (by simp [hpd, hdisch])).trans (if_pos h)

section
variable (hleave : (s.pd_ p).leaving = false) (htc : s.tcState p ≠ 5)
include hleave htc

theorem discharged_starting (h : (s.pd_ p).starting = true) : s.discharged p = s.sourceOn p :=
  (if_neg (by simp [hpd, hdisch])).trans ((if_neg (by simp [hleave, htc])).trans (if_pos h))

theorem discharged_resting (h : (s.pd_ p).starting = false) :
    s.discharged p = s.setPd p { s.pd_ p with disch := false } :=
  (if_neg (by simp [hpd, hdisch])).trans ((if_neg (by simp [hleave, htc])).trans (if_neg (by simp [h])))

end
end

/-! ### Messages and resets of the partner (R435, R444) -/

theorem cableRx_identity (hsrc : s.pdSource p = true) (hack : bitsOf (objs.headD 0) 6 2 = 1) {t : State}
    (ht : (s.set (pdBase p) PD_PSTAT_CABLE_5A (b2n (bitsOf (objs.getD 4 0) 5 2 == 2))).set (pdBase p) PD_PSTAT_CABLE_EPR
      (b2n (bitsOf (objs.getD 4 0) 9 2 == 3)) = t) :
    s.cableRx p objs = if (t.pd_ p).srcEn then t.sendCaps p else t := by
  subst ht
  exact if_neg (by simp only [hpd, hsrc, hack]; decide)

omit hpd in
theorem cableRx_ignored (h : s.pdSource p = false ∨ bitsOf (objs.headD 0) 6 2 ≠ 1) : s.cableRx p objs = s :=
  if_pos (h.elim (fun h => .inr (.inl (by simp [h]))) fun h => .inr (.inr h))

section
variable (hatt : s.pdSource p = true ∨ s.pdSink p = true)
include hatt

theorem hardResetRx_attached : s.hardResetRx p = s.hardReset p :=
  if_neg (by rcases hatt with h | h <;> simp [hpd, h])

theorem softResetRx_attached {t : State}
    (ht : ((s.bump (pdBase p) PD_SOFT_RESETS).setPd p { s.pd_ p with msgId := 0 }).pdControl p msgAccept = t) :
    s.softResetRx p = if t.pdSource p then t.sendCaps p else t := by
  subst ht
  exact if_neg (by rcases hatt with h | h <;> simp [hpd, h])

end

omit hpd in
theorem hardResetRx_unattached (hsrc : s.pdSource p = false) (hsnk : s.pdSink p = false) : s.hardResetRx p = s :=
  if_pos (by simp [hsrc, hsnk])

omit hpd in
theorem softResetRx_unattached (hsrc : s.pdSource p = false) (hsnk : s.pdSink p = false) : s.softResetRx p = s :=
  if_pos (by simp [hsrc, hsnk])

end

theorem goodCrcTimeout_idle (h : (s.pd_ p).msg = none) : s.goodCrcTimeout p = s := by
  simp only [State.goodCrcTimeout, h]

theorem goodCrcTimeout_retry {bs : List Byte} {n : Nat} (h : (s.pd_ p).msg = some (bs, n)) (hn : n < 3) :
    s.goodCrcTimeout p = (s.emit (.pdMsg p bs)).setPd p { s.pd_ p with msg := some (bs, n + 1) } := by
  simp only [State.goodCrcTimeout, h, if_pos hn]

theorem goodCrcTimeout_discard {bs : List Byte} {n : Nat} (h : (s.pd_ p).msg = some (bs, n)) (hn : 3 ≤ n) :
    s.goodCrcTimeout p = (s.setPd p { s.pd_ p with msg := none }).bump (pdBase p) PD_MSG_DISCARD := by
  simp only [State.goodCrcTimeout, h, if_neg (Nat.not_lt.mpr hn)]

/-! ### The policy's watchdog (R449) -/

theorem policyWdog_fallback (h : s.polImage = false) : s.policyWdog = s := if_pos (by simp [h])

include hpd in
theorem policyWdog_image (h : s.polImage = true) {t : State} (ht : { s with pd := { s.pd with barred := true } } = t) :
    s.policyWdog = (((t.bump pdAll PD_POL_RESTARTS).evt pdAll PD_GEVT 0).raise .pdPolicyWdog (srcIsland 20) 0
      (leBytes 4 s.pd.imgVer)).runPolicy false 4 0 := by
  subst ht
  exact if_neg (by simp [hpd, h])

end

/-! ### The rows -/

section
variable (q : Fin 3) (s : State)

theorem exec_typecAttach (a : TypecAttach) :
    exec (.typecAttach q a) s = s.runLive fun s => s.attach q.val a.source a.cc2 := rfl
theorem exec_drpToggle : exec (.drpToggle q) s = s.runLive fun s => s.drpToggle q.val := rfl
theorem exec_typecDetach (mv : BitVec 16) :
    exec (.typecDetach q mv) s = s.runLive fun s => s.detach q.val mv.toNat := rfl
theorem exec_vbusDischargeDone : exec (.vbusDischargeDone q) s = s.runLive fun s => s.discharged q.val := rfl
theorem exec_discoverIdentityRx (m : PdRx) :
    exec (.discoverIdentityRx q m) s = s.runLive fun s => s.cableRx q.val m.objs := rfl
theorem exec_hardResetRx : exec (.hardResetRx q) s = s.runLive fun s => s.hardResetRx q.val := rfl
theorem exec_softResetRx : exec (.softResetRx q) s = s.runLive fun s => s.softResetRx q.val := rfl
theorem exec_goodcrcTimeout : exec (.goodcrcTimeout q) s = s.runLive fun s => s.goodCrcTimeout q.val := rfl
theorem exec_policyWdogExpire : exec .policyWdogExpire s = s.runLive State.policyWdog := rfl

end

/-- Settles O45: each row as its port's role, discharge and message in flight decide. -/
theorem pdPortRows : Obligations.PdPortRows := by
  intro s q hl hpd
  have hrun (g : State → State) : s.runLive g = .next (s.after (g s)) := run_live g hl
  refine ⟨?attach, ?toggle, fun mv => ⟨?source, ?sink, ?neither⟩, ?left, ?started, ?rested, ?cable, ?noCable, ?hard, ?soft,
    fun hsrc hsnk => ⟨?noHard, ?noSoft⟩, ?noMsg, ?noImage, ?retry, ?discard, ?image⟩
  case attach =>
    intro a hen htc hrole
    rw [exec_typecAttach, hrun, attach_of_unattached hpd hen htc hrole rfl]
  case toggle =>
    intro hen hroles himg htc hat
    rw [exec_drpToggle, hrun, drpToggle_due hpd hen hroles himg htc hat]
  case source =>
    intro hsrc
    rw [exec_typecDetach, hrun, detach_source hpd hsrc rfl rfl rfl]
  case sink =>
    intro hsrc hsnk
    rw [exec_typecDetach, hrun, detach_sink hpd hsrc hsnk rfl rfl]
  case neither =>
    intro hsrc hsnk
    rw [exec_typecDetach, hrun, detach_unattached hsrc hsnk]
  case left =>
    intro hdisch hleft
    rw [exec_vbusDischargeDone, hrun, discharged_leaving hpd hdisch hleft]
  case started =>
    intro hdisch hleave htc hstart
    rw [exec_vbusDischargeDone, hrun, discharged_starting hpd hdisch hleave htc hstart]
  case rested =>
    intro hdisch hleave htc hrest
    rw [exec_vbusDischargeDone, hrun, discharged_resting hpd hdisch hleave htc hrest]
  case cable =>
    intro m hsrc hack
    rw [exec_discoverIdentityRx, hrun, cableRx_identity hpd hsrc hack rfl]
  case noCable =>
    intro m h
    rw [exec_discoverIdentityRx, hrun, cableRx_ignored h]
  case hard =>
    intro hatt
    rw [exec_hardResetRx, hrun, hardResetRx_attached hpd hatt]
  case soft =>
    intro hatt
    rw [exec_softResetRx, hrun, softResetRx_attached hpd hatt rfl]
  case noHard => rw [exec_hardResetRx, hrun, hardResetRx_unattached hsrc hsnk]
  case noSoft => rw [exec_softResetRx, hrun, softResetRx_unattached hsrc hsnk]
  case noMsg =>
    intro hmsg
    rw [exec_goodcrcTimeout, hrun, goodCrcTimeout_idle hmsg]
  case noImage =>
    intro himg
    rw [exec_policyWdogExpire, hrun, policyWdog_fallback himg]
  case retry =>
    intro bs n hmsg hn
    rw [exec_goodcrcTimeout, hrun, goodCrcTimeout_retry hmsg hn]
  case discard =>
    intro bs n hmsg hn
    rw [exec_goodcrcTimeout, hrun, goodCrcTimeout_discard hmsg hn]
  case image =>
    intro himg
    rw [exec_policyWdogExpire, hrun, policyWdog_image hpd himg rfl]

end Sys2Proof.Machine

/-! Contracts of the negotiation ports, their samples and keep-alives, and role swaps. -/

namespace Sys2Proof.Machine

/-- The transition of port `p` has missed its window for TRANS_MS (R437). -/
def State.TransLate (s : State) (p : Nat) : Prop :=
  ∃ y t, (s.pd_ p).trans = some y ∧ y.started = some t ∧ t + 1000000 * s.get (pdBase p) PD_XCFG_TRANS_MS ≤ s.uptime

/-- What a converter fault comes to: counted, recorded, and a Hard Reset (R437). -/
def State.converterHardReset (s : State) (p : Nat) (pg : Bool) (mv : Nat) : State :=
  ((((s.bump (pdBase p) PD_CONV_FAULTS).evt (pdBase p) PD_EVT 8).raise .pdConverter (srcPd p) 0
    (leBytes 2 (s.pd_ p).target ++ leBytes 2 mv ++ leBytes 1 (b2n pg))).emit (.pdMsg p [])).hardReset p

section
variable {s : State} {p : Nat} {objs : List Word}

/-! ### A source's contract and converter (R437, R442) -/

section
variable {mv : Nat} {pg : Bool} {y : PdTrans}

theorem transStart_due (htrans : (s.pd_ p).trans = some y) (hstart : y.started = none) (hat : y.at_ + 30000000 ≤ s.uptime) :
    s.transStart p = ((s.setPd p { s.pd_ p with trans := some { y with started := some s.uptime } }).set (pdBase p)
      PD_PSTAT_IN_TRANSITION 1).setTarget p y.mv := by
  simp only [State.transStart, htrans]
  exact if_neg (by simp [hstart, hat])

theorem vsetTrim_off (h : (s.pd_ p).srcEn = false) : s.vsetTrim p mv = s := if_pos (by simp [h])

theorem vsetTrim_idle (hwin : s.inWindow p mv = true) (htrans : (s.pd_ p).trans = none) : s.vsetTrim p mv = s := by
  simp only [State.vsetTrim, hwin, htrans, if_true, ite_self]

theorem converterFault_off (h : (s.pd_ p).srcEn = false) : s.converterFault p pg mv = s := if_pos (by simp [h])

theorem converterFault_inTime (h : ¬ s.TransLate p) : s.converterFault p false mv = s := by
  refine if_pos (.inr (.inr ⟨rfl, ?_⟩))
  split
  · rename_i y htrans
    split
    · rename_i t hstart
      simpa using fun hlate => h ⟨y, t, htrans, hstart, hlate⟩
    · rfl
  · rfl

section
variable (hpd : s.pdLive = true)
include hpd

theorem requestRx_source (hsrc : s.pdSource p = true) {t u : State} (ht : s.setPd p { s.pd_ p with reqAt := s.uptime } = t)
    (hu : t.pdControl p msgAccept = u) :
    s.requestRx p objs = match t.judgeRequest p ((objs.headD 0).toNat) with
      | none => t.pdControl p msgReject
      | some (k, v, a) => u.setPd p { u.pd_ p with trans := some ⟨v, a, k, u.uptime, none⟩ } := by
  subst ht hu
  exact if_neg (by simp [hpd, hsrc])

section
variable (hsrc : (s.pd_ p).srcEn = true)
include hsrc

theorem vsetTrim_settled (hwin : s.inWindow p mv = true) (htrans : (s.pd_ p).trans = some y)
    (hstart : y.started.isSome = true) {t : State}
    (ht : (s.setPd p { s.pd_ p with trans := none }).set (pdBase p) PD_PSTAT_IN_TRANSITION 0 = t) :
    s.vsetTrim p mv = ((t.pdControl p msgPsRdy).contractOn p y.mv y.ma y.kind).polLate p := by
  subst ht
  refine (if_neg (by simp [hpd, hsrc])).trans ((if_pos hwin).trans ?_)
  simp only [htrans]
  exact if_neg (by simpa using Option.isSome_iff_ne_none.mp hstart)

theorem vsetTrim_outside (hwin : s.inWindow p mv = false) {r : Nat × State} (hr : s.takeFree = r) :
    s.vsetTrim p mv = r.2.setPd p { r.2.pd_ p with duty := (Sys2Proof.Config.pdTrim r.1).toNat } := by
  subst hr
  exact (if_neg (by simp [hpd, hsrc])).trans (if_neg (by simp [hwin]))

theorem converterFault_lowPg : s.converterFault p true mv = s.converterHardReset p true mv :=
  if_neg (by simp [hpd, hsrc])

theorem converterFault_late (h : s.TransLate p) : s.converterFault p pg mv = s.converterHardReset p pg mv := by
  obtain ⟨y, t, htrans, hstart, hlate⟩ := h
  exact if_neg (by simp [hpd, hsrc, htrans, hstart, hlate])

end
end

end

/-! ### Samples of the current (R438) -/

section
variable {ma mv : Nat} {t : State} (ht : s.pdMean p mv ma = t)
include ht

theorem isnsSample_idle (h : t.pdLive = false ∨ t.pdSource p = false ∨ (t.pd_ p).srcEn = false
    ∨ t.flag (pdBase p) PD_PSTAT_CONTRACT = false) : s.isnsSample p ma mv = t := by
  subst ht
  exact if_pos (by simpa using h)

section
variable (hpd : t.pdLive = true) (hsrc : t.pdSource p = true) (hen : (t.pd_ p).srcEn = true)
  (hcon : t.flag (pdBase p) PD_PSTAT_CONTRACT = true)
include hpd hsrc hen hcon

theorem isnsSample_pps_below (hkind : t.get (pdBase p) PD_PSTAT_KIND = 1) (h : ma < t.get (pdBase p) PD_CONTRACT_MA) :
    s.isnsSample p ma mv = t.set (pdBase p) PD_PSTAT_CL 0 := by
  subst ht
  exact (if_neg (by simp [hpd, hsrc, hen, hcon])).trans ((if_pos hkind).trans (if_pos h))

theorem isnsSample_pps_limit (hkind : t.get (pdBase p) PD_PSTAT_KIND = 1) (h : t.get (pdBase p) PD_CONTRACT_MA ≤ ma)
    {r : Nat × State} (hr : t.takeFree = r) :
    s.isnsSample p ma mv
      = (r.2.setPd p { t.pd_ p with duty := (Sys2Proof.Config.pdTrim r.1).toNat }).set (pdBase p) PD_PSTAT_CL 1 := by
  subst ht hr
  exact (if_neg (by simp [hpd, hsrc, hen, hcon])).trans ((if_pos hkind).trans (if_neg (Nat.not_lt.mpr h)))

section
variable (hkind : t.get (pdBase p) PD_PSTAT_KIND ≠ 1)
include hkind

theorem isnsSample_below (h : ma * 100 ≤ t.get (pdBase p) PD_XCFG_OCP_PCT * t.get (pdBase p) PD_CONTRACT_MA) :
    s.isnsSample p ma mv = t.setPd p { t.pd_ p with ocSince := none } := by
  subst ht
  exact (if_neg (by simp [hpd, hsrc, hen, hcon])).trans ((if_neg hkind).trans (if_pos h))

section
variable (hover : t.get (pdBase p) PD_XCFG_OCP_PCT * t.get (pdBase p) PD_CONTRACT_MA < ma * 100)
include hover

theorem isnsSample_over_wait
    (h : t.uptime < (t.pd_ p).ocSince.getD t.uptime + 1000000 * t.get (pdBase p) PD_XCFG_OCP_MS) :
    s.isnsSample p ma mv = t.setPd p { t.pd_ p with ocSince := some ((t.pd_ p).ocSince.getD t.uptime) } := by
  subst ht
  exact (if_neg (by simp [hpd, hsrc, hen, hcon])).trans
    ((if_neg hkind).trans ((if_neg (Nat.not_le.mpr hover)).trans (if_pos h)))

theorem isnsSample_over_trip
    (h : (t.pd_ p).ocSince.getD t.uptime + 1000000 * t.get (pdBase p) PD_XCFG_OCP_MS ≤ t.uptime) :
    s.isnsSample p ma mv = ((((t.bump (pdBase p) PD_OCP).evt (pdBase p) PD_EVT 7).raise .pdOcp (srcPd p) 0
      (leBytes 2 (t.get (pdBase p) PD_CONTRACT_MA) ++ leBytes 2 ma)).emit (.pdMsg p [])).hardReset p := by
  subst ht
  exact (if_neg (by simp [hpd, hsrc, hen, hcon])).trans
    ((if_neg hkind).trans ((if_neg (Nat.not_le.mpr hover)).trans (if_neg (Nat.not_lt.mpr h))))

end
end
end
end

/-! ### Capabilities, EPR mode and keep-alives (R442 to R444) -/

section
variable {act : Nat} (hact : (objs.headD 0).toNat / 2 ^ 24 = act)
include hact

theorem eprModeRx_sink_ignored (hsnk : s.pdSink p = true) (h5 : act ≠ 5) (h : act ≠ 3 ∨ s.polImage = false) :
    s.eprModeRx p objs = s := by
  subst hact
  refine ite_eq_left_iff.mpr fun _ => (if_neg h5).trans ((if_pos hsnk).trans (if_neg ?_))
  rintro ⟨h3, himg⟩
  exact h.elim (· h3) (by simp [himg])

theorem eprModeRx_source_ignored (hsnk : s.pdSink p = false) (h1 : act ≠ 1) (h5 : act ≠ 5) : s.eprModeRx p objs = s := by
  subst hact
  exact ite_eq_left_iff.mpr fun _ => (if_neg h5).trans ((if_neg (by simp [hsnk])).trans (if_pos h1))

end

section
variable (hpd : s.pdLive = true)
include hpd

theorem eprModeRx_exit (hact : (objs.headD 0).toNat / 2 ^ 24 = 5) (hatt : s.pdSource p = true ∨ s.pdSink p = true) :
    s.eprModeRx p objs = s.set (pdBase p) PD_PSTAT_EPR_MODE 0 :=
  (if_neg (by rcases hatt with h | h <;> simp [hpd, h])).trans (if_pos hact)

theorem eprModeRx_entered (hact : (objs.headD 0).toNat / 2 ^ 24 = 3) (hsnk : s.pdSink p = true) (himg : s.polImage = true) :
    s.eprModeRx p objs = (s.set (pdBase p) PD_PSTAT_EPR_MODE 1).setPd p { s.pd_ p with kaAt := s.uptime } :=
  (if_neg (by simp [hpd, hsnk])).trans
    ((if_neg (by rw [hact]; decide)).trans ((if_pos hsnk).trans (if_pos ⟨hact, himg⟩)))

section
variable (hact : (objs.headD 0).toNat / 2 ^ 24 = 1) (hsrc : s.pdSource p = true) (hsnk : s.pdSink p = false)
include hact hsrc hsnk

theorem eprModeRx_granted (hok : s.eprOk p = true) {t : State}
    (ht : (s.set (pdBase p) PD_PSTAT_EPR_MODE 1).setPd p { s.pd_ p with kaAt := s.uptime } = t) :
    s.eprModeRx p objs = (t.pdData p 10 [3 * 2 ^ 24]).sendCaps p := by
  subst ht
  exact (if_neg (by simp [hpd, hsrc])).trans ((if_neg (by rw [hact]; decide)).trans
    ((if_neg (by simp [hsnk])).trans ((if_neg (not_not.mpr hact)).trans (if_pos hok))))

theorem eprModeRx_failed (hok : s.eprOk p = false) : s.eprModeRx p objs = s.pdData p 10 [4 * 2 ^ 24] :=
  (if_neg (by simp [hpd, hsrc])).trans ((if_neg (by rw [hact]; decide)).trans
    ((if_neg (by simp [hsnk])).trans ((if_neg (not_not.mpr hact)).trans (if_neg (by simp [hok])))))

end

theorem capsRx_sink (hsnk : s.pdSink p = true) {t : State}
    (ht : s.setPd p { s.pd_ p with
      pdos := (objs.take 11).map (·.toNat), frs := ((objs.take 11).map (·.toNat)).headD 0 / 2 ^ 23 % 4 != 0 } = t) :
    s.capsRx p objs = t.sinkRequest p := by
  subst ht
  exact if_neg (by simp [hpd, hsnk])

theorem keepAliveRx_source (hsrc : s.pdSource p = true) (hepr : s.flag (pdBase p) PD_PSTAT_EPR_MODE = true) :
    s.keepAliveRx p = (s.setPd p { s.pd_ p with kaAt := s.uptime }).pdExt p 16 (leBytes 1 4 ++ leBytes 1 0) :=
  if_neg (by simp [hpd, hsrc, hepr])

theorem ppsRequest_due (hsnk : s.pdSink p = true) (hcon : s.flag (pdBase p) PD_PSTAT_CONTRACT = true)
    (hkind : s.get (pdBase p) PD_PSTAT_KIND = 1) (hat : (s.pd_ p).reqAt + 8 * nsPerSec ≤ s.uptime) :
    s.ppsRequest p = s.sendRequest p 1 (s.get (pdBase p) PD_CONTRACT_MV) (s.get (pdBase p) PD_CONTRACT_MA) 0 :=
  if_neg (by simp [hpd, hsnk, hcon, hkind, hat])

theorem keepAliveSend_due (hsnk : s.pdSink p = true) (hepr : s.flag (pdBase p) PD_PSTAT_EPR_MODE = true)
    (hat : (s.pd_ p).kaAt + 400000000 ≤ s.uptime) :
    s.keepAliveSend p = (s.setPd p { s.pd_ p with kaAt := s.uptime }).pdExt p 16 (leBytes 1 3 ++ leBytes 1 0) :=
  if_neg (by simp [hpd, hsnk, hepr, hat])

theorem keepAliveTimeout_due (hsrc : s.pdSource p = true)
    (h : (s.flag (pdBase p) PD_PSTAT_EPR_MODE = true ∧ (s.pd_ p).kaAt + nsPerSec ≤ s.uptime)
      ∨ (s.flag (pdBase p) PD_PSTAT_CONTRACT = true ∧ s.get (pdBase p) PD_PSTAT_KIND = 1
        ∧ (s.pd_ p).reqAt + 15 * nsPerSec ≤ s.uptime)) :
    s.keepAliveTimeout p = (s.emit (.pdMsg p [])).hardReset p := by
  refine if_pos ⟨hpd, hsrc, ?_⟩
  rcases h with ⟨hepr, hat⟩ | ⟨hcon, hkind, hat⟩
  · exact .inr (by simp [hepr, hat])
  · exact .inl (by simp [hcon, hkind, hat])

end

/-! ### A partner's swap (R446) -/

section
variable {k : Nat} {w : PdSwap}

/-- A DR_Swap is granted by UPC0 as DFP alone. -/
theorem swapVerdict_dataRole : (s.swapVerdict p 2).1 = (p == 0 && s.flag (pdBase p) PD_PSTAT_DFP) :=
  congrArg Prod.fst (if_pos rfl)

theorem swapRx_unattached (hsrc : s.pdSource p = false) (hsnk : s.pdSink p = false) : s.swapRx p k = s :=
  if_pos (by simp [hsrc, hsnk])

section
variable (hpd : s.pdLive = true) (hatt : s.pdSource p = true ∨ s.pdSink p = true)
include hpd hatt

theorem swapRx_first (hswap : (s.pd_ p).swap = none) {r : Bool × State} (hr : s.swapVerdict p k = r) :
    s.swapRx p k = if r.1 then (r.2.pdControl p msgAccept).swapGo p ⟨k, false, true, 0, false⟩
      else r.2.pdControl p msgReject := by
  subst hr
  simp only [State.swapRx, hswap]
  exact if_neg (by rcases hatt with h | h <;> simp [hpd, h])

theorem swapRx_busy (hswap : (s.pd_ p).swap = some w) (h : w.own = false ∨ w.taken = true ∨ s.pdSource p = true) :
    s.swapRx p k = s.pdControl p msgWait := by
  simp only [State.swapRx, hswap]
  refine (if_neg (by rcases hatt with h | h <;> simp [hpd, h])).trans ?_
  refine ite_eq_left_iff.mpr fun hgo => if_pos ⟨rfl, ?_⟩
  rcases h with h | h | h
  · simp [h]
  · simp [h]
  · simpa [h, imp_iff_not_or] using hgo

theorem swapRx_yield (hswap : (s.pd_ p).swap = some w) (hown : w.own = true) (htaken : w.taken = false)
    (hsrc : s.pdSource p = false) {t : State} (ht : (s.bump (pdBase p) PD_SWAP_YIELDS).setPd p { s.pd_ p with swap := none } = t)
    {r : Bool × State} (hr : t.swapVerdict p k = r) :
    s.swapRx p k = if r.1 then (r.2.pdControl p msgAccept).swapGo p ⟨k, false, true, 0, true⟩
      else (r.2.pdControl p msgReject).wakeSwap p 0x0C04 := by
  subst ht hr
  simp only [State.swapRx, hswap, hown, htaken]
  exact (if_neg (by rcases hatt with h | h <;> simp [hpd, h])).trans ((if_neg (by simp [hsrc])).trans (if_neg (by simp)))

end

end

/-! ### Answers to the hub's own swap or Request (R443, R446) -/

section
variable {w : PdSwap} {a : PdAsk} {ans : Nat} (hpd : s.pdLive = true)

theorem answerRx_idle (hswap : (s.pd_ p).swap = none) (hask : (s.pd_ p).ask = none) : s.answerRx p ans = s := by
  simp only [State.answerRx, hswap, hask, ite_self]

theorem psRdyRx_idle (hswap : (s.pd_ p).swap = none) (hask : (s.pd_ p).ask = none) : s.psRdyRx p = s := by
  simp only [State.psRdyRx, hswap, hask, ite_self]

section
variable (hswap : (s.pd_ p).swap = some w)
include hpd hswap

section
variable (hown : w.own = true) (htaken : w.taken = false)
include hown htaken

theorem answerRx_swap : s.answerRx p ans =
    if ans = 0 then s.swapGo p w
    else if ans = 2 ∧ w.waits < 2 then
      (s.setPd p { s.pd_ p with swap := some { w with waits := w.waits + 1 } }).pdControl p (swapMsg w.kind)
    else ((s.setPd p { s.pd_ p with swap := none }).wakeSwap p 0x0C03).polLate p := by
  simp only [State.answerRx, hswap]
  exact (if_neg (by simp [hpd])).trans (if_neg (by simp [hown, htaken]))

end

section
variable (htaken : w.taken = true)
include htaken

theorem psRdyRx_swap : s.psRdyRx p =
    if w.kind = 1 then
      if s.pdSource p then (s.becomeSink p true).swapDone p w
      else (((s.becomeSource p).pdControl p msgPsRdy).swapDone p w).sendCaps p
    else if w.kind = 3 then (s.set (pdBase p) PD_PSTAT_VCONN_SRC 0).swapDone p w
    else if w.kind = 4 then (s.setPd p { s.pd_ p with snkEn := true }).swapDone p w
    else s := by
  simp only [State.psRdyRx, hswap]
  exact (if_neg (by simp [hpd])).trans (if_neg (by simp [htaken]))

end
end

section
variable (hswap : (s.pd_ p).swap = none) (hask : (s.pd_ p).ask = some a)
include hpd hswap hask

theorem answerRx_request (htaken : a.taken = false) : s.answerRx p ans =
    if ans = 0 then s.setPd p { s.pd_ p with ask := some { a with taken := true } }
    else if ans = 2 ∧ a.waits < 2 then s.sendRequest p a.kind a.mv a.ma (a.waits + 1)
    else (s.setPd p { s.pd_ p with ask := none }).wakeRequest p 0x0C03 := by
  simp only [State.answerRx, hswap, hask]
  exact (if_neg (by simp [hpd])).trans (if_neg (by simp [htaken]))

theorem psRdyRx_request (htaken : a.taken = true) {t : State}
    (ht : ((s.setPd p { s.pd_ p with ask := none }).contractOn p a.mv a.ma a.kind).wakeRequest p 0 = t) :
    s.psRdyRx p = if t.polImage = true ∧ t.flag (pdBase p) PD_PCFG_EPR_EN = true
        ∧ t.flag (pdBase p) PD_PSTAT_EPR_MODE = false ∧ bitAt ((s.pd_ p).pdos.headD 0) 23 = true then
      t.pdData p 10 [2 ^ 24] else t := by
  subst ht
  simp only [State.psRdyRx, hswap, hask]
  refine (if_neg (by simp [hpd])).trans ((if_neg (by simp [htaken])).trans ?_)
  simp only [Bool.not_eq_true']

end
end

/-! ### Fast Role Swap (R447) -/

theorem frsRx_ignored (h : s.frsOn p = false ∨ s.pdSink p = false ∨ s.deadBatt p = true) : s.frsRx p = s :=
  if_pos (by simpa using h)

theorem frsRx_takes (hon : s.frsOn p = true) (hsnk : s.pdSink p = true) (hdead : s.deadBatt p = false) :
    s.frsRx p = (((s.frsCount p).becomeSource p).pdControl p msgFrSwap).sendCaps p :=
  if_neg (by simp [hon, hsnk, hdead])

theorem frsLoss_ignored (h : s.frsOn 0 = false ∨ s.pdSource 0 = false ∨ (s.pd_ 0).srcEn = false) : s.frsLoss = s :=
  if_pos (by simpa using h)

theorem frsLoss_gives (hon : s.frsOn 0 = true) (hsrc : s.pdSource 0 = true) (hen : (s.pd_ 0).srcEn = true) {t : State}
    (ht : ((s.frsCount 0).emit (.pdMsg 0 [0xFF#8])).becomeSink 0 false = t) :
    s.frsLoss = t.setPd 0 { t.pd_ 0 with swap := some ⟨4, false, true, 0, false⟩ } := by
  subst ht
  exact if_neg (by simp [hon, hsrc, hen])

end

/-! ### The rows -/

section
variable (q : Fin 3) (s : State)

theorem exec_requestRx (m : PdRx) : exec (.requestRx q m) s = s.runLive fun s => s.requestRx q.val m.objs := rfl
theorem exec_transitionStart : exec (.transitionStart q) s = s.runLive fun s => s.transStart q.val := rfl
theorem exec_vsetTrim (mv : BitVec 16) : exec (.vsetTrim q mv) s = s.runLive fun s => s.vsetTrim q.val mv.toNat := rfl
theorem exec_transitionTimeout (pg : Bool) (mv : BitVec 16) :
    exec (.transitionTimeout q pg mv) s = s.runLive fun s => s.converterFault q.val pg mv.toNat := rfl
theorem exec_isnsSample (ma mv : BitVec 16) :
    exec (.isnsSample q ma mv) s = s.runLive fun s => s.isnsSample q.val ma.toNat mv.toNat := rfl
theorem exec_sourceCapabilitiesRx (m : PdRx) :
    exec (.sourceCapabilitiesRx q m) s = s.runLive fun s => s.capsRx q.val m.objs := rfl
theorem exec_eprModeRx (m : PdRx) : exec (.eprModeRx q m) s = s.runLive fun s => s.eprModeRx q.val m.objs := rfl
theorem exec_eprKeepaliveRx : exec (.eprKeepaliveRx q) s = s.runLive fun s => s.keepAliveRx q.val := rfl
theorem exec_ppsRequestSend : exec (.ppsRequestSend q) s = s.runLive fun s => s.ppsRequest q.val := rfl
theorem exec_eprKeepaliveSend : exec (.eprKeepaliveSend q) s = s.runLive fun s => s.keepAliveSend q.val := rfl
theorem exec_keepaliveTimeout : exec (.keepaliveTimeout q) s = s.runLive fun s => s.keepAliveTimeout q.val := rfl
theorem exec_acceptRx (ans : Fin 3) : exec (.acceptRx q ans) s = s.runLive fun s => s.answerRx q.val ans.val := rfl
theorem exec_psRdyRx : exec (.psRdyRx q) s = s.runLive fun s => s.psRdyRx q.val := rfl
theorem exec_frsSignalRx : exec (.frsSignalRx q) s = s.runLive fun s => s.frsRx q.val := rfl
theorem exec_frsSourceLoss : exec .frsSourceLoss s = s.runLive State.frsLoss := rfl

/-- The three swap requests are one operation, told apart by the kind. -/
theorem exec_swapRx (hl : s.Live) {f : Nat → State} (h : ∀ k, s.swapRx q.val k = f k) :
    exec (.prSwapRx q) s = .next (s.after (f 1)) ∧ exec (.drSwapRx q) s = .next (s.after (f 2))
      ∧ exec (.vconnSwapRx q) s = .next (s.after (f 3)) := by
  simp only [← h]
  have hrun (k : Nat) : (s.runLive fun s => s.swapRx q.val k) = .next (s.after (s.swapRx q.val k)) := run_live _ hl
  exact ⟨hrun 1, hrun 2, hrun 3⟩

end

/-- Settles O46: each row as its port's role, contract and swap in progress decide. -/
theorem pdContractRows : Obligations.PdContractRows := by
  refine ⟨fun s q hl hpd => ?contracts, fun s q hl hpd => ?swaps⟩
  case contracts =>
    have hrun (g : State → State) : s.runLive g = .next (s.after (g s)) := run_live g hl
    refine ⟨?request, ?start, ?settled, ?trimIdle, ?trim, fun pg mv => ⟨?fault, ?noFault⟩, fun ma mv => ⟨?idle, ?pps, ?fixed⟩,
      ?caps, ?exit, fun m => ⟨?entered, ?sinkIgnored, ?granted, ?failed, ?sourceIgnored⟩, ?kaRx, ?ppsSend, ?kaSend, ?kaTimeout⟩
    case request =>
      intro m hsrc
      rw [exec_requestRx, hrun]
      exact next_after s (requestRx_source hpd hsrc rfl rfl)
    case start =>
      intro y htrans hstart hat
      rw [exec_transitionStart, hrun, transStart_due htrans hstart hat]
    case settled =>
      intro y mv hsrc hwin htrans hstart
      rw [exec_vsetTrim, hrun, vsetTrim_settled hpd hsrc hwin htrans hstart rfl]
    case trimIdle =>
      intro mv h
      rw [exec_vsetTrim, hrun]
      rcases h with h | ⟨hwin, htrans⟩
      · rw [vsetTrim_off h]
      · rw [vsetTrim_idle hwin htrans]
    case trim =>
      intro mv hsrc hwin
      rw [exec_vsetTrim, hrun, vsetTrim_outside hpd hsrc hwin rfl]
    case fault =>
      rintro hsrc (rfl | hlate) <;> rw [exec_transitionTimeout, hrun]
      · exact next_after s (converterFault_lowPg hpd hsrc)
      · exact next_after s (converterFault_late hpd hsrc hlate)
    case noFault =>
      rintro (hoff | ⟨rfl, htime⟩) <;> rw [exec_transitionTimeout, hrun]
      · rw [converterFault_off hoff]
      · rw [converterFault_inTime htime]
    case idle =>
      intro h
      rw [exec_isnsSample, hrun, isnsSample_idle rfl h]
    case pps =>
      intro hlive hsrc hen hcon hkind
      refine ⟨fun h => ?_, fun h => ?_⟩ <;> rw [exec_isnsSample, hrun]
      · rw [isnsSample_pps_below rfl hlive hsrc hen hcon hkind h]
      · rw [isnsSample_pps_limit rfl hlive hsrc hen hcon hkind h rfl]
    case fixed =>
      intro hlive hsrc hen hcon hkind
      refine ⟨fun hover hwait => ?_, fun h => ?_, fun since hover hsince htrip => ?_⟩ <;> rw [exec_isnsSample, hrun]
      · rw [isnsSample_over_wait rfl hlive hsrc hen hcon hkind hover hwait]
      · rw [isnsSample_below rfl hlive hsrc hen hcon hkind h]
      · rw [isnsSample_over_trip rfl hlive hsrc hen hcon hkind hover (by rw [hsince]; exact htrip)]
    case caps =>
      intro m hsnk
      rw [exec_sourceCapabilitiesRx, hrun, capsRx_sink hpd hsnk rfl]
    case exit =>
      intro m hatt hact
      rw [exec_eprModeRx, hrun, eprModeRx_exit hpd hact hatt]
    case entered =>
      intro hsnk hact himg
      rw [exec_eprModeRx, hrun, eprModeRx_entered hpd hact hsnk himg]
    case sinkIgnored =>
      intro hsnk h5 h
      rw [exec_eprModeRx, hrun, eprModeRx_sink_ignored rfl hsnk h5 h]
    case granted =>
      intro hsrc hsnk hact hok
      rw [exec_eprModeRx, hrun, eprModeRx_granted hpd hact hsrc hsnk hok rfl]
    case failed =>
      intro hsrc hsnk hact hok
      rw [exec_eprModeRx, hrun, eprModeRx_failed hpd hact hsrc hsnk hok]
    case sourceIgnored =>
      intro hsrc hsnk h1 h5
      rw [exec_eprModeRx, hrun, eprModeRx_source_ignored rfl hsnk h1 h5]
    case kaRx =>
      intro hsrc hepr
      rw [exec_eprKeepaliveRx, hrun, keepAliveRx_source hpd hsrc hepr]
    case ppsSend =>
      intro hsnk hcon hkind hat
      rw [exec_ppsRequestSend, hrun, ppsRequest_due hpd hsnk hcon hkind hat]
    case kaSend =>
      intro hsnk hepr hat
      rw [exec_eprKeepaliveSend, hrun, keepAliveSend_due hpd hsnk hepr hat]
    case kaTimeout =>
      intro hsrc h
      rw [exec_keepaliveTimeout, hrun, keepAliveTimeout_due hpd hsrc h]
  case swaps =>
    have hrun (g : State → State) : s.runLive g = .next (s.after (g s)) := run_live g hl
    refine ⟨?unattached, fun hatt => ⟨?first, ?busy, ?yield⟩, swapVerdict_dataRole, ?ownSwap, ?ownRequest, ?noRequest, ?psRdySwap,
      ?psRdyRequest, ?frsIgnored, ?lossIgnored, ?frs, ?loss⟩
    case unattached =>
      intro hsrc hsnk
      exact exec_swapRx q s hl fun k => swapRx_unattached hsrc hsnk
    case first =>
      intro hswap
      exact exec_swapRx q s hl fun k => swapRx_first hpd hatt hswap rfl
    case busy =>
      intro w hswap h
      exact exec_swapRx q s hl fun k => swapRx_busy hpd hatt hswap h
    case yield =>
      intro w hswap hown htaken hsrc
      exact exec_swapRx q s hl fun k => swapRx_yield hpd hatt hswap hown htaken hsrc rfl rfl
    case ownSwap =>
      intro w hswap hown htaken
      have hans (ans : Nat) := answerRx_swap (ans := ans) hpd hswap hown htaken
      refine ⟨?_, ?_, fun h => ?_, fun h => ?_⟩ <;> rw [exec_acceptRx, hrun]
      · exact next_after s ((hans 0).trans (if_pos rfl))
      · exact next_after s ((hans 1).trans ((if_neg (by decide)).trans (if_neg (by simp))))
      · exact next_after s ((hans 2).trans ((if_neg (by decide)).trans (if_pos ⟨rfl, h⟩)))
      · exact next_after s ((hans 2).trans ((if_neg (by decide)).trans (if_neg fun hw => Nat.not_lt.mpr h hw.2)))
    case ownRequest =>
      intro a hswap hask htaken
      have hans (ans : Nat) := answerRx_request (ans := ans) hpd hswap hask htaken
      refine ⟨?_, ?_, fun h => ?_, fun h => ?_⟩ <;> rw [exec_acceptRx, hrun]
      · exact next_after s ((hans 0).trans (if_pos rfl))
      · exact next_after s ((hans 1).trans ((if_neg (by decide)).trans (if_neg (by simp))))
      · exact next_after s ((hans 2).trans ((if_neg (by decide)).trans (if_pos ⟨rfl, h⟩)))
      · exact next_after s ((hans 2).trans ((if_neg (by decide)).trans (if_neg fun hw => Nat.not_lt.mpr h hw.2)))
    case noRequest =>
      intro hswap hask
      refine ⟨?_, fun ans => ?_⟩
      · rw [exec_psRdyRx, hrun, psRdyRx_idle hswap hask]
      · rw [exec_acceptRx, hrun, answerRx_idle hswap hask]
    case psRdySwap =>
      intro w hswap htaken
      refine ⟨fun hk hsrc => ?_, fun hk hsrc => ?_, fun hk => ?_, fun hk => ?_⟩ <;>
        rw [exec_psRdyRx, hrun, psRdyRx_swap hpd hswap htaken, hk]
      · rw [if_pos rfl, if_pos hsrc]
      · rw [if_pos rfl, if_neg (by simp [hsrc])]
      · rw [if_neg (by decide), if_pos rfl]
      · rw [if_neg (by decide), if_neg (by decide), if_pos rfl]
    case psRdyRequest =>
      intro a hswap hask htaken
      rw [exec_psRdyRx, hrun, psRdyRx_request hpd hswap hask htaken rfl]
    case frsIgnored =>
      intro h
      rw [exec_frsSignalRx, hrun, frsRx_ignored h]
    case lossIgnored =>
      intro h
      rw [exec_frsSourceLoss, hrun, frsLoss_ignored h]
    case frs =>
      intro hon hsnk hdead
      rw [exec_frsSignalRx, hrun, frsRx_takes hon hsnk hdead]
    case loss =>
      intro hon hsrc hen
      rw [exec_frsSourceLoss, hrun, frsLoss_gives hon hsrc hen rfl]

end Sys2Proof.Machine

/-! The safety functions: their inputs, confirmations, tests and resumption, and what a trigger does. -/

namespace Sys2Proof.Machine

section
variable {s : State}

/-! ### Inputs and the tick (R457, R468, R469) -/

section
variable {j stamp : Nat} {level : Bool} {rest : List (Nat × Nat × Bool)}

theorem safetyInput_idle (h : s.sfRuns = false ∨ s.flag crucBase CRUC_STAT_RESYNC = true ∨ s.cruc.inputs = []) :
    s.safetyInput = s := by
  refine ite_eq_left_iff.mpr fun hgo => ?_
  rcases h with h | h | h
  · simp [h] at hgo
  · simp [h] at hgo
  · simp only [h]

theorem safetyInput_front (hruns : s.sfRuns = true) (hsync : s.flag crucBase CRUC_STAT_RESYNC = false)
    (hin : s.cruc.inputs = (j, stamp, level) :: rest) {t : State} (ht : s.withCruc (fun c => { c with inputs := rest }) = t) :
    s.safetyInput = if t.sfInputs.any fun k => bitsOf (t.sfInWord k) 0 8 == j && (t.sfInWord k).getLsbD 9 == level
      then t.sfTrigger 1 4 stamp else t := by
  subst ht
  simp only [State.safetyInput, hin]
  exact if_neg (by simp [hruns, hsync])

end

theorem safetyTick_ringLost (h : s.ringLost = true) : s.safetyTick = s.sfTrigger 0 2 s.crucNow := if_pos h

theorem safetyTick_lapsed (hring : s.ringLost = false) (h : s.hbLapsed = true) :
    s.safetyTick = s.sfTrigger 0 3 s.crucNow :=
  (if_neg (by simp [hring])).trans (if_pos h)

theorem safetyTick_quiet (hring : s.ringLost = false) (h : s.hbLapsed = false) : s.safetyTick = s :=
  (if_neg (by simp [hring])).trans (if_neg (by simp [h]))

/-! ### Confirmation (R467) -/

/-- A change of the Crucible that gives back the block as it was changes nothing. -/
theorem withCruc_of_eq {f : CrucBlock → CrucBlock} (h : f s.cruc = s.cruc) : s.withCruc f = s := by
  simp only [State.withCruc, h]

/-- The units confirm the holds in force. -/
def State.holdsConfirmed (s : State) : State :=
  s.withCruc fun c => { c with holds := c.holds.map fun h => (h.1, h.2.1, true) }

theorem holdsConfirmed_of_noHolds (h : s.cruc.holds = []) : s.holdsConfirmed = s := by
  apply withCruc_of_eq
  rw [h, List.map_nil, ← h]

section
variable {i : Nat}

theorem sfConfirm_idle (h : s.cruc.confirm.contains i = false ∨ s.sfRuns = false) : s.sfConfirm i = s :=
  if_pos (h.imp (fun h => by simpa using h) fun h => by simp [h])

section
variable (hin : s.cruc.confirm.contains i = true) (hruns : s.sfRuns = true) {t : State}
  (ht : s.withCruc (fun c => { c with confirm := c.confirm.filter (· != i) }) = t)
include hin hruns ht

/-- A confirmation that stands ends what the units confirm, and goes on by the function. -/
theorem sfConfirm_stands : s.sfConfirm i =
    if i = 2 then
      if t.holdsConfirmed.cruc.holds.isEmpty ∨ t.holdsConfirmed.flag (sfBase 2) SF_CTRL_SAFE then t.holdsConfirmed
      else (t.holdsConfirmed.set (sfBase 2) SF_CTRL_SAFE 1).evt crucBase CRUC_EVT 4
    else if !s.sfTriggered i then t
    else (((t.set (sfBase i) SF_CTRL_SAFE 1).evt crucBase CRUC_EVT 4).sfRecord i 2 t.crucNow).wake 0x0D03 i 0 0
      ((((t.set (sfBase i) SF_CTRL_SAFE 1).evt crucBase CRUC_EVT 4).sfRecord i 2 t.crucNow).sfCtrlBytes i) := by
  subst ht
  exact if_neg (by simp [hruns]; simpa using hin)

theorem sfConfirm_untriggered (hi : i < 2) (h : s.sfTriggered i = false) : s.sfConfirm i = t :=
  (sfConfirm_stands hin hruns ht).trans ((if_neg hi.ne).trans (if_pos (by simp [h])))

theorem sfConfirm_triggered (hi : i < 2) (h : s.sfTriggered i = true) {u : State}
    (hu : ((t.set (sfBase i) SF_CTRL_SAFE 1).evt crucBase CRUC_EVT 4).sfRecord i 2 t.crucNow = u) :
    s.sfConfirm i = u.wake 0x0D03 i 0 0 (u.sfCtrlBytes i) := by
  subst hu
  exact (sfConfirm_stands hin hruns ht).trans ((if_neg hi.ne).trans (if_neg (by simp [h])))

theorem sfConfirm_noHolds (hi : i = 2) (h : s.cruc.holds = []) : s.sfConfirm i = t := by
  have hholds : t.cruc.holds = [] := by subst ht; exact h
  rw [sfConfirm_stands hin hruns ht, if_pos hi, holdsConfirmed_of_noHolds hholds]
  exact if_pos (.inl (by simp [hholds]))

theorem sfConfirm_holds (hi : i = 2) (h : s.cruc.holds ≠ []) {u : State} (hu : t.holdsConfirmed = u) :
    s.sfConfirm i = if s.flag (sfBase 2) SF_CTRL_SAFE = true then u
      else (u.set (sfBase 2) SF_CTRL_SAFE 1).evt crucBase CRUC_EVT 4 := by
  have hsome : u.cruc.holds.isEmpty = false := by subst hu ht; simpa [State.holdsConfirmed, State.withCruc] using h
  have hsafe : u.flag (sfBase 2) SF_CTRL_SAFE = s.flag (sfBase 2) SF_CTRL_SAFE := by subst hu ht; rfl
  rw [sfConfirm_stands hin hruns ht, if_pos hi, hu, hsafe, hsome]
  simp only [Bool.false_eq_true, false_or]

end
end

/-! ### The tests of inputs and trips (R469, R470) -/

theorem testPulse_due (harm : s.sfArmed 1 = true) (hruns : s.sfRuns = true) (htest : s.sfTested ≠ [])
    (hpulse : s.cruc.pulse = none) (hat : s.cruc.pulseAt + 1000 * s.get (sfBase 1) SF_PARAM0_LOW ≤ s.uptime) :
    s.testPulse = s.withCruc fun c => { c with pulse := some s.uptime, pulseAt := s.uptime } :=
  if_neg (by simp [harm, hruns, htest, hpulse, hat])

theorem testPulse_idle (h : s.sfArmed 1 = false ∨ s.sfRuns = false ∨ s.sfTested = [] ∨ s.cruc.pulse.isSome = true
    ∨ s.uptime < s.cruc.pulseAt + 1000 * s.get (sfBase 1) SF_PARAM0_LOW) : s.testPulse = s :=
  if_pos (by simpa using h)

theorem testCheck_idle (h : ∀ at_, s.cruc.pulse = some at_ → s.sfArmed 1 = false ∨ s.sfRuns = false
    ∨ s.uptime < at_ + 1000 * s.get (sfBase 1) SF_PARAM0_HIGH) : s.testCheck = s := by
  simp only [State.testCheck]
  split
  · rename_i at_ hpulse
    exact if_pos (by simpa using h at_ hpulse)
  · rfl

theorem testCheck_due {at_ : Nat} (hpulse : s.cruc.pulse = some at_) (harm : s.sfArmed 1 = true) (hruns : s.sfRuns = true)
    (hat : at_ + 1000 * s.get (sfBase 1) SF_PARAM0_HIGH ≤ s.uptime) :
    s.testCheck = (s.each s.sfTested fun s k => s.testJudge k).withCruc fun c => { c with pulse := none } := by
  simp only [State.testCheck, hpulse]
  exact if_neg (by simp [harm, hruns, hat])

section
variable {c cmp : Nat} {fail : Bool}

theorem tripTest_ignored (h : s.nPch ≤ c ∨ s.fenced (.pedie (c / 32)) = true) : s.tripTest c cmp fail = s := if_pos h

section
variable (hc : c < s.nPch) (hf : s.fenced (.pedie (c / 32)) = false)
include hc hf

theorem tripTest_passed : s.tripTest c cmp false
    = s.withCruc fun x => { x with tripBad := x.tripBad.filter (· != 2 * c + cmp) } :=
  (if_neg (by simp [hc, hf])).trans (if_pos rfl)

theorem tripTest_known (h : s.cruc.tripBad.contains (2 * c + cmp) = true) : s.tripTest c cmp true = s :=
  (if_neg (by simp [hc, hf])).trans ((if_neg (by simp)).trans (if_pos h))

theorem tripTest_failed (h : s.cruc.tripBad.contains (2 * c + cmp) = false) :
    s.tripTest c cmp true = (s.withCruc fun x => { x with tripBad := x.tripBad ++ [2 * c + cmp] }).raise .pedieTripTest
      (srcPch c) 0 (leBytes 1 cmp) :=
  (if_neg (by simp [hc, hf])).trans ((if_neg (by simp)).trans (if_neg (Bool.eq_false_iff.mp h)))

end
end

/-! ### Resumption (R473) -/

theorem safetyResume_running (h : s.cruc.paused = false) : s.safetyResume = s := if_pos (by simp [h])

/-- A kept copy is written back. -/
def copyBack (t : State) (c : LineCopy) : State :=
  let u := ((t.wr (lineBase c.line) c.lcfg).wr (lineBase c.line + 4) c.lfilt).wr (lineBase c.line + 8) c.lcmp
  (u.setLatch c.line c.latch).lineWritten c.line (t.lineMode c.line)

theorem safetyResume_paused (hheld : s.inHeld = false) (h : s.cruc.paused = true) {t₀ t₁ t₂ t₃ t₄ : State}
    (h₀ : s.withCruc (fun c => { c with paused := false, later := [], waits := [], pulse := none, pulseAt := s.uptime }) = t₀)
    (h₁ : s.cruc.copies.foldl copyBack t₀ = t₁)
    (h₂ : (if t₁.sfDemands then t₁.sfTrigger 1 4 t₁.crucNow else t₁) = t₂)
    (h₃ : (if t₂.sfBankDown then t₂.sfTrigger 1 6 t₂.crucNow else t₂) = t₃)
    (h₄ : (if t₃.singleLane then (t₃.sfTrigger 0 7 t₃.crucNow).sfTrigger 1 7 t₃.crucNow else t₃) = t₄) :
    s.safetyResume = t₄.actOn s.cruc.waits s.cruc.later := by
  subst h₀ h₁ h₂ h₃ h₄
  exact if_neg (by simp [hheld, h])

/-! ### A trigger (R467, R459) -/

section
variable {i cause stamp : Nat}

theorem sfTrigger_ignored (h : s.sfArmed i = false ∨ s.sfTriggered i = true ∨ s.sfRuns = false) :
    s.sfTrigger i cause stamp = s :=
  if_pos (.inr (by simpa using h))

section
variable (hi : i < 2) (harm : s.sfArmed i = true) (htrig : s.sfTriggered i = false) (hruns : s.sfRuns = true)
include hi harm htrig hruns

theorem sfTrigger_waits (h : s.votesWait = true) :
    s.sfTrigger i cause stamp = s.withCruc fun c => { c with waits := c.waits ++ [(i, cause, stamp)] } :=
  (if_neg (by simp [harm, htrig, hruns]; exact Nat.le_of_lt_succ hi)).trans (if_pos h)

theorem sfTrigger_takes (h : s.votesWait = false) {t₁ t₂ t₃ t₄ : State}
    (h₁ : ((s.set (sfBase i) SF_CTRL_TRIGGERED 1).set (sfBase i) SF_CTRL_SAFE 0).set (sfBase i) SF_CTRL_CAUSE cause = t₁)
    (h₂ : (t₁.bump crucBase (if i = 0 then SF_TRIGGERS_E else SF_TRIGGERS_A)).evt crucBase CRUC_EVT 3 = t₂)
    (h₃ : (t₂.withCruc fun c => { c with confirm := c.confirm ++ [i] }).linesDrop (s.sfOutLines i) = t₃)
    (h₄ : (t₃.each ((s.sfChannels i).filter fun c => decide (c < s.nPch)) fun s c => s.pchFollow c 1) = t₄) :
    s.sfTrigger i cause stamp = t₄.sfRecord i 1 stamp := by
  subst h₁ h₂ h₃ h₄
  exact (if_neg (by simp [harm, htrig, hruns]; exact Nat.le_of_lt_succ hi)).trans (if_neg (by simp [h]))

end
end
end

/-! ### The rows -/

section
variable (s : State)

theorem exec_safetyInput : exec .safetyInput s = s.runLive State.safetyInput := rfl
theorem exec_safetyTick : exec .safetyTick s = s.runLive State.safetyTick := rfl
theorem exec_safeConfirm (sf : Fin 3) : exec (.safeConfirm sf) s = s.runLive fun s => s.sfConfirm sf.val := rfl
theorem exec_inputTestPulse : exec .inputTestPulse s = s.runLive State.testPulse := rfl
theorem exec_inputTestCheck : exec .inputTestCheck s = s.runLive State.testCheck := rfl
theorem exec_tripTest (c : Fin 64) (cmp : Fin 2) (fail : Bool) : exec (.tripTest c cmp fail) s
    = s.runLive fun s => if (s.die (c.val / 32)).powered then s.tripTest c.val cmp.val fail else s := rfl
theorem exec_safetyResume : exec .safetyResume s = s.runLive State.safetyResume := rfl

end

/-- Settles O47: each row as the functions' arming, pulse and pause decide; a trigger by the function's state. -/
theorem safetyRows : Obligations.SafetyRows := by
  refine ⟨fun s hl => ?rows, fun s i cause stamp hi => ⟨?ignored, ?waits, ?takes⟩⟩
  case rows =>
    have hrun (g : State → State) : s.runLive g = .next (s.after (g s)) := run_live g hl
    refine ⟨?input, ?noInput, ?ringLost, ?lapsed, ?quiet, fun sf => ⟨?noConfirm, ?confirm⟩, ?pulse, ?noPulse, ?noCheck, ?check,
      ?noTest, ?test, ?running, ?paused⟩
    case input =>
      intro j stamp level rest hruns hsync hin
      rw [exec_safetyInput, hrun, safetyInput_front hruns hsync hin rfl]
    case noInput =>
      intro h
      rw [exec_safetyInput, hrun, safetyInput_idle h]
    case ringLost =>
      intro h
      rw [exec_safetyTick, hrun, safetyTick_ringLost h]
    case lapsed =>
      intro hring h
      rw [exec_safetyTick, hrun, safetyTick_lapsed hring h]
    case quiet =>
      intro hring h
      rw [exec_safetyTick, hrun, safetyTick_quiet hring h]
    case noConfirm =>
      intro h
      rw [exec_safeConfirm, hrun, sfConfirm_idle h]
    case confirm =>
      intro hin hruns
      refine ⟨fun hi h => ?_, fun hi h => ?_, fun hi h => ?_, fun hi h => ?_⟩ <;> rw [exec_safeConfirm, hrun]
      · rw [sfConfirm_untriggered hin hruns rfl hi h]
      · rw [sfConfirm_triggered hin hruns rfl hi h rfl]
      · rw [sfConfirm_noHolds hin hruns rfl hi h]
      · exact next_after s (sfConfirm_holds hin hruns rfl hi h rfl)
    case pulse =>
      intro harm hruns htest hpulse hat
      rw [exec_inputTestPulse, hrun, testPulse_due harm hruns htest hpulse hat]
    case noPulse =>
      intro h
      rw [exec_inputTestPulse, hrun, testPulse_idle h]
    case noCheck =>
      intro h
      rw [exec_inputTestCheck, hrun, testCheck_idle h]
    case check =>
      intro at_ hpulse harm hruns hat
      rw [exec_inputTestCheck, hrun, testCheck_due hpulse harm hruns hat]
    case noTest =>
      intro c cmp bad h
      rw [exec_tripTest, hrun]
      refine next_after s (ite_eq_right_iff.mpr fun hp => ?_)
      exact tripTest_ignored (h.resolve_left (by simp [hp]))
    case test =>
      intro c cmp hp hc hf
      refine ⟨fun h => ?_, fun h => ?_, ?_⟩ <;> rw [exec_tripTest, hrun, if_pos hp]
      · rw [tripTest_known hc hf h]
      · rw [tripTest_failed hc hf h]
      · rw [tripTest_passed hc hf]
    case running =>
      intro h
      rw [exec_safetyResume, hrun, safetyResume_running h]
    case paused =>
      intro h
      rw [exec_safetyResume, hrun]
      exact next_after s (safetyResume_paused hl.2 h rfl rfl rfl rfl rfl)
  case ignored => exact sfTrigger_ignored
  case waits => exact sfTrigger_waits hi
  case takes =>
    intro harm htrig hruns hwait
    exact sfTrigger_takes hi harm htrig hruns hwait rfl rfl rfl rfl

end Sys2Proof.Machine

/-! The Crucible's lanes: the vote, the Assays and a lane that is loaded. -/

namespace Sys2Proof.Machine

section
variable {s : State}

/-! ### The vote (R458, R462, Table 17.1) -/

section
variable {t : LaneWords} (hheld : s.inHeld = false)
include hheld

theorem vote_three (h : s.lanes = [0, 1, 2]) : s.vote t =
    if t.w0 = t.w1 ∧ t.w1 = t.w2 then s.issue t.w0
    else if t.w0 = t.w1 then s.dissent 2 t.w0
    else if t.w0 = t.w2 then s.dissent 1 t.w0
    else if t.w1 = t.w2 then s.dissent 0 t.w1
    else s.raise .crucNoMajority (srcIsland 3) 0 [] := by
  simp only [State.vote, h]
  exact if_neg (by simp [hheld])

theorem vote_two {a b : Nat} (h : s.lanes = [a, b]) : s.vote t =
    if laneWord t a = laneWord t b then s.issue (laneWord t a) else s.dualDiffer a (laneWord t a) b (laneWord t b) := by
  simp only [State.vote, h]
  exact if_neg (by simp [hheld])

theorem vote_one {a : Nat} (h : s.lanes = [a]) : s.vote t = s.issue (laneWord t a) := by
  simp only [State.vote, h]
  exact if_neg (by simp [hheld])

theorem vote_none (h : s.lanes = []) : s.vote t = s := by
  simp only [State.vote, h]
  exact if_neg (by simp [hheld])

end

theorem voteHoldEnd_idle (h : s.cruc.holdAt = none) : s.voteHoldEnd = s := by simp only [State.voteHoldEnd, h]

theorem voteHoldEnd_held {at_ : Nat} (h : s.cruc.holdAt = some at_) :
    s.voteHoldEnd = ((s.set crucBase CRUC_HOLD_LAST_CYCLES (min 64 ((s.uptime - at_) * 2 / 5))).withCruc fun c =>
      { c with holdAt := none }).issueHeld := by
  simp only [State.voteHoldEnd, h]

/-! ### The background Assay (R461) -/

section
variable {l cls : Nat} {last : Bool}

theorem assaySlice_ignored (h : s.inControl l = false ∨ s.votesWait = true) : s.assaySlice l cls last = s :=
  if_pos (.inr (h.imp (by simp [·]) id))

section
variable (hheld : s.inHeld = false) (hctl : s.inControl l = true) (hwait : s.votesWait = false)
include hheld hctl hwait

theorem assaySlice_cycle : s.assaySlice l 0 true =
    (((s.set (assayBase l) CRUC_ASSAY_PASS 1).set (assayBase l) CRUC_ASSAY_VALID 1).set (assayBase l)
      CRUC_ASSAY_FAIL_CLASS 0).set (assayBase l) CRUC_ASSAY_CYCLES (s.get (assayBase l) CRUC_ASSAY_CYCLES + 1) :=
  (if_neg (by simp [hheld, hctl, hwait])).trans ((if_pos rfl).trans (if_pos rfl))

theorem assaySlice_part : s.assaySlice l 0 false = s :=
  (if_neg (by simp [hheld, hctl, hwait])).trans ((if_pos rfl).trans (if_neg (by decide)))

section
variable (hcls : cls ≠ 0)
include hcls

theorem assaySlice_failed_two {x y : Nat} (h : s.lanes = [x, y]) :
    s.assaySlice l cls last = s.dualDiffer x none y none := by
  simp only [State.assaySlice, h]
  exact (if_neg (by simp [hheld, hctl, hwait])).trans (if_neg hcls)

variable {t : State} (ht : (((s.set (assayBase l) CRUC_ASSAY_PASS 0).set (assayBase l) CRUC_ASSAY_FAIL_CLASS cls).bump crucBase
  CRUC_ASSAY_FAILS).evt crucBase CRUC_EVT 2 = t)
include ht

theorem assaySlice_failed_one {x : Nat} (h : s.lanes = [x]) :
    s.assaySlice l cls last = t.raise .crucNoLane (srcIsland 3) 0 (leBytes 1 (classMask [cls])) := by
  subst ht
  simp only [State.assaySlice, h]
  exact (if_neg (by simp [hheld, hctl, hwait])).trans (if_neg hcls)

theorem assaySlice_failed_three {x y z : Nat} (h : s.lanes = [x, y, z]) :
    s.assaySlice l cls last = (t.dissentHold l).raise .crucAssayFail (srcLane l) 0 (leBytes 1 cls) := by
  subst ht
  simp only [State.assaySlice, h]
  exact (if_neg (by simp [hheld, hctl, hwait])).trans (if_neg hcls)

end
end
end

/-! ### The foreground Assays of a disagreement (R462, Table 17.4) -/

section
variable {cls : Nat → Nat} {a b : Nat} {wa wb : Option LaneWord}

theorem dualDone_idle (h : s.cruc.dual = none) : s.dualDone cls = s := by simp only [State.dualDone, h]

section
variable (hheld : s.inHeld = false) (h : s.cruc.dual = some (a, wa, b, wb)) {t : State}
  (ht : (((s.set crucBase CRUC_STAT_ASSAY_HOLD 0).withCruc fun c => { c with dual := none }).assayResult a (cls a)).assayResult b
    (cls b) = t)
include hheld h ht

theorem dualDone_ended : s.dualDone cls =
    if cls a = 0 ∧ cls b = 0 then t.raise .crucDualUnresolved (srcIsland 3) 0 []
    else if cls a ≠ 0 ∧ cls b ≠ 0 then t.raise .crucNoLane (srcIsland 3) 0 (leBytes 1 (classMask [cls a, cls b]))
    else if cls a ≠ 0 then ((t.raise .crucAssayFail (srcLane a) 0 (leBytes 1 (cls a))).issue wb).issueHeld
    else ((t.raise .crucAssayFail (srcLane b) 0 (leBytes 1 (cls b))).issue wa).issueHeld := by
  subst ht
  simp only [State.dualDone, h]
  exact if_neg (by simp [hheld])

theorem dualDone_unresolved (ha : cls a = 0) (hb : cls b = 0) :
    s.dualDone cls = t.raise .crucDualUnresolved (srcIsland 3) 0 [] :=
  (dualDone_ended hheld h ht).trans (if_pos ⟨ha, hb⟩)

theorem dualDone_noLane (ha : cls a ≠ 0) (hb : cls b ≠ 0) :
    s.dualDone cls = t.raise .crucNoLane (srcIsland 3) 0 (leBytes 1 (classMask [cls a, cls b])) :=
  (dualDone_ended hheld h ht).trans ((if_neg fun h => ha h.1).trans (if_pos ⟨ha, hb⟩))

theorem dualDone_first (ha : cls a ≠ 0) (hb : cls b = 0) :
    s.dualDone cls = ((t.raise .crucAssayFail (srcLane a) 0 (leBytes 1 (cls a))).issue wb).issueHeld :=
  (dualDone_ended hheld h ht).trans ((if_neg fun h => ha h.1).trans ((if_neg fun h => h.2 hb).trans (if_pos ha)))

theorem dualDone_second (ha : cls a = 0) (hb : cls b ≠ 0) :
    s.dualDone cls = ((t.raise .crucAssayFail (srcLane b) 0 (leBytes 1 (cls b))).issue wa).issueHeld :=
  (dualDone_ended hheld h ht).trans
    ((if_neg fun h => hb h.2).trans ((if_neg fun h => h.1 ha).trans (if_neg (not_not.mpr ha))))

end
end

/-! ### A lane that is loaded (R464) -/

section
variable {l : Nat}

theorem resyncDone_ignored (h : s.cruc.resync ≠ some l) : s.resyncDone l = s := if_pos (.inl h)

theorem resyncDone_joins (hheld : s.inHeld = false) (h : s.cruc.resync = some l) {t₁ t₂ t₃ : State}
    (h₁ : (s.set crucBase CRUC_STAT_RESYNC 0).withCruc (fun c => { c with resync := none }) = t₁)
    (h₂ : (t₁.setFence (.lane l) false).set crucBase CRUC_STAT_LANES (setBit (t₁.get crucBase CRUC_STAT_LANES) l true) = t₂)
    (h₃ : ((t₂.laneMode).bump crucBase CRUC_REJOINS).fenceMarker (.lane l) true = t₃) :
    s.resyncDone l = t₃.issueHeld.wake 0x0D04 l 0 0 (leBytes 4 1) := by
  subst h₁ h₂ h₃
  exact if_neg (by simp [hheld, h])

end
end

/-! ### The rows -/

section
variable (s : State) (l : Fin 3)

theorem exec_outputTransaction (t : LaneWords) : exec (.outputTransaction t) s = s.runLive fun s => s.vote t := rfl
theorem exec_voteHoldEnd : exec .voteHoldEnd s = s.runLive State.voteHoldEnd := rfl
theorem exec_assaySlice (cls : Fin 7) (last : Bool) :
    exec (.assaySlice l cls last) s = s.runLive fun s => s.assaySlice l.val cls.val last := rfl
theorem exec_dualAssayDone (c0 c1 c2 : Fin 7) :
    exec (.dualAssayDone c0 c1 c2) s = s.runLive fun s => s.dualDone (laneClasses c0 c1 c2) := rfl
theorem exec_laneResyncDone : exec (.laneResyncDone l) s = s.runLive fun s => s.resyncDone l.val := rfl

end

/-- Settles O48: each row as the lanes in control, their words and their Assays decide. -/
theorem laneRows : Obligations.LaneRows := by
  intro s hl
  have hheld : s.inHeld = false := hl.2
  have hrun (g : State → State) : s.runLive g = .next (s.after (g s)) := run_live g hl
  refine ⟨?three, ?two, ?one, ?none, ?noHold, ?noSlice, ?noResync, ?noDual, ?hold, fun l hctl hwait => ?slice,
    fun c0 c1 c2 a b wa wb hdual => ?dual, ?resync⟩
  case three =>
    intro t h
    refine ⟨fun h01 h12 => ?_, fun h01 h12 => ?_, fun h01 h02 => ?_, fun h01 h02 h12 => ?_, fun h01 h02 h12 => ?_⟩ <;>
      rw [exec_outputTransaction, hrun, vote_three hheld h]
    · rw [if_pos ⟨h01, h12⟩]
    · rw [if_neg fun h => h12 h.2, if_pos h01]
    · rw [if_neg fun h => h01 h.1, if_neg h01, if_pos h02]
    · rw [if_neg fun h => h01 h.1, if_neg h01, if_neg h02, if_pos h12]
    · rw [if_neg fun h => h01 h.1, if_neg h01, if_neg h02, if_neg h12]
  case two =>
    intro t a b h
    rw [exec_outputTransaction, hrun, vote_two hheld h]
  case one =>
    intro t a h
    rw [exec_outputTransaction, hrun, vote_one hheld h]
  case none =>
    intro t h
    rw [exec_outputTransaction, hrun, vote_none hheld h]
  case noHold =>
    intro h
    rw [exec_voteHoldEnd, hrun, voteHoldEnd_idle h]
  case noSlice =>
    intro l cls last h
    rw [exec_assaySlice, hrun, assaySlice_ignored h]
  case noResync =>
    intro l h
    rw [exec_laneResyncDone, hrun, resyncDone_ignored h]
  case noDual =>
    intro c0 c1 c2 h
    rw [exec_dualAssayDone, hrun, dualDone_idle h]
  case hold =>
    intro at_ h
    rw [exec_voteHoldEnd, hrun, voteHoldEnd_held h]
  case slice =>
    refine ⟨?_, ?_, fun cls last x y hcls h => ?_, fun cls last x hcls h => ?_, fun cls last hcls h => ?_⟩ <;>
      rw [exec_assaySlice, hrun]
    · exact next_after s (assaySlice_cycle hheld hctl hwait)
    · exact next_after s (assaySlice_part hheld hctl hwait)
    · exact next_after s (assaySlice_failed_two hheld hctl hwait (Fin.val_ne_zero_iff.mpr hcls) h)
    · exact next_after s (assaySlice_failed_one hheld hctl hwait (Fin.val_ne_zero_iff.mpr hcls) rfl h)
    · exact next_after s (assaySlice_failed_three hheld hctl hwait (Fin.val_ne_zero_iff.mpr hcls) rfl h)
  case dual =>
    refine ⟨fun ha hb => ?_, fun ha hb => ?_, fun ha hb => ?_, fun ha hb => ?_⟩ <;> rw [exec_dualAssayDone, hrun]
    · rw [dualDone_unresolved hheld hdual rfl ha hb]
    · rw [dualDone_first hheld hdual rfl ha hb]
    · rw [dualDone_second hheld hdual rfl ha hb]
    · rw [dualDone_noLane hheld hdual rfl ha hb]
  case resync =>
    intro l h
    rw [exec_laneResyncDone, hrun, resyncDone_joins hheld h rfl rfl rfl]

end Sys2Proof.Machine

/-! Fault collection: a record that finds the notice queue full, injection, and the islands' watchdogs. -/

namespace Sys2Proof.Machine

/-! ### A full notice queue (R489) -/

/-- The notices, the count of those discarded and the store are in `t` as they were in `s`. -/
structure State.QueueKept (s t : State) : Prop where
  notices : t.fault.notices = s.fault.notices
  qovf : t.get faultBase FAULT_QOVF = s.get faultBase FAULT_QOVF
  mem : t.mem = s.mem

section
variable {s t : State}

theorem State.QueueKept.refl (s : State) : s.QueueKept s := ⟨rfl, rfl, rfl⟩

/-- A write of a register word other than FAULT_QOVF keeps the queue. -/
theorem State.QueueKept.wr (h : s.QueueKept t) {a : Nat} (ha : a ≠ 0x70004C) (w : Word) : s.QueueKept (t.wr a w) where
  notices := h.notices
  qovf := (congrArg (bitsOf · 0 32) (rd_wr_other _ _ (Ne.symm ha))).trans h.qovf
  mem := h.mem

theorem State.QueueKept.set (h : s.QueueKept t) {f : Fld} (hf : f.off ≠ 0x4C) (v : Nat) : s.QueueKept (t.set faultBase f v) :=
  h.wr (by unfold faultBase; omega) _

theorem State.QueueKept.evt (h : s.QueueKept t) (n : Nat) : s.QueueKept (t.evt faultBase FAULT_EVT n) := h.wr (by decide) _

/-- The counters of the FAULT block have their common event in FAULT_EVT. -/
theorem halfBit_fault {off : Nat} (ho : off < 0x80000) : halfBit (faultBase + off) = some (0x700024, 6) := by
  unfold halfBit faultBase
  rw [if_neg (by omega), if_neg (by omega), if_neg (by omega), if_neg (by omega), if_neg (by omega), if_neg (by omega),
    if_neg (by omega), if_neg (by omega), if_neg (by omega), if_neg (by omega), if_neg (by omega), if_neg (by omega),
    if_neg (by omega), if_neg (by omega), if_neg (by omega), if_neg (by omega), if_neg (by omega), if_neg (by omega),
    if_neg (by omega), if_neg (by omega), if_pos (by omega)]

theorem State.QueueKept.bump (h : s.QueueKept t) {f : Fld} (hf : f.off ≠ 0x4C) (ho : f.off < 0x80000) :
    s.QueueKept (t.bump faultBase f) := by
  have hcount := h.wr (a := faultBase + f.off) (by unfold faultBase; omega) (BitVec.ofNat 32 ((t.rd (faultBase + f.off)).toNat + 1))
  simp only [State.bump, State.bumpAt, halfBit_fault ho]
  split
  · exact hcount.wr (by decide) _
  · exact hcount

@[simp] theorem bumpAt_fault (a k : Nat) : (s.bumpAt a k).fault = s.fault := by
  unfold State.bumpAt
  dsimp only
  split
  · split <;> rfl
  · rfl

@[simp] theorem bumpAt_mem (a k : Nat) : (s.bumpAt a k).mem = s.mem := by
  unfold State.bumpAt
  dsimp only
  split
  · split <;> rfl
  · rfl

theorem get_bump_qovf : (s.bump faultBase FAULT_QOVF).get faultBase FAULT_QOVF = (s.get faultBase FAULT_QOVF + 1) % 2 ^ 32 :=
  get_bump_whole fun e b he => by
    rw [halfBit_fault (by decide)] at he
    cases he
    decide

/-- The bytes loaded depend on the store alone. -/
theorem load_of_mem_eq (h : t.mem = s.mem) (a n : Nat) : t.load a n = s.load a n := by
  induction n generalizing a with
  | zero => rfl
  | succ n ih => simp only [State.load, ih, State.byteAt, h]

theorem faultRecord_length (head addr stamp seq : Nat) (detail : List Byte) :
    (faultRecord head addr stamp seq detail).length = 32 := by
  simp [faultRecord, stampBytes, leBytes_length]

end

section
variable {s : State} {r : Raised}

/-- The record of a fault as the collector forms it. -/
def State.recordOf (s : State) (r : Raised) : List Byte :=
  faultRecord (faultHead r.cls r.kind r.source r.forced s.fault.loss r.suspect false) r.addr r.stamp
    (s.get faultBase FAULT_SEQ_NEXT) r.detail

/-- The state in which a record is logged, numbered and counted. -/
def State.recNumbered (s : State) (r : Raised) : State :=
  let t := s.store (s.faultLogAt (s.get faultBase FAULT_LOG_POS_INDEX)) (s.recordOf r)
  let t := if s.fault.logFull then t.bump faultBase FAULT_LOG_OVWR else t
  let t := t.set faultBase FAULT_LOG_POS_INDEX (s.get faultBase FAULT_LOG_POS_INDEX + 1)
  (t.set faultBase FAULT_SEQ_NEXT (s.get faultBase FAULT_SEQ_NEXT + 1)).countClass r.cls

/-- The fault block replaced. -/
def State.withFault (s : State) (f : FaultBlock) : State := { s with fault := f }

/-- The events of a record's class. -/
def State.classShown (s : State) : FaultClass → State
  | .degrade => (s.evt faultBase FAULT_EVT 0).evt faultBase FAULT_EVT 1
  | .safety => (s.evt faultBase FAULT_EVT 0).evt faultBase FAULT_EVT 2
  | _ => s

theorem State.QueueKept.countClass {t : State} (h : s.QueueKept t) (c : FaultClass) : s.QueueKept (t.countClass c) := by
  cases c with
  | note => exact h.bump (by decide) (by decide)
  | degrade => exact h.bump (by decide) (by decide)
  | safety => exact h.bump (by decide) (by decide)
  | fatal => exact h

theorem withFault_fault (f : FaultBlock) : (s.withFault f).fault = f := rfl

theorem classShown_fault (c : FaultClass) : (s.classShown c).fault = s.fault := by
  cases c <;> rfl

theorem State.QueueKept.withFault {t : State} (h : s.QueueKept t) {f : FaultBlock} (hf : f.notices = s.fault.notices) :
    s.QueueKept (t.withFault f) := ⟨hf, h.qovf, h.mem⟩

theorem State.QueueKept.classShown {t : State} (h : s.QueueKept t) (c : FaultClass) : s.QueueKept (t.classShown c) := by
  cases c with
  | note => exact h
  | degrade => exact (h.evt 0).evt 1
  | safety => exact (h.evt 0).evt 2
  | fatal => exact h

theorem recNumbered_kept :
    (s.store (s.faultLogAt (s.get faultBase FAULT_LOG_POS_INDEX)) (s.recordOf r)).QueueKept (s.recNumbered r) := by
  refine State.QueueKept.countClass (.set (.set ?_ (by decide) _) (by decide) _) _
  split
  · exact (State.QueueKept.refl _).bump (by decide) (by decide)
  · exact .refl _

/-- A record that finds the notice queue full is counted as discarded and shown so, its class's events and the collector's own
notes apart. -/
theorem collect_full (hlen : s.fault.notices.length = 128) (hnote : r.cls = .note → s.get faultBase FAULT_CTRL_NOTE_Q ≠ 0) :
    ∃ f : FaultBlock, f.notices = s.fault.notices ∧
      s.collect r = ((((s.recNumbered r).withFault f).classShown r.cls).bump faultBase FAULT_QOVF).evt faultBase FAULT_EVT 3 := by
  have hkept : (s.recNumbered r).fault.notices = s.fault.notices := recNumbered_kept.notices
  have hfull : ¬ (s.recNumbered r).fault.notices.length < 128 := by rw [hkept, hlen]; decide
  refine ⟨_, ?_, (if_neg fun h => hnote h.1 h.2).trans (if_neg ?_)⟩
  · exact hkept
  · change ¬ (((s.recNumbered r).withFault _).classShown r.cls).fault.notices.length < 128
    rw [classShown_fault, withFault_fault]
    exact hfull

end

/-- Settles O11: all that the collector does before the queue's turn keeps the queue and its count. -/
theorem noticeOverflow : Obligations.NoticeOverflow := by
  intro s r hlen hnote t i head
  obtain ⟨f, hf, ht⟩ := collect_full hlen hnote
  have hlogged : (s.store (s.faultLogAt i) (s.recordOf r)).QueueKept (((s.recNumbered r).withFault f).classShown r.cls) :=
    (recNumbered_kept.withFault hf).classShown _
  refine ⟨?notices, ?count, ?event, ?record⟩
  case notices =>
    rw [show t = _ from ht, evt_fault, State.bump, bumpAt_fault]
    exact hlogged.notices
  case count =>
    rw [show t = _ from ht, get_evt_word (by decide), get_bump_qovf, hlogged.qovf]
    rfl
  case event =>
    rw [show t = _ from ht]
    exact testBit_evt (by decide) (by decide)
  case record =>
    have hmem : t.mem = (s.store (s.faultLogAt i) (s.recordOf r)).mem := by
      rw [show t = _ from ht, evt_mem, State.bump, bumpAt_mem]
      exact hlogged.mem
    have hstored := load_store_same s (s.faultLogAt i) (s.recordOf r)
    rw [State.recordOf, faultRecord_length] at hstored
    exact (load_of_mem_eq hmem _ _).trans hstored

end Sys2Proof.Machine

/-! The fault rows: collection, the injection registers, and the islands' watchdogs. -/

namespace Sys2Proof.Machine

section
variable {s : State}

/-! ### Collection and injection (R485, R496) -/

section
variable {r : Raised} (h : firstRaised (s.fault.latches ++ s.fault.intake) = some r) {t : State}
  (ht : { s with fault := { s.fault with latches := s.fault.latches.erase r, intake := s.fault.intake.erase r } } = t)
include h ht

theorem collectNext_first : s.collectNext = t.collect r := by
  subst ht
  simp only [State.collectNext, h]

theorem collectWake_own (hf : r.forced = false) : s.collectWake = t.collect r := by
  simp only [State.collectWake, h, hf]
  exact collectNext_first h ht

theorem collectWake_forced (hf : r.forced = true) :
    s.collectWake = (t.collect r).wake 0x0E02 0 0 0 (leBytes 2 (s.get faultBase FAULT_SEQ_NEXT) ++ leBytes 2 0) := by
  simp only [State.collectWake, h, hf, if_true]
  rw [collectNext_first h ht]

end

theorem collectWake_idle (h : firstRaised (s.fault.latches ++ s.fault.intake) = none) : s.collectWake = s := by
  simp only [State.collectWake, h]

theorem faultForce_eq (w : Word) {t : State} (ht : { s with fault := { s.fault with keyOpen := false } } = t) :
    s.faultForce w = if s.fault.keyOpen = true ∧ w.getLsbD 31 = true ∧ t.injectCheck (bitsOf w 0 8) (bitsOf w 8 12) = 0
      then t.inject (bitsOf w 0 8) (bitsOf w 8 12) 0 else t := by
  subst ht
  simp only [State.faultForce]
  rw [← ite_not]
  simp only [not_or, Bool.not_eq_true', Bool.not_eq_false, ne_eq, not_not]

theorem regWrite_faultForceKey (w : Word) : s.regWrite 2 (faultBase + 0x100) w
    = { s with fault := { s.fault with keyOpen := bitsOf w 0 8 == 0xA5 } } :=
  regWrite_applies (by decide) rfl rfl (.inl (by decide)) (.inr (le_refl 2))

theorem regWrite_faultForce (w : Word) : s.regWrite 2 (faultBase + 0x104) w = s.faultForce w :=
  regWrite_applies (by decide) rfl rfl (.inl (by decide)) (.inr (le_refl 2))

theorem bitsOf_setWidth_byte (key : BitVec 8) : bitsOf (key.setWidth 32) 0 8 = key.toNat := by
  rw [bitsOf, BitVec.extractLsb'_toNat, BitVec.toNat_setWidth, Nat.shiftRight_zero, Nat.mod_mod_of_dvd _ (by decide)]
  exact Nat.mod_eq_of_lt key.isLt

/-- The key opens for 0xA5 alone. -/
theorem keyOpens_iff (key : BitVec 8) : (bitsOf (key.setWidth 32) 0 8 == 0xA5) = (key == 0xA5#8) := by
  rw [bitsOf_setWidth_byte, Bool.eq_iff_iff, beq_iff_eq, beq_iff_eq]
  exact BitVec.toNat_inj (y := 0xA5#8)

/-! ### The islands' watchdogs (R491) -/

section
variable {i cause : Nat}

theorem islandHang_raises (hheld : s.inHeld = false) (hgiven : (s.isl i).givenUp = false) (hreset : (s.isl i).inReset = false) :
    s.islandHang i cause = s.raise .islandHang (srcIsland i) 0 (leBytes 1 cause) :=
  if_neg (by simp [hheld, hgiven, hreset])

theorem islandHang_ignored (h : (s.isl i).givenUp = true ∨ (s.isl i).inReset = true) : s.islandHang i cause = s :=
  if_pos (h.elim .inl fun h => .inr (.inl h))

theorem islandStart_ignored (h : (s.isl i).inReset = false ∨ (s.isl i).givenUp = true
    ∨ s.uptime < (s.isl i).since + 1000000) : s.islandStart i = s :=
  if_pos (by simpa using h)

theorem islandStart_due (hreset : (s.isl i).inReset = true) (hgiven : (s.isl i).givenUp = false)
    (hat : (s.isl i).since + 1000000 ≤ s.uptime) {t : State}
    (ht : (s.setIsl i { s.isl i with inReset := false }).queuesStart (islandQueues i) = t) :
    s.islandStart i = if i = 20 then t.policyEval.pdRestart else t := by
  subst ht
  exact if_neg (by simp [hreset, hgiven, hat])

end
end

/-! ### The rows -/

section
variable (s : State)

theorem exec_faultCollect : exec .faultCollect s = s.run State.collectWake := rfl
theorem exec_faultForceKey (key : BitVec 8) : exec (.faultForceKey key) s
    = s.runLive fun s => s.regWrite 2 (faultBase + 0x100) (key.setWidth 32) := rfl
theorem exec_faultForce (w : Word) : exec (.faultForce w) s = s.runLive fun s => s.regWrite 2 (faultBase + 0x104) w := rfl
theorem exec_islandWatchdog (i cause : Fin 3) :
    exec (.islandWatchdog i cause) s = s.runLive fun s => s.islandHang (19 + i.val) cause.val := rfl
theorem exec_islandRestart (i : Fin 3) : exec (.islandRestart i) s = s.runLive fun s => s.islandStart (19 + i.val) := rfl

end

/-- Settles O49: each row as the first waiting fault, the key and the island's reset decide. -/
theorem faultRows : Obligations.FaultRows := by
  intro s hl
  have hrun (g : State → State) : s.runLive g = .next (s.after (g s)) := run_live g hl
  have hcollect : exec .faultCollect s = .next (s.after s.collectWake) := run_up State.collectWake hl.1
  refine ⟨?own, ?forced, ?idle, ?key, fun w => ?force, ?hang, ?noHang, ?noStart, ?start⟩
  case own =>
    intro r h hf
    rw [hcollect, collectWake_own h rfl hf]
  case forced =>
    intro r h hf
    rw [hcollect, collectWake_forced h rfl hf]
  case idle =>
    intro h
    rw [hcollect, collectWake_idle h]
  case key =>
    intro key
    rw [exec_faultForceKey, hrun, regWrite_faultForceKey, keyOpens_iff]
  case force =>
    rw [exec_faultForce, hrun, regWrite_faultForce]
    exact next_after s (faultForce_eq w rfl)
  case hang =>
    intro i cause hgiven hreset
    rw [exec_islandWatchdog, hrun, islandHang_raises hl.2 hgiven hreset]
  case noHang =>
    intro i cause h
    rw [exec_islandWatchdog, hrun, islandHang_ignored h]
  case noStart =>
    intro i h
    rw [exec_islandRestart, hrun, islandStart_ignored h]
  case start =>
    intro i hreset hgiven hat
    have hpolicy : 19 + i.val = 20 ↔ i.val = 1 := by omega
    rw [exec_islandRestart, hrun, islandStart_due hreset hgiven hat rfl]
    simp only [hpolicy]

end Sys2Proof.Machine

/-! The rows of updates, calibration and the test access port. -/

namespace Sys2Proof.Machine

section
variable {s : State}

/-! ### The reserve write (R524) -/

theorem reserveDone_idle (h : s.upd.writing = none) : s.reserveDone = s := by simp only [State.reserveDone, h]

theorem reserveDone_written {bs : List Byte} (h : s.upd.writing = some bs) {t : State}
    (ht : (s.set updBase UPD_STAT_IMG_WRITE 0).withUpd (fun u => { u with writing := none, reserve := bs }) = t) :
    s.reserveDone = (if t.get updBase UPD_STAT_STATE = 2 then t.updState 3 else t).evt updBase UPD_EVT 0 := by
  subst ht
  simp only [State.reserveDone, h]

/-! ### The activation instant (R526, R527) -/

theorem actWatch_idle (h : s.actPending = false) : s.actWatch = s := if_pos (by simp [h])

/-- The watch of the instant changes nothing but whether it is late. -/
theorem actWatch_late (s : State) : ∃ b, s.actWatch = s.withUpd fun u => { u with late := b } := by
  have hsame : s = s.withUpd fun u => { u with late := s.upd.late } := rfl
  unfold State.actWatch
  dsimp only
  split
  · exact ⟨_, hsame⟩
  · split
    · split
      · exact ⟨false, rfl⟩
      · exact ⟨_, hsame⟩
    · split
      · exact ⟨true, rfl⟩
      · exact ⟨_, hsame⟩

theorem actWatch_actPending (s : State) : s.actWatch.actPending = s.actPending := by
  obtain ⟨b, h⟩ := actWatch_late s
  rw [h]
  rfl

theorem actWatch_inHeld (s : State) : s.actWatch.inHeld = s.inHeld := by
  obtain ⟨b, h⟩ := actWatch_late s
  rw [h]
  rfl

theorem activate_idle (h : s.actPending = false) : s.activate = s := if_pos (.inl (by simp [h]))

theorem activate_early (h : s.timeValid = false ∨ s.crucNow < s.actAt) : s.activate = s :=
  if_pos (.inr (h.imp (by simp [·]) .inl))

section
variable (hpend : s.actPending = true) (hheld : s.inHeld = false) (hvalid : s.timeValid = true) (hat : s.actAt ≤ s.crucNow)
  {img : Bool} (himg : s.flag updBase UPD_ACT_FLAGS_IMAGE = img)
  {t : State} (ht : (if s.upd.late = true then (s.raise .updActivateMissed srcHub 0
    (leBytes 4 (min (2 ^ 32 - 1) ((s.crucNow - s.actAt) / 1000)))).evt updBase UPD_EVT 3 else s) = t)
  {st : Nat} (hst : t.updRefusal (if img then some (imgSec t.upd.reserve) else none) = st)
include hpend hheld hvalid hat himg ht hst

theorem activate_refused (h : st ≠ 0) : s.activate = ((t.countRefusal st).evt updBase UPD_EVT 2).actEnd := by
  subst himg ht hst
  exact (if_neg (by simp [hpend, hheld, hvalid, hat])).trans (if_pos h)

theorem activate_goes {bun : Bool} (hbun : s.flag updBase UPD_ACT_FLAGS_BUNDLE = bun) (h : st = 0) {v x y : State} (hv : t.bump updBase UPD_ACTIVATIONS = v)
    (hx : v.actEnd.withUpd (fun u =>
      { u with acting := true, late := v.upd.late, slot := if bun then 1 - u.slot else u.slot,
               copying := if img then some 0 else u.copying }) = x)
    (hy : (if bun = true then x.set updBase UPD_STAT_BUNDLE_STAGED 0 else x) = y) :
    s.activate = { y with cmd := { y.cmd with warmResetAt := some (y.uptime + 100000) } } := by
  subst himg hbun ht hst hv hx hy
  exact (if_neg (by simp [hpend, hheld, hvalid, hat])).trans (if_neg (not_not.mpr h))

end

/-! ### The copy over the running image (R528) -/

theorem copyBlock_idle (h : s.upd.copying = none ∨ s.copyGoes = false) : s.copyBlock = s := by
  unfold State.copyBlock
  split
  · rfl
  · next n hcopy => exact if_pos (by simpa [hcopy] using h)

section
variable {n : Nat} (hcopy : s.upd.copying = some n) (hgoes : s.copyGoes = true)
include hcopy hgoes

theorem copyBlock_more (h : n + 1 < copyBlocks s.upd.reserve) :
    s.copyBlock = (s.set updBase UPD_COPY_DONE (n + 1)).withUpd fun u =>
      { u with running := s.upd.reserve.take (65536 * (n + 1)) ++ s.upd.running.drop (65536 * (n + 1)),
               copying := some (n + 1) } := by
  simp only [State.copyBlock, hcopy, hgoes, if_pos h, Bool.not_true, Bool.false_eq_true, if_false]

theorem copyBlock_last (h : copyBlocks s.upd.reserve ≤ n + 1) {t₁ t₂ t₃ : State}
    (h₁ : (s.set updBase UPD_COPY_DONE (n + 1)).withUpd
      (fun u => { u with running := s.upd.reserve, copying := some (n + 1) }) = t₁)
    (h₂ : t₁.withUpd (fun u => { u with copying := none, rollback := max u.rollback (imgSec s.upd.reserve) }) = t₂)
    (h₃ : (if t₂.actPending then t₂.withUpd fun u => { u with prior := 0 } else t₂.updState 0) = t₃) :
    s.copyBlock = (t₃.set updBase UPD_STAT_IMG_WRITE 0).evt updBase UPD_EVT 4 := by
  subst h₁ h₂ h₃
  simp only [State.copyBlock, hcopy, hgoes, if_neg (Nat.not_lt.mpr h), Bool.not_true, Bool.false_eq_true, if_false]

end

/-! ### The MTP write (R534) -/

theorem calibDone_idle (h : ∀ m end_, s.upd.calWrite = some (m, end_) → s.uptime < end_) : s.calibDone = s := by
  unfold State.calibDone
  split
  · rfl
  · next m end_ hwrite => exact if_pos (h m end_ hwrite)

theorem calibDone_due {m : Tbl Byte} {end_ : Nat} (hwrite : s.upd.calWrite = some (m, end_)) (hat : end_ ≤ s.uptime) {t : State}
    (ht : ((s.withUpd fun u => { u with array := m, calib := m, calWrite := none }).set calibBase CALIB_STAT_DEFAULT 0).set 0
      SYS_BOOT_STAT_CALIB_DEFAULT 0 = t) :
    s.calibDone = t.wake 0x8F00 0 0 0
      (leBytes 4 (leNat ((List.range 4).map fun i => Tbl.get (fun _ => 0#8) m (8 + i)))) := by
  subst ht
  simp only [State.calibDone, hwrite]
  exact if_neg (Nat.not_lt.mpr hat)

/-! ### The test access port (R561, R562) -/

/-- An instruction that would have the pads has them while PWRON_N is low. -/
theorem tapIr_pads {ir : Nat} (h : ir = 0 ∨ ir = 3 ∨ ir = 4) : s.tapIr ir
    = { s with tap := { s.tap with ir := ir, force := if s.sys.pwron then none else some ir } } := by
  have hpads : (ir == 0 || ir == 3 || ir == 4) = true := by
    rcases h with rfl | rfl | rfl <;> rfl
  cases hp : s.sys.pwron <;> simp [State.tapIr, hpads, hp]

end

/-! ### The rows -/

section
variable (s : State)

theorem exec_updReserveWriteDone : exec .updReserveWriteDone s = s.runLive State.reserveDone := rfl
theorem exec_updActivation : exec .updActivation s = s.runLive fun s => s.actWatch.activate := rfl
theorem exec_copyBlock : exec .copyBlock s = s.runLive State.copyBlock := rfl
theorem exec_calibMtpWriteDone : exec .calibMtpWriteDone s = s.runLive State.calibDone := rfl
theorem exec_tapBypass (b : BitVec 1) : exec (.tapBypass b) s = .next (s.after (s.tapBypass (b.getLsbD 0))) := rfl
theorem exec_tapIdcode : exec .tapIdcode s = .next (s.after ((s.tapIr 1).emit (.tdo s.tapId))) := rfl
theorem exec_tapSamplePreload (v : List Bool) : exec (.tapSamplePreload v) s = .next (s.after (s.tapSample v)) := rfl
theorem exec_tapExtest : exec .tapExtest s = .next (s.after (s.tapIr 0)) := rfl
theorem exec_tapClamp : exec .tapClamp s = .next (s.after (s.tapIr 3)) := rfl
theorem exec_tapHighz : exec .tapHighz s = .next (s.after (s.tapIr 4)) := rfl

end

/-- Settles O51: each row as the write, the activation or the copy in progress decides. -/
theorem updateRows : Obligations.UpdateRows := by
  intro s
  have hrun (hl : s.Live) (g : State → State) : s.runLive g = .next (s.after (g s)) := run_live g hl
  refine ⟨?written, ?noWrite, ?noAct, fun hl hpend => ⟨?early, fun hvalid hat => ⟨?refused, ?goes⟩⟩, ?noCopy, ?noCalib, ?more,
    ?last, ?calib, ?bypass, exec_tapIdcode s, ?sample, ?extest, ?clamp, ?highz⟩
  case written =>
    intro bs hl h
    rw [exec_updReserveWriteDone, hrun hl, reserveDone_written h rfl]
  case noWrite =>
    intro hl h
    rw [exec_updReserveWriteDone, hrun hl, reserveDone_idle h]
  case noAct =>
    intro hl h
    rw [exec_updActivation, hrun hl, actWatch_idle h, activate_idle h]
  case early =>
    intro h
    rw [exec_updActivation, hrun hl, activate_early h]
  case refused =>
    intro h
    rw [exec_updActivation, hrun hl]
    exact next_after s (activate_refused ((actWatch_actPending s).trans hpend) ((actWatch_inHeld s).trans hl.2) hvalid hat
      rfl rfl rfl h)
  case goes =>
    intro h
    rw [exec_updActivation, hrun hl]
    exact next_after s (activate_goes ((actWatch_actPending s).trans hpend) ((actWatch_inHeld s).trans hl.2) hvalid hat
      rfl rfl rfl rfl h rfl rfl rfl)
  case noCopy =>
    intro hl h
    rw [exec_copyBlock, hrun hl, copyBlock_idle h]
  case noCalib =>
    intro hl h
    rw [exec_calibMtpWriteDone, hrun hl, calibDone_idle h]
  case more =>
    intro n hl hcopy hgoes h
    rw [exec_copyBlock, hrun hl, copyBlock_more hcopy hgoes h]
  case last =>
    intro n hl hcopy hgoes h
    rw [exec_copyBlock, hrun hl, copyBlock_last hcopy hgoes h rfl rfl rfl]
  case calib =>
    intro m end_ hl hwrite hat
    rw [exec_calibMtpWriteDone, hrun hl, calibDone_due hwrite hat rfl]
  case bypass => exact exec_tapBypass s
  case sample => exact exec_tapSamplePreload s
  case extest => rw [exec_tapExtest, tapIr_pads (.inl rfl)]
  case clamp => rw [exec_tapClamp, tapIr_pads (.inr (.inl rfl))]
  case highz => rw [exec_tapHighz, tapIr_pads (.inr (.inr rfl))]

end Sys2Proof.Machine

/-! The commands of group 0x0F: staging, verification, activation, calibration and the owner record. -/

namespace Sys2Proof.Machine

section
variable {s : State} {k : CmdKey} {e : CmdEntry} {n : Nat}

/-! ### Staging (R522, R529) -/

section
variable {bs : List Byte} (hn : 16 ≤ n)
include hn

theorem completes_updStage (hdata : s.stageData e 1 (8 * 2 ^ 20) = .inr bs) {t : State}
    (ht : s.stageBytes 0 (e.arg 4 4) bs (bitAt (e.arg 1 1) 0) = t) :
    s.Completes k e (.updStage k) 0x0F00 n 0 (leBytes 4 t.upd.blocks.length) t := by
  subst ht
  exact completes_of_done rfl (decide_eq_true hn) (by simp only [hdata])

variable (hdata : s.stageData e 3 bundleSlot = .inr bs) {t : State}
  (ht : s.stageBytes 1 (e.arg 4 4) bs (bitAt (e.arg 1 1) 0) = t)
include hdata ht

theorem completes_bundleStage_part (hend : bitAt (e.arg 1 1) 1 = false) :
    s.Completes k e (.bundleStage k) 0x0F04 n 0 (leBytes 4 t.upd.bblocks.length) t := by
  subst ht
  exact completes_of_done rfl (decide_eq_true hn) (by simp only [hdata]; exact if_pos (by simp [hend]))

section
variable (hend : bitAt (e.arg 1 1) 1 = true)
include hend

theorem completes_bundleStage_end (hst : t.bundleStatus = 0) : s.Completes k e (.bundleStage k) 0x0F04 n 0
    (leBytes 4 t.upd.bblocks.length) (t.set updBase UPD_STAT_BUNDLE_STAGED 1) := by
  subst ht
  exact completes_of_done rfl (decide_eq_true hn)
    (by simp only [hdata]; exact (if_neg (by simp [hend])).trans (if_neg (not_not.mpr hst)))

theorem bundleStage_refused (hst : t.bundleStatus ≠ 0) :
    s.Completes k e (.bundleStage k) 0x0F04 n t.bundleStatus [] (s.countRefusal t.bundleStatus) := by
  subst ht
  exact completes_of_done rfl (decide_eq_true hn) (by simp only [hdata]; exact (if_neg (by simp [hend])).trans (if_pos hst))

end
end

/-! ### Verification (R524) -/

theorem updVerify_busy (h : s.updBusy = true) : s.Completes k e (.updVerify k) 0x0F01 0 0x0F06 [] s :=
  completes_of_done rfl rfl (if_pos h)

section
variable (h : s.updBusy = false)
include h

theorem updVerify_refused (hst : s.verifyStatus ≠ 0) : s.Completes k e (.updVerify k) 0x0F01 0 s.verifyStatus []
    ((s.countRefusal s.verifyStatus).bump updBase UPD_VERIFY_FAILS) :=
  completes_of_done rfl rfl ((if_neg (by simp [h])).trans (if_pos hst))

theorem completes_updVerify (hst : s.verifyStatus = 0) {bs : List Byte} (hbs : s.stagedImage = bs) :
    s.Completes k e (.updVerify k) 0x0F01 0 0 (leBytes 4 (imgVersion bs) ++ leBytes 1 (imgSec bs) ++ leBytes 3 0)
      (((s.updState 2).set updBase UPD_STAT_IMG_WRITE 1).withUpd fun u => { u with writing := some bs, reserve := [] }) := by
  subst hbs
  exact completes_of_done rfl rfl ((if_neg (by simp [h])).trans (if_neg (not_not.mpr hst)))

end

/-! ### Activation (R526, R527) -/

section
variable (h0 : e.arg 0 1 ≤ 3) (h1 : e.arg 1 3 = 0) (h14 : e.arg 14 2 = 0)
include h0 h1 h14

section
variable (hstamp : e.stampAt 4 = some 0)
include hstamp

theorem completes_updActivateAt_cancel (hpend : s.actPending = true) (hdue : s.actDue = false) :
    s.Completes k e (.updActivateAt k) 0x0F02 16 0 (leBytes 12 0) s.actEnd :=
  completes_of_done rfl rfl ((if_neg (by omega)).trans (by
    simp only [hstamp, if_true]
    exact if_pos (by simp [hpend, hdue])))

theorem updActivateAt_nothing (h : s.actPending = false ∨ s.actDue = true) :
    s.Completes k e (.updActivateAt k) 0x0F02 16 0x0403 [] s :=
  completes_of_done rfl rfl ((if_neg (by omega)).trans (by
    simp only [hstamp, if_true]
    exact if_neg (by rcases h with h | h <;> simp [h])))

end

theorem completes_updActivateAt {at_ : Nat} (hfl : 1 ≤ e.arg 0 1) (hstamp : e.stampAt 4 = some at_) (hat0 : at_ ≠ 0)
    {img bun : Bool} (hi : bitAt (e.arg 0 1) 0 = img) (hb : bitAt (e.arg 0 1) 1 = bun) {t₁ t₂ t₃ : State}
    (h₁ : (if bun then s.writeInactive (s.bundleFrom s.bundleAt) else s) = t₁)
    (h₂ : (if s.actPending then t₁ else t₁.withUpd fun u => { u with prior := s.get updBase UPD_STAT_STATE }) = t₂)
    (h₃ : ((t₂.setActAt at_).set updBase UPD_ACT_FLAGS_IMAGE (b2n img)).set updBase UPD_ACT_FLAGS_BUNDLE (b2n bun) = t₃)
    (himg : img = true → s.imgVerified = true) (hbun : bun = true → s.flag updBase UPD_STAT_BUNDLE_STAGED = true)
    (hst : s.updRefusal (if img then some (imgSec s.upd.reserve) else none) = 0) (hvalid : s.timeValid = true)
    (hat : s.crucNow + 100000000 ≤ at_) :
    s.Completes k e (.updActivateAt k) 0x0F02 16 0 (stampBytes at_ ++ leBytes 2 0)
      ((t₃.updState 4).withUpd fun u => { u with late := false }) := by
  subst hi hb h₁ h₂ h₃
  have hready : ¬ ((bitAt (e.arg 0 1) 0 = true ∧ (!s.imgVerified) = true)
      ∨ (bitAt (e.arg 0 1) 1 = true ∧ (!s.flag updBase UPD_STAT_BUNDLE_STAGED) = true)) := by
    rintro (⟨hi, hv⟩ | ⟨hb, hv⟩)
    · simp [himg hi] at hv
    · simp [hbun hb] at hv
  exact completes_of_done rfl rfl ((if_neg (by omega)).trans (by
    simp only [hstamp]
    exact (if_neg hat0).trans ((if_neg (by omega)).trans ((if_neg hready).trans
      ((if_neg (not_not.mpr hst)).trans ((if_neg (by simp [hvalid])).trans (if_neg (Nat.not_lt.mpr hat))))))))

end

theorem completes_updStatus : s.Completes k e (.updStatus k) 0x0F03 0 0
    (s.shown (wordOffs updBase 16 ++ wordOffs (updBase + 0x80) 5)) s :=
  completes_of_done rfl rfl rfl

/-! ### Calibration (R533, R534) -/

theorem completes_calibRead (hlo : 1 ≤ e.arg 2 2) (hhi : e.arg 2 2 ≤ 4080) (hend : e.arg 0 2 + e.arg 2 2 ≤ 4096) :
    s.Completes k e (.calibRead k) 0x0F05 4 0 (((calBytes s.upd.calib).drop (e.arg 0 2)).take (e.arg 2 2)) s :=
  completes_of_done rfl rfl (if_neg (by omega))

theorem waits_calibWrite (hps : e.ps.length = n) (hn : n = 8 + e.arg 2 2) (hoff : 16 ≤ e.arg 0 2)
    (hend : e.arg 0 2 + e.arg 2 2 ≤ 4096) (h4 : e.arg 4 4 = 0) (harm : ∀ i < 3, s.sfArmed i = false)
    (hwrites : leAt (calBytes s.upd.array) 8 4 < 1000) :
    s.Waits k e (.calibWrite k) 0x8F00 n (.unit 0 0)
      (s.withUpd fun u => { u with calWrite := some (s.calibMade (e.arg 0 2) (e.ps.drop 8), s.uptime + 50000000) }) := by
  have hidle : ¬ [0, 1, 2].any s.sfArmed = true := by
    simp [harm 0 (by decide), harm 1 (by decide), harm 2 (by decide)]
  exact waits_of_wait rfl (decide_eq_true (by omega)) ((if_neg (by omega)).trans ((if_neg (by omega)).trans
    ((if_neg hidle).trans (if_neg (Nat.not_le.mpr hwrites)))))

/-! ### The owner record (R532) -/

section
variable {which : Nat} {key : List Byte} (hwhich : e.arg 1 1 = which) (hkey : e.ps.drop 4 = key) (hw : which ≤ 3)
  (h2 : e.arg 2 2 = 0)
include hwhich hkey hw h2

theorem completes_ownerLock_key (hop : e.arg 0 1 = 1) (hnone : s.upd.ownerKey = none) {t : State}
    (ht : s.withUpd (fun u => { u with ownerKey := some key }) = t) :
    s.Completes k e (.ownerLock k) 0x8F01 68 0 t.ownerShown t := by
  subst hkey ht
  exact completes_of_done rfl rfl ((if_neg (by omega)).trans ((if_pos hop).trans (if_neg (by simp [hnone]))))

omit hkey in
theorem ownerLock_programmed (hop : e.arg 0 1 = 1) (hsome : s.upd.ownerKey ≠ none) :
    s.Completes k e (.ownerLock k) 0x8F01 68 0x0F05 [] s :=
  completes_of_done rfl rfl ((if_neg (by omega)).trans
    ((if_pos hop).trans (if_pos (Option.isSome_iff_ne_none.mpr hsome))))

omit hkey in
theorem completes_ownerLock_set (hop : e.arg 0 1 = 2) {t : State} (ht : s.ownerBits which true = t) :
    s.Completes k e (.ownerLock k) 0x8F01 68 0 t.ownerShown t := by
  subst hwhich ht
  exact completes_of_done rfl rfl ((if_neg (by omega)).trans ((if_neg (by omega)).trans (if_pos hop)))

theorem completes_ownerLock_clear (hop : e.arg 0 1 = 3) (hsig : s.ownerSigned key = true) {t : State}
    (ht : (s.ownerBits which false).newNonce = t) : s.Completes k e (.ownerLock k) 0x8F01 68 0 t.ownerShown t := by
  subst hwhich hkey ht
  exact completes_of_done rfl rfl ((if_neg (by omega)).trans ((if_neg (by omega)).trans ((if_neg (by omega)).trans
    (if_neg (by simp [hsig])))))

theorem ownerLock_unsigned (hop : e.arg 0 1 = 3) (hsig : s.ownerSigned key = false) :
    s.Completes k e (.ownerLock k) 0x8F01 68 0x0F01 [] s := by
  subst hkey
  exact completes_of_done rfl rfl ((if_neg (by omega)).trans ((if_neg (by omega)).trans ((if_neg (by omega)).trans
    (if_pos (by simp [hsig])))))

end
end

/-- Settles O60: each clause is one way a command of the group answers. -/
theorem updateCommands : Obligations.UpdateCommands := by
  intro s k e n
  refine ⟨fun bs hn hdata => completes_updStage hn hdata rfl, ?bundle, updVerify_busy, updVerify_refused,
    fun hbusy hst => completes_updVerify hbusy hst rfl, ?cancel, ?activate, completes_updStatus, completes_calibRead,
    waits_calibWrite, ?owner⟩
  case bundle =>
    exact fun bs hn hdata => ⟨completes_bundleStage_part hn hdata rfl, completes_bundleStage_end hn hdata rfl,
      bundleStage_refused hn hdata rfl⟩
  case cancel =>
    exact fun h0 h1 h14 hstamp => ⟨completes_updActivateAt_cancel h0 h1 h14 hstamp, updActivateAt_nothing h0 h1 h14 hstamp⟩
  case activate =>
    exact fun at_ hfl h0 h1 h14 hstamp hat0 => completes_updActivateAt h0 h1 h14 hfl hstamp hat0 rfl rfl rfl rfl rfl
  case owner =>
    intro which key t1 t2 t3 hw h2
    exact ⟨fun hop h => completes_ownerLock_key rfl rfl hw h2 hop h rfl, ownerLock_programmed rfl hw h2,
      fun hop => completes_ownerLock_set rfl hw h2 hop rfl,
      fun hop h => completes_ownerLock_clear rfl rfl hw h2 hop h rfl, ownerLock_unsigned rfl rfl hw h2⟩

end Sys2Proof.Machine
